-- ==== Sys2Proof/Word.lean ====
section
/-!
DEFINITION. The byte, the 32-bit register word and the sparse table, the types every other file is written in.
-/
namespace Sys2Proof

/-- A byte of a descriptor, a record or a message. -/
abbrev Byte := BitVec 8

/-- A 32-bit register of the BAR0 window (R37). -/
abbrev Word := BitVec 32

/-- A sparse table: entries keyed by a number, kept in strictly rising key order. An absent key
stands for the table's empty entry. -/
abbrev Tab (α : Type) := List (Nat × α)

end Sys2Proof
end

