-- ==== Sys2Proof/Machine/Types.lean ====
section
/-!
DEFINITION. The types of what reaches the module and what it sends: command descriptors, messages, frames and telegrams.
-/
namespace Sys2Proof.Machine

/-- A command descriptor as it stands in an SQ slot (R55): its 64 bytes, and the data bytes that travel with it
(from the data buffer over PCIe, inside the message over Ethernet). -/
structure Desc where
  bytes : List Byte
  data  : List Byte
  deriving DecidableEq, Repr

/-- A cipher suite of TLS 1.3; the first two are supported (R39, R280). -/
inductive TlsSuite where
  | aes128GcmSha256
  | aes256GcmSha384
  | chacha20Poly1305Sha256
  | aes128CcmSha256
  | aes128Ccm8Sha256
  | other
  deriving DecidableEq, Repr

/-- A key exchange group of TLS 1.3; host ports support secp256r1, secp384r1 and x448 (R39), vehicles those of R280. -/
inductive TlsGroup where
  | secp256r1
  | secp384r1
  | secp521r1
  | x25519
  | x448
  | other
  deriving DecidableEq, Repr

/-- A signature algorithm of TLS 1.3; host ports support ECDSA P-256 with SHA-256 and P-384 with SHA-384 (R39), vehicles those of R280. -/
inductive TlsSig where
  | ecdsaP256Sha256
  | ecdsaP384Sha384
  | ecdsaP521Sha512
  | ed25519
  | ed448
  | rsa
  | other
  deriving DecidableEq, Repr

/-- What a peer offers in a TLS handshake on a host port (R39): each list in the peer's order of preference. -/
structure TlsOffer where
  /-- TLS 1.3 is among the versions offered. -/
  tls13 : Bool
  suites : List TlsSuite
  groups : List TlsGroup
  sigs : List TlsSig
  /-- The peer presents its certificate on this connection. -/
  certificate : Bool
  /-- It offers a pre-shared key or a session ticket. -/
  psk : Bool
  /-- It sends 0-RTT data. -/
  earlyData : Bool
  /-- The TCP port that it connects to. -/
  tcpPort : Nat
  deriving DecidableEq, Repr

/-- The data set of an Announce that the best master clock algorithm compares (R45, IEEE 1588-2019). -/
structure PtpClock where
  priority1 : Nat
  clockClass : Nat
  accuracy : Nat
  variance : Nat
  priority2 : Nat
  /-- Identity of the grandmaster. -/
  grandmaster : Nat
  stepsRemoved : Nat
  /-- Clock identity and port number of the sender. -/
  clock : Nat
  clockPort : Nat
  deriving DecidableEq, Repr

/-- A PTP message on a host Ethernet port (R45), as the hardware parses it: domain, transport (0 UDP/IPv4, 1 IEEE 802.3), the sender's clock identity and
port number, and the sequence number; times in ns, corrections included in them. -/
inductive PtpMsg where
  | announce (data : PtpClock) (domain transport : Nat)
  /-- Sync: with `twoStep` its origin time comes in the Follow_Up. -/
  | sync (clock clockPort seq : Nat) (twoStep : Bool) (originNs : Int) (domain transport : Nat)
  | followUp (clock clockPort seq : Nat) (originNs : Int) (domain transport : Nat)
  /-- Delay_Resp to the module's Delay_Req of that sequence number, with the time at which the master received it. -/
  | delayResp (clock clockPort seq : Nat) (receiveNs : Int) (domain transport : Nat)
  deriving DecidableEq, Repr

/-- What the active module of a pair sends with a store that its standby carries out too (R92, R98): the values that are not PAIR_LOCAL, IMG_FLAGS, SERIAL
and the signer slot of an import. -/
structure MirrorStore where
  records : Tab Int
  flags : Nat
  serial : Nat
  signer : Nat
  deriving DecidableEq, Repr

/-- A command that the partner forwards (R92, R373): its descriptor, and what its store brings. -/
structure PartnerCmd where
  desc : Desc
  store : Option MirrorStore
  deriving DecidableEq, Repr

/-- A response of the session engine to a vehicle (R278, R282, R285, R286, R289, R290). -/
structure Reply where
  /-- Positive, or FAILED. -/
  ok : Bool
  /-- Processing is ongoing. -/
  ongoing : Bool
  /-- An emergency shutdown is announced. -/
  shutdown : Bool
  /-- Present current limit in A and power limit in kW. -/
  limitA : Nat
  limitKw : Nat
  /-- Measured output voltage in 0.1 V. -/
  volt : Nat
  /-- The limit in kW of the one entry of an ISO 15118-2 schedule list (R279). -/
  schedule : Option Nat
  deriving DecidableEq, Repr

/-- What the session engine sends to a vehicle in an Ethernet frame (R278); TCP sequence and acknowledgement numbers stand first. -/
inductive TunnelMsg where
  /-- The answer to SECC discovery. -/
  | discovery
  /-- A TCP connection is accepted. -/
  | synAck (seq ack : Nat)
  /-- A segment that brings nothing new is acknowledged again. -/
  | ack (seq ack : Nat)
  /-- TLS: suite, group, signature and the slot whose SECC chain is presented; whether a client certificate is requested. No ticket is issued, and
  no pre-shared key or 0-RTT data is taken up (R280). -/
  | tlsAccept (seq ack : Nat) (suite : TlsSuite) (group : TlsGroup) (sig : TlsSig) (slot : Nat) (request : Bool)
  /-- A response, with the number of its TLS record. -/
  | response (seq ack : Nat) (record : Option Nat) (r : Reply)
  deriving DecidableEq, Repr

/-- What the module sends to the outside. -/
inductive Emit where
  /-- A completion written to the CQ of queue pair q: the 16 bytes of R56 before RESULT, RESULT, and returned data (R56). -/
  | completion (q : Nat) (head result data : List Byte)
  /-- A REJECT message: entry, queue pair, and its completions of 32 bytes each in the layout of R56 (R42, R43). -/
  | reject (entry q : Nat) (completions : List (List Byte))
  /-- The answer to a TLS handshake of the host of an entry: the suite, group and signature chosen; no ticket is issued, and no pre-shared key or 0-RTT
  data is taken up (R39). -/
  | tlsAccept (entry : Nat) (suite : TlsSuite) (group : TlsGroup) (sig : TlsSig)
  /-- A Delay_Req on a port, with its sequence number (R45). -/
  | delayReq (port seq : Nat)
  /-- MSI-X message of CQ q (R37). -/
  | msix (q : Nat)
  /-- KEEPALIVE to the host of an entry (R44). -/
  | keepalive (entry : Nat)
  /-- TLS KeyUpdate to the host of an entry (R39). -/
  | keyUpdate (entry : Nat)
  /-- The TLS session of an entry is closed (R42). -/
  | closeSession (entry : Nat)
  /-- The 32 bytes of a cycle header on a ring cage, 0 to 3 for X1 to X4 (R136, R143). -/
  | cycleHeader (cage : Nat) (header : List Byte)
  /-- The 8 bytes of the window-1 marker on a ring cage (R136, R143). -/
  | marker (cage : Nat) (header : List Byte)
  /-- A downstream loop frame of a node, as its bytes (R144, R173), and the due channels for which no command is sent in this window (R198), whose words
  stand as zeros (DESIGN CHOICE, assumption 125). -/
  | loopFrame (node : Nat) (frame : List Byte) (silent : List Nat)
  /-- A CLAIM record in the report class, 8 bytes (R145, R152). -/
  | claim (node : Nat) (record : List Byte)
  /-- Node configuration in bulk traffic: the hold and ramp of R150, the budgets of R142, and the path delays by which the node aligns its sampling
  (R141, R155, R166). -/
  | nodeConfig (node holdUs rampMs loopBlk safeBlk metBlk : Nat) (delayWest delayEast : Option Nat)
  /-- The cap of a node output in kW with the ramps of the slots that name it, under an epoch (R114). -/
  | cap (node output kw : Nat) (ramps : List Nat) (epoch : Nat)
  /-- A discharge cap that carries B, and the share of the dispatch command: node, cap and command in kW (R101, R114, R170). -/
  | dischargeCap (node capKw commandKw epoch : Nat)
  /-- A share to be stored, or committed, by a node (R117). -/
  | shareStore (node share version : Nat)
  | shareCommit (version : Nat)
  /-- A command forwarded to the partner: the command's serial number, its descriptor, and what a store brings with it (R92, R98, R373). -/
  | partnerRequest (uid : Nat) (desc : Desc) (store : Option MirrorStore)
  /-- The answer to a forwarded command: its tag and status (R373). -/
  | partnerReply (tag status : Nat)
  /-- A stage's pre-start check, enable (TARGET_V, DVDT, ILIM) and PWM off (R230, R234, R249). -/
  | stageCheck (node stage : Nat)
  | stageEnable (node stage targetV dvdt ilim : Nat)
  | stageOff (node stage : Nat)
  /-- A safety telegram of Granite: connection and its bytes, SCRC included (R501). -/
  | safety (conn : Nat) (telegram : List Byte)
  /-- RELEASE to the partner: the last site cycle it acknowledged (R546). -/
  | release (cycle : Nat)
  /-- A tunnel message of KIND 1 to the dispenser node of an outlet, with its SEQ (R277). -/
  | tunnel (outlet seq : Nat) (m : TunnelMsg)
  /-- The dispenser node of an outlet is told to test the insulation (R284). -/
  | insulationTest (outlet : Nat)
  /-- A pulse of LEG0, LEG1 or PLS2-PLS7: output, whether it conducts during the pulse (POLARITY), start in 10 µs of ticks since Jasper's start, and
  width in 10 µs (R327, R328). -/
  | pulse (output : Nat) (conducts : Bool) (start width : Nat)
  /-- A display frame for an outlet's dispenser node, with its AES-CMAC truncated to 8 bytes (R363). -/
  | display (outlet : Nat) (frame mac : List Byte)
  /-- The ephemeral public key for a pair key, its signature by the identity key, and certificates 0 to 2 (R474). -/
  | pairOffer (ephemeral signature : List Byte) (certs : List (List Byte))
  /-- The slots that carry PAIR_SHARE, and the nodes whose enrolment records go with them, copied under the pair key to the partner's Obsidian (R474). -/
  | sharedSlots (slots nodes : List Nat)
  /-- The test pulses of a closed safe output: its high-side switch off for a time in µs and, half a period later, its low-side switch (R498). -/
  | testPulse (output widthUs : Nat)
  /-- A node's key, wrapped for it (R470, R473). -/
  | nodeKey (node : Nat) (wrapped : List Byte)
  /-- The effective scan classes and deadbands of a node's points (R402). -/
  | pointConfig (node : Nat) (points : List (Nat × Nat × Nat))
  /-- A beacon (R427): CYCLE, EPOCH, ISSUER, BFLAGS, LEASE_MS and NODES. -/
  | beacon (payload : List Byte)
  /-- A poll of a busbar node (R419, R425, R428, R430): robust or under its maps, the tone-map generation and the length in symbols that its header symbol
  names, and the loop words CMD and CSTATE of its due channels as bytes, in channel order, with the places of those for which no command is sent (R198),
  whose words stand as zeros (DESIGN CHOICE, assumption 125). -/
  | poll (node : Nat) (robust : Bool) (gen symbols : Nat) (words : List Byte) (silent : List Nat)
  /-- An exchange of the bulk period with a node (R426): the longest length in symbols of either direction. -/
  | bulk (node symbols : Nat)
  /-- The sounding frame to a node: 4 symbols (R425). -/
  | sounding (node : Nat)
  /-- The upstream map that the module has built, sent in robust mode with its acknowledgement of the node's map (R425). -/
  | toneMap (node gen rate : Nat) (codes : List Nat)
  /-- A CAN frame sent by a controller: its frame entry (R446, R448). -/
  | canFrame (controller : Nat) (frame : List Byte)
  /-- The acknowledgement that a controller in normal mode drives for a frame received without error (R447). -/
  | canAck (controller : Nat)
  /-- The error flag that a controller in normal mode sends, passive when it is error passive (R451). -/
  | canError (controller : Nat) (passive : Bool)
  /-- A STATUS message to the partner (R542): role, nodes held, anchor held, the states of rings A and B, supply warning, self-test passed and a trigger
  in force; and what R540, R555 and R563 take from it: epoch, H. -/
  | pairStatus (role held : Nat) (anchor : Bool) (ringA ringB : Nat) (pfw selfTest trigger : Bool) (epoch h : Nat) (healSeen : Bool)
  /-- An image sent to the partner: KIND, IFLAGS, SITE_CYCLE, EPOCH, SEGMENT and SEGMENTS (R548); its content is the state's lastSent. -/
  | pairImage (kind flags siteCycle epoch segment segments : Nat)
  /-- The acknowledgement of the partner's image of a site cycle (R542). -/
  | pairAck (siteCycle : Nat)
  /-- INPUTS of a window in lockstep mode (R559), with the digest of R560; its content is the state's lastInputs. -/
  | pairInputs (window digest : Nat)
  deriving DecidableEq, Repr

/-- An upstream loop frame as it reaches the module (R144, R173). -/
structure LoopFrame where
  /-- The blocks of the frame: header and payload (R144). -/
  bytes : List Byte
  /-- The frame arrived by the deadline of R146. -/
  onTime : Bool
  deriving DecidableEq, Repr

/-- A member that answers a scan (R160). -/
structure ScanMember where
  /-- Device identity, 16 bytes. -/
  identity : List Byte
  /-- Ring 0 A or 1 B. -/
  ring : Nat
  /-- Distance in spans by the west and by the east side, none where it does not answer by that side (R136, R137). -/
  west : Option Nat
  east : Option Nat
  /-- Path delays by those sides in ns (R141). -/
  delayWest : Option Nat
  delayEast : Option Nat
  /-- The largest distance after any single break. -/
  hopsWrap : Nat
  /-- Address of its parent, 0 on the main ring, and branch port. -/
  parent : Nat
  port : Nat
  /-- Epoch it reports, and whether its lease has lapsed or been released. -/
  epoch : Nat
  lapsed : Bool
  deriving DecidableEq, Repr

/-- What the module measures of a member as its first frames from a new side arrive (R138, R141). -/
structure PathMeasure where
  /-- Distance in spans. -/
  spans : Nat
  /-- Path delay in ns. -/
  delayNs : Nat
  deriving DecidableEq, Repr

/-- What may wake the hibernating gauge domain (R379). -/
inductive GaugeWake where
  /-- A shunt voltage in nV at an input. -/
  | shunt (input : Nat) (nanovolts : Int)
  /-- A dominant level on CAN3 that has lasted `ns`. -/
  | dominant (ns : Nat)
  /-- A request from the application complex. -/
  | request
  deriving DecidableEq, Repr

/-- Where a safety telegram arrives from (R508). -/
inductive SafetySource where
  /-- A cabinet or dispenser node on the ring or the busbar link. -/
  | node (addr : Nat)
  /-- A CAN controller and the identifier of the frame. -/
  | can (controller id : Nat)
  /-- ETH0 (1) or ETH1 (2), the sender's IPv4 address and the UDP port it was sent to. -/
  | eth (port ip udp : Nat)
  /-- The pair link. -/
  | pair
  deriving DecidableEq, Repr

/-- What a status block reports of one stage (R155, R250). -/
structure StageReport where
  /-- Stage index 0 to 8. -/
  stage : Nat
  /-- The gates of the stage are enabled. -/
  enabled : Bool
  /-- Measured voltage in V and stage current in A. -/
  volt : Nat
  amp : Int
  /-- The phases that are fenced, counted in record order. -/
  fenced : List Nat
  /-- A desaturation trip since the last block. -/
  desat : Bool
  /-- CHECK_SEQ and the failed items 0 to 4 of a check that has ended since the last block (R231). -/
  check : Option (Nat × Nat) := none
  deriving DecidableEq, Repr

/-- A node's status block (R155). -/
structure NodeStatus where
  /-- Node address. -/
  node : Nat
  /-- Its stages, in ascending order. -/
  stages : List StageReport
  /-- Its output power in kW, positive as discharge of a buffer cabinet (R170). -/
  outputKw : Int := 0
  deriving DecidableEq, Repr

/-- An IEEE 754 single-precision number m x 2^e with a mantissa of at most 24 bits (chapter 09). The numbers of the observer stay far from
the ends of the exponent's range. -/
structure Single where
  /-- Mantissa. -/
  m : Int := 0
  /-- Exponent. -/
  e : Int := 0
  deriving DecidableEq, Repr

/-- A connection event of a dispenser node (R277), and the result of its insulation test (R284). -/
inductive ConnEvent where
  | unplugged
  | plugged
  | ready
  | pilotError
  | lockOk
  | lockFail
  /-- The insulation test of CABLE_CHECK has ended. -/
  | insulation (pass : Bool)
  deriving DecidableEq, Repr

/-- What a vehicle offers in a TLS handshake (R280): each list in the vehicle's order of preference. -/
structure VehicleTls where
  /-- TLS 1.3 is among the versions offered. -/
  tls13 : Bool
  suites : List TlsSuite
  groups : List TlsGroup
  sigs : List TlsSig
  /-- It offers a pre-shared key or a session ticket. -/
  psk : Bool
  /-- It sends 0-RTT data. -/
  earlyData : Bool
  deriving DecidableEq, Repr

/-- A contract presented for Plug & Charge (R281): EMAID, the contract certificate chain and the time at which it expires, in ns of TAI, the
authorisation request, and the vehicle's signature over it. -/
structure Contract where
  emaid : List Byte
  chain : List Byte
  notAfter : Nat
  request : List Byte
  signature : List Byte
  deriving DecidableEq, Repr

/-- An energy service that a vehicle selects (R279). -/
inductive EnergyService where
  /-- DC charging of DIN SPEC 70121 and DC of ISO 15118-20. -/
  | dc
  | dcCore
  | dcExtended
  | mcs
  | ac
  | wpt
  | acdp
  /-- A bidirectional service. -/
  | bpt
  deriving DecidableEq, Repr

/-- Charge parameters of a vehicle, in 0.1 V, 0.1 A and kW (R285, R286). -/
structure ChargeParams where
  maxV : Nat
  maxA : Nat
  maxKw : Nat
  targetV : Option Nat
  deriving DecidableEq, Repr

/-- A current demand request, in 0.1 V, 0.1 A and % (R286). -/
structure Demand where
  targetV : Nat
  targetA : Nat
  presentV : Nat
  maxA : Nat
  soc : Option Nat
  deriving DecidableEq, Repr

/-- A message of a vehicle, decoded from EXI by the schema of the protocol (R278, R279). -/
inductive VehicleMsg where
  | tls (offer : VehicleTls)
  /-- A TLS alert, a record that fails authentication, or a bad certificate. -/
  | tlsFailure
  /-- Supported application protocols in the vehicle's order of priority: 1 DIN SPEC 70121, 2 ISO 15118-2, 3 ISO 15118-20. -/
  | protocols (entries : List Nat)
  /-- The energy service selected, and the control mode: dynamic, or scheduled. -/
  | service (s : EnergyService) (dynamic : Bool)
  /-- Certificate installation or update. -/
  | certificates
  /-- The authorisation request, with a contract for Plug & Charge. -/
  | authorise (contract : Option Contract)
  | parameters (p : ChargeParams)
  | precharge (targetV : Nat)
  /-- Start of power delivery. -/
  | start
  | demand (d : Demand)
  /-- The vehicle ends the session. -/
  | stop
  /-- The vehicle reports its contactors open. -/
  | contactorsOpen
  /-- A message that does not decode, has the wrong schema or is out of sequence. -/
  | bad
  deriving DecidableEq, Repr

/-- What an Ethernet frame of a vehicle carries for the module (R278). -/
inductive VehiclePacket where
  /-- Nothing for the session engine. -/
  | other
  /-- UDP for SECC discovery. -/
  | discovery
  /-- Opening of a TCP connection: the vehicle's port and initial sequence number. -/
  | syn (port seq : Nat)
  /-- A TCP segment: port, sequence number, bytes of payload, and the V2GTP or TLS message that it carries. -/
  | segment (port seq len : Nat) (msg : VehicleMsg)
  /-- The vehicle ends its TCP connection. -/
  | close (port : Nat)
  deriving DecidableEq, Repr

/-- A tunnelled Ethernet frame (R277): LENGTH, the source IPv6 address and what it carries. -/
structure VehicleFrame where
  length : Nat
  ip : Nat
  packet : VehiclePacket
  deriving DecidableEq, Repr

/-- A sample block of a sensor head (R309). -/
structure SampleBlock where
  /-- HEAD. -/
  head : Nat
  /-- BFLAGS: OVERRANGE and SENSOR_FAULT. -/
  overrange : Bool
  sensorFault : Bool
  /-- SEQ and CYCLE. -/
  seq : Nat
  cycle : Nat
  /-- EXP of each quantity; QCOUNT is their number. -/
  exps : List Int
  /-- HKIND. -/
  hkind : Nat
  /-- 32 samples of QCOUNT values. -/
  samples : List (List Int)
  /-- TAG, 16 bytes. -/
  tag : List Byte
  /-- The samples that belong to the legal tick in progress by the relation between ring cycles and the MET clock (R321); the rest belong
  to the tick after it. -/
  split : Nat
  deriving DecidableEq, Repr

/-- One sample of all local channels (R313, R314): 24-bit values of the 8 voltage channels, and of the 8 current channels at the active
step and one step lower. -/
structure J2Sample where
  volts : List Int
  active : List Int
  lower : List Int
  deriving DecidableEq, Repr

/-- A record of a point batch (R403): INDEX, SOURCE_BAD, OFFSET_NS and VALUE. -/
structure PointRecord where
  index : Nat
  bad : Bool
  offsetNs : Nat
  value : Nat
  deriving DecidableEq, Repr

/-- A record of a node's catalogue (R398). -/
structure CatRecord where
  index : Nat
  type : Nat
  unit : Nat
  scale : Int
  cls : Nat
  deadband : Nat
  deriving DecidableEq, Repr

/-- A busbar node's response (R428, R430): a LAPSED report with the node's epoch, its fixed-part sizes, the margins of the poll and of
the response in 0.01 dB where they went under a tone map, the loop words of its driven channels in ascending order, and whether bulk data wait between
the node and the module (R426). -/
structure PollAnswer where
  node : Nat
  lapsed : Bool
  epoch : Nat
  fixDn : Nat
  fixUp : Nat
  dnMargin : Option Int
  upMargin : Option Int
  words : List (Int × Int)
  bulk : Bool := false
  deriving DecidableEq, Repr

/-- An answer in the discovery window (R434): identity, fixed-part sizes, and whether the node's lease has lapsed, under which epoch. -/
structure PlcJoin where
  identity : List Byte
  fixDn : Nat
  fixUp : Nat
  lapsed : Bool
  epoch : Nat
  deriving DecidableEq, Repr

/-- What a refresh step gives (R425): whether its frames got through, and the SNR by carrier in 0.01 dB that the node and the module
measured during the sounding. -/
structure TmapStep where
  node : Nat
  ok : Bool
  snrDn : List Int
  snrUp : List Int
  deriving DecidableEq, Repr

/-- What the bus brings a CAN controller (R445, R450): a frame (ID, FFLAGS, DLC and data, and how long ago, in ns, the sample point of its start-of-frame bit
was, R449), an error, or a protocol exception. -/
inductive CanRx where
  | frame (id flags dlc : Nat) (data : List Byte) (sofNs : Nat)
  /-- An error, by how much the receive error count moves under ISO 11898-1. -/
  | error (by' : Nat)
  | exception
  deriving DecidableEq, Repr

/-- What the partner's Obsidian sends for a pair key (R474): its ephemeral X448 public key, the signature over it by its identity key, its certificates 0 to 2,
and whether it has accepted this module's. -/
structure PairOffer where
  ephemeral : List Byte
  signature : List Byte
  certs : List (List Byte)
  accepted : Bool
  deriving DecidableEq, Repr

/-- How the transmission of an entry ends (R448): sent, arbitration lost, or an error, by how much the transmit error count moves under
ISO 11898-1. -/
inductive CanTxEnd where
  | sent
  | lost
  | error (by' : Nat)
  deriving DecidableEq, Repr

/-- The end of a start-up phase, with what its work finds (R577). -/
inductive PhaseEnd where
  /-- Phase 1: the key-encryption key is lost. -/
  | obsidian (kekLost : Bool)
  /-- Phase 2: the check of Granite's configuration memory. -/
  | granite (configOk : Bool)
  /-- Phase 3: Granite has confirmed the collector's line within 2 ms. -/
  | collector (confirmed : Bool)
  /-- Phase 4. -/
  | loader
  /-- Phase 5: the firmware check value, and the RTC's time, none when it lost its supply. -/
  | jasper (check : Nat) (rtc : Option Nat)
  /-- Phase 6. -/
  | vexnil
  /-- Phase 7. -/
  | ring
  /-- Phase 8. -/
  | lease
  /-- Phase 9. -/
  | ready
  deriving DecidableEq, Repr


/-- What an output pin of class IO33 or OD33 shows (R593). -/
inductive PinLevel where
  | low
  | high
  /-- High impedance, or an open drain that does not sink. -/
  | off
  deriving DecidableEq, Repr

end Sys2Proof.Machine
end

