-- ==== Sys2Proof/Machine/Blocks.lean ====
section
/-!
DEFINITION. The state of each block of the module as plain data: one structure per block of the spec, and the structures
it is made of. Every field's docstring gives what it is; its width; the chapter and rule that name it; its value at reset.
A reset value marked (DC) is the model's choice where the spec states none (assumption 1).
-/
namespace Sys2Proof.Machine

/-- A host-written record, kept as the bytes of its layout. -/
abbrev Rec := List Byte

/-! ### Host mailboxes (chapter 02) -/

/-- One entry of the host table (R31, R66). -/
structure HostEntry where
  /-- Transport: 0 empty, 1 PCIe, 2 ETH0, 3 ETH1, 4 ETH2, 5 any Ethernet; 3 bits; 02 R66; reset 0 (entry 0: 1, R36). -/
  transport : Nat := 0
  /-- Class: 0 NORMAL, 1 HIGH; 1 bit; 02 R52; reset 0. -/
  cls : Nat := 0
  /-- Role mask; 16 bits; 02 R34; reset 0 (entry 0: OWNER and MAINT, R36). -/
  roles : BitVec 16 := 0
  /-- Queue pairs owned, bit n for pair n; 16 bits; 02 R66; reset 0 (entry 0: pairs 0 and 1, R36). -/
  queueMask : BitVec 16 := 0
  /-- Depth of each queue pair; 8 bits; 02 R48; reset 0 (entry 0: 32, R36). -/
  depth : Nat := 0
  /-- Reserved credits per queue pair; 7 bits; 02 R50; reset 0 (entry 0: 16, R36). -/
  reserve : Nat := 0
  /-- Cap of shared credits; 9 bits; 02 R50; reset 0 (entry 0: 64, R36). -/
  sharedCap : Nat := 0
  /-- Identity: SHA-256 of the host's public key, empty for PCIe; 32 bytes; 02 R40; reset empty. -/
  identity : List Byte := []
  deriving DecidableEq, Repr

/-- An event as `MBX_EVENT_WAIT` delivers it (R68). -/
structure Event where
  /-- Opcode area; 8 bits; 02 R68; no reset value (part of a queue). -/
  area : Nat
  /-- Event code; 16 bits; 02 R68; no reset value (part of a queue). -/
  code : Nat
  /-- Object; 32 bits; 02 R68; no reset value (part of a queue). -/
  object : Nat
  /-- System time in ns; 64 bits; 02 R68; no reset value (part of a queue). -/
  time : Nat
  deriving DecidableEq, Repr

/-- What the module keeps per host-table entry beside the entry itself. -/
structure HostLive where
  /-- The entry's host is connected; 1 bit; 02 R71; reset false. -/
  connected : Bool := false
  /-- Port of the open session (1 PCIe, 2-4 ETH0-ETH2); 3 bits; 02 R40; reset 0. -/
  port : Nat := 0
  /-- Time of the last message from the host, ns; 02 R44; reset 0. -/
  lastRx : Nat := 0
  /-- Time of the last message to the host, ns; 02 R44; reset 0. -/
  lastTx : Nat := 0
  /-- TLS records sent since the last key update; 25 bits; 02 R39; reset 0. -/
  records : Nat := 0
  /-- Time of the last key update, ns; 02 R39; reset 0. -/
  keyAt : Nat := 0
  /-- Event mask, bit n for area n; 32 bits; 02 R69; reset every area 0x01-0x13. -/
  eventMask : BitVec 32 := 0x000FFFFE
  /-- Queued events, oldest first, at most 64; 02 R69; reset empty. -/
  events : List Event := []
  /-- An event was dropped: the next completion carries EVT_LOST; 1 bit; 02 R69; reset false. -/
  evtLost : Bool := false
  /-- Cipher suite of the open session; 02 R39; reset none. -/
  suite : Option TlsSuite := none
  /-- The host is lost once one of these commands' completions is posted, with the queue pairs it had before each; 02 R67; reset empty. -/
  loseAfter : List (Nat × BitVec 16) := []
  deriving DecidableEq, Repr

/-- How far a fetched command has come (R59, R61). -/
inductive CmdPhase where
  /-- Accepted and not yet started. -/
  | waiting
  /-- Started, its completion still open. -/
  | running
  /-- Completed, its completion not yet posted. -/
  | done
  deriving DecidableEq, Repr

/-- A command in flight: fetched, holding one credit and one CQ slot (R49). -/
structure InFlight where
  /-- Serial number of the fetch, the model's own key; 02 R49; no reset value. -/
  uid : Nat
  /-- Queue pair; 4 bits; 02 R56; no reset value. -/
  q : Nat
  /-- Host-table entry of the submitter; 4 bits; 02 R31; no reset value. -/
  entry : Nat
  /-- The descriptor; 64 bytes and data; 02 R55; no reset value. -/
  desc : Desc
  /-- Progress; 02 R61; reset waiting. -/
  phase : CmdPhase := .waiting
  /-- Starts only after every earlier command of its SQ has completed; 1 bit; 02 R58; reset false. -/
  ordered : Bool := false
  /-- Serial number of the command before it in the SQ, where that one has LINK set; 02 R58; reset none. -/
  linked : Option Nat := none
  /-- The linked command before it completed with another status than ST_OK; 1 bit; 02 R58; reset false. -/
  linkFailed : Bool := false
  /-- Completion status; 8 bits; 02 R60; reset 0. -/
  status : Nat := 0
  /-- RESULT; 16 bytes; 02 R56; reset zeros. -/
  result : List Byte := []
  /-- Data returned to the host; 02 R56; reset empty. -/
  data : List Byte := []
  /-- DATA_DONE; 17 bits; 02 R56; reset 0. -/
  dataDone : Nat := 0
  /-- Number of the state image that first contains the effect, 0 when no wait applies; 02 R62; reset 0. -/
  image : Nat := 0
  /-- The completion is discarded, since the host was lost; 1 bit; 02 R44; reset false. -/
  discard : Bool := false
  /-- Own wait limit, ns, 0 none; the command's chapter; reset 0. -/
  deadline : Nat := 0
  /-- Byte of RESULT for PARTNER_STATUS, while the standby's answer is awaited; 03 R92, 12 R373; reset none. -/
  partner : Option Nat := none
  /-- INPUTS has forwarded the command; 1 bit; 20 R559; reset false. -/
  forwarded : Bool := false
  deriving DecidableEq, Repr

/-- One queue pair (R48, R71). -/
structure QPair where
  /-- Host address of the SQ ring, 4 KiB aligned; 64 bits; 02 R71; reset 0. -/
  sqBase : BitVec 64 := 0
  /-- Host address of the CQ ring, 4 KiB aligned; 64 bits; 02 R71; reset 0. -/
  cqBase : BitVec 64 := 0
  /-- ENABLE; 1 bit; 02 R71; reset 0. -/
  enable : Bool := false
  /-- IRQ_EN; 1 bit; 02 R71; reset 0. -/
  irqEn : Bool := false
  /-- READY; 1 bit; 02 R71; reset 0. -/
  ready : Bool := false
  /-- SQ_HEAD; 7 bits; 02 R71; reset 0. -/
  sqHead : Nat := 0
  /-- SQ tail; 7 bits; 02 R54; reset 0. -/
  sqTail : Nat := 0
  /-- CQ_TAIL; 7 bits; 02 R71; reset 0. -/
  cqTail : Nat := 0
  /-- Posted completions the host has not consumed; 8 bits; 02 R49; reset 0. -/
  unconsumed : Nat := 0
  /-- CQ_PHASE; 1 bit; 02 R53; reset 1. -/
  phase : Nat := 1
  /-- DB_ERR; 1 bit; 02 R54; reset 0. -/
  dbErr : Bool := false
  /-- Descriptors in module memory, oldest first (Ethernet pairs); up to 128 of 64 bytes; 02 R42; reset empty. -/
  sq : List Desc := []
  /-- Serial number of the command fetched last, where it has LINK set; 02 R58; reset none. -/
  lastLink : Option Nat := none
  /-- Completion status of that command, ST_OK until it has completed; 8 bits; 02 R58; reset 0. -/
  linkStatus : Nat := 0
  /-- Time of the first completion not yet signalled by MSI-X, ns; 02 R37; reset none. -/
  irqSince : Option Nat := none
  /-- Time since which every CQ slot is reserved or unconsumed, ns; 19 R523; reset none. -/
  fullSince : Option Nat := none
  /-- Source 33 has been reported for the present stall; 1 bit; 19 R523; reset false. -/
  stalled : Bool := false
  deriving DecidableEq, Repr

/-- The mailbox engine. -/
structure Mbx where
  /-- The host table; 16 entries; 02 R31; reset the factory table of R36. -/
  hosts : Tab HostEntry := [(0, { transport := 1, roles := 0x0009, queueMask := 0x0003, depth := 32, reserve := 16, sharedCap := 64 })]
  /-- Connection and events per entry; 16 entries; 02 R69; reset unconnected. -/
  live : Tab HostLive := []
  /-- The queue pairs; 16; 02 R48; reset stopped. -/
  qp : Tab QPair := []
  /-- Commands in flight, in order of fetch; up to 256; 02 R49; reset empty. -/
  inflight : List InFlight := []
  /-- Serial number of the next fetch, the model's own; 02 R49; reset 0. -/
  nextUid : Nat := 0
  /-- Round-robin pointer of class NORMAL; 4 bits; 02 R52; reset 15. -/
  ptrNormal : Nat := 15
  /-- Round-robin pointer of class HIGH; 4 bits; 02 R52; reset 15. -/
  ptrHigh : Nat := 15
  /-- HIGH fetches since the last NORMAL turn; 3 bits; 02 R52; reset 0. -/
  highRun : Nat := 0
  /-- The PCIe function runs: PERST_N is high and the link is up; 1 bit; 22 R596; reset false. -/
  pcieUp : Bool := false
  /-- PTP masters heard: their data sets and the port of the module; 02 R45; reset empty. -/
  masters : List (PtpClock × Nat) := []
  /-- PTP master selected: its clock identity, port number and the port of the module; 02 R45; reset none. -/
  master : Option (Nat × Nat × Nat) := none
  /-- A two-step Sync that waits for its Follow_Up: sequence number and ingress time in ns; 02 R45; reset none. -/
  ptpSync : Option (Nat × Int) := none
  /-- Sequence number of the next Delay_Req; 16 bits; 02 R45; reset 0 (DC). -/
  ptpSeq : Nat := 0
  /-- A Delay_Req that waits for its Delay_Resp: sequence number, t2 - t1 of the Sync before it and its egress time t3, in ns; 02 R45; reset none. -/
  ptpReq : Option (Nat × Int × Int) := none
  /-- Mean path delay to the master, ns; 02 R45; reset none. -/
  pathDelay : Option Int := none
  /-- System time in ns of TAI less the model's time; 64 bits; 02 R45; reset 0 (DC). -/
  sysOffset : Int := 0
  /-- System time holds over on REF; 1 bit; 02 R46; reset true (no master is selected yet). -/
  holdover : Bool := true
  /-- System time has locked since the start; 1 bit; 22 R596; reset false. -/
  timeLocked : Bool := false
  deriving DecidableEq, Repr

/-! ### Parameters and the NV image (chapter 03) -/

/-- The tables that a user image carries beside the parameter records (R82), one field per TABLE_ID. -/
structure ImgTables where
  /-- Table 0x01, the host table; 16 entries; 03 R82; reset empty. -/
  hosts : Tab HostEntry := []
  /-- Table 0x03, the cap maps by consumer; 512 records of 72 bytes; 04 R128; reset empty. -/
  capmaps : Tab Rec := []
  /-- Table 0x03, the shares by node in per mille; 04 R128; reset empty. -/
  shares : Tab Nat := []
  /-- Table 0x04, the planned node records; 05 R158; reset empty. -/
  nodes : Tab Rec := []
  /-- Table 0x05, the coefficient records; 2,048 of 64 bytes; 06 R184; reset empty. -/
  coeffs : Tab Rec := []
  /-- Table 0x07, the cabinet records; 224 bytes each; 08 R224; reset empty. -/
  cabinets : Tab Rec := []
  /-- Table 0x08, the circuit records; 256 of 64 bytes; 09 R253; reset empty. -/
  circuits : Tab Rec := []
  /-- Table 0x09, the outlet records; 256 of 64 bytes; 10 R275; reset empty. -/
  outlets : Tab Rec := []
  /-- Table 0x0D, the point overrides; 8,192 entries; 14 R412; reset empty. -/
  overrides : List Rec := []
  /-- Table 0x0E, the carrier mask; 136 bytes; 15 R438; reset empty. -/
  plcMask : Rec := []
  /-- Table 0x0F, the CAN controller records; 4 of 512 bytes; 16 R444; reset empty. -/
  can : Tab Rec := []
  /-- Table 0x12, the reactions that differ from the default; 512 bytes; 19 R527; reset empty. -/
  reactions : Tab Nat := []
  deriving DecidableEq, Repr

/-- A user image slot (R82, R83). -/
structure Slot where
  /-- STATE byte: 0xFF EMPTY, 0x7F TRIAL, 0x3F BOOTED, 0x1F COMMITTED, 0x0F REJECTED; 8 bits; 03 R83; reset 0xFF (DC). -/
  state : Nat := 0xFF
  /-- MAGIC; 32 bits; 03 R82; reset erased, 0xFFFFFFFF (DC). -/
  magic : Nat := 0xFFFFFFFF
  /-- FORMAT; 16 bits; 03 R82; reset 0xFFFF (DC). -/
  format : Nat := 0xFFFF
  /-- DICT_VERSION; 16 bits; 03 R82; reset 0xFFFF (DC). -/
  dictVersion : Nat := 0xFFFF
  /-- PART; 16 bits; 03 R82; reset 0xFFFF (DC). -/
  part : Nat := 0xFFFF
  /-- TARGET; 16 bytes; 03 R82; reset zeros (DC). -/
  target : List Byte := List.replicate 16 0
  /-- SIGNER_SLOT; 16 bits; 03 R82; reset 0 (DC). -/
  signer : Nat := 0
  /-- BODY_CRC; 32 bits; 03 R82; reset 0xFFFFFFFF (DC). -/
  bodyCrc : Nat := 0xFFFFFFFF
  /-- HDR_CRC; 32 bits; 03 R82; reset 0xFFFFFFFF (DC). -/
  hdrCrc : Nat := 0xFFFFFFFF
  /-- IMG_FLAGS; 8 bits; 03 R82; reset 0. -/
  flags : Nat := 0
  /-- SEQ; 32 bits; 03 R82; reset 0. -/
  seq : Nat := 0
  /-- SERIAL; 32 bits; 03 R82; reset 0. -/
  serial : Nat := 0
  /-- Records: stored values by entry ID; 12 bytes each; 03 R82; reset empty. -/
  records : Tab Int := []
  /-- Table section; 03 R82; reset empty. -/
  tables : ImgTables := {}
  /-- Erase count of the header sector; 32 bits; 03 R81; reset 0 (DC). -/
  erases : Nat := 0
  /-- The slot has been written since manufacture; 1 bit; 03 R100; reset false (DC). -/
  written : Bool := false
  deriving DecidableEq, Repr

/-- A running NV_STORE (1), NV_SELECT (2), NV_COMMIT (3) or final NV_IMPORT segment (4) (R91). -/
structure NvOp where
  /-- Which of the four; 2 bits; 03 R91; no reset value. -/
  kind : Nat
  /-- The command in flight that waits for it; 03 R90; no reset value. -/
  uid : Nat
  /-- Target slot, 0 A or 1 B; 1 bit; 03 R90; no reset value. -/
  target : Nat
  /-- Active slot when the command was accepted; 03 R90; no reset value. -/
  wasActive : Option Nat
  /-- Wait for work leave so far, ns; 03 R90; reset 0. -/
  waited : Nat := 0
  /-- Time of the present request for work leave, ns; 03 R90; no reset value. -/
  askAt : Nat
  /-- The first grant has been made and the snapshot taken; 1 bit; 03 R90; reset false. -/
  begun : Bool := false
  /-- The image being written; 03 R90; reset empty. -/
  image : Slot := {}
  /-- Segments of 64 KiB still to write; 5 bits; 03 R90; reset 1. -/
  left : Nat := 1
  /-- Live values the snapshot took, to be cleared when the store ends; 03 R90; reset empty. -/
  took : Tab Int := []
  /-- Signer slot of an import; 16 bits; 03 R98; reset 0. -/
  signer : Nat := 0
  /-- Values not flagged PAIR_LOCAL that the active module of the pair stored, where this store follows it; 03 R92; reset none. -/
  given : Option (Tab Int) := none
  deriving DecidableEq, Repr

/-- Parameters and user images. -/
structure Par where
  /-- Live layer: values by entry ID; 8 bytes each; 03 R78; reset empty. -/
  live : Tab Int := []
  /-- Values the functions run with, where they differ from the factory value; 03 R77; reset empty. -/
  running : Tab Int := []
  /-- SOURCE of the running values of BOOT entries that came from a user slot at the last start: 2 slot A, 3 slot B; 03 R87; reset empty. -/
  runSrc : Tab Nat := []
  /-- Settable island values that differ from the factory value, held by the islands; 03 R76; reset empty (DC). -/
  island : Tab Int := []
  /-- Slots A and B; 1 MiB each; 03 R82; reset EMPTY (DC). -/
  slotA : Slot := {}
  /-- Slot B; 1 MiB; 03 R82; reset EMPTY (DC). -/
  slotB : Slot := {}
  /-- Active user slot; 03 R85; reset none. -/
  active : Option Nat := none
  /-- Running NV operation; 03 R91; reset none. -/
  op : Option NvOp := none
  /-- Export buffer: host-table entry, bytes and time of the last read; 03 R97; reset none. -/
  exportBuf : Option (Nat × List Byte × Nat) := none
  /-- Import buffer: host-table entry, bytes and time of the last segment; 131,072 bytes; 03 R98; reset none. -/
  importBuf : Option (Nat × List Byte × Nat) := none
  /-- Last settings serial accepted per signer slot; 32 bits each; 03 R98; reset empty. -/
  serials : Tab Nat := []
  /-- System log entries waiting in DRAM, oldest first: their bytes; 64 KiB; 03 R81; reset empty. -/
  logDram : List Rec := []
  /-- Entries dropped since the last append; 03 R81; reset 0. -/
  logDropped : Nat := 0
  /-- Entries appended to the system log in NVM; 2 MiB; 03 R79; reset empty (DC). -/
  logNvm : List Rec := []
  /-- PAR_SET of an island entry waiting for HOLDUP leave: command, entry, value and limit in ns; 03 R76; reset empty. -/
  islandWait : List (Nat × Nat × Int × Nat) := []
  deriving DecidableEq, Repr

/-! ### Power leave (chapter 04) -/

/-- A pending reduction of a slot (R110). -/
structure Reduction where
  /-- Amount in kW; 18 bits; 04 R110; no reset value. -/
  kw : Nat
  /-- Notice, ms; 10 bits; 04 R110; no reset value. -/
  noticeMs : Nat
  /-- End time in ns, fixed at the first publication; 04 R110; reset none. -/
  endAt : Option Nat := none
  deriving DecidableEq, Repr

/-- A leave request, increase, decrease or release that waits for the arbiter (R108). -/
structure LeaveReq where
  /-- 0 request, 1 change, 2 release; 2 bits; 04 R108; no reset value. -/
  kind : Nat
  /-- Consumer; 9 bits; 04 R104; no reset value. -/
  consumer : Nat
  /-- KW; 18 bits; 04 R123; reset 0. -/
  kw : Nat := 0
  /-- MIN_KW; 18 bits; 04 R123; reset 0. -/
  minKw : Nat := 0
  /-- RAMP_KW_S; 20 bits; 04 R123; reset 0. -/
  rampKwS : Nat := 0
  /-- CLASS; 3 bits; 04 R105; reset 0. -/
  cls : Nat := 0
  /-- PARTIAL; 1 bit; 04 R123; reset false. -/
  partialOk : Bool := false
  /-- WAIT; 1 bit; 04 R123; reset false. -/
  wait : Bool := false
  /-- WAIT_MS; 16 bits; 04 R123; reset 0. -/
  waitMs : Nat := 0
  /-- Host command that waits for the decision; none for a session; 04 R126; reset none. -/
  uid : Option Nat := none
  /-- OWNER: 0 session, n + 1 host-table entry n; 8 bits; 04 R126; reset 0. -/
  owner : Nat := 0
  deriving DecidableEq, Repr

/-- The cap of one node output of a consumer (R107, R114). -/
structure CapOut where
  /-- Node address; 12 bits; 04 R128; no reset value. -/
  node : Nat
  /-- Output; 3 bits; 04 R128; no reset value. -/
  output : Nat
  /-- Cap last sent to the node in kW; 18 bits; 04 R114; reset 0. -/
  sentKw : Nat := 0
  /-- Cap that the node holds in kW; 18 bits; 04 R114; reset 0. -/
  heldKw : Nat := 0
  /-- Cap held when the present rise began, kW; 18 bits; 04 R114; reset 0. -/
  riseFrom : Nat := 0
  /-- Time at which the present rise began, ns; 04 R114; reset 0. -/
  riseAt : Nat := 0
  /-- Cap held when the ramp of a lapsed node began, kW; 18 bits; 05 R150; reset none. -/
  rampFrom : Option Nat := none
  deriving DecidableEq, Repr

/-- The caps that the nodes of a released consumer still hold (R107). -/
structure Residue where
  /-- Consumer; 9 bits; 04 R107; no reset value. -/
  consumer : Nat
  /-- Its caps by node output; 04 R107; no reset value. -/
  outs : List CapOut
  deriving DecidableEq, Repr

/-- A slot of the leave ledger (R104, R126). -/
structure LvSlot where
  /-- Consumer; 9 bits; 04 R126; no reset value. -/
  consumer : Nat
  /-- STATE: 1 GRANTED, 2 WAITING, 3 RECLAIMING (0 FREE has no entry); 8 bits; 04 R104; no reset value. -/
  state : Nat
  /-- CLASS; 3 bits; 04 R105; reset 0. -/
  cls : Nat := 0
  /-- REQ_KW; 32 bits; 04 R126; reset 0. -/
  reqKw : Nat := 0
  /-- GRANT_KW; 32 bits; 04 R126; reset 0. -/
  grantKw : Nat := 0
  /-- The caps by node output, whose held values sum to CAP_KW; 8 of 18 bits; 04 R107; reset empty. -/
  outs : List CapOut := []
  /-- MIN_KW; 32 bits; 04 R126; reset 0. -/
  minKw : Nat := 0
  /-- RAMP_KW_S; 20 bits; 04 R123; reset 0. -/
  rampKwS : Nat := 0
  /-- Cooling limit in kW; 04 R106; reset none. -/
  limitKw : Option Nat := none
  /-- Pending reductions, oldest first; 04 R110; reset empty. -/
  pending : List Reduction := []
  /-- The request that waits; 04 R104; reset none. -/
  waiting : Option LeaveReq := none
  /-- Order of arrival of the waiting request; 04 R108; reset 0. -/
  arrival : Nat := 0
  /-- End of the wait in ns; 04 R108; reset 0. -/
  deadline : Nat := 0
  /-- OWNER; 8 bits; 04 R126; reset 0. -/
  owner : Nat := 0
  deriving DecidableEq, Repr

/-- What a work-leave operation is for. -/
inductive WorkFor where
  /-- The next 64 KiB segment, or the one programming, of the running NV operation (R90, R94, R95). -/
  | nvOp
  /-- A system log append (R81). -/
  | sysLog
  /-- An island store of a PAR_SET: the command in flight (R76). -/
  | parIsland (uid : Nat)
  /-- A STATE programming of R85 at a start: the slot. -/
  | bootProgram (slot : Nat)
  /-- A Jasper store of a seal, channel, calibration or tariff command (R306, R373): the command in flight. -/
  | metStore (uid : Nat)
  /-- Copying readings and log entries from the journal to their stores (R368). -/
  | storeCopy
  /-- A gauge store of a string record or learned capacity (R386, R391): the command in flight. -/
  | gauStore (uid : Nat)
  /-- An Obsidian store of a key update or decommissioning (R471, R484): the command in flight. -/
  | obsStore (uid : Nat)
  /-- A trace or capture read-out (R215): the command in flight. -/
  | tuneRead (uid : Nat)
  /-- A point dump (R411): the command in flight. -/
  | ptDump (uid : Nat)
  /-- A firmware bundle segment or a firmware slot's programming (R586): the command in flight. -/
  | fwStore (uid : Nat)
  /-- The gauge domain stores a new timing of CAN3 (R453). -/
  | canTiming
  /-- Obsidian erases the encrypted copies of zeroised slots (R477). -/
  | obsErase
  deriving DecidableEq, Repr

/-- A work-leave request or grant (R118). -/
structure Work where
  /-- Serial number, the model's own key; 04 R120; no reset value. -/
  id : Nat
  /-- Kind: 0 HOLDUP, 1 BULK; 1 bit; 04 R118; no reset value. -/
  kind : Nat
  /-- Asked by an island; 1 bit; 04 R120; no reset value. -/
  island : Bool
  /-- Amount: mJ or MB/s; 13 bits; 04 R118; no reset value. -/
  amount : Nat
  /-- The operation; 04 R118; no reset value. -/
  what : WorkFor
  deriving DecidableEq, Repr

/-- The pending share version (R117). -/
structure ShareSet where
  /-- Version number; 32 bits; 04 R117; no reset value. -/
  version : Nat
  /-- Shares by node, per mille; 04 R129; no reset value. -/
  shares : Tab Nat
  /-- The command in flight; 04 R117; no reset value. -/
  uid : Nat
  /-- End of the second in which every node must store it, ns; 04 R117; no reset value. -/
  deadline : Nat
  /-- Nodes that have been sent the version under a lease of this module; 04 R117; reset empty. -/
  sent : List Nat := []
  deriving DecidableEq, Repr

/-- The power leave arbiter. -/
structure Lv where
  /-- Dynamic setpoint in kW; 18 bits; 04 R103; reset none. -/
  setpoint : Option Nat := none
  /-- Its expiry in ns; 04 R103; reset none. -/
  setExpiry : Option Nat := none
  /-- LV_GRID_SET commands that wait for their decision: command, setpoint (none clears) and HOLD_S; 04 R127; reset empty. -/
  gridIn : List (Nat × Option Nat × Nat) := []
  /-- Measured grid import, its mean over the last site cycle, in kW / (32,000 x 2^30 x 10^512); 06 R170; reset 0 (DC). -/
  importE : Int := 0
  /-- Measured grid import in whole kW, rounded down; 18 bits and sign; 04 R115; reset 0 (DC). -/
  importKw : Int := 0
  /-- Measured buffer discharge, the sum that the held buffer cabinet nodes report, kW; 06 R170; reset 0 (DC). -/
  bufKw : Int := 0
  /-- Time since which the import has exceeded the limit of R115 at every publication, ns; 04 R115; reset none. -/
  overSince : Option Nat := none
  /-- Time since which the buffer has delivered the B of R101 at every publication, ns; 04 R115; reset none. -/
  restoreSince : Option Nat := none
  /-- Bound on P while the buffer does not deliver; 18 bits; 04 R115; reset none. -/
  pBound : Option Nat := none
  /-- IMPORT_EXCESS; 1 bit; 04 R132; reset 0. -/
  importExcess : Bool := false
  /-- P is bounded by A, as last reported (LV_BUF_LIMIT); 1 bit; 04 R131; reset false. -/
  bufLimited : Bool := false
  /-- Available charge A in kWh from the gauge; 04 R101; reset 0. -/
  availKwh : Nat := 0
  /-- D of the last recomputation; 18 bits; 04 R101; reset 0 (DC). -/
  d : Nat := 0
  /-- H of the last recomputation in per mille; 11 bits; 04 R132; reset 0. -/
  h : Nat := 0
  /-- G; 18 bits; 04 R132; reset 0. -/
  g : Nat := 0
  /-- P; 18 bits; 04 R132; reset 0. -/
  p : Nat := 0
  /-- B; 18 bits; 04 R132; reset 0. -/
  b : Nat := 0
  /-- E; 18 bits; 04 R132; reset 0. -/
  e : Nat := 0
  /-- S; 18 bits; 04 R132; reset 0. -/
  sum : Nat := 0
  /-- The ledger; 512 slots; 04 R104; reset FREE. -/
  slots : Tab LvSlot := []
  /-- Caps of released consumers that the nodes still hold; 04 R107; reset empty. -/
  residue : List Residue := []
  /-- Decisions for sessions not yet taken up: consumer and status; 04 R122; reset empty. -/
  answers : List (Nat × Nat) := []
  /-- Requests in order of arrival; 04 R108; reset empty. -/
  arrivals : List LeaveReq := []
  /-- Cooling limits by consumer, kW; 09 R262; reset empty. -/
  coolLimit : Tab Nat := []
  /-- Arrival number of the next waiting request; 04 R108; reset 0. -/
  nextArrival : Nat := 0
  /-- All pending reductions have been cancelled since the last publication; 1 bit; 04 R131; reset false. -/
  cancelled : Bool := false
  /-- The ledger has been published since the start; 1 bit; 21 R577; reset false. -/
  published : Bool := false
  /-- Cap maps by consumer; 72 bytes; 04 R128; reset empty. -/
  capmaps : Tab Rec := []
  /-- Shares by node in force, per mille; 10 bits; 04 R116; reset empty. -/
  shares : Tab Nat := []
  /-- Version number of the shares; 32 bits; 04 R117; reset 0 (DC). -/
  shareVersion : Nat := 0
  /-- Share version being stored; 04 R117; reset none. -/
  sharePending : Option ShareSet := none
  /-- Work requests that wait, oldest first; 04 R120; reset empty. -/
  workWait : List Work := []
  /-- Work grants held; 64 slots; 04 R118; reset empty. -/
  workGrant : List Work := []
  /-- Serial number of the next work request; 04 R120; reset 0. -/
  nextWork : Nat := 0
  /-- WORK_HOLD: no work leave after the power-fail warning; 1 bit; 04 R132; reset 0. -/
  workHold : Bool := false
  /-- In lockstep mode, for the next INPUTS: the arbiter's events that no host command brought; 20 R559; reset empty. -/
  fwdEvents : List LeaveReq := []
  deriving DecidableEq, Repr

/-! ### Mirterlink ring (chapter 05) -/

/-- The live record of a node (R155, R163). -/
structure Node where
  /-- STATE: 0 ABSENT, 1 UNPLANNED, 2 ONLINE, 3 DEMOTED, 4 FENCED, 5 UNREACHABLE, 6 LAPSED, 7 FOREIGN; 8 bits; 05 R163; reset 0. -/
  state : Nat := 0
  /-- SIDE: 0 west, 1 east; 8 bits; 05 R163; reset 0. -/
  side : Nat := 0
  /-- HOPS; 16 bits; 05 R163; reset 0. -/
  hops : Nat := 0
  /-- HOPS_WRAP; 16 bits; 05 R163; reset 0. -/
  hopsWrap : Nat := 0
  /-- MISSED; 16 bits; 05 R163; reset 0. -/
  missed : Nat := 0
  /-- EPOCH of the node; 32 bits; 05 R163; reset 0. -/
  epoch : Nat := 0
  /-- MISSED_TOTAL, saturating; 32 bits; 05 R163; reset 0. -/
  missedTotal : Nat := 0
  /-- CRC_ERR, saturating; 32 bits; 05 R163; reset 0. -/
  crcErr : Nat := 0
  /-- LAST_SEEN, the CYCLE of the last frame; 32 bits; 05 R163; reset 0. -/
  lastSeen : Nat := 0
  /-- Time of the last frame in ns; 05 R155; reset 0. -/
  seenAt : Nat := 0
  /-- Slots answered since the last missed one; 05 R165; reset 0. -/
  answered : Nat := 0
  /-- Times of the last misses in ns, for the 100 µs before a SWITCHED frame; 05 R154; reset empty. -/
  missAt : List Nat := []
  /-- The node has been demoted and not restored; 1 bit; 05 R155; reset false. -/
  demoted : Bool := false
  /-- State before the node was lost; 05 R155; reset 2. -/
  before : Nat := 2
  /-- The node holds this module's lease; 1 bit; 05 R151; reset false. -/
  leased : Bool := false
  /-- Time of the report that the node's last lease ended, ns; 20 R561; reset 0. -/
  endedAt : Nat := 0
  /-- That lease was this module's; 1 bit; 05 R152; reset false. -/
  ownLapse : Bool := false
  /-- The node is online with a plan mismatch; 1 bit; 05 R160; reset false. -/
  mismatch : Bool := false
  /-- Ring of the member: 0 A, 1 B, 2 busbar link; 2 bits; 05 R159; reset 0. -/
  ring : Nat := 0
  /-- Identity of an UNPLANNED member; 16 bytes; 05 R155; reset empty. -/
  identity : List Byte := []
  /-- Window number plus 1 of the last frame that answered its slot; 05 R154; reset 0. -/
  lastWin : Nat := 0
  /-- Planned side, given at enumeration and on a claim; 1 bit; 05 R136; reset 0. -/
  home : Nat := 0
  /-- Distance by the west side in spans, none where the member is not reached by it; 05 R136; reset none. -/
  west : Option Nat := none
  /-- Distance by the east side; 05 R136; reset none. -/
  east : Option Nat := none
  /-- Path delay by the west side in ns; 05 R141; reset none. -/
  delayWest : Option Nat := none
  /-- Path delay by the east side in ns; 05 R141; reset none. -/
  delayEast : Option Nat := none
  /-- PARENT at which the member answered; 16 bits; 05 R160; reset 0. -/
  parent : Nat := 0
  /-- PORT of that parent; 1 bit; 05 R160; reset 0. -/
  branch : Nat := 0
  /-- Serving side of the last claim sent to the node; 1 bit; 05 R145; reset none. -/
  claimSide : Option Nat := none
  /-- The module's own RELEASE headers have ended the node's lease and its report is still to come; 1 bit; 05 R152; reset false. -/
  released : Bool := false
  /-- The issuer that the node serves; 1 bit; 05 R151; reset 0. -/
  issuer : Nat := 0
  /-- Ports that the node reported down: 0 west, 1 east, 2 branch 0, 3 branch 1; 4 bits; 05 R145; reset 0. -/
  portsDown : BitVec 4 := 0
  /-- The last demotion by missed slots: the instances that it halved, and whether the node was demoted already; 05 R154; reset none. -/
  undo : Option (List Nat × Bool) := none
  /-- Output power in kW that the last status block reported, positive as discharge; 06 R170; reset 0. -/
  outKw : Int := 0
  deriving DecidableEq, Repr

/-- A ring cage X1 to X4 (R168). -/
structure RingPort where
  /-- LOCK; 1 bit; 05 R168; reset 0. -/
  lock : Bool := false
  /-- LOS; 1 bit; 05 R168; reset 1. -/
  los : Bool := true
  /-- FOREIGN; 1 bit; 05 R168; reset 0. -/
  foreign : Bool := false
  /-- BLK_ERR; 16 bits, wrapping; 05 R168; reset 0. -/
  blkErr : BitVec 16 := 0
  deriving DecidableEq, Repr

/-- Traffic of a ring that waits for the next half-cycle (R142). -/
structure RingQueue where
  /-- Report records that wait, oldest first: node and record; 05 R142; reset empty. -/
  claims : List (Nat × List Byte) := []
  /-- Report records sent in the present half-cycle; 64 at most; 05 R142; reset 0. -/
  sent : Nat := 0
  /-- Safety telegrams that wait, oldest first: connection and telegram; 05 R142; reset empty. -/
  telegrams : List (Nat × List Byte) := []
  /-- Blocks of safety telegrams sent in the present half-cycle; 05 R142; reset 0. -/
  blocks : Nat := 0
  deriving DecidableEq, Repr

/-- A RING_SCAN that runs (R164). -/
structure RingScan where
  /-- The command in flight; 05 R164; reset none. -/
  uid : Nat
  /-- Time in ns by which it ends, at most 1 s after its start; 05 R164; reset none. -/
  due : Nat
  /-- The members that answer; 05 R160; reset none. -/
  members : List ScanMember
  deriving DecidableEq, Repr

/-- The Mirterlink controller. -/
structure Ring where
  /-- CYCLE; 32 bits, wrapping; 05 R140; reset 0. -/
  cycle : BitVec 32 := 0
  /-- Number of the present loop window, 2 x cycle + half; 33 bits; 05 R140; reset 0. -/
  window : Nat := 0
  /-- Loop windows of the present cycle still to begin; 2 bits; 05 R140; reset 0. -/
  winLeft : Nat := 0
  /-- Issuer epoch, 0 while the module holds no lease; 32 bits; 05 R168; reset 0. -/
  epoch : Nat := 0
  /-- Epoch it emits from when an epoch raise has sent its RELEASE headers; 05 R152; reset none. -/
  raiseTo : Option Nat := none
  /-- RELEASE headers left of an epoch raise; 2 bits; 05 R152; reset 0. -/
  raiseLeft : Nat := 0
  /-- PLAN, version of the slot plan; 16 bits; 05 R143; reset 0 (DC). -/
  plan : BitVec 16 := 0
  /-- The loop schedule of that version: instance, node, channel, period and phase; 05 R143; reset empty. -/
  slotPlan : List (List Nat) := []
  /-- Offset of the cycle start from a whole multiple of 20 µs of TAI in ns; signed; 05 R141; reset 0. -/
  skew : Int := 0
  /-- Old records of planned nodes whose change of position waits for the next RING_SCAN; 05 R162; reset empty. -/
  moved : Tab Rec := []
  /-- The RING_SCAN that runs; 05 R164; reset none. -/
  scan : Option RingScan := none
  /-- Rings (0 A, 1 B) whose scan after a cold start is still to come: their cages have lock; 05 R160; reset empty. -/
  enumWait : List Nat := []
  /-- Rings that have had that scan; 05 R160; reset empty. -/
  enumRings : List Nat := []
  /-- Traffic of rings A and B that waits for its budget; 05 R142; reset empty. -/
  queues : Tab RingQueue := []
  /-- ENUM_DONE; 1 bit; 05 R168; reset 0. -/
  enumDone : Bool := false
  /-- A_STATE: 0 CLOSED, 1 OPEN, 2 PARTITIONED, 3 DOWN; 2 bits; 05 R168; reset 3. -/
  stateA : Nat := 3
  /-- B_STATE, coded as A_STATE; 2 bits; 05 R168; reset 3. -/
  stateB : Nat := 3
  /-- The own headers of ring A do not return; 1 bit; 05 R156; reset false. -/
  openA : Bool := false
  /-- The own headers of ring B do not return; 1 bit; 05 R156; reset false. -/
  openB : Bool := false
  /-- Cages X1 to X4 by number 0 to 3; 05 R168; reset LOS. -/
  ports : Tab RingPort := []
  /-- Planned records by address; 32 bytes; 05 R159; reset empty. -/
  plans : Tab Rec := []
  /-- Live records by address; 05 R163; reset ABSENT. -/
  nodes : Tab Node := []
  deriving DecidableEq, Repr

/-! ### Basalt (chapter 06) -/

/-- A command that takes effect in the instance's next due window (R186). -/
inductive BasWait where
  /-- A start: mode (0 INIT, 1 KEEP, 2 TRACK), the waiting command, and due windows still allowed for a report (R187, R188). -/
  | arm (mode : Nat) (uid : Option Nat) (left : Nat)
  /-- A freeze (R195). -/
  | freeze (uid : Option Nat)
  /-- A release from FROZEN (R195). -/
  | release (uid : Option Nat)
  /-- A disarm (R195). -/
  | disarm (uid : Option Nat)
  /-- A handover from the giver (R189). -/
  | take (giver : Nat) (uid : Option Nat)
  deriving DecidableEq, Repr

/-- A loop instance (R186, R198). -/
structure Inst where
  /-- STATE: 0 EMPTY, 1 LOADED, 2 ARMED, 3 FROZEN, 4 FENCED; 3 bits; 06 R198; reset 0. -/
  state : Nat := 0
  /-- OWNER of a session: 1, and 3 for one that has ended before the instance is LOADED; what the cooling function owns follows from its circuits (R264); 2 bits; 06 R192; reset 0. -/
  owner : Nat := 0
  /-- WRAP_CAUSE: 0 I, 1 D, 2 SUM, 3 OUT, 4 REP; 5 bits; 06 R176; reset 0. -/
  wrapCause : BitVec 5 := 0
  /-- WRAP, sticky; 1 bit; 06 R177; reset 0. -/
  wrap : Bool := false
  /-- FENCE_CAUSE: 0 wrap, 1 node, 2 rate, 3 lease; 4 bits; 06 R186; reset 0. -/
  fenceCause : BitVec 4 := 0
  /-- Phase p; 06 R171; reset 0. -/
  phase : Nat := 0
  /-- Present period in windows; 06 R171; reset 0. -/
  k : Nat := 0
  /-- The instance runs at half rate; 1 bit; 06 R181; reset false. -/
  half : Bool := false
  /-- i_acc, Q30 with 8 guard bits; 40 bits, signed; 06 R175; reset 0. -/
  iAcc : Int := 0
  /-- dq, Q15; 16 bits, signed; 06 R175; reset 0. -/
  dq : Int := 0
  /-- x_prev; 17 bits, signed; 06 R175; reset 0. -/
  xPrev : Int := 0
  /-- Last command sent, Q15; 16 bits, signed; 06 R198; reset 0. -/
  lastCmd : Int := 0
  /-- Reference table value, Q15; 16 bits, signed; 06 R196; reset 0. -/
  refTab : Int := 0
  /-- Present reference, Q15; 16 bits, signed; 06 R198; reset none formed. -/
  ref : Option Int := none
  /-- Last measurement, Q15; 16 bits, signed; 06 R198; reset 0. -/
  meas : Int := 0
  /-- Last AUX, Q15; 16 bits, signed; 06 R190; reset 0. -/
  aux : Int := 0
  /-- Phase phi of the repetitive controller; 32 bits; 06 R182; reset 0. -/
  phi : BitVec 32 := 0
  /-- EVALS; 32 bits, wrapping; 06 R198; reset 0. -/
  evals : BitVec 32 := 0
  /-- MISSED, saturating; 32 bits; 06 R198; reset 0. -/
  missed : Nat := 0
  /-- The instance has run; 1 bit; 06 R187; reset false. -/
  hasRun : Bool := false
  /-- The next evaluation is the first after an arm or a resume; 1 bit; 06 R175; reset false. -/
  first : Bool := false
  /-- The next evaluation is a tracking start; 1 bit; 06 R188; reset false. -/
  track : Bool := false
  /-- The command of that tracking start, none for word 1; 16 bits, signed; 06 R188; reset none. -/
  trackFrom : Option Int := none
  /-- The command in flight that waits for the first evaluation of that tracking start; 06 R188; reset none. -/
  trackUid : Option Nat := none
  /-- What made the tracking start: 0 an arm, 1 a release, 2 a handover; 06 R188; reset 0. -/
  trackKind : Nat := 0
  /-- The window of the handover or start that made it; 06 R197; reset 0. -/
  trackWin : Nat := 0
  /-- Window at which a restore was accepted: the instance returns to full rate in the next window due under both periods; 06 R181; reset none. -/
  lift : Option Nat := none
  /-- The eight taps after the last evaluation, Q15; 16 bits each, signed; 07 R203; reset 0. -/
  taps : List Int := []
  /-- Sum of the MEAS words evaluated in the present site cycle; signed; 09 R257; reset 0. -/
  measSum : Int := 0
  /-- Number of them; 09 R257; reset 0. -/
  measN : Nat := 0
  /-- Sum of the MEAS words of the last site cycle; signed; 09 R257; reset 0. -/
  cycSum : Int := 0
  /-- Number of them; 09 R257; reset 0. -/
  cycN : Nat := 0
  /-- Commands that take effect in the next due window, oldest first, each with the window of its acceptance; 06 R186; reset empty. -/
  wait : List (Nat × BasWait) := []
  deriving DecidableEq, Repr

/-- A repetitive memory (R182). -/
structure RepMem where
  /-- REP_N it last ran under; 12 bits; 06 R182; reset 0. -/
  n : Nat := 0
  /-- Cells, Q15; 2 to 2,048 of 16 bits, signed; 06 R182; reset 0. -/
  cells : List Int := []
  deriving DecidableEq, Repr

/-- Basalt. -/
structure Bas where
  /-- Coefficient records; 2,048 of 64 bytes; 06 R183; reset empty. -/
  coeffs : Tab Rec := []
  /-- Instances; 2,048; 06 R186; reset EMPTY. -/
  insts : Tab Inst := []
  /-- Repetitive memories; 256; 06 R182; reset zeros. -/
  reps : Tab RepMem := []
  /-- Site inputs 0 to 3, Q15; 16 bits each, signed; 06 R170; reset 0. -/
  site : List Int := [0, 0, 0, 0]
  /-- Reference values to take effect in the next window, each list with its command, if a host gave it; 06 R196; reset empty. -/
  refWait : List (Option Nat × List (Nat × Int)) := []
  /-- Channels (32 x node + channel) to which a RUN command of the current epoch was sent in their previous due window; 06 R174; reset empty. -/
  sentRun : List Nat := []
  /-- BAS_REP commands for the next window: command, controller and OP; 06 R199; reset empty. -/
  repWait : List (Nat × Nat × Nat) := []
  /-- In lockstep mode, for the next INPUTS: accepted upstream words with node and window; 20 R559; reset empty. -/
  fwdFrames : List (Nat × Nat × List (Int × Int)) := []
  /-- For the next INPUTS: missed due frames, node and window; 20 R559; reset empty. -/
  fwdMissed : List (Nat × Nat) := []
  /-- For the next INPUTS: site inputs of the window; 20 R559; reset empty. -/
  fwdSite : List Int := []
  /-- Commands inserted since the last INPUTS, by loop frame; 20 R560; reset empty. -/
  fwdSent : List (List Byte) := []
  deriving DecidableEq, Repr

/-! ### Tracing and tuning (chapter 07) -/

/-- A trace buffer (R204 to R206). -/
structure Trace where
  /-- State: 0 IDLE, 1 PRE, 2 WAIT, 3 POST, 4 DONE; 8 bits; 07 R217; reset 0. -/
  state : Nat := 0
  /-- Host-table entry that set it; 07 R207; reset 0. -/
  entry : Nat := 0
  /-- The record of TUNE_TRACE_SET; 48 bytes; 07 R214; reset empty. -/
  cfg : Rec := []
  /-- Due windows of the pace instance seen since the start; 07 R204; reset 0. -/
  seen : Nat := 0
  /-- A sample is due at the end of the present window; 1 bit; 07 R204; reset false. -/
  due : Bool := false
  /-- Recorded samples, newest first: window number, period of the pace instance and the eight slot values; 8,192; 07 R204; reset empty. -/
  samples : List (Nat × Nat × List Int) := []
  /-- Samples recorded since the start; 07 R205; reset 0. -/
  count : Nat := 0
  /-- Samples recorded from the trigger sample on; 07 R206; reset 0. -/
  post : Nat := 0
  /-- The event of trigger kind 4 or 5 has occurred since the previous sample; 1 bit; 07 R205; reset false. -/
  hit : Bool := false
  /-- END; 8 bits; 07 R215; reset 0. -/
  endCause : Nat := 0
  deriving DecidableEq, Repr

/-- An injection generator with its capture (R208, R209). -/
structure Gen where
  /-- State: 0 idle, 1 running, 2 ended; 8 bits; 07 R217; reset 0. -/
  state : Nat := 0
  /-- The record of TUNE_INJ_START; 32 bytes; 07 R216; reset empty. -/
  cfg : Rec := []
  /-- Evaluations since the start, the counter n; 07 R208; reset 0. -/
  n : Nat := 0
  /-- Phase of the sine or chirp; 32 bits; 07 R208; reset 0. -/
  phi : Nat := 0
  /-- The 15-bit shift register of the PRBS; 15 bits; 07 R208; reset 0. -/
  lfsr : Nat := 0
  /-- The lowest cause of R211 met since the last window; 8 bits; 07 R211; reset none. -/
  stop : Option Nat := none
  /-- The command that waits for the first evaluation; 07 R216; reset none. -/
  uid : Option Nat := none
  /-- Captured samples, newest first: inj and the tap; 65,536; 07 R209; reset empty. -/
  capture : List (Int × Int) := []
  /-- Window number of the first evaluation; 07 R216; reset 0. -/
  win0 : Nat := 0
  /-- Period of the instance in windows; 16 bits; 07 R215; reset 0. -/
  k : Nat := 0
  /-- END; 8 bits; 07 R215; reset 0. -/
  endCause : Nat := 0
  deriving DecidableEq, Repr

/-- Tracing and tuning. -/
structure Tune where
  /-- Trace buffers; 32; 07 R204; reset IDLE. -/
  traces : Tab Trace := []
  /-- Injection generators; 16; 07 R208; reset idle. -/
  gens : Tab Gen := []
  deriving DecidableEq, Repr

/-! ### Power stages (chapter 08) -/

/-- A pre-start token that the node of a stage holds (R232, R233). -/
structure Token where
  /-- CHECK_SEQ; 16 bits; 08 R232; no reset value. -/
  seq : Nat
  /-- EPOCH; 32 bits; 08 R232; no reset value. -/
  epoch : Nat
  /-- VALID_MS; 16 bits; 08 R232; no reset value. -/
  validMs : Nat
  /-- Time of receipt, ns; 08 R233; no reset value. -/
  rxAt : Nat
  deriving DecidableEq, Repr

/-- A stage (R222, R238, R250). -/
structure Stage where
  /-- STATE: 0 IDLE, 1 CHECKING, 2 READY, 3 SOFT_START, 4 RUNNING, 5 HOLD, 6 LOCKED; 8 bits; 08 R250; reset 0. -/
  state : Nat := 0
  /-- State before HOLD; 08 R238; reset 0. -/
  before : Nat := 0
  /-- CLASS: 0 storage, 1 vehicle; 8 bits; 08 R223; reset 0. -/
  cls : Nat := 0
  /-- OWNER: 0 host, 1 session; 8 bits; 08 R250; reset 0. -/
  owner : Nat := 0
  /-- LAST_FAIL; 6 bits; 08 R250; reset 0. -/
  lastFail : Nat := 0
  /-- STOP_CAUSE: 0 none, 1 disable, 2 short, 3 timeout, 4 lease, 5 lock-out; 8 bits; 08 R250; reset 0. -/
  stopCause : Nat := 0
  /-- VOLT; 16 bits; 08 R250; reset 0. -/
  volt : Nat := 0
  /-- AMP; 16 bits, signed; 08 R250; reset 0. -/
  amp : Int := 0
  /-- CHECK_SEQ of the last check; 16 bits; 08 R231; reset 0 (DC). -/
  checkSeq : Nat := 0
  /-- PH_FENCED; 96 bits; 08 R250; reset 0. -/
  fenced : BitVec 96 := 0
  /-- Token that the node holds; 08 R233; reset none. -/
  token : Option Token := none
  /-- Time of entry into CHECKING or SOFT_START, ns; 08 R235; reset 0. -/
  since : Nat := 0
  /-- Command in flight that waits for the check or the soft start; 08 R247; reset none. -/
  uid : Option Nat := none
  /-- TARGET_V; 11 bits; 08 R248; reset 0. -/
  targetV : Nat := 0
  /-- DVDT in V/ms; 9 bits; 08 R248; reset 0. -/
  dvdt : Nat := 0
  /-- ILIM in 0.1 A; 14 bits; 08 R248; reset 0. -/
  ilim : Nat := 0
  /-- Instance whose reference follows the soft start, and its scale in V for 1.0; 08 R234; reset none. -/
  refInst : Option (Nat × Nat) := none
  /-- V_0 of the soft start in Q15; 16 bits, signed; 08 R234; reset none. -/
  v0 : Option Int := none
  /-- The window in which the node applies the enable; 33 bits; 08 R234, R240; reset 0. -/
  enWin : Nat := 0
  /-- A lock-out has ended a soft start whose short the node has not reported yet; 1 bit; 08 R238; reset 0. -/
  cutShort : Bool := false
  /-- Time since which the voltage is within the tolerance of TARGET_V, ns; 08 R235; reset none. -/
  nearSince : Option Nat := none
  deriving DecidableEq, Repr

/-- The cabinets as the module keeps them. -/
structure Stg where
  /-- Cabinet records by node; 224 bytes each; 08 R224; reset empty. -/
  cabinets : Tab Rec := []
  /-- Stages by their object, node and stage index in bits [19:16]; 08 R222; reset IDLE. -/
  stages : Tab Stage := []
  deriving DecidableEq, Repr

/-! ### Cable cooling (chapter 09) -/

/-- A cooling sample (R256): temperatures in 0.01 °C, -32768 for open or short. -/
structure CoolSample where
  /-- Time of arrival, ns; 09 R256; no reset value. -/
  at' : Nat
  /-- Inlet temperature; 16 bits, signed; 09 R256; no reset value. -/
  tIn : Int
  /-- Outlet temperature; 16 bits, signed; 09 R256; no reset value. -/
  tOut : Int
  /-- Flow in 0.1 L/min; 16 bits; 09 R256; no reset value. -/
  flow : Nat
  /-- Pump speed command as applied, Q15; 16 bits, signed; 09 R256; no reset value. -/
  pump : Int
  /-- Pin sensor 0; 16 bits, signed; 09 R256; no reset value. -/
  pin0 : Int
  /-- Pin sensor 1; 16 bits, signed; 09 R256; no reset value. -/
  pin1 : Int
  deriving DecidableEq, Repr

/-- A coolant circuit (R264, R271). -/
structure Circuit where
  /-- STATE: 0 OFF, 1 PRIMING, 2 COOLING, 3 DEGRADED, 4 FAILED; 8 bits; 09 R271; reset 0. -/
  state : Nat := 0
  /-- LOST: bit 0 coolant temperatures, 1 flow, 2 pin; 3 bits; 09 R258; reset 0. -/
  lost : BitVec 3 := 0
  /-- CAUSE of the last entry to FAILED; 8 bits; 09 R271; reset 0. -/
  cause : Nat := 0
  /-- t_c; IEEE 754 single; 09 R259; reset 0 (DC). -/
  tC : Single := {}
  /-- t_s; IEEE 754 single; 09 R259; reset 0 (DC). -/
  tS : Single := {}
  /-- t_k; IEEE 754 single; 09 R259; reset 0 (DC). -/
  tK : Single := {}
  /-- Last valid inlet temperature, 0.01 °C; 16 bits, signed; 09 R259; reset 0 (DC). -/
  heldIn : Int := 0
  /-- Last valid outlet temperature, 0.01 °C; 16 bits, signed; 09 R259; reset 0 (DC). -/
  heldOut : Int := 0
  /-- Newest sample; 09 R256; reset none. -/
  sample : Option CoolSample := none
  /-- Samples of the last second, newest first; 09 R258; reset empty. -/
  past : List CoolSample := []
  /-- Time since which flow has been below F_MIN with the pump at 50 % or more, ns; 09 R258; reset none. -/
  lowSince : Option Nat := none
  /-- Time since which the outlet has been more than 2 K below the inlet, ns; 09 R258; reset none. -/
  diffSince : Option Nat := none
  /-- Time since which the pin has deviated, ns; 09 R258; reset none. -/
  devSince : Option Nat := none
  /-- Times since which the conditions of the lost inputs have been absent, ns; 3; 09 R258; reset none. -/
  okSince : Tab Nat := []
  /-- Time since which flow has been F_MIN or more in PRIMING, ns; 09 R264; reset none. -/
  primeSince : Option Nat := none
  /-- Time of entry to PRIMING, ns; 09 R264; reset 0. -/
  enteredAt : Nat := 0
  /-- Cap of R261 in mA; 22 bits; 09 R261; reset none. -/
  capMa : Option Nat := none
  /-- I; IEEE 754 single; 09 R257; reset 0. -/
  iNow : Single := {}
  /-- i_lim; IEEE 754 single; 09 R260; reset 0. -/
  iLim : Single := {}
  /-- i_lim is below I_MAX_A; 1 bit; 09 R273; reset false. -/
  derated : Bool := false
  /-- Site cycles with i_lim below I_MAX_A since the circuit left OFF; 09 R271; reset 0. -/
  derateMs : Nat := 0
  /-- Time of the end of the session, or of COOL_STOP, ns; 09 R264; reset none. -/
  endAt : Option Nat := none
  /-- Time since which the outlet has held no session, ns; 09 R264; reset none. -/
  idleSince : Option Nat := none
  /-- COOL_STOP commands that wait for OFF; 09 R270; reset empty. -/
  stops : List Nat := []
  /-- Pump reference last written, 0.1 L/min; 16 bits; 09 R265; reset none. -/
  pumpRef : Option Nat := none
  deriving DecidableEq, Repr

/-- Cable cooling. -/
structure Cool where
  /-- Circuit records; 256 of 64 bytes; 09 R254; reset empty. -/
  recs : Tab Rec := []
  /-- Circuits; 256; 09 R253; reset OFF. -/
  circuits : Tab Circuit := []
  /-- In lockstep mode, for the next INPUTS: cooling samples by circuit; 20 R559; reset empty. -/
  fwdSamples : List (Nat × CoolSample) := []
  /-- For the next INPUTS: the observer has run; 1 bit; 20 R559; reset false. -/
  fwdObserver : Bool := false
  deriving DecidableEq, Repr

/-! ### Vehicle sessions (chapter 10) -/

/-- A reduction that a session follows (R287). -/
structure SesRed where
  /-- i_ref at the publication, µA; 10 R287; no reset value. -/
  fromUa : Nat
  /-- Time of the publication, ns; 10 R287; no reset value. -/
  at' : Nat
  /-- End of the notice, ns; 10 R287; no reset value. -/
  endAt : Nat
  /-- What the reductions up to this end take from the grant, kW; 10 R287; no reset value. -/
  kw : Nat
  deriving DecidableEq, Repr

/-- The TCP connection of a vehicle (R274, R278). -/
structure TcpConn where
  /-- The vehicle's port; 16 bits; 10 R278; no reset value. -/
  port : Nat
  /-- Next sequence number expected; 32 bits; 10 R278; no reset value. -/
  rcvNxt : Nat
  /-- Next sequence number to send; 32 bits; 10 R278; no reset value. -/
  sndNxt : Nat
  deriving DecidableEq, Repr

/-- A session context (R274, R300). Currents and voltages that a vehicle gives are in 0.1 A and 0.1 V. -/
structure Ctx where
  /-- STATE: 1 PLUGGED, 2 COMM, 3 CHECKS, 4 CABLE_CHECK, 5 LEAVE, 6 PRECHARGE, 7 TRANSFER, 8 STOPPING, 9 CLOSING; 8 bits; 10 R300; reset 1. -/
  state : Nat := 1
  /-- OUTLET; 8 bits; 10 R300; no reset value. -/
  outlet : Nat
  /-- PROTOCOL; 8 bits; 10 R300; reset 0. -/
  protocol : Nat := 0
  /-- ID_KIND; 8 bits; 10 R300; reset 0. -/
  idKind : Nat := 0
  /-- END_CAUSE; 8 bits; 10 R301; reset 0. -/
  cause : Nat := 0
  /-- TLS in use; 1 bit; 10 R300; reset false. -/
  tls : Bool := false
  /-- Plug & Charge; 1 bit; 10 R300; reset false. -/
  pnc : Bool := false
  /-- EVCCID, the vehicle's MAC address; 48 bits; 10 R277; reset none. -/
  mac : Option Nat := none
  /-- The vehicle's IPv6 address; 128 bits; 10 R274; reset none. -/
  ip : Option Nat := none
  /-- TCP state; 10 R274; reset none. -/
  tcp : Option TcpConn := none
  /-- Cipher suite of the TLS connection; 10 R280; reset none. -/
  suite : Option TlsSuite := none
  /-- Number of the next TLS record received; 64 bits; 10 R274; reset 0. -/
  rxRecord : Nat := 0
  /-- Number of the next TLS record sent; 64 bits; 10 R274; reset 0. -/
  txRecord : Nat := 0
  /-- Energy service selected; 10 R279; reset none. -/
  service : Option EnergyService := none
  /-- Dynamic control mode; 1 bit; 10 R279; reset false. -/
  dynamic : Bool := false
  /-- ID; 24 bytes; 10 R300; reset empty. -/
  ident : List Byte := []
  /-- The session parameters of groups 09 and 0A at the start of the session; 15; 10 R302; reset empty. -/
  pars : Tab Nat := []
  /-- Link up; 1 bit; 10 R284; reset false. -/
  link : Bool := false
  /-- LOCK_OK received; 1 bit; 10 R284; reset false. -/
  lock : Bool := false
  /-- Authorisation: 0 not asked, 1 waiting, 2 given; 2 bits; 10 R282; reset 0. -/
  auth : Nat := 0
  /-- Time of the authorisation request, ns; 10 R282; reset 0. -/
  authAt : Nat := 0
  /-- ACCOUNT; 12 bits; 10 R298; reset 0. -/
  account : Nat := 0
  /-- ENERGY_MAX_WH; 64 bits; 10 R298; reset 0. -/
  energyMax : Nat := 0
  /-- Charge parameters accepted; 1 bit; 10 R284; reset false. -/
  params : Bool := false
  /-- Vehicle's maximum voltage, 0.1 V; 10 R293; reset 0. -/
  evMaxV : Nat := 0
  /-- Vehicle's maximum current, 0.1 A; 10 R286; reset 0. -/
  evMaxA : Nat := 0
  /-- Vehicle's maximum power, kW; 10 R285; reset 0. -/
  evMaxKw : Nat := 0
  /-- EV_TARGET_V, 0.1 V; 10 R300; reset none. -/
  evTargetV : Option Nat := none
  /-- EV_TARGET_A, 0.1 A; 10 R300; reset 0. -/
  evTargetA : Nat := 0
  /-- Vehicle's present voltage, 0.1 V; 10 R286; reset 0. -/
  evVolt : Nat := 0
  /-- SOC; 8 bits; 10 R300; reset 0xFF. -/
  soc : Nat := 0xFF
  /-- Time of PLUGGED, ns; 10 R300; reset 0. -/
  pluggedAt : Nat := 0
  /-- Insulation test passed; 1 bit; 10 R284; reset false. -/
  insOk : Bool := false
  /-- Time of entry to CABLE_CHECK, ns; 10 R284; reset 0. -/
  cableAt : Nat := 0
  /-- Progress of PRECHARGE: 0 arming, 1 checking, 2 enabled, 3 handing over; 2 bits; 10 R284; reset 0. -/
  step : Nat := 0
  /-- Jasper's reading: 0 none, 1 to open, 2 open, 3 written; 2 bits; 10 R359; reset 0. -/
  reading : Nat := 0
  /-- This context's reading was opened by another module; 1 bit; 12 R359; reset false. -/
  takenOver : Bool := false
  /-- I_REF, µA; 32 bits; 10 R286; reset 0. -/
  iRef : Nat := 0
  /-- I_LIMIT, A; 16 bits; 10 R300; reset 0. -/
  iLimit : Nat := 0
  /-- Grant with which I_LIMIT was last formed, kW; 10 R303; reset 0. -/
  lastGrant : Nat := 0
  /-- i_lim of the observer with which I_LIMIT was last formed, µA; 10 R303; reset 0. -/
  lastCool : Nat := 0
  /-- Reductions being followed; 10 R287; reset empty. -/
  red : List SesRed := []
  /-- Time of the last current demand request, ns; 10 R293; reset 0. -/
  demandAt : Nat := 0
  /-- Time since which the target power has been low, ns; 10 R288; reset none. -/
  lowSince : Option Nat := none
  /-- Time since which the target power has been above the grant, ns; 10 R288; reset none. -/
  highSince : Option Nat := none
  /-- Time of the last refusal of leave, ns; 10 R288; reset none. -/
  refusedAt : Option Nat := none
  /-- A leave request or change is with the arbiter; 1 bit; 10 R288; reset false. -/
  asking : Bool := false
  /-- The stop is an emergency stop; 1 bit; 10 R290; reset false. -/
  emergency : Bool := false
  /-- Time of the stop, ns; 10 R290; reset 0. -/
  stopAt : Nat := 0
  /-- Time since which the current has been below 5 A in a stop, ns; 10 R290; reset none. -/
  smallSince : Option Nat := none
  /-- Time since which the output voltage has been above its limit, ns; 10 R293; reset none. -/
  overSince : Option Nat := none
  /-- Time since which the output current has been below -50 A, ns; 10 R293; reset none. -/
  reverseSince : Option Nat := none
  /-- Messages that failed to decode or were out of sequence; 10 R293; reset 0. -/
  bad : Nat := 0
  /-- Start of the present second of received frames, ns; 10 R293; reset 0. -/
  rxStart : Nat := 0
  /-- Frames received in it; 10 R293; reset 0. -/
  rxCount : Nat := 0
  /-- Frames dropped; 10 R293; reset 0. -/
  dropped : Nat := 0
  /-- SES_STOP commands that wait for CLOSING; 10 R299; reset empty. -/
  stops : List Nat := []
  /-- The leave release has been sent; 1 bit; 10 R284; reset false. -/
  released : Bool := false
  deriving DecidableEq, Repr

/-- What the engine keeps of an outlet. -/
structure OutletLive where
  /-- A vehicle is plugged; 1 bit; 10 R274; reset false. -/
  plugged : Bool := false
  /-- The outlet must report UNPLUGGED before a new session; 1 bit; 10 R274; reset false. -/
  needUnplug : Bool := false
  /-- The vehicle's link is up; 1 bit; 10 R277; reset false (DC). -/
  link : Bool := false
  /-- LOCK_OK since the vehicle was plugged; 1 bit; 10 R284; reset false (DC). -/
  lock : Bool := false
  /-- Disabled; 1 bit; 10 R297; reset false. -/
  disabled : Bool := false
  /-- Weld block; 1 bit, in NVM; 10 R292; reset false (DC). -/
  weld : Bool := false
  /-- Time at which the vehicle reported its contactors open, while the output has not yet fallen below 60 V, ns; 10 R292; reset none. -/
  contactorsAt : Option Nat := none
  /-- Time of the next try without a free context, ns; 10 R284; reset none. -/
  retryAt : Option Nat := none
  /-- SEQ of the next tunnel message sent; 16 bits; 10 R277; reset 0 (DC). -/
  txSeq : Nat := 0
  /-- SEQ of the last tunnel message received; 16 bits; 10 R277; reset none. -/
  tunnelSeq : Option Nat := none
  /-- Gaps in SEQ; 10 R277; reset 0. -/
  gaps : Nat := 0
  deriving DecidableEq, Repr

/-- The session engine. -/
structure Ses where
  /-- Outlet records; 256 of 64 bytes; 10 R275; reset empty. -/
  recs : Tab Rec := []
  /-- Contexts in use, by number; 256; 10 R274; reset empty. -/
  ctxs : Tab Ctx := []
  /-- Outlets; 256; 10 R297; reset enabled. -/
  outlets : Tab OutletLive := []
  /-- TCP segments to vehicles that wait for the acknowledgement of an image: its number, the outlet and the segment; 10 R294; reset empty. -/
  txWait : List (Nat × Nat × TunnelMsg) := []
  deriving DecidableEq, Repr

/-! ### Jasper metrology (chapter 11) -/

/-- Sums over the samples of one legal tick of a channel. Voltages and currents are whole multiples of 1 / (2^15 x 10^256) V and A, products
of their squares; energy is in V A over 1/32,000 s of that unit (R321, R322). -/
structure TickRec where
  /-- Samples; 11 R321; reset 0. -/
  n : Nat := 0
  /-- Sum of v x i over all phases; 11 R322; reset 0. -/
  e : Int := 0
  /-- Reactive counterpart, nWh; 11 R322; reset 0. -/
  q : Int := 0
  /-- Sums of the voltages; 11 R335; reset empty. -/
  v : List Int := []
  /-- Sums of their squares; 11 R335; reset empty. -/
  v2 : List Int := []
  /-- Sums of the currents; 11 R318; reset empty. -/
  i : List Int := []
  /-- Sums of their squares; 11 R318; reset empty. -/
  i2 : List Int := []
  /-- Milliseconds filled, less those that a later block took back; 11 R311; reset 0. -/
  fills : Int := 0
  /-- Part of the sum of v x i that is filled; 11 R311; reset 0. -/
  est : Int := 0
  deriving DecidableEq, Repr

/-- Harmonic results of one quantity (R336). -/
structure HarmBlock where
  /-- Fundamental RMS in 10 mV or 10 mA; 32 bits; 11 R336; no reset value. -/
  fund : Nat
  /-- THD in 0.01 %; 16 bits; 11 R336; no reset value. -/
  thd : Nat
  /-- Orders 2 to 63 in 0.01 % of the fundamental; 16 bits each; 11 R336; no reset value. -/
  orders : List Nat
  deriving DecidableEq, Repr

/-- The last complete harmonic window of a channel (R324, R336). -/
structure HarmResult where
  /-- Legal-clock end of the window, ms; 64 bits; 11 R336; no reset value. -/
  endMs : Nat
  /-- FREQ_MHZ; 32 bits; 11 R336; no reset value. -/
  freq : Nat
  /-- One block per quantity; 11 R336; no reset value. -/
  blocks : List HarmBlock
  deriving DecidableEq, Repr

/-- A meter channel as Jasper runs it (R325). -/
structure MetChan where
  /-- STATE: 0 UNCONFIGURED, 1 STARTING, 2 RUNNING, 3 LOST; 8 bits; 11 R335; reset 0. -/
  state : Nat := 0
  /-- Time of the entry to LOST, ns; 11 R325; reset 0. -/
  lostAt : Nat := 0
  /-- SEQ of the last accepted block; 32 bits; 11 R310; reset none. -/
  seq : Option Nat := none
  /-- Blocks dropped, second copies aside; 11 R310; reset 0. -/
  dropped : Nat := 0
  /-- Consecutive accepted blocks, or clean ticks of J2 samples; 11 R325; reset 0. -/
  run : Nat := 0
  /-- A block has been accepted since the last tick; 1 bit; 11 R311; reset false. -/
  got : Bool := false
  /-- Consecutive missing milliseconds; 11 R311; reset 0. -/
  gap : Nat := 0
  /-- Milliseconds filled since the last accepted block; 11 R311; reset 0. -/
  filled : Nat := 0
  /-- The last accepted block; 11 R311; reset empty. -/
  last : TickRec := {}
  /-- Samples of the tick in progress; 11 R321; reset empty. -/
  cur : TickRec := {}
  /-- Samples already received of the tick after it; 11 R321; reset empty. -/
  nxt : TickRec := {}
  /-- Ticks of the last second, newest first; 11 R335; reset empty. -/
  hist : List TickRec := []
  /-- The last block or tick carried OVERRANGE; 1 bit; 11 R312; reset false. -/
  overrange : Bool := false
  /-- OVERRANGE has been seen since the last tick; 1 bit; 11 R312; reset false. -/
  overTick : Bool := false
  /-- Time since which every block has carried OVERRANGE, ns; 11 R312; reset none. -/
  overSince : Option Nat := none
  /-- GAP_MS; 32 bits, saturating; 11 R335; reset 0. -/
  gapMs : Nat := 0
  /-- CREEP_TICKS; 32 bits, wrapping; 11 R335; reset 0. -/
  creep : Nat := 0
  /-- The last tick lay below the start-up current; 1 bit; 11 R335; reset false. -/
  below : Bool := false
  /-- Harmonics of the last complete window; 11 R324; reset none. -/
  harm : Option HarmResult := none
  deriving DecidableEq, Repr

/-- A pulse output PLS2-PLS7 (R327). -/
structure MetPulse where
  /-- Pulse record; 16 bytes; 11 R327; reset off (DC). -/
  cfg : List Byte := [0xFF, 0xFF, 0, 0, 1, 0, 0, 0, 1, 0, 0, 0, 0, 0, 0, 0]
  /-- Accumulator in nWh x CONST; 11 R327; reset 0. -/
  acc : Nat := 0
  /-- Ticks left of the pulse; 11 R327; reset 0. -/
  high : Nat := 0
  /-- Ticks left of the rest; 11 R327; reset 0. -/
  rest : Nat := 0
  /-- Backlog; 16 bits; 11 R327; reset 0. -/
  backlog : Nat := 0
  /-- Pulses lost; 11 R327; reset 0. -/
  lost : Nat := 0
  /-- Time since which a backlog lasts, ns; 11 R327; reset none. -/
  since : Option Nat := none
  /-- Set in the tick in progress, whose energy it does not take; 1 bit; 11 R337; reset false. -/
  fresh : Bool := false
  deriving DecidableEq, Repr

/-- A legal test output LEG0 or LEG1 (R328, R329). Times are in 10 µs of ticks since the start. -/
structure MetLeg where
  /-- Channel; 9 bits; 11 R329; reset none. -/
  channel : Option Nat := none
  /-- Quantity; 3 bits; 11 R329; reset 0. -/
  qty : Nat := 0
  /-- Accumulator in nWh x LEG_CONST; 11 R328; reset 0. -/
  acc : Nat := 0
  /-- Due instant of the previous pulse; 11 R328; reset none. -/
  lastDue : Option Nat := none
  /-- Earliest start of the next pulse: the end of the rest after the previous one; 11 R328; reset 0. -/
  free : Nat := 0
  /-- Time since which pulses wait, ns; 11 R327; reset none. -/
  since : Option Nat := none
  /-- Selected in the tick in progress, whose energy it does not take; 1 bit; 11 R329; reset false. -/
  fresh : Bool := false
  deriving DecidableEq, Repr

/-- What a Jasper command stores under work leave (R306, R332). -/
inductive MetStore where
  /-- A channel record: channel and record. -/
  | chan (channel : Nat) (r : List Byte)
  /-- A calibration record. -/
  | cal (channel : Nat) (r : List Byte)
  /-- A seal opening for so many minutes with its reason, or a close. -/
  | seal (minutes : Option Nat) (reason : List Byte)
  /-- A pulse record. -/
  | pulse (output : Nat) (r : List Byte)
  /-- A legal output's selection. -/
  | leg (output channel qty : Nat)
  /-- A tariff table version. -/
  | tariff (table : Nat) (r : List Byte)
  /-- The assignment of tables. -/
  | assign (r : List Byte)
  /-- An account record. -/
  | account (account : Nat) (r : List Byte)
  deriving DecidableEq, Repr

/-- Jasper's metrology. -/
structure Met where
  /-- Channel records; 264 of 64 bytes, in NVM; 11 R316; reset empty (DC). -/
  recs : Tab (List Byte) := []
  /-- Calibration records; 264 of 176 bytes, in NVM; 11 R319; reset empty. -/
  cals : Tab (List Byte) := []
  /-- Channels; 264; 11 R325; reset UNCONFIGURED. -/
  chans : Tab MetChan := []
  /-- MET_CAL_SEQ; 32 bits, in NVM; 11 R338; reset 0. -/
  calSeq : Nat := 0
  /-- MET_SEAL_COUNT; 32 bits, in NVM; 11 R338; reset 0. -/
  sealCount : Nat := 0
  /-- End of the seal's opening, ns; none while closed; 11 R308; reset none. -/
  sealEnd : Option Nat := none
  /-- Commands whose store waits or runs; 11 R306; reset empty. -/
  stores : List (Nat × MetStore) := []
  /-- Stored records that wait for the next legal tick; 11 R306; reset empty. -/
  apply : List (Nat × MetStore) := []
  /-- PLS2-PLS7 by output; in NVM; 11 R327; reset off (DC). -/
  pulses : Tab MetPulse := []
  /-- LEG0 and LEG1 by output; 11 R329; reset off. -/
  legs : Tab MetLeg := []
  /-- Active gain step of each J2 current input; 8 of 2 bits; 11 R314; reset 0. -/
  steps : Tab Nat := []
  /-- Consecutive samples of each J2 current input below 20 % of the step's range; 11 R314; reset 0. -/
  calm : Tab Nat := []
  /-- Ticks since the start; 11 R328; reset 0. -/
  ticks : Nat := 0
  /-- READY: the firmware check has passed and Jasper meters; 1 bit; 11 R340; reset 0. -/
  ready : Bool := false
  /-- The MET clock runs; 1 bit; 21 R574; reset false. -/
  clock : Bool := false
  deriving DecidableEq, Repr

/-! ### Jasper billing (chapter 12) -/

/-- An open reading: a session's or a billing period's (R352, R359). -/
structure RdAcc where
  /-- CHANNEL; 9 bits; 12 R360; no reset value. -/
  channel : Nat
  /-- START_MS; 64 bits; 12 R360; reset 0. -/
  start : Nat := 0
  /-- Registers in mWh at the start, by quantity; 12 R360; reset empty. -/
  regs : Tab Nat := []
  /-- RATE_MWH by rate; 12 R360; reset empty. -/
  rates : Tab Nat := []
  /-- Energy x price by rate; 12 R360; reset empty. -/
  cost : Tab Nat := []
  /-- Energy filled under R311, nWh; 12 R360; reset 0. -/
  est : Nat := 0
  /-- RFLAGS; 16 bits; 12 R361; reset 0. -/
  flags : BitVec 16 := 0
  /-- ACCOUNT; 12 bits; 12 R360; reset none. -/
  account : Option Nat := none
  /-- TABLE; 4 bits; 12 R350; reset none. -/
  table : Option Nat := none
  /-- Version with which it opened; 32 bits; 12 R350; reset 0. -/
  version : Nat := 0
  /-- SESSION_FEE; 32 bits; 12 R348; reset 0. -/
  fee : Nat := 0
  /-- Deducted so far; 12 R358; reset 0. -/
  deducted : Nat := 0
  /-- ID; 24 bytes; 12 R360; reset empty. -/
  ident : List Byte := []
  /-- LOSS_BOUND_WH; 32 bits; 12 R371; reset 0. -/
  lossBound : Nat := 0
  /-- TAIL_BOUND_WH; 32 bits; 12 R371; reset 0. -/
  tailBound : Nat := 0
  deriving DecidableEq, Repr

/-- Legal registers and demand of a channel (R346, R351). -/
structure ChanReg where
  /-- Remainders in nWh by quantity; 11 R323; reset 0. -/
  nwh : Tab Nat := []
  /-- Total registers in mWh by quantity; 64 bits; 12 R346; reset 0. -/
  total : Tab Nat := []
  /-- Rate registers in mWh by 8 x quantity + rate; 64 bits; 12 R346; reset 0. -/
  rates : Tab Nat := []
  /-- Energy held apart after a pending boundary, nWh by quantity; 12 R355; reset empty. -/
  apart : Tab Nat := []
  /-- ESTIMATED total, nWh; 11 R311; reset 0. -/
  est : Nat := 0
  /-- Energy of the running demand interval, nWh; 12 R351; reset 0. -/
  dNwh : Nat := 0
  /-- Its duration, ms; 12 R351; reset 0. -/
  dMs : Nat := 0
  /-- Ticks in it; 12 R344; reset 0. -/
  dTicks : Nat := 0
  /-- Rate at its first tick; 3 bits; 12 R351; reset 0. -/
  dRate : Nat := 0
  /-- Its flags, coded as RFLAGS; 16 bits; 12 R355; reset 0. -/
  dFlags : BitVec 16 := 0
  /-- Flags of the last closed interval; 16 bits; 12 R355; reset 0. -/
  dLast : BitVec 16 := 0
  /-- Last fired demand boundary, legal ms; 12 R344; reset 0. -/
  dFired : Nat := 0
  /-- Highest demand of the billing period in W by rate; 12 R351; reset 0. -/
  maxima : Tab Nat := []
  /-- The running billing period; 12 R352; reset none. -/
  period : Option RdAcc := none
  deriving DecidableEq, Repr

/-- What runs of a tariff table's schedules (R344, R349). -/
structure TableRun where
  /-- Rate in force; 3 bits; 12 R349; reset 0. -/
  rate : Nat := 0
  /-- Last fired rate switch, legal ms; 12 R344; reset 0. -/
  switched : Nat := 0
  /-- Last fired activation, legal ms; 12 R344; reset 0. -/
  activated : Nat := 0
  deriving DecidableEq, Repr

/-- Jasper's state as the journal holds it (R369). -/
structure BilLive where
  /-- Legal time, ms; 64 bits; 12 R341; reset 0 (DC). -/
  legal : Nat := 0
  /-- CLOCK_INVALID stands; 1 bit; 12 R342; reset false (DC). -/
  invalid : Bool := false
  /-- Registers and demand by channel; 264; 12 R346; reset empty. -/
  chans : Tab ChanReg := []
  /-- Open session readings by context; 12 R359; reset empty. -/
  opened : Tab RdAcc := []
  /-- BALANCE by account, signed; 64 bits; 12 R356; reset 0. -/
  balance : Tab Int := []
  /-- LAST_TXN by account; 32 bits; 12 R356; reset 0. -/
  txn : Tab Nat := []
  /-- Schedules of the tariff tables; 16; 12 R344; reset empty. -/
  runs : Tab TableRun := []
  /-- Last fired billing boundary, legal ms; 12 R344; reset 0. -/
  period : Nat := 0
  /-- Last fired offset change, legal ms; 12 R344; reset 0. -/
  offset : Nat := 0
  /-- READING_SEQ of the last reading; 32 bits; 12 R360; reset 0. -/
  readSeq : Nat := 0
  /-- Reading slots: reading by READING_SEQ; 4,096 of 432 bytes; 12 R366; reset empty. -/
  readings : Tab (List Byte) := []
  /-- Log entries not acknowledged, by INDEX; 16,384 of 64 bytes; 12 R364; reset empty. -/
  log : Tab (List Byte) := []
  /-- Whether a log entry not acknowledged is marked not for trade, by INDEX; 1 bit; 00 R2; reset empty. -/
  notTrade : Tab Bool := []
  /-- Newest INDEX; 32 bits; 12 R364; reset 0. -/
  logHead : Nat := 0
  /-- INDEX up to which entries are acknowledged; 12 R366; reset 0. -/
  acked : Nat := 0
  /-- The newest entry; 64 bytes; 12 R364; reset zeros. -/
  lastEntry : List Byte := List.replicate 64 0
  /-- Entries that wait for a free place: type, channel, legal ms and data; 12 R367; reset empty. -/
  waiting : List (Nat × Nat × Nat × List Byte) := []
  /-- Newest INDEX copied to the stores; 12 R368; reset 0. -/
  copied : Nat := 0
  /-- Boundary from which energy is held apart, legal ms; 12 R355; reset none. -/
  apartAt : Option Nat := none
  deriving DecidableEq, Repr

/-- A journal entry (R369, R370). -/
structure Journal where
  /-- Sequence number; 12 R369; no reset value. -/
  seq : Nat
  /-- 0 not a commit, 1 first commit, 2 final commit; 2 bits; 12 R370; no reset value. -/
  commit : Nat
  /-- The state it holds; 12 R369; no reset value. -/
  live : BilLive
  deriving DecidableEq, Repr

/-- A tariff table (R348, R350). -/
structure TariffTable where
  /-- Active version; 256 bytes; 12 R348; reset empty (DC). -/
  active : List Byte := []
  /-- Pending version; 256 bytes; 12 R350; reset empty. -/
  pend : List Byte := []
  /-- Legal time at which it becomes active; 64 bits; 12 R348; reset 0. -/
  pendAt : Nat := 0
  /-- Highest version ever set; 32 bits; 12 R348; reset 0. -/
  newest : Nat := 0
  deriving DecidableEq, Repr

/-- Jasper's billing. -/
structure Bil where
  /-- What the journal holds; 12 R369; reset as its fields. -/
  live : BilLive := {}
  /-- Valid journal entry; 12 R369; reset none (DC). -/
  journal : Option Journal := none
  /-- Tariff tables; 16, in NVM; 12 R348; reset empty (DC). -/
  tables : Tab TariffTable := []
  /-- Table assigned to each channel; in NVM; 12 R346; reset none (DC). -/
  assign : Tab Nat := []
  /-- Assignment that waits for the next whole minute: legal ms and 264 bytes; 12 R374; reset none. -/
  assignPend : Option (Nat × List Byte) := none
  /-- Account records without BALANCE and LAST_TXN; 4,096 of 32 bytes, in NVM; 12 R356; reset empty (DC). -/
  accounts : Tab (List Byte) := []
  /-- BIL_CLOCK_SET that waits for the next tick: command and target; 12 R343; reset empty. -/
  clockSets : List (Nat × Nat) := []
  /-- Legal time written to the RTC, and model time in ns at the writing; 12 R342; reset none (DC). -/
  rtc : Option (Nat × Nat) := none
  /-- Legal time at the loss of the MET clock, and model time in ns; 21 R574; reset none. -/
  stopped : Option (Nat × Nat) := none
  /-- Check value of the cold start; 32 bits; 12 R362; reset 0. -/
  check : Nat := 0
  /-- CHECK_OK; 1 bit; 12 R377; reset 0. -/
  checkOk : Bool := false
  /-- Warning tick W, legal ms; 12 R370; reset none. -/
  warnTick : Option Nat := none
  /-- Jasper registers; 1 bit; 12 R370; reset false. -/
  registers : Bool := false
  /-- RECOVERED; 1 bit; 12 R377; reset 0. -/
  recovered : Bool := false
  /-- STORE_FULL; 1 bit; 12 R367; reset 0. -/
  full : Bool := false
  /-- A store is below 25 % free; 1 bit; 12 R367; reset false. -/
  quarter : Bool := false
  /-- A store is below its reserve; 1 bit; 12 R367; reset 0. -/
  low : Bool := false
  /-- Latched BIL_CLOCK_HI; 32 bits; 12 R377; reset 0. -/
  clockHi : Nat := 0
  deriving DecidableEq, Repr

/-! ### Gauge domain (chapter 13) -/

/-- A buffer-battery string (R383, R388, R392). -/
structure GStr where
  /-- String record; 32 bytes; 13 R382; no reset value. -/
  cfg : Rec
  /-- STATE: 1 UNANCHORED, 2 COUNTING (0 UNCONFIGURED has no entry); 8 bits; 13 R388; reset 1. -/
  state : Nat := 1
  /-- Q in mA s; 64 bits; 13 R383; reset 0. -/
  q : Nat := 0
  /-- Q_L in mA s; 64 bits; 13 R383; reset CAP_RATED_AH at configuration. -/
  qL : Nat := 0
  /-- D in mA s; 64 bits; 13 R383; reset 0. -/
  d : Nat := 0
  /-- DEFICIT; 1 bit; 13 R392; reset false. -/
  deficit : Bool := false
  /-- LEARN_LOST; 1 bit; 13 R387; reset false. -/
  learnLost : Bool := false
  /-- NO_VOLTAGE; 1 bit; 13 R388; reset false. -/
  noVoltage : Bool := false
  /-- PAIR_OPEN; 1 bit; 13 R384; reset false. -/
  pairOpen : Bool := false
  /-- LEARN_CLAMP of the last learning; 1 bit; 13 R385; reset false. -/
  learnClamp : Bool := false
  /-- LEARNS; 16 bits; 13 R392; reset 0. -/
  learns : BitVec 16 := 0
  /-- Last current in mA, discharge positive; 32 bits, signed; 13 R392; reset 0. -/
  iMa : Int := 0
  /-- V_MV of the last frame; 32 bits; 13 R381; reset 0. -/
  vMv : Nat := 0
  /-- CELL_MIN_MV of the last frame; 16 bits; 13 R381; reset 0. -/
  cellMin : Nat := 0
  /-- CELL_MAX_MV of the last frame; 16 bits; 13 R381; reset 0. -/
  cellMax : Nat := 0
  /-- SEQ of the last accepted frame; 8 bits; 13 R381; reset none. -/
  seq : Option Nat := none
  /-- Time of the last accepted frame, ns; 13 R381; reset none. -/
  frameAt : Option Nat := none
  /-- Time since which the full condition holds, ns; 13 R384; reset none. -/
  fullSince : Option Nat := none
  /-- Time since which the empty condition holds, ns; 13 R384; reset none. -/
  emptySince : Option Nat := none
  /-- The full or empty anchor of the present condition has been declared; 1 bit; 13 R384; reset false. -/
  anchored : Bool := false
  deriving DecidableEq, Repr

/-- A string's entry in a journal slot (R386). -/
structure GEntry where
  /-- Q; 64 bits; 13 R386; no reset value. -/
  q : Nat
  /-- Q_L; 64 bits; 13 R386; no reset value. -/
  qL : Nat
  /-- D; 64 bits; 13 R386; no reset value. -/
  d : Nat
  /-- STATE; 8 bits; 13 R386; no reset value. -/
  state : Nat
  /-- GFLAGS; 8 bits; 13 R386; no reset value. -/
  flags : Nat
  /-- LEARNS; 16 bits; 13 R386; no reset value. -/
  learns : Nat
  deriving DecidableEq, Repr

/-- A journal slot (R386); erased it reads all ones. -/
structure GSlot where
  /-- MAGIC, ASCII GJNL in a written slot; 32 bits; 13 R386; reset 0xFFFFFFFF, erased (DC). -/
  magic : Nat := 0xFFFFFFFF
  /-- SEQ; 32 bits; 13 R386; reset 0xFFFFFFFF, erased (DC). -/
  seq : Nat := 0xFFFFFFFF
  /-- REASON: 0 periodic, 1 learning, 2 hibernation, 3 brown-out; 8 bits; 13 R386; reset 0xFF, erased (DC). -/
  reason : Nat := 0xFF
  /-- ENTRY by string; 1,024 bytes; 13 R386; reset empty. -/
  entries : Tab GEntry := []
  /-- CRC; 32 bits; 13 R386; reset 0xFFFFFFFF, erased (DC). -/
  crc : Nat := 0xFFFFFFFF
  deriving DecidableEq, Repr

/-- The gauge domain, an island. -/
structure Gau where
  /-- BATAUX powers the domain; 1 bit; 13 R378; reset true (DC). -/
  on : Bool := true
  /-- The domain hibernates; 1 bit; 13 R379; reset false. -/
  hibernating : Bool := false
  /-- Time up to which self-discharge is counted in hibernation, ns; 13 R379; reset 0. -/
  hibAt : Nat := 0
  /-- Strings; 32; 13 R382; reset UNCONFIGURED. -/
  strings : Tab GStr := []
  /-- Journal slot 0; 1,044 bytes; 13 R386; reset erased (DC). -/
  jA : GSlot := {}
  /-- Journal slot 1; 1,044 bytes; 13 R386; reset erased (DC). -/
  jB : GSlot := {}
  /-- Time of the last journal write, ns; 13 R386; reset 0. -/
  journalAt : Nat := 0
  /-- Time of the last direct shunt current at or above its I_WAKE_DA, ns; 13 R379; reset 0. -/
  shuntAt : Nat := 0
  /-- Time of the last string frame, ns; 13 R379; reset 0. -/
  lastFrame : Nat := 0
  /-- Time of the last report to the arbiter, ns; 13 R389; reset none. -/
  reportAt : Option Nat := none
  /-- Each string's term of the last report, in kWh; 13 R389; reset empty. -/
  terms : Tab Nat := []
  deriving DecidableEq, Repr
/-! ### Point directory (chapter 14) -/

/-- An entry of the directory (R399); an address without an entry is not defined. -/
structure Point where
  /-- VALUE, in its container; 64 bits; 14 R399; reset 0. -/
  value : Nat := 0
  /-- TIME in ns of TAI; 64 bits; 14 R399; reset 0. -/
  time : Nat := 0
  /-- QUALITY; 16 bits; 14 R400; reset DEFINED. -/
  quality : Nat := 1
  /-- TYPE; 8 bits; 14 R399; reset 6 (a host point's, R396). -/
  type : Nat := 6
  /-- UNIT; 8 bits; 14 R399; reset 0. -/
  unit : Nat := 0
  /-- SCALE, signed; 8 bits; 14 R399; reset 0. -/
  scale : Int := 0
  /-- Scan class of the catalogue; 8 bits; 14 R401; reset 7 (a host point has no period, assumption 37). -/
  cls : Nat := 7
  /-- Deadband of the catalogue; 16 bits; 14 R401; reset 0. -/
  deadband : Nat := 0
  /-- SEQ, wrapping; 32 bits; 14 R399; reset 0. -/
  seq : Nat := 0
  /-- Time of the last accepted update, or of the definition, ns; 14 R406; reset 0. -/
  lastAt : Nat := 0
  deriving DecidableEq, Repr

/-- A subscription (R408). -/
structure PtSub where
  /-- FIRST; 25 bits; 14 R414; no reset value. -/
  first : Nat
  /-- COUNT; 23 bits; 14 R414; no reset value. -/
  count : Nat
  /-- Addresses whose change bit is set; 1 bit each; 14 R408; reset none. -/
  bits : Tab Unit := []
  deriving DecidableEq, Repr

/-- The point directory. -/
structure Pt where
  /-- Entries of module and node points by address; 32 bytes; 14 R399; reset empty. -/
  points : Tab Point := []
  /-- Host points written, by index; 512 of 32 bytes; 14 R413; reset empty. -/
  host : Tab Point := []
  /-- PT_WRITE values not yet applied, oldest first: index, value and time; 14 R413; reset empty. -/
  hostWait : List (Nat × Nat × Nat) := []
  /-- Point updates that wait for the next site cycle, in order of arrival: address, update and time; 14 R404; reset empty. -/
  updates : List (Nat × PointRecord × Nat) := []
  /-- VERSION of the catalogue in force, by node; 32 bits; 14 R398; reset empty. -/
  versions : Tab Nat := []
  /-- Override entries by FIRST; 8,192 of 16 bytes; 14 R412; reset empty. -/
  overrides : Tab Rec := []
  /-- Subscriptions, key 16 x host-table entry + number; 14 R408; reset empty. -/
  subs : Tab PtSub := []
  /-- Updates applied and discarded since the last second began; 14 R416; reset 0. -/
  applied : Nat := 0
  /-- Updates discarded since the last second began; 14 R416; reset 0. -/
  discarded : Nat := 0
  /-- APPLIED, of the last full second; 32 bits; 14 R416; reset 0. -/
  appliedSec : Nat := 0
  /-- DISCARDED, of the last full second; 32 bits; 14 R416; reset 0. -/
  discardedSec : Nat := 0
  /-- The planned load stood above PT_LOAD_WARN_PCT when last formed; 1 bit; 14 R405; reset false. -/
  loadHigh : Bool := false
  deriving DecidableEq, Repr
/-! ### Ohmyar busbar link (chapter 15) -/

/-- A tone map (R423). -/
structure Tmap where
  /-- Generation; 4 bits; 15 R425; reset 0 (DC). -/
  gen : Nat := 0
  /-- Code rate: 0 1/2, 1 2/3, 2 3/4, 3 5/6; 2 bits; 15 R437; reset 0. -/
  rate : Nat := 0
  /-- Modulation codes by carrier; 1,074 of 4 bits; 15 R420; reset none. -/
  codes : List Nat := []
  /-- Sum of SNR - T - O(R) at the creation over the carriers that are not off, 0.01 dB; 15 R423; reset 0. -/
  sum : Int := 0
  /-- Number of those carriers; 15 R423; reset 0. -/
  used : Nat := 0
  /-- Time at which the map came into force, ns; 15 R437; reset 0. -/
  since : Nat := 0
  /-- Margins of the frames received under it, 0.01 dB, newest first, at most 16; 15 R424; reset empty. -/
  margins : List Int := []
  deriving DecidableEq, Repr

/-- A busbar node. -/
structure PlcNode where
  /-- The node has joined; 1 bit; 15 R434; reset false. -/
  joined : Bool := false
  /-- Bytes of its fixed part downstream; 10 bits; 15 R428; reset 0. -/
  fixDn : Nat := 0
  /-- Bytes of its fixed part upstream; 10 bits; 15 R428; reset 0. -/
  fixUp : Nat := 0
  /-- Downstream map in force; 15 R423; reset none. -/
  dn : Option Tmap := none
  /-- Upstream map in force; 15 R423; reset none. -/
  up : Option Tmap := none
  /-- The maps before them; 15 R425; reset none. -/
  prevDn : Option Tmap := none
  /-- The map before it; 15 R425; reset none. -/
  prevUp : Option Tmap := none
  /-- Maps of the refresh under way; 15 R425; reset none. -/
  newDn : Option Tmap := none
  /-- Map of the refresh under way; 15 R425; reset none. -/
  newUp : Option Tmap := none
  /-- Generation of the maps built last; 4 bits; 15 R425; reset 0 (DC). -/
  gen : Nat := 0
  /-- That generation has not been accepted yet; 1 bit; 15 R425; reset false. -/
  genOpen : Bool := false
  /-- Refresh: 0 none, 1 sounding, 2 map exchange, 3 in force next; 2 bits; 15 R425; reset 0. -/
  refresh : Nat := 0
  /-- The refresh was triggered at once: the slot is robust; 1 bit; 15 R424; reset false. -/
  urgent : Bool := false
  /-- Time of the last refresh, ns; 15 R424; reset 0. -/
  refreshAt : Nat := 0
  /-- CONSEC_ERR; 8 bits; 15 R436; reset 0. -/
  consec : Nat := 0
  /-- EXCHANGES, wrapping; 32 bits; 15 R436; reset 0. -/
  exchanges : Nat := 0
  /-- FAILED, wrapping; 32 bits; 15 R436; reset 0. -/
  failed : Nat := 0
  /-- REPOLLS, wrapping; 32 bits; 15 R436; reset 0. -/
  repolls : Nat := 0
  /-- REFRESHES, wrapping; 32 bits; 15 R436; reset 0. -/
  refreshes : Nat := 0
  /-- The slot of this cycle: 0 not polled or answered, 1 polled, 2 failed with a re-poll due, 3 re-polled, 4 missed; 3 bits; 15 R430; reset 0. -/
  slot : Nat := 0
  /-- The slot of this cycle runs under the tone maps; 1 bit; 15 R424; reset false. -/
  mapped : Bool := false
  /-- Polled in alternate cycles, the cycle being overfull; 1 bit; 15 R429; reset false. -/
  overfull : Bool := false
  /-- Its demotion came from an overfull cycle; 1 bit; 15 R429; reset false. -/
  fromOver : Bool := false
  /-- Bulk data wait between the node and the module; 1 bit; 15 R426; reset false. -/
  bulk : Bool := false
  /-- Window at the start of the cycle of its last poll; 15 R428; reset 0. -/
  polledAt : Nat := 0
  /-- Window at the start of the cycle of the poll before; 15 R428; reset 0. -/
  polledBefore : Nat := 0
  /-- Loop words for the next poll: CMD and CSTATE by channel order; 15 R428; reset empty. -/
  words : List (Option (Int × Nat)) := []
  deriving DecidableEq, Repr

/-- The busbar link. -/
structure Plc where
  /-- MASTER: the module holds the segment; 1 bit; 15 R441; reset 0. -/
  master : Bool := false
  /-- Time from which silence is counted, none when a release has freed the segment; 15 R433; reset 0. -/
  heardAt : Option Nat := some 0
  /-- Time of the last beacon of another issuer, ns; 15 R441; reset none. -/
  foreignAt : Option Nat := none
  /-- Earliest start of the next poll cycle, ns; 15 R426; reset 0. -/
  nextAt : Nat := 0
  /-- Poll cycles begun; 15 R434; reset 0. -/
  cycles : Nat := 0
  /-- The discovery window of this cycle is still to come; 1 bit; 15 R427; reset false. -/
  discovery : Bool := false
  /-- Re-polls begun in this cycle; 15 R430; reset 0. -/
  used : Nat := 0
  /-- The node that had the last exchange of a bulk period; 16 bits; 15 R426; reset 0 (DC). -/
  bulkLast : Nat := 0
  /-- The last beacon was sent as the active module; 1 bit; 15 R433; reset false. -/
  led : Bool := false
  /-- Epoch of the last beacon; 32 bits; 15 R427; reset 0. -/
  epoch : Nat := 0
  /-- COUNT of beacons, wrapping; 32 bits; 15 R441; reset 0. -/
  beacons : Nat := 0
  /-- Carrier mask, bit c for carrier c; 1,074 bits; 15 R422; reset 0 (DC). -/
  mask : BitVec 1088 := 0
  /-- Carrier mask from the next cycle; 15 R438; reset none. -/
  maskNext : Option (BitVec 1088) := none
  /-- Busbar nodes by address; 15 R436; reset empty. -/
  nodes : Tab PlcNode := []
  /-- PLC_TMAP_REFRESH commands in flight: serial number, node and cycles left; 15 R438; reset empty. -/
  waits : List (Nat × Nat × Nat) := []
  /-- Second that the present counts belong to; 15 R441; reset 0. -/
  second : Nat := 0
  /-- Re-polls in this second; 16 bits; 15 R441; reset 0. -/
  repolls : Nat := 0
  /-- Missed slots in this second; 16 bits; 15 R441; reset 0. -/
  missed : Nat := 0
  /-- REPOLLS of the last full second; 16 bits; 15 R441; reset 0. -/
  lastRepolls : Nat := 0
  /-- MISSED of the last full second; 16 bits; 15 R441; reset 0. -/
  lastMissed : Nat := 0
  /-- In lockstep mode, for the next INPUTS: due instances of a busbar node, window and words of its response; 20 R559; reset empty. -/
  fwdPolls : List (List Nat × Nat × Option (List (Int × Int))) := []
  deriving DecidableEq, Repr
/-! ### CAN FD controllers (chapter 16) -/

/-- A pending transmit entry (R446, R448). -/
structure CanTxEntry where
  /-- Frame entry; 80 bytes; 16 R446; no reset value. -/
  frame : Rec
  /-- The CAN_TX in flight that queued it, none for a telegram of Granite; 16 R445; no reset value. -/
  uid : Option Nat
  deriving DecidableEq, Repr

/-- A CAN_TX in flight: frames queued, sent and failed (R456). -/
structure CanTxCmd where
  /-- Frames queued; 5 bits; 16 R456; no reset value. -/
  total : Nat
  /-- Frames sent; 5 bits; 16 R456; reset 0. -/
  sent : Nat := 0
  /-- Frames failed; 5 bits; 16 R456; reset 0. -/
  failed : Nat := 0
  deriving DecidableEq, Repr

/-- A running CAN_DETECT (R450). -/
structure CanDetect where
  /-- The command in flight; 16 R456; no reset value. -/
  uid : Nat
  /-- APPLY; 1 bit; 16 R456; no reset value. -/
  apply : Bool
  /-- Time of its start, ns; 16 R456; no reset value. -/
  start : Nat
  /-- End of TIMEOUT_MS, ns; 16 R456; no reset value. -/
  deadline : Nat
  /-- Candidate being tried; 3 bits; 16 R450; no reset value. -/
  cand : Nat
  /-- Consecutive frames without error; 2 bits; 16 R450; reset 0. -/
  good : Nat := 0
  /-- One of them carried BRS; 1 bit; 16 R450; reset false. -/
  brs : Bool := false
  /-- Time of the last frame, or of the change to the candidate, ns; 16 R450; no reset value. -/
  since : Nat
  deriving DecidableEq, Repr

/-- A controller. -/
structure CanCtl where
  /-- Configuration record; 512 bytes; 16 R444; reset zeros (DC). -/
  cfg : Rec := []
  /-- Held receive entries, oldest first; 64 of 80 bytes; 16 R446; reset empty. -/
  rx : List Rec := []
  /-- SEQ of the next receive entry, wrapping; 16 bits; 16 R446; reset 0. -/
  seq : Nat := 0
  /-- Transmit entries by number; 32; 16 R448; reset empty. -/
  tx : Tab CanTxEntry := []
  /-- CAN_TX commands in flight by serial number; 16 R456; reset empty. -/
  cmds : Tab CanTxCmd := []
  /-- TEC; 9 bits; 16 R459; reset 0. -/
  tec : Nat := 0
  /-- REC; 8 bits; 16 R459; reset 0. -/
  recCount : Nat := 0
  /-- The controller is bus-off; 1 bit; 16 R451; reset false. -/
  busoff : Bool := false
  /-- The recovery sequence runs; 1 bit; 16 R451; reset false. -/
  recovering : Bool := false
  /-- BUSOFF_LOCK; 1 bit; 16 R451; reset 0. -/
  lock : Bool := false
  /-- Time of the present bus-off, ns; 16 R451; reset 0. -/
  offAt : Nat := 0
  /-- Times of the bus-off entries of the last 60 s, ns; 16 R451; reset empty. -/
  offs : List Nat := []
  /-- BUSOFF, wrapping; 16 bits; 16 R459; reset 0. -/
  busoffs : Nat := 0
  /-- RX_DROPPED, wrapping; 16 bits; 16 R459; reset 0. -/
  dropped : Nat := 0
  /-- RX_OVERRUN; 1 bit; 16 R459; reset 0. -/
  overrun : Bool := false
  /-- Time of the last CAN_RX_OVERRUN event, ns; 16 R447; reset none. -/
  overrunAt : Option Nat := none
  /-- A running detection; 16 R450; reset none. -/
  detect : Option CanDetect := none
  /-- CAN_RECOVER commands in flight; 16 R456; reset empty. -/
  recover : List Nat := []
  deriving DecidableEq, Repr

/-- The CAN controllers. -/
structure Can where
  /-- Controllers 0 to 3; 16 R442; reset as CanCtl. -/
  ctls : Tab CanCtl := []
  /-- Time at which the timestamp counter stood at 0, ns; 16 R449; reset 0 (DC). -/
  start : Nat := 0
  /-- Wrap count; 8 bits; 16 R459; reset 0. -/
  wrap : Nat := 0
  /-- Wraps of the counter that the wrap count holds; 16 R449; reset 0. -/
  wraps : Nat := 0
  /-- CAN_TS_LATCH; 32 bits; 16 R459; reset 0. -/
  latch : Nat := 0
  /-- Latched wrap count; 8 bits; 16 R456; reset 0. -/
  latchWrap : Nat := 0
  /-- System time of the latching site cycle, ns; 64 bits; 16 R456; reset 0. -/
  latchAt : Nat := 0
  /-- TIMING of CAN3 as the gauge domain holds it; 12 bytes; 16 R453; reset zeros (DC). -/
  gaugeTiming : Rec := []
  /-- The timing that the gauge domain has been asked to store, and when, ns; 16 R453; reset none. -/
  gaugeWanted : Option (Rec × Nat) := none
  deriving DecidableEq, Repr

/-! ### Obsidian (chapter 17) -/

/-- A key slot (R462 to R464, R467): the attribute record and the key as two shares. -/
structure KeySlot where
  /-- TYPE; 8 bits; 17 R464; reset 0. -/
  type : Nat := 0
  /-- SFLAGS; 8 bits; 17 R464; reset 0. -/
  flags : Nat := 0
  /-- USES; 16 bits; 17 R464; reset 0. -/
  uses : Nat := 0
  /-- MASTERS; 8 bits; 17 R464; reset 0. -/
  masters : Nat := 0
  /-- WORLDS; 8 bits; 17 R464; reset 0. -/
  worlds : Nat := 0
  /-- LIFECYCLES; 8 bits; 17 R464; reset 0. -/
  lifecycles : Nat := 0
  /-- KEY_ID; 8 bytes; 17 R464; reset zeros (DC). -/
  keyId : List Byte := List.replicate 8 0
  /-- Public key, certificate or certificate chain held with the key; up to 8,192 bytes; 17 R469; reset empty (DC). -/
  cert : List Byte := []
  /-- Share 1 of the key: the mask; 17 R467; reset 0 (DC). -/
  mask : Nat := 0
  /-- Share 2: the key XOR the mask; 17 R467; reset 0 (DC). -/
  share : Nat := 0
  deriving DecidableEq, Repr

/-- A tamper record (R477, R481). -/
structure TamperRec where
  /-- RTC time in ms; 64 bits; 17 R481; no reset value. -/
  rtcMs : Nat
  /-- Source bits; 6 bits; 17 R481; no reset value. -/
  sources : BitVec 6
  /-- Life-cycle state at the event; 8 bits; 17 R481; no reset value. -/
  lifecycle : Nat
  deriving DecidableEq, Repr

/-- The enrolment record of a node (R473). -/
structure Enrolment where
  /-- MASTER_SLOT; 16 bits; 17 R473; no reset value. -/
  master : Nat
  /-- GENERATION; 32 bits; 17 R473; no reset value. -/
  generation : Nat
  /-- IDENTITY; 16 bytes; 17 R473; no reset value. -/
  identity : List Byte
  /-- Node-key slot; 17 R462; no reset value. -/
  slot : Nat
  /-- Start-up current that a head reports at enrolment, mA; 11 R318; no reset value. -/
  startMa : Nat
  deriving DecidableEq, Repr

/-- A key update or decommissioning in flight (R471, R473, R484). -/
structure ObsWork where
  /-- The command in flight; 17 R471; no reset value. -/
  uid : Nat
  /-- OP of the message, 0 for OBS_DECOMMISSION; 8 bits; 17 R468; no reset value. -/
  op : Nat
  /-- SLOT; 16 bits; 17 R468; no reset value. -/
  slot : Nat
  /-- Header, 64 bytes; 17 R468; no reset value. -/
  header : List Byte
  /-- Body; 17 R469; no reset value. -/
  body : List Byte
  /-- The store has ended and ENROL waits for the node's acknowledgement, until this time in ns; 17 R473; reset none. -/
  ackBy : Option Nat := none
  deriving DecidableEq, Repr

/-- Obsidian. -/
structure Obs where
  /-- Occupied slots, persistent 0-255 and volatile 256-1,279; 17 R462; reset the factory slots 0 to 3 of R466 (WORLDS of slot 3 DC). -/
  slots : Tab KeySlot := [
    (0, { type := 1, flags := 14, uses := 65, masters := 17, worlds := 2, lifecycles := 14 }),
    (1, { type := 1, flags := 14, uses := 1025, masters := 8, worlds := 2, lifecycles := 14 }),
    (2, { type := 5, flags := 14, uses := 16388, masters := 16, worlds := 2, lifecycles := 14 }),
    (3, { type := 2, flags := 12, uses := 4098, masters := 17, worlds := 3, lifecycles := 14 })]
  /-- Certificates 0 to 3 of the identity chain, DER; 17 R461; reset four empty certificates (DC: the contents are the part's own). -/
  chain : List (List Byte) := [[], [], [], []]
  /-- OBS_UPD_COUNT; 32 bits, in NVM; 17 R468; reset 0 (DC). -/
  count : Nat := 0
  /-- LIFECYCLE; 3 bits, in NVM; 17 R475; reset 1 PROVISIONED. -/
  lifecycle : Nat := 1
  /-- End of SERVICE, ns; 17 R475; reset none. -/
  serviceEnd : Option Nat := none
  /-- LID_EN; 1 bit, in NVM; 17 R469; reset 0 (DC). -/
  lidEn : Bool := false
  /-- Sources firing now, armed or not; 6 bits; 17 R476; reset 0. -/
  live : BitVec 6 := 0
  /-- The mesh is open; 1 bit; 17 R475; reset false (DC). -/
  meshOpen : Bool := false
  /-- The mesh resistance has been learnt; 1 bit; 17 R475; reset false. -/
  meshLearnt : Bool := false
  /-- BKBAT in mV; 12 bits; 17 R487; reset 0. -/
  bkbat : Nat := 0
  /-- BKBAT_WARN; 1 bit; 17 R487; reset 0. -/
  bkbatWarn : Bool := false
  /-- The key-encryption key lives in the coin-cell domain; 1 bit; 17 R462; reset false. -/
  kekCoin : Bool := false
  /-- ZEROISED: keys have been zeroised; 1 bit; 17 R487; reset 0. -/
  zeroised : Bool := false
  /-- The coin-cell domain holds a tamper not yet taken up at a start-up: its source bits; 6 bits; 17 R478; reset none. -/
  latch : Option (BitVec 6) := none
  /-- Tamper records, newest first; 8; 17 R477; reset empty. -/
  records : List TamperRec := []
  /-- The partition's encrypted copies wait to be erased at the next start-up; 1 bit; 17 R477; reset false. -/
  eraseDue : Bool := false
  /-- Enrolment records by node; in NVM; 17 R473; reset empty (DC). -/
  enrolled : Tab Enrolment := []
  /-- READY: Obsidian has started; 1 bit; 17 R487; reset 0. -/
  ready : Bool := false
  /-- PAIR_KEYED; 1 bit; 17 R487; reset 0. -/
  pairKeyed : Bool := false
  /-- The working slot that holds the pair key; 11 bits; 17 R474; reset none. -/
  pairSlot : Option Nat := none
  /-- Commands whose store is in progress; 17 R471; reset empty. -/
  work : List ObsWork := []
  /-- Time of the last re-masking, ns; 17 R467; reset 0. -/
  maskedAt : Nat := 0
  deriving DecidableEq, Repr

/-! ### Granite (chapter 18) -/

/-- One channel of a safe input. -/
structure GrnChan where
  /-- Sampled level; 1 bit; 18 R491; reset low (DC). -/
  raw : Bool := false
  /-- Level that counts, after the filter or debounce; 1 bit; 18 R492; reset low (DC). -/
  level : Bool := false
  /-- Time of the last change of the sampled level, ns; 18 R492; reset 0. -/
  since : Nat := 0
  /-- Times of the sampled edges of the last second, ns; 18 R493; reset empty. -/
  edges : List Nat := []
  /-- Chatter lock-out of a mode-3 input; 1 bit; 18 R495; reset false. -/
  chatter : Bool := false
  deriving DecidableEq, Repr

/-- A safe input pair. -/
structure GrnIn where
  /-- Channel A; 18 R491; reset as GrnChan. -/
  a : GrnChan := {}
  /-- Channel B; 18 R491; reset as GrnChan. -/
  b : GrnChan := {}
  /-- In demand; 1 bit; 18 R492; reset false (DC). -/
  demand : Bool := false
  /-- Faulty; 1 bit; 18 R493; reset false (DC). -/
  faulty : Bool := false
  /-- Time since which the channels disagree, ns; 18 R493; reset none. -/
  discSince : Option Nat := none
  /-- Time since which both channels agree at the non-demand level, ns; 18 R493; reset none. -/
  calmSince : Option Nat := none
  deriving DecidableEq, Repr

/-- A safe output pair. -/
structure GrnOut where
  /-- Closed; 1 bit; 18 R497; reset false. -/
  closed : Bool := false
  /-- Cause of its lock-out as in R511, 0 none; 8 bits, in NVM; 18 R511; reset 0 (DC). -/
  cause : Nat := 0
  /-- High-side test failed; 1 bit; 18 R519; reset false (DC). -/
  highFail : Bool := false
  /-- Low-side test failed; 1 bit; 18 R519; reset false (DC). -/
  lowFail : Bool := false
  /-- Weld; 1 bit; 18 R519; reset false (DC). -/
  weld : Bool := false
  /-- Feedback; 1 bit; 18 R519; reset false (DC). -/
  feedback : Bool := false
  /-- Time of the last change of CLOSED while its feedback is awaited, ns; 18 R499; reset none. -/
  changedAt : Option Nat := none
  /-- Time of the last test pulses, or of the closing, ns; 18 R498; reset 0. -/
  testedAt : Nat := 0
  deriving DecidableEq, Repr

/-- A black-channel connection. -/
structure GrnConn where
  /-- STATE: 0 unused, 1 STARTING, 2 RUN, 3 FAULTY; 8 bits; 18 R504; reset 1. -/
  state : Nat := 1
  /-- Last accepted SEQ, none before the first telegram after STARTING; 16 bits; 18 R503; reset none. -/
  seqIn : Option Nat := none
  /-- SEQ of the last telegram sent; 16 bits, wrapping; 18 R501; reset 0 (DC). -/
  seqOut : BitVec 16 := 0
  /-- Times of the CRC errors of the last hour, ns; 18 R503; reset empty. -/
  crcAt : List Nat := []
  /-- FAULTY entries; 16 bits, wrapping; 18 R519; reset 0. -/
  faults : BitVec 16 := 0
  /-- Consecutive accepted telegrams; 18 R504; reset 0. -/
  run : Nat := 0
  /-- Time of the last accepted telegram, ns; 18 R503; reset none. -/
  lastAt : Option Nat := none
  /-- Time of the cold start or commit, ns; 18 R504; reset 0. -/
  startAt : Nat := 0
  /-- Inbound payload of the last state telegram; 4 bytes; 18 R502; reset safe values. -/
  inb : List Byte := [0, 0, 0, 0]
  /-- Outbound payload last sent; 18 R502; reset empty. -/
  outb : List Byte := []
  /-- Time of the last telegram sent, ns; 18 R503; reset 0. -/
  sentAt : Nat := 0
  deriving DecidableEq, Repr

/-- A safety configuration image (R516). -/
structure GrnImage where
  /-- Header; 32 bytes; 18 R516; reset the factory header: TP_PERIOD_MS 1,000, TP_US 500, CRC_MAX 10, RESET_WINDOW_S 30, UDP_PORT 4872. -/
  header : Rec := [0x47, 0x43, 0x46, 0x47, 1, 0, 0, 0, 0xE8, 3, 0xF4, 1, 10, 0, 30, 0, 8, 0x13] ++ List.replicate 14 0
  /-- Input records; 16 of 16 bytes; 18 R491; reset unused. -/
  inputs : Tab Rec := []
  /-- Output records; 8 of 16 bytes; 18 R496; reset unused. -/
  outputs : Tab Rec := []
  /-- Connection records by CONN; 32 bytes; 18 R509; reset none. -/
  conns : Tab Rec := []
  deriving DecidableEq, Repr

/-- A reset arm (R514, R519). -/
structure GrnArm where
  /-- OUT_MASK; 8 bits; 18 R519; no reset value. -/
  outMask : Nat
  /-- IN_MASK; 16 bits; 18 R519; no reset value. -/
  inMask : Nat
  /-- Outlets; 256 bits; 18 R519; no reset value. -/
  outlets : List Nat
  /-- End of its life, ns; 18 R517; no reset value. -/
  expiry : Nat
  deriving DecidableEq, Repr

/-- Granite. -/
structure Grn where
  /-- Active image; 18 R516; reset the factory image (in NVM). -/
  image : GrnImage := {}
  /-- Pending image; 18 R519; reset none. -/
  pendingImg : Option GrnImage := none
  /-- Safe input pairs by number; 16; 18 R491; reset as GrnIn. -/
  inputs : Tab GrnIn := []
  /-- Safe output pairs by number; 8; 18 R496; reset as GrnOut. -/
  outputs : Tab GrnOut := []
  /-- Outlet lock-outs with their causes; 256 of 8 bits, in NVM; 18 R511; reset empty (DC). -/
  locks : Tab Nat := []
  /-- Outlets with a trip cause present; 256 bits; 18 R519; reset empty. -/
  present : List Nat := []
  /-- Connections by CONN; 512; 18 R504; reset STARTING for each record. -/
  conns : Tab GrnConn := []
  /-- Reset arm in force; 18 R519; reset none. -/
  arm : Option GrnArm := none
  /-- GRN_CONFIG_COMMIT that waits for a reset pulse, and its limit in ns; 18 R519; reset none. -/
  commit : Option (Nat × Nat) := none
  /-- Module safe state; 1 bit; 18 R512; reset false. -/
  safeState : Bool := false
  /-- Granite has halted; 1 bit; 18 R512; reset false. -/
  halted : Bool := false
  /-- Consecutive failed clock checks; 18 R513; reset 0. -/
  clockFails : Nat := 0
  /-- SRESET has been high for more than 2.0 s; 1 bit; 18 R514; reset false. -/
  tooLong : Bool := false
  /-- Outlets and outputs (0x100 + n) that a reset cleared, with the end of the time in which they are not taken back from the partner, ns; 18 R506;
  reset empty. -/
  cleared : Tab Nat := []
  /-- READY: Granite has started with a valid configuration; 1 bit; 18 R521; reset 0. -/
  ready : Bool := false
  deriving DecidableEq, Repr

/-! ### Fault collector (chapter 19) -/

/-- What the collector keeps of one source (R522, R533). -/
structure FltSrc where
  /-- Sticky bit; 1 bit; 19 R522; reset 0. -/
  set : Bool := false
  /-- Occurrences since cold reset, wrapping; 32 bits; 19 R533; reset 0. -/
  count : BitVec 32 := 0
  /-- Object of the last occurrence; 32 bits; 19 R533; reset 0. -/
  lastObject : Nat := 0
  /-- System time of the last occurrence in ns; 64 bits; 19 R533; reset 0. -/
  lastTime : Nat := 0
  /-- Time of the last FLT_SET event in ns; 19 R537; reset none. -/
  lastEvent : Option Nat := none
  deriving DecidableEq, Repr

/-- A hold of one source on one object (R526). -/
structure Hold where
  /-- Source; 9 bits; 19 R526; no reset value. -/
  source : Nat
  /-- Object; 32 bits; 19 R526; no reset value. -/
  object : Nat
  /-- Reaction it was set under: 1 DEGRADE, 2 FENCE, 3 SAFE; 2 bits; 19 R527; no reset value. -/
  reaction : Nat
  deriving DecidableEq, Repr

/-- The fault collector. -/
structure Flt where
  /-- Sources; 512; 19 R522; reset clear. -/
  src : Tab FltSrc := []
  /-- Reactions that differ from the default; 2 bits each; 19 R527; reset empty (the defaults of R523). -/
  reactions : Tab Nat := []
  /-- Holds, oldest first; 19 R526; reset empty. -/
  holds : List Hold := []
  /-- Last source set; 9 bits and VALID; 19 R539; reset none. -/
  last : Option Nat := none
  /-- TEST_OK of FLT_SELF; 1 bit; 19 R539; reset 0. -/
  testOk : Bool := false
  /-- MISMATCH of FLT_SELF; 1 bit; 19 R539; reset 0. -/
  mismatch : Bool := false
  /-- PARITY of FLT_SELF; 1 bit; 19 R539; reset 0. -/
  parity : Bool := false
  /-- REQUEST of FLT_SELF, the direct safe-state line; from then on nothing is set; 1 bit; 19 R531; reset 0. -/
  request : Bool := false
  /-- Degraded operation as last reported; 1 bit; 19 R528; reset false. -/
  degraded : Bool := false
  /-- Trip requests for Granite's next cycle: outlets; 19 R525; reset empty. -/
  tripReq : List Nat := []
  deriving DecidableEq, Repr

/-! ### Redundant pair (chapter 20) -/

/-- A state image (R548): the header's fields and the sections. Times in it are in the receiver's own time. -/
structure PairImage where
  /-- KIND: 0 cycle image, 1 full-image segment, 2 final image of a release; 8 bits; 20 R548; reset 0. -/
  kind : Nat := 0
  /-- IFLAGS bit 0, LOCKSTEP; 1 bit; 20 R548; reset false. -/
  lockstep : Bool := false
  /-- IFLAGS bit 1, SPLIT; 1 bit; 20 R548; reset false. -/
  split : Bool := false
  /-- IFLAGS bit 2, PFW; 1 bit; 20 R548; reset false. -/
  pfw : Bool := false
  /-- SITE_CYCLE; 32 bits; 20 R548; reset 0. -/
  siteCycle : Nat := 0
  /-- EPOCH; 32 bits; 20 R548; reset 0. -/
  epoch : Nat := 0
  /-- SEGMENT; 16 bits; 20 R548; reset 0. -/
  segment : Nat := 0
  /-- SEGMENTS; 16 bits; 20 R548; reset 0. -/
  segments : Nat := 0
  /-- Section 1, the ledger; 20 R548; reset empty. -/
  slots : Tab LvSlot := []
  /-- Section 1, the caps of released consumers; 20 R548; reset empty. -/
  residue : List Residue := []
  /-- Section 1, the setpoint; 20 R548; reset none. -/
  setpoint : Option Nat := none
  /-- Section 1, the setpoint's expiry in ns; 20 R548; reset none. -/
  setExpiry : Option Nat := none
  /-- Section 2, Basalt's instances; 20 R548; reset empty. -/
  insts : Tab Inst := []
  /-- Section 2, the repetitive memories; 20 R548; reset empty. -/
  reps : Tab RepMem := []
  /-- Section 3, the stages; 20 R548; reset empty. -/
  stages : Tab Stage := []
  /-- Section 4, the coolant circuits; 20 R548; reset empty. -/
  circuits : Tab Circuit := []
  /-- Section 5, the session contexts; 20 R548; reset empty. -/
  ctxs : Tab Ctx := []
  /-- Section 5, what the engine keeps of the outlets; 20 R548; reset empty. -/
  outlets : Tab OutletLive := []
  /-- Section 5, the volatile slots with PAIR_SHARE; 20 R548; reset empty. -/
  keys : Tab KeySlot := []
  /-- Section 6, live values of entries not flagged PAIR_LOCAL; 20 R548; reset empty. -/
  live : Tab Int := []
  /-- Section 7, the nodes; 20 R548; reset empty. -/
  nodes : Tab Node := []
  /-- Section 8, sources of the collector's words 2 to 8; 20 R548; reset empty. -/
  src : Tab FltSrc := []
  /-- Section 8, their holds; 20 R548; reset empty. -/
  holds : List Hold := []
  /-- Section 9, the host points; 20 R548; reset empty. -/
  hostPoints : Tab Point := []
  /-- Sections 8 to 10, the image tables, the reactions and the overrides; 20 R548; reset empty. -/
  tables : ImgTables := {}
  deriving DecidableEq, Repr

/-- What a STATUS message of the partner carries (R542). -/
structure PartnerStatus where
  /-- Role: 0 STARTING, 1 STANDBY, 2 ACTIVE, 3 RELEASING, 4 OUT; 3 bits; 20 R543; reset 0. -/
  role : Nat := 0
  /-- Nodes held; 16 bits; 20 R568; reset 0. -/
  held : Nat := 0
  /-- The partner holds the anchor node; 1 bit; 20 R542; reset false. -/
  anchor : Bool := false
  /-- Ring states, A and B, coded as in R168; 2 bits each; 20 R542; reset 3 (DOWN). -/
  ringA : Nat := 3
  /-- Ring state of ring B; 2 bits; 20 R542; reset 3 (DOWN). -/
  ringB : Nat := 3
  /-- Power-fail warning at the partner; 1 bit; 20 R542; reset false. -/
  pfw : Bool := false
  /-- Self-test result: passed; 1 bit; 20 R542; reset true. -/
  selfTest : Bool := true
  /-- A self-diagnosis trigger is in force; 1 bit; 20 R542; reset false. -/
  trigger : Bool := false
  /-- Last reported epoch; 32 bits; 20 R563; reset 0. -/
  epoch : Nat := 0
  /-- Identity; 16 bytes; 20 R563; reset empty. -/
  identity : List Byte := []
  /-- Position; 1 bit; 20 R541; reset 0. -/
  position : Nat := 0
  /-- PAIR_MODE; 1 bit; 20 R540; reset 0. -/
  mode : Nat := 0
  /-- Metrology option; 20 R540; reset 0. -/
  metOption : Nat := 0
  /-- Pair protocol version; 16 bits; 20 R540; reset 0. -/
  proto : Nat := 0
  /-- The partner names this module's identity in a PAIR_PEER slot; 1 bit; 20 R540; reset false. -/
  namesUs : Bool := false
  /-- A PAIR_PEER slot of this module names the partner's identity; 1 bit; 20 R540; reset false. -/
  named : Bool := false
  /-- H of the partner in per mille; 11 bits; 20 R555; reset 0. -/
  heldShare : Nat := 0
  /-- A HEAL_SEEN report has reached the partner; 1 bit; 20 R554; reset false. -/
  healSeen : Bool := false
  /-- The partner's own link state is SYNCHRONISED; 1 bit; 20 R554; reset false. -/
  synchronised : Bool := false
  deriving DecidableEq, Repr

/-- A window's INPUTS (R559): what the active module's engines took, in its order. -/
structure LockInputs where
  /-- Window; 33 bits; 20 R559; no reset value. -/
  window : Nat
  /-- Accepted upstream loop words: node, window and words, in channel order; 20 R559; no reset value. -/
  frames : List (Nat × Nat × List (Int × Int))
  /-- Nodes whose due frame was missed, and the window; 20 R559; no reset value. -/
  missed : List (Nat × Nat)
  /-- Responses of busbar nodes: due instances, window and words; 20 R559; no reset value. -/
  polls : List (List Nat × Nat × Option (List (Int × Int)))
  /-- Site inputs; 20 R559; no reset value. -/
  site : List Int
  /-- Arbiter events in the order of R108; 20 R559; no reset value. -/
  events : List LeaveReq
  /-- Cooling samples by circuit; 20 R559; no reset value. -/
  samples : List (Nat × CoolSample)
  /-- The site cycle's observer step is due; 1 bit; 20 R559; no reset value. -/
  observer : Bool
  /-- Host commands that change the engines' state; 20 R559; no reset value. -/
  commands : List Desc
  /-- The active module's digest; 32 bits; 20 R560; no reset value. -/
  digest : Nat
  deriving DecidableEq, Repr

/-- The pair link and the roles. -/
structure Pair where
  /-- Role: 0 STARTING, 1 STANDBY, 2 ACTIVE, 3 RELEASING, 4 OUT; 3 bits; 20 R568; reset 0. -/
  role : Nat := 0
  /-- Role after the running release; 3 bits; 20 R545; reset 1. -/
  roleAfter : Nat := 1
  /-- Row of R545 that holds the module OUT, 0 none; 20 R545; reset 0. -/
  outCause : Nat := 0
  /-- Synchronisation: 0 DOWN, 1 FORMING, 2 SYNCING, 3 SYNCHRONISED; 2 bits; 20 R568; reset 0. -/
  sync : Nat := 0
  /-- Block lock on X5; 1 bit; 20 R568; reset 0. -/
  link : Bool := false
  /-- MISMATCH cause; 3 bits; 20 R568; reset 0. -/
  mismatch : Nat := 0
  /-- Time of the last pair checks, ns; 20 R540; reset 0. -/
  checkedAt : Nat := 0
  /-- The partner's last STATUS; 20 R542; reset none. -/
  partner : Option PartnerStatus := none
  /-- Time of the last STATUS, ns; 20 R542; reset 0. -/
  statusAt : Nat := 0
  /-- Number of the site cycle; 32 bits; 20 R548; reset 0. -/
  siteCycle : Nat := 0
  /-- Time of the last site cycle boundary, ns; 20 R561; reset 0. -/
  boundaryAt : Nat := 0
  /-- Images sent so far, the model's own numbers of images; 02 R62; reset 0. -/
  imgSent : Nat := 0
  /-- Images acknowledged so far, by those numbers; 02 R62; reset 0. -/
  imgAcked : Nat := 0
  /-- Images not yet acknowledged, oldest first: number, site cycle and time of sending in ns; 20 R549; reset empty. -/
  outst : List (Nat × Nat × Nat) := []
  /-- Site cycle of the last image sent; 32 bits; 20 R548; reset none. -/
  sentCycle : Option Nat := none
  /-- The last image sent, the model's own record of it; 20 R548; reset none. -/
  lastSent : Option PairImage := none
  /-- Last site cycle that the partner acknowledged; 32 bits; 20 R542; reset 0. -/
  ackedCycle : Nat := 0
  /-- SITE_CYCLE register: last image acknowledged, sent or received; 32 bits; 20 R568; reset 0. -/
  imgReg : Nat := 0
  /-- Segments of the full image still to be sent; 20 R549; reset 0. -/
  fullLeft : Nat := 0
  /-- Segments of that full image; 16 bits; 20 R548; reset 0. -/
  fullOf : Nat := 0
  /-- ACK_US; 16 bits; 20 R568; reset 0. -/
  ackUs : Nat := 0
  /-- ACK_US_MAX; 16 bits; 20 R568; reset 0. -/
  ackUsMax : Nat := 0
  /-- Longest acknowledgement time in the present second, µs; 16 bits; 20 R568; reset 0. -/
  ackUsRun : Nat := 0
  /-- Start of the present second of ACK_US_MAX, ns; 20 R568; reset 0. -/
  ackSecond : Nat := 0
  /-- TAKEOVERS; 16 bits, wrapping; 20 R568; reset 0. -/
  takeovers : BitVec 16 := 0
  /-- DIVERGED; 16 bits, wrapping; 20 R568; reset 0. -/
  diverged : BitVec 16 := 0
  /-- Time of the last takeover or switchover, ns; 20 R551; reset 0. -/
  switchAt : Nat := 0
  /-- SWITCH_DUE; 1 bit; 20 R551; reset 0. -/
  switchDue : Bool := false
  /-- Time of the last PAIR_SWITCH_DUE event, ns; 20 R551; reset 0. -/
  switchDueAt : Nat := 0
  /-- SPLIT: both modules ACTIVE; 1 bit; 20 R553; reset 0. -/
  split : Bool := false
  /-- A heal is under way; 1 bit; 20 R556; reset false. -/
  healing : Bool := false
  /-- A HEAL_SEEN report has reached this module; 1 bit; 20 R554; reset false. -/
  healSeen : Bool := false
  /-- LOCKSTEP in force; 1 bit; 20 R568; reset 0. -/
  lockstep : Bool := false
  /-- RELEASE headers still to be sent; 2 bits; 20 R546; reset 0. -/
  releaseLeft : Nat := 0
  /-- A final image is to be sent at the next site cycle boundary; 1 bit; 20 R552; reset false. -/
  finalWanted : Bool := false
  /-- The release waits for the acknowledgement of its final image, by its number; 20 R552; reset none. -/
  finalImage : Option Nat := none
  /-- Time of the first RELEASE header, ns; 20 R564; reset none. -/
  releaseAt : Option Nat := none
  /-- PAIR_SWITCHOVER in flight: command, nodes held at acceptance, and its limit in ns; 20 R564; reset none. -/
  switchCmd : Option (Nat × Nat × Nat) := none
  /-- The partner's released epoch that lets this module emit; 32 bits; 20 R547; reset none. -/
  released : Option Nat := none
  /-- The last complete image received; 20 R550; reset none. -/
  image : Option PairImage := none
  /-- Time of the last complete image received, ns; 20 R550; reset none. -/
  imageAt : Option Nat := none
  /-- Site cycle of the last cycle image received; 32 bits; 20 R549; reset none. -/
  imageCycle : Option Nat := none
  /-- The engines of this standby hold the state of a lockstep run, not of an image; 1 bit; 20 R561; reset false. -/
  ownEngines : Bool := false
  /-- Time of the first completed ring scan, ns; 20 R544; reset none. -/
  firstScan : Option Nat := none
  /-- PAIR_START_WAIT_MS has passed at position 1; 1 bit; 20 R544; reset false. -/
  waitDone : Bool := false
  /-- What INPUTS forwards has been gathered since the start of the present window; 1 bit; 20 R559; reset false. -/
  fwdOpen : Bool := false
  /-- Content of the last INPUTS sent; 20 R559; reset none. -/
  lastInputs : Option LockInputs := none
  deriving DecidableEq, Repr

/-! ### Supply, clocks, reset, start-up and pins (chapters 01, 21, 22) -/

/-- A firmware slot (R580, R581). -/
structure FwSlot where
  /-- STATE, coded as in R83; 8 bits; 21 R581; reset 0x1F for F0 and 0xFF for F1 (DC). -/
  state : Nat := 0xFF
  /-- SEQ, the activation number; 32 bits; 21 R580; reset 1 for F0 (DC). -/
  seq : Nat := 0
  /-- VERSION; 32 bits; 21 R580; reset 1 for F0 (DC). -/
  version : Nat := 0
  /-- SEC_VERSION; 6 bits; 21 R580; reset 0. -/
  secVersion : Nat := 0
  /-- PROTO; 16 bits; 21 R580; reset 1 for F0 (DC). -/
  proto : Nat := 0
  /-- Component hashes by kind (1 Vexnil, 2 Granite, 3 Jasper, 4 gauge); 48 bytes each; 21 R580; reset empty (DC). -/
  comps : Tab (List Byte) := []
  /-- Bytes written so far; up to 192 MiB; 21 R586; reset empty. -/
  bytes : List Byte := []
  /-- The slot holds a verified bundle; 1 bit; 21 R586; reset true for F0 (DC). -/
  verified : Bool := false
  deriving DecidableEq, Repr

/-- An optical module in a cage X1-X6 (R611). -/
structure Optic where
  /-- A module is inserted; 1 bit; 22 R611; reset false (DC). -/
  present : Bool := false
  /-- Rate it identifies with, in Mbit/s; 22 R611; reset 0. -/
  rate : Nat := 0
  /-- Its transmitter is enabled; 1 bit; 22 R611; reset false. -/
  tx : Bool := false
  deriving DecidableEq, Repr

/-- Application complex, supply, clocks and start-up. -/
structure Sys where
  /-- PART_NUM; 16 bits; 00 R6; reset 0x9100. -/
  partNum : BitVec 16 := 0x9100
  /-- HW_ISSUE; 8 bits, fuse; 00 R6; reset 1 (DC: the fuse's value is the part's own). -/
  hwIssue : BitVec 8 := 1
  /-- TEMP_GRADE; 4 bits, fuse: 1 S, 2 X; 00 R6; reset 2 (DC). -/
  tempGrade : BitVec 4 := 2
  /-- MET_OPTION; 4 bits, fuse: 0 M0, 1 M1; 00 R6; reset 1 (DC). -/
  metOption : BitVec 4 := 1
  /-- Device identity; 16 bytes of ASCII; 03 R82; reset zeros (DC). -/
  identity : List Byte := List.replicate 16 0
  /-- PHASE in progress, 0 when start-up is complete; 4 bits; 21 R591; reset 1. -/
  phase : Nat := 1
  /-- Start-up phases that have ended; bit n for phase n; 21 R577; reset none. -/
  ended : BitVec 10 := 0
  /-- READY: phase 9 ended; 1 bit; 21 R591; reset 0. -/
  ready : Bool := false
  /-- RECOVERY; 1 bit; 21 R591; reset 0. -/
  recovery : Bool := false
  /-- Firmware slot F0; 192 MiB; 21 R581; reset a committed bundle (DC). -/
  f0 : FwSlot := { state := 0x1F, seq := 1, version := 1, proto := 1, verified := true }
  /-- Firmware slot F1; 192 MiB; 21 R581; reset EMPTY (DC). -/
  f1 : FwSlot := {}
  /-- Active firmware slot; 1 bit; 21 R588; reset none until phase 4. -/
  fwActive : Option Nat := none
  /-- SYS_FW_VERSION: VERSION of the running bundle; 32 bits; 21 R591; reset 0. -/
  fwVersion : Nat := 0
  /-- Fuse counter; 6 bits; 21 R582; reset 0 (DC). -/
  fuse : Nat := 0
  /-- Hashes of the two firmware copies of each island (2 Granite, 3 Jasper, 4 gauge); 48 bytes each; 21 R580; reset empty (DC). -/
  copies : Tab (List Byte × List Byte) := []
  /-- Hash of the copy each island runs; 48 bytes; 21 R583; reset empty (DC). -/
  running : Tab (List Byte) := []
  /-- A rolled-back firmware slot to be reported once Vexnil runs; 21 R581; reset none. -/
  rollback : Option Nat := none
  /-- SYS_FW_ACTIVATE in flight: command, waits for a reset pulse, limit in ns; 21 R587; reset none. -/
  activate : Option (Nat × Bool × Nat) := none
  /-- PG: power good; 1 bit; 21 R591; reset 0. -/
  pg : Bool := false
  /-- PFW: power-fail warning raised; 1 bit; 21 R591; reset 0. -/
  pfw : Bool := false
  /-- Time of the power-fail warning, ns; 21 R571; reset 0. -/
  pfwAt : Nat := 0
  /-- Domains that are powered: bit 0 application, 1 Granite, 2 Obsidian, 3 Jasper and NVM; 4 bits; 21 R571; reset all on (DC). -/
  powered : BitVec 4 := 0xF
  /-- PLL locks: bit 0 APP, 1 ENG, 2 RING, 3 MET, 4 CAN, 5 PLC; 6 bits; 21 R591; reset 0. -/
  locks : BitVec 6 := 0
  /-- SAFE_CHECK; 1 bit; 21 R591; reset 0. -/
  safeCheck : Bool := false
  /-- Reset cause; 4 bits; 21 R591; reset 1. -/
  cause : Nat := 1
  /-- STARTS; 16 bits, wrapping; 21 R591; reset 0. -/
  starts : BitVec 16 := 0
  /-- J3 voltage in mV; 16 bits; 21 R591; reset 0. -/
  supplyMv : Nat := 0
  /-- MIN_MV; 16 bits; 21 R591; reset 0. -/
  minMv : Nat := 0
  /-- CLK_UNLOCK; 24 bits, saturating; 21 R591; reset 0. -/
  unlocks : Nat := 0
  /-- CLK_REF_PPB; 32 bits, signed; 21 R591; reset 0. -/
  refPpb : Int := 0
  /-- Time of the last start, ns; 21 R591; reset 0. -/
  startAt : Nat := 0
  /-- Time of power good, ns; 21 R590; reset 0. -/
  pgAt : Nat := 0
  /-- A cold or application reset due: kind (0 cold, 1 application), cause and time, ns; 21 R576; reset none. -/
  resetDue : Option (Nat × Nat × Nat) := none
  /-- The application watchdog was served last, ns; 21 R575; reset 0. -/
  servedAt : Nat := 0
  deriving DecidableEq, Repr

/-- Pins of the module (chapter 22). -/
structure Pins where
  /-- PPS_OUT; 1 bit; 22 R596; reset low. -/
  ppsOut : Bool := false
  /-- PERST_N; 1 bit input; 22 R596; reset low (DC). -/
  perstN : Bool := false
  /-- ETH_PHY_RST_N; 1 bit; 22 R596; reset low (DC). -/
  ethPhyRstN : Bool := false
  /-- Optical modules X1-X6; 22 R611; reset empty. -/
  optics : Tab Optic := []
  deriving DecidableEq, Repr

end Sys2Proof.Machine
end

