-- ==== Sys2Proof/Syntax.lean ====
section
/-!
DEFINITION. The commands of the block: one constructor of `Instr` per row of the opcode table.

A row that a host submits through a mailbox is the START of that command: its operands are the queue pair and the tag,
and the command's own fields are read from the descriptor that the module fetched (R55, R59). Every other row is an event,
and its operands are what the event brings from outside the module.
-/
namespace Sys2Proof

open Sys2Proof.Machine

/-- The commands: one constructor per row of the opcode table. -/
inductive Instr where
  /-- MBX_HOST_SET (R67). Writes or clears one host-table entry; a connected host whose entry changes is lost. -/
  | mbxHostSet (q tag : Nat)
  /-- MBX_EVENT_WAIT (R68). Waits until an event of a selected area is queued for the host, then completes with it. -/
  | mbxEventWait (q tag : Nat)
  /-- MBX_ABORT (R70). Aborts a command of the submitter's own queue pair by its tag and reports the outcome. -/
  | mbxAbort (q tag : Nat)
  /-- MBX_SQ_TAIL_DB (R54). A PCIe SQ tail doorbell write moves the tail, or is ignored and sets DB_ERR. -/
  | mbxSqTailDb (q tail : Nat)
  /-- MBX_CQ_HEAD_DB (R54). A PCIe CQ head doorbell write frees consumed CQ slots, or is ignored and sets DB_ERR. -/
  | mbxCqHeadDb (q head : Nat)
  /-- QUEUE_ENABLE (R71). Writing ENABLE 1 starts a PCIe queue pair with CQ phase 1. -/
  | queueEnable (q : Nat)
  /-- QUEUE_DISABLE (R71). Writing ENABLE 0 stops fetching; when the commands in flight have completed, READY falls and the indices reset. -/
  | queueDisable (q : Nat)
  /-- QUEUE_DRAINED (R71). The last command in flight of a stopping queue pair completes, so READY falls and the indices reset. -/
  | queueDrained (q : Nat)
  /-- REGISTER_WRITE (R10). A BAR0 write to a register without a row of its own acts by its access code; writes to reserved or unallocated offsets are ignored. -/
  | registerWrite (offset : Nat) (value : BitVec 32)
  /-- TLS_HANDSHAKE (R40). A host opens a TLS 1.3 session and is admitted by its key hash; it replaces any open session of the same entry. -/
  | tlsHandshake (port : Nat) (keyHash : List Byte) (offer : TlsOffer)
  /-- SUBMIT (R43). An Ethernet SUBMIT message appends descriptors to the SQ until it is full. -/
  | submit (entry q : Nat) (descs : List Desc)
  /-- CQ_ACK (R42). An Ethernet CQ_ACK frees COUNT completion slots of its queue pair. -/
  | cqAck (entry q count : Nat)
  /-- KEEPALIVE (R44). A received KEEPALIVE message refreshes the host's silence timer. -/
  | keepalive (entry : Nat)
  /-- BAD_HOST_MESSAGE (R42). A message of unknown type, a wrong LENGTH or an excessive CQ_ACK closes the session as host loss. -/
  | badHostMessage (entry : Nat)
  /-- TLS_SESSION_CLOSED (R44). The host's TLS session closes or fails, and the host is lost. -/
  | tlsSessionClosed (entry : Nat)
  /-- HOST_KEEPALIVE_TIMEOUT (R44). No message has arrived from a host for HOST_KEEPALIVE_MS, and the host is lost. -/
  | hostKeepaliveTimeout (entry : Nat)
  /-- KEEPALIVE_SEND_DUE (R44). The module sends a KEEPALIVE after half of HOST_KEEPALIVE_MS without sending. -/
  | keepaliveSendDue (entry : Nat)
  /-- TLS_KEY_UPDATE_DUE (R39). The module sends a KeyUpdate after 16,777,216 records or 1 h. -/
  | tlsKeyUpdateDue (entry : Nat)
  /-- PCIE_LINK_DOWN (R38). The PCIe link goes down and the PCIe host is lost. -/
  | pcieLinkDown
  /-- PCIE_FUNCTION_RESET (R38). A function-level reset restarts the PCIe function alone and loses the PCIe host. -/
  | pcieFunctionReset
  /-- PERST_N (R596). PERST_N held low holds the PCIe function in reset; its rise starts link training. -/
  | perstN (high : Bool)
  /-- DESCRIPTOR_FETCH (R49). The module fetches one descriptor, chosen by class round robin, once a credit and a CQ slot are free. -/
  | descriptorFetch (dma : Desc)
  /-- COMPLETION_POST (R62). A completion is posted, after the standby has acknowledged an image holding its effect, and the credit returns. -/
  | completionPost (q tag : Nat)
  /-- IRQ_COALESCE_EXPIRY (R37). The MSI-X message fires when HOST_IRQ_COALESCE_US has passed since the first unsignalled completion. -/
  | irqCoalesceExpiry (q : Nat)
  /-- PTP_MESSAGE (R45). A PTP message on ETH0 or ETH1 disciplines system time under the best master clock algorithm. -/
  | ptpMessage (port : Nat) (msg : PtpMsg)
  /-- PTP_MASTER_LOST (R46). With no master selected, system time holds over on REF and a fault source is raised. -/
  | ptpMasterLost
  /-- PAR_GET (R87). Returns parameter records of a layer for consecutive IDs. -/
  | parGet (q tag : Nat)
  /-- PAR_DESCRIBE (R88). Returns dictionary descriptors for consecutive IDs. -/
  | parDescribe (q tag : Nat)
  /-- PAR_SET (R89). Sets or clears a live parameter value, or passes an island entry to its island. -/
  | parSet (q tag : Nat)
  /-- NV_STORE (R90). Builds an image from the storable values and the tables and writes it to the target slot as TRIAL. -/
  | nvStore (q tag : Nat)
  /-- NV_STORE_SEGMENT (R90). After a HOLDUP grant, the next 64 KiB of the store is written, and the first grant takes the snapshot. -/
  | nvStoreSegment (verified : Bool)
  /-- NV_LEAVE_WAIT_EXPIRY (R90). NV_LEAVE_WAIT_MS passes without leave, and the store, select or commit completes with ST_NO_LEAVE. -/
  | nvLeaveWaitExpiry
  /-- NV_SELECT (R94). Rewrites a committed slot's header with a higher SEQ to make it active, and rejects a trial slot that was active. -/
  | nvSelect (q tag : Nat)
  /-- NV_COMMIT (R95). Programs the active slot from TRIAL or BOOTED to COMMITTED. -/
  | nvCommit (q tag : Nat)
  /-- NV_STATUS (R96). Returns the slot states, the active SEQ and the erase counts. -/
  | nvStatus (q tag : Nat)
  /-- NV_EXPORT (R97). Builds and signs a settings image at OFFSET 0 and returns its segments. -/
  | nvExport (q tag : Nat)
  /-- EXPORT_BUFFER_TIMEOUT (R97). The export buffer is discarded after 60 s without a read. -/
  | exportBufferTimeout
  /-- NV_IMPORT (R98). Appends a settings-image segment, and on LAST checks and stores the image. -/
  | nvImport (q tag : Nat)
  /-- IMPORT_BUFFER_TIMEOUT (R98). The import buffer is discarded after 60 s without a segment. -/
  | importBufferTimeout
  /-- SYSTEM_LOG_APPEND (R81). Once per second the DRAM log entries are appended under work leave, and the oldest are dropped beyond 64 KiB. -/
  | systemLogAppend (entries : List (List Byte))
  /-- WORK_LEAVE_GRANT (R120). A waiting HOLDUP or BULK request is granted when it fits the free budget, islands first. -/
  | workLeaveGrant (kind : Nat)
  /-- WORK_OPERATION_END (R118). A work-leave operation ends and its grant returns to the budget. -/
  | workOperationEnd (id : Nat)
  /-- LEAVE_REQUEST (R123). Asks the arbiter for leave for a host consumer. -/
  | leaveRequest (q tag : Nat)
  /-- LEAVE_CHANGE (R124). Raises or lowers a consumer's grant. -/
  | leaveChange (q tag : Nat)
  /-- LEAVE_RELEASE (R125). Frees a consumer's slot or ends its waiting request. -/
  | leaveRelease (q tag : Nat)
  /-- LEAVE_READ (R126). Returns the envelope terms and the slot records. -/
  | leaveRead (q tag : Nat)
  /-- LV_GRID_SET (R127). Sets or clears the grid operator's dynamic setpoint. -/
  | lvGridSet (q tag : Nat)
  /-- LV_CAPMAP_SET (R128). Writes or removes a consumer's cap map. -/
  | lvCapmapSet (q tag : Nat)
  /-- LV_SHARE_SET (R129). Sends a new share version to every node, to be committed once all planned nodes have stored it. -/
  | lvShareSet (q tag : Nat)
  /-- SHARE_VERSION_COMMIT (R117). Every planned node has stored the share version, and the module commits it in one ring cycle. -/
  | shareVersionCommit
  /-- SHARE_STORE_TIMEOUT (R117). A planned node has not stored the version within 1 s, so the command ends with ST_TIMEOUT and the old version stays. -/
  | shareStoreTimeout
  /-- ARBITER_MICROSECOND (R108). Each microsecond the arbiter takes its events in fixed order, recomputes the terms and decides the requests. -/
  | arbiterMicrosecond
  /-- SETPOINT_EXPIRY (R103). HOLD_S has passed since the setpoint was set, and D falls to LV_FALLBACK_KW. -/
  | setpointExpiry
  /-- RECLAIM_NOTICE_END (R110). A reduction's notice ends, the reduction takes effect, and caps are sent in that ring cycle. -/
  | reclaimNoticeEnd (slot : Nat)
  /-- LEAVE_WAIT_EXPIRY (R108). A waiting request's WAIT_MS runs out and it completes with ST_NO_LEAVE. -/
  | leaveWaitExpiry (slot : Nat)
  /-- LEDGER_PUBLICATION (R114). Once per site cycle the arbiter sends the caps of every node under the current epoch. -/
  | ledgerPublication
  /-- IMPORT_EXCESS_DETECTED (R115). Measured import has exceeded G plus the pending reductions for LV_OVER_MS, so P is bounded and a 200 ms reclaim is made. -/
  | importExcessDetected (importKw : Int) (deliveredKw : Nat)
  /-- BUFFER_DELIVERY_RESTORED (R115). The buffer has delivered B for 10 s and P returns to its R101 value. -/
  | bufferDeliveryRestored (deliveredKw : Nat)
  /-- RING_CYCLE (R140). A 20 µs ring cycle begins with its cycle header, which renews the leases of nodes under its epoch. -/
  | ringCycle
  /-- LOOP_WINDOW (R172). A loop window begins, the due site instances are evaluated and downstream loop frames are inserted. -/
  | loopWindow
  /-- UPSTREAM_LOOP_FRAME (R172). A node's upstream loop frame arrives and its due instances are evaluated. -/
  | upstreamLoopFrame (frame : LoopFrame)
  /-- SLOT_DEADLINE (R154). A node's upstream frame is due and counted missed if absent or late; 3 misses demote and 8 more fence. -/
  | slotDeadline (node window : Nat)
  /-- REPORT_RECORD (R155). An upstream report record (LAPSED, RELEASED, PORT_DOWN, PORT_UP, SWITCHED, HEAL_SEEN) updates the node table. -/
  | reportRecord (node code arg epoch : Nat)
  /-- SWITCHED_FRAME (R148). A node's first frame from its new side recomputes its distance and demotes or fences instances the new distance disallows. -/
  | switchedFrame (node side : Nat) (hops : PathMeasure)
  /-- NODE_STATUS_BLOCK (R155). A node's status block reports its stage states, check results, phase fences and faults. -/
  | nodeStatusBlock (status : NodeStatus)
  /-- NODE_SILENCE (R155). Nothing has been received from a node on either side for 1 ms, and it becomes UNREACHABLE. -/
  | nodeSilence (node : Nat)
  /-- NODE_FRAMES_AGAIN (R155). Frames return from an unreachable node under this module's epoch. -/
  | nodeFramesAgain (node epoch : Nat)
  /-- FOREIGN_NODE_SEEN (R155). A lapsed or unreachable node is seen under the partner's epoch and becomes FOREIGN. -/
  | foreignNodeSeen (node epoch : Nat)
  /-- CLAIM_ACCEPTED (R151). A node accepts the module's claim and its configuration is resent. -/
  | claimAccepted (node epoch side hops : Nat)
  /-- OWN_HEADERS_NOT_RETURNED (R156). The module's own headers fail to return for two consecutive markers, and the ring is OPEN. -/
  | ownHeadersNotReturned (ring : Nat)
  /-- CAGE_LOCK_CHANGE (R156). A ring cage gains or loses block lock and the ring state is recomputed. -/
  | cageLockChange (cage : Nat) (lock : Bool)
  /-- ENUMERATION_SCAN (R160). Within 1 s of a ring's cages gaining lock after a cold start, the module scans, matches and claims its members. -/
  | enumerationScan (ring : Nat) (members : List ScanMember)
  /-- RING_NODE_SET (R162). Writes or removes a planned node record. -/
  | ringNodeSet (q tag : Nat)
  /-- RING_NODE_READ (R163). Returns live node records. -/
  | ringNodeRead (q tag : Nat)
  /-- RING_SCAN (R164). Scans for members that are not yet online and reports what was found. -/
  | ringScan (q tag : Nat) (members : List ScanMember)
  /-- RING_NODE_RESTORE (R165). Returns a demoted node's instances to full rate. -/
  | ringNodeRestore (q tag : Nat)
  /-- OPTICAL_MODULE_INSERTED (R611). An optical module is inserted or removed, its identification is read, and its transmitter is enabled if its rate suits the cage. -/
  | opticalModuleInserted (cage : Nat) (present : Bool) (rateMbit : Nat)
  /-- BAS_LOAD (R193). Stores or removes an instance's coefficient record. -/
  | basLoad (q tag : Nat)
  /-- BAS_ARM (R194). Arms an instance with a phase in INIT, KEEP or TRACK mode. -/
  | basArm (q tag : Nat)
  /-- TRACKING_REPORT_TIMEOUT (R188). No report of the applied command arrives within 2 due windows, and the arm ends with ST_TIMEOUT. -/
  | trackingReportTimeout (inst : Nat)
  /-- BAS_FREEZE (R195). Freezes an instance at its last command, or releases it with a tracking start. -/
  | basFreeze (q tag : Nat)
  /-- BAS_DISARM (R195). Disarms an instance, sending DISARMED once. -/
  | basDisarm (q tag : Nat)
  /-- BAS_REF_SET (R196). Sets the table references of listed instances in one window. -/
  | basRefSet (q tag : Nat)
  /-- BAS_HANDOVER (R197). Moves a channel from one armed instance to a loaded one without a step. -/
  | basHandover (q tag : Nat)
  /-- BAS_READ (R198). Returns instance records. -/
  | basRead (q tag : Nat)
  /-- BAS_REP (R199). Clears or reads a repetitive controller's memory. -/
  | basRep (q tag : Nat)
  /-- TUNE_TRACE_SET (R214). Sets up and starts a trace buffer. -/
  | tuneTraceSet (q tag : Nat)
  /-- TUNE_TRACE_TRIGGER (R206). Triggers a waiting trace buffer. -/
  | tuneTraceTrigger (q tag : Nat)
  /-- TUNE_TRACE_STOP (R206). Stops a trace buffer or discards its contents. -/
  | tuneTraceStop (q tag : Nat)
  /-- TUNE_TRACE_READ (R215). Reads a finished trace buffer under BULK leave. -/
  | tuneTraceRead (q tag : Nat)
  /-- TUNE_STATUS (R217). Returns the buffer and generator states. -/
  | tuneStatus (q tag : Nat)
  /-- TRACE_SAMPLE (R204). At the end of every DECIM-th due window of the pace instance, a buffer records a sample and tests its trigger. -/
  | traceSample (buffer : Nat)
  /-- TUNE_INJ_START (R210). Starts an injection generator on an armed cabinet-level instance. -/
  | tuneInjStart (q tag : Nat)
  /-- TUNE_INJ_STOP (R211). Stops a running generator. -/
  | tuneInjStop (q tag : Nat)
  /-- INJECTION_LENGTH_REACHED (R208). The generator has run LENGTH × DECIM evaluations and ends. -/
  | injectionLengthReached (gen : Nat)
  /-- TUNE_CAP_READ (R215). Reads a generator's response capture under BULK leave. -/
  | tuneCapRead (q tag : Nat)
  /-- STG_CONFIG (R246). Writes or removes a cabinet record. -/
  | stgConfig (q tag : Nat)
  /-- STG_CHECK (R247). Orders a pre-start check of a stage and completes at the end of CHECKING. -/
  | stgCheck (q tag : Nat)
  /-- CHECK_RESULT (R231). A node's check-result telegram reaches Granite, which issues a token or locks out. -/
  | checkResult (node stage seq failed : Nat)
  /-- CHECK_TIMEOUT (R238). 40 ms pass in CHECKING and the stage returns to IDLE. -/
  | checkTimeout (stage : Nat)
  /-- TOKEN_EXPIRY (R238). A READY stage's token expires and the stage returns to IDLE. -/
  | tokenExpiry (stage : Nat)
  /-- STG_ENABLE (R248). Enables a stage along its soft-start trajectory. -/
  | stgEnable (q tag : Nat)
  /-- SOFT_START_END (R235). The voltage has held within tolerance of TARGET_V for 1 ms and the stage is RUNNING. -/
  | softStartEnd (stage : Nat)
  /-- SOFT_START_TIMEOUT (R235). STG_SS_TIMEOUT_MS passes without the end of soft start, and PWM turns off. -/
  | softStartTimeout (stage : Nat)
  /-- SOFT_START_SHORT (R236). A reported short locks the outlets out and disables the other stages that feed them. -/
  | softStartShort (stage : Nat)
  /-- STG_DISABLE (R249). Turns a stage's PWM off and voids its token. -/
  | stgDisable (q tag : Nat)
  /-- STG_READ (R250). Returns stage records. -/
  | stgRead (q tag : Nat)
  /-- PHASE_FENCE_REPORT (R242). A reported phase fence sets the stage source and recomputes capability and slot limits. -/
  | phaseFenceReport (stage : Nat) (fenced : List Nat)
  /-- HOLD_RAMP_ZERO (R238). A held stage's ramp reaches zero, PWM turns off and the token is voided. -/
  | holdRampZero (stage : Nat)
  /-- COOL_CONFIG (R269). Writes or removes a circuit record. -/
  | coolConfig (q tag : Nat)
  /-- COOL_START (R270). Starts priming an OFF circuit. -/
  | coolStart (q tag : Nat)
  /-- COOL_STOP (R270). Stops a circuit and completes when it is OFF. -/
  | coolStop (q tag : Nat)
  /-- COOL_RESET (R270). Restarts a FAILED circuit from priming. -/
  | coolReset (q tag : Nat)
  /-- COOL_READ (R271). Returns circuit records. -/
  | coolRead (q tag : Nat)
  /-- COOLING_SAMPLE (R256). A dispenser node's cooling sample for a circuit arrives. -/
  | coolingSample (circuit : Nat) (tIn tOut : Int) (flow : Nat) (pump pin0 pin1 : Int)
  /-- COOLING_OBSERVER_CYCLE (R259). Once per site cycle each circuit's observer updates its estimate, limit, cap and pump reference. -/
  | coolingObserverCycle
  /-- INPUT_LOST (R258). A cooling input's loss condition has lasted its time, and the circuit degrades. -/
  | inputLost (circuit input : Nat)
  /-- INPUT_VALID_AGAIN (R258). A lost input's condition has been absent for 10 s and the input is valid again. -/
  | inputValidAgain (circuit input : Nat)
  /-- PRIMING_DONE (R264). Flow has held at F_MIN or more for COOL_PRIME_MS and the circuit is COOLING. -/
  | primingDone (circuit : Nat)
  /-- PRIMING_TIMEOUT (R264). COOL_PRIME_MAX_MS passes in priming and the circuit fails. -/
  | primingTimeout (circuit : Nat)
  /-- COOL_RUNON_EXPIRY (R264). The run-on ends and the circuit's instances are disarmed. -/
  | coolRunonExpiry (circuit : Nat)
  /-- SES_OUTLET_CONFIG (R296). Writes or removes an outlet record. -/
  | sesOutletConfig (q tag : Nat)
  /-- SES_OUTLET_STATE (R297). Enables or disables an outlet, or clears its weld block. -/
  | sesOutletState (q tag : Nat)
  /-- SES_AUTHORISE (R298). Accepts or refuses a session waiting for authorisation. -/
  | sesAuthorise (q tag : Nat)
  /-- SES_STOP (R299). Stops a session normally or by emergency stop. -/
  | sesStop (q tag : Nat)
  /-- SES_READ (R300). Returns session context records. -/
  | sesRead (q tag : Nat)
  /-- CONNECTION_EVENT (R284). A tunnelled connection event (PLUGGED, UNPLUGGED, READY, PILOT_ERROR, LOCK_OK, LOCK_FAIL) drives the session states. -/
  | connectionEvent (node connector seq : Nat) (event : ConnEvent)
  /-- LINK_EVENT (R284). A tunnelled link up or down event drives the session states. -/
  | linkEvent (node connector seq : Nat) (up : Bool)
  /-- VEHICLE_FRAME (R278). A tunnelled Ethernet frame is processed by the session engine and the vehicle protocol. -/
  | vehicleFrame (node connector seq mac : Nat) (frame : VehicleFrame)
  /-- SESSION_LIMITS_CYCLE (R286). Each site cycle of TRANSFER the session computes the current limit and reference. -/
  | sessionLimitsCycle
  /-- NO_CONTEXT_RETRY (R284). Every 1 s while plugged without a free context, the engine tries again. -/
  | noContextRetry (outlet : Nat)
  /-- SES_LINK_TIMEOUT (R284). No link up or LOCK_OK within SES_LINK_S ends the session. -/
  | sesLinkTimeout (context : Nat)
  /-- AUTH_TIMEOUT (R282). No SES_AUTHORISE within SES_AUTH_TIMEOUT_MS ends the session with cause AUTH. -/
  | authTimeout (context : Nat)
  /-- CABLE_CHECK_TIMEOUT (R284). The insulation test exceeds SES_CABLE_MAX_S and the session ends. -/
  | cableCheckTimeout (context : Nat)
  /-- DEMAND_TIMEOUT (R293). No current demand request for SES_DEMAND_TIMEOUT_MS in TRANSFER ends the session. -/
  | demandTimeout (context : Nat)
  /-- SHRINK_TIMER (R288). The target has stayed low for SES_SHRINK_S and the session lowers its leave. -/
  | shrinkTimer (context : Nat)
  /-- REGRANT_TIMER (R288). The target has stayed above the grant for SES_REGRANT_S and the session asks for more leave. -/
  | regrantTimer (context : Nat)
  /-- STOP_CURRENT_LOW (R290). The current stays below 5 A for 10 ms in a normal stop and the output stages are disabled. -/
  | stopCurrentLow (context : Nat)
  /-- ESTOP_TIMEOUT (R290). SES_ESTOP_MS after an emergency stop the stages are disabled. -/
  | estopTimeout (context : Nat)
  /-- OVERVOLTAGE_DETECTED (R293). The output voltage has stayed above its limit for 1 ms and the session ends. -/
  | overvoltageDetected (context : Nat)
  /-- REVERSE_CURRENT_DETECTED (R293). The output current has stayed below −50 A for 10 ms and the session ends. -/
  | reverseCurrentDetected (context : Nat)
  /-- WELD_CHECK_TIMEOUT (R292). The output has not fallen below 60 V within 2 s of contactors opening, so the outlet is blocked. -/
  | weldCheckTimeout (outlet : Nat)
  /-- MET_CHAN_CONFIG (R333). Stores a channel record under an open seal, to be applied at the next tick. -/
  | metChanConfig (q tag : Nat)
  /-- MET_CAL_SET (R333). Stores a calibration record under an open seal, to be applied at the next tick. -/
  | metCalSet (q tag : Nat)
  /-- MET_SEAL (R334). Opens the seal against a signed message, or closes it. -/
  | metSeal (q tag : Nat)
  /-- SEAL_EXPIRY (R308). The seal's MINUTES have passed and it closes. -/
  | sealExpiry
  /-- MET_READ (R335). Returns informative channel readings. -/
  | metRead (q tag : Nat)
  /-- MET_HARM_READ (R336). Returns a channel's harmonics. -/
  | metHarmRead (q tag : Nat)
  /-- MET_CAL_READ (R337). Returns a channel record and its calibration record. -/
  | metCalRead (q tag : Nat)
  /-- MET_PULSE_SET (R337). Sets the record of a pulse output PLS2–PLS7. -/
  | metPulseSet (q tag : Nat)
  /-- MET_LEG_SELECT (R329). Selects the channel and quantity of LEG0 or LEG1. -/
  | metLegSelect (q tag : Nat)
  /-- SAMPLE_BLOCK (R310). A sensor head's sample block is accepted or dropped. -/
  | sampleBlock (block : SampleBlock)
  /-- LEGAL_TICK (R353). Each 1 ms tick registers energy and processes boundaries, requests and commits in fixed order. -/
  | legalTick (j2 : List J2Sample)
  /-- GAP_EXCEEDED (R311). A gap passes GAP_MAX_MS and the channel becomes LOST. -/
  | gapExceeded (channel : Nat)
  /-- OVERRANGE_PERSISTED (R312). OVERRANGE has stood in every block for 1 s and the channel becomes LOST. -/
  | overrangePersisted (channel : Nat)
  /-- CHANNEL_STARTED (R325). 100 accepted blocks or 100 ms of clean J2 samples make the channel RUNNING. -/
  | channelStarted (channel : Nat)
  /-- CHANNEL_BACK (R325). 1 s of accepted data returns a LOST channel to RUNNING. -/
  | channelBack (channel : Nat)
  /-- GAIN_STEP_UP (R314). A J2 current step has stayed below 20 % of range for 100 ms and Jasper moves up one step. -/
  | gainStepUp (input : Nat)
  /-- HARMONIC_WINDOW_END (R324). A 10 or 12 cycle harmonic window completes and its results replace the last. -/
  | harmonicWindowEnd (channel freq : Nat) (blocks : List HarmBlock)
  /-- PULSE_BACKLOG_PERSISTED (R327). A pulse backlog has lasted 1 s and MET_PULSE_BACKLOG is raised. -/
  | pulseBacklogPersisted (output : Nat)
  /-- CHECK_VALUE_RECOMPUTE (R362). Every 24 h the firmware check value is recomputed, and a change stops registration. -/
  | checkValueRecompute (value : Nat)
  /-- DISPLAY_FRAME (R363). Once per second Jasper sends each dispenser node an authenticated display frame. -/
  | displayFrame
  /-- JOURNAL_WRITE (R369). Once per second Jasper journals its full state. -/
  | journalWrite
  /-- RTC_WRITE (R342). Once per hour Jasper writes the legal time into the RTC. -/
  | rtcWrite
  /-- CREDIT_DEDUCTION (R358). Once per second each running session's cost is deducted, and an exhausted prepaid account stops the session. -/
  | creditDeduction
  /-- STORE_COPY (R368). Readings and log entries are copied from the journal to their stores under HOLDUP leave. -/
  | storeCopy
  /-- FINAL_COMMIT (R370). At W + 30 ms Jasper makes its final commit and stops registering. -/
  | finalCommit
  /-- BIL_TARIFF_SET (R374). Sets a pending tariff table version. -/
  | bilTariffSet (q tag : Nat)
  /-- BIL_TARIFF_ASSIGN (R374). Assigns tariff tables to channels. -/
  | bilTariffAssign (q tag : Nat)
  /-- BIL_ACCOUNT_SET (R374). Writes an account record. -/
  | bilAccountSet (q tag : Nat)
  /-- BIL_ACCOUNT_CREDIT (R374). Credits an account under a transaction number. -/
  | bilAccountCredit (q tag : Nat)
  /-- BIL_ACCOUNT_READ (R374). Returns account records. -/
  | bilAccountRead (q tag : Nat)
  /-- BIL_CLOCK_SET (R343). Adjusts the legal clock at the next tick, splitting intervals for large steps. -/
  | bilClockSet (q tag : Nat)
  /-- BIL_READING_GET (R374). Returns stored readings. -/
  | bilReadingGet (q tag : Nat)
  /-- BIL_REGISTER_SNAP (R374). Returns a signed register snapshot at the present tick. -/
  | bilRegisterSnap (q tag : Nat)
  /-- BIL_LOG_READ (R374). Returns legal log entries. -/
  | bilLogRead (q tag : Nat)
  /-- BIL_LOG_ACK (R374). Frees log entries and their reading slots up to UP_TO. -/
  | bilLogAck (q tag : Nat)
  /-- BIL_STATUS (R374). Returns the check value, free entries and the legal time. -/
  | bilStatus (q tag : Nat)
  /-- GAU_STRING_CONFIG (R391). Writes or removes a string record. -/
  | gauStringConfig (q tag : Nat)
  /-- GAU_READ (R392). Wakes the gauge and returns string records and A. -/
  | gauRead (q tag : Nat)
  /-- GAU_LEARN_SET (R391). Sets a string's learned capacity and closes its anchor pair. -/
  | gauLearnSet (q tag : Nat)
  /-- STRING_FRAME (R381). A battery management unit's CAN frame is accepted and counted. -/
  | stringFrame (canId : Nat) (data : List Byte)
  /-- ANCHOR_HOLD_EXPIRY (R384). A full or empty condition has held for its hold time and the anchor is declared. -/
  | anchorHoldExpiry (string : Nat)
  /-- STRING_FRAME_TIMEOUT (R388). No frame for GAU_FRAME_TIMEOUT_MS unanchors a CAN string or sets NO_VOLTAGE on a direct one. -/
  | stringFrameTimeout (string : Nat)
  /-- GAUGE_JOURNAL_PERIODIC (R386). Every GAU_JOURNAL_S the gauge writes a journal slot. -/
  | gaugeJournalPeriodic
  /-- GAUGE_REPORT (R389). Every 10 ms the gauge reports A and each string's term to the arbiter. -/
  | gaugeReport
  /-- GAUGE_DATA_STALE (R389). No gauge report for 100 ms makes A 0 and raises the gauge source. -/
  | gaugeDataStale
  /-- BATAUX_LOW (R378). BATAUX falls below 8.5 V; the gauge starts one journal write and stops. -/
  | batauxLow (written : Bool)
  /-- GAUGE_RESTART (R387). BATAUX rises above 9.0 V and the gauge restarts from its valid journal slot. -/
  | gaugeRestart
  /-- HIBERNATION_ENTRY (R379). All idle conditions hold for GAU_IDLE_S and the gauge hibernates. -/
  | hibernationEntry
  /-- HIBERNATION_TICK (R379). Every 100 ms in hibernation the shunts are compared and self-discharge is counted. -/
  | hibernationTick (shunts : List (Nat × Int))
  /-- GAUGE_WAKE (R379). A shunt current, a CAN3 dominant level of 1 µs or a request wakes the gauge. -/
  | gaugeWake (cause : GaugeWake)
  /-- PT_READ (R410). Returns point entries. -/
  | ptRead (q tag : Nat)
  /-- PT_DUMP (R411). Returns a consistent dump of point entries under BULK leave. -/
  | ptDump (q tag : Nat)
  /-- PT_POINT_SET (R412). Writes or removes a point override. -/
  | ptPointSet (q tag : Nat)
  /-- PT_WRITE (R413). Writes a host point. -/
  | ptWrite (q tag : Nat)
  /-- PT_SUBSCRIBE (R414). Creates, changes or removes a subscription. -/
  | ptSubscribe (q tag : Nat)
  /-- PT_FETCH (R415). Waits for and returns changed points of a subscription. -/
  | ptFetch (q tag : Nat)
  /-- FETCH_WAIT_EXPIRY (R415). WAIT_MS passes without a set bit and the fetch completes. -/
  | fetchWaitExpiry (q tag : Nat)
  /-- PT_STATUS (R416). Returns the directory's load figures. -/
  | ptStatus (q tag : Nat)
  /-- CATALOGUE (R398). A node's catalogue is accepted or rejected. -/
  | catalogue (node version : Nat) (records : List CatRecord)
  /-- POINT_BATCH (R403). A node's point batch is received for application. -/
  | pointBatch (node cycle : Nat) (records : List PointRecord)
  /-- POINT_SITE_CYCLE (R404). Each site cycle the engine applies flag changes, module and host points, then node updates within budget. -/
  | pointSiteCycle
  /-- STALE_CHECK (R406). Once per second points silent too long are marked STALE. -/
  | staleCheck
  /-- PLC_NODE_READ (R436). Returns busbar node records. -/
  | plcNodeRead (q tag : Nat)
  /-- PLC_TMAP_READ (R437). Returns a busbar node's tone map. -/
  | plcTmapRead (q tag : Nat)
  /-- PLC_TMAP_REFRESH (R438). Forces a tone-map refresh and completes when the new maps are in force. -/
  | plcTmapRefresh (q tag : Nat)
  /-- PLC_MASK_SET (R438). Sets the carrier mask, voiding every tone map. -/
  | plcMaskSet (q tag : Nat)
  /-- POLL_CYCLE (R426). A poll cycle begins with a beacon, then fixed slots and the bulk period. -/
  | pollCycle
  /-- POLL_RESPONSE (R430). A busbar node's upstream response arrives and its instances are evaluated. -/
  | pollResponse (answer : PollAnswer)
  /-- EXCHANGE_FAILED (R430). No response preamble in time or a failed check ends an exchange and schedules a robust re-poll. -/
  | exchangeFailed (node : Nat)
  /-- REPOLL (R430). At the end of a failed slot the master re-polls the node in robust mode. -/
  | repoll (node : Nat)
  /-- TMAP_REFRESH_DUE (R424). PLC_TMAP_S has passed since the last refresh and a refresh is scheduled. -/
  | tmapRefreshDue (node : Nat)
  /-- TMAP_REFRESH_STEP (R425). A refresh advances one poll cycle: sounding, map exchange, then maps in force. -/
  | tmapRefreshStep (step : TmapStep)
  /-- DISCOVERY_WINDOW (R434). Once per 100 cycles the master invites unjoined nodes and admits planned ones. -/
  | discoveryWindow (answers : List PlcJoin)
  /-- FOREIGN_BEACON (R433). Another issuer's beacon is heard and the module stops transmitting. -/
  | foreignBeacon (epoch : Nat) (release : Bool)
  /-- SEGMENT_SILENCE (R433). No beacon of the holder for 3 poll cycles lets the module take the segment. -/
  | segmentSilence
  /-- CAN_CONFIG (R456). Applies a controller's configuration record at the next bus idle. -/
  | canConfig (q tag : Nat)
  /-- CAN_DETECT (R450). Tries the bit-timing candidates in listen-only mode. -/
  | canDetect (q tag : Nat)
  /-- DETECT_DWELL_EXPIRY (R450). CAN_DETECT_DWELL_MS passes without a frame and the next candidate is taken. -/
  | detectDwellExpiry (controller : Nat)
  /-- DETECT_TIMEOUT (R450). The detection's TIMEOUT_MS passes and the controller returns to its previous mode. -/
  | detectTimeout (controller : Nat)
  /-- CAN_TX (R456). Queues host frames for transmission. -/
  | canTx (q tag : Nat)
  /-- CAN_TX_TIMEOUT (R456). TIMEOUT_MS passes and the unsent frames are removed. -/
  | canTxTimeout (q tag : Nat)
  /-- CAN_FRAME_SENT (R448). A transmit entry is sent, or loses arbitration or meets an error and is retried or failed. -/
  | canFrameSent (controller : Nat) (outcome : CanTxEnd)
  /-- CAN_FRAME_RECEIVED (R445). A received frame is filtered to the receive queue, Granite or rejection. -/
  | canFrameReceived (controller : Nat) (rx : CanRx)
  /-- CAN_RX_READ (R456). Returns held receive entries. -/
  | canRxRead (q tag : Nat)
  /-- CAN_RX_ACK (R456). Frees held receive entries. -/
  | canRxAck (q tag : Nat)
  /-- CAN_RECOVER (R456). Starts bus-off recovery and clears BUSOFF_LOCK. -/
  | canRecover (q tag : Nat)
  /-- CAN_STATUS (R456). Returns a controller's status, error counts and timestamp latch. -/
  | canStatus (q tag : Nat)
  /-- CAN_BUSOFF (R451). The transmit error count passes 255 and the controller goes bus-off. -/
  | canBusoff (controller : Nat)
  /-- BUSOFF_HOLD_EXPIRY (R451). CAN_BUSOFF_HOLD_MS passes and the recovery sequence starts. -/
  | busoffHoldExpiry (controller : Nat)
  /-- CAN_RECOVERED (R451). The 128 × 11 recessive bits are seen and transmission resumes. -/
  | canRecovered (controller : Nat)
  /-- CAN_TS_WRAP (R449). The 32-bit timestamp counter wraps and the wrap count increments. -/
  | canTsWrap
  /-- OBS_STATUS (R481). Returns the life-cycle, tamper and counter status. -/
  | obsStatus (q tag : Nat)
  /-- OBS_SLOT_READ (R482). Returns slot attribute records. -/
  | obsSlotRead (q tag : Nat)
  /-- OBS_CHAIN_READ (R482). Returns the identity chain. -/
  | obsChainRead (q tag : Nat)
  /-- OBS_UPDATE (R471). Applies a signed key update message to a slot or the life cycle. -/
  | obsUpdate (q tag : Nat)
  /-- ENROL_ACK_TIMEOUT (R473). A node does not acknowledge its key within 1 s and ENROL ends with ST_TIMEOUT. -/
  | enrolAckTimeout (node : Nat)
  /-- OBS_ATTEST (R483). Issues a certificate for a slot's public key. -/
  | obsAttest (q tag : Nat)
  /-- OBS_DECOMMISSION (R484). Erases the partition of a tampered module. -/
  | obsDecommission (q tag : Nat)
  /-- TAMPER_DETECTED (R477). An armed tamper source fires and every key is zeroised. -/
  | tamperDetected (sources : BitVec 6)
  /-- REMASK (R467). Every OBS_REMASK_MS every slot's mask is replaced. -/
  | remask
  /-- SERVICE_EXPIRY (R475). SERVICE minutes pass and the mesh is re-learnt and rearmed. -/
  | serviceExpiry
  /-- PAIR_KEY_AGREEMENT (R474). The two Obsidians agree a pair key and copy shared slots. -/
  | pairKeyAgreement (offer : PairOffer) (shared : List (Nat × KeySlot)) (enrolments : List (Nat × Enrolment))
  /-- GRN_CONFIG_LOAD (R519). Loads a pending safety configuration image. -/
  | grnConfigLoad (q tag : Nat)
  /-- GRN_CONFIG_COMMIT (R519). Commits the pending image at a reset pulse. -/
  | grnConfigCommit (q tag : Nat)
  /-- COMMIT_PULSE_TIMEOUT (R519). No reset pulse within 60 s ends the commit with ST_TIMEOUT. -/
  | commitPulseTimeout
  /-- GRN_READ (R519). Returns Granite's state. -/
  | grnRead (q tag : Nat)
  /-- GRN_RESET_ARM (R519). Arms a narrowed reset. -/
  | grnResetArm (q tag : Nat)
  /-- RESET_ARM_EXPIRY (R517). GRN_RESET_WINDOW_S passes and the arm lapses. -/
  | resetArmExpiry
  /-- GRN_TRIP (R519). Trips the named outlets and outputs with cause 7. -/
  | grnTrip (q tag : Nat)
  /-- GRN_CONN_READ (R519). Returns connection records. -/
  | grnConnRead (q tag : Nat)
  /-- GRANITE_CYCLE (R488). Each 1 ms Granite evaluates inputs, outputs, connections and trips. -/
  | graniteCycle (samples : List (BitVec 32)) (refCount : Nat) (headers : Nat)
  /-- SAFETY_TELEGRAM (R503). A safety telegram arrives and is checked and accepted or discarded. -/
  | safetyTelegram (source : SafetySource) (telegram : List Byte)
  /-- CONNECTION_WATCHDOG_EXPIRY (R504). WD_MS passes without an accepted telegram and the connection is FAULTY. -/
  | connectionWatchdogExpiry (conn : Nat)
  /-- CONNECTION_START_TIMEOUT (R504). 10 s without an accepted telegram in STARTING makes the connection FAULTY. -/
  | connectionStartTimeout (conn : Nat)
  /-- STATE_TELEGRAM_DUE (R503). Every PERIOD_MS each connection end sends a state telegram. -/
  | stateTelegramDue (conn : Nat)
  /-- LOCK_SET_RECEIVED (R506). The partner's lock set is received and its lock-outs set locally. -/
  | lockSetReceived (payload : List Byte)
  /-- INPUT_DISCREPANCY (R493). A pair's channels disagree for longer than DISC_MS and the pair is faulty. -/
  | inputDiscrepancy (input : Nat)
  /-- SRESET_PULSE (R514). A valid reset pulse's falling edge clears lock-outs whose cause is gone. -/
  | sresetPulse (highUs : Nat) (lowUs : Nat)
  /-- SRESET_TOO_LONG (R514). SRESET high for more than 2.0 s is refused. -/
  | sresetTooLong
  /-- TEST_PULSE (R498). Every GRN_TP_PERIOD_MS each closed output is test-pulsed and checked. -/
  | testPulse (output : Nat) (highMv lowMv : Nat)
  /-- FEEDBACK_TIMEOUT (R499). The mirror contact misses its level within FB_MS and the output locks out. -/
  | feedbackTimeout (output : Nat)
  /-- OUTPUT_CURRENT_LIMIT (R617). A safe output held in current limit for 5 ms opens and locks out. -/
  | outputCurrentLimit (output : Nat)
  /-- MODULE_SAFE_STATE (R512). The module enters safe state: outputs open, telegrams stop except the partner's, and control is given up. -/
  | moduleSafeState (configurationCheck : Bool)
  /-- GRANITE_HALT (R512). A lockstep mismatch or memory error halts Granite and its outputs open. -/
  | graniteHalt
  /-- FLT_READ (R533). Returns fault source records. -/
  | fltRead (q tag : Nat)
  /-- FLT_REACT_SET (R534). Sets a source's reaction. -/
  | fltReactSet (q tag : Nat)
  /-- FLT_CLEAR (R535). Releases a source's holds and clears its bit. -/
  | fltClear (q tag : Nat)
  /-- FLT_TEST (R536). Reports a test source. -/
  | fltTest (q tag : Nat)
  /-- FAULT_REPORT (R522). A block reports a fault and the collector sets the bit and applies the reaction. -/
  | faultReport (source object : Nat)
  /-- QUEUE_STALL (R523). CQ_FULL has held for FLT_QSTALL_MS and source 33 is reported. -/
  | queueStall (q : Nat)
  /-- COLLECTOR_SELF_CHECK (R531). Every 4 µs the copies are compared, and a fault asserts the safe-state line. -/
  | collectorSelfCheck (live shadow : List (Nat × Nat))
  /-- PAIR_STATUS (R563). Returns the pair status. -/
  | pairStatus (q tag : Nat)
  /-- PAIR_SWITCHOVER (R564). Hands control to the synchronised partner. -/
  | pairSwitchover (q tag : Nat)
  /-- PAIR_STATUS_MESSAGE (R542). A STATUS message from the partner updates its role and health. -/
  | pairStatusMessage (status : PartnerStatus)
  /-- PAIR_LINK_LOST (R542). X5 loses lock or no STATUS arrives for 3 site cycles. -/
  | pairLinkLost (lock : Bool)
  /-- PAIR_LINK_LOCK (R549). X5 gains block lock and the checks of R540 run. -/
  | pairLinkLock (status : PartnerStatus)
  /-- MISMATCH_RECHECK (R540). Every 10 s while a mismatch stands the pair checks run again. -/
  | mismatchRecheck
  /-- IMAGE_SEND (R548). At the end of each site cycle a lease holder sends its state image. -/
  | imageSend
  /-- IMAGE_RECEIVED (R548). The partner's image arrives and is acknowledged. -/
  | imageReceived (image : PairImage)
  /-- IMAGE_ACK (R62). The standby's acknowledgement releases waiting completions and transmissions. -/
  | imageAck (siteCycle : Nat)
  /-- IMAGE_ACK_TIMEOUT (R549). An image is not acknowledged within 2 ms and the link returns to SYNCING. -/
  | imageAckTimeout
  /-- RELEASE_MESSAGE (R547). The partner's RELEASE lets this module emit with epoch + 1 and claim every node. -/
  | releaseMessage (epoch siteCycle : Nat)
  /-- GIVE_UP (R545). A self-diagnosis trigger gives up control and releases the lease. -/
  | giveUp (row : Nat)
  /-- START_WAIT_EXPIRY (R544). Position 1 may claim once PAIR_START_WAIT_MS has passed since its first scan. -/
  | startWaitExpiry
  /-- HEAL (R556). With both modules active and HEAL_SEEN at both, the yielding module releases and the keeper claims all nodes. -/
  | heal
  /-- LOCKSTEP_INPUTS (R559). The standby evaluates its engines from the forwarded INPUTS and compares digests. -/
  | lockstepInputs (inputs : LockInputs)
  /-- SWITCH_DUE (R551). PAIR_SWITCH_DAYS have passed, and the event is raised daily. -/
  | switchDue
  /-- SYS_RESET (R585). Requests a cold or application reset. -/
  | sysReset (q tag : Nat)
  /-- SYS_FW_LOAD (R586). Writes a bundle segment into the inactive firmware slot. -/
  | sysFwLoad (q tag : Nat)
  /-- SYS_FW_ACTIVATE (R587). Makes a verified bundle TRIAL for the next start. -/
  | sysFwActivate (q tag : Nat)
  /-- SYS_FW_COMMIT (R588). Commits the active bundle and raises the fuse counter. -/
  | sysFwCommit (q tag : Nat)
  /-- SYS_FW_STATUS (R588). Returns the firmware slot status. -/
  | sysFwStatus (q tag : Nat)
  /-- POWER_GOOD (R569). The supply has stood above 18.0 V for 200 ms and a power-on start begins. -/
  | powerGood (mv : Nat)
  /-- POWER_FAIL_WARNING (R571). The supply stays below 16.5 V for 100 µs and the power-down sequence begins. -/
  | powerFailWarning (mv : Nat)
  /-- HOLDUP_END (R571). A domain's holdup ends and it powers off. -/
  | holdupEnd (domain : Nat)
  /-- HRST_N (R576). HRST_N held low 10 µs starts a cold reset that takes effect 5 ms later. -/
  | hrstN (lowUs : Nat)
  /-- COLD_RESET_EFFECT (R576). 5 ms after the cause, the cold reset restarts the module. -/
  | coldResetEffect
  /-- WATCHDOG_EXPIRY (R575). The watchdog is not served within SYS_WDOG_MS, and an application reset follows a release. -/
  | watchdogExpiry
  /-- PLL_UNLOCK (R574). A PLL loses lock, causing an application reset or a Jasper gap. -/
  | pllUnlock (pll : Nat)
  /-- MET_PLL_RELOCK (R574). The MET PLL relocks and the legal clock resumes by the RTC time. -/
  | metPllRelock (elapsedMs : Nat)
  /-- STARTUP_PHASE_DONE (R577). A start-up phase ends and the phases that wait on it begin. -/
  | startupPhaseDone (phase : PhaseEnd)
  /-- BIL_CLOCK_LO_READ (R377). A read of BIL_CLOCK_LO latches BIL_CLOCK_HI. -/
  | bilClockLoRead
  /-- ISLAND_LEAVE_TIMEOUT (R76). An island store or island command gets no HOLDUP grant within 2 s, so it completes with ST_NO_LEAVE and nothing changes. -/
  | islandLeaveTimeout (q tag : Nat)
  /-- BULK_LEAVE_TIMEOUT (R215). A trace, capture read or point dump gets no BULK grant within TUNE_LEAVE_WAIT_MS or PT_LEAVE_WAIT_MS and completes with ST_NO_LEAVE. -/
  | bulkLeaveTimeout (q tag : Nat)
  /-- SHUNT_SAMPLE (R383). A direct shunt input yields a sample at 1 kS/s, and the gauge counts it into Q and D. -/
  | shuntSample (input : Nat) (nanovolts : Int)
  /-- ENROL_ACK (R473). A node acknowledges its wrapped key, and ENROL completes. -/
  | enrolAck (node startMa : Nat)
  /-- OBS_BKBAT_LOW (R479). BKBAT falls below OBS_BKBAT_WARN_MV with 24 V present, and the module raises OBS_BKBAT_LOW and the key vault fault source without a tamper. -/
  | obsBkbatLow (mv : Nat)
  /-- SWITCHOVER_TIMEOUT (R564). The partner does not report holding every node within 10 ms (plus 3 × PLC_CYCLE_MS), so PAIR_SWITCHOVER completes with ST_TIMEOUT. -/
  | switchoverTimeout
  /-- FW_ACTIVATE_PULSE_TIMEOUT (R587). No reset pulse arrives within 60 s for a new Granite copy, so SYS_FW_ACTIVATE completes with ST_TIMEOUT. -/
  | fwActivatePulseTimeout
  /-- PROTOCOL_TIMEOUT (R293). A vehicle message other than the current demand request is later than the protocol's timeout, and the session ends with cause TIMEOUT. -/
  | protocolTimeout (context : Nat)
  /-- PARTNER_REQUEST (R373). The standby receives a command that the active module forwards to it, and carries it out on its own island or NVM. -/
  | partnerRequest (desc : PartnerCmd)
  /-- PARTNER_REPLY (R373). The standby's status for a mirrored command arrives, and the active module posts the completion with PARTNER_STATUS. -/
  | partnerReply (q tag status : Nat)
  /-- PARTNER_REPLY_TIMEOUT (R373). 2 ms pass without the standby Jasper's acknowledgement, and the active module posts the completion anyway. -/
  | partnerReplyTimeout (q tag : Nat)
  /-- PPS_SECOND (R596). PPS_OUT rises at each whole second of system time and falls 100 ms later. -/
  | ppsSecond (rising : Bool)
  deriving DecidableEq, Repr

end Sys2Proof
end

