-- ==== Sys2Proof/Decode.lean ====
section
/-!
DEFINITION. The command that a table word spells. The opcode table of this block gives its rows no bits.
-/
namespace Sys2Proof

/-- No row of spec/opcode_table.json has bits, so no word spells a command (assumption 3). -/
def decodeTableWord (_nbits _w : Nat) : Option Instr := none

end Sys2Proof
end

