-- ==== Sys2Proof/Config.lean ====
section
/-!
DEFINITION. The values the spec leaves open, as constants without a body, and the fixed sizes of the module.
No statement can be proved about the value of an opaque constant: whatever is stated holds for every value.
-/
namespace Sys2Proof.Config

/-- A free value where the spec leaves a number open: the n-th open number of a run. -/
opaque freeNat : Nat → Nat

/-- A free value where the spec leaves a signed number open. -/
opaque freeInt : Nat → Int

/-- A single-precision quotient by 0, of a mantissa and an exponent (R259): the spec gives F_NOM no lower bound. -/
opaque divByZero : Int → Int → Int × Int

/-- The bytes over which the digest of R560 runs: the loop frames inserted and the ledger's slots. The spec gives no order or layout. -/
opaque digestBytes : List (List Byte) → List (List Nat) → List Byte

/-- SHA-256 of a byte string, as 32 bytes. The model reasons about no value of the hash. -/
opaque sha256 : List Byte → List Byte

/-- SHA-384 of a byte string, as 48 bytes (R580). -/
opaque sha384 : List Byte → List Byte

/-- AES-CMAC under a named key: the kind of key (a number the caller fixes), the key's number and the message. -/
opaque cmac : Nat → Nat → List Byte → List Byte

/-- A signature by the key of a slot over a byte string: slot, message and the draw of the nonce, which
the spec does not give. -/
opaque sign : Nat → List Byte → Nat → List Byte

/-- Whether a signature over a byte string verifies under the public key of a slot (or, for slot numbers the caller fixes
above 65,535, of a key that the module holds elsewhere). -/
opaque verifies : Nat → List Byte → List Byte → Bool

/-- Whether a signature over a byte string verifies under a public key given as bytes (R472). -/
opaque verifiesUnder : List Byte → List Byte → List Byte → Bool

/-- Whether a certificate chain verifies up to a root certificate, and the public key of its leaf (R281). -/
opaque chainKey : List Byte → List Byte → Option (List Byte)

/-- The public key of a private key of a type, as DER SubjectPublicKeyInfo (R464). -/
opaque publicKey : Nat → Nat → List Byte

/-- The DER SubjectPublicKeyInfo in a certificate. -/
opaque spki : List Byte → List Byte

/-- The key that a wrapped key unwraps to under a header, none where it does not unwrap (R470). -/
opaque unwrap : List Byte → List Byte → Option Nat

/-- Whether a node's certificate verifies under the key of a slot, names an identity, and has an X448 key (R473). -/
opaque nodeCertOk : Nat → List Byte → List Byte → Bool

/-- Whether certificates 0 to 2 of a module verify against the key of a slot; then their device identity and the identity key (R461, R474). -/
opaque chainUnder : Nat → List (List Byte) → Option (List Byte × List Byte)

/-- The common name of a DER certificate. -/
opaque commonName : List Byte → List Byte

/-- HKDF-SHA-256 of the X448 result between a private key and a public one (R474). -/
opaque agree : Nat → List Byte → Nat

/-- A key wrapped for the X448 key of a certificate (R470): certificate, key and the draw of the ephemeral key and the nonce. -/
opaque wrapFor : List Byte → Nat → Nat → List Byte

/-- HMAC-SHA-256 under a key, cut to 128 bits (R473). -/
opaque deriveKey : Nat → List Byte → Nat

/-- The DER certificate that the identity key issues over a text (R483). -/
opaque certificate : List Byte → List Byte → List Byte

/-- The stage of the 15-bit shift register whose bit is the PRBS (R208): the spec does not name it. -/
opaque prbsTap : Nat

/-- The version number of the dictionary (R82 names it, no rule gives a value). -/
opaque dictVersion : Nat

end Sys2Proof.Config
end

