-- ==== Sys2Proof/Machine/Dictionary.lean ====
section
/-!
DEFINITION. The parameter dictionary: the entries that the parameter tables of the chapters define (R72 to R77, R627, R628).
-/
namespace Sys2Proof.Machine

/-- A dictionary entry (R73). `apply`: 0 RUN, 1 BOOT, 2 STOPPED. Where a table states no APPLY the entry is RUN (assumption 5). -/
structure ParEntry where
  id : Nat
  name : String
  type : Nat
  unit : Nat
  scale : Int
  apply : Nat
  flags : Nat
  roles : BitVec 16
  min : Int
  max : Int
  dflt : Int
  deriving DecidableEq, Repr

/-- Group 00. -/
def parGroup00 : List ParEntry := [
  ⟨0x0000, "SYS_WDOG_MS", 3, 1, (-3), 1, 5, 9, 10, 1000, 100⟩]

/-- Group 01. -/
def parGroup01 : List ParEntry := [
  ⟨0x0100, "HOST_KEEPALIVE_MS", 3, 1, (-3), 0, 5, 9, 500, 60000, 3000⟩,
  ⟨0x0101, "HOST_IRQ_COALESCE_US", 3, 1, (-6), 0, 69, 9, 0, 1000, 0⟩,
  ⟨0x0102, "HOST_TLS_PORT", 3, 0, 0, 1, 5, 9, 1024, 65535, 4871⟩,
  ⟨0x0103, "PTP_DOMAIN", 3, 0, 0, 1, 5, 9, 0, 127, 0⟩,
  ⟨0x0104, "PTP_TRANSPORT", 7, 0, 0, 1, 5, 9, 0, 1, 0⟩,
  ⟨0x0110, "ETH0_IP", 9, 0, 0, 1, 69, 9, 0, 4294967295, 0⟩,
  ⟨0x0111, "ETH0_PREFIX", 3, 0, 0, 1, 69, 9, 1, 30, 24⟩,
  ⟨0x0112, "ETH0_GW", 9, 0, 0, 1, 69, 9, 0, 4294967295, 0⟩,
  ⟨0x0114, "ETH1_IP", 9, 0, 0, 1, 69, 9, 0, 4294967295, 0⟩,
  ⟨0x0115, "ETH1_PREFIX", 3, 0, 0, 1, 69, 9, 1, 30, 24⟩,
  ⟨0x0116, "ETH1_GW", 9, 0, 0, 1, 69, 9, 0, 4294967295, 0⟩,
  ⟨0x0118, "ETH2_IP", 9, 0, 0, 1, 69, 9, 0, 4294967295, 0⟩,
  ⟨0x0119, "ETH2_PREFIX", 3, 0, 0, 1, 69, 9, 1, 30, 24⟩,
  ⟨0x011A, "ETH2_GW", 9, 0, 0, 1, 69, 9, 0, 4294967295, 0⟩]

/-- Group 02. -/
def parGroup02 : List ParEntry := [
  ⟨0x0200, "NV_LEAVE_WAIT_MS", 3, 1, (-3), 0, 5, 9, 100, 10000, 2000⟩,
  ⟨0x0201, "NV_WEAR_WARN", 3, 0, 0, 0, 5, 9, 10000, 100000, 90000⟩]

/-- Group 03. -/
def parGroup03 : List ParEntry := [
  ⟨0x0300, "LV_CONTRACT_KW", 3, 4, 3, 0, 5, 1, 0, 200000, 0⟩,
  ⟨0x0301, "LV_FALLBACK_KW", 3, 4, 3, 0, 5, 5, 0, 200000, 200000⟩,
  ⟨0x0302, "LV_AUX_KW", 3, 4, 3, 0, 5, 9, 0, 200000, 0⟩,
  ⟨0x0303, "LV_BUF_MAX_KW", 3, 4, 3, 0, 5, 9, 0, 200000, 0⟩,
  ⟨0x0304, "LV_IMPORT_TARGET_KW", 3, 4, 3, 0, 5, 3, 0, 200000, 200000⟩,
  ⟨0x0305, "LV_BUF_HORIZON_MIN", 3, 11, 0, 0, 5, 9, 1, 240, 10⟩,
  ⟨0x0306, "LV_OVER_TOL_KW", 3, 4, 3, 0, 5, 9, 0, 10000, 200⟩,
  ⟨0x0307, "LV_OVER_MS", 3, 1, (-3), 0, 5, 9, 100, 10000, 1000⟩,
  ⟨0x0308, "LV_WORK_BULK_MBS", 3, 14, 6, 0, 5, 9, 128, 4096, 1024⟩,
  ⟨0x0310, "LV_NOTICE_MS_C0", 3, 1, (-3), 0, 5, 3, 200, 1000, 1000⟩,
  ⟨0x0311, "LV_NOTICE_MS_C1", 3, 1, (-3), 0, 5, 3, 200, 1000, 1000⟩,
  ⟨0x0312, "LV_NOTICE_MS_C2", 3, 1, (-3), 0, 5, 3, 200, 1000, 1000⟩,
  ⟨0x0313, "LV_NOTICE_MS_C3", 3, 1, (-3), 0, 5, 3, 200, 1000, 1000⟩,
  ⟨0x0314, "LV_NOTICE_MS_C4", 3, 1, (-3), 0, 5, 3, 200, 1000, 1000⟩,
  ⟨0x0315, "LV_NOTICE_MS_C5", 3, 1, (-3), 0, 5, 3, 200, 1000, 1000⟩,
  ⟨0x0316, "LV_NOTICE_MS_C6", 3, 1, (-3), 0, 5, 3, 200, 1000, 1000⟩,
  ⟨0x0317, "LV_NOTICE_MS_C7", 3, 1, (-3), 0, 5, 3, 200, 1000, 1000⟩]

/-- Group 04. -/
def parGroup04 : List ParEntry := [
  ⟨0x0400, "RING_HOLD_US", 3, 1, (-6), 0, 5, 9, 0, 50000, 5000⟩,
  ⟨0x0401, "RING_RAMP_MS", 3, 1, (-3), 0, 5, 9, 10, 2000, 200⟩,
  ⟨0x0402, "RING_LOOP_BLK", 3, 0, 0, 1, 5, 9, 256, 1536, 1024⟩,
  ⟨0x0403, "RING_SAFE_BLK", 3, 0, 0, 1, 5, 9, 32, 256, 128⟩,
  ⟨0x0404, "RING_MET_BLK", 3, 0, 0, 1, 5, 9, 64, 512, 256⟩]

/-- Group 05. -/
def parGroup05 : List ParEntry := [
  ⟨0x0500, "BAS_EVAL_LIMIT", 3, 0, 0, 0, 5, 9, 100, 800, 800⟩,
  ⟨0x0501, "BAS_SITE_FS_KW", 3, 4, 3, 2, 5, 9, 1000, 200000, 100000⟩]

/-- Group 06. -/
def parGroup06 : List ParEntry := [
  ⟨0x0600, "TUNE_INJ_MAX", 3, 0, 0, 0, 5, 9, 33, 8192, 1638⟩,
  ⟨0x0601, "TUNE_READ_MBS", 3, 14, 6, 0, 5, 9, 16, 1024, 64⟩,
  ⟨0x0602, "TUNE_LEAVE_WAIT_MS", 3, 1, (-3), 0, 5, 9, 10, 10000, 1000⟩]

/-- Group 07. -/
def parGroup07 : List ParEntry := [
  ⟨0x0700, "STG_TOKEN_MS", 3, 1, (-3), 0, 5, 9, 100, 10000, 2000⟩,
  ⟨0x0701, "STG_SS_DVDT", 3, 15, 3, 0, 5, 9, 1, 500, 50⟩,
  ⟨0x0702, "STG_SS_ILIM_A", 3, 3, 0, 0, 5, 9, 1, 1000, 2⟩,
  ⟨0x0703, "STG_SS_LAG_V", 3, 2, 0, 0, 5, 9, 10, 200, 50⟩,
  ⟨0x0704, "STG_SHORT_PCT", 3, 8, 1, 0, 5, 9, 50, 100, 90⟩,
  ⟨0x0705, "STG_SS_TIMEOUT_MS", 3, 1, (-3), 0, 5, 9, 100, 10000, 2000⟩,
  ⟨0x0706, "STG_TRUNC_PCT", 3, 8, 1, 0, 5, 9, 5, 50, 20⟩,
  ⟨0x0707, "STG_HEAVY_PCT", 3, 8, 1, 0, 5, 9, 10, 80, 20⟩,
  ⟨0x0708, "STG_OPEN_PCT", 3, 8, 1, 0, 5, 9, 5, 50, 25⟩,
  ⟨0x0709, "STG_OPEN_MS", 3, 1, (-3), 0, 5, 9, 1, 100, 2⟩,
  ⟨0x070A, "STG_SENSE_PCT", 3, 8, 1, 0, 5, 9, 2, 30, 10⟩,
  ⟨0x070B, "STG_SENSE_MS", 3, 1, (-3), 0, 5, 9, 1, 100, 1⟩]

/-- Group 08. -/
def parGroup08 : List ParEntry := [
  ⟨0x0800, "COOL_PRIME_MS", 3, 1, (-3), 0, 5, 9, 100, 10000, 2000⟩,
  ⟨0x0801, "COOL_PRIME_MAX_MS", 3, 1, (-3), 0, 5, 9, 1000, 60000, 15000⟩,
  ⟨0x0802, "COOL_FLOW_MS", 3, 1, (-3), 0, 5, 9, 100, 5000, 500⟩,
  ⟨0x0803, "COOL_LOSS_RAMP_AS", 3, 16, 0, 0, 5, 9, 100, 10000, 1000⟩,
  ⟨0x0804, "COOL_OPENLOOP_PCT", 3, 8, 1, 0, 5, 9, 50, 100, 80⟩,
  ⟨0x0805, "COOL_OBS_DEV_K", 3, 17, 0, 0, 5, 9, 2, 30, 8⟩,
  ⟨0x0806, "COOL_SAMPLE_MS", 3, 1, (-3), 0, 5, 9, 5, 500, 50⟩,
  ⟨0x0807, "COOL_RUNON_S", 3, 1, 0, 0, 5, 9, 0, 1800, 120⟩,
  ⟨0x0808, "COOL_DTDT_MAX", 3, 18, 0, 0, 5, 9, 1, 100, 20⟩]

/-- Group 09. -/
def parGroup09 : List ParEntry := [
  ⟨0x0900, "SES_AUTH_TIMEOUT_MS", 3, 1, (-3), 0, 5, 9, 1000, 60000, 20000⟩,
  ⟨0x0901, "SES_LEAVE_WAIT_MS", 3, 1, (-3), 0, 5, 9, 0, 60000, 30000⟩,
  ⟨0x0902, "SES_STOP_RAMP_AS", 3, 16, 0, 0, 5, 9, 100, 10000, 500⟩,
  ⟨0x0903, "SES_ESTOP_MS", 3, 1, (-3), 0, 5, 9, 10, 100, 30⟩,
  ⟨0x0904, "SES_SHRINK_PCT", 3, 8, 1, 0, 5, 9, 5, 50, 10⟩,
  ⟨0x0905, "SES_SHRINK_S", 3, 1, 0, 0, 5, 9, 1, 600, 30⟩,
  ⟨0x0906, "SES_REGRANT_S", 3, 1, 0, 0, 5, 9, 1, 60, 5⟩,
  ⟨0x0907, "SES_DEMAND_TIMEOUT_MS", 3, 1, (-3), 0, 5, 9, 100, 5000, 1000⟩,
  ⟨0x0908, "SES_RX_LIMIT_FPS", 3, 0, 0, 0, 5, 9, 100, 10000, 1000⟩,
  ⟨0x0909, "SES_PRE_TOL_V", 3, 2, 0, 0, 5, 9, 5, 50, 20⟩,
  ⟨0x090A, "SES_OV_MARGIN_V", 3, 2, 0, 0, 5, 9, 5, 100, 20⟩]

/-- Group 0A. -/
def parGroup0A : List ParEntry := [
  ⟨0x0A00, "SES_TLS_ONLY", 7, 0, 0, 0, 5, 9, 0, 1, 0⟩,
  ⟨0x0A01, "SES_SECC_SLOT", 3, 0, 0, 0, 5, 9, 0, 255, 0⟩,
  ⟨0x0A02, "SES_LINK_S", 3, 1, 0, 0, 5, 9, 5, 120, 30⟩,
  ⟨0x0A03, "SES_CABLE_MAX_S", 3, 1, 0, 0, 5, 9, 1, 60, 15⟩]

/-- Group 0B. -/
def parGroup0B : List ParEntry := [
  ⟨0x0B00, "MET_SEAL_MAX_MIN", 3, 11, 0, 0, 9, 1, 10, 1440, 120⟩,
  ⟨0x0B01, "MET_READ_AVG_MS", 3, 1, (-3), 0, 9, 9, 10, 1000, 100⟩]

/-- Group 0C. -/
def parGroup0C : List ParEntry := [
  ⟨0x0C00, "MET_CAL_SEQ", 3, 0, 0, 0, 11, 9, 0, 4294967295, 0⟩,
  ⟨0x0C01, "MET_SEAL_COUNT", 3, 0, 0, 0, 11, 9, 0, 4294967295, 0⟩,
  ⟨0x0C02, "MET_SEAL_OPEN", 7, 0, 0, 0, 11, 9, 0, 1, 0⟩,
  ⟨0x0C03, "MET_CHAN_COUNT", 3, 0, 0, 0, 11, 9, 0, 264, 0⟩]

/-- Group 0D. -/
def parGroup0D : List ParEntry := [
  ⟨0x0D00, "BIL_ADJ_LIMIT_S", 3, 1, 0, 0, 9, 1, 1, 60, 2⟩,
  ⟨0x0D01, "BIL_PERIOD_DAY", 3, 0, 0, 0, 9, 1, 1, 28, 1⟩,
  ⟨0x0D02, "BIL_PERIOD_HOUR", 3, 0, 0, 0, 9, 1, 0, 23, 0⟩,
  ⟨0x0D03, "BIL_UTC_OFFSET_MIN", 4, 11, 0, 0, 9, 1, (-720), 840, 0⟩,
  ⟨0x0D04, "BIL_OFFSET_NEXT_MIN", 4, 11, 0, 0, 9, 1, (-720), 840, 0⟩,
  ⟨0x0D05, "BIL_OFFSET_AT_S", 3, 1, 0, 0, 9, 1, 0, 4294967295, 0⟩]

/-- Group 0E. -/
def parGroup0E : List ParEntry := [
  ⟨0x0E00, "TARIFF_VERSION_0", 3, 0, 0, 0, 11, 1, 0, 4294967295, 0⟩,
  ⟨0x0E01, "TARIFF_VERSION_1", 3, 0, 0, 0, 11, 1, 0, 4294967295, 0⟩,
  ⟨0x0E02, "TARIFF_VERSION_2", 3, 0, 0, 0, 11, 1, 0, 4294967295, 0⟩,
  ⟨0x0E03, "TARIFF_VERSION_3", 3, 0, 0, 0, 11, 1, 0, 4294967295, 0⟩,
  ⟨0x0E04, "TARIFF_VERSION_4", 3, 0, 0, 0, 11, 1, 0, 4294967295, 0⟩,
  ⟨0x0E05, "TARIFF_VERSION_5", 3, 0, 0, 0, 11, 1, 0, 4294967295, 0⟩,
  ⟨0x0E06, "TARIFF_VERSION_6", 3, 0, 0, 0, 11, 1, 0, 4294967295, 0⟩,
  ⟨0x0E07, "TARIFF_VERSION_7", 3, 0, 0, 0, 11, 1, 0, 4294967295, 0⟩,
  ⟨0x0E08, "TARIFF_VERSION_8", 3, 0, 0, 0, 11, 1, 0, 4294967295, 0⟩,
  ⟨0x0E09, "TARIFF_VERSION_9", 3, 0, 0, 0, 11, 1, 0, 4294967295, 0⟩,
  ⟨0x0E0A, "TARIFF_VERSION_10", 3, 0, 0, 0, 11, 1, 0, 4294967295, 0⟩,
  ⟨0x0E0B, "TARIFF_VERSION_11", 3, 0, 0, 0, 11, 1, 0, 4294967295, 0⟩,
  ⟨0x0E0C, "TARIFF_VERSION_12", 3, 0, 0, 0, 11, 1, 0, 4294967295, 0⟩,
  ⟨0x0E0D, "TARIFF_VERSION_13", 3, 0, 0, 0, 11, 1, 0, 4294967295, 0⟩,
  ⟨0x0E0E, "TARIFF_VERSION_14", 3, 0, 0, 0, 11, 1, 0, 4294967295, 0⟩,
  ⟨0x0E0F, "TARIFF_VERSION_15", 3, 0, 0, 0, 11, 1, 0, 4294967295, 0⟩]

/-- Group 0F. -/
def parGroup0F : List ParEntry := [
  ⟨0x0F00, "GAU_RESERVE_PCT", 3, 8, 1, 0, 9, 3, 0, 80, 20⟩,
  ⟨0x0F01, "GAU_FULL_HOLD_S", 3, 1, 0, 0, 9, 9, 10, 600, 60⟩,
  ⟨0x0F02, "GAU_EMPTY_HOLD_S", 3, 1, 0, 0, 9, 9, 1, 120, 10⟩,
  ⟨0x0F03, "GAU_LEARN_MAX_PCT", 3, 8, 1, 0, 9, 9, 1, 20, 10⟩,
  ⟨0x0F04, "GAU_FRAME_TIMEOUT_MS", 3, 1, (-3), 0, 9, 9, 100, 5000, 500⟩,
  ⟨0x0F05, "GAU_IDLE_S", 3, 1, 0, 0, 9, 9, 10, 3600, 60⟩,
  ⟨0x0F06, "GAU_JOURNAL_S", 3, 1, 0, 0, 9, 9, 10, 600, 60⟩]

/-- Group 10. -/
def parGroup10 : List ParEntry := [
  ⟨0x1000, "PT_INTEGRITY_S", 3, 1, 0, 0, 5, 9, 10, 3600, 60⟩,
  ⟨0x1001, "PT_DUMP_MBS", 3, 14, 6, 0, 5, 9, 16, 1024, 128⟩,
  ⟨0x1002, "PT_LEAVE_WAIT_MS", 3, 1, (-3), 0, 5, 9, 10, 10000, 1000⟩,
  ⟨0x1003, "PT_LOAD_WARN_PCT", 3, 8, 1, 0, 5, 9, 50, 100, 90⟩]

/-- Group 11. -/
def parGroup11 : List ParEntry := [
  ⟨0x1100, "PLC_CYCLE_MS", 3, 1, (-3), 1, 5, 9, 10, 100, 10⟩,
  ⟨0x1101, "PLC_TMAP_S", 3, 1, 0, 0, 5, 9, 5, 600, 30⟩,
  ⟨0x1102, "PLC_MARGIN_DB", 3, 13, 0, 0, 5, 9, 0, 12, 3⟩,
  ⟨0x1103, "PLC_BULK_SYM", 3, 0, 0, 0, 5, 9, 1, 32, 8⟩,
  ⟨0x1104, "PLC_RETRY_RESERVE", 3, 0, 0, 0, 5, 9, 0, 8, 2⟩]

/-- Group 12. -/
def parGroup12 : List ParEntry := [
  ⟨0x1200, "CAN_DETECT_DWELL_MS", 3, 1, (-3), 0, 5, 9, 10, 10000, 250⟩,
  ⟨0x1201, "CAN_BUSOFF_HOLD_MS", 3, 1, (-3), 0, 5, 9, 0, 60000, 100⟩,
  ⟨0x1202, "CAN_BUSOFF_MAX", 3, 0, 0, 0, 5, 9, 1, 100, 5⟩]

/-- Group 13. -/
def parGroup13 : List ParEntry := [
  ⟨0x1300, "OBS_REMASK_MS", 3, 1, (-3), 0, 9, 1, 1, 256, 16⟩,
  ⟨0x1301, "OBS_BKBAT_WARN_MV", 3, 2, (-3), 0, 9, 9, 2500, 2900, 2700⟩]

/-- Group 14. -/
def parGroup14 : List ParEntry := [
  ⟨0x1400, "GRN_TP_PERIOD_MS", 3, 1, (-3), 0, 43, 9, 100, 10000, 1000⟩,
  ⟨0x1401, "GRN_TP_US", 3, 1, (-6), 0, 43, 9, 200, 1000, 500⟩,
  ⟨0x1402, "GRN_CRC_MAX", 3, 0, 0, 0, 43, 9, 1, 100, 10⟩,
  ⟨0x1403, "GRN_RESET_WINDOW_S", 3, 1, 0, 0, 43, 9, 5, 300, 30⟩,
  ⟨0x1404, "GRN_UDP_PORT", 3, 0, 0, 0, 43, 9, 1024, 65535, 4872⟩,
  ⟨0x1405, "GRN_CONFIG_CRC", 3, 0, 0, 0, 43, 9, 0, 4294967295, 0⟩]

/-- Group 15. -/
def parGroup15 : List ParEntry := [
  ⟨0x1500, "FLT_QSTALL_MS", 3, 1, (-3), 0, 5, 9, 100, 60000, 5000⟩,
  ⟨0x1501, "FLT_EVENT_HOLDOFF_MS", 3, 1, (-3), 0, 5, 9, 0, 10000, 1000⟩]

/-- Group 16. -/
def parGroup16 : List ParEntry := [
  ⟨0x1600, "PAIR_LEASE_MS", 3, 1, (-3), 0, 5, 9, 2, 100, 10⟩,
  ⟨0x1601, "PAIR_POSITION", 7, 0, 0, 1, 69, 1, 0, 1, 0⟩,
  ⟨0x1602, "PAIR_MODE", 7, 0, 0, 1, 5, 9, 0, 1, 0⟩,
  ⟨0x1603, "PAIR_START_WAIT_MS", 3, 1, (-3), 1, 5, 9, 100, 10000, 1000⟩,
  ⟨0x1604, "PAIR_STALE_MS", 3, 1, (-3), 0, 5, 9, 2, 1000, 20⟩,
  ⟨0x1605, "PAIR_SWITCH_DAYS", 3, 12, 0, 0, 5, 9, 1, 365, 30⟩]

/-- The whole dictionary, in ascending order of ID. -/
def dictionary : List ParEntry :=
  parGroup00 ++ parGroup01 ++ parGroup02 ++ parGroup03 ++ parGroup04 ++ parGroup05 ++ parGroup06 ++ parGroup07 ++ parGroup08 ++ parGroup09 ++ parGroup0A ++ parGroup0B ++ parGroup0C ++ parGroup0D ++ parGroup0E ++ parGroup0F ++ parGroup10 ++ parGroup11 ++ parGroup12 ++ parGroup13 ++ parGroup14 ++ parGroup15 ++ parGroup16

/-! The identity of each parameter by its name. -/
def PAR_SYS_WDOG_MS : Nat := 0x0000
def PAR_HOST_KEEPALIVE_MS : Nat := 0x0100
def PAR_HOST_IRQ_COALESCE_US : Nat := 0x0101
def PAR_HOST_TLS_PORT : Nat := 0x0102
def PAR_PTP_DOMAIN : Nat := 0x0103
def PAR_PTP_TRANSPORT : Nat := 0x0104
def PAR_ETH0_IP : Nat := 0x0110
def PAR_ETH0_PREFIX : Nat := 0x0111
def PAR_ETH0_GW : Nat := 0x0112
def PAR_ETH1_IP : Nat := 0x0114
def PAR_ETH1_PREFIX : Nat := 0x0115
def PAR_ETH1_GW : Nat := 0x0116
def PAR_ETH2_IP : Nat := 0x0118
def PAR_ETH2_PREFIX : Nat := 0x0119
def PAR_ETH2_GW : Nat := 0x011A
def PAR_NV_LEAVE_WAIT_MS : Nat := 0x0200
def PAR_NV_WEAR_WARN : Nat := 0x0201
def PAR_LV_CONTRACT_KW : Nat := 0x0300
def PAR_LV_FALLBACK_KW : Nat := 0x0301
def PAR_LV_AUX_KW : Nat := 0x0302
def PAR_LV_BUF_MAX_KW : Nat := 0x0303
def PAR_LV_IMPORT_TARGET_KW : Nat := 0x0304
def PAR_LV_BUF_HORIZON_MIN : Nat := 0x0305
def PAR_LV_OVER_TOL_KW : Nat := 0x0306
def PAR_LV_OVER_MS : Nat := 0x0307
def PAR_LV_WORK_BULK_MBS : Nat := 0x0308
def PAR_LV_NOTICE_MS_C0 : Nat := 0x0310
def PAR_LV_NOTICE_MS_C1 : Nat := 0x0311
def PAR_LV_NOTICE_MS_C2 : Nat := 0x0312
def PAR_LV_NOTICE_MS_C3 : Nat := 0x0313
def PAR_LV_NOTICE_MS_C4 : Nat := 0x0314
def PAR_LV_NOTICE_MS_C5 : Nat := 0x0315
def PAR_LV_NOTICE_MS_C6 : Nat := 0x0316
def PAR_LV_NOTICE_MS_C7 : Nat := 0x0317
def PAR_RING_HOLD_US : Nat := 0x0400
def PAR_RING_RAMP_MS : Nat := 0x0401
def PAR_RING_LOOP_BLK : Nat := 0x0402
def PAR_RING_SAFE_BLK : Nat := 0x0403
def PAR_RING_MET_BLK : Nat := 0x0404
def PAR_BAS_EVAL_LIMIT : Nat := 0x0500
def PAR_BAS_SITE_FS_KW : Nat := 0x0501
def PAR_TUNE_INJ_MAX : Nat := 0x0600
def PAR_TUNE_READ_MBS : Nat := 0x0601
def PAR_TUNE_LEAVE_WAIT_MS : Nat := 0x0602
def PAR_STG_TOKEN_MS : Nat := 0x0700
def PAR_STG_SS_DVDT : Nat := 0x0701
def PAR_STG_SS_ILIM_A : Nat := 0x0702
def PAR_STG_SS_LAG_V : Nat := 0x0703
def PAR_STG_SHORT_PCT : Nat := 0x0704
def PAR_STG_SS_TIMEOUT_MS : Nat := 0x0705
def PAR_STG_TRUNC_PCT : Nat := 0x0706
def PAR_STG_HEAVY_PCT : Nat := 0x0707
def PAR_STG_OPEN_PCT : Nat := 0x0708
def PAR_STG_OPEN_MS : Nat := 0x0709
def PAR_STG_SENSE_PCT : Nat := 0x070A
def PAR_STG_SENSE_MS : Nat := 0x070B
def PAR_COOL_PRIME_MS : Nat := 0x0800
def PAR_COOL_PRIME_MAX_MS : Nat := 0x0801
def PAR_COOL_FLOW_MS : Nat := 0x0802
def PAR_COOL_LOSS_RAMP_AS : Nat := 0x0803
def PAR_COOL_OPENLOOP_PCT : Nat := 0x0804
def PAR_COOL_OBS_DEV_K : Nat := 0x0805
def PAR_COOL_SAMPLE_MS : Nat := 0x0806
def PAR_COOL_RUNON_S : Nat := 0x0807
def PAR_COOL_DTDT_MAX : Nat := 0x0808
def PAR_SES_AUTH_TIMEOUT_MS : Nat := 0x0900
def PAR_SES_LEAVE_WAIT_MS : Nat := 0x0901
def PAR_SES_STOP_RAMP_AS : Nat := 0x0902
def PAR_SES_ESTOP_MS : Nat := 0x0903
def PAR_SES_SHRINK_PCT : Nat := 0x0904
def PAR_SES_SHRINK_S : Nat := 0x0905
def PAR_SES_REGRANT_S : Nat := 0x0906
def PAR_SES_DEMAND_TIMEOUT_MS : Nat := 0x0907
def PAR_SES_RX_LIMIT_FPS : Nat := 0x0908
def PAR_SES_PRE_TOL_V : Nat := 0x0909
def PAR_SES_OV_MARGIN_V : Nat := 0x090A
def PAR_SES_TLS_ONLY : Nat := 0x0A00
def PAR_SES_SECC_SLOT : Nat := 0x0A01
def PAR_SES_LINK_S : Nat := 0x0A02
def PAR_SES_CABLE_MAX_S : Nat := 0x0A03
def PAR_MET_SEAL_MAX_MIN : Nat := 0x0B00
def PAR_MET_READ_AVG_MS : Nat := 0x0B01
def PAR_MET_CAL_SEQ : Nat := 0x0C00
def PAR_MET_SEAL_COUNT : Nat := 0x0C01
def PAR_MET_SEAL_OPEN : Nat := 0x0C02
def PAR_MET_CHAN_COUNT : Nat := 0x0C03
def PAR_BIL_ADJ_LIMIT_S : Nat := 0x0D00
def PAR_BIL_PERIOD_DAY : Nat := 0x0D01
def PAR_BIL_PERIOD_HOUR : Nat := 0x0D02
def PAR_BIL_UTC_OFFSET_MIN : Nat := 0x0D03
def PAR_BIL_OFFSET_NEXT_MIN : Nat := 0x0D04
def PAR_BIL_OFFSET_AT_S : Nat := 0x0D05
def PAR_TARIFF_VERSION_0 : Nat := 0x0E00
def PAR_TARIFF_VERSION_1 : Nat := 0x0E01
def PAR_TARIFF_VERSION_2 : Nat := 0x0E02
def PAR_TARIFF_VERSION_3 : Nat := 0x0E03
def PAR_TARIFF_VERSION_4 : Nat := 0x0E04
def PAR_TARIFF_VERSION_5 : Nat := 0x0E05
def PAR_TARIFF_VERSION_6 : Nat := 0x0E06
def PAR_TARIFF_VERSION_7 : Nat := 0x0E07
def PAR_TARIFF_VERSION_8 : Nat := 0x0E08
def PAR_TARIFF_VERSION_9 : Nat := 0x0E09
def PAR_TARIFF_VERSION_10 : Nat := 0x0E0A
def PAR_TARIFF_VERSION_11 : Nat := 0x0E0B
def PAR_TARIFF_VERSION_12 : Nat := 0x0E0C
def PAR_TARIFF_VERSION_13 : Nat := 0x0E0D
def PAR_TARIFF_VERSION_14 : Nat := 0x0E0E
def PAR_TARIFF_VERSION_15 : Nat := 0x0E0F
def PAR_GAU_RESERVE_PCT : Nat := 0x0F00
def PAR_GAU_FULL_HOLD_S : Nat := 0x0F01
def PAR_GAU_EMPTY_HOLD_S : Nat := 0x0F02
def PAR_GAU_LEARN_MAX_PCT : Nat := 0x0F03
def PAR_GAU_FRAME_TIMEOUT_MS : Nat := 0x0F04
def PAR_GAU_IDLE_S : Nat := 0x0F05
def PAR_GAU_JOURNAL_S : Nat := 0x0F06
def PAR_PT_INTEGRITY_S : Nat := 0x1000
def PAR_PT_DUMP_MBS : Nat := 0x1001
def PAR_PT_LEAVE_WAIT_MS : Nat := 0x1002
def PAR_PT_LOAD_WARN_PCT : Nat := 0x1003
def PAR_PLC_CYCLE_MS : Nat := 0x1100
def PAR_PLC_TMAP_S : Nat := 0x1101
def PAR_PLC_MARGIN_DB : Nat := 0x1102
def PAR_PLC_BULK_SYM : Nat := 0x1103
def PAR_PLC_RETRY_RESERVE : Nat := 0x1104
def PAR_CAN_DETECT_DWELL_MS : Nat := 0x1200
def PAR_CAN_BUSOFF_HOLD_MS : Nat := 0x1201
def PAR_CAN_BUSOFF_MAX : Nat := 0x1202
def PAR_OBS_REMASK_MS : Nat := 0x1300
def PAR_OBS_BKBAT_WARN_MV : Nat := 0x1301
def PAR_GRN_TP_PERIOD_MS : Nat := 0x1400
def PAR_GRN_TP_US : Nat := 0x1401
def PAR_GRN_CRC_MAX : Nat := 0x1402
def PAR_GRN_RESET_WINDOW_S : Nat := 0x1403
def PAR_GRN_UDP_PORT : Nat := 0x1404
def PAR_GRN_CONFIG_CRC : Nat := 0x1405
def PAR_FLT_QSTALL_MS : Nat := 0x1500
def PAR_FLT_EVENT_HOLDOFF_MS : Nat := 0x1501
def PAR_PAIR_LEASE_MS : Nat := 0x1600
def PAR_PAIR_POSITION : Nat := 0x1601
def PAR_PAIR_MODE : Nat := 0x1602
def PAR_PAIR_START_WAIT_MS : Nat := 0x1603
def PAR_PAIR_STALE_MS : Nat := 0x1604
def PAR_PAIR_SWITCH_DAYS : Nat := 0x1605

/-- The entry of an ID, none where the dictionary defines none (R72). -/
def parEntry (id : Nat) : Option ParEntry := dictionary.find? (fun e => e.id == id)

/-- The factory value of an entry (R73, DEFAULT). -/
def parDefault (id : Nat) : Int := ((parEntry id).map ParEntry.dflt).getD 0

def ParEntry.readOnly (e : ParEntry) : Bool := e.flags.testBit 1
def ParEntry.storable (e : ParEntry) : Bool := e.flags.testBit 2
def ParEntry.isIsland (e : ParEntry) : Bool := e.flags.testBit 3
def ParEntry.legal (e : ParEntry) : Bool := e.flags.testBit 4
def ParEntry.safety (e : ParEntry) : Bool := e.flags.testBit 5
def ParEntry.pairLocal (e : ParEntry) : Bool := e.flags.testBit 6

end Sys2Proof.Machine
end

