-- ==== Sys2Proof/Machine/FaultTable.lean ====
section
/-!
DEFINITION. The fault sources with their object kinds, default reactions and allowed reactions (R523, R524, R533).
-/
namespace Sys2Proof.Machine

/-- A row of the table of R523. `kind`: 0 none, 1 instance, 2 node, 3 stage, 4 phase, 5 circuit, 6 meter channel, 7 outlet,
8 queue pair (R533). `allowed`: bit n set when reaction n is allowed. -/
structure SourceRow where
  source : Nat
  kind : Nat
  dflt : Nat
  allowed : Nat
  deriving DecidableEq, Repr

/-- Sources of words 0 to 7. -/
def sourceRows0 : List SourceRow := [
  ⟨0, 0, 0, 9⟩, ⟨1, 0, 0, 9⟩, ⟨2, 0, 0, 1⟩, ⟨3, 0, 0, 1⟩, ⟨4, 0, 0, 1⟩, ⟨5, 0, 0, 9⟩, ⟨6, 0, 0, 1⟩, ⟨7, 0, 0, 9⟩,
  ⟨32, 8, 0, 1⟩, ⟨33, 8, 0, 5⟩, ⟨64, 0, 0, 9⟩, ⟨96, 0, 0, 1⟩, ⟨97, 0, 0, 1⟩, ⟨98, 2, 1, 6⟩, ⟨99, 2, 2, 12⟩, ⟨100, 2, 0, 9⟩,
  ⟨128, 1, 2, 15⟩, ⟨129, 1, 2, 4⟩, ⟨192, 4, 2, 12⟩, ⟨193, 4, 2, 12⟩, ⟨194, 3, 0, 5⟩, ⟨195, 3, 0, 5⟩, ⟨196, 3, 2, 12⟩,
  ⟨224, 5, 1, 6⟩, ⟨225, 5, 2, 12⟩]

/-- Sources of words 8 to 14. -/
def sourceRows8 : List SourceRow := [
  ⟨256, 7, 1, 7⟩, ⟨257, 7, 0, 9⟩, ⟨288, 6, 0, 5⟩, ⟨289, 0, 0, 9⟩, ⟨290, 0, 0, 1⟩, ⟨320, 0, 0, 1⟩, ⟨352, 0, 0, 1⟩, ⟨353, 0, 0, 1⟩,
  ⟨354, 0, 0, 1⟩, ⟨355, 0, 0, 1⟩, ⟨384, 0, 0, 1⟩, ⟨385, 0, 0, 1⟩, ⟨416, 0, 0, 1⟩, ⟨417, 0, 0, 1⟩, ⟨418, 0, 0, 1⟩, ⟨419, 0, 0, 9⟩,
  ⟨448, 0, 0, 1⟩, ⟨449, 0, 0, 1⟩]

/-- The row of a source; none for a reserved number (R522). Sources 480 to 511 are TEST0 to TEST31. -/
def sourceRow (s : Nat) : Option SourceRow :=
  if 480 ≤ s ∧ s < 512 then some ⟨s, 0, 0, 9⟩ else (sourceRows0 ++ sourceRows8).find? (fun r => r.source == s)

def SRC_CDC_OVERFLOW : Nat := 0
def SRC_PLL_UNLOCK : Nat := 1
def SRC_PTP_HOLDOVER : Nat := 2
def SRC_NV_WEAR : Nat := 3
def SRC_NV_FAIL : Nat := 4
def SRC_DRAM_UE : Nat := 5
def SRC_APP_WDOG : Nat := 6
def SRC_TEMP_HIGH : Nat := 7
def SRC_HOST_LOST : Nat := 32
def SRC_QUEUE_STALL : Nat := 33
def SRC_IMPORT_EXCESS : Nat := 64
def SRC_RING_PARTITION : Nat := 96
def SRC_RING_WRAP : Nat := 97
def SRC_NODE_DEMOTED : Nat := 98
def SRC_NODE_FENCED : Nat := 99
def SRC_NODE_LOST : Nat := 100
def SRC_BAS_WRAP : Nat := 128
def SRC_BAS_RATE : Nat := 129
def SRC_STG_PHASE : Nat := 192
def SRC_STG_CONVERTER : Nat := 193
def SRC_STG_PRESTART : Nat := 194
def SRC_STG_SHORT : Nat := 195
def SRC_STG_DESAT : Nat := 196
def SRC_COOL_DEGRADED : Nat := 224
def SRC_COOL_FAILED : Nat := 225
def SRC_SES_FENCED : Nat := 256
def SRC_SES_WELD : Nat := 257
def SRC_MET_CHAN_LOST : Nat := 288
def SRC_MET_CHECK : Nat := 289
def SRC_BIL_STORE : Nat := 290
def SRC_GAU_SILENT : Nat := 320
def SRC_CAN_BUSOFF : Nat := 352
def SRC_CAN_TIMING : Nat := 353
def SRC_PLC_OVERBOOKED : Nat := 354
def SRC_PT_OVERRUN : Nat := 355
def SRC_OBS_BKBAT : Nat := 384
def SRC_OBS_TAMPERED : Nat := 385
def SRC_GRN_CONN : Nat := 416
def SRC_GRN_OUTPUT : Nat := 417
def SRC_GRN_SAFE_STATE : Nat := 418
def SRC_GRN_FIRMWARE : Nat := 419
def SRC_PAIR_LOST : Nat := 448
def SRC_PAIR_MISMATCH : Nat := 449

/-- Sources of words 2 to 8 concern hub objects; the others are local to each module (R523). -/
def hubSource (s : Nat) : Bool := decide (64 ≤ s ∧ s < 288)

end Sys2Proof.Machine
end

