-- ==== Sys2Proof/Machine/Flags.lean ====
section
/-!
DEFINITION. Completion status codes (R60 and the chapters that add codes), units of time, opcode areas and role bits.
-/
namespace Sys2Proof.Machine

def ST_OK : Nat := 0x00
def ST_BUSY : Nat := 0x01
def ST_DENIED : Nat := 0x02
def ST_BAD_PARAM : Nat := 0x03
def ST_NO_LEAVE : Nat := 0x04
def ST_TIMEOUT : Nat := 0x05
def ST_FENCED : Nat := 0x06
def ST_LOCKED : Nat := 0x07
def ST_NOT_ACTIVE : Nat := 0x08
def ST_AUTH_FAIL : Nat := 0x09
def ST_ABORTED : Nat := 0x0A
def ST_NV_FAIL : Nat := 0x0B
def ST_QUEUE_FULL : Nat := 0x0C
def ST_UNSUPPORTED : Nat := 0x0D
def ST_TAG_IN_USE : Nat := 0x40
/-- R245. -/
def ST_NO_TOKEN : Nat := 0x41
/-- R245. -/
def ST_LOCKED_OUT : Nat := 0x42
/-- R245. -/
def ST_CHECK_FAIL : Nat := 0x43
/-- R565. -/
def ST_NO_PARTNER : Nat := 0x44

/-- Role bits (R34). -/
def OWNER : BitVec 16 := 0x0001
def ENERGY : BitVec 16 := 0x0002
def GRID : BitVec 16 := 0x0004
def MAINT : BitVec 16 := 0x0008
def VERIFIER : BitVec 16 := 0x0010
def OBSERVER : BitVec 16 := 0x0020
def ALL_ROLES : BitVec 16 := 0x003F

/-- Nanoseconds in a microsecond, a millisecond, a second and a minute. -/
def us : Nat := 1000
def ms : Nat := 1000000
def sec : Nat := 1000000000
def minute : Nat := 60 * sec
def hour : Nat := 60 * minute
def day : Nat := 24 * hour

/-- Roles of a module (R543). -/
def ROLE_STARTING : Nat := 0
def ROLE_STANDBY : Nat := 1
def ROLE_ACTIVE : Nat := 2
def ROLE_RELEASING : Nat := 3
def ROLE_OUT : Nat := 4

/-- Synchronisation states of the pair link (R549, R568). -/
def SYNC_DOWN : Nat := 0
def SYNC_FORMING : Nat := 1
def SYNC_SYNCING : Nat := 2
def SYNC_SYNCHRONISED : Nat := 3

/-- Image slot states (R83). -/
def IMG_EMPTY : Nat := 0xFF
def IMG_TRIAL : Nat := 0x7F
def IMG_BOOTED : Nat := 0x3F
def IMG_COMMITTED : Nat := 0x1F
def IMG_REJECTED : Nat := 0x0F

end Sys2Proof.Machine
end

