-- ==== Sys2Proof/Machine/Operands.lean ====
section
/-!
DEFINITION. Reading and writing the fields of descriptors, records and completions: little-endian numbers at byte offsets
(R8), the CRC-32 of R82, the
CRC-32C of R143 and the CRC-16 of R144.
-/
namespace Sys2Proof.Machine

/-- The byte at offset `i`, 0 past the end. -/
def byteAt (b : List Byte) (i : Nat) : Nat := (b.getD i 0).toNat

/-- The `n` bytes of `b`, read as a little-endian number (R8). -/
def leNat : List Byte → Nat
  | [] => 0
  | x :: xs => x.toNat + 256 * leNat xs

/-- The unsigned field of `n` bytes at offset `off` (R8); bytes past the end read 0. -/
def fld (b : List Byte) (off n : Nat) : Nat := leNat ((b.drop off).take n)

/-- The signed field of `n` bytes at offset `off`, in two's complement. -/
def sfld (b : List Byte) (off n : Nat) : Int :=
  let v := fld b off n
  if v < 2 ^ (8 * n - 1) then (v : Int) else (v : Int) - (2 ^ (8 * n) : Nat)

/-- Bit `k` of a number. -/
def bit (v k : Nat) : Bool := v.testBit k

/-- Bits [hi:lo] of a number. -/
def bits (v hi lo : Nat) : Nat := v / 2 ^ lo % 2 ^ (hi + 1 - lo)

/-- `n` little-endian bytes of a number (R8); higher bits are dropped. -/
def leBytes : Nat → Nat → List Byte
  | 0, _ => []
  | n + 1, v => BitVec.ofNat 8 v :: leBytes n (v / 256)

/-- `n` little-endian bytes of a signed number in two's complement. -/
def leInt (n : Nat) (v : Int) : List Byte := leBytes n (v % (2 ^ (8 * n) : Nat)).toNat

/-- Consecutive fields, each a size in bytes and a value. -/
def pack (fs : List (Nat × Nat)) : List Byte := fs.flatMap fun f => leBytes f.1 f.2

/-- A record filled with zeros, or cut, to `n` bytes. -/
def padTo (n : Nat) (b : List Byte) : List Byte := (b ++ List.replicate (n - b.length) 0).take n

/-- Whether bytes `off` to `off + n - 1` are all 0. -/
def zeros (b : List Byte) (off n : Nat) : Bool := ((b.drop off).take n).all (· == 0)

/-- Whether a whole record is zeros. -/
def allZero (b : List Byte) : Bool := b.all (· == 0)

/-- A record with the `n` bytes at `off` replaced. -/
def putFld (b : List Byte) (off n v : Nat) : List Byte := b.take off ++ leBytes n v ++ b.drop (off + n)

/-- `c` pieces of `n` bytes each, from the front. -/
def chunks (n : Nat) : Nat → List Byte → List (List Byte)
  | 0, _ => []
  | c + 1, b => b.take n :: chunks n c (b.drop n)

/-- OPCODE of a descriptor (R55). -/
def Desc.opcode (d : Desc) : Nat := fld d.bytes 0 2
/-- TAG of a descriptor (R55). -/
def Desc.tag (d : Desc) : Nat := fld d.bytes 2 2
/-- ORDERED (R55). -/
def Desc.ordered (d : Desc) : Bool := bit (fld d.bytes 4 1) 0
/-- LINK (R55). -/
def Desc.link (d : Desc) : Bool := bit (fld d.bytes 4 1) 1
/-- OBJECT (R55). -/
def Desc.object (d : Desc) : Nat := fld d.bytes 8 4
/-- DATA_LEN (R55). -/
def Desc.dataLen (d : Desc) : Nat := fld d.bytes 12 4
/-- DATA_ADDR (R55). -/
def Desc.dataAddr (d : Desc) : Nat := fld d.bytes 16 8
/-- An unsigned field of PARAMS, by its offset in the descriptor. -/
def Desc.u (d : Desc) (off n : Nat) : Nat := fld d.bytes off n
/-- A signed field of PARAMS, by its offset in the descriptor. -/
def Desc.i (d : Desc) (off n : Nat) : Int := sfld d.bytes off n

/-- One bit of CRC-32 with the reflected polynomial of IEEE 802.3. -/
def crcBit (c : BitVec 32) : BitVec 32 := if c.getLsbD 0 then (c >>> 1) ^^^ 0xEDB88320#32 else c >>> 1

/-- One byte of CRC-32. -/
def crcByte (c : BitVec 32) (b : Byte) : BitVec 32 :=
  crcBit (crcBit (crcBit (crcBit (crcBit (crcBit (crcBit (crcBit (c ^^^ b.zeroExtend 32))))))))

/-- CRC-32 (IEEE 802.3 polynomial) over a byte string (R82, R516); initial and final inversion as in IEEE 802.3 (PRESUMED,
assumption 4). -/
def crc32 (b : List Byte) : Nat := ((b.foldl crcByte 0xFFFFFFFF#32) ^^^ 0xFFFFFFFF#32).toNat

/-- One bit of CRC-32C, the reflected polynomial of Castagnoli (PRESUMED, assumption 4). -/
def crc32cBit (c : BitVec 32) : BitVec 32 := if c.getLsbD 0 then (c >>> 1) ^^^ 0x82F63B78#32 else c >>> 1

/-- One byte of CRC-32C. -/
def crc32cByte (c : BitVec 32) (b : Byte) : BitVec 32 :=
  crc32cBit (crc32cBit (crc32cBit (crc32cBit (crc32cBit (crc32cBit (crc32cBit (crc32cBit (c ^^^ b.zeroExtend 32))))))))

/-- CRC-32C over a byte string (R143). -/
def crc32c (b : List Byte) : Nat := ((b.foldl crc32cByte 0xFFFFFFFF#32) ^^^ 0xFFFFFFFF#32).toNat

/-- One bit of CRC-16/CCITT-FALSE. -/
def crc16Bit (c : BitVec 16) : BitVec 16 := if c.getLsbD 15 then (c <<< 1) ^^^ 0x1021#16 else c <<< 1

/-- One byte of CRC-16/CCITT-FALSE. -/
def crc16Byte (c : BitVec 16) (b : Byte) : BitVec 16 :=
  let c := c ^^^ (b.zeroExtend 16 <<< 8)
  crc16Bit (crc16Bit (crc16Bit (crc16Bit (crc16Bit (crc16Bit (crc16Bit (crc16Bit c)))))))

/-- CRC-16/CCITT-FALSE over a byte string (R381): polynomial 0x1021, start 0xFFFF, no reflection (PRESUMED, assumption 4). -/
def crc16 (b : List Byte) : Nat := (b.foldl crc16Byte 0xFFFF#16).toNat

/-- Floor of a division of integers by a positive number. -/
def floorDiv (a : Int) (b : Int) : Int := Int.fdiv a b

/-- The quotient rounded up. -/
def ceilDiv (a b : Nat) : Nat := if b = 0 then 0 else (a + b - 1) / b

/-- A value held within bounds. -/
def clamp (lo hi v : Int) : Int := if v < lo then lo else if hi < v then hi else v

end Sys2Proof.Machine
end

