-- ==== Sys2Proof/Machine/State.lean ====
section
/-!
DEFINITION. The state of the module: one field per block of the spec, the queue of waiting commands and the model's own
clock, free-value counter and record of outputs; the reasons a step can stop; and the state after reset.
-/
namespace Sys2Proof.Machine

/-- The machine stops with a fault. No meaning of this model does: every error the spec describes is a status, an
event or a fault source of the machine, which goes on. -/
inductive Fault where
  /-- Raised by nothing. The spec names no condition that stops the module without an effect. Safe. -/
  | none
  deriving DecidableEq, Repr

/-- A command that the model gives no meaning. -/
inductive Refusal where
  /-- Answered by the arm of a command whose meaning is not written. Safe: nothing is claimed of it. -/
  | notModelled (mnemonic : String)
  deriving DecidableEq, Repr

/-- The whole module. -/
structure State where
  /-- Commands that wait, first in, first out; the model's own queue of what reaches the module; reset empty. -/
  pending : List Instr := []
  /-- Time in ns since the model began; the model's own clock, moved by ARBITER_MICROSECOND; reset 0 (DC). -/
  now : Nat := 0
  /-- Number of free values drawn; the model's own; reset 0 (DC). -/
  fresh : Nat := 0
  /-- What the module has sent to the outside, newest first; the model's own record; reset empty. -/
  out : List Emit := []
  /-- Host mailboxes. -/
  mbx : Mbx := {}
  /-- Parameters and NV images. -/
  par : Par := {}
  /-- Power leave arbiter. -/
  lv : Lv := {}
  /-- Mirterlink controller. -/
  ring : Ring := {}
  /-- Basalt. -/
  bas : Bas := {}
  /-- Trace and injection. -/
  tune : Tune := {}
  /-- Power stages. -/
  stg : Stg := {}
  /-- Cable cooling. -/
  cool : Cool := {}
  /-- Session engine. -/
  ses : Ses := {}
  /-- Jasper metrology. -/
  met : Met := {}
  /-- Jasper billing. -/
  bil : Bil := {}
  /-- Gauge domain. -/
  gau : Gau := {}
  /-- Point engine. -/
  pt : Pt := {}
  /-- Busbar link. -/
  plc : Plc := {}
  /-- CAN FD controllers. -/
  can : Can := {}
  /-- Obsidian. -/
  obs : Obs := {}
  /-- Granite. -/
  grn : Grn := {}
  /-- Fault collector. -/
  flt : Flt := {}
  /-- Pair link. -/
  pair : Pair := {}
  /-- Application complex, supply, clocks and start-up. -/
  sys : Sys := {}
  /-- Pins and cages. -/
  pins : Pins := {}
  deriving DecidableEq, Repr

/-- The module right after reset: every field at the value of its docstring. -/
def State.reset : State := {}

end Sys2Proof.Machine
end

