-- ==== Sys2Proof/Machine/Ops.lean ====
section
/-!
DEFINITION. The named operations that several blocks share: sparse tables, parameters in force, events, completions, output,
free values, and the report of a fault.
-/
namespace Sys2Proof

/-- The entry of a key, none where the table holds none. -/
def Tab.get? {α : Type} : Tab α → Nat → Option α
  | [], _ => none
  | (j, v) :: t, k => if k = j then some v else Tab.get? t k

/-- The entry of a key, or the value of an empty entry. -/
def Tab.getD {α : Type} (t : Tab α) (k : Nat) (d : α) : α := (t.get? k).getD d

/-- The table with an entry written; keys stay in strictly rising order. -/
def Tab.set {α : Type} : Tab α → Nat → α → Tab α
  | [], k, v => [(k, v)]
  | (j, w) :: t, k, v => if k < j then (k, v) :: (j, w) :: t else if k = j then (k, v) :: t else (j, w) :: Tab.set t k v

/-- The table without a key. -/
def Tab.del {α : Type} : Tab α → Nat → Tab α
  | [], _ => []
  | (j, w) :: t, k => if k = j then t else (j, w) :: Tab.del t k

/-- The table with an existing entry changed. -/
def Tab.upd {α : Type} (t : Tab α) (k : Nat) (f : α → α) : Tab α :=
  t.map fun e => if e.1 = k then (e.1, f e.2) else e

/-- Every entry changed. -/
def Tab.mapV {α β : Type} (t : Tab α) (f : Nat → α → β) : Tab β := t.map fun e => (e.1, f e.1 e.2)

/-- The entries that satisfy a test. -/
def Tab.keep {α : Type} (t : Tab α) (f : Nat → α → Bool) : Tab α := t.filter fun e => f e.1 e.2

/-- The keys. -/
def Tab.keys {α : Type} (t : Tab α) : List Nat := t.map Prod.fst

/-- The entries without keys. -/
def Tab.vals {α : Type} (t : Tab α) : List α := t.map Prod.snd

/-- An entry written when a value is given, removed otherwise. -/
def Tab.put {α : Type} (t : Tab α) (k : Nat) : Option α → Tab α
  | some v => t.set k v
  | none => t.del k

/-- The canonical form: keys strictly rising. -/
def Tab.wf {α : Type} : Tab α → Bool
  | [] => true
  | [_] => true
  | (j, _) :: (k, v) :: t => decide (j < k) && Tab.wf ((k, v) :: t)

/-- The first number from `k` on, of `n` numbers, that is no key of the table. -/
def Tab.freeFrom {α : Type} (t : Tab α) : Nat → Nat → Option Nat
  | _, 0 => none
  | k, n + 1 => if (t.get? k).isNone then some k else Tab.freeFrom t (k + 1) n

end Sys2Proof

namespace Sys2Proof.Machine

/-! ### Roles, time and parameters -/

/-- The module is active (R543). -/
def State.isActive (s : State) : Bool := s.pair.role == ROLE_ACTIVE

/-- A synchronised partner is present (R549). -/
def State.isPaired (s : State) : Bool := s.pair.sync == SYNC_SYNCHRONISED

/-- The module acts as a standby for R63: it is not active. A releasing module ends its commands under R64. -/
def State.isStandby (s : State) : Bool := s.pair.role != ROLE_ACTIVE

/-- System time in ns of TAI (R45). -/
def State.sysTime (s : State) : Nat := ((s.now : Int) + s.mbx.sysOffset).toNat

/-- The value a function of the module runs with: RUN entries as of the last site cycle, BOOT entries as of the last start (R77). -/
def State.pv (s : State) (id : Nat) : Int := s.par.running.getD id (parDefault id)

/-- A settable island entry's value, as its island holds it (R76). -/
def State.isl (s : State) (id : Nat) : Int := s.par.island.getD id (parDefault id)

/-- A parameter in force that is not negative. -/
def State.pn (s : State) (id : Nat) : Nat := (s.pv id).toNat

/-- An island parameter in force that is not negative. -/
def State.islN (s : State) (id : Nat) : Nat := (s.isl id).toNat

/-- A duration parameter in ms, in ns. -/
def State.pms (s : State) (id : Nat) : Nat := s.pn id * ms

/-! ### Output and free values -/

/-- Sends something to the outside. -/
def State.emit (s : State) (e : Emit) : State := { s with out := e :: s.out }

/-- Draws a free number: a value the spec leaves open, about which nothing can be proved. -/
def State.draw (s : State) : Nat × State := (Config.freeNat s.fresh, { s with fresh := s.fresh + 1 })

/-- Draws a free signed number. -/
def State.drawInt (s : State) : Int × State := (Config.freeInt s.fresh, { s with fresh := s.fresh + 1 })

/-- A quotient whose rounding the spec leaves open: the whole number below or above, by a free value; exact where it is whole. -/
def State.roundDiv (s : State) (n : Int) (d : Nat) : Int × State :=
  if n % (d : Int) = 0 then (n / (d : Int), s)
  else (floorDiv n d + (s.draw.1 % 2 : Nat), s.draw.2)

/-- A quotient taken as a Q15 value: its rounding, and its value where it lies outside Q15, are open. -/
def State.q15 (s : State) (n : Int) (d : Nat) : Int × State :=
  let r := s.roundDiv (n * 32768) (max 1 d)
  if -32768 ≤ r.1 ∧ r.1 ≤ 32767 then r else ((r.2.drawInt.1 + 32768) % 65536 - 32768, r.2.drawInt.2)

/-! ### Commands in flight -/

/-- Changes one command in flight. -/
def updCmds (l : List InFlight) (uid : Nat) (f : InFlight → InFlight) : List InFlight :=
  l.map fun c => if c.uid = uid then f c else c

/-- The command in flight of a serial number. -/
def State.cmd? (s : State) (uid : Nat) : Option InFlight := s.mbx.inflight.find? (fun c => c.uid == uid)

/-- Ends a command with a status, its RESULT and its returned data (R56, R60). `image` is the number of the first state
image that holds the effect, 0 where R62 makes no wait. A command that has ended stays as it is. -/
def State.endCmd (s : State) (uid st : Nat) (result data : List Byte) (dataDone image : Nat) : State :=
  { s with mbx := { s.mbx with inflight := updCmds s.mbx.inflight uid fun c =>
      if c.phase = .done then c
      else { c with phase := .done, status := st, result := padTo 16 result, data := data, dataDone := dataDone, image := image } } }

/-- Ends a command that fails: no result, no data, no wait (R60, R62). -/
def State.fail (s : State) (uid st : Nat) : State := s.endCmd uid st [] [] 0 0

/-- Ends a command that only reads (R62 makes no wait for it); DATA_LEN is the size of the host's buffer (R55). -/
def State.answer (s : State) (c : InFlight) (result data : List Byte) : State :=
  let d := data.take c.desc.dataLen
  s.endCmd c.uid ST_OK result d (if data.isEmpty then c.desc.data.length else d.length) 0

/-- Number of the state image that first holds an effect of this moment, 0 without a synchronised standby (R62); a releasing module still sends images. -/
def State.nextImage (s : State) : Nat := if (s.isActive || s.pair.role == ROLE_RELEASING) && s.isPaired then s.pair.imgSent + 1 else 0

/-- Ends a command that has changed hub or module state: its completion waits for the image (R62). -/
def State.ok (s : State) (c : InFlight) (result : List Byte) : State :=
  s.endCmd c.uid ST_OK result [] c.desc.data.length s.nextImage

/-- As `State.ok`, for a command known by its serial number alone. -/
def State.okUid (s : State) (uid : Nat) (result : List Byte) : State :=
  s.endCmd uid ST_OK result [] (((s.cmd? uid).map fun c => c.desc.data.length).getD 0) s.nextImage

/-! ### Key slots (R465) -/

/-- A master's bit in MASTERS: APP, SES, MBX, JASPER, OBS. -/
def M_APP : Nat := 0
def M_SES : Nat := 1
def M_MBX : Nat := 2
def M_JASPER : Nat := 3
def M_OBS : Nat := 4

/-- Whether a type of key supports a use (R463): the bits of USES that its operations serve. -/
def typeSupports (type use : Nat) : Bool :=
  match use with
  | 0 => decide (1 ≤ type ∧ type ≤ 4)
  | 1 => decide (1 ≤ type ∧ type ≤ 4)
  | 2 => type == 1 || type == 2 || type == 3 || type == 5
  | 3 => type == 6 || type == 7
  | 4 => decide (6 ≤ type ∧ type ≤ 8)
  | 5 => type == 8
  | _ => decide (1 ≤ type ∧ type ≤ 8)

/-- Obsidian performs an operation of a use on a slot for a master (R465); the application cores are in the RUN world. -/
def State.slotAllows (s : State) (slot use master : Nat) : Bool := match s.obs.slots.get? slot with
  | none => false
  | some k => !s.obs.zeroised && typeSupports k.type use && bit k.uses use && bit k.masters master && bit k.worlds 1 && bit k.lifecycles s.obs.lifecycle

/-! ### Volatile key slots (R462) -/

/-- The type of a suite's record keys (R464): AES-128 or AES-256. -/
def TlsSuite.keyType : TlsSuite → Nat
  | .aes256GcmSha384 => 7
  | _ => 6

/-- The two record keys of a TLS session under a suite, in the volatile slots from `base` on, fresh and masked (R462, R463, R467). `share`: PAIR_SHARE. -/
def State.putKeys (s : State) (base master : Nat) (share : Bool) (suite : TlsSuite) : State :=
  let k (u : State) (j : Nat) : State :=
    let a := u.draw
    let b := a.2.draw
    let x : KeySlot := { type := suite.keyType, flags := if share then 3 else 2, uses := 8, masters := 2 ^ master, worlds := 2, lifecycles := 14, mask := b.1,
                         share := a.1 ^^^ b.1 }
    { b.2 with obs := { b.2.obs with slots := b.2.obs.slots.set (base + j) x } }
  k (k s 0) 1

/-- The two slots are emptied. -/
def State.dropKeys (s : State) (base : Nat) : State :=
  { s with obs := { s.obs with slots := (s.obs.slots.del base).del (base + 1) } }

/-- No pair key is in force: its working slot is free (R474). -/
def State.dropPairKey (s : State) : State :=
  { s with obs := { s.obs with pairKeyed := false, pairSlot := none, slots := match s.obs.pairSlot with
    | some n => s.obs.slots.del n
    | none => s.obs.slots } }

/-! ### Events (R68, R69) -/

/-- Whether a mask selects an area. -/
def selects (mask : BitVec 32) (area : Nat) : Bool := mask.getLsbD area

/-- AREA_MASK of an MBX_EVENT_WAIT (R68). -/
def waitMask (c : InFlight) : BitVec 32 := BitVec.ofNat 32 (c.desc.u 32 4)

/-- Whether a command in flight is an MBX_EVENT_WAIT of a host-table entry that still waits. -/
def isWaitOf (entry : Nat) (c : InFlight) : Bool := c.desc.opcode == 0x0121 && c.entry == entry && c.phase == .running

/-- RESULT of an MBX_EVENT_WAIT (R68). -/
def eventResult (e : Event) : List Byte := pack [(1, e.area), (1, 0), (2, e.code), (4, e.object), (8, e.time)]

/-- Takes the oldest queued event of an area that a mask selects. -/
def takeEvent (mask : BitVec 32) : List Event → Option (Event × List Event)
  | [] => none
  | e :: es =>
    if selects mask e.area then some (e, es)
    else (takeEvent mask es).map fun r => (r.1, e :: r.2)

/-- Gives queued events to the waits of an entry, oldest wait first (R69). -/
def deliverTo (entry : Nat) : List InFlight → List Event → List InFlight × List Event
  | [], es => ([], es)
  | c :: cs, es =>
    if isWaitOf entry c then
      match takeEvent (waitMask c) es with
      | some (e, es') =>
        let r := deliverTo entry cs es'
        ({ c with phase := .done, status := ST_OK, result := eventResult e } :: r.1, r.2)
      | none => let r := deliverTo entry cs es; (c :: r.1, r.2)
    else let r := deliverTo entry cs es; (c :: r.1, r.2)

/-- Delivers what an entry's queue and waits allow (R69). -/
def State.deliver (s : State) (entry : Nat) : State :=
  let l := s.mbx.live.getD entry {}
  let r := deliverTo entry s.mbx.inflight l.events
  { s with mbx := { s.mbx with inflight := r.1, live := s.mbx.live.set entry { l with events := r.2 } } }

/-- Queues an event for one host-table entry: at most 64, in the areas of its mask; a dropped one sets EVT_LOST (R69). -/
def queueEvent (e : Event) (l : HostLive) : HostLive :=
  if selects l.eventMask e.area then
    if l.events.length < 64 then { l with events := l.events ++ [e] } else { l with evtLost := true }
  else l

/-- Raises an event: it is queued for every host-table entry whose mask selects its area, then delivered (R69). -/
def State.raise (s : State) (area code object : Nat) : State :=
  let e : Event := ⟨area, code, object % 2 ^ 32, s.sysTime⟩
  s.mbx.hosts.keys.foldl (fun (t : State) k =>
    let t := { t with mbx := { t.mbx with live := t.mbx.live.set k (queueEvent e (t.mbx.live.getD k {})) } }
    t.deliver k) s

end Sys2Proof.Machine
end

