-- ==== Sys2Proof/Machine/Commands.lean ====
section
/-!
DEFINITION. The mailbox commands: opcode, roles, whether a standby carries the command out, and which bytes of PARAMS its
chapter gives a field (every other byte is reserved, R11). The rows follow the command tables of the chapters.
-/
namespace Sys2Proof.Machine

/-- What acceptance needs of a command (R59): its roles (R35), whether it is allowed on standby (R63), and its fields in PARAMS,
each an offset in the descriptor and a length. -/
structure CmdSpec where
  opcode : Nat
  roles : BitVec 16
  standby : Bool
  fields : List (Nat × Nat)
  deriving DecidableEq, Repr

/-- Area 01. -/
def commands01 : List CmdSpec := [
  ⟨0x0100, 9, true, [(32, 1), (33, 1)]⟩,  -- SYS_RESET
  ⟨0x0101, 9, true, [(32, 4), (36, 1)]⟩,  -- SYS_FW_LOAD
  ⟨0x0102, 9, true, [(32, 4)]⟩,  -- SYS_FW_ACTIVATE
  ⟨0x0103, 9, true, []⟩,  -- SYS_FW_COMMIT
  ⟨0x0104, 63, true, []⟩,  -- SYS_FW_STATUS
  ⟨0x0120, 1, true, [(32, 12)]⟩,  -- MBX_HOST_SET
  ⟨0x0121, 63, true, [(32, 4)]⟩,  -- MBX_EVENT_WAIT
  ⟨0x0122, 63, true, [(32, 1), (34, 2)]⟩]  -- MBX_ABORT

/-- Area 02. -/
def commands02 : List CmdSpec := [
  ⟨0x0200, 63, true, [(32, 5)]⟩,  -- PAR_GET
  ⟨0x0201, 15, true, [(32, 3), (40, 8)]⟩,  -- PAR_SET
  ⟨0x0202, 63, true, [(32, 4)]⟩,  -- PAR_DESCRIBE
  ⟨0x0210, 9, true, []⟩,  -- NV_STORE
  ⟨0x0211, 1, true, [(32, 1)]⟩,  -- NV_SELECT
  ⟨0x0212, 9, true, []⟩,  -- NV_COMMIT
  ⟨0x0213, 63, true, []⟩,  -- NV_STATUS
  ⟨0x0214, 25, true, [(32, 4)]⟩,  -- NV_EXPORT
  ⟨0x0215, 1, false, [(32, 5)]⟩]  -- NV_IMPORT

/-- Area 03. -/
def commands03 : List CmdSpec := [
  ⟨0x0300, 3, false, [(32, 16)]⟩,  -- LEAVE_REQUEST
  ⟨0x0301, 3, false, [(32, 12), (45, 1)]⟩,  -- LEAVE_CHANGE
  ⟨0x0302, 3, false, []⟩,  -- LEAVE_RELEASE
  ⟨0x0303, 63, true, [(32, 4)]⟩,  -- LEAVE_READ
  ⟨0x0310, 4, false, [(32, 6)]⟩,  -- LV_GRID_SET
  ⟨0x0311, 9, false, []⟩,  -- LV_CAPMAP_SET
  ⟨0x0312, 1, false, [(32, 4)]⟩]  -- LV_SHARE_SET

/-- Area 04. -/
def commands04 : List CmdSpec := [
  ⟨0x0400, 9, false, []⟩,  -- RING_NODE_SET
  ⟨0x0401, 63, true, [(32, 4)]⟩,  -- RING_NODE_READ
  ⟨0x0402, 9, false, []⟩,  -- RING_SCAN
  ⟨0x0403, 9, false, []⟩]  -- RING_NODE_RESTORE

/-- Area 05. -/
def commands05 : List CmdSpec := [
  ⟨0x0500, 9, false, []⟩,  -- BAS_LOAD
  ⟨0x0501, 9, false, [(32, 1)]⟩,  -- BAS_ARM
  ⟨0x0502, 9, false, [(32, 1)]⟩,  -- BAS_FREEZE
  ⟨0x0503, 9, false, []⟩,  -- BAS_DISARM
  ⟨0x0504, 11, false, [(32, 2)]⟩,  -- BAS_REF_SET
  ⟨0x0505, 9, false, [(32, 2)]⟩,  -- BAS_HANDOVER
  ⟨0x0506, 63, true, [(32, 4)]⟩,  -- BAS_READ
  ⟨0x0507, 9, false, [(32, 1)]⟩]  -- BAS_REP

/-- Area 06. -/
def commands06 : List CmdSpec := [
  ⟨0x0600, 9, false, []⟩,  -- TUNE_TRACE_SET
  ⟨0x0601, 9, false, []⟩,  -- TUNE_TRACE_TRIGGER
  ⟨0x0602, 9, false, []⟩,  -- TUNE_TRACE_STOP
  ⟨0x0603, 41, false, [(32, 4)]⟩,  -- TUNE_TRACE_READ
  ⟨0x0604, 63, true, []⟩,  -- TUNE_STATUS
  ⟨0x0610, 8, false, []⟩,  -- TUNE_INJ_START
  ⟨0x0611, 8, false, []⟩,  -- TUNE_INJ_STOP
  ⟨0x0612, 41, false, [(32, 4)]⟩]  -- TUNE_CAP_READ

/-- Area 07. -/
def commands07 : List CmdSpec := [
  ⟨0x0700, 9, false, []⟩,  -- STG_CONFIG
  ⟨0x0701, 9, false, []⟩,  -- STG_CHECK
  ⟨0x0702, 9, false, [(32, 6)]⟩,  -- STG_ENABLE
  ⟨0x0703, 9, false, []⟩,  -- STG_DISABLE
  ⟨0x0704, 63, true, [(32, 4)]⟩]  -- STG_READ

/-- Area 08. -/
def commands08 : List CmdSpec := [
  ⟨0x0800, 9, false, []⟩,  -- COOL_CONFIG
  ⟨0x0801, 9, false, []⟩,  -- COOL_START
  ⟨0x0802, 9, false, []⟩,  -- COOL_STOP
  ⟨0x0803, 9, false, []⟩,  -- COOL_RESET
  ⟨0x0804, 63, true, [(32, 1), (34, 2)]⟩]  -- COOL_READ

/-- Area 09. -/
def commands09 : List CmdSpec := [
  ⟨0x0900, 9, false, []⟩,  -- SES_OUTLET_CONFIG
  ⟨0x0901, 9, false, [(32, 1)]⟩,  -- SES_OUTLET_STATE
  ⟨0x0902, 1, false, [(32, 1), (34, 2), (40, 8)]⟩,  -- SES_AUTHORISE
  ⟨0x0903, 9, false, [(32, 1)]⟩,  -- SES_STOP
  ⟨0x0904, 63, true, [(32, 1), (34, 2)]⟩]  -- SES_READ

/-- Area 0A. -/
def commands0A : List CmdSpec := [
  ⟨0x0A00, 8, true, []⟩,  -- MET_CHAN_CONFIG
  ⟨0x0A01, 8, true, []⟩,  -- MET_CAL_SET
  ⟨0x0A02, 24, true, [(32, 1)]⟩,  -- MET_SEAL
  ⟨0x0A03, 63, true, [(32, 4)]⟩,  -- MET_READ
  ⟨0x0A04, 63, true, []⟩,  -- MET_HARM_READ
  ⟨0x0A05, 24, true, []⟩,  -- MET_CAL_READ
  ⟨0x0A06, 9, true, []⟩,  -- MET_PULSE_SET
  ⟨0x0A07, 24, true, [(32, 3)]⟩]  -- MET_LEG_SELECT

/-- Area 0B. -/
def commands0B : List CmdSpec := [
  ⟨0x0B00, 1, false, []⟩,  -- BIL_TARIFF_SET
  ⟨0x0B01, 1, false, []⟩,  -- BIL_TARIFF_ASSIGN
  ⟨0x0B02, 1, false, []⟩,  -- BIL_ACCOUNT_SET
  ⟨0x0B03, 1, false, [(32, 4), (40, 8)]⟩,  -- BIL_ACCOUNT_CREDIT
  ⟨0x0B04, 49, true, [(32, 4)]⟩,  -- BIL_ACCOUNT_READ
  ⟨0x0B05, 17, false, [(40, 8)]⟩,  -- BIL_CLOCK_SET
  ⟨0x0B06, 17, true, [(32, 6)]⟩,  -- BIL_READING_GET
  ⟨0x0B07, 49, true, []⟩,  -- BIL_REGISTER_SNAP
  ⟨0x0B08, 17, true, [(32, 6)]⟩,  -- BIL_LOG_READ
  ⟨0x0B09, 16, true, [(32, 4)]⟩,  -- BIL_LOG_ACK
  ⟨0x0B0A, 63, true, []⟩]  -- BIL_STATUS

/-- Area 0C. -/
def commands0C : List CmdSpec := [
  ⟨0x0C00, 9, false, []⟩,  -- GAU_STRING_CONFIG
  ⟨0x0C01, 63, true, [(32, 2)]⟩,  -- GAU_READ
  ⟨0x0C02, 8, false, [(32, 4)]⟩]  -- GAU_LEARN_SET

/-- Area 0D. -/
def commands0D : List CmdSpec := [
  ⟨0x0D00, 63, true, [(32, 6)]⟩,  -- PT_READ
  ⟨0x0D01, 63, true, [(32, 9)]⟩,  -- PT_DUMP
  ⟨0x0D02, 9, false, []⟩,  -- PT_POINT_SET
  ⟨0x0D03, 11, false, [(40, 8)]⟩,  -- PT_WRITE
  ⟨0x0D04, 63, true, [(32, 8)]⟩,  -- PT_SUBSCRIBE
  ⟨0x0D05, 63, true, [(32, 2)]⟩,  -- PT_FETCH
  ⟨0x0D06, 63, true, []⟩]  -- PT_STATUS

/-- Area 0E. -/
def commands0E : List CmdSpec := [
  ⟨0x0E00, 63, true, [(32, 4)]⟩,  -- PLC_NODE_READ
  ⟨0x0E01, 9, true, [(32, 1)]⟩,  -- PLC_TMAP_READ
  ⟨0x0E02, 9, false, []⟩,  -- PLC_TMAP_REFRESH
  ⟨0x0E03, 1, false, []⟩]  -- PLC_MASK_SET

/-- Area 0F. -/
def commands0F : List CmdSpec := [
  ⟨0x0F00, 9, true, []⟩,  -- CAN_CONFIG
  ⟨0x0F01, 9, true, [(32, 5)]⟩,  -- CAN_DETECT
  ⟨0x0F02, 11, false, [(32, 1), (36, 4)]⟩,  -- CAN_TX
  ⟨0x0F03, 63, true, [(32, 1)]⟩,  -- CAN_RX_READ
  ⟨0x0F04, 63, true, [(32, 2)]⟩,  -- CAN_RX_ACK
  ⟨0x0F05, 9, true, []⟩,  -- CAN_RECOVER
  ⟨0x0F06, 63, true, []⟩]  -- CAN_STATUS

/-- Area 10. -/
def commands10 : List CmdSpec := [
  ⟨0x1000, 63, true, []⟩,  -- OBS_STATUS
  ⟨0x1001, 63, true, [(32, 4)]⟩,  -- OBS_SLOT_READ
  ⟨0x1002, 63, true, []⟩,  -- OBS_CHAIN_READ
  ⟨0x1003, 1, true, []⟩,  -- OBS_UPDATE
  ⟨0x1004, 25, true, []⟩,  -- OBS_ATTEST
  ⟨0x1005, 1, true, []⟩]  -- OBS_DECOMMISSION

/-- Area 11. -/
def commands11 : List CmdSpec := [
  ⟨0x1100, 8, true, []⟩,  -- GRN_CONFIG_LOAD
  ⟨0x1101, 8, true, [(32, 4)]⟩,  -- GRN_CONFIG_COMMIT
  ⟨0x1102, 63, true, []⟩,  -- GRN_READ
  ⟨0x1103, 9, true, [(32, 1), (34, 2)]⟩,  -- GRN_RESET_ARM
  ⟨0x1104, 9, true, [(32, 1)]⟩,  -- GRN_TRIP
  ⟨0x1105, 63, true, [(32, 4)]⟩]  -- GRN_CONN_READ

/-- Area 12. -/
def commands12 : List CmdSpec := [
  ⟨0x1200, 63, true, [(32, 4)]⟩,  -- FLT_READ
  ⟨0x1201, 9, false, [(32, 3)]⟩,  -- FLT_REACT_SET
  ⟨0x1202, 9, true, [(32, 2)]⟩,  -- FLT_CLEAR
  ⟨0x1203, 8, true, [(32, 2)]⟩]  -- FLT_TEST

/-- Area 13. -/
def commands13 : List CmdSpec := [
  ⟨0x1300, 63, true, []⟩,  -- PAIR_STATUS
  ⟨0x1301, 9, false, []⟩]  -- PAIR_SWITCHOVER

/-- Every command, in ascending order of opcode. -/
def commands : List CmdSpec :=
  commands01 ++ commands02 ++ commands03 ++ commands04 ++ commands05 ++ commands06 ++ commands07 ++ commands08 ++ commands09 ++ commands0A ++ commands0B ++ commands0C ++ commands0D ++ commands0E ++ commands0F ++ commands10 ++ commands11 ++ commands12 ++ commands13

/-- The command of an opcode, none where no chapter defines it (R59 step 2). -/
def cmdSpec (op : Nat) : Option CmdSpec := commands.find? fun c => c.opcode == op

/-- Commands that only read (R64). -/
def readOnlyOps : List Nat := [
  0x0104, 0x0121, 0x0200, 0x0202, 0x0213, 0x0214, 0x0303, 0x0401, 0x0506, 0x0603, 0x0604, 0x0612, 0x0704, 0x0804, 0x0904,
  0x0A03, 0x0A04, 0x0A05, 0x0B04, 0x0B06, 0x0B08, 0x0B0A, 0x0C01] ++ [
  0x0D00, 0x0D01, 0x0D04, 0x0D05, 0x0D06, 0x0E00, 0x0E01, 0x0F03, 0x0F06, 0x1000, 0x1001, 0x1002, 0x1102, 0x1105, 0x1200, 0x1300]

/-- Host commands that change the state of Basalt, the leave arbiter or the cooling observer (R559). -/
def engineOps : List Nat := [
  0x0300, 0x0301, 0x0302, 0x0310, 0x0311, 0x0312, 0x0500, 0x0501, 0x0502, 0x0503, 0x0504, 0x0505, 0x0507, 0x0800, 0x0801, 0x0802, 0x0803]

/-- A byte offset of PARAMS that a command gives a field. -/
def inFields (c : CmdSpec) (i : Nat) : Bool := c.fields.any fun f => decide (f.1 ≤ i ∧ i < f.1 + f.2)

/-- Every reserved byte of PARAMS is 0 (R11). -/
def paramsOk (c : CmdSpec) (d : Desc) : Bool := (List.range 32).all fun j => inFields c (32 + j) || byteAt d.bytes (32 + j) == 0

end Sys2Proof.Machine
end

