-- ==== Sys2Proof/Machine/LoopOps.lean ====
section
/-!
DEFINITION. Loop arithmetic and the shared operations over Basalt instances: coefficient records, one evaluation of the
control law, half rate, fencing, and the schedule (R147, R171, R175 to R188).
-/
namespace Sys2Proof.Machine

/-! ### Coefficient records (R183) -/

def coefNode (r : Rec) : Nat := fld r 0 2
def coefChannel (r : Rec) : Nat := fld r 2 1
def coefRate (r : Rec) : Nat := fld r 3 1
def coefShift (r : Rec) : Nat := fld r 4 1
def coefDMeas (r : Rec) : Bool := bit (fld r 5 1) 0
def coefRefSrc (r : Rec) : Nat := fld r 6 1
def coefFfSrc (r : Rec) : Nat := fld r 7 1
def coefRefArg (r : Rec) : Nat := fld r 8 2
def coefFfArg (r : Rec) : Nat := fld r 10 2
def coefMeasArg (r : Rec) : Nat := fld r 12 2
def coefKi (r : Rec) : Int := sfld r 16 2
def coefIInit (r : Rec) : Int := sfld r 24 2
def coefRefInit (r : Rec) : Int := sfld r 26 2
def coefRep (r : Rec) : Nat := fld r 28 2
def coefRepN (r : Rec) : Nat := fld r 30 2
def coefRepLead (r : Rec) : Nat := fld r 36 1
def coefPhaseSrc (r : Rec) : Nat := fld r 37 1
def coefPhaseInc (r : Rec) : Nat := fld r 40 4

/-- Period in windows of a rate code (R146, R163). -/
def rateK : Nat → Nat
  | 1 => 1000 | 2 => 100 | 3 => 50 | 4 => 20 | 5 => 10 | 6 => 5 | 7 => 4 | 8 => 2 | _ => 0

/-- R147: the loop of period `k` windows fits at distance `d`; 1,023 spans is the depth limit. -/
def rateFits (k d : Nat) : Bool := decide (640 * d + 2400 ≤ 6000 * k ∧ d ≤ 1023)

/-- Highest rate code that R147 allows at a distance, 0 for none (R163). -/
def rateMax (d : Nat) : Nat := ([8, 7, 6, 5, 4, 3, 2, 1].find? fun c => rateFits (rateK c) d).getD 0

/-! ### One evaluation (R175, R176, R181, R188) -/

/-- The low 16 bits as a signed value. -/
def trunc16 (v : Int) : Int := (v + 32768) % 65536 - 32768
/-- The low 40 bits as a signed value. -/
def wrap40 (v : Int) : Int := (v + 2 ^ 39) % 2 ^ 40 - 2 ^ 39
/-- Arithmetic shift right. -/
def asr (v : Int) (n : Nat) : Int := Int.fdiv v (2 ^ n : Nat)
/-- A value outside the signed range of `n` bits. -/
def outOf (n : Nat) (v : Int) : Bool := decide (v < -(2 ^ (n - 1) : Int) ∨ (2 ^ (n - 1) : Int) ≤ v)
/-- A value held to Q15, for the taps only (R203). -/
def sat16 (v : Int) : Int := clamp (-32768) 32767 v

/-- The coefficients that act in an evaluation. -/
structure Law where
  kp : Int
  ki : Int
  kd : Int
  kff : Int
  dfilt : Int
  kr : Int
  qf : Int
  sh : Nat
  dMeas : Bool
  deriving DecidableEq, Repr

/-- The coefficients of a record, at full or at half rate (R181). -/
def lawOf (r : Rec) (half : Bool) : Law :=
  let kd := sfld r 18 2
  let df : Int := fld r 22 2
  { kp := sfld r 14 2, ki := if half then 2 * coefKi r else coefKi r, kd := if half then asr kd 1 else kd,
    kff := sfld r 20 2, dfilt := if half then asr (df * df) 15 else df, kr := sfld r 32 2, qf := fld r 34 2,
    sh := coefShift r, dMeas := coefDMeas r }

/-- What one evaluation forms. -/
structure LawOut where
  e : Int
  p : Int
  iAcc : Int
  dq : Int
  x : Int
  u : Int
  rep : Int
  causes : BitVec 5
  deriving DecidableEq, Repr

/-- One evaluation, exactly the steps of R175. `track` is the command of a tracking start (R188), `rep` the cell at j and `rq`
the cell ahead of it, 0 without a repetitive controller; `injRef` and `injOut` are the injections of R207. -/
def evalLaw (c : Law) (iAcc dq xPrev : Int) (first : Bool) (track : Option Int) (r y f rep rq injRef injOut : Int) : LawOut :=
  let e := r + injRef - y
  let p := c.kp * e
  let x := if c.dMeas then -y else e
  let xp := if first then x else xPrev
  let dRaw := asr (c.dfilt * dq + c.kd * (x - xp)) 15
  let dq := trunc16 dRaw
  let ff := c.kff * f
  let iRaw := match track with
    | some t => t * 2 ^ (15 - c.sh) - p - dq * 32768 - ff - rq * 32768
    | none => iAcc + c.ki * e
  let iAcc := wrap40 iRaw
  let sRaw := p + iAcc + dq * 32768 + ff + rq * 32768 + injOut * 32768
  let s := wrap40 sRaw
  let uRaw := asr s (15 - c.sh)
  let repRaw := asr (c.qf * rep + c.kr * e) 15
  let b (v : Bool) (k : Nat) : BitVec 5 := if v then BitVec.ofNat 5 (2 ^ k) else 0
  { e := e, p := p, iAcc := iAcc, dq := dq, x := x, u := trunc16 uRaw, rep := trunc16 repRaw,
    causes := b (outOf 40 iRaw) 0 ||| b (outOf 16 dRaw) 1 ||| b (outOf 40 sRaw) 2 ||| b (outOf 16 uRaw) 3 ||| b (outOf 16 repRaw) 4 }

/-! ### Instances -/

/-- An instance, EMPTY where none is held. -/
def State.inst (s : State) (i : Nat) : Inst := s.bas.insts.getD i {}
/-- The coefficient record of an instance, empty for EMPTY. -/
def State.coef (s : State) (i : Nat) : Rec := s.bas.coeffs.getD i []

/-- Changes one instance. -/
def State.updInst (s : State) (i : Nat) (f : Inst → Inst) : State :=
  { s with bas := { s.bas with insts := s.bas.insts.set i (f (s.inst i)) } }

/-- At the start of a site cycle the MEAS words of the last one are kept for its mean (R257, R286). -/
def State.latchMeans (s : State) : State :=
  { s with bas := { s.bas with insts := s.bas.insts.mapV fun _ x => { x with cycSum := x.measSum, cycN := x.measN, measSum := 0, measN := 0 } } }

/-- An instance that drives its channel (R169). -/
def drives (x : Inst) : Bool := decide (2 ≤ x.state)

/-- An instance that counts in the schedule: it drives its channel, or a command waits for its due window (R186). -/
def scheduled (x : Inst) : Bool := drives x || !x.wait.isEmpty

/-- A window is due for a period and phase (R171). -/
def dueIn (w k p : Nat) : Bool := k != 0 && w % k == p % k

/-- The instances of a node. -/
def State.instsOf (s : State) (node : Nat) : Tab Inst :=
  s.bas.insts.keep fun i x => coefNode (s.coef i) == node && scheduled x

/-- The number of a stage object (R222). -/
def stageObj (node stage : Nat) : Nat := node % 65536 + 65536 * stage

/-- A stage as the module keeps it. -/
def State.stage (s : State) (obj : Nat) : Stage := s.stg.stages.getD obj {}
/-- Changes a stage. -/
def State.updStage (s : State) (obj : Nat) (f : Stage → Stage) : State :=
  { s with stg := { s.stg with stages := s.stg.stages.set obj (f (s.stage obj)) } }

/-- The planned record of a node. -/
def State.plan (s : State) (node : Nat) : Option Rec := s.ring.plans.get? node
/-- The record that gives a node's place: a change of position takes effect at the next RING_SCAN (R162). -/
def State.place (s : State) (node : Nat) : Option Rec := match s.ring.moved.get? node with
  | some r => some r
  | none => s.plan node
/-- KIND of a planned node: 1 cabinet, 2 dispenser, 3 sensor head (R159); 0 for none. -/
def State.nodeKind (s : State) (node : Nat) : Nat := ((s.plan node).map fun r => fld r 18 1).getD 0
/-- RING of a planned node (R159). -/
def State.nodeRing (s : State) (node : Nat) : Nat := ((s.place node).map fun r => fld r 19 1).getD 0
/-- The live record of a node. -/
def State.node (s : State) (node : Nat) : Node := s.ring.nodes.getD node {}
/-- Changes a node's live record. -/
def State.updNode (s : State) (n : Nat) (f : Node → Node) : State :=
  { s with ring := { s.ring with nodes := s.ring.nodes.set n (f (s.node n)) } }

/-- A loop of period `k` windows fits a node: by distance on the ring (R147); on the busbar link 100 Hz alone, or half of it in
alternate cycles, while a poll cycle lasts 10 ms (R428). -/
def State.nodeFits (s : State) (n k : Nat) : Bool :=
  if s.nodeRing n = 2 then decide (s.pn PAR_PLC_CYCLE_MS = 10) && (k == 1000 || k == 2000) else rateFits k (s.node n).hops

/-- A node whose lease this module holds. -/
def State.holds (s : State) (n : Nat) : Bool := (s.node n).leased

/-- Whether the module holds some node's lease. -/
def State.hasLease (s : State) : Bool := s.ring.nodes.any fun e => e.2.leased

/-- Number of nodes whose lease the module holds. -/
def State.heldCount (s : State) : Nat := (s.ring.nodes.filter fun e => e.2.leased).length

/-! ### Marks for tracing and tuning (R205, R211) -/

/-- TRIG_KIND of a trace record (R214). -/
def traceKind (r : Rec) : Nat := fld r 1 1
/-- INSTANCE and TAP of a slot; TAP 255 marks an unused one. -/
def traceSlot (r : Rec) (j : Nat) : Nat × Nat := (fld r (16 + 4 * j) 2, fld r (18 + 4 * j) 1)
/-- The instances of the used slots. -/
def traceInsts (r : Rec) : List Nat := (List.range 8).filterMap fun j => if (traceSlot r j).2 = 255 then none else some (traceSlot r j).1

/-- The buffers that wait for an event of an instance note it: kind 4 a WRAP bit set, kind 5 a fence (R205). -/
def State.traceHit (s : State) (kind i : Nat) : State :=
  let note (t : Trace) : Trace := if traceKind t.cfg = kind ∧ (traceInsts t.cfg).contains i then { t with hit := true } else t
  { s with tune := { s.tune with traces := s.tune.traces.mapV fun _ t => note t } }

/-- The generators that run on a node note a cause; the lowest stands (R211). -/
def State.genLatch (s : State) (node : Nat → Bool) (cause : Nat) : State :=
  let note (g : Gen) : Gen := if g.state = 1 ∧ node (coefNode (s.coef (fld g.cfg 0 2))) then { g with stop := some (min cause (g.stop.getD cause)) } else g
  { s with tune := { s.tune with gens := s.tune.gens.mapV fun _ g => note g } }

/-- Fences an instance with a cause: 0 wrap, 1 node, 2 rate, 3 lease. Only an ARMED or FROZEN instance becomes FENCED; one that
is FENCED gains the cause (R186). A fence other than by wrap raises BAS_FENCED (R201). -/
def State.fenceInst (s : State) (i cause : Nat) : State :=
  let x := s.inst i
  if x.state = 2 ∨ x.state = 3 then
    let t := s.updInst i fun x => { x with state := 4, fenceCause := x.fenceCause ||| BitVec.ofNat 4 (2 ^ cause) }
    let t := t.traceHit 5 i
    if cause = 0 then t else t.raise 0x05 0x0002 i
  else if x.state = 4 then s.updInst i fun x => { x with fenceCause := x.fenceCause ||| BitVec.ofNat 4 (2 ^ cause) }
  else s

/-- The owner of an instance that is LOADED again: a session that has ended owns it no longer (R192). -/
def ownerAfter (owner : Nat) : Nat := if owner = 3 then 0 else owner

/-- Lifts a fence cause; the instance is LOADED when no cause is left (R186). -/
def liftFence (x : Inst) (cause : Nat) : Inst :=
  let fc := x.fenceCause &&& ~~~ BitVec.ofNat 4 (2 ^ cause)
  if x.state = 4 ∧ fc = 0 then { x with state := 1, fenceCause := 0, half := false, lift := none, owner := ownerAfter x.owner }
  else { x with fenceCause := fc }

/-- Whether a half rate is possible for a record (R181). -/
def canHalve (r : Rec) : Bool := decide (-16384 ≤ coefKi r ∧ coefKi r ≤ 16383)

/-- Puts an instance at half rate: k doubles and the phase stays (R181). -/
def State.halveInst (s : State) (i : Nat) : State :=
  if (s.inst i).half then s.updInst i fun x => { x with lift := none }
  else (s.updInst i fun x => { x with half := true, lift := none, k := 2 * x.k }).raise 0x05 0x0003 i

/-! ### The schedule (R148, R171) -/

/-- Blocks of a loop frame with `n` instances (R148). -/
def frameBlocks (n : Nat) : Nat := if n = 0 then 0 else 1 + (2 * n + 3) / 4

/-- The scheduled instances without one. -/
def State.schedule (s : State) (except : List Nat) : List (Nat × Inst) :=
  s.bas.insts.filter fun e => scheduled e.2 && !except.contains e.1

/-- Evaluations due in window `w`. -/
def evalsIn (l : List (Nat × Inst)) (w : Nat) : Nat := (l.filter fun e => dueIn w e.2.k e.2.phase).length

/-- Loop blocks that a ring's frames take in window `w`: every frame of the ring crosses the span at the master on its side, so
the busiest span of a side carries the frames of all nodes served from that side (R136, R148). -/
def State.blocksIn (s : State) (l : List (Nat × Inst)) (ring side w : Nat) : Nat :=
  let due := l.filter fun e => dueIn w e.2.k e.2.phase
  let nodes := (s.ring.plans.keys.filter fun n => s.nodeRing n == ring && (s.node n).side == side)
  (nodes.map fun n => frameBlocks (due.filter fun e => coefNode (s.coef e.1) == n).length).sum

/-- Evaluations in the busiest window of a schedule, over the 2,000 windows in which every schedule of R146 repeats. -/
def busiest (l : List (Nat × Inst)) : Nat :=
  (l.flatMap fun e => (List.range (2000 / max 1 e.2.k + 1)).map fun j => evalsIn l (e.2.phase + j * e.2.k)).foldl max 0

/-- Whether both budgets hold with a new instance of a period and phase: the evaluations in every window (R171), and the ring's
blocks in every window to which the instance adds (R148). -/
def State.phaseFits (s : State) (l : List (Nat × Inst)) (i : Nat) (k p : Nat) : Bool :=
  let l' := (i, { s.inst i with k := k, phase := p, state := 2 }) :: l
  let n := coefNode (s.coef i)
  decide (busiest l ≤ s.pn PAR_BAS_EVAL_LIMIT) && (List.range (2000 / k + 1)).all fun j =>
    let w := p + j * k
    decide (evalsIn l' w ≤ s.pn PAR_BAS_EVAL_LIMIT) &&
      (n == 0 || s.nodeRing n == 2 || decide (s.blocksIn l' (s.nodeRing n) (s.node n).side w ≤ s.pn PAR_RING_LOOP_BLK))

/-- Peak count of evaluations per window with a new instance of a period and phase; `g` is the peak without it. -/
def peakOf (l : List (Nat × Inst)) (g k p : Nat) : Nat :=
  ((List.range (2000 / k + 1)).map fun j => evalsIn l (p + j * k) + 1).foldl max g

/-- The lowest phase with the lowest peak among candidates (R171). -/
def bestPhase (l : List (Nat × Inst)) (g k : Nat) : List Nat → Option Nat
  | [] => none
  | p :: ps => match bestPhase l g k ps with
    | none => some p
    | some b => if peakOf l g k b < peakOf l g k p then some b else some p

/-- The phase Basalt gives instance `i` at period `k`, none when no phase keeps every window within both budgets (R171). Among the phases of several armed
instances of the same node and rate, that of the lowest instance that fits is used (DESIGN CHOICE, assumption 126). -/
def State.choosePhase (s : State) (i k : Nat) (except : List Nat) : Option Nat :=
  let l := s.schedule (i :: except)
  let n := coefNode (s.coef i)
  let same := (l.filter fun e => coefNode (s.coef e.1) == n && e.2.k == k && e.2.state != 4).map fun e => e.2.phase
  match same.find? fun p => s.phaseFits l i k p with
  | some p => some p
  | none => bestPhase l (busiest l) k ((List.range k).filter fun p => s.phaseFits l i k p)

/-- Evaluations in the busiest window of the schedule (R202, PEAK). -/
def State.peakEvals (s : State) : Nat :=
  ((List.range 2000).map fun w => evalsIn (s.schedule []) w).foldl max 0

end Sys2Proof.Machine
end

