-- ==== Sys2Proof/Machine/Traffic.lean ====
section
/-!
DEFINITION. What the ring carries as bytes, and the budgets of a half-cycle: cycle headers, markers, loop frames, report records, safety telegrams and
node configuration (R136, R141 to R145, R166).
-/
namespace Sys2Proof.Machine

/-! ### Sides (R136, R137) -/

/-- The side with fewer spans, on a tie the east side: 0 west, 1 east (R136); the present side of a member that is reached by neither. -/
def bestSide (present : Nat) (west east : Option Nat) : Nat := match west, east with
  | some w, some e => if w < e then 0 else 1
  | some _, none => 0
  | none, some _ => 1
  | none, none => present

/-- The distance of a scanned member by a side. -/
def ScanMember.dist (m : ScanMember) (side : Nat) : Nat := (if side = 0 then m.west else m.east).getD 0

/-- The side that a scan gives a member (R136). -/
def ScanMember.side (m : ScanMember) : Nat := bestSide 0 m.west m.east

/-- Its distance by that side. -/
def ScanMember.hops (m : ScanMember) : Nat := m.dist m.side

/-- The side that a claim gives a node (R136). -/
def Node.best (x : Node) : Nat := bestSide x.side x.west x.east

/-! ### Headers and markers (R141, R143) -/

/-- System time is locked to PTP (R141, R143). -/
def State.taiLocked (s : State) : Bool := s.mbx.timeLocked && !s.mbx.holdover

/-- The multiple of 20 µs nearest to system time (R141). -/
def State.taiSlot (s : State) : Nat := (s.sysTime + 10 * us) / (20 * us) * (20 * us)

/-- The offset of the next cycle start from its multiple of 20 µs (R141): while locked it slews to 0 by at most 10 ns per cycle, else the cycles run free
(DESIGN CHOICE, assumption 127). -/
def State.nextSkew (s : State) : Int :=
  if s.taiLocked then (if 0 ≤ s.ring.skew then max 0 (s.ring.skew - 10) else min 0 (s.ring.skew + 10))
  else (s.sysTime : Int) - s.taiSlot

/-- TAI_NS of a cycle: its start (R141, R143). -/
def State.taiNs (s : State) : Nat := ((s.taiSlot : Int) + s.ring.skew).toNat

/-- The cycle header's 32 bytes (R143). -/
def headerBytes (cycle epoch taiNs issuer flags plan leaseMs : Nat) : List Byte :=
  let b := pack [(4, cycle), (4, epoch), (8, taiNs), (1, issuer), (1, flags), (2, plan), (2, leaseMs), (6, 0)]
  b ++ leBytes 4 (crc32c b)

/-- The window-1 marker's 8 bytes (R143). -/
def markerBytes (cycle epoch issuer : Nat) : List Byte :=
  let b := pack [(2, cycle), (2, epoch), (1, issuer), (1, 0)]
  b ++ leBytes 2 (crc16 b)

/-- The payload of a beacon: its 21 bytes, and the CRC-32 that ends every payload (R419, R427). -/
def beaconBytes (cycle epoch issuer flags leaseMs nodes : Nat) : List Byte :=
  let b := pack [(4, cycle), (4, epoch), (1, issuer), (1, flags), (2, leaseMs), (2, nodes), (3, 0)]
  let b := b ++ leBytes 4 (crc32c b)
  b ++ leBytes 4 (crc32 b)

/-- The slot plan (R143): the loop instances of nodes with their channels, periods and phases. -/
def State.planNow (s : State) : List (List Nat) :=
  (s.bas.insts.filter fun e => scheduled e.2 && coefNode (s.coef e.1) != 0).map fun e =>
    [e.1, coefNode (s.coef e.1), coefChannel (s.coef e.1), e.2.k, e.2.phase]

/-- PLAN moves on when the slot plan has changed since the last cycle (R143; DESIGN CHOICE, assumption 128). -/
def State.stampPlan (s : State) : State :=
  if s.planNow = s.ring.slotPlan then s else { s with ring := { s.ring with plan := s.ring.plan + 1, slotPlan := s.planNow } }

/-! ### Loop frames (R144, R173) -/

/-- A loop frame: its header, with the CRC over header and payload, and its words as 16 bits each, padded with zero words to a multiple of 4. -/
def loopFrameBytes (node epoch window flags : Nat) (words : List Nat) : List Byte :=
  let n := 4 * ceilDiv words.length 4
  let p := padTo (2 * n) (words.flatMap (leBytes 2))
  let h := pack [(2, node), (1, epoch), (1, window), (1, n), (1, flags)]
  h ++ leBytes 2 (crc16 (h ++ [0, 0] ++ p)) ++ p

/-- The two words of each due channel, zeros where no command is sent. -/
def frameWords (l : List (Nat × Option (Int × Nat))) : List Nat :=
  l.flatMap fun e => [((e.2.map Prod.fst).getD 0 % 65536).toNat, (e.2.map Prod.snd).getD 0]

/-- NODE of a frame. -/
def LoopFrame.node (f : LoopFrame) : Nat := fld f.bytes 0 2
/-- EPOCH_LO of a frame. -/
def LoopFrame.epochLo (f : LoopFrame) : Nat := fld f.bytes 2 1
/-- WIN of a frame. -/
def LoopFrame.win (f : LoopFrame) : Nat := fld f.bytes 3 1
/-- WORDS of a frame. -/
def LoopFrame.size (f : LoopFrame) : Nat := fld f.bytes 4 1
/-- FFLAGS bit 0, UP. -/
def LoopFrame.up (f : LoopFrame) : Bool := bit (fld f.bytes 5 1) 0
/-- FFLAGS bit 1, VALID. -/
def LoopFrame.valid (f : LoopFrame) : Bool := bit (fld f.bytes 5 1) 1
/-- FFLAGS bit 3, LAPSED. -/
def LoopFrame.lapsed (f : LoopFrame) : Bool := bit (fld f.bytes 5 1) 3
/-- The frame has its length and its CRC agrees (R144). -/
def LoopFrame.crcOk (f : LoopFrame) : Bool :=
  f.bytes.length == 8 + 2 * f.size && fld f.bytes 6 2 == crc16 (f.bytes.take 6 ++ [0, 0] ++ f.bytes.drop 8)
/-- The blocks that a frame takes. -/
def LoopFrame.blocks (f : LoopFrame) : Nat := ceilDiv f.bytes.length 8
/-- MEAS and word 1 of the channels, as signed Q15 values (R173). -/
def LoopFrame.words (f : LoopFrame) : List (Int × Int) :=
  (List.range (f.size / 2)).map fun j => (sfld f.bytes (8 + 4 * j) 2, sfld f.bytes (10 + 4 * j) 2)
/-- The window that a frame answers: the last one with its WIN. -/
def State.frameWindow (s : State) (f : LoopFrame) : Nat := s.ring.window - (s.ring.window + 256 - f.win) % 256

/-! ### Budgets of a half-cycle (R142) -/

/-- Report records of a half-cycle on a ring (R142). -/
def REPORT_BLK : Nat := 64

/-- What waits on a ring. -/
def State.queue (s : State) (ring : Nat) : RingQueue := s.ring.queues.getD ring {}

/-- Changes it. -/
def State.setQueue (s : State) (ring : Nat) (q : RingQueue) : State := { s with ring := { s.ring with queues := s.ring.queues.set ring q } }

/-- A report record of the module (R145). -/
def reportRecord (node code arg epoch : Nat) : List Byte := pack [(2, node), (1, code), (1, arg), (4, epoch)]

/-- Blocks of a telegram (R142). -/
def telegramBlocks (b : List Byte) : Nat := ceilDiv b.length 8

/-- Sends a CLAIM on the node's ring: in this half-cycle while the report class has room, else it waits. The busbar link has no such budget. -/
def State.sendClaim (s : State) (node : Nat) (record : List Byte) : State :=
  let ring := s.nodeRing node
  let q := s.queue ring
  if 2 ≤ ring then s.emit (.claim node record)
  else if q.claims.isEmpty ∧ q.sent < REPORT_BLK then (s.setQueue ring { q with sent := q.sent + 1 }).emit (.claim node record)
  else s.setQueue ring { q with claims := q.claims ++ [(node, record)] }

/-- Sends a safety telegram to a node on a ring: in this half-cycle while RING_SAFE_BLK has room, else it waits. -/
def State.sendSafety (s : State) (ring conn : Nat) (b : List Byte) : State :=
  let q := s.queue ring
  if q.telegrams.isEmpty ∧ q.blocks + telegramBlocks b ≤ s.pn PAR_RING_SAFE_BLK then
    (s.setQueue ring { q with blocks := q.blocks + telegramBlocks b }).emit (.safety conn b)
  else s.setQueue ring { q with telegrams := q.telegrams ++ [(conn, b)] }

/-- The telegrams at the front that a budget holds, and the rest. -/
def fitTelegrams (budget : Nat) : List (Nat × List Byte) → List (Nat × List Byte) × List (Nat × List Byte)
  | [] => ([], [])
  | e :: l => if telegramBlocks e.2 ≤ budget then
      let r := fitTelegrams (budget - telegramBlocks e.2) l
      (e :: r.1, r.2)
    else ([], e :: l)

/-- A half-cycle begins on a ring: what waited goes out within the budgets, telegrams before report records (R142). -/
def State.drainRing (s : State) (ring : Nat) : State :=
  let q := s.queue ring
  let r := fitTelegrams (s.pn PAR_RING_SAFE_BLK) q.telegrams
  let c := q.claims.take REPORT_BLK
  let t := r.1.foldl (fun (u : State) e => u.emit (.safety e.1 e.2)) s
  let t := c.foldl (fun (u : State) e => u.emit (.claim e.1 e.2)) t
  t.setQueue ring { claims := q.claims.drop REPORT_BLK, sent := c.length, telegrams := r.2, blocks := (r.1.map fun e => telegramBlocks e.2).sum }

/-- A half-cycle begins on both rings. -/
def State.halfCycle (s : State) : State := (s.drainRing 0).drainRing 1

/-! ### Node configuration (R155, R166) -/

/-- Sends a node its configuration. -/
def State.sendConfig (s : State) (node : Nat) : State :=
  s.emit (.nodeConfig node (s.pn PAR_RING_HOLD_US) (s.pn PAR_RING_RAMP_MS) (s.pn PAR_RING_LOOP_BLK) (s.pn PAR_RING_SAFE_BLK) (s.pn PAR_RING_MET_BLK)
    (s.node node).delayWest (s.node node).delayEast)

/-- The nodes held take a new RUN value of the hold or the ramp (R166). -/
def State.configChanged (s : State) (old : State) : State :=
  if old.pn PAR_RING_HOLD_US = s.pn PAR_RING_HOLD_US ∧ old.pn PAR_RING_RAMP_MS = s.pn PAR_RING_RAMP_MS then s
  else ((s.ring.nodes.filter fun e => e.2.leased).map Prod.fst).foldl State.sendConfig s

end Sys2Proof.Machine
end

