-- ==== Sys2Proof/Machine/Report.lean ====
section
/-!
DEFINITION. The report of a fault to the collector: the sticky bit, the count, the hold and the reaction (R522 to R528).
-/
namespace Sys2Proof.Machine

/-- The reaction in force of a source (R527). -/
def State.reaction (s : State) (row : SourceRow) : Nat := s.flt.reactions.getD row.source row.dflt

/-- Whether some object is held (R528). -/
def State.isDegraded (s : State) : Bool := !s.flt.holds.isEmpty || s.flt.request

/-- Reports entry into and exit from degraded operation (R528, R538). -/
def State.noteDegraded (s : State) : State :=
  let d := s.isDegraded
  if d = s.flt.degraded then s
  else ({ s with flt := { s.flt with degraded := d } }).raise 0x12 0x0003 (if d then 1 else 0)

/-- Whether a source holds an object. -/
def holdOf (hs : List Hold) (source object : Nat) : Option Hold := hs.find? fun h => h.source == source && h.object == object

/-- A hold placed, or the hold in place strengthened, never weakened (R527). -/
def placeHold (hs : List Hold) (source object r : Nat) : List Hold :=
  match holdOf hs source object with
  | some _ => hs.map fun h => if h.source = source ∧ h.object = object then { h with reaction := max h.reaction r } else h
  | none => hs ++ [⟨source, object, r⟩]

/-- The outlets whose cap map names a node (R525). -/
def State.outletsOfNode (s : State) (node : Nat) : List Nat :=
  (s.lv.capmaps.keep fun c r => decide (c < 256) && (List.range 8).any fun j => decide (j < fld r 0 1) && fld r (8 + 8 * j) 2 == node).keys

/-- The outlets that a SAFE report names in its trip request (R525). -/
def State.tripOutlets (s : State) (kind object : Nat) : List Nat :=
  match kind with
  | 0 => List.range 256
  | 1 => if coefNode (s.coef object) = 0 then List.range 256 else s.outletsOfNode (coefNode (s.coef object))
  | 2 => s.outletsOfNode object
  | 3 => s.outletsOfNode (object % 65536)
  | 4 => s.outletsOfNode (object % 65536)
  | 5 => [object]
  | 7 => [object]
  | _ => []

/-- What a reaction does to an instance, by the source's fence cause: 128 wrap, 129 rate (R177, R181, R524). -/
def State.holdInst (s : State) (i r source : Nat) : State :=
  if r = 0 then s
  else if r = 1 then s.updInst i fun x => if x.state = 2 then { x with state := 3 } else x
  else s.fenceInst i (if source = SRC_BAS_RATE then 2 else 0)

/-- RESULT of STG_ENABLE: the final voltage and the duration of the soft start (R248). -/
def enableResult (x : Stage) (now : Nat) : List Byte := pack [(2, x.volt), (2, min 65535 ((now - x.since) / ms))]

/-- RESULT of STG_CHECK (R247). -/
def checkResult (failed seq : Nat) : List Byte := pack [(1, failed), (1, 0), (2, seq)]

/-- RESULT of the command that waits on a stage, as it ends: of a check in CHECKING, whose items have not failed, and of a soft start (R247, R248). -/
def Stage.result (x : Stage) (now : Nat) : List Byte := if x.state = 1 then checkResult 0 x.checkSeq else enableResult x now

/-- A stage stops: its new state, the cause, its token void, PWM off where it ran, and the status of a command that waits on it, with its result. A soft
start that a lock-out ends is remembered until the node's report of its short (R238). -/
def State.stopStage (s : State) (obj state cause st : Nat) : State :=
  let x := s.stage obj
  let t := if x.state = 3 ∨ x.state = 4 ∨ x.state = 5 then s.emit (.stageOff (obj % 65536) (obj / 65536)) else s
  let t := t.updStage obj fun x => { x with state := state, stopCause := cause, token := none, uid := none, nearSince := none, v0 := none,
                                            refInst := none, owner := if state = 0 then 0 else x.owner, cutShort := x.state == 3 && cause == 5 }
  match x.uid with
  | some u => t.endCmd u st (x.result s.now) [] 0 0
  | none => t

/-- A stage under FENCE: PWM off at once; a check or an enable in progress ends with ST_FENCED (R524; DEDUCED, assumption 148). Its STOP_CAUSE is a free value. -/
def State.fenceStage (s : State) (obj : Nat) : State :=
  let x := s.stage obj
  if x.state = 1 ∨ x.state = 3 ∨ x.state = 4 ∨ x.state = 5 then s.draw.2.stopStage obj 0 (s.draw.1 % 6) ST_FENCED else s

/-- A circuit under FENCE is FAILED, whatever it was; its waiting COOL_STOP commands end, as they do at every FAILED (R264, R524; assumption 26). -/
def State.fenceCircuit (s : State) (n : Nat) : State :=
  let w := (s.cool.circuits.getD n {}).stops
  w.foldl (fun (u : State) k => u.okUid k []) { s with cool := { s.cool with circuits := s.cool.circuits.upd n fun c => { c with state := 4, stops := [] } } }

/-- What a reaction does to an object of a kind other than a node under DEGRADE (R524). -/
def State.applyHold0 (s : State) (kind object r source : Nat) : State :=
  if r = 0 then s
  else match kind with
    | 1 => s.holdInst object r source
    | 2 =>
      let t := s.updNode object fun n => if n.state = 2 ∨ n.state = 3 then { n with state := 4 } else n
      ((s.instsOf object).keys.foldl (fun u i => u.fenceInst i 1) t)
    | 3 => s.fenceStage object
    | 4 => s.updStage (object % 2 ^ 20) fun x => { x with fenced := x.fenced ||| ((1 : BitVec 96) <<< (object / 2 ^ 20)) }
    | 5 => if 2 ≤ r then s.fenceCircuit object else s
    | 6 => if 2 ≤ r then { s with met := { s.met with chans := s.met.chans.upd object fun c => if c.state = 2 then { c with state := 3, lostAt := s.now, run := 0 } else c } } else s
    | _ => s

/-- A report whose reaction on its object is given by `apply` (R522): once the collector has asserted its own line, it sets no bit and applies no reaction (R531). -/
def State.reportWith (apply : State → Nat → Nat → Nat → Nat → State) (s : State) (source object : Nat) : State :=
  match sourceRow source with
  | none => s
  | some row =>
    if s.flt.request then s
    else
      let r := s.reaction row
      let e := s.flt.src.getD source {}
      let due := match e.lastEvent with
        | none => true
        | some t => decide (t + s.pms PAR_FLT_EVENT_HOLDOFF_MS ≤ s.now)
      let e := { e with set := true, count := e.count + 1, lastObject := object, lastTime := s.sysTime,
                        lastEvent := if due then some s.now else e.lastEvent }
      let s := { s with flt := { s.flt with src := s.flt.src.set source e, last := some source } }
      let s := if due then s.raise 0x12 0x0001 source else s
      let s := if r = 0 ∨ row.kind = 0 then s
               else { s with flt := { s.flt with holds := placeHold s.flt.holds source object r } }
      let s := apply s row.kind object (if r = 0 then 0 else ((holdOf s.flt.holds source object).map Hold.reaction).getD r) source
      let s := if r = 3 then { s with flt := { s.flt with tripReq := s.flt.tripReq ++ s.tripOutlets row.kind object } } else s
      s.noteDegraded

/-- A report on any object but a node under DEGRADE. -/
def State.report0 (s : State) (source object : Nat) : State := State.reportWith State.applyHold0 s source object

/-- Demotes a node's instances to half rate; one whose gain is too large for it is fenced with cause "rate" (R154, R181). A start that waits and cannot
run at half rate ends in its due window. -/
def State.demoteNode (s : State) (node : Nat) : State :=
  let t := s.updNode node fun n => { n with demoted := true, state := if n.state = 2 then 3 else n.state }
  (s.instsOf node).keys.foldl (fun u i =>
    if (u.inst i).half then u.updInst i fun x => { x with lift := none }
    else if canHalve (u.coef i) then u.halveInst i
    else if drives (u.inst i) then u.report0 SRC_BAS_RATE i else u) t

/-- What a reaction does to an object (R524). -/
def State.applyHold (s : State) (kind object r source : Nat) : State :=
  if kind = 2 ∧ r = 1 then s.demoteNode object else s.applyHold0 kind object r source

/-- A report from a block (R522, R525). -/
def State.report (s : State) (source object : Nat) : State := State.reportWith State.applyHold s source object

/-- Whether an object of a kind is held under a reaction at least as strong as `r`. -/
def State.held (s : State) (kind object r : Nat) : Bool :=
  s.flt.holds.any fun h => h.object == object && decide (r ≤ h.reaction) && (sourceRow h.source).any fun w => w.kind == kind

end Sys2Proof.Machine
end

