-- ==== Sys2Proof/Machine/MbxOps.lean ====
section
/-!
DEFINITION. The start of a mailbox command: which command in flight a row names, when it may start (R58, R61), and the shared
operations over queue pairs, credits and hosts (R44, R49 to R53).
-/
namespace Sys2Proof.Machine

/-! ### Starting a command -/

/-- The waiting command that a row names: queue pair, tag and opcode. -/
def State.named (s : State) (opcode q tag : Nat) : Option InFlight :=
  s.mbx.inflight.find? fun c => c.q == q && c.desc.tag == tag && c.desc.opcode == opcode && c.phase == .waiting

/-- The commands of the same SQ fetched before a command. -/
def State.earlier (s : State) (c : InFlight) : List InFlight := s.mbx.inflight.filter fun d => d.q == c.q && decide (d.uid < c.uid)

/-- In lockstep mode a command that changes state takes effect at a site cycle boundary (R561): its row comes at the boundary's own time. MBX_ABORT
changes no state that the pair shares. -/
def State.atBoundary (s : State) (c : InFlight) : Bool :=
  !(s.isActive && s.pair.lockstep) || readOnlyOps.contains c.desc.opcode || c.desc.opcode == 0x0122 || s.pair.boundaryAt == s.now

/-- A metrology command: Jasper takes these one at a time, in order of arrival (chapter 11, Commands). -/
def InFlight.metrology (c : InFlight) : Bool := c.desc.opcode / 256 == 0x0A

/-- Jasper carries a metrology command out. -/
def State.jasperBusy (s : State) : Bool := s.mbx.inflight.any fun d => d.phase == .running && d.metrology

/-- Whether a command may start: every earlier command of its SQ has started (R61), and, when it is ordered, every earlier one has
completed and been posted (R58, assumption 63); in lockstep mode at a site cycle boundary (R561). A metrology command is taken when Jasper has ended the one
before; while it waits for that in Jasper's queue, it holds back no command for another block. -/
def State.mayStart (s : State) (c : InFlight) : Bool :=
  s.atBoundary c && !(c.metrology && s.jasperBusy) &&
    if c.ordered then (s.earlier c).isEmpty
    else (s.earlier c).all fun d => d.phase != .waiting || (s.jasperBusy && d.metrology && !d.ordered && !c.metrology)

/-- A queue pair. -/
def State.qp (s : State) (q : Nat) : QPair := s.mbx.qp.getD q {}

/-- Changes a queue pair. -/
def State.updQp (s : State) (q : Nat) (f : QPair → QPair) : State :=
  { s with mbx := { s.mbx with qp := s.mbx.qp.set q (f (s.qp q)) } }

/-- Marks a command as started. -/
def State.start (s : State) (uid : Nat) : State :=
  { s with mbx := { s.mbx with inflight := updCmds s.mbx.inflight uid fun c => { c with phase := .running } } }

/-- Sets a started command's own wait limit. -/
def State.setDeadline (s : State) (uid t : Nat) : State :=
  { s with mbx := { s.mbx with inflight := updCmds s.mbx.inflight uid fun c => { c with deadline := t } } }

/-- The start of the command that a row names. A row that names no command that may start changes nothing: that start does not
happen (assumption 6). A command behind a LINK whose command failed ends with ST_ABORTED (R58). -/
def startCommand (opcode q tag : Nat) (s : State) (body : InFlight → State → State) : Host.Outcome State Fault Refusal :=
  match s.named opcode q tag with
  | none => .next s
  | some c =>
    if s.mayStart c then
      if c.linkFailed then .next (s.fail c.uid ST_ABORTED)
      else .next (body c (s.start c.uid))
    else .next s

/-- The record of `n` bytes that a command brings as data, none when DATA_LEN is another. -/
def InFlight.record (c : InFlight) (n : Nat) : Option Rec :=
  if c.desc.dataLen = n ∧ c.desc.data.length = n then some c.desc.data else none

/-! ### Hosts and credits -/

/-- A host-table entry. -/
def State.host (s : State) (e : Nat) : HostEntry := s.mbx.hosts.getD e {}
/-- The live part of an entry. -/
def State.hostLive (s : State) (e : Nat) : HostLive := s.mbx.live.getD e {}
/-- Changes the live part of an entry. -/
def State.updLive (s : State) (e : Nat) (f : HostLive → HostLive) : State :=
  { s with mbx := { s.mbx with live := s.mbx.live.set e (f (s.hostLive e)) } }

/-- The entry that owns a queue pair (R32). -/
def State.ownerOf (s : State) (q : Nat) : Option Nat :=
  (s.mbx.hosts.find? fun e => e.2.transport != 0 && e.2.queueMask.getLsbD q).map Prod.fst

/-- Commands that hold a credit of a queue pair (R49). -/
def State.inflightOf (s : State) (q : Nat) : Nat := (s.mbx.inflight.filter fun c => c.q == q).length

/-- Credits of the shared pool that a queue pair holds: those beyond its reserve (R50). -/
def State.sharedOf (s : State) (q : Nat) : Nat :=
  match s.ownerOf q with
  | some e => s.inflightOf q - (s.host e).reserve
  | none => s.inflightOf q

/-- Sum of all reserves (R50). -/
def reserveSum (hosts : Tab HostEntry) : Nat :=
  (hosts.map fun e => if e.2.transport = 0 then 0 else e.2.reserve * ((List.range 16).filter fun q => e.2.queueMask.getLsbD q).length).sum

/-- Free credits of the shared pool (R50). -/
def State.sharedFree (s : State) : Nat := 256 - reserveSum s.mbx.hosts - ((List.range 16).map s.sharedOf).sum

/-- Free credits in total. -/
def State.creditsFree (s : State) : Nat := 256 - (s.mbx.inflight.filter fun c => decide (c.q < 16)).length

/-- A credit is free to a queue pair (R50). -/
def State.creditFor (s : State) (q : Nat) : Bool :=
  match s.ownerOf q with
  | none => false
  | some e =>
    let h := s.host e
    let used := (((List.range 16).filter fun p => h.queueMask.getLsbD p).map s.sharedOf).sum
    decide (s.inflightOf q < h.reserve) || (decide (used < h.sharedCap) && decide (0 < s.sharedFree))

/-- Depth of a queue pair (R48). -/
def State.depthOf (s : State) (q : Nat) : Nat := ((s.ownerOf q).map fun e => (s.host e).depth).getD 0

/-- CQ slots of a queue pair that are reserved by fetched commands or unconsumed (R49). -/
def State.cqUsed (s : State) (q : Nat) : Nat := (s.qp q).unconsumed + s.inflightOf q

/-- CQ_FULL: every CQ slot is reserved or unconsumed (R71). -/
def State.cqFull (s : State) (q : Nat) : Bool := decide (s.depthOf q ≤ s.cqUsed q) && (s.ownerOf q).isSome

/-- Keeps the time since which CQ_FULL has held (R523). -/
def State.noteFull (s : State) (q : Nat) : State :=
  if s.cqFull q then s.updQp q fun p => { p with fullSince := some (p.fullSince.getD s.now) }
  else s.updQp q fun p => { p with fullSince := none, stalled := false }

/-- The empty state of a queue pair: no descriptor, indices 0, phase 1; base addresses and IRQ_EN stay (R44, R71). -/
def QPair.emptied (p : QPair) : QPair :=
  { p with enable := false, ready := false, sqHead := 0, sqTail := 0, cqTail := 0, unconsumed := 0, phase := 1, sq := [], lastLink := none,
           linkStatus := 0, irqSince := none, fullSince := none, stalled := false }

/-- A queue pair of the PCIe transport that starts, with CQ phase 1 (R53, R71). -/
def QPair.started (p : QPair) : QPair := { p.emptied with enable := true, ready := true }

/-- A queue pair of an Ethernet host whose session opens: it runs, and the host-written ENABLE stays 0 (R71). -/
def QPair.opened (p : QPair) : QPair := { p.emptied with ready := true }

/-- What host loss does to one command of the lost host (R44): a waiting one ends with ST_ABORTED and an event wait ends, and both
give back their credit and CQ slot; a started one runs on, and its completion is discarded. -/
def loseCmd (c : InFlight) : Option InFlight :=
  if c.phase = .waiting then none
  else if c.desc.opcode = 0x0121 then none
  else some { c with discard := true }

/-- Host loss of an entry (R44): fetching stops, unstarted commands end with ST_ABORTED and no effect, completions are discarded,
the queue pairs return to the empty state, and source 32 is reported for each queue pair. -/
def State.loseHostOf (s : State) (e : Nat) (mask : BitVec 16) : State :=
  let qs := (List.range 16).filter fun q => mask.getLsbD q
  let t := { s with mbx := { s.mbx with
    inflight := s.mbx.inflight.filterMap fun (c : InFlight) => if c.entry = e then loseCmd c else some c } }
  let t := qs.foldl (fun u q => u.updQp q QPair.emptied) t
  let t := (t.updLive e fun l => { l with connected := false, port := 0, suite := none, loseAfter := [] }).dropKeys (768 + 2 * e)
  let t := { t with pt := { t.pt with subs := t.pt.subs.keep fun k _ => k / 16 != e } }
  qs.foldl (fun u q => u.report SRC_HOST_LOST q) t

/-- Host loss of an entry with its present queue pairs (R44). -/
def State.loseHost (s : State) (e : Nat) : State := s.loseHostOf e (s.host e).queueMask

end Sys2Proof.Machine
end

