-- ==== Sys2Proof/Machine/CanOps.lean ====
section
/-!
DEFINITION. What other blocks need of the CAN controllers (chapter 16): records, transmit entries, the timestamp counter.
-/
namespace Sys2Proof.Machine

/-! ### Records (R443, R444) -/

/-- A controller. -/
def State.canCtl (s : State) (k : Nat) : CanCtl := s.can.ctls.getD k {}
/-- Changes a controller. -/
def State.updCan (s : State) (k : Nat) (f : CanCtl → CanCtl) : State :=
  { s with can := { s.can with ctls := s.can.ctls.set k (f (s.canCtl k)) } }

def canMode (r : Rec) : Nat := fld r 0 1
def canFd (r : Rec) : Bool := bit (fld r 1 1) 0
def canPxhd (r : Rec) : Bool := bit (fld r 1 1) 1
def canNoRetx (r : Rec) : Bool := bit (fld r 1 1) 2
def canManual (r : Rec) : Bool := bit (fld r 1 1) 3
/-- RX_HOST; a record that was never written names none. -/
def canRxHost (r : Rec) : Nat := if r.isEmpty then 0xFF else fld r 2 1
/-- TIMING. -/
def canTiming (r : Rec) : Rec := (r.drop 4).take 12
/-- A candidate entry. -/
def canCand (r : Rec) (n : Nat) : Rec := (r.drop (32 + 12 * n)).take 12
/-- A filter. -/
def canFilter (r : Rec) (n : Nat) : Rec := (r.drop (128 + 12 * n)).take 12
/-- A filter is enabled. -/
def filterOn (f : Rec) : Bool := bit (fld f 8 1) 1
/-- An enabled filter of a record leads to Granite (R445). -/
def canGranite (r : Rec) : Bool := (List.range 32).any fun n => filterOn (canFilter r n) && fld (canFilter r n) 9 1 == 1

/-- A timing has a data phase. -/
def hasData (t : Rec) : Bool := fld t 5 1 != 0

/-! ### Transmit entries (R445, R448, R456) -/

/-- A pending entry: one of Granite, or one whose CAN_TX still runs. -/
def State.canPending (s : State) (e : CanTxEntry) : Bool := match e.uid with
  | none => true
  | some u => match s.cmd? u with
    | some c => c.phase == .running
    | none => false

/-- The pending entries of a controller. -/
def State.canTx (s : State) (k : Nat) : Tab CanTxEntry := (s.canCtl k).tx.keep fun _ e => s.canPending e

/-- Ends a CAN_TX: its unsent frames leave the controller (R456). -/
def State.canTxEnd (s : State) (k uid st : Nat) : State :=
  let n := ((s.canCtl k).cmds.get? uid).getD ⟨0, 0, 0⟩
  let t := s.updCan k fun x => { x with cmds := x.cmds.del uid, tx := x.tx.keep fun _ e => e.uid != some uid }
  match t.cmd? uid with
  | some c => t.endCmd uid st (pack [(1, n.sent), (1, n.failed)]) [] (if st = ST_OK then c.desc.data.length else 0) 0
  | none => t

/-- MBX_ABORT of a CAN_TX that has started removes its unsent frames; it ends with ST_ABORTED (R456; assumption 41). -/
def State.canAbort (s : State) (d : InFlight) : State :=
  if d.phase = .running ∧ d.desc.opcode = 0x0F02 then s.canTxEnd d.desc.object d.uid ST_ABORTED else s

/-- A telegram of Granite takes one of the transmit entries 28 to 31 (R445, R508); none is free: it is not sent. An identifier above
2,047 is one of 29 bits (assumption 42). -/
def State.canTelegram (s : State) (k id : Nat) (telegram : List Byte) : State :=
  match ((List.range 4).map (28 + ·)).find? fun n => ((s.canTx k).get? n).isNone with
  | none => s
  | some n =>
    let flags := (if 2047 < id then 1 else 0) + (if canFd (s.canCtl k).cfg then 2 else 0)
    let dlc := (([0, 1, 2, 3, 4, 5, 6, 7, 8, 12, 16, 20, 24, 32, 48, 64] : List Nat).findIdx fun l => decide (telegram.length ≤ l))
    s.updCan k fun x => { x with tx := x.tx.set n ⟨pack [(4, id), (1, flags), (1, dlc), (2, 0), (4, 0), (4, 0)] ++ padTo 64 telegram, none⟩ }

/-! ### Timestamps (R449) -/

/-- Counts of 25 ns from the counter's start to a moment that lies a time back. -/
def State.canTicksAt (s : State) (agoNs : Nat) : Nat := (s.now - agoNs - s.can.start) / 25
/-- Counts of 25 ns since the counter's start. -/
def State.canTicks (s : State) : Nat := s.canTicksAt 0
/-- The 32-bit counter. -/
def State.canCount (s : State) : Nat := s.canTicks % 2 ^ 32

/-- Wraps up to a moment that lies a time back, as the wrap count then stood. -/
def State.canWrapAt (s : State) (agoNs : Nat) : Nat := (s.can.wrap + 256 - (s.can.wraps - s.canTicksAt agoNs / 2 ^ 32) % 256) % 256

/-- The latch at the start of a site cycle. -/
def State.canLatch (s : State) : State :=
  { s with can := { s.can with latch := s.canCount, latchWrap := s.can.wrap, latchAt := s.sysTime } }

end Sys2Proof.Machine
end

