-- ==== Sys2Proof/Machine/WorkOps.lean ====
section
/-!
DEFINITION. Work leave (R118 to R120), commands carried out on both modules of a pair (R92, R373), and the parameter layers that
several chapters read (R77).
-/
namespace Sys2Proof.Machine

/-! ### Work leave -/

/-- Asks for work leave: kind 0 HOLDUP in mJ, 1 BULK in MB/s. A BULK rate above the budget is taken as the whole budget (R118). -/
def State.askWork (s : State) (kind : Nat) (island : Bool) (amount : Nat) (what : WorkFor) : State :=
  let a := if kind = 1 then min amount (s.pn PAR_LV_WORK_BULK_MBS) else amount
  { s with lv := { s.lv with workWait := s.lv.workWait ++ [⟨s.lv.nextWork, kind, island, a, what⟩], nextWork := s.lv.nextWork + 1 } }

/-- An island's or the application complex's HOLDUP request: 30 mJ (R118). -/
def State.askHoldup (s : State) (island : Bool) (what : WorkFor) : State := s.askWork 0 island 30 what

/-- Withdraws the waiting requests of an operation. -/
def State.dropWork (s : State) (what : WorkFor) : State :=
  { s with lv := { s.lv with workWait := s.lv.workWait.filter fun w => w.what != what } }

/-- Ends the grants of an operation: their leave returns to the budget (R118). -/
def State.endWork (s : State) (what : WorkFor) : State :=
  { s with lv := { s.lv with workGrant := s.lv.workGrant.filter fun w => w.what != what } }

/-- An operation holds a grant. -/
def State.hasGrant (s : State) (what : WorkFor) : Bool := s.lv.workGrant.any fun w => w.what == what

/-- A request of an operation waits. -/
def State.awaits (s : State) (what : WorkFor) : Bool := s.lv.workWait.any fun w => w.what == what

/-- Free budget of a kind: 120 mJ of HOLDUP, LV_WORK_BULK_MBS of BULK (R118). -/
def State.workFree (s : State) (kind : Nat) : Nat :=
  (if kind = 0 then 120 else s.pn PAR_LV_WORK_BULK_MBS) - ((s.lv.workGrant.filter fun w => w.kind == kind).map Work.amount).sum

/-- The request that may be granted next (R120): the oldest island request of the kind, or, with none waiting, the oldest of the
application complex; when it fits the free budget and one of the 64 slots is free. -/
def State.nextWorkReq (s : State) (kind : Nat) : Option Work :=
  let l := s.lv.workWait.filter fun w => w.kind == kind
  let w := match l.find? fun w => w.island with
    | some w => some w
    | none => l.head?
  w.filter fun w => decide (w.amount ≤ s.workFree kind) && decide (s.lv.workGrant.length < 64) && !s.lv.workHold

/-- The gauge domain's store of CAN3's timing has no leave after 2 s, the limit of the islands' stores (R76): it fails, the gauge keeps the earlier timing, and
the CAN fault source is raised (R453). -/
def State.canTimingLate (s : State) : State := match s.can.gaugeWanted with
  | some (_, t) =>
    if s.awaits .canTiming ∧ t + 2 * sec ≤ s.now then
      (({ s with can := { s.can with gaugeWanted := none } }).dropWork .canTiming).report SRC_CAN_TIMING 0
    else s
  | none => s

/-! ### Commands carried out on both modules -/

/-- The pseudo queue pair of commands that the partner forwards to this module's islands and NVM (R373). -/
def PARTNER_Q : Nat := 16

/-- Ends a command that the standby carries out too (R92, R373): on the active module of a synchronised pair it is forwarded, with what a store brings, and
its completion waits for the standby's status, at most `wait` ns (0: without a limit, R92); otherwise PARTNER_STATUS is 0xFF. -/
def State.okForwarded (s : State) (c : InFlight) (result : List Byte) (off wait : Nat) (store : Option MirrorStore) : State :=
  if s.isActive ∧ s.isPaired ∧ c.q ≠ PARTNER_Q then
    (s.emit (.partnerRequest c.uid c.desc store)) |> fun t =>
      { t with mbx := { t.mbx with inflight := updCmds t.mbx.inflight c.uid fun d =>
          { d with result := padTo 16 result, partner := some off, deadline := if wait = 0 then 0 else t.now + wait } } }
  else s.ok c (putFld (padTo 16 result) (off - 16) 1 0xFF)

/-- Ends a command that the standby carries out from the descriptor alone. -/
def State.okMirrored (s : State) (c : InFlight) (result : List Byte) (off wait : Nat) : State := s.okForwarded c result off wait none

/-- Ends the wait for the standby's status (R92, R373). -/
def State.partnerDone (s : State) (c : InFlight) (status : Nat) : State :=
  match c.partner with
  | some off => s.ok { c with partner := none } (putFld c.result (off - 16) 1 status)
  | none => s

/-- An island stores a value (R76). -/
def State.setIsland (s : State) (id : Nat) (v : Int) : State :=
  { s with par := { s.par with island := s.par.island.put id (if v = parDefault id then none else some v) } }

/-! ### Parameter layers (R77) -/

/-- A user slot. -/
def State.slot (s : State) (n : Nat) : Slot := if n = 0 then s.par.slotA else s.par.slotB
/-- Writes a user slot. -/
def State.setSlot (s : State) (n : Nat) (x : Slot) : State :=
  if n = 0 then { s with par := { s.par with slotA := x } } else { s with par := { s.par with slotB := x } }

/-- The value that the active user image holds for an entry. -/
def State.imageVal (s : State) (id : Nat) : Option Int := match s.par.active with
  | some n => (s.slot n).records.get? id
  | none => none

/-- The effective value of an entry: live layer, active image, factory image (R77). -/
def State.effective (s : State) (id : Nat) : Int :=
  match s.par.live.get? id with
  | some v => v
  | none => (s.imageVal id).getD (parDefault id)

/-- A running value written, kept only where it differs from the factory value. -/
def State.setRunning (s : State) (id : Nat) (v : Int) : State :=
  { s with par := { s.par with running := s.par.running.put id (if v = parDefault id then none else some v) } }

/-- A STOPPED entry whose unit runs (R77, R200): BAS_SITE_FS_KW while a site instance drives. -/
def State.unitRuns (s : State) (id : Nat) : Bool :=
  id == PAR_BAS_SITE_FS_KW && s.bas.insts.any fun e => drives e.2 && coefNode (s.coef e.1) == 0

/-- An entry that takes a new effective value at a site cycle: RUN, and STOPPED while its unit stands (R77). -/
def State.latches (s : State) (e : ParEntry) : Bool := !e.isIsland && (e.apply == 0 || (e.apply == 2 && !s.unitRuns e.id))

/-- The RUN entries take their effective values: at each site cycle (R77). -/
def State.latchRun (s : State) : State :=
  dictionary.foldl (fun (t : State) e => if t.latches e then t.setRunning e.id (t.effective e.id) else t) s

/-- Every entry takes its effective value: at a start of the module (R77), which keeps the slot that a BOOT entry's value came from (R87). -/
def State.latchBoot (s : State) : State :=
  let t := dictionary.foldl (fun (t : State) e => if e.isIsland then t else t.setRunning e.id (t.effective e.id)) s
  let src : Tab Nat := match s.par.active with
    | some n => ((s.slot n).records.keep fun id _ => ((parEntry id).map fun e => e.apply == 1) == some true).mapV fun _ _ => 2 + n
    | none => []
  { t with par := { t.par with runSrc := src } }

/-- The image tables as they stand (R82, R90). -/
def State.currentTables (s : State) : ImgTables :=
  { hosts := s.mbx.hosts, capmaps := s.lv.capmaps, shares := s.lv.shares, nodes := s.ring.plans, coeffs := s.bas.coeffs,
    cabinets := s.stg.cabinets, circuits := s.cool.recs, outlets := s.ses.recs, overrides := s.pt.overrides.vals,
    plcMask := leBytes 136 (s.plc.maskNext.getD s.plc.mask).toNat, can := s.can.ctls.mapV fun _ x => x.cfg,
    reactions := s.flt.reactions }

/-- The image records a store takes (R90): of every storable entry the live value if one is set, else the active image's value,
without those equal to the default. -/
def State.snapshotRecords (s : State) : Tab Int :=
  dictionary.foldl (fun (t : Tab Int) e =>
    if e.storable then (if s.effective e.id = e.dflt then t else t.set e.id (s.effective e.id)) else t) []

end Sys2Proof.Machine
end

