-- ==== Sys2Proof/Machine/PairOps.lean ====
section
/-!
DEFINITION. What other blocks ask of the pair: a partner configured, what the pair link says of the partner's leases, and giving up
control (R64, R545, R546).
-/
namespace Sys2Proof.Machine

/-- A partner is configured: Obsidian holds a slot with PAIR_PEER (R540, R474). -/
def State.partnerConfigured (s : State) : Bool := s.obs.slots.any fun e => decide (e.1 < 256) && bit e.2.uses 13

/-- What the pair link shows of the partner: nothing while it is down or the pair checks fail (R540, R542). -/
def State.partnerSeen (s : State) : Option PartnerStatus := if s.pair.sync = SYNC_DOWN ∨ s.pair.mismatch ≠ 0 then none else s.pair.partner

/-- The pair link is up and the partner reports no node held (R116). -/
def State.partnerHoldsNone (s : State) : Bool := (s.partnerSeen.map fun p => p.held == 0) == some true

/-- The partner is seen in a role. -/
def State.partnerIs (s : State) (role : Nat) : Bool := (s.partnerSeen.map fun p => p.role == role) == some true

/-- This module holds the anchor node (R159). -/
def State.holdsAnchor (s : State) : Bool := s.ring.plans.any fun e => bit (fld e.2 23 1) 0 && s.holds e.1

/-- Whether a source's bit is set. -/
def State.srcSet (s : State) (k : Nat) : Bool := (s.flt.src.getD k {}).set

/-- Rows 1 to 6 of R545 as conditions of this module alone: the application watchdog, an uncorrectable DRAM error, Granite's safe state or halt,
TAMPERED, both rings DOWN, and the power-fail warning. -/
def State.trigger (s : State) (row : Nat) : Bool :=
  match row with
  | 1 => s.pair.outCause == 1
  | 2 => s.srcSet SRC_DRAM_UE
  | 3 => s.grn.safeState || s.grn.halted
  | 4 => s.obs.lifecycle == 4
  | 5 => s.ring.stateA == 3 && s.ring.stateB == 3
  | 6 => s.sys.pfw
  | _ => false

/-- A trigger is in force (R542). -/
def State.triggered (s : State) : Bool := [1, 2, 3, 4, 5, 6].any s.trigger

/-- The self-test of R551 passes: Obsidian is ready with its keys, and no output, check value or DRAM fault stands (DEDUCED, assumption 47). -/
def State.selfTest (s : State) : Bool :=
  s.obs.ready && !s.obs.zeroised && !s.srcSet SRC_GRN_OUTPUT && !s.srcSet SRC_MET_CHECK && !s.srcSet SRC_DRAM_UE

/-- A synchronised partner without a trigger of its own (R545). -/
def State.partnerReady (s : State) : Bool := s.isPaired && (s.partnerSeen.map fun p => !p.trigger) == some true

/-- STATUS goes to the partner each site cycle while X5 has block lock (R542). -/
def State.sendStatus (s : State) : State :=
  if s.pair.link then
    s.emit (.pairStatus s.pair.role s.heldCount s.holdsAnchor s.ring.stateA s.ring.stateB s.sys.pfw s.selfTest s.triggered s.ring.epoch s.lv.h s.pair.healSeen)
  else s

/-- What giving up the lease does to one command in flight (R64). A PAIR_SWITCHOVER that has started, which the give-up carries out, runs on (R564). -/
def giveUpCmd (acked : Nat) (c : InFlight) : InFlight :=
  let stop (st : Nat) : InFlight := { c with phase := .done, status := st, result := padTo 16 [], data := [], dataDone := 0, image := 0 }
  match c.phase with
  | .waiting => stop ST_NOT_ACTIVE
  | .running => if c.desc.opcode = 0x1301 ∨ readOnlyOps.contains c.desc.opcode then c else stop ST_ABORTED
  | .done => if c.image ≠ 0 ∧ acked < c.image ∧ c.desc.opcode ≠ 0x1301 then stop ST_ABORTED else c

/-- The commands in flight of a module that gives up the lease end (R64). -/
def State.giveUpCmds (s : State) : State :=
  { s with mbx := { s.mbx with inflight := s.mbx.inflight.map (giveUpCmd s.pair.imgAcked) } }

/-- The command of a serial number has ended. -/
def State.ended (s : State) (uid : Nat) : Bool := (s.cmd? uid).any fun c => c.phase == .done

/-- The command that a wait of an instance belongs to. -/
def BasWait.uid? : BasWait → Option Nat
  | .arm _ u _ => u
  | .freeze u => u
  | .release u => u
  | .disarm u => u
  | .take _ u => u

/-- The work of an operation belongs to a command that has ended. -/
def State.workEnded (s : State) : WorkFor → Bool
  | .parIsland u => s.ended u
  | .metStore u => s.ended u
  | .gauStore u => s.ended u
  | .obsStore u => s.ended u
  | .fwStore u => s.ended u
  | _ => false

/-- A command that ends with ST_ABORTED has no effect (R60): what it still had to do is dropped. A store of a user slot runs on (R93). -/
def State.dropEnded (s : State) : State :=
  let on (u : Option Nat) : Bool := !(u.any s.ended)
  { s with
    par := { s.par with islandWait := s.par.islandWait.filter fun w => !s.ended w.1 }
    obs := { s.obs with work := s.obs.work.filter fun w => !s.ended w.uid }
    met := { s.met with stores := s.met.stores.filter fun w => !s.ended w.1, apply := s.met.apply.filter fun w => !s.ended w.1 }
    bil := { s.bil with clockSets := s.bil.clockSets.filter fun w => !s.ended w.1 }
    sys := { s.sys with activate := s.sys.activate.filter fun w => !s.ended w.1 }
    ring := { s.ring with scan := s.ring.scan.filter fun w => !s.ended w.uid }
    tune := { s.tune with gens := s.tune.gens.keep fun _ g => on g.uid }
    bas := { s.bas with refWait := s.bas.refWait.filter fun w => on w.1, repWait := s.bas.repWait.filter fun w => !s.ended w.1, insts := s.bas.insts.mapV fun _ x => { x with wait := x.wait.filter fun w => on w.2.uid? } }
    lv := { s.lv with arrivals := s.lv.arrivals.filter fun r => on r.uid, gridIn := s.lv.gridIn.filter fun e => !s.ended e.1,
                      workWait := s.lv.workWait.filter fun w => !s.workEnded w.what, workGrant := s.lv.workGrant.filter fun w => !s.workEnded w.what } }

/-- The commands in flight end as the module gives up the lease (R64), those that fail without an effect (R60). -/
def State.endCommands (s : State) : State := s.giveUpCmds.dropEnded

/-- The module has begun to give up the lease: a command not yet started ends with ST_NOT_ACTIVE (R64). -/
def State.endWaiting (s : State) : State :=
  { s with mbx := { s.mbx with inflight := s.mbx.inflight.map fun (c : InFlight) => if c.phase = .waiting then giveUpCmd 0 c else c } }

/-- A release waits no longer for its final image: the commands in flight end (R64). -/
def State.dropFinal (s : State) : State :=
  let t := if s.pair.role = ROLE_RELEASING ∧ (s.pair.finalWanted ∨ s.pair.finalImage.isSome) then s.endCommands else s
  { t with pair := { t.pair with finalWanted := false, finalImage := none } }

/-- The role a row of R545 leads to. -/
def roleAfterOf (row : Nat) : Nat := if row ≤ 4 then ROLE_OUT else ROLE_STANDBY

/-- A reset becomes due (R576): kind 0 cold, 1 application. A cold reset that is due no later stands, since it restarts all that the other does (R575). -/
def State.resetAt (s : State) (kind cause at' : Nat) : State :=
  let stands : Bool := match s.sys.resetDue with
    | some (0, _, t) => kind == 1 || decide (t ≤ at')
    | _ => false
  if stands then s else { s with sys := { s.sys with resetDue := some (kind, cause, at') } }

/-- The module starts its release (R546): the RELEASE message and headers follow in its next ring cycles. -/
def State.beginRelease (s : State) (row : Nat) : State :=
  let t := s.endCommands
  { t with pair := { t.pair with role := ROLE_RELEASING, roleAfter := roleAfterOf row, releaseLeft := 3, finalImage := none,
                                 finalWanted := false, releaseAt := none } }

/-! ### Synchronisation (R549) -/

/-- A tunnel message goes to the dispenser node of an outlet with the next SEQ of its direction (R277). -/
def State.tunnel (s : State) (o : Nat) (m : TunnelMsg) : State :=
  let l := s.ses.outlets.getD o {}
  ({ s with ses := { s.ses with outlets := s.ses.outlets.set o { l with txSeq := (l.txSeq + 1) % 65536 } } }).emit (.tunnel o l.txSeq m)

/-- Of the TCP segments that wait, those of images up to a number go out (R294). -/
def State.releaseTx (s : State) (upTo : Nat) : State :=
  (s.ses.txWait.filter fun e => decide (e.1 ≤ upTo)).foldl (fun (t : State) e => t.tunnel e.2.1 e.2.2)
    { s with ses := { s.ses with txWait := s.ses.txWait.filter fun e => !decide (e.1 ≤ upTo) } }

/-- Completes every command that still waits for the partner's status, with PARTNER_STATUS 0xFF, and releases the responses to vehicles
that wait for an image (R62, R92, R294, R373): without a synchronised standby nothing waits. -/
def State.unpair (s : State) : State :=
  let t := s.releaseTx ((s.ses.txWait.map Prod.fst).foldl max 0)
  t.mbx.inflight.foldl (fun (u : State) c => if c.partner.isSome ∧ c.phase = .running then u.partnerDone c 0xFF else u) t

/-- The synchronisation state changes. LOCKSTEP is in force while a pair in lockstep mode is SYNCHRONISED and not split (R553, R560). A
full image begins with SYNCING; its number of segments is open, at most 2,000 in the 2 s of R549. -/
def State.setSync (s : State) (v : Nat) : State :=
  let f := s.draw
  let t := if v = SYNC_SYNCING ∧ s.pair.sync ≠ SYNC_SYNCING then { f.2 with pair := { f.2.pair with fullLeft := 1 + f.1 % 1999, fullOf := 1 + f.1 % 1999 } } else s
  let t := if s.pair.sync = SYNC_SYNCHRONISED ∧ v ≠ SYNC_SYNCHRONISED then t.unpair else t
  let t := { t with pair := { t.pair with sync := v, lockstep := v == SYNC_SYNCHRONISED && t.pn PAR_PAIR_MODE == 1 && !t.pair.split } }
  if v = SYNC_SYNCHRONISED ∧ s.pair.sync ≠ SYNC_SYNCHRONISED then t.raise 0x13 0x0002 0 else t

/-- Changes the pair. -/
def State.updPair (s : State) (f : Pair → Pair) : State := { s with pair := f s.pair }

/-! ### Forming (R540, R549) -/

/-- The firmware slot n. -/
def State.fw (s : State) (n : Nat) : FwSlot := if n = 0 then s.sys.f0 else s.sys.f1

/-- PROTO of the running bundle (R540). -/
def State.proto (s : State) : Nat := match s.sys.fwActive with
  | some n => (s.fw n).proto
  | none => 0

/-- The first check of R540 that fails, 0 for none; check 6 fails when the pair key could not be agreed (R474). -/
def State.pairCause (s : State) (p : PartnerStatus) (noKey : Bool) : Nat :=
  if p.metOption ≠ s.sys.metOption.toNat then 1
  else if p.position = s.pn PAR_PAIR_POSITION then 2
  else if p.mode ≠ s.pn PAR_PAIR_MODE then 3
  else if p.proto ≠ s.proto then 4
  else if ¬(p.namesUs ∧ p.named) then 5
  else if noKey then 6 else 0

/-- The checks of R540: a failing one is recorded and raises PAIR_MISMATCH; with the pair key in force and none failing the pair forms, and the full
image begins. -/
def State.pairChecks (s : State) (noKey : Bool) : State :=
  match s.pair.partner with
  | none => s
  | some p =>
    let c := s.pairCause p noKey
    let t := s.updPair fun x => { x with sync := SYNC_FORMING, mismatch := c, checkedAt := s.now }
    if c ≠ 0 then (if c = 1 then t.report SRC_PAIR_MISMATCH 0 else t).raise 0x13 0x0006 c
    else if t.obs.pairKeyed then (t.raise 0x13 0x0001 p.position).setSync SYNC_SYNCING else t

/-- A self-diagnosis trigger of R545 gives up control: an active module releases; a standby goes OUT where the row says so, and a
module that starts does so when its start-up is complete. -/
def State.giveUp (s : State) (row : Nat) : State :=
  let t := if row ≤ 4 then { s with pair := { s.pair with outCause := row } } else s
  if t.pair.role = ROLE_ACTIVE then (t.beginRelease row).raise 0x13 0x0005 row
  else if t.pair.role = ROLE_RELEASING ∧ row ≤ 4 then { t with pair := { t.pair with roleAfter := ROLE_OUT } }
  else if t.pair.role = ROLE_STANDBY ∧ row ≤ 4 then { t with pair := { t.pair with role := ROLE_OUT } }
  else t

end Sys2Proof.Machine
end

