-- ==== Sys2Proof/Machine/Leave.lean ====
section
/-!
DEFINITION. The power leave arbiter (chapter 04): the envelope, the ledger, decisions, reclaim, caps and the leave commands. The
arbiter's microsecond itself is in Arbiter.lean.
-/
namespace Sys2Proof.Machine

/-! ### Cap maps (R128) -/

/-- The entries of a cap map in use: node, output and share. -/
def capEntries (r : Rec) : List (Nat × Nat × Nat) :=
  (List.range (min 8 (fld r 0 1))).map fun j => (fld r (8 + 8 * j) 2, fld r (10 + 8 * j) 1, fld r (12 + 8 * j) 2)

/-- KIND of a cap map: 0 outlet, 1 buffer charging, 2 host load. -/
def capKind (r : Rec) : Nat := fld r 1 1
/-- MAX_KW of a cap map. -/
def capMaxKw (r : Rec) : Nat := fld r 4 4

/-- The cap map of a consumer, empty where none is set. -/
def State.capmap (s : State) (consumer : Nat) : Rec := s.lv.capmaps.getD consumer []

/-- What a cap map gives a node output of a grant: GRANT_KW x SHARE / 1000, rounded down (R113). -/
def capOf (r : Rec) (kw node output : Nat) : Nat :=
  ((capEntries r).map fun e => if e.1 = node ∧ e.2.1 = output then kw * e.2.2 / 1000 else 0).sum

/-- The caps that node outputs hold. -/
def heldCaps (l : List CapOut) : Nat := (l.map CapOut.heldKw).sum
/-- CAP_KW: the sum of the caps in force at the nodes of a slot (R107, R126). -/
def LvSlot.capKw (x : LvSlot) : Nat := heldCaps x.outs
/-- The caps that the nodes of a released consumer still hold (R107). -/
def Residue.capKw (x : Residue) : Nat := heldCaps x.outs

/-- Consumers whose cap map names a node output. -/
def State.consumersOf (s : State) (node output : Nat) : List Nat :=
  (s.lv.capmaps.keep fun _ r => (capEntries r).any fun e => e.1 == node && e.2.1 == output).keys

/-! ### Capability of a cabinet (R224, R243) -/

/-- A converter entry of a cabinet record: role, output, phases, instance, rating and first phase index within its stage. -/
structure Conv where
  role : Nat
  output : Nat
  phases : Nat
  inst : Nat
  ratingKw : Nat
  iPhaseDa : Nat
  weight : Nat
  deriving DecidableEq, Repr

/-- The converter entries in use of a cabinet record. -/
def convs (r : Rec) : List Conv :=
  (List.range (min 16 (fld r 2 1))).map fun n =>
    let o := 32 + 12 * n
    ⟨fld r o 1, fld r (o + 1) 1, fld r (o + 2) 1, fld r (o + 4) 2, fld r (o + 6) 2, fld r (o + 8) 2, fld r (o + 10) 2⟩

/-- The stage index of a converter: 0 for the input side, output + 1 otherwise (R222). -/
def Conv.stage (c : Conv) : Nat := if c.role = 1 ∨ c.role = 3 then 0 else c.output + 1

/-- The converters of a stage, in record order, each with the index of its first phase within the stage (R250). -/
def stageConvs (r : Rec) (stage : Nat) : List (Conv × Nat) :=
  ((convs r).filter fun c => c.role != 0 && c.stage == stage).foldl
    (fun (acc : List (Conv × Nat)) c => acc ++ [(c, (acc.map fun e => e.1.phases).sum)]) []

/-- Active phases of a converter whose first phase has an index within its stage. -/
def activePhases (fenced : BitVec 96) (c : Conv) (first : Nat) : Nat :=
  ((List.range c.phases).filter fun j => !fenced.getLsbD (first + j)).length

/-- Sum of the capabilities of a stage's converters, as a numerator over 60: every PHASES from 1 to 6 divides 60 (R243). -/
def State.stageCap60 (s : State) (node stage : Nat) : Nat :=
  let f := (s.stage (stageObj node stage)).fenced
  ((stageConvs (s.stg.cabinets.getD node []) stage).map fun e =>
    e.1.ratingKw * activePhases f e.1 e.2 * (60 / max 1 e.1.phases)).sum

/-- Sum of the ratings of a stage's converters. -/
def State.stageRating (s : State) (node stage : Nat) : Nat :=
  ((stageConvs (s.stg.cabinets.getD node []) stage).map fun e => e.1.ratingKw).sum

/-- R_all: the ratings of the output-side converters over all outputs (R243). -/
def State.outRating (s : State) (node : Nat) : Nat := ((List.range 8).map fun o => s.stageRating node (o + 1)).sum

/-- C of a node output as a numerator and a denominator in kW (R243). -/
def State.capability (s : State) (node output : Nat) : Nat × Nat :=
  let out := s.stageCap60 node (output + 1)
  let cin := s.stageCap60 node 0 * s.stageRating node (output + 1)
  let den := max 1 (s.outRating node)
  if out * den ≤ cin then (out, 60) else (cin, 60 * den)

/-- C of a stage in kW, rounded down: C_in for stage 0 (R250). -/
def State.stageKw (s : State) (node stage : Nat) : Nat :=
  if stage = 0 then s.stageCap60 node 0 / 60 else (s.capability node (stage - 1)).1 / (s.capability node (stage - 1)).2

/-- The stage-capability limit of a consumer: the smallest over its cap map of C x 1000 / SHARE, rounded down; none where no
entry's node has a cabinet record with that output (R243). -/
def State.stageLimitOf (s : State) (consumer : Nat) : Option Nat :=
  (capEntries (s.capmap consumer)).foldl (fun (acc : Option Nat) e =>
    if e.2.2 = 0 ∨ s.stageRating e.1 (e.2.1 + 1) = 0 then acc
    else
      let c := s.capability e.1 e.2.1
      let k := c.1 * 1000 / (c.2 * e.2.2)
      some (match acc with
        | none => k
        | some a => min a k)) none

/-- The limit of a consumer: the smaller of the cooling limit and the stage-capability limit (R106, R108). -/
def State.limitOf (s : State) (consumer : Nat) : Option Nat :=
  match s.lv.coolLimit.get? consumer, s.stageLimitOf consumer with
  | some a, some b => some (min a b)
  | some a, none => some a
  | none, b => b

/-! ### The envelope (R101, R115, R116) -/

/-- D: the setpoint in force, or the fallback. -/
def State.lvD (s : State) : Nat := s.lv.setpoint.getD (s.pn PAR_LV_FALLBACK_KW)

/-- H in per mille (R116). -/
def State.lvH (s : State) : Nat :=
  if s.hasLease = false then 0
  else if s.partnerConfigured = false ∨ s.partnerHoldsNone then 1000
  else ((s.ring.nodes.filter fun e => e.2.leased).map fun e => s.lv.shares.getD e.1 0).sum

/-- G, for an H. -/
def State.lvG (s : State) (h : Nat) : Nat := min (s.pn PAR_LV_CONTRACT_KW) s.lvD * h / 1000 - s.pn PAR_LV_AUX_KW

/-- The buffer cabinet nodes: those that a string record names (R382). -/
def State.bufferNodes (s : State) : List Nat := (s.gau.strings.vals.map fun g => fld g.cfg 8 2).eraseDups

/-- The held and unfenced buffer cabinet nodes (R101, R116). -/
def State.heldBuffers (s : State) : List Nat := s.bufferNodes.filter fun n => s.holds n && (s.node n).state != 4

/-- The rating of a cabinet node: the power that both its sides can carry, by the ratings of its converters (R224). -/
def State.nodeRating (s : State) (n : Nat) : Nat := min (s.stageRating n 0) (s.outRating n)

/-- The bound of P that is not A's: the ratings and LV_BUF_MAX_KW. -/
def State.lvPOther (s : State) : Nat := min ((s.heldBuffers.map s.nodeRating).sum) (s.pn PAR_LV_BUF_MAX_KW)

/-- The bound of P that A sets. -/
def State.lvPByA (s : State) : Nat := s.lv.availKwh * 60 / max 1 (s.pn PAR_LV_BUF_HORIZON_MIN)

/-- P of R101. -/
def State.lvPRaw (s : State) : Nat := min s.lvPOther s.lvPByA

/-- P, bounded while R115 acts. -/
def State.lvP (s : State) : Nat := match s.lv.pBound with
  | some b => min s.lvPRaw b
  | none => s.lvPRaw

/-- S: every slot at the larger of its grant and the cap its nodes hold, and the caps of released consumers (R101, R107). -/
def State.lvS (s : State) : Nat :=
  (s.lv.slots.vals.map fun x => max x.grantKw x.capKw).sum + (s.lv.residue.map Residue.capKw).sum

/-- B for a P. -/
def State.lvB (s : State) (g p : Nat) : Nat := min p (s.lvS - min g (s.pn PAR_LV_IMPORT_TARGET_KW))

/-- Recomputes the terms (R101) and raises LV_PARTITION and LV_BUF_LIMIT (R131). -/
def State.lvTerms (s : State) : State :=
  let h := s.lvH
  let g := s.lvG h
  let p := s.lvP
  let lim := decide (s.lvPByA < s.lvPOther)
  let t := { s with lv := { s.lv with d := s.lvD, h := h, g := g, p := p, e := min (g + p) 200000, sum := s.lvS, b := s.lvB g p,
                                       bufLimited := lim } }
  let t := if (h == 1000) != (s.lv.h == 1000) then t.raise 0x03 0x0005 h else t
  if lim && !s.lv.bufLimited then t.raise 0x03 0x0006 p else t

/-! ### Reclaim (R110 to R112) -/

/-- Pending reductions of a slot. -/
def LvSlot.pendingKw (x : LvSlot) : Nat := (x.pending.map Reduction.kw).sum

/-- All pending reductions. -/
def State.pendingKw (s : State) : Nat := (s.lv.slots.vals.map LvSlot.pendingKw).sum

/-- T: the leave in transit (R111). -/
def State.transitKw (s : State) : Nat :=
  (s.lv.slots.vals.map fun x => x.capKw - x.grantKw).sum + (s.lv.residue.map Residue.capKw).sum

/-- What a slot can give to a reclaim: in pass 0 its leave above MIN_KW, in pass 1 the rest, reductions taken off. -/
def LvSlot.giveable (x : LvSlot) (pass taken : Nat) : Nat :=
  let left := x.grantKw - x.pendingKw - taken
  if pass = 0 then left - x.minKw else left

/-- The slots of a class that hold leave. -/
def State.classSlots (s : State) (cls : Nat) : List (Nat × LvSlot) :=
  s.lv.slots.filter fun e => e.2.cls == cls && (e.2.state == 1 || e.2.state == 3)

/-- One class of one pass of R110: what is left of the excess, and what each slot has given so far. -/
def State.reclaimClass (s : State) (pass cls : Nat) (acc : Nat × Tab Nat) : Nat × Tab Nat :=
  let l := s.classSlots cls
  let give (e : Nat × LvSlot) := e.2.giveable pass (acc.2.getD e.1 0)
  let total := (l.map give).sum
  let take := min acc.1 total
  (acc.1 - take, l.foldl (fun (t : Tab Nat) e =>
    let k := ceilDiv (take * give e) total
    if k = 0 then t else t.set e.1 (t.getD e.1 0 + k)) acc.2)

/-- The reductions of an excess, by slot: classes 0 to 7 above MIN_KW, then classes 0 to 7 in the MIN_KW amounts (R110). -/
def State.reclaimPlan (s : State) (excess : Nat) : Tab Nat :=
  ((List.range 8).foldl (fun a c => s.reclaimClass 1 c a) ((List.range 8).foldl (fun a c => s.reclaimClass 0 c a) (excess, []))).2

/-- The notice of a class in ms. -/
def State.noticeMs (s : State) (cls : Nat) : Nat := s.pn (PAR_LV_NOTICE_MS_C0 + cls)

/-- Makes an excess pending (R110); `notice` replaces the classes' notices (R115). A generator on a node of such a slot stops (R211). -/
def State.reclaim (s : State) (excess : Nat) (notice : Option Nat) : State :=
  let plan := s.reclaimPlan excess
  let t := plan.foldl (fun (t : State) e =>
    { t with lv := { t.lv with slots := t.lv.slots.upd e.1 fun x =>
        { x with state := 3, pending := x.pending ++ [{ kw := e.2, noticeMs := notice.getD (s.noticeMs x.cls) }] } } }) s
  let names (n : Nat) (e : Nat × Nat) : Bool := ((s.lv.slots.get? e.1).toList.flatMap fun x => capEntries (s.capmap x.consumer)).any fun x => x.1 == n
  t.genLatch (fun n => plan.any (names n)) 5

/-- Takes an amount off a slot's pending reductions, the newest first (R111). -/
def cancelNewest : Nat → List Reduction → List Reduction
  | _, [] => []
  | n, r :: rs => if n < r.kw then { r with kw := r.kw - n } :: rs else cancelNewest (n - r.kw) rs

/-- A slot whose pending reductions are lowered. -/
def LvSlot.cancel (x : LvSlot) (n : Nat) : LvSlot :=
  let l := (cancelNewest n x.pending.reverse).reverse
  { x with pending := l, state := if l.isEmpty then 1 else x.state }

/-- The kW left over by rounding, one at a time to the slots of a class in ascending number. -/
def spread : Nat → List (Nat × Nat × Nat) → List (Nat × Nat)
  | _, [] => []
  | left, (slot, share, p) :: l =>
    if 0 < left ∧ share < p then (slot, share + 1) :: spread (left - 1) l else (slot, share) :: spread left l

/-- Cancels an amount in one class (R111). -/
def State.cancelClass (cls : Nat) (acc : Nat × State) : Nat × State :=
  let s := acc.2
  let l := (s.classSlots cls).filter fun e => !e.2.pending.isEmpty
  let total := (l.map fun e => e.2.pendingKw).sum
  let take := min acc.1 total
  let shares := l.map fun e => (e.1, take * e.2.pendingKw / max 1 total, e.2.pendingKw)
  let left := take - (shares.map fun e => e.2.1).sum
  (acc.1 - take, (spread left shares).foldl (fun (t : State) e =>
    { t with lv := { t.lv with slots := t.lv.slots.upd e.1 fun x => x.cancel e.2 } }) s)

/-- Cancels reductions, highest class first (R111). -/
def State.cancelReclaim (s : State) (n : Nat) : State :=
  let t := ((List.range 8).reverse.foldl (fun a c => State.cancelClass c a) (n, s)).2
  if t.pendingKw = 0 then { t with lv := { t.lv with cancelled := true } } else t

/-- The comparison of each recomputation (R110, R111). Leave in transit keeps a new reduction from being made, with a reclaim
pending or not (DEDUCED, assumption 11). -/
def State.settle (s : State) (notice : Option Nat) : State :=
  let s := s.lvTerms
  let need := s.lv.sum - s.lv.e
  let r := s.pendingKw
  if need < r then s.cancelReclaim (r - need)
  else if r + s.transitKw < need then s.reclaim (need - r - s.transitKw) notice
  else s

/-! ### The ledger (R104) -/

/-- The slot of a consumer. -/
def State.slotOf (s : State) (consumer : Nat) : Option (Nat × LvSlot) := s.lv.slots.find? fun e => e.2.consumer == consumer

/-- Changes a ledger slot. -/
def State.updLv (s : State) (slot : Nat) (f : LvSlot → LvSlot) : State :=
  { s with lv := { s.lv with slots := s.lv.slots.upd slot f } }

/-- A slot's grant lowered at once: pending reductions of the slot go (R106, R112). -/
def LvSlot.lowered (x : LvSlot) (kw : Nat) : LvSlot := { x with grantKw := kw, pending := [], state := 1 }

/-- Frees a slot; the caps that its nodes still hold stay in S until they hold lower ones (R107). -/
def State.freeSlot (s : State) (slot : Nat) : State :=
  match s.lv.slots.get? slot with
  | none => s
  | some x =>
    let left := if x.outs.all fun o => o.heldKw == 0 && o.sentKw == 0 then s.lv.residue else s.lv.residue ++ [⟨x.consumer, x.outs⟩]
    { s with lv := { s.lv with slots := s.lv.slots.del slot, residue := left } }

/-- A new slot for a consumer: the lowest free number; a cap of the same consumer that its nodes still hold is the slot's own. -/
def State.newSlot (s : State) (r : LeaveReq) : Option (Nat × State) :=
  (s.lv.slots.freeFrom 0 512).map fun k =>
    let outs := (s.lv.residue.filter fun x => x.consumer == r.consumer).flatMap Residue.outs
    let x : LvSlot := { consumer := r.consumer, state := 1, cls := r.cls, reqKw := r.kw, minKw := r.minKw, rampKwS := r.rampKwS,
                        owner := r.owner, outs := outs, limitKw := s.limitOf r.consumer }
    (k, { s with lv := { s.lv with slots := s.lv.slots.set k x, residue := s.lv.residue.filter fun y => y.consumer != r.consumer } })

/-! ### Decisions (R108, R109) -/

/-- The cooling limit of a consumer is 0 kW: the arbiter refuses a request or an increase (R262). -/
def State.noCooling (s : State) (consumer : Nat) : Bool := s.lv.coolLimit.get? consumer == some 0

/-- Leave added by a request or increase, none when refused: `have` is the grant to be raised, none for a request. -/
def State.decideLeave (s : State) (r : LeaveReq) (have' : Option Nat) : Option Nat :=
  let ask := match s.limitOf r.consumer with
    | some l => min r.kw l
    | none => r.kw
  let held := have'.getD 0
  if s.pendingKw ≠ 0 ∨ s.noCooling r.consumer then none
  else if have'.isSome ∧ ask ≤ held then none
  else if have' = none ∧ ask < r.minKw then none
  else
    let delta := ask - held
    if s.lv.sum + delta ≤ s.lv.e then some delta
    else if r.partialOk then
      match have' with
      | none => if s.lv.sum ≤ s.lv.e ∧ r.minKw ≤ s.lv.e - s.lv.sum then some (s.lv.e - s.lv.sum) else none
      | some g => if s.lv.sum < s.lv.e ∧ r.minKw ≤ g + (s.lv.e - s.lv.sum) then some (s.lv.e - s.lv.sum) else none
    else none

/-- RESULT of LEAVE_REQUEST and LEAVE_CHANGE (R123). -/
def State.leaveResult (s : State) (slot outcome : Nat) : List Byte :=
  let g := ((s.lv.slots.get? slot).map LvSlot.grantKw).getD 0
  pack [(2, slot), (1, outcome), (1, 0), (4, g)] ++ leInt 4 ((s.lv.e : Int) - s.lv.sum)

/-- Reports a decision to the host command or the session that asked: status, slot and outcome. The command of a request that this module resumed
has ended with the other module (assumption 45). -/
def State.decided (s : State) (r : LeaveReq) (st slot outcome : Nat) : State :=
  match r.uid with
  | some u => if st = ST_OK then s.okUid u (s.leaveResult slot outcome) else s.fail u st
  | none => if r.consumer < 256 then { s with lv := { s.lv with answers := s.lv.answers ++ [(r.consumer, st)] } } else s

/-- A grant made to a slot; OUTCOME 1 when lowered to the limit or in part, 2 after waiting (R108, R123). -/
def State.grantTo (s : State) (r : LeaveReq) (slot kw : Nat) (waited : Bool) : State :=
  let t := (s.updLv slot fun x => { x with state := 1, grantKw := kw, waiting := none }).lvTerms
  t.decided r ST_OK slot (if kw < r.kw then 1 else if waited then 2 else 0)

/-- The limits of every slot (R106, R243; R108 step 2): a grant above its limit falls to it without notice, and pending reductions of
the slot go (R112). -/
def State.limitSlots (s : State) : State :=
  let t := s.lv.slots.foldl (fun (u : State) e =>
    let lim := u.limitOf e.2.consumer
    u.updLv e.1 fun x =>
      let y := { x with limitKw := lim }
      match lim with
      | some l => if l < y.grantKw then y.lowered l else y
      | none => y) s
  t.lvTerms.settle none

/-- Every node of a consumer's cap map is FENCED (R123). -/
def State.allFenced (s : State) (consumer : Nat) : Bool :=
  let l := capEntries (s.capmap consumer)
  !l.isEmpty && l.all fun e => (s.node e.1).state == 4

/-- A new request (R108 step 5, R123). -/
def State.leaveAsk (s : State) (r : LeaveReq) : State :=
  if (s.slotOf r.consumer).isSome then s.decided r ST_BUSY 0 0
  else if s.allFenced r.consumer then s.decided r ST_FENCED 0 0
  else if s.noCooling r.consumer then s.decided r ST_NO_LEAVE 0 0
  else
    let s := s.lvTerms
    match s.newSlot r with
    | none => s.decided r ST_NO_LEAVE 0 0
    | some (k, t) =>
      match s.decideLeave r none with
      | some kw => t.grantTo r k kw false
      | none =>
        if r.wait then
          (t.updLv k fun x => { x with state := 2, waiting := some r, arrival := s.lv.nextArrival, deadline := s.now + r.waitMs * ms }) |> fun u =>
            { u with lv := { u.lv with nextArrival := u.lv.nextArrival + 1 } }
        else s.decided r ST_NO_LEAVE 0 0

/-- A change (R108 steps 3 and 5, R124). -/
def State.leaveChange (s : State) (r : LeaveReq) : State :=
  match s.slotOf r.consumer with
  | none => s.decided r ST_BAD_PARAM 0 0
  | some (k, x) =>
    if x.state = 2 then s.decided r ST_BUSY 0 0
    else
      let upd (y : LvSlot) : LvSlot := { y with reqKw := r.kw, minKw := r.minKw, rampKwS := r.rampKwS }
      if r.kw < x.grantKw then
        let t := (s.updLv k fun y => upd (y.lowered r.kw)).lvTerms
        t.decided r ST_OK k 0
      else if r.kw = x.grantKw then (s.updLv k upd).decided r ST_OK k 0
      else
        let s := s.lvTerms
        match s.decideLeave r (some x.grantKw) with
        | some d =>
          let t := (s.updLv k fun y => upd { y with grantKw := y.grantKw + d }).lvTerms
          t.decided r ST_OK k (if x.grantKw + d < r.kw then 1 else 0)
        | none => s.decided r ST_NO_LEAVE 0 0

/-- A release (R108 step 3, R125): a waiting request ends with ST_ABORTED. -/
def State.leaveRelease (s : State) (r : LeaveReq) : State :=
  let done (t : State) (kw : Nat) : State := match r.uid with
    | some u => t.okUid u (pack [(4, kw)])
    | none => t
  match s.slotOf r.consumer with
  | none => done s 0
  | some (k, x) =>
    match x.waiting with
    | some w => done ((s.freeSlot k).decided w ST_ABORTED 0 0) 0
    | none => done ((s.freeSlot k).lvTerms) x.grantKw

/-- A change that lowers the grant, or leaves it (R108 step 3). -/
def State.isDecrease (s : State) (r : LeaveReq) : Bool := match s.slotOf r.consumer with
  | some (_, x) => decide (r.kw ≤ x.grantKw)
  | none => false

/-! ### Caps (R113, R114) -/

/-- The cap of a node output: over every slot whose cap map names it, GRANT_KW x SHARE / 1000, each term rounded down. -/
def State.nodeCap (s : State) (node output : Nat) : Nat :=
  (s.lv.slots.vals.map fun x => capOf (s.capmap x.consumer) x.grantKw node output).sum

/-- The ramps of the slots that name a node output. -/
def State.nodeRamps (s : State) (node output : Nat) : List Nat :=
  (s.lv.slots.vals.filter fun x => (capEntries (s.capmap x.consumer)).any fun e => e.1 == node && e.2.1 == output).map LvSlot.rampKwS

/-- The node outputs to which caps are sent: every output of every planned node (R114). -/
def State.capOutputs (s : State) : List (Nat × Nat) := s.ring.plans.keys.flatMap fun n => (List.range 8).map fun o => (n, o)

/-- The caps of every node go out under the current epoch (R114). -/
def State.emitCaps (s : State) : State :=
  s.capOutputs.foldl (fun (t : State) e => t.emit (.cap e.1 e.2 (s.nodeCap e.1 e.2) (s.nodeRamps e.1 e.2) s.ring.epoch)) s

/-- A cap sent to a node output: the newest replaces the earlier ones (R114). -/
def CapOut.sent (o : CapOut) (kw now : Nat) : CapOut :=
  if kw = o.sentKw then o else { o with sentKw := kw, riseFrom := o.heldKw, riseAt := now }

/-- The outputs of a consumer after its caps have been sent. Only a node that holds this module's lease takes them: any other discards what carries an
epoch that is not its own (R15). -/
def State.sendOuts (s : State) (r : Rec) (kw : Nat) (l : List CapOut) : List CapOut :=
  let put (o : CapOut) : CapOut := if s.holds o.node then o.sent (capOf r kw o.node o.output) s.now else o
  let new := (capEntries r).filter fun e => !(l.any fun o => o.node == e.1 && o.output == e.2.1)
  (l ++ new.map fun e => ({ node := e.1, output := e.2.1 } : CapOut)).map put

/-- The ledger after its caps have been sent: those of a released consumer are 0. -/
def State.capsSent (s : State) : State :=
  { s with lv := { s.lv with
      slots := s.lv.slots.mapV fun _ x => { x with outs := s.sendOuts (s.capmap x.consumer) x.grantKw x.outs },
      residue := s.lv.residue.map fun x => { x with outs := s.sendOuts [] 0 x.outs } } }

/-- A cap under a lease at the end of a ring cycle: a lowered cap at once, a higher one at the slot's ramp or at the node's own slew limit, of
which the spec says nothing: a free value (R114). -/
def CapOut.rises (o : CapOut) (ramp now free : Nat) : CapOut :=
  if o.sentKw ≤ o.heldKw then { o with heldKw := o.sentKw, rampFrom := none }
  else
    let bound := if ramp = 0 then o.sentKw else min o.sentKw (o.riseFrom + ramp * (now - o.riseAt) / sec)
    { o with heldKw := max o.heldKw (min bound (o.heldKw + free)), rampFrom := none }

/-- A cap whose node's lease has ended some ns ago: it is held for RING_HOLD_US, then falls to zero over RING_RAMP_MS; the ramp is rounded up to the
whole kW (R150). -/
def CapOut.lapses (o : CapOut) (since hold ramp : Nat) : CapOut :=
  if since < hold then { o with sentKw := o.heldKw }
  else
    let top := o.rampFrom.getD o.heldKw
    let kw := min o.heldKw (ceilDiv (top * (hold + ramp - since)) (max 1 ramp))
    { o with sentKw := kw, heldKw := kw, rampFrom := some top }

/-- The cap of one output at the end of a ring cycle. Of an UNREACHABLE node the module hears no end of its lease, and its cap counts on; a FOREIGN
node holds the partner's caps, which count in the partner's ledger (R107, R150; DEDUCED, assumption 119). -/
def State.outCycle (ramp : Nat) (o : CapOut) (s : State) : CapOut × State :=
  let x := s.node o.node
  if s.holds o.node then
    if o.sentKw ≤ o.heldKw then (o.rises ramp s.now 0, s) else (o.rises ramp s.now s.draw.1, s.draw.2)
  else if x.state = 5 then (o, s)
  else if x.state = 7 then ({ o with sentKw := 0, heldKw := 0 }, s)
  else (o.lapses (s.now - x.endedAt) (s.pn PAR_RING_HOLD_US * us) (s.pn PAR_RING_RAMP_MS * ms), s)

/-- The caps of a consumer at the end of a ring cycle. -/
def State.outsCycle (ramp : Nat) : List CapOut → State → List CapOut × State
  | [], s => ([], s)
  | o :: l, s =>
    let a := s.outCycle ramp o
    let b := State.outsCycle ramp l a.2
    (a.1 :: b.1, b.2)

/-- The caps of the slots at the end of a ring cycle. -/
def State.slotsCycle (s : State) : State :=
  s.lv.slots.foldl (fun (t : State) e =>
    let r := t.outsCycle e.2.rampKwS e.2.outs
    r.2.updLv e.1 fun x => { x with outs := r.1 }) s

/-- The caps of released consumers at the end of a ring cycle; those that are gone leave S (R107). -/
def State.residueCycle (s : State) : State :=
  let r := s.lv.residue.foldl (fun (a : List Residue × State) x =>
    let b := a.2.outsCycle 0 x.outs
    (a.1 ++ [{ x with outs := b.1 }], b.2)) ([], s)
  { r.2 with lv := { r.2.lv with residue := r.1.filter fun x => !x.outs.all fun o => o.heldKw == 0 && o.sentKw == 0 } }

/-- The caps held at the end of a ring cycle (R114, R150). -/
def State.capsHeld (s : State) : State := s.slotsCycle.residueCycle

/-! ### Discharge (R101, R102, R170) -/

/-- The dispatch command in kW: the outputs of the driving site instances that no driving instance takes as its reference, on BAS_SITE_FS_KW (R170). -/
def State.dispatchKw (s : State) : Int :=
  let refd (i : Nat) : Bool := s.bas.insts.any fun e => drives e.2 && coefRefSrc (s.coef e.1) == 1 && coefRefArg (s.coef e.1) == i
  let sites := s.bas.insts.filter fun e => drives e.2 && coefNode (s.coef e.1) == 0 && !refd e.1
  floorDiv ((sites.map fun e => e.2.lastCmd).sum * s.pn PAR_BAS_SITE_FS_KW) 32768

/-- The discharge that the loop commands: at most B, and never one that would drive the measured import below 0 kW, which the discharge already
delivered leaves at import + discharge (R102; DEDUCED, assumption 120). -/
def State.dischargeKw (s : State) : Nat := (min (min s.dispatchKw s.lv.b) (s.lv.importKw + s.lv.bufKw)).toNat

/-- The nodes to which discharge goes: held buffer cabinets with a string whose term is not 0 (R389). -/
def State.dischargeNodes (s : State) : List Nat :=
  s.heldBuffers.filter fun n => s.gau.strings.any fun e => fld e.2.cfg 8 2 == n && s.gau.terms.getD e.1 0 != 0

/-- Spreads a discharge cap and a command, at most the cap, over nodes: how is open, so each share is free, and the last node takes what is left
(DESIGN CHOICE, assumption 67). -/
def State.spreadDischarge : List Nat → Nat → Nat → State → State
  | [], _, _, s => s
  | [n], cap, cmd, s => s.emit (.dischargeCap n cap cmd s.ring.epoch)
  | n :: l, cap, cmd, s =>
    let f := s.draw
    let k := min f.1 cap
    let g := f.2.draw
    let c := max (cmd - (cap - k)) (min g.1 (min k cmd))
    State.spreadDischarge l (cap - k) (cmd - c) (g.2.emit (.dischargeCap n k c s.ring.epoch))

/-- The discharge caps that carry B, and the dispatch command (R101, R114, R170): a held buffer cabinet without a term has a cap of 0. -/
def State.sendDischarge (s : State) : State :=
  let rest := s.heldBuffers.filter fun n => !s.dischargeNodes.contains n
  State.spreadDischarge s.dischargeNodes s.lv.b s.dischargeKw (rest.foldl (fun (t : State) n => t.emit (.dischargeCap n 0 0 s.ring.epoch)) s)

/-- The caps of every node and the discharge caps go out (R114). -/
def State.publishCaps (s : State) : State := s.emitCaps.capsSent.sendDischarge

/-- The module publishes its ledger: it is active and holds the lease (R107). -/
def State.publishes (s : State) : Bool := s.isActive && s.hasLease

/-- The incomer channels, 256 to 263, that a sensor head feeds (R304, R316). -/
def State.incomerHeads (s : State) : List Nat := (List.range 8).filterMap fun k => if fld (s.met.recs.getD (256 + k) []) 2 1 = 1 then some (256 + k) else none

/-- kW of a tick's energy sum: V A over 32 samples of 1 / (2^30 x 10^512) (R321). -/
def tickKw : Nat := 32000 * 2 ^ 30 * 10 ^ 512

/-- Measured grid import: the mean over the last site cycle is that of the incomer heads' last legal tick (R170, R115; DEDUCED, assumption 121). -/
def State.measuredImport (s : State) : Int :=
  (s.incomerHeads.map fun ch => ((s.met.chans.getD ch {}).hist.headD {}).e).sum

/-- Measured buffer discharge: what the held buffer cabinets report (R170). -/
def State.measuredDischarge (s : State) : Int := (s.heldBuffers.map fun n => (s.node n).outKw).sum

/-- The import exceeds the limit of R115. -/
def State.importOver (s : State) (kw : Int) : Bool := decide ((s.lv.g : Int) + s.pendingKw + s.pn PAR_LV_OVER_TOL_KW < kw)

/-- The buffer delivers the B that the R101 value of P gives (R115). -/
def State.bufferDelivers (s : State) (kw : Int) : Bool := decide ((s.lvB s.lv.g s.lvPRaw : Int) ≤ kw)

/-- The measurements of a site cycle, and since when the conditions of R115 have held at every one of them. -/
def State.measure (s : State) : State :=
  let e := s.measuredImport
  let b := s.measuredDischarge
  let t := { s with lv := { s.lv with importE := e, importKw := floorDiv e tickKw, bufKw := b } }
  let since (v : Bool) (o : Option Nat) : Option Nat := if v then some (o.getD s.now) else none
  { t with lv := { t.lv with overSince := since (t.importOver (floorDiv e tickKw)) s.lv.overSince,
                             restoreSince := since (t.lv.pBound.isSome && t.bufferDelivers b) s.lv.restoreSince } }

/-- The site inputs of Basalt, once per site cycle: measured import, G, B and measured discharge on BAS_SITE_FS_KW (R170). -/
def State.siteInputs (s : State) : State :=
  let fs := s.pn PAR_BAS_SITE_FS_KW
  let a := s.q15 s.lv.importE (fs * tickKw)
  let b := a.2.q15 s.lv.g fs
  let c := b.2.q15 s.lv.b fs
  let d := c.2.q15 s.lv.bufKw fs
  { d.2 with bas := { d.2.bas with site := [a.1, b.1, c.1, d.1] } }

/-- The reductions of a slot get their end times at the publication that first carries them (R110). -/
def LvSlot.published (now : Nat) (x : LvSlot) : LvSlot :=
  { x with pending := x.pending.map fun r => { r with endAt := some (r.endAt.getD (now + r.noticeMs * ms)) } }

/-- LEDGER_PUBLICATION (R77, R110, R114, R131, R166): a site cycle begins; the RUN entries take their values, which go to the nodes, the caps of every node go
out, reductions that have not been published get their end times, and the reclaim events follow. -/
def execLedgerPublication (s : State) : Host.Outcome State Fault Refusal :=
  let s := { s.latchRun.configChanged s with pair := { s.pair with siteCycle := (s.pair.siteCycle + 1) % 2 ^ 32, boundaryAt := s.now } }
  let s := s.measure.siteInputs.latchMeans.canLatch.canTimingLate.sendStatus
  if s.publishes then
    let t := s.publishCaps
    let fresh := (s.lv.slots.vals.filter fun x => x.pending.any fun r => r.endAt.isNone).map LvSlot.cls
    let t := { t with lv := { t.lv with slots := t.lv.slots.mapV fun _ x => x.published s.now } }
    let t := match fresh with
      | [] => t
      | c :: cs => t.raise 0x03 0x0001 (cs.foldl min c)
    let t := if s.lv.cancelled ∧ s.pendingKw = 0 then t.raise 0x03 0x0002 0 else t
    .next { t with lv := { t.lv with cancelled := false, published := true } }
  else .next s

/-- A reduction whose notice has run out. -/
def Reduction.due (r : Reduction) (now : Nat) : Bool := match r.endAt with
  | some t => decide (t ≤ now)
  | none => false

/-- A slot after the end of the notices that have run out (R110). -/
def LvSlot.noticed (now : Nat) (x : LvSlot) : LvSlot :=
  let left := x.pending.filter fun r => !r.due now
  { x with grantKw := x.grantKw - ((x.pending.filter fun r => r.due now).map Reduction.kw).sum, pending := left, state := if left.isEmpty then 1 else 3 }

/-- A notice of a slot has run out on the active module. -/
def State.noticeDue (s : State) (slot : Nat) : Bool :=
  s.isActive && ((s.lv.slots.get? slot).map fun x => x.pending.any fun r => r.due s.now) == some true

/-- The notices of slots that have run out take effect, and with one the caps go out in the same ring cycle (R108 step 4, R110, R114). -/
def State.noticeEnds (s : State) (slots : List Nat) : State :=
  let due := slots.filter s.noticeDue
  let t := due.foldl (fun (t : State) k => t.updLv k (LvSlot.noticed s.now)) s
  let t := if t.publishes ∧ due ≠ [] then t.lvTerms.publishCaps else t
  if due = [] then s else t.lvTerms

/-- RECLAIM_NOTICE_END (R108 step 4, R110). -/
def execReclaimNoticeEnd (slot : Nat) (s : State) : Host.Outcome State Fault Refusal := .next (s.noticeEnds [slot])

/-- LEAVE_WAIT_EXPIRY (R108, R123). -/
def execLeaveWaitExpiry (slot : Nat) (s : State) : Host.Outcome State Fault Refusal :=
  match s.lv.slots.get? slot with
  | none => .next s
  | some x => match x.waiting with
    | some r => if x.deadline ≤ s.now then .next ((s.freeSlot slot).decided r ST_NO_LEAVE 0 0) else .next s
    | none => .next s

/-- SETPOINT_EXPIRY (R103): D falls to the fallback, with LV_SETPOINT_EXPIRED. -/
def execSetpointExpiry (s : State) : Host.Outcome State Fault Refusal :=
  match s.lv.setExpiry with
  | some e =>
    if e ≤ s.now then
      let t := ({ s with lv := { s.lv with setpoint := none, setExpiry := none } }).settle none
      .next (t.raise 0x03 0x0003 t.lv.d)
    else .next s
  | none => .next s

/-- IMPORT_EXCESS_DETECTED (R115): the measured import and the discharge that the buffer delivers. The arbiter that publishes acts once the import
has exceeded the limit for LV_OVER_MS without a break, and again after a further LV_OVER_MS of it (DEDUCED, assumption 122). -/
def execImportExcessDetected (importKw : Int) (deliveredKw : Nat) (s : State) : Host.Outcome State Fault Refusal :=
  if s.publishes ∧ s.importOver importKw = true ∧ (s.lv.overSince.map fun t => decide (t + s.pn PAR_LV_OVER_MS * ms ≤ s.now)) = some true then
    let t := { s with lv := { s.lv with pBound := some deliveredKw, importExcess := true, overSince := some s.now } }
    .next (((t.settle (some 200)).report SRC_IMPORT_EXCESS 0).raise 0x03 0x0004 (importKw - (s.lv.g + s.pendingKw : Int)).toNat)
  else .next s

/-- BUFFER_DELIVERY_RESTORED (R115): the buffer has delivered for 10 s the B that the R101 value of P gives. -/
def execBufferDeliveryRestored (deliveredKw : Nat) (s : State) : Host.Outcome State Fault Refusal :=
  if s.publishes ∧ s.lv.pBound.isSome ∧ s.bufferDelivers deliveredKw = true ∧ (s.lv.restoreSince.map fun t => decide (t + 10 * sec ≤ s.now)) = some true then
    .next (({ s with lv := { s.lv with pBound := none, restoreSince := none } }).settle none)
  else .next s

/-! ### Commands -/

/-- Adds a request to those that the arbiter takes in its next microsecond. -/
def State.arrive (s : State) (r : LeaveReq) : State := { s with lv := { s.lv with arrivals := s.lv.arrivals ++ [r] } }

/-- The effect of LEAVE_REQUEST up to the arbiter (R122, R123 check 1). -/
def leaveRequest (c : InFlight) (s : State) : State :=
  let d := c.desc
  let kw := d.u 32 4
  let fl := d.u 45 1
  let w := d.u 46 2
  let m := s.lv.capmaps.get? d.object
  if d.object < 256 then s.fail c.uid ST_DENIED
  else if 511 < d.object ∨ m = none ∨ (m.map capMaxKw).getD 0 < kw ∨ kw = 0 ∨ 200000 < kw ∨ kw < d.u 36 4 ∨ 1000000 < d.u 40 4 ∨
      7 < d.u 44 1 ∨ 3 < fl ∨ (bit fl 1 = true ∧ ¬(1 ≤ w ∧ w ≤ 60000)) ∨ (bit fl 1 = false ∧ w ≠ 0) then s.fail c.uid ST_BAD_PARAM
  else s.arrive { kind := 0, consumer := d.object, kw := kw, minKw := d.u 36 4, rampKwS := d.u 40 4, cls := d.u 44 1,
                  partialOk := bit fl 0, wait := bit fl 1, waitMs := w, uid := some c.uid, owner := c.entry + 1 }

def execLeaveRequest (q tag : Nat) (s : State) : Host.Outcome State Fault Refusal := startCommand 0x0300 q tag s leaveRequest

/-- The effect of LEAVE_CHANGE up to the arbiter (R122, R124). -/
def leaveChangeCmd (c : InFlight) (s : State) : State :=
  let d := c.desc
  let kw := d.u 32 4
  let m := s.lv.capmaps.get? d.object
  if d.object < 256 then s.fail c.uid ST_DENIED
  else if 511 < d.object ∨ (m.map fun r => decide (capMaxKw r < kw)) = some true ∨ kw = 0 ∨ 200000 < kw ∨ kw < d.u 36 4 ∨
      1000000 < d.u 40 4 ∨ 1 < d.u 45 1 then s.fail c.uid ST_BAD_PARAM
  else s.arrive { kind := 1, consumer := d.object, kw := kw, minKw := d.u 36 4, rampKwS := d.u 40 4, partialOk := bit (d.u 45 1) 0,
                  uid := some c.uid, owner := c.entry + 1 }

def execLeaveChange (q tag : Nat) (s : State) : Host.Outcome State Fault Refusal := startCommand 0x0301 q tag s leaveChangeCmd

/-- The effect of LEAVE_RELEASE up to the arbiter (R122, R125). -/
def leaveReleaseCmd (c : InFlight) (s : State) : State :=
  if c.desc.object < 256 then s.fail c.uid ST_DENIED
  else if 511 < c.desc.object then s.fail c.uid ST_BAD_PARAM
  else s.arrive { kind := 2, consumer := c.desc.object, uid := some c.uid }

def execLeaveRelease (q tag : Nat) (s : State) : Host.Outcome State Fault Refusal := startCommand 0x0302 q tag s leaveReleaseCmd

/-- Bits [5:0] of LV_STAT (R132). PARTITION reads 0 until the module has started, as its reset value says (DEDUCED, assumption 58). -/
def State.lvStat (s : State) : Nat :=
  let b (v : Bool) (k : Nat) : Nat := if v then k else 0
  b s.publishes 1 + b (s.pendingKw != 0) 2 + b s.lv.setpoint.isSome 4 + b (decide (s.lv.h < 1000) && s.pair.role != ROLE_STARTING) 8 + b s.lv.importExcess 16 + b s.lv.workHold 32

/-- Sum of GRANT_KW of a class (R126). -/
def State.classKw (s : State) (cls : Nat) : Nat := ((s.lv.slots.vals.filter fun x => x.cls == cls).map LvSlot.grantKw).sum

/-- Milliseconds to the earliest pending reduction, rounded down (R126). -/
def State.noticeLeft (s : State) (x : LvSlot) : Nat := match x.pending with
  | [] => 0
  | r :: rs =>
    let left (r : Reduction) : Nat := match r.endAt with
      | some t => (t - s.now) / ms
      | none => r.noticeMs
    rs.foldl (fun m q => min m (left q)) (left r)

/-- A slot record of LEAVE_READ (R126). -/
def State.lvRecord (s : State) (k : Nat) : List Byte := match s.lv.slots.get? k with
  | none => List.replicate 32 0
  | some x => pack [(2, x.consumer), (1, x.state), (1, x.cls), (4, x.reqKw), (4, x.grantKw), (4, x.capKw), (4, x.minKw), (4, x.pendingKw),
      (4, x.limitKw.getD 0xFFFFFFFF), (2, s.noticeLeft x), (1, x.owner), (1, 0)]

/-- The header of LEAVE_READ (R126). -/
def State.lvHeader (s : State) : List Byte :=
  let left := match s.lv.setpoint, s.lv.setExpiry with
    | some _, some e => (e - s.now) / sec
    | _, _ => 0xFFFFFFFF
  pack [(4, s.lv.g), (4, s.lv.p), (4, s.lv.b), (4, s.lv.sum), (4, s.pendingKw), (4, s.lv.d), (4, left), (2, s.lv.h), (2, s.lvStat)] ++
    (List.range 8).flatMap fun c => leBytes 4 (s.classKw c)

/-- The effect of LEAVE_READ (R126). -/
def leaveRead (c : InFlight) (s : State) : State :=
  let first := c.desc.u 32 2
  let n := c.desc.u 34 2
  if 512 < n ∨ c.desc.dataLen < 64 + 32 * n ∨ 512 < first + n then s.fail c.uid ST_BAD_PARAM
  else s.answer c [] (s.lvHeader ++ (List.range n).flatMap fun j => s.lvRecord (first + j))

def execLeaveRead (q tag : Nat) (s : State) : Host.Outcome State Fault Refusal := startCommand 0x0303 q tag s leaveRead

/-- The effect of LV_GRID_SET up to the arbiter (R127). -/
def lvGridSet (c : InFlight) (s : State) : State :=
  let kw := c.desc.u 32 4
  if kw = 0xFFFFFFFF then { s with lv := { s.lv with gridIn := s.lv.gridIn ++ [(c.uid, none, 0)] } }
  else if 200000 < kw then s.fail c.uid ST_BAD_PARAM
  else { s with lv := { s.lv with gridIn := s.lv.gridIn ++ [(c.uid, some kw, c.desc.u 36 2)] } }

def execLvGridSet (q tag : Nat) (s : State) : Host.Outcome State Fault Refusal := startCommand 0x0310 q tag s lvGridSet

/-- No element stands twice. -/
def noDup {α : Type} [BEq α] : List α → Bool
  | [] => true
  | a :: l => !l.contains a && noDup l

/-- A cap map that a consumer may have (R128). -/
def State.capmapOk (s : State) (consumer : Nat) (r : Rec) : Bool :=
  let es := capEntries r
  decide (1 ≤ fld r 0 1 ∧ fld r 0 1 ≤ 8) && decide (capKind r ≤ 2) && (capKind r != 0 || decide (consumer < 256)) && zeros r 2 2 &&
  decide ((es.map fun e => e.2.2).sum ≤ 1000) && es.all (fun e => (s.plan e.1).isSome && decide (e.2.1 < 8)) &&
  noDup (es.map fun e => (e.1, e.2.1)) && (List.range 8).all fun j => zeros r (11 + 8 * j) 1 && zeros r (14 + 8 * j) 2

/-- The effect of LV_CAPMAP_SET (R128). -/
def lvCapmapSet (c : InFlight) (s : State) : State :=
  let k := c.desc.object
  match c.record 72 with
  | none => s.fail c.uid ST_BAD_PARAM
  | some r =>
    if 511 < k then s.fail c.uid ST_BAD_PARAM
    else if (s.slotOf k).isSome then s.fail c.uid ST_BUSY
    else if allZero r then ({ s with lv := { s.lv with capmaps := s.lv.capmaps.del k } }).ok c []
    else if s.capmapOk k r then ({ s with lv := { s.lv with capmaps := s.lv.capmaps.set k r } }).ok c []
    else s.fail c.uid ST_BAD_PARAM

def execLvCapmapSet (q tag : Nat) (s : State) : Host.Outcome State Fault Refusal := startCommand 0x0311 q tag s lvCapmapSet

/-- The shares of an LV_SHARE_SET (R129). -/
def shareEntries (c : InFlight) : List (Nat × Nat) := (chunks 4 (c.desc.u 32 4) c.desc.data).map fun r => (fld r 0 2, fld r 2 2)

/-- The effect of LV_SHARE_SET (R117, R129). -/
def lvShareSet (c : InFlight) (s : State) : State :=
  let n := c.desc.u 32 4
  let es := shareEntries c
  if s.lv.sharePending.isSome then s.fail c.uid ST_BUSY
  else if n = 0 ∨ 4096 < n ∨ c.desc.dataLen ≠ 4 * n ∨ c.desc.data.length ≠ 4 * n ∨ (es.map Prod.snd).sum ≠ 1000 ∨
      es.any (fun e => (s.plan e.1).isNone) ∨ noDup (es.map Prod.fst) = false then s.fail c.uid ST_BAD_PARAM
  else
    let tab := es.foldl (fun (t : Tab Nat) e => if e.2 = 0 then t else t.set e.1 e.2) []
    let v := (s.lv.shareVersion + 1) % 2 ^ 32
    let held := s.ring.plans.keys.filter s.holds
    let t := { s with lv := { s.lv with sharePending := some { version := v, shares := tab, uid := c.uid, deadline := s.now + sec, sent := held } } }
    held.foldl (fun (u : State) k => u.emit (.shareStore k (tab.getD k 0) v)) t

def execLvShareSet (q tag : Nat) (s : State) : Host.Outcome State Fault Refusal := startCommand 0x0312 q tag s lvShareSet

/-- Every planned node has stored the version: it was sent it under a lease of this module and holds that lease still (R117). -/
def State.allStored (s : State) (p : ShareSet) : Bool := s.ring.plans.keys.all fun k => p.sent.contains k && s.holds k

/-- SHARE_VERSION_COMMIT (R117): within the second, once every planned node has stored the version. -/
def execShareVersionCommit (s : State) : Host.Outcome State Fault Refusal :=
  match s.lv.sharePending with
  | none => .next s
  | some p =>
    if s.allStored p ∧ s.now < p.deadline then
      let t := { s with lv := { s.lv with shares := p.shares, shareVersion := p.version, sharePending := none } }
      .next ((t.emit (.shareCommit p.version)).okUid p.uid [])
    else .next s

/-- SHARE_STORE_TIMEOUT (R117). -/
def execShareStoreTimeout (s : State) : Host.Outcome State Fault Refusal :=
  match s.lv.sharePending with
  | none => .next s
  | some p =>
    if p.deadline ≤ s.now then .next (({ s with lv := { s.lv with sharePending := none } }).fail p.uid ST_TIMEOUT) else .next s

end Sys2Proof.Machine
end

