-- ==== Sys2Proof/Machine/Takeover.lean ====
section
/-!
DEFINITION. The state image of a pair (R548), what a standby takes from it at once, and what a module resumes when it takes over
(R190, R240, R267, R294, R550).
-/
namespace Sys2Proof.Machine

/-! ### The image (R548) -/

/-- The image tables that a pair shares: 0x03, 0x04, 0x05, 0x07, 0x08, 0x09, 0x0D, 0x0E and 0x12 (R548). -/
def State.sharedTables (s : State) : ImgTables := { s.currentTables with hosts := [], can := [] }

/-- The live values that a pair shares: those of entries not flagged PAIR_LOCAL (R78). -/
def sharedLive (t : Tab Int) : Tab Int := t.keep fun id _ => ((parEntry id).map fun e => !e.pairLocal).getD false

/-- The volatile slots that the image carries: those with PAIR_SHARE (R294, R474). -/
def State.sharedKeys (s : State) : Tab KeySlot := s.obs.slots.keep fun n k => decide (256 ≤ n) && bit k.flags 0

/-- An instance as the image carries it: without its lease fence (R190). -/
def Inst.imaged (x : Inst) : Inst := liftFence x 3

/-- The repetitive memories of a site cycle's image: 64 KiB of the 1 MiB in rotation, 16 controllers of up to 4 KiB (R190). -/
def inTurn (siteCycle k : Nat) : Bool := k / 16 == siteCycle % 16

/-- A cycle image completed with the memories of the images before it (R190). -/
def PairImage.merged (m : PairImage) (old : Option PairImage) : PairImage :=
  if m.kind = 1 then m
  else { m with reps := m.reps.foldl (fun (t : Tab RepMem) (e : Nat × RepMem) => t.set e.1 e.2)
                          (((old.map PairImage.reps).getD []).keep fun k _ => !inTurn m.siteCycle k) }

/-- The image of this moment (R548). -/
def State.buildImage (s : State) (kind segment segments : Nat) : PairImage :=
  let full := s.pair.lockstep = false ∨ kind = 1
  { kind := kind, lockstep := s.pair.lockstep, split := s.pair.split, pfw := s.sys.pfw, siteCycle := s.pair.siteCycle, epoch := s.ring.epoch,
    segment := segment, segments := segments,
    slots := if full then s.lv.slots else [], residue := if full then s.lv.residue else [],
    setpoint := if full then s.lv.setpoint else none, setExpiry := if full then s.lv.setExpiry else none,
    insts := if full then s.bas.insts.mapV fun _ x => x.imaged else [],
    reps := if full = false then [] else if kind = 1 then s.bas.reps else s.bas.reps.keep fun k _ => inTurn s.pair.siteCycle k,
    stages := s.stg.stages, circuits := if full then s.cool.circuits else [], ctxs := s.ses.ctxs, outlets := s.ses.outlets, keys := s.sharedKeys,
    live := sharedLive s.par.live, nodes := s.ring.nodes, src := s.flt.src.keep fun k _ => hubSource k,
    holds := s.flt.holds.filter fun h => hubSource h.source, hostPoints := s.pt.host, tables := s.sharedTables }

/-! ### What a standby takes at once -/

/-- The override records by their first point address (R400). -/
def overrideTab (l : List Rec) : Tab Rec := l.foldl (fun (t : Tab Rec) r => t.set (fld r 0 4) r) []

/-- The carrier mask of a table record (R438). -/
def plcMaskOf (r : Rec) : BitVec 1088 := BitVec.ofNat 1088 (leNat r)

/-- The shared tables are written: cap maps, shares, planned nodes, coefficient, cabinet, circuit and outlet records, overrides, the
carrier mask and the reactions. -/
def State.takeTables (s : State) (t : ImgTables) : State :=
  { s with lv := { s.lv with capmaps := t.capmaps, shares := t.shares }, ring := { s.ring with plans := t.nodes },
           bas := { s.bas with coeffs := t.coeffs }, stg := { s.stg with cabinets := t.cabinets }, cool := { s.cool with recs := t.circuits },
           ses := { s.ses with recs := t.outlets }, pt := { s.pt with overrides := overrideTab t.overrides },
           plc := { s.plc with mask := plcMaskOf t.plcMask, maskNext := none }, flt := { s.flt with reactions := t.reactions } }

/-- What is left of an instance whose record is removed: the WRAP bit and its causes, which only the collector clears (R179). -/
def Inst.emptied (x : Inst) : Inst := { wrap := x.wrap, wrapCause := x.wrapCause }

/-- Instances without a coefficient record are EMPTY; a record without an instance makes one LOADED. -/
def State.loadInsts (s : State) : State :=
  let load (i : Nat) (r : Rec) : Inst := match s.bas.insts.get? i with
    | some x => if x.state = 0 then { x with state := 1, refTab := coefRefInit r } else x
    | none => { state := 1, refTab := coefRefInit r }
  let gone := (s.bas.insts.keep fun i x => (s.bas.coeffs.get? i).isNone && x.wrap).mapV fun _ x => x.emptied
  { s with bas := { s.bas with insts := (s.bas.coeffs.mapV load).foldl (fun (t : Tab Inst) (e : Nat × Inst) => t.set e.1 e.2) gone } }

/-- What a standby holds of the image at once: the configuration that every module of the pair must have (sections 6, 9 and 10, and the
reactions of section 8), and the contexts, whose readings its own Jasper opens and discards (R359). -/
def State.takeConfig (s : State) (m : PairImage) : State :=
  let own := s.par.live.keep fun id _ => ((parEntry id).map ParEntry.pairLocal).getD true
  let contexts := s.pair.role == ROLE_STANDBY
  let t := { s with par := { s.par with live := m.live.foldl (fun (u : Tab Int) (e : Nat × Int) => u.set e.1 e.2) own }, pt := { s.pt with host := m.hostPoints },
                    ses := if contexts then { s.ses with ctxs := m.ctxs, outlets := m.outlets } else s.ses }
  (t.takeTables m.tables).loadInsts

/-! ### Resumption -/

/-- What an instance takes from the image (R175, R190): its next evaluation is the first after a resume; the counters and taps of this module's own run are not in it. Of
the starts and disarms that waited, the commands have ended with the other module; those of a session or of the cooling function wait on. -/
def resumeInst (own x : Inst) : Inst :=
  { x.imaged with wait := (x.wait.filter fun c => c.2.uid?.isNone).map fun c => (0, c.2), trackUid := none, trackFrom := none, first := true, lift := none, evals := own.evals, missed := own.missed,
                  taps := own.taps, measSum := 0, measN := 0, cycSum := 0, cycN := 0 }

/-- What a stage takes from the image: CHECKING and READY are IDLE (R240). -/
def resumeStage (x : Stage) : Stage :=
  let y : Stage := { x with token := none, uid := none }
  if x.state = 1 ∨ x.state = 2 then { y with state := 0, owner := 0 } else y

/-- What a context takes from the image: commands and requests of the other module end with it; a reading that is open there carries
TAKEOVER (R294, R359). -/
def resumeCtx (x : Ctx) : Ctx := { x with stops := [], asking := false, takenOver := x.takenOver || x.reading == 2 }

/-- What the ledger takes from the image: every slot (R27), whose pending reductions keep their end times (R24); the command of a waiting request has
ended with the module that ran it, and the request waits on without it (DEDUCED, assumption 45). -/
def resumeSlots (l : Tab LvSlot) : Tab LvSlot := l.mapV fun _ x => { x with waiting := x.waiting.map fun r => { r with uid := none } }

/-- The ledger of an image, which a standby shows as its own (R107). -/
def State.takeLedger (s : State) (m : PairImage) : State :=
  { s with lv := { s.lv with slots := resumeSlots m.slots, residue := m.residue, setpoint := m.setpoint, setExpiry := m.setExpiry } }

/-- The work ledger of a takeover starts empty (R120): the grants of the operations that this module runs have gone with it, and what waited and what ran
ask again, in their order (DEDUCED, assumption 123). -/
def State.emptyWork (s : State) : State := { s with lv := { s.lv with workGrant := [], workWait := s.lv.workGrant ++ s.lv.workWait } }

/-- The engine state of sections 1, 2 and 4. -/
def State.resumeEngines (s : State) (m : PairImage) : State :=
  let t := s.takeLedger m
  { t with lv := { t.lv with answers := [], arrivals := [], gridIn := [] },
           bas := { s.bas with insts := m.insts.mapV fun i x => resumeInst (s.inst i) x, reps := m.reps, sentRun := [] },
           cool := { s.cool with circuits := m.circuits.mapV fun _ x => { x with stops := [] } } }

/-- The state of sections 3, 5, 7 and 8. -/
def State.resumeRest (s : State) (m : PairImage) : State :=
  let demoted (n : Nat) : Bool := ((m.nodes.get? n).map Node.demoted).getD false
  let slots := m.keys.foldl (fun (t : Tab KeySlot) (e : Nat × KeySlot) => t.set e.1 e.2) (s.obs.slots.keep fun n k => !(decide (256 ≤ n) && bit k.flags 0))
  { s with stg := { s.stg with stages := m.stages.mapV fun _ x => resumeStage x },
           ses := { s.ses with ctxs := m.ctxs.mapV fun _ x => resumeCtx x, outlets := m.outlets, txWait := [] },
           obs := { s.obs with slots := slots },
           ring := { s.ring with nodes := s.ring.nodes.mapV fun n x => { x with demoted := demoted n } },
           flt := { s.flt with src := m.src.foldl (fun (t : Tab FltSrc) (e : Nat × FltSrc) => t.set e.1 e.2) (s.flt.src.keep fun k _ => !hubSource k),
                               holds := (s.flt.holds.filter fun h => !hubSource h.source) ++ m.holds } }

/-- Nothing is resumed (R550): instances are LOADED, the ledger is empty and the contexts are freed; stages are as their nodes' ends of
lease leave them. -/
def State.resumeNothing (s : State) : State :=
  { s with lv := { s.lv with slots := [], residue := [], answers := [], arrivals := [] },
           bas := { s.bas with insts := s.bas.coeffs.mapV fun _ r => { state := 1, refTab := coefRefInit r } },
           stg := { s.stg with stages := s.stg.stages.mapV fun _ x =>
             if x.state = 5 ∨ x.state = 6 then { x with uid := none, token := none } else { x with state := 0, uid := none, token := none } },
           cool := { s.cool with circuits := s.cool.circuits.mapV fun _ _ => {} },
           ses := { s.ses with ctxs := [], txWait := [] } }

/-- The module takes control of a hub that another has run: it resumes from its last complete image, or nothing where that is older than
PAIR_STALE_MS; in lockstep its engines go on from their own state (R550, R561). Trace buffers and generators are IDLE (R212). -/
def State.resumeHub (s : State) : State :=
  let fresh := match s.pair.imageAt with
    | some t => decide (s.now ≤ t + s.pms PAR_PAIR_STALE_MS)
    | none => false
  let t := match s.pair.image with
    | some m => if fresh then (if s.pair.ownEngines then s else s.resumeEngines m).resumeRest m else s.resumeNothing
    | none => s.resumeNothing
  let stale := !fresh || s.pair.image.isNone
  let t := { t.emptyWork with tune := {} }
  let t := { t with pair := { t.pair with takeovers := t.pair.takeovers + 1, switchAt := t.now, switchDue := false, switchDueAt := t.now } }
  t.noteDegraded.raise 0x13 0x0004 (t.ring.epoch % 2 ^ 31 + if stale then 2 ^ 31 else 0)

/-- The partner may hold or have held the hub (R550): it reported itself active or releasing, an image has come, it has released, or the node that
accepts the claim has served another epoch. -/
def State.isTakeover (s : State) (nodeEpoch : Nat) : Bool :=
  s.partnerConfigured && (s.pair.imageAt.isSome || s.pair.released.isSome || nodeEpoch != 0 ||
    s.partnerIs ROLE_ACTIVE || s.partnerIs ROLE_RELEASING)

/-- A split begins or ends: both modules are ACTIVE (R553). Lockstep ends at a split. -/
def State.noteSplit (s : State) : State :=
  let v := s.isActive && s.partnerIs ROLE_ACTIVE
  let t := { s with pair := { s.pair with split := v, lockstep := s.pair.lockstep && !v } }
  if v && !s.pair.split then t.raise 0x13 0x0007 t.lvH else t

/-- A standby whose first claim has been accepted is ACTIVE (R543). -/
def State.becomeActive (s : State) (nodeEpoch : Nat) : State :=
  if s.pair.role ≠ ROLE_STANDBY then s
  else
    let t := { s with pair := { s.pair with role := ROLE_ACTIVE } }
    let t := if s.isTakeover nodeEpoch then t.resumeHub else t
    { t with pair := { t.pair with released := none, imageCycle := none } }.noteSplit.lvTerms

/-! ### Points of a module that gives up (R407) -/

/-- A point has changed: its bit is set in every subscription that covers it (R408). -/
def State.ptMark (s : State) (addr : Nat) : State :=
  { s with pt := { s.pt with subs := s.pt.subs.mapV fun _ x =>
      if x.first ≤ addr ∧ addr < x.first + x.count then { x with bits := x.bits.set addr () } else x } }

/-- The points whose flags differ from those of an earlier directory have changed: a point defined anew or no longer defined is among them
(R400, R404, R408). -/
def State.ptMarkChanges (s old : State) : State :=
  let flags (t : State) (a : Nat) : Option Nat := (t.pt.points.get? a).map Point.quality
  ((old.pt.points.keys ++ s.pt.points.keys).filter fun a => flags old a != flags s a).foldl State.ptMark s

/-- On a standby no entry of a node is defined and no batch waits: the points of nodes go, those of the module's own block stay (R407). -/
def State.dropPoints (s : State) : State :=
  { s with pt := { s.pt with points := s.pt.points.keep fun a _ => decide (a < 512), versions := [], updates := [] } }.ptMarkChanges s

/-! ### Control is lost -/

/-- An active module that holds no lease any longer is STANDBY, and its commands in flight end (R543, R64). Nodes that are only
unreachable may still hold it. -/
def State.loseActive (s : State) : State :=
  if s.isActive ∧ s.hasLease = false ∧ s.ring.raiseTo = none ∧ (s.ring.nodes.any fun e => e.2.state == 5) = false then
    let t := s.endCommands
    { t with pair := { t.pair with role := ROLE_STANDBY, split := false } }.dropPoints
  else s

/-- A module may claim lapsed nodes (R152, R544, R547): with no partner configured; else as a standby while the partner is not seen to start,
and at position 1 once its start wait has passed; a module that has just become active goes on to claim nodes that did not lapse under it while
its partner is not seen ACTIVE. One that has released leaves its nodes to its partner for the 2 ms in which R25 claims them
(DEDUCED, assumption 46). -/
def State.mayClaim (s : State) : Bool :=
  if s.partnerConfigured = false then s.pair.role == ROLE_ACTIVE || s.pair.role == ROLE_STANDBY
  else
    let kept := match s.pair.releaseAt with
      | some t => decide (s.now < t + 2 * ms)
      | none => false
    (s.pair.role == ROLE_STANDBY || (s.pair.role == ROLE_ACTIVE && !s.partnerIs ROLE_ACTIVE)) && !s.partnerIs ROLE_STARTING && !kept && (s.pn PAR_PAIR_POSITION == 0 || s.pair.waitDone)

/-- ISSUER: the position in the pair; 0 when unpaired (R143). -/
def State.issuer (s : State) : Nat := if s.partnerConfigured then s.pn PAR_PAIR_POSITION else 0

/-- The beacon of this module at its ring cycle, under an epoch and with its flags (R427). -/
def State.beacon (s : State) (epoch flags nodes : Nat) : List Byte :=
  beaconBytes s.ring.cycle.toNat epoch s.issuer flags (s.pn PAR_PAIR_LEASE_MS) nodes

/-- The ring cage by which a node is served. -/
def State.cageOf (s : State) (n : Nat) : Nat := 2 * s.nodeRing n + (s.node n).side

/-- The cages on which the module emits cycles (R157, R546): all while it is active or releasing, and as a standby those by which it reaches the nodes that
it claims; it forwards on the others. -/
def State.emitCages (s : State) : List Nat :=
  if s.isActive ∨ s.pair.role = ROLE_RELEASING then [0, 1, 2, 3]
  else if s.pair.role = ROLE_STANDBY ∧ s.mayClaim then
    [0, 1, 2, 3].filter fun c => s.ring.nodes.any fun e => e.2.state == 6 && s.cageOf e.1 == c
  else []

/-- The module emits cycles on at least one cage. -/
def State.emitsCycles (s : State) : Bool := !s.emitCages.isEmpty

end Sys2Proof.Machine
end

