-- ==== Sys2Proof/Machine/Ring.lean ====
section
/-!
DEFINITION. The Mirterlink ring (chapter 05): nodes, scans, claims, slow and lost nodes, ring states and the ring commands. The
cycle itself is in Cycle.lean.
-/
namespace Sys2Proof.Machine

/-! ### Ring states (R156) -/

/-- A ring cage, 0 to 3 for X1 to X4. -/
def State.port (s : State) (cage : Nat) : RingPort := s.ring.ports.getD cage {}

/-- The planned nodes of a ring. -/
def State.membersOf (s : State) (ring : Nat) : List Nat := s.ring.plans.keys.filter fun n => s.nodeRing n == ring

/-- Whether the own headers of a ring do not return. -/
def State.ringOpen (s : State) (ring : Nat) : Bool := if ring = 0 then s.ring.openA else s.ring.openB

/-- The state of a ring that its condition gives: 0 CLOSED, 1 OPEN, 2 PARTITIONED, 3 DOWN (R156). -/
def State.ringCond (s : State) (ring : Nat) : Nat :=
  if !(s.port (2 * ring)).lock && !(s.port (2 * ring + 1)).lock then 3
  else if (s.membersOf ring).any fun n => decide (5 ≤ (s.node n).state) then 2
  else if s.ringOpen ring then 1 else 0

/-- OWN_RETURN of a cage: the module emits on both cages of the ring, both have lock, and its headers return (R168; DEDUCED, assumption 57). -/
def State.ownReturn (s : State) (cage : Nat) : Bool :=
  let ring := cage / 2
  [2 * ring, 2 * ring + 1].all (fun c => s.emitCages.contains c && (s.port c).lock) && !s.ringOpen ring

/-- The state of a ring as held. -/
def State.ringState (s : State) (ring : Nat) : Nat := if ring = 0 then s.ring.stateA else s.ring.stateB

/-- Recomputes a ring's state; entering PARTITIONED raises source 96 and RING_PARTITION, leaving it RING_HEAL (R156, R167; the
spec names no other moment for RING_HEAL, DEDUCED, assumption 12). -/
def State.ringCheck (s : State) (ring : Nat) : State :=
  let was := s.ringState ring
  let is' := s.ringCond ring
  let t := if ring = 0 then { s with ring := { s.ring with stateA := is' } } else { s with ring := { s.ring with stateB := is' } }
  if is' = 2 ∧ was ≠ 2 then (t.report SRC_RING_PARTITION 0).raise 0x04 0x0004 ring
  else if was = 2 ∧ is' < 2 then t.raise 0x04 0x0005 ring
  else t

/-- Recomputes both rings. -/
def State.ringsCheck (s : State) : State := (s.ringCheck 0).ringCheck 1

/-- Members of a ring that have left their planned side (R138). -/
def State.ringWrapped (s : State) (ring : Nat) : Bool :=
  (s.membersOf ring).any fun n => (s.node n).state != 0 && (s.node n).side != (s.node n).home

/-- Sets whether the own headers of a ring fail to return. -/
def State.setOpen (s : State) (ring : Nat) (v : Bool) : State :=
  if ring = 0 then { s with ring := { s.ring with openA := v } } else { s with ring := { s.ring with openB := v } }

/-! ### Node states -/

/-- A frame or record of a node has arrived. -/
def State.nodeHeard (s : State) (n : Nat) : State :=
  s.updNode n fun x => { x with seenAt := s.now, lastSeen := s.ring.cycle.toNat }

/-- The stages of a node. -/
def State.stagesOf (s : State) (n : Nat) : List Nat := s.stg.stages.keys.filter fun o => o % 65536 == n

/-- What the end of a node's lease does to a stage: SOFT_START and RUNNING hold, a token is void (R233, R238). -/
def Stage.leaseEnds (x : Stage) : Stage :=
  if x.state = 3 ∨ x.state = 4 then { x with state := 5, before := x.state, token := none }
  else if x.state = 2 then { x with state := 0, token := none, owner := 0 } else { x with token := none }

/-- What a claim does to a stage: HOLD ends, a token is void (R233, R238). -/
def Stage.claimed (x : Stage) : Stage :=
  if x.state = 5 then { x with state := x.before, token := none }
  else if x.state = 2 then { x with state := 0, token := none, owner := 0 } else { x with token := none }

/-- No RUN command of the current epoch has been sent to a node's channels (R174). -/
def State.clearRun (s : State) (n : Nat) : State := { s with bas := { s.bas with sentRun := s.bas.sentRun.filter fun c => c / 32 != n } }

/-- The end of the lease of a node, with or without the fences of cause "lease" (R152, R155, R186); a generator on it stops (R211). -/
def State.leaseEnds (s : State) (n : Nat) (fence : Bool) : State :=
  let t := ((s.updNode n fun x => { x with leased := false, released := false }).genLatch (fun m => m == n) 6).clearRun n
  let t := if fence then (t.instsOf n).keys.foldl (fun u i => u.fenceInst i 3) t else t
  (t.stagesOf n).foldl (fun u o => u.updStage o Stage.leaseEnds) t

/-- A node that a claim can reach: a busbar node only while the module holds the segment (R433). -/
def State.reaches (s : State) (n : Nat) : Bool := s.nodeRing n != 2 || s.plc.master

/-- Sends a claim of a node under the issuer epoch, with the side with fewer spans (R136, R145). -/
def State.claimNode (s : State) (n : Nat) : State :=
  let side := (s.node n).best
  (s.updNode n fun x => { x with claimSide := some side }).sendClaim n (reportRecord n 0x81 (side + 128 * s.issuer) s.ring.epoch)

/-- Sends claims of nodes. -/
def State.emitClaims (s : State) (l : List Nat) : State := (l.filter s.reaches).foldl State.claimNode s

/-- Claims lapsed nodes (R152): under the issuer epoch when it is above every epoch they report, else under one above the highest;
a module that holds other nodes raises its epoch by way of three RELEASE headers first. -/
def State.claimNodes (s : State) (l : List Nat) : State :=
  let top := (l.map fun n => (s.node n).epoch).foldl max 0
  if l.isEmpty ∨ s.ring.raiseTo.isSome then s
  else if top < s.ring.epoch then s.emitClaims l
  else if s.hasLease then { s with ring := { s.ring with raiseTo := some (max top s.ring.epoch + 1), raiseLeft := 3 } }
  else { s with ring := { s.ring with epoch := top + 1 } }.emitClaims l

/-- A module that may claim claims the lapsed nodes; the active module of a pair none that has lapsed under it (R152, R544). -/
def State.claimLapsed (s : State) : State :=
  let under (x : Node) : Bool := s.isActive && s.partnerConfigured && x.ownLapse
  if s.mayClaim then
    s.claimNodes ((s.ring.nodes.filter fun e => e.2.state == 6 && !under e.2 && s.reaches e.1).map Prod.fst)
  else s

/-- The end of an epoch raise: the new epoch, and claims of the nodes it held and of the lapsed ones, at a heal those of both halves (R152,
R556). The RELEASE headers have ended the leases of the nodes it held; a claim under the old epoch that still waits is not sent. -/
def State.raiseEpoch (s : State) (e : Nat) : State :=
  let l := (s.ring.nodes.filter fun x => x.2.leased || x.2.state == 6 || (s.pair.healing && x.2.state == 7)).map Prod.fst
  let held (x : Node) : Node := { x with released := x.released || x.leased }
  let t := { s with ring := { s.ring with epoch := e, raiseTo := none, raiseLeft := 0, nodes := s.ring.nodes.mapV fun _ x => held x,
                                          queues := s.ring.queues.mapV fun _ q => { q with claims := [] } } }.emitClaims l
  if s.pair.healing then
    let u := ({ t with pair := { t.pair with healing := false, healSeen := false, split := false } }).raise 0x13 0x0008 (t.pn PAR_PAIR_POSITION)
    if u.pair.sync = SYNC_SYNCHRONISED then u.setSync SYNC_SYNCING else u
  else t

/-- NODE_SILENCE (R155): nothing received on either side of the ring for 1 ms; a busbar node, which is heard once per poll cycle, sits on
no side (DEDUCED, assumption 39). -/
def execNodeSilence (node : Nat) (s : State) : Host.Outcome State Fault Refusal :=
  let x := s.node node
  if x.state ≠ 0 ∧ x.state ≠ 5 ∧ s.nodeRing node ≠ 2 ∧ x.seenAt + ms ≤ s.now then
    let t := s.updNode node fun x => { x with state := 5, before := x.state, leased := false }
    .next (((t.raise 0x04 0x0006 node).report SRC_NODE_LOST node).ringsCheck)
  else .next s

/-- The state of a node after its loss, with any demotion and any fences set or lifted meanwhile (R155). -/
def State.stateBack (s : State) (n : Nat) : Nat :=
  let x := s.node n
  let free := if x.demoted then 3 else 2
  if x.before < 2 ∨ 4 < x.before then x.before
  else if s.held 2 n 2 then 4
  else if x.before = 4 ∧ (s.instsOf n).any (fun e => e.2.state == 4) then 4
  else free

/-- NODE_FRAMES_AGAIN (R155): frames with this module's epoch. -/
def execNodeFramesAgain (node epoch : Nat) (s : State) : Host.Outcome State Fault Refusal :=
  if (s.node node).state = 5 ∧ epoch = s.ring.epoch then
    let t := s.updNode node fun x => { x with state := s.stateBack node, epoch := epoch, leased := decide (x.before = 2 ∨ x.before = 3 ∨ x.before = 4) }
    .next (((t.nodeHeard node).raise 0x04 0x0007 node).ringsCheck)
  else .next s

/-- The partner's cycle headers arrive on the cage by which a node under its epoch is seen (R168; DEDUCED, assumption 57). -/
def State.portForeign (s : State) (n : Nat) : State :=
  let cage := s.cageOf n
  if s.nodeRing n < 2 then { s with ring := { s.ring with ports := s.ring.ports.set cage { s.port cage with foreign := true } } } else s

/-- No header of the partner arrives on any cage: it has ceased to emit. -/
def State.portsOwn (s : State) : State := { s with ring := { s.ring with ports := s.ring.ports.mapV fun _ p => { p with foreign := false } } }

/-- The module itself is the member at which two issuers meet: it emits on a cage on which the partner's headers arrive (R157; DEDUCED, assumption 57). -/
def State.ownHeal (s : State) : State :=
  if s.isActive ∧ s.emitCages.any (fun c => (s.port c).foreign) then { s with pair := { s.pair with healSeen := true } } else s

/-- FOREIGN_NODE_SEEN (R155, R157): a lapsed or unreachable node under another epoch. -/
def execForeignNodeSeen (node epoch : Nat) (s : State) : Host.Outcome State Fault Refusal :=
  let x := s.node node
  if (x.state = 5 ∨ x.state = 6) ∧ epoch ≠ s.ring.epoch then
    let t := s.updNode node fun x => { x with state := 7, epoch := epoch, leased := false }
    .next ((((t.nodeHeard node).portForeign node).raise 0x04 0x0008 node).ringsCheck.loseActive.ownHeal)
  else .next s

/-- An instance of a node whose lease begins anew: a lease fence is lifted, and one that drives resumes with a tracking start
(R152, R186, R190), one that is FROZEN takes the command that its node applies, or both go on from their own state as KEEP (R561). -/
def Inst.reclaimed (keep : Bool) (x : Inst) : Inst :=
  let y := liftFence x 3
  if y.state = 2 then (if keep then { y with first := true } else { y with track := true, trackFrom := none, first := true })
  else if y.state = 3 ∧ keep = false then { y with track := true, trackFrom := none, first := true }
  else y

/-- Whether R147 forbids an instance's present rate at its node's distance. -/
def State.tooFast (s : State) (i : Nat) : Bool := !s.nodeFits (coefNode (s.coef i)) (s.inst i).k

/-- What a new distance does to one instance (R148, R181); a start that waits and finds no half rate ends in its due window. -/
def State.fitInst (s : State) (i : Nat) : State :=
  let x := s.inst i
  if s.tooFast i = false ∨ x.state = 4 then s
  else if x.half = false ∧ s.nodeFits (coefNode (s.coef i)) (2 * x.k) ∧ canHalve (s.coef i) then s.halveInst i
  else if drives x then s.report0 SRC_BAS_RATE i else s

/-- Applies R148 to a node's instances; the node is DEMOTED when one runs at half rate and FENCED when every one is fenced (R155). The event is
RING_NODE_DEMOTED also where some are fenced and none is halved (DESIGN CHOICE, assumption 131). -/
def State.fitNode (s : State) (n : Nat) : State :=
  let l := (s.instsOf n).keys
  let bad := l.filter fun i => s.tooFast i && (s.inst i).state != 4
  let t := l.foldl State.fitInst s
  if (bad.filter fun i => drives (s.inst i)).isEmpty then t
  else
    let d := (l.map t.inst).filter drives
    if d.all fun x => x.state == 4 then (t.updNode n fun x => { x with state := if x.state = 2 ∨ x.state = 3 then 4 else x.state }).raise 0x04 0x0002 n
    else if d.any fun x => x.half then
      (t.updNode n fun x => { x with demoted := true, state := if x.state = 2 then 3 else x.state }).raise 0x04 0x0001 n
    else t.raise 0x04 0x0001 n

/-- Writes the distance and the path delay of a node by a side. -/
def Node.setPath (x : Node) (side : Nat) (spans delayNs : Option Nat) : Node :=
  if side = 0 then { x with west := spans, delayWest := delayNs } else { x with east := spans, delayEast := delayNs }

/-- The path of a node by a side: distance and delay. -/
def Node.path (x : Node) (side : Nat) : Option Nat × Option Nat := if side = 0 then (x.west, x.delayWest) else (x.east, x.delayEast)

/-- What a claim of a node does that it has accepted (R151, R155): its lease, side and paths, the state it returns to, its instances and stages, its configuration, and whether
its loops fit the new distance. -/
def State.claimTaken (s : State) (node epoch side hops : Nat) : State :=
  let x := s.node node
  let side := x.claimSide.getD side
  let keep := s.pair.ownEngines && decide (s.now ≤ x.endedAt + s.pn PAR_RING_HOLD_US * us)
  let t := (s.updNode node fun x => 
    { x.setPath side (some hops) (x.path side).2 with epoch := epoch, side := side, home := side, hops := hops, leased := true, missed := 0,
                                                      released := false, claimSide := none, issuer := s.issuer }).becomeActive x.epoch
  let st := if t.held 2 node 2 then 4 else if (t.node node).demoted then 3 else 2
  let t := t.updNode node fun x => { x with state := st }
  let t := (t.instsOf node).keys.foldl (fun u i => u.updInst i (Inst.reclaimed keep)) ((t.nodeHeard node).clearRun node)
  let t := (t.stagesOf node).foldl (fun u o => u.updStage o Stage.claimed) t
  ((t.sendConfig node).fitNode node).ringsCheck

/-- CLAIM_ACCEPTED (R136, R151, R155, R543): a node whose lease has ended takes a higher epoch, the side of the claim and the issuer, and its
configuration is resent; a standby becomes ACTIVE and takes over. A node that was demoted and not restored is DEMOTED again (R154, DEDUCED, assumption 13). -/
def execClaimAccepted (node epoch side hops : Nat) (s : State) : Host.Outcome State Fault Refusal :=
  let x := s.node node
  if epoch = s.ring.epoch ∧ x.state ≠ 0 ∧ x.state ≠ 1 ∧ x.state ≠ 5 ∧ (x.leased = false ∨ x.released) ∧ x.epoch < epoch then .next (s.claimTaken node epoch side hops)
  else .next s

/-- A LAPSED or RELEASED report of a node (R155): its lease ends, with the lease fences unless the module's own epoch raise is the cause
(R152, R558), and it is claimed where the module may. -/
def State.leaseReport (s : State) (node epoch : Nat) (released : Bool) : State :=
  let x := s.node node
  if (2 ≤ x.state ∧ x.state ≤ 5) ∨ x.state = 7 then
    let mine := x.leased || x.state == 5
    let own := released = true ∧ mine = true ∧ (s.ring.raiseTo.isSome ∨ epoch < s.ring.epoch)
    let t := (s.leaseEnds node (mine && !decide own)).updNode node fun x => { x with state := 6, epoch := epoch, endedAt := s.now, ownLapse := mine && !decide own }
    let t := if own then t else t.claimLapsed
    t.ringsCheck.loseActive
  else if x.state = 6 then s.claimLapsed
  else s

/-- A node is served from a side (R138, R139): the side that it has left on a wrap reaches it no longer; a first wrap of its ring raises RING_WRAP, and the
end of the last one closes the ring. -/
def State.serveFrom (s : State) (n side : Nat) (spans delayNs : Option Nat) : State :=
  let ring := s.nodeRing n
  let x := s.node n
  let left := if side ≠ x.side ∧ side ≠ x.home then x.setPath x.side none none else x
  let t := s.updNode n fun _ => { left.setPath side spans delayNs with side := side, hops := spans.getD x.hops }
  if t.ringWrapped ring ∧ s.ringWrapped ring = false then (t.report SRC_RING_WRAP 0).raise 0x04 0x0003 ring
  else if s.ringWrapped ring ∧ t.ringWrapped ring = false then t.setOpen ring false else t

/-- A port of a node goes down or comes up (R145); with no main port of a ring's members down any longer, the own headers return on it (DEDUCED,
assumption 71). -/
def State.portReport (s : State) (n port : Nat) (down : Bool) : State :=
  let b := BitVec.ofNat 4 (2 ^ (port % 4))
  let t := s.updNode n fun x => { x with portsDown := if down then x.portsDown ||| b else x.portsDown &&& ~~~b }
  let ring := t.nodeRing n
  let broken := (t.membersOf ring).any fun m => (t.node m).portsDown &&& 3 != 0
  if !down ∧ port < 2 ∧ !broken then t.setOpen ring false else t

/-- REPORT_RECORD (R145, R149, R155, R157): codes 1 LAPSED, 2 RELEASED, 3 PORT_DOWN, 4 PORT_UP, 5 SWITCHED, 6 HEAL_SEEN. A release
that an epoch raise of this module causes sets no fence (R152). SWITCHED moves a node without loops to its other side; one with loops says it in its first
loop frame from there (R138). -/
def execReportRecord (node code arg epoch : Nat) (s : State) : Host.Outcome State Fault Refusal :=
  let x := s.node node
  if x.state = 0 then .next s
  else
    let t := s.nodeHeard node
    match code with
    | 1 => .next (t.leaseReport node epoch false)
    | 2 => .next (t.leaseReport node epoch true)
    | 3 => .next (t.portReport node arg true).ringsCheck
    | 4 => .next (t.portReport node arg false).ringsCheck
    | 5 =>
      if (t.instsOf node).isEmpty then .next (t.serveFrom node (1 - x.side) (x.path (1 - x.side)).1 (x.path (1 - x.side)).2).ringsCheck
      else .next t
    | 6 => .next { t with pair := { t.pair with healSeen := true } }
    | _ => .next t

/-- A demotion that missed slots caused which do not count is taken back: the node is what it was, its instances return to their full rates in the next
windows due under both periods, and the hold goes (R154; DEDUCED, assumption 130). -/
def State.undoDemotion (s : State) (n : Nat) : State := match (s.node n).undo with
  | none => s
  | some (l, was) =>
    let t := s.updNode n fun x => { x with undo := none, demoted := was, state := if x.state = 3 ∧ was = false then 2 else x.state }
    let t := l.foldl (fun (u : State) i => if (u.inst i).half then u.updInst i fun y => { y with lift := some u.ring.window } else u) t
    ({ t with flt := { t.flt with holds := t.flt.holds.filter fun h => !(h.source == SRC_NODE_DEMOTED && h.object == n) } }).noteDegraded

/-- A node's first frame from another side: the slots missed just before it are taken back, and its path, its alignment and its loops follow (R138, R139, R141, R148, R154). -/
def State.switchedTo (s : State) (node side : Nat) (hops : PathMeasure) : State :=
  let x := s.node node
  let recent := (x.missAt.filter fun t => decide (s.now ≤ t + 100 * us)).length
  let left := x.missed - recent
  let t := if left < 3 ∧ 3 ≤ x.missed then s.undoDemotion node else s
  let t := t.updNode node fun x => { x with missed := left, missedTotal := x.missedTotal - recent, missAt := [] }
  let t := (t.nodeHeard node).serveFrom node side (some hops.spans) (some hops.delayNs)
  ((t.sendConfig node).fitNode node).ringsCheck

/-- SWITCHED_FRAME (R138, R139, R141, R148, R154): the first frame of a node from its new side, with its new distance and path delay, to which the node
aligns its sampling. Slots missed in the 100 µs before it do not count. -/
def execSwitchedFrame (node side : Nat) (hops : PathMeasure) (s : State) : Host.Outcome State Fault Refusal :=
  if (s.node node).state = 0 then .next s else .next (s.switchedTo node side hops)

/-- Counts a missed slot (R154): 3 consecutive ones demote the node's instances, 8 further fence them. -/
def State.missSlot (s : State) (n : Nat) : State :=
  let m := (s.node n).missed + 1
  let full (u : State) : List Nat := (u.instsOf n).keys.filter fun i => !(u.inst i).half
  let t := s.updNode n fun x =>
    { x with missed := min m 65535, missedTotal := min (x.missedTotal + 1) (2 ^ 32 - 1), answered := 0,
             missAt := s.now :: x.missAt.filter fun t => decide (s.now ≤ t + 100 * us) }
  if m = 3 ∧ ((t.node n).demoted = false ∨ full t ≠ []) then
    let was := (t.node n).demoted
    let u := t.report SRC_NODE_DEMOTED n
    let u := u.updNode n fun x => { x with undo := some ((full t).filter fun i => (u.inst i).half, was) }
    if was then u else u.raise 0x04 0x0001 n
  else if m = 11 then (t.report SRC_NODE_FENCED n).raise 0x04 0x0002 n
  else t

/-- Counts an answered slot (R154). -/
def State.answerSlot (s : State) (n window : Nat) : State :=
  s.updNode n fun x => { x with missed := 0, answered := min (x.answered + 1) 1000, lastWin := window + 1 }

/-- OWN_HEADERS_NOT_RETURNED (R156). -/
def execOwnHeadersNotReturned (ring : Nat) (s : State) : Host.Outcome State Fault Refusal :=
  if ring < 2 then
    .next (s.setOpen ring true).ringsCheck
  else .next s

/-- A ring cage gains or loses block lock (R156, R160, R168): with both cages of a ring locked again the own headers return, and after a cold start the
scan of that ring begins. -/
def State.cageLock (s : State) (cage : Nat) (lock : Bool) : State :=
  if cage < 4 then
    let t := { s with ring := { s.ring with ports := s.ring.ports.set cage { s.port cage with lock := lock, los := !lock, foreign := (s.port cage).foreign && lock } } }
    let both := (t.port (2 * (cage / 2))).lock && (t.port (2 * (cage / 2) + 1)).lock
    let t := if both then t.setOpen (cage / 2) false else t
    let first := both && !t.ring.enumRings.contains (cage / 2) && !t.ring.enumWait.contains (cage / 2)
    let t := if first then { t with ring := { t.ring with enumWait := t.ring.enumWait ++ [cage / 2] } } else t
    t.ringsCheck
  else s

/-- The transmitter of a cage is enabled; without it the port shows no lock (R611). -/
def State.cageLit (s : State) (cage : Nat) : Bool := (s.pins.optics.getD cage {}).tx

/-- CAGE_LOCK_CHANGE (R156, R168). -/
def execCageLockChange (cage : Nat) (lock : Bool) (s : State) : Host.Outcome State Fault Refusal := .next (s.cageLock cage (lock && s.cageLit cage))

/-! ### Scans (R160) -/

/-- The order of R158: ring, side and distance. -/
def scanBefore (a b : ScanMember) : Bool :=
  decide (a.ring < b.ring ∨ (a.ring = b.ring ∧ (a.side < b.side ∨ (a.side = b.side ∧ a.hops ≤ b.hops))))

/-- A member put into its place of the order. -/
def scanInsert (m : ScanMember) : List ScanMember → List ScanMember
  | [] => [m]
  | x :: l => if scanBefore m x then m :: x :: l else x :: scanInsert m l

/-- The members in the order of R158. -/
def scanSort (l : List ScanMember) : List ScanMember := l.foldr scanInsert []

/-- The planned address of an identity. -/
def State.planOf (s : State) (identity : List Byte) : Option Nat :=
  (s.ring.plans.find? fun e => e.2.take 16 == padTo 16 identity).map Prod.fst

/-- A position or distance other than planned (R160). -/
def planMismatch (r : Rec) (m : ScanMember) : Bool :=
  fld r 19 1 != m.ring || fld r 20 2 != m.parent || fld r 22 1 != m.port || (fld r 24 2 != 0 && fld r 24 2 != m.hops)

/-- What a scan has found so far: matched, unplanned and mismatched members, the addresses to claim, the matched addresses, and the assigned addresses that
have answered. -/
structure ScanSum where
  found : Nat := 0
  unplanned : Nat := 0
  mismatch : Nat := 0
  claim : List Nat := []
  seen : List Nat := []
  used : List Nat := []
  deriving DecidableEq, Repr

/-- The live record of a member that answers a scan. -/
def State.scanned (s : State) (m : ScanMember) (st : Nat) (mis : Bool) : Node :=
  { state := st, side := m.side, home := m.side, hops := m.hops, hopsWrap := m.hopsWrap, west := m.west, east := m.east, delayWest := m.delayWest,
    delayEast := m.delayEast, parent := m.parent, branch := m.port, epoch := m.epoch, seenAt := s.now, lastSeen := s.ring.cycle.toNat, ring := m.ring,
    mismatch := mis }

/-- A member that becomes UNPLANNED under an assigned address (R155, R158, R160); one already known keeps its address. -/
def State.scanUnplanned (s : State) (acc : ScanSum) (m : ScanMember) : ScanSum × State :=
  let known := s.ring.nodes.find? fun e => e.2.state == 1 && e.2.identity == padTo 16 m.identity && !acc.used.contains e.1
  let acc' := { acc with found := acc.found + 1, unplanned := acc.unplanned + 1 }
  match known.map Prod.fst with
  | some a => ({ acc' with used := a :: acc.used }, s)
  | none => match s.ring.nodes.freeFrom 0x1000 0xEFFF with
    | none => (acc', s)
    | some a =>
      let t := { s with ring := { s.ring with nodes := s.ring.nodes.set a { s.scanned m 1 false with identity := padTo 16 m.identity } } }
      ({ acc' with used := a :: acc.used }, t.raise 0x04 0x000A a)

/-- A planned member that is known but not online answers (R160): its position and paths are taken anew; it is LAPSED where its lease has ended. -/
def State.rescanned (s : State) (m : ScanMember) (mis : Bool) (x : Node) : Node :=
  let y := s.scanned m x.state mis
  { x with west := y.west, east := y.east, delayWest := y.delayWest, delayEast := y.delayEast, hopsWrap := y.hopsWrap, ring := y.ring, parent := y.parent,
           branch := y.branch, mismatch := mis, seenAt := s.now, lastSeen := y.lastSeen, state := if m.lapsed then 6 else x.state,
           epoch := if m.lapsed then m.epoch else x.epoch, leased := x.leased && !m.lapsed }

/-- One member of a scan (R160): the first with an identity is matched to its planned address, each other is UNPLANNED. `all`: the scan covers the members
that are online as well. -/
def State.scanOne (all : Bool) (acc : ScanSum × State) (m : ScanMember) : ScanSum × State :=
  let s := acc.2
  match s.planOf m.identity with
  | none => s.scanUnplanned acc.1 m
  | some a =>
    let x := s.node a
    let online : Bool := decide (2 ≤ x.state ∧ x.state ≤ 4)
    if acc.1.seen.contains a ∨ (online ∧ all = false) then s.scanUnplanned acc.1 m
    else
      let mis := planMismatch (s.ring.plans.getD a []) m
      let live := s.ring.nodes.keep fun _ x => !(x.state == 1 && x.identity == padTo 16 m.identity)
      let y := if x.state = 0 then s.scanned m 2 mis else s.rescanned m mis x
      let t := { s with ring := { s.ring with nodes := live.set a y } }
      let t := if x.state = 0 then (t.sendConfig a).fitNode a else t
      let t := if mis && !(online && x.mismatch) then t.raise 0x04 0x0009 a else t
      let b := acc.1
      ({ b with found := b.found + 1, mismatch := b.mismatch + (if mis then 1 else 0), seen := a :: b.seen,
                claim := if m.lapsed then b.claim ++ [a] else b.claim }, t)

/-- A scan over the members that answer (R160): lapsed matched members are claimed, or wait as LAPSED until the module may claim
(R544). -/
def State.scan (s : State) (all : Bool) (members : List ScanMember) : ScanSum × State :=
  let r := (scanSort members).foldl (State.scanOne all) ({}, s)
  let t := if r.2.isActive ∨ r.2.mayClaim then r.2.claimNodes r.1.claim
    else r.1.claim.foldl (fun u n => u.updNode n fun x => { x with state := 6 }) r.2
  let t := { t with ring := { t.ring with enumDone := true }, pair := { t.pair with firstScan := some (t.pair.firstScan.getD t.now) } }
  (r.1, t.ringsCheck)

/-- ENUMERATION_SCAN (R160): the members of one ring. -/
def execEnumerationScan (ring : Nat) (members : List ScanMember) (s : State) : Host.Outcome State Fault Refusal :=
  let t := { s with ring := { s.ring with enumWait := s.ring.enumWait.filter fun r => r != ring,
                                          enumRings := if s.ring.enumRings.contains ring then s.ring.enumRings else s.ring.enumRings ++ [ring] } }
  .next (t.scan true (members.filter fun m => m.ring == ring)).2

/-- A scan runs: a RING_SCAN, or that of a ring after a cold start (R164, R168). -/
def State.scanning (s : State) : Bool := s.ring.scan.isSome || !s.ring.enumWait.isEmpty

/-- The place at which a known node answered differs from its record (R160, R162). -/
def Node.misplaced (x : Node) (r : Rec) : Bool :=
  fld r 19 1 != x.ring || fld r 20 2 != x.parent || fld r 22 1 != x.branch || (fld r 24 2 != 0 && fld r 24 2 != x.hops)

/-- The nodes that are online under a changed record are held against it (R160, R162). -/
def State.replace (s : State) (a : Nat) (r : Rec) : State :=
  let x := s.node a
  let mis := x.misplaced r
  if 2 ≤ x.state ∧ x.state ≤ 4 then
    let t := s.updNode a fun x => { x with mismatch := mis }
    if mis && !x.mismatch then t.raise 0x04 0x0009 a else t
  else s

/-- The end of a RING_SCAN (R160, R162, R164): changes of position take effect. -/
def State.scanEnd (s : State) (w : RingScan) : State :=
  let t := { s with ring := { s.ring with scan := none, moved := [] } }
  let t := t.ring.plans.foldl (fun (u : State) e => u.replace e.1 e.2) t
  let r := t.scan false w.members
  let missing := (r.2.ring.plans.keys.filter fun n => (r.2.node n).state == 0).length
  r.2.okUid w.uid (pack [(4, r.1.found), (2, r.1.unplanned), (2, missing), (2, r.1.mismatch)])

/-- A RING_SCAN whose time has come ends with a ring cycle (R164; assumption 14). -/
def State.scanDue (s : State) : State := match s.ring.scan with
  | some w => if w.due ≤ s.now then s.scanEnd w else s
  | none => s

/-- The effect of RING_SCAN up to its end, with the members that answer and are not yet online (R164); how long it takes, up to 1 s, is a free value. -/
def ringScan (members : List ScanMember) (c : InFlight) (s : State) : State :=
  if s.scanning then s.fail c.uid ST_BUSY
  else
    let d := s.draw
    { d.2 with ring := { d.2.ring with scan := some ⟨c.uid, s.now + d.1 % (sec + 1), members⟩ } }

def execRingScan (q tag : Nat) (members : List ScanMember) (s : State) : Host.Outcome State Fault Refusal :=
  startCommand 0x0402 q tag s (ringScan members)

/-! ### Commands -/

/-- A planned node record within its ranges (R159, R162 check 1). -/
def nodeRecOk (a : Nat) (r : Rec) : Bool :=
  fld r 16 2 == a && decide (1 ≤ fld r 18 1 ∧ fld r 18 1 ≤ 3) && decide (fld r 19 1 ≤ 2) && decide (fld r 20 2 ≤ 0x0FFF) &&
  decide (fld r 22 1 ≤ 1) && (fld r 20 2 != 0 || fld r 22 1 == 0) && decide (fld r 23 1 ≤ 3) && decide (fld r 24 2 ≤ 1023) && zeros r 26 6

/-- Identity and anchor agree with the other records (R162 check 2). -/
def State.nodeRecFits (s : State) (a : Nat) (r : Rec) : Bool :=
  let others := s.ring.plans.keep fun b _ => b != a
  !(others.any fun e => e.2.take 16 == r.take 16) && (!bit (fld r 23 1) 0 || (fld r 18 1 == 3 && !(others.any fun e => bit (fld e.2 23 1) 0)))

/-- The node is named by a cap map, has a share, or has an armed instance (R162 check 3). -/
def State.nodeInUse (s : State) (a : Nat) : Bool :=
  (s.lv.capmaps.vals.any fun r => (capEntries r).any fun e => e.1 == a) || s.lv.shares.getD a 0 != 0 ||
  s.bas.insts.any fun e => drives e.2 && coefNode (s.coef e.1) == a

/-- The node table stays within the limits of R30: 256 cabinet nodes and 128 dispenser nodes; a record beyond them is out of range, as check 1 of R162
says of a field (DEDUCED, assumption 124). -/
def State.nodeKindFits (s : State) (a : Nat) (r : Rec) : Bool :=
  let n := (s.ring.plans.keep fun b o => b != a && fld o 18 1 == fld r 18 1).length
  if fld r 18 1 = 1 then decide (n < 256) else if fld r 18 1 = 2 then decide (n < 128) else true

/-- The effect of RING_NODE_SET (R162); a change of position waits for the next RING_SCAN. -/
def ringNodeSet (c : InFlight) (s : State) : State :=
  let a := c.desc.object
  let old := s.plan a
  match c.record 32 with
  | none => s.fail c.uid ST_BAD_PARAM
  | some r =>
    let newId := allZero r || (old.map fun o => o.take 16 != r.take 16) == some true
    if a = 0 ∨ 0x0FFF < a ∨ (allZero r = false ∧ ¬(nodeRecOk a r ∧ s.nodeKindFits a r ∧ s.nodeRecFits a r)) then s.fail c.uid ST_BAD_PARAM
    else if old.isSome ∧ newId ∧ s.nodeInUse a then s.fail c.uid ST_BUSY
    else
      let here (o : Rec) : Bool := (o.drop 19).take 4 == (r.drop 19).take 4
      let t := { s with ring := { s.ring with plans := if allZero r then s.ring.plans.del a else s.ring.plans.set a r,
                                              moved := if newId ∨ (s.place a).all here then s.ring.moved.del a else s.ring.moved.put a (s.place a),
                                              nodes := if newId then s.ring.nodes.del a else s.ring.nodes },
                           plc := { s.plc with nodes := if newId then s.plc.nodes.del a else s.plc.nodes } }
      t.ringsCheck.ok c []

def execRingNodeSet (q tag : Nat) (s : State) : Host.Outcome State Fault Refusal := startCommand 0x0400 q tag s ringNodeSet

/-- The highest rate code that a node allows at a distance (R163, R428). -/
def State.rateMaxOf (s : State) (n d : Nat) : Nat :=
  if s.nodeRing n = 2 then (if s.nodeFits n 1000 then 1 else 0) else rateMax d

/-- A live record of RING_NODE_READ (R163). -/
def State.nodeRecord (s : State) (a : Nat) : List Byte :=
  match s.ring.nodes.get? a with
  | none => if (s.plan a).isSome then padTo 32 (pack [(2, a)]) else List.replicate 32 0
  | some x => pack [(2, a), (1, x.state), (1, x.side), (2, x.hops), (2, x.hopsWrap), (1, s.rateMaxOf a x.hops), (1, s.rateMaxOf a x.hopsWrap), (2, x.missed),
      (4, x.epoch), (4, x.missedTotal), (4, x.crcErr), (4, x.lastSeen), (4, 0)]

/-- The effect of RING_NODE_READ (R163). -/
def ringNodeRead (c : InFlight) (s : State) : State :=
  let first := c.desc.u 32 2
  let n := c.desc.u 34 2
  if n = 0 ∨ 1024 < n ∨ c.desc.dataLen < 32 * n ∨ 0xFFFF < first + n then s.fail c.uid ST_BAD_PARAM
  else s.answer c [] ((List.range n).flatMap fun j => s.nodeRecord (first + j))

def execRingNodeRead (q tag : Nat) (s : State) : Host.Outcome State Fault Refusal := startCommand 0x0401 q tag s ringNodeRead

/-- The instances of a node that run at half rate. -/
def State.halved (s : State) (a : Nat) : List Nat := (s.instsOf a).keys.filter fun i => (s.inst i).half

/-- A node is no longer DEMOTED; its halved instances return to their rates in the next windows due under both periods (R154, R181). -/
def State.restoreNode (s : State) (a : Nat) : State :=
  let t := s.updNode a fun x => { x with state := 2, demoted := false }
  let t := { t with plc := { t.plc with nodes := t.plc.nodes.upd a fun x => { x with fromOver := false } } }
  (s.halved a).foldl (fun u i => u.updInst i fun y => { y with lift := some s.ring.window }) t

/-- The effect of RING_NODE_RESTORE (R165, R181). -/
def ringNodeRestore (c : InFlight) (s : State) : State :=
  let a := c.desc.object
  let x := s.node a
  if x.state ≠ 3 then s.fail c.uid ST_BAD_PARAM
  else if x.answered < 1000 then s.fail c.uid ST_BUSY
  else if ((s.halved a).all fun i => s.nodeFits a ((s.inst i).k / 2)) = false then s.fail c.uid ST_BAD_PARAM
  else (s.restoreNode a).ok c []

def execRingNodeRestore (q tag : Nat) (s : State) : Host.Outcome State Fault Refusal := startCommand 0x0403 q tag s ringNodeRestore

end Sys2Proof.Machine
end

