-- ==== Sys2Proof/Machine/TuneOps.lean ====
section
/-!
DEFINITION. Taps, trace buffers and injection generators as evaluations and windows use them (R203 to R211).
-/
namespace Sys2Proof.Machine

/-! ### Generator records (R216) -/

def genInst (r : Rec) : Nat := fld r 0 2
def genWave (r : Rec) : Nat := fld r 2 1
def genPoint (r : Rec) : Nat := fld r 3 1
def genAmp (r : Rec) : Nat := fld r 4 2
def genTap (r : Rec) : Nat := fld r 6 1
def genDecim (r : Rec) : Nat := fld r 7 1
def genLength (r : Rec) : Nat := fld r 8 4
def genF0 (r : Rec) : Nat := fld r 12 4
def genF1 (r : Rec) : Nat := fld r 16 4
def genSeed (r : Rec) : Nat := fld r 20 2
def genHold (r : Rec) : Nat := fld r 22 2
def genDelay (r : Rec) : Nat := fld r 24 4

/-- Evaluations for which a generator runs (R208). -/
def genTotal (r : Rec) : Nat := genLength r * genDecim r

/-! ### Waveforms (R208) -/

/-- Pi / 2 in units of 2^-64, rounded down. -/
def halfPi64 : Nat := 28976077832308491369

/-- The Taylor series of the sine from a term on, in units of 2^-64. -/
def sinTail : Nat → Nat → Int → Int → Int
  | 0, _, _, _ => 0
  | n + 1, k, x2, t => t + sinTail n (k + 2) x2 (-(t * x2 / 2 ^ 64 / ((k + 1) * (k + 2) : Nat)))

/-- The sine of the angle 2 pi phi / 2^32 in units of 2^-64, with an error far below 2^-50. -/
def sin64 (phi : Nat) : Int :=
  let q := phi / 2 ^ 30 % 4
  let r := phi % 2 ^ 30
  let a := if q % 2 = 0 then r else 2 ^ 30 - r
  let x : Int := (a * halfPi64 / 2 ^ 30 : Nat)
  let v := sinTail 16 1 (x * x / 2 ^ 64) x
  if q < 2 then v else -v

/-- round(AMP x sin(2 pi phi / 2^32)); free where the value lies too near the middle of two whole numbers to be told. -/
def State.sineAt (s : State) (amp phi : Nat) : Int × State :=
  let v : Int := amp * sin64 phi + 2 ^ 63
  let lo := floorDiv (v - 2 ^ 20) (2 ^ 64)
  let hi := floorDiv (v + 2 ^ 20) (2 ^ 64)
  if lo = hi then (lo, s) else (lo + (s.draw.1 % 2 : Nat), s.draw.2)

/-- A step of the 15-bit shift register of x^15 + x^14 + 1: the new bit is the sum of the last two stages (R208; DEDUCED, assumption 133). -/
def lfsrStep (v : Nat) : Nat := (2 * v + (if v.testBit 14 != v.testBit 13 then 1 else 0)) % 2 ^ 15

/-- inj(n) of a generator, 0 past its length (R208). -/
def State.injAt (s : State) (g : Gen) : Int × State :=
  let r := g.cfg
  if genTotal r ≤ g.n then (0, s)
  else match genWave r with
    | 0 => s.sineAt (genAmp r) g.phi
    | 1 => (if g.n < genDelay r then 0 else genAmp r, s)
    | 2 => (if g.lfsr.testBit (Config.prbsTap % 15) then genAmp r else -(genAmp r : Int), s)
    | _ => s.sineAt (genAmp r) g.phi

/-- The phase increment of a generator at its present evaluation; the rounding of a negative quotient of the chirp is open. -/
def State.injStep (s : State) (g : Gen) : Int × State :=
  let r := g.cfg
  if genWave r = 3 then
    let num : Int := ((genF1 r : Int) - genF0 r) * g.n
    let q := if num < 0 then s.roundDiv num (max 1 (genTotal r)) else (floorDiv num (max 1 (genTotal r)), s)
    (genF0 r + q.1, q.2)
  else (genF0 r, s)

/-- A slot whose cap map names a node has a pending reduction. -/
def State.nodeReclaiming (s : State) (node : Nat) : Bool :=
  s.lv.slots.any fun e => !e.2.pending.isEmpty && (capEntries (s.capmap e.2.consumer)).any fun x => x.1 == node

/-- The lowest cause code for which a generator's instance must be left alone: 3 not ARMED, 4 demotion, 5 reduction, 6 lease; one that has come and gone
since the last window counts as well (R211). -/
def State.genCause (s : State) (g : Gen) : Option Nat :=
  let i := genInst g.cfg
  let n := coefNode (s.coef i)
  let now := if (s.inst i).state ≠ 2 then some 3
    else if (s.node n).demoted then some 4
    else if s.nodeReclaiming n then some 5
    else if s.holds n = false then some 6
    else none
  match now, g.stop with
  | some a, some b => some (min a b)
  | some a, none => some a
  | none, c => c

/-- The generator that injects into an instance: none from the moment a cause of R211 has arisen (R211, R216). -/
def State.genOf (s : State) (i : Nat) : Option (Nat × Gen) :=
  s.tune.gens.find? fun e => e.2.state == 1 && genInst e.2.cfg == i && (s.genCause e.2).isNone

/-- The injections of an instance's present evaluation: into the reference, into the output. -/
def State.injOf (s : State) (i : Nat) : (Int × Int) × State := match s.genOf i with
  | none => ((0, 0), s)
  | some (_, g) =>
    let v := s.injAt g
    (if genPoint g.cfg = 0 then (v.1, 0) else (0, v.1), v.2)

/-! ### Taps (R203) -/

/-- A tap of an instance: the value after its last completed evaluation (R203, R204). -/
def tapOf (x : Inst) (tap : Nat) : Int := x.taps.getD tap 0

/-- The eight taps of an evaluation of an instance, which has taken its results: the reference r, y, e and rq of R175 (R203). -/
def tapsOf (x : Inst) (r y e p rq : Int) : List Int :=
  [sat16 r, y, sat16 e, sat16 (asr p 15), sat16 (asr x.iAcc 15), x.dq, rq, x.lastCmd]

/-- The command of an injection ends with the first evaluation, whose window and period its result gives (R216). -/
def State.genStarted (s : State) (g : Gen) (k window : Nat) : State := match g.uid with
  | some u => s.okUid u (pack [(1, k), (3, 0), (4, window)])
  | none => s

/-- Advances the generator of an evaluation with the injected value, and captures every DECIM-th one (R208, R209); at n = 0 it takes K and the window. -/
def State.genAdvance (s : State) (i : Nat) (gen : Option (Nat × Gen)) (inj : Int) (window : Nat) : State := match gen with
  | none => s
  | some (n, g) =>
    let st := s.injStep g
    let cap := if g.n % max 1 (genDecim g.cfg) = 0 ∧ g.n < genTotal g.cfg then (inj, tapOf (s.inst i) (genTap g.cfg)) :: g.capture else g.capture
    let k := (s.inst i).k
    let g' := { g with n := g.n + 1, phi := ((g.phi : Int) + st.1).toNat % 2 ^ 32, capture := cap, win0 := if g.n = 0 then window else g.win0,
                       k := if g.n = 0 then k else g.k, uid := none, lfsr := if (g.n + 1) % max 1 (genHold g.cfg) = 0 then lfsrStep g.lfsr else g.lfsr }
    { st.2 with tune := { st.2.tune with gens := st.2.tune.gens.set n g' } }.genStarted g k window

/-! ### Ends of an injection (R211) -/

/-- The status of a TUNE_INJ_START whose generator stops before its first evaluation: that of the check of R210 that would now fail (DEDUCED,
assumption 132). -/
def injStatus : Nat → Nat
  | 1 => ST_ABORTED
  | 3 => ST_BAD_PARAM
  | 5 => ST_NO_LEAVE
  | _ => ST_FENCED

/-- Ends a generator with a cause, with TUNE_INJ_END (R211, R219). -/
def State.endGen (s : State) (k cause : Nat) : State :=
  let uid := (s.tune.gens.getD k {}).uid
  let t := ({ s with tune := { s.tune with gens := s.tune.gens.upd k fun g => { g with state := 2, endCause := cause, uid := none } } }).raise 0x06 0x0002 k
  match uid with
  | some u => t.fail u (injStatus cause)
  | none => t

/-- Ends the generators whose cause has arisen. -/
def State.genChecks (s : State) : State :=
  s.tune.gens.foldl (fun (t : State) e =>
    if e.2.state = 1 then match t.genCause e.2 with
      | some c => t.endGen e.1 c
      | none => t
    else t) s

/-! ### Trace buffers in a window (R204, R206) -/

/-- Ends a trace with a cause, with TUNE_TRACE_DONE. -/
def State.endTrace (s : State) (b cause : Nat) : State :=
  ({ s with tune := { s.tune with traces := s.tune.traces.upd b fun t => { t with state := 4, endCause := cause, due := false } } }).raise 0x06 0x0001 b

/-- The traces whose pace instance is LOADED or EMPTY have ended (R204, R206). -/
def State.traceGone (s : State) : State :=
  s.tune.traces.foldl (fun (t : State) e =>
    if 1 ≤ e.2.state ∧ e.2.state ≤ 3 ∧ drives (t.inst (fld e.2.cfg 2 2)) = false then t.endTrace e.1 2 else t) s

/-- A trace in a new window: a due window of the pace instance counts, and every DECIM-th one, the
first among them, is sampled at its end (DEDUCED, assumption 15). -/
def State.traceWindow (s : State) (b : Nat) (t : Trace) : State :=
  let pace := s.inst (fld t.cfg 2 2)
  if ¬(1 ≤ t.state ∧ t.state ≤ 3) then s
  else if dueIn s.ring.window pace.k pace.phase then
    { s with tune := { s.tune with traces := s.tune.traces.upd b fun t => { t with seen := t.seen + 1, due := t.seen % max 1 (fld t.cfg 0 1) == 0 } } }
  else s

/-- All traces in a new window. -/
def State.traceWindows (s : State) : State := s.traceGone.tune.traces.foldl (fun t e => t.traceWindow e.1 e.2) s.traceGone

end Sys2Proof.Machine
end

