-- ==== Sys2Proof/Machine/Basalt.lean ====
section
/-!
DEFINITION. Basalt (chapter 06): references, evaluations, the effects of commands in due windows, loop frames, windows, and the
Basalt commands.
-/
namespace Sys2Proof.Machine

/-! ### Inputs of an evaluation -/

/-- A site input, Q15 (R170). -/
def State.siteIn (s : State) (k : Nat) : Int := s.bas.site.getD k 0

/-- The instance that drives the channel of another (R185). -/
def State.driverOf (s : State) (i : Nat) : Option Nat :=
  let r := s.coef i
  if (s.inst i).state = 2 ∨ (s.inst i).state = 3 then some i
  else (s.bas.insts.find? fun e => (e.2.state == 2 || e.2.state == 3) && coefNode (s.coef e.1) == coefNode r &&
      coefChannel (s.coef e.1) == coefChannel r).map Prod.fst

/-- The reference of an instance (R183, R185). -/
def State.refOf (s : State) (i : Nat) : Int :=
  let r := s.coef i
  let x := s.inst i
  match coefRefSrc r with
  | 0 => x.refTab
  | 1 => (s.inst (coefRefArg r)).lastCmd
  | 2 => s.siteIn (coefRefArg r)
  | _ => match s.driverOf (coefRefArg r) with
    | some j => (s.inst j).lastCmd
    | none => x.ref.getD (coefRefInit r)

/-- The stages that an instance commands: those of the converters that name it, and stage 0 for the DC-link loop (R224). -/
def State.stagesCommanded (s : State) (i : Nat) : List Nat :=
  s.stg.cabinets.flatMap fun e =>
    (if fld e.2 4 2 = i then [stageObj e.1 0] else []) ++
      ((convs e.2).filter fun c => c.role != 0 && c.inst == i).map fun c => stageObj e.1 c.stage

/-- The channel of an instance (R174). -/
def State.chanKey (s : State) (i : Nat) : Nat := 32 * coefNode (s.coef i) + coefChannel (s.coef i)

/-- Basalt reads word 1 as the applied command (R174). -/
def State.word1Applied (s : State) (i : Nat) : Bool :=
  !s.bas.sentRun.contains (s.chanKey i) || (s.stagesCommanded i).any fun o => (s.stage o).state != 3 && (s.stage o).state != 4

/-- The stages in soft start whose trajectories an instance's reference follows, with their scales (R234). -/
def State.softStages (s : State) (i : Nat) : List (Nat × Nat) :=
  (s.stg.stages.filter fun e => e.2.state == 3 && (e.2.refInst.map Prod.fst) == some i).map fun e => (e.1, ((e.2.refInst.map Prod.snd).getD 1))

/-- V_exp of a stage's soft start in a window, in Q15 on the scale; V_0 is the voltage measured in the first due window of the soft start (R234; DESIGN
CHOICE, assumption 129). -/
def State.softRef (s : State) (w : Nat) (y : Int) (e : Nat × Nat) : Int × State :=
  let x := s.stage e.1
  let v0 := x.v0.getD y
  let num : Int := min (100 * 32768 * x.targetV : Int) (v0 * (100 * e.2 : Nat) + (x.dvdt * (w - x.enWin) * 32768 : Nat))
  let r := s.roundDiv num (100 * max 1 e.2)
  let v := if -32768 ≤ r.1 ∧ r.1 ≤ 32767 then r else ((r.2.drawInt.1 + 32768) % 65536 - 32768, r.2.drawInt.2)
  (v.1, v.2.updStage e.1 fun x => { x with v0 := some v0 })

/-- Moves the reference of an instance along the soft start of its stage (R234); of several stages that share it, the lowest trajectory leads (DESIGN
CHOICE, assumption 129). -/
def State.softStartRef (s : State) (i w : Nat) (y : Int) : State :=
  let r := (s.softStages i).foldl (fun (a : Option Int × State) e =>
    let v := a.2.softRef w y e
    (some (min v.1 (a.1.getD v.1)), v.2)) (none, s)
  match r.1 with
  | some v => r.2.updInst i fun x => { x with refTab := v }
  | none => s

/-- The repetitive memory of an instance, its length and phase index; none without a controller (R182). -/
def State.repOf (s : State) (i : Nat) : Option (Nat × RepMem) :=
  let k := coefRep (s.coef i)
  if k = 0xFFFF then none else some (k, s.bas.reps.getD k {})

/-- The phase increment of an instance at its present rate (R181, R182). -/
def phaseInc (r : Rec) (half : Bool) : Nat := if half then 2 * coefPhaseInc r % 2 ^ 32 else coefPhaseInc r

/-! ### One evaluation -/

/-- RESULT of BAS_ARM for an instance that starts in a window (R194). -/
def armResult (r : Rec) (x : Inst) (w : Nat) : List Byte :=
  pack [(1, coefRate r + if x.half then 128 else 0), (1, 0), (2, x.phase), (4, w)]

/-- Completes the command of a tracking start after its first evaluation, with the window of the start or of the handover (R188, R195, R197); the event
BAS_HANDOVER_DONE follows every handover that has taken place (R201). -/
def State.trackDone (s : State) (i : Nat) : State :=
  let x := s.inst i
  let t := s.updInst i fun x => { x with trackUid := none, trackKind := 0 }
  let t := if x.trackKind = 2 ∧ x.state ≠ 4 then t.raise 0x05 0x0004 i else t
  match x.trackUid with
  | none => t
  | some u =>
    if x.state = 4 then t.fail u ST_FENCED
    else t.okUid u (if x.trackKind = 0 then armResult (s.coef i) x x.trackWin else if x.trackKind = 2 then pack [(4, x.trackWin)] else [])

/-- One evaluation of an ARMED instance with measurement `y`, and word 1 of the frame (R174 to R178, R181, R182, R188, R207). -/
def State.evalInst (s : State) (i w : Nat) (y : Int) (word1 : Option Int) : State :=
  let s := s.softStartRef i w y
  let r := s.coef i
  let x := s.inst i
  let applied := s.word1Applied i
  let aux := match word1 with
    | some v => if applied then x.aux else v
    | none => x.aux
  let track : Option Int := if x.track then some (x.trackFrom.getD (word1.getD 0)) else none
  let ref := s.refOf i
  let f := match coefFfSrc r with
    | 0 => 0
    | 1 => aux
    | 2 => ref
    | _ => s.siteIn (coefFfArg r)
  let phi : Nat := if coefPhaseSrc r = 1 then (aux % 65536).toNat * 65536 else x.phi.toNat
  let mem := s.repOf i
  let cells := (mem.map fun m => m.2.cells).getD []
  let n := cells.length
  let j := phi * n / 2 ^ 32
  let rq := if n = 0 then 0 else cells.getD ((j + coefRepLead r) % n) 0
  let gen := s.genOf i
  let inj := s.injOf i
  let law := lawOf r x.half
  let law := if coefFfSrc r = 0 then { law with kff := 0 } else law
  let o := evalLaw law x.iAcc x.dq x.xPrev x.first track ref y f (cells.getD j 0) rq inj.1.1 inj.1.2
  let causes := if n = 0 then o.causes &&& 0x0F else o.causes
  let s := inj.2
  let phi' := if coefPhaseSrc r = 1 then phi else (phi + phaseInc r x.half) % 2 ^ 32
  let t := s.updInst i fun x =>
    { x with iAcc := o.iAcc, dq := o.dq, xPrev := o.x, ref := some ref, meas := y, aux := aux, phi := BitVec.ofNat 32 phi',
             evals := x.evals + 1, measSum := x.measSum + y, measN := x.measN + 1, first := false, track := false, trackFrom := none, hasRun := true }
  let t := match mem with
    | some m => if n = 0 then t else { t with bas := { t.bas with reps := t.bas.reps.set m.1 { m.2 with cells := cells.set j o.rep } } }
    | none => t
  let t := if causes = 0 then t.updInst i fun x => { x with lastCmd := o.u }
    else
      let u : State := t.updInst i fun x => { x with wrap := true, wrapCause := x.wrapCause ||| causes, lastCmd := track.getD x.lastCmd }
      let u : State := if x.wrap then u else u.traceHit 4 i
      let u : State := (u.report SRC_BAS_WRAP i).raise 0x05 0x0001 i
      if (u.inst i).state = 2 then u.updInst i fun x => { x with lastCmd := o.u } else u
  let t := t.updInst i fun x => { x with taps := tapsOf x (ref + inj.1.1) y o.e o.p rq }
  (t.genAdvance i gen (inj.1.1 + inj.1.2) w).trackDone i

/-- A FROZEN instance in a due window with a measurement: `x_prev` follows x (R186); after a claim it takes the command that its node applies (R190). -/
def State.followInst (s : State) (i : Nat) (y : Int) (word1 : Option Int) : State :=
  let r := s.coef i
  let ref := s.refOf i
  s.updInst i fun x =>
    { x with meas := y, ref := some ref, xPrev := if coefDMeas r then -y else ref - y, lastCmd := if x.track then word1.getD x.lastCmd else x.lastCmd,
             track := false }

/-! ### Commands in their first due window (R186 to R189, R195) -/

/-- Whether a node's instances may be armed: 0 yes, else the status (R194 step 3). -/
def State.nodeArmable (s : State) (n : Nat) : Nat :=
  if n = 0 then 0
  else match (s.node n).state with
    | 0 => ST_BAD_PARAM
    | 1 => ST_BAD_PARAM
    | 2 => 0
    | 3 => 0
    | _ => ST_FENCED

/-- Fails the command that a pending effect belongs to, if a host gave it. -/
def State.failOpt (s : State) (uid : Option Nat) (st : Nat) : State := match uid with
  | some u => s.fail u st
  | none => s
/-- Completes the command that an effect belongs to. -/
def State.okOpt (s : State) (uid : Option Nat) (result : List Byte) : State := match uid with
  | some u => s.okUid u result
  | none => s

/-- The repetitive memory at an arm: of another length, or never run, it starts at zero (R182). -/
def State.armMemory (s : State) (i : Nat) : State := match s.repOf i with
  | none => s
  | some (k, m) =>
    let n := coefRepN (s.coef i)
    if m.n = n then s else { s with bas := { s.bas with reps := s.bas.reps.set k { n := n, cells := List.replicate n 0 } } }

/-- Starts an instance in a window: common part of every arm. -/
def Inst.armed (x : Inst) (w : Nat) : Inst := { x with state := 2, evals := 0, missed := 0, first := true, track := false, trackFrom := none, trackWin := w }

/-- An instance gives its channel up: LOADED, its slot freed (R186, R189); a session that runs goes on owning it (R192). -/
def Inst.givenUp (x : Inst) : Inst := { x with state := 1, owner := if x.owner = 1 then 1 else 0, half := false, lift := none }

/-- The rate of an accepted start is no longer allowed in its due window: R147 forbids it, or the node is DEMOTED and the instance is not at half rate
(R148, R181). -/
def State.startBarred (s : State) (i : Nat) : Bool :=
  let n := coefNode (s.coef i)
  n != 0 && (s.tooFast i || ((s.node n).state == 3 && !(s.inst i).half))

/-- The instance commands stages, and each of them is stopped: the node reports an applied command of 0 (R239). -/
def State.stopped (s : State) (i : Nat) : Bool :=
  let l := s.stagesCommanded i
  !l.isEmpty && l.all fun o => decide ((s.stage o).state < 3 ∨ (s.stage o).state = 6)

/-- A loop armed on a stopped stage starts from a command of zero, whatever its mode (R239; DEDUCED, assumption 134). -/
def Inst.fromZero (stopped : Bool) (x : Inst) : Inst := if stopped then { x with track := true, trackFrom := some 0 } else x

/-- The effect of an arm in a due window; `word1` says that the frame is there (R187, R188). A TRACK arm of a node instance without
a report waits on, with one window less; after two windows it has run out. -/
def State.armEffect (s : State) (i w mode : Nat) (uid : Option Nat) (left : Nat) (word1 : Bool) : State × Option BasWait :=
  let x := s.inst i
  let r := s.coef i
  let bad := s.nodeArmable (coefNode r)
  if x.state ≠ 1 then (s.failOpt uid (if x.state = 4 then ST_FENCED else ST_BUSY), none)
  else if bad ≠ 0 ∨ s.startBarred i then (s.failOpt uid ST_FENCED, none)
  else if mode = 2 ∧ coefNode r ≠ 0 ∧ left = 0 then (s.failOpt uid ST_TIMEOUT, none)
  else if mode = 2 ∧ coefNode r ≠ 0 ∧ word1 = false then (s, some (.arm mode uid (left - 1)))
  else
    let s := s.armMemory i
    let zero := s.stopped i
    match mode with
    | 0 => ((s.updInst i fun x => ({ x.armed w with iAcc := coefIInit r * 32768, dq := 0, phi := 0 } : Inst).fromZero zero).okOpt uid (armResult r x w), none)
    | 1 => ((s.updInst i fun x => (x.armed w).fromZero zero).okOpt uid (armResult r x w), none)
    | _ =>
      let from' := if coefNode r = 0 then some (if x.hasRun then x.lastCmd else 0) else none
      (s.updInst i fun x => { x.armed w with dq := 0, phi := 0, track := true, trackFrom := from', trackUid := uid, trackKind := 0 }, none)

/-- The effect of one command on an instance in a due window, and what still waits. -/
def State.waitEffect (s : State) (i w : Nat) (c : BasWait) (word1 : Bool) : State × Option BasWait :=
  let x := s.inst i
  match c with
  | .arm mode uid left => s.armEffect i w mode uid left word1
  | .freeze uid =>
    if x.state = 4 then (s.failOpt uid ST_FENCED, none)
    else if x.state = 2 then ((s.updInst i fun x => { x with state := 3 }).okOpt uid [], none)
    else if x.state = 3 then (s.okOpt uid [], none) else (s.failOpt uid ST_BAD_PARAM, none)
  | .release uid =>
    if x.state = 4 then (s.failOpt uid ST_FENCED, none)
    else if x.state = 3 then
      (s.updInst i fun x => { x with state := 2, track := true, trackFrom := some x.lastCmd, trackUid := uid, trackKind := 1, trackWin := w }, none)
    else if x.state = 2 then (s.okOpt uid [], none) else (s.failOpt uid ST_BAD_PARAM, none)
  | .disarm uid =>
    if x.state = 4 then (s.failOpt uid ST_FENCED, none)
    else ((s.updInst i Inst.givenUp).okOpt uid [], none)
  | .take giver uid =>
    let g := s.inst giver
    if g.state ≠ 2 ∨ x.state ≠ 1 then (s.failOpt uid (if g.state = 4 then ST_FENCED else ST_BAD_PARAM), none)
    else if s.startBarred i then (s.failOpt uid ST_FENCED, none)
    else
      let t := (s.armMemory i).updInst i fun x =>
        { x.armed w with owner := g.owner, dq := 0, phi := 0, lastCmd := g.lastCmd, track := true, trackFrom := some g.lastCmd, trackUid := uid, trackKind := 2 }
      (t.updInst giver Inst.givenUp, none)

/-- The effects of an instance's commands accepted before window `w`, oldest first. -/
def State.waitEffects (s : State) (i w : Nat) (word1 : Bool) : State :=
  (s.inst i).wait.foldl (fun (t : State) c =>
    if c.1 < w then
      let r := t.waitEffect i w c.2 word1
      match r.2 with
      | some c' => r.1.updInst i fun x => { x with wait := x.wait ++ [(c.1, c')] }
      | none => r.1
    else t.updInst i fun x => { x with wait := x.wait ++ [c] })
    (s.updInst i fun x => { x with wait := [] })

/-- A restore returns an instance to its full rate in a window due under both periods (R181). -/
def State.liftEffect (s : State) (i w : Nat) : State := match (s.inst i).lift with
  | none => s
  | some a => if a < w ∧ (s.inst i).half then s.updInst i fun x => { x with half := false, lift := none, k := x.k / 2, phase := x.phase % max 1 (x.k / 2) } else s

/-! ### Loop frames (R172 to R174) -/

/-- The due instances of a node in a window, in ascending channel order. -/
def State.dueOf (s : State) (node w : Nat) : List Nat :=
  let l := (s.instsOf node).filter fun e => dueIn w e.2.k e.2.phase
  (List.range 32).flatMap fun c => (l.filter fun e => coefChannel (s.coef e.1) == c).map Prod.fst

/-- The channels of those instances. -/
def State.dueChannels (s : State) (node w : Nat) : List Nat := ((s.dueOf node w).map fun i => coefChannel (s.coef i)).eraseDups

/-- The command of a tracking start whose first evaluation no longer follows, since the instance was fenced, frozen or disarmed before it (R186). -/
def State.trackEnd (s : State) (i : Nat) : State :=
  if (s.inst i).trackUid.isSome ∧ (s.inst i).state ≠ 2 then s.trackDone i else s

/-- What takes effect on a due instance in a window before any evaluation of it: commands, and a restored rate (R181, R186, R189). -/
def State.instEffects (s : State) (i w : Nat) (word1 : Bool) : State := ((s.waitEffects i w word1).liftEffect i w).trackEnd i

/-- The evaluation of a due instance when its measurement is there; a due window of an instance that drives its channel without one is counted (R186, R198). -/
def State.instEval (s : State) (i w : Nat) (words : Option (Int × Int)) : State :=
  let x := s.inst i
  match words with
  | some (y, a) =>
    if x.state = 2 then s.evalInst i w y (some a)
    else if x.state = 3 then s.followInst i y (some a) else s
  | none => if drives x then s.updInst i fun x => { x with missed := min (x.missed + 1) (2 ^ 32 - 1) } else s

/-- The due instances of a node in a window: what takes effect comes first, then the evaluations, both in ascending channel order (R172, R189). -/
def State.runInsts (s : State) (l : List Nat) (w : Nat) (wordOf : Nat → Option (Int × Int)) : State :=
  l.foldl (fun u i => u.instEval i w (wordOf i)) (l.foldl (fun u i => u.instEffects i w (wordOf i).isSome) s)

/-- CMD and CSTATE of an instance after its window; none when nothing is sent (R173, R178, R198). `was`: its state before. -/
def cmdWord (x : Inst) (was : Nat) (answered : Bool) : Option (Int × Nat) :=
  match x.state with
  | 2 => if answered then some (x.lastCmd, 0) else none
  | 3 => some (x.lastCmd, 1)
  | 4 => some (x.lastCmd, 2)
  | _ => if 2 ≤ was then some (x.lastCmd, 3) else none

/-- The word of a channel: that of the instance that drives it, else the DISARMED of one that drove it. -/
def State.channelWord (s0 s : State) (l : List Nat) (c : Nat) (answered : Bool) : Option (Int × Nat) :=
  let m := l.filter fun i => coefChannel (s.coef i) == c
  match m.find? fun i => drives (s.inst i) with
  | some i => cmdWord (s.inst i) (s0.inst i).state answered
  | none => (m.filterMap fun i => cmdWord (s.inst i) (s0.inst i).state answered).head?

/-- The due windows of a set of instances of a node: words by channel, or none where no valid frame came; and the word of each due channel, none for one for
which no command is sent (R173, R198). The module notes to which channels it sends RUN (R174). -/
def State.runDue (s : State) (l : List Nat) (w : Nat) (words : Option (List (Int × Int))) : State × List (Nat × Option (Int × Nat)) :=
  let chans := (l.map fun i => coefChannel (s.coef i)).eraseDups
  let wordOf (i : Nat) : Option (Int × Int) := words.map fun ws => ws.getD (chans.findIdx fun c => c == coefChannel (s.coef i)) (0, 0)
  let t := s.runInsts l w wordOf
  let out := chans.map fun c => (c, State.channelWord s t l c words.isSome)
  let keys := (l.map s.chanKey).eraseDups
  let ran := keys.filter fun k => out.any fun e => e.1 == k % 32 && (e.2.map Prod.snd) == some 0
  ({ t with bas := { t.bas with sentRun := (t.bas.sentRun.filter fun k => !keys.contains k) ++ ran } }, out)

/-- The active module of a pair in lockstep mode gathers what its engines take, for INPUTS (R559). -/
def State.forwards (s : State) : Bool := s.isActive && s.pair.lockstep

/-- The words of a node's due window, or that no valid frame came, go into the next INPUTS (R559). -/
def State.noteFrame (s : State) (node w : Nat) (words : Option (List (Int × Int))) : State :=
  if s.forwards then match words with
    | some l => { s with bas := { s.bas with fwdFrames := s.bas.fwdFrames ++ [(node, w, l)] } }
    | none => { s with bas := { s.bas with fwdMissed := s.bas.fwdMissed ++ [(node, w)] } }
  else s

/-- A loop frame is inserted; its bytes are part of the next digest (R560). -/
def State.insertFrame (s : State) (node : Nat) (frame : List Byte) (silent : List Nat) : State :=
  let t := s.emit (.loopFrame node frame silent)
  if s.forwards then { t with bas := { t.bas with fwdSent := t.bas.fwdSent ++ [frame] } } else t

/-- The due window of a node: its instances, then the downstream frame. -/
def State.runNode (s : State) (node w : Nat) (words : Option (List (Int × Int))) : State :=
  let r := (s.noteFrame node w words).runDue (s.dueOf node w) w words
  if r.2.all fun e => e.2.isNone then r.1
  else r.1.insertFrame node (loopFrameBytes node r.1.ring.epoch w 0 (frameWords r.2)) ((r.2.filter fun e => e.2.isNone).map Prod.fst)

/-- Counts the blocks of a loop frame whose CRC fails at the cage it came in on (R168, R144; DEDUCED, assumption 56). -/
def State.blockErrors (s : State) (frame : LoopFrame) : State :=
  let cage := s.cageOf frame.node
  let p := s.port cage
  { s with ring := { s.ring with ports := s.ring.ports.set cage { p with blkErr := p.blkErr + BitVec.ofNat 16 frame.blocks } } }

/-- UPSTREAM_LOOP_FRAME (R144, R146, R149, R154, R172): a frame with LAPSED says that the node's lease has ended. -/
def execUpstreamLoopFrame (frame : LoopFrame) (s : State) : Host.Outcome State Fault Refusal :=
  let n := frame.node
  let w := s.frameWindow frame
  if s.holds n = false ∨ s.nodeRing n = 2 then .next s
  else if frame.crcOk = false then .next ((s.updNode n fun x => { x with crcErr := min (x.crcErr + 1) (2 ^ 32 - 1) }).blockErrors frame)
  else
    let t := s.nodeHeard n
    if frame.lapsed then .next (t.leaseReport n (s.node n).epoch false)
    else if frame.up ∧ frame.valid ∧ frame.onTime ∧ frame.epochLo = s.ring.epoch % 256 ∧ (s.node n).lastWin ≠ w + 1 then
      .next ((t.answerSlot n w).runNode n w (some frame.words))
    else .next t

/-- A due window of a node whose lease the module no longer holds: no frame counts, and the commands that wait for the window still end (R186). -/
def State.unheldWindow (s : State) (node w : Nat) : State :=
  ((s.dueOf node w).filter fun i => !(s.inst i).wait.isEmpty || (s.inst i).trackUid.isSome).foldl (fun u i => u.instEffects i w false) s

/-- SLOT_DEADLINE (R146, R154): the deadline of a node's frame for a window in which one of its instances is due. -/
def execSlotDeadline (node window : Nat) (s : State) : Host.Outcome State Fault Refusal :=
  let due := (s.dueOf node window).any fun i => drives (s.inst i) || !(s.inst i).wait.isEmpty
  if s.nodeRing node = 2 ∨ due = false ∨ (s.node node).lastWin = window + 1 then .next s
  else if s.holds node = false then .next (s.unheldWindow node window)
  else .next ((s.missSlot node).runNode node window none)

/-- A start that waits for the report it tracks (R188). -/
def BasWait.tracks (c : Nat × BasWait) : Bool := match c.2 with
  | .arm 2 _ 0 => true
  | _ => false

/-- The end of a start whose tracking report did not come (R188). -/
def State.startLate (u : State) (c : Nat × BasWait) : State := match c.2 with
  | .arm _ uid _ => u.failOpt uid ST_TIMEOUT
  | _ => u

/-- TRACKING_REPORT_TIMEOUT (R188): no report came within 2 due windows; the instance stays LOADED. -/
def execTrackingReportTimeout (inst : Nat) (s : State) : Host.Outcome State Fault Refusal :=
  let w := (s.inst inst).wait
  .next ((w.filter BasWait.tracks).foldl State.startLate (s.updInst inst fun x => { x with wait := x.wait.filter fun c => !BasWait.tracks c }))

/-- A site instance in a due window (R172). -/
def State.runSite (s : State) (i w : Nat) : State :=
  let y := s.siteIn (coefMeasArg (s.coef i))
  let s := (s.waitEffects i w true).trackEnd i
  let x := s.inst i
  if x.state = 2 then s.evalInst i w y none
  else if x.state = 3 then s.followInst i y none else s

/-- The due site instances at the start of a window, in ascending instance number (R172). -/
def State.runSites (s : State) (w : Nat) : State :=
  (((s.instsOf 0).filter fun e => dueIn w e.2.k e.2.phase).map Prod.fst).foldl (fun u i => u.runSite i w) s

/-- The instance whose record gives a repetitive controller its length: the one that is scheduled with it, else the first that names it (R182, R199). -/
def State.repUser (s : State) (k : Nat) : Option Nat :=
  let l := (s.bas.coeffs.filter fun e => coefRep e.2 == k).map Prod.fst
  match l.find? fun i => scheduled (s.inst i) with
  | some i => some i
  | none => l.head?

/-- The values of a reference list take effect, unless the window finds one of its instances FENCED (R186, R196). -/
def State.refEffect (s : State) (e : Option Nat × List (Nat × Int)) : State :=
  if e.2.any fun v => (s.inst v.1).state == 4 then s.failOpt e.1 ST_FENCED
  else (e.2.foldl (fun (u : State) v => u.updInst v.1 fun x => { x with refTab := v.2 }) s).okOpt e.1 []

/-- The references and BAS_REP commands that take effect in a new window (R196, R199). -/
def State.windowEffects (s : State) : State :=
  let t := s.bas.refWait.foldl State.refEffect s
  let t := s.bas.repWait.foldl (fun (u : State) e =>
    let m := u.bas.reps.getD e.2.1 {}
    if e.2.2 = 0 then ({ u with bas := { u.bas with reps := u.bas.reps.set e.2.1 { m with cells := m.cells.map fun _ => 0 } } }).okUid e.1 []
    else
      let n := (u.repUser e.2.1).map fun i => coefRepN (u.coef i)
      match u.cmd? e.1 with
      | some c => u.answer c [] ((List.range (n.getD 0)).flatMap fun j => leInt 2 (m.cells.getD j 0))
      | none => u) t
  { t with bas := { t.bas with refWait := [], repWait := [] } }

/-- The digest of R560 over loop frames inserted and the module's ledger. Which bytes it takes in, and in what order, is free (assumption 155). -/
def State.lockDigest (s : State) (frames : List (List Byte)) : Nat :=
  crc32c (Config.digestBytes frames (s.lv.slots.map fun e => [e.1, e.2.consumer, e.2.state, e.2.cls, e.2.reqKw, e.2.grantKw, e.2.capKw, e.2.minKw]))

/-- A command that INPUTS has still to forward (R559). -/
def InFlight.toForward (c : InFlight) : Bool := c.phase != .waiting && !c.forwarded && engineOps.contains c.desc.opcode

/-- What has been gathered since the window began (R559). -/
def State.gathered (s : State) : LockInputs :=
  { window := s.ring.window, frames := s.bas.fwdFrames, missed := s.bas.fwdMissed, polls := s.plc.fwdPolls, site := s.bas.fwdSite, events := s.lv.fwdEvents,
    samples := s.cool.fwdSamples, observer := s.cool.fwdObserver, commands := (s.mbx.inflight.filter InFlight.toForward).map InFlight.desc,
    digest := s.lockDigest s.bas.fwdSent }

/-- INPUTS of the window that ends (R559, R560), and the gathering for the next one. -/
def State.sendInputs (s : State) : State :=
  if s.forwards then
    let m := s.gathered
    let t := if s.pair.fwdOpen then { s with pair := { s.pair with lastInputs := some m } }.emit (.pairInputs m.window m.digest) else s
    { t with
      bas := { t.bas with fwdFrames := [], fwdMissed := [], fwdSite := t.bas.site, fwdSent := [] }, lv := { t.lv with fwdEvents := [] },
      cool := { t.cool with fwdSamples := [], fwdObserver := false }, plc := { t.plc with fwdPolls := [] }, pair := { t.pair with fwdOpen := true },
      mbx := { t.mbx with inflight := t.mbx.inflight.map fun c => { c with forwarded := c.forwarded || c.toForward } } }
  else { s with pair := { s.pair with fwdOpen := false } }

/-- LOOP_WINDOW (R140, R142, R172, R559): INPUTS of the last window goes out in lockstep mode; the next of the two windows of the present cycle; a half-cycle begins. -/
def execLoopWindow (s : State) : Host.Outcome State Fault Refusal :=
  if s.ring.winLeft = 0 then .next s
  else
    let w := 2 * s.ring.cycle.toNat + (2 - s.ring.winLeft)
    let t := { s.sendInputs with ring := { s.ring with window := w, winLeft := s.ring.winLeft - 1 } }
    let t := t.halfCycle
    let t := if w % 2 = 1 then t.emitCages.foldl (fun (u : State) c => u.emit (.marker c (markerBytes u.ring.cycle.toNat u.ring.epoch u.issuer))) t else t
    let t := t.windowEffects.genChecks
    let t := if t.isActive then t.runSites w else t
    .next t.traceWindows

/-! ### Commands -/

/-- The pump and valve instances of a circuit record (R254). -/
def coolPump (r : Rec) : Nat := fld r 4 2
def coolValve (r : Rec) : Nat := fld r 6 2

/-- The cooling function owns an instance: it is the pump or the valve loop of a circuit that is not OFF (R264). -/
def State.coolOwns (s : State) (i : Nat) : Bool :=
  s.cool.recs.any fun e => (coolPump e.2 == i || coolValve e.2 == i) && (s.cool.circuits.getD e.1 {}).state != 0

/-- An instance owned by a session (R192) or by the cooling function (R264). -/
def State.sessionOwns (s : State) (i : Nat) : Bool := (s.inst i).owner != 0 || s.coolOwns i

/-- OWNER of an instance (R198): 0 host, 1 session, 2 cooling function. -/
def State.ownerCode (s : State) (i : Nat) : Nat := if (s.inst i).owner ≠ 0 then 1 else if s.coolOwns i then 2 else 0

/-- A coefficient record within its ranges (R183, R184, R193). -/
def State.coefOk (s : State) (r : Rec) : Bool :=
  let site := coefNode r == 0
  (site || (s.plan (coefNode r)).isSome) && decide (coefChannel r ≤ 31) && (!site || coefChannel r == 0) &&
  decide (1 ≤ coefRate r ∧ coefRate r ≤ 8) && (!site || decide (coefRate r ≤ 2)) && decide (coefShift r ≤ 8) && decide (fld r 5 1 ≤ 1) &&
  decide (coefRefSrc r ≤ 3) && (!site || coefRefSrc r != 3) && decide (coefFfSrc r ≤ 3) &&
  decide (coefRefArg r ≤ (if coefRefSrc r = 2 then 3 else 2047)) && decide (coefFfArg r ≤ 3) &&
  (if site then decide (coefMeasArg r ≤ 3) else coefMeasArg r == 0) && decide (fld r 22 2 ≤ 32767 ∧ fld r 34 2 ≤ 32767) &&
  (coefRep r == 0xFFFF || (decide (coefRep r ≤ 255) && decide (2 ≤ coefRepN r ∧ coefRepN r ≤ 2048))) && decide (coefRepLead r ≤ 63) &&
  decide (coefPhaseSrc r ≤ 1) && !(coefFfSrc r == 1 && coefPhaseSrc r == 1) && zeros r 38 2 && zeros r 44 20

/-- The effect of BAS_LOAD (R193); a WRAP bit and its causes stay (R179). -/
def basLoad (c : InFlight) (s : State) : State :=
  let i := c.desc.object
  match c.record 64 with
  | none => s.fail c.uid ST_BAD_PARAM
  | some r =>
    if s.sessionOwns i then s.fail c.uid ST_BUSY
    else if 2047 < i ∨ (allZero r = false ∧ s.coefOk r = false) then s.fail c.uid ST_BAD_PARAM
    else if scheduled (s.inst i) then s.fail c.uid ST_BUSY
    else if allZero r then
      let left := if (s.inst i).wrap then some (s.inst i).emptied else none
      ({ s with bas := { s.bas with coeffs := s.bas.coeffs.del i, insts := s.bas.insts.put i left } }).ok c []
    else
      let t := { s with bas := { s.bas with coeffs := s.bas.coeffs.set i r } }
      (t.updInst i fun x => { x with state := 1, refTab := coefRefInit r, ref := none }).ok c []

def execBasLoad (q tag : Nat) (s : State) : Host.Outcome State Fault Refusal := startCommand 0x0500 q tag s basLoad

/-- The status of a failing check of R194 for an arm, and otherwise the period, the phase and whether the rate is halved; `giver` is
the instance that a handover removes. -/
def State.armCheck (s : State) (i mode : Nat) (giver : Option Nat) : Nat ⊕ (Nat × Nat × Bool) :=
  let x := s.inst i
  let r := s.coef i
  let n := coefNode r
  let others := s.bas.insts.keep fun j y => j != i && some j != giver && scheduled y
  let needsRef := coefRefSrc r == 1 || coefRefSrc r == 3
  let k := rateK (coefRate r)
  let half := n != 0 && (s.node n).state == 3
  if 2 < mode ∨ 2047 < i ∨ x.state = 0 ∨ (needsRef ∧ (s.inst (coefRefArg r)).state = 0) then .inl ST_BAD_PARAM
  else if x.state = 4 then .inl ST_FENCED
  else if scheduled x ∨ (n ≠ 0 ∧ others.any fun e => coefNode (s.coef e.1) == n && coefChannel (s.coef e.1) == coefChannel r) ∨
      (coefRep r ≠ 0xFFFF ∧ others.any fun e => coefRep (s.coef e.1) == coefRep r) ∨ (mode = 1 ∧ x.hasRun = false) then .inl ST_BUSY
  else if s.nodeArmable n ≠ 0 then .inl (s.nodeArmable n)
  else if n ≠ 0 ∧ (s.nodeFits n k = false ∨ (half ∧ (s.nodeFits n (2 * k) = false ∨ canHalve r = false))) then .inl ST_BAD_PARAM
  else
    let k := if half then 2 * k else k
    match s.choosePhase i k giver.toList with
    | some p => .inr (k, p, half)
    | none => .inl ST_BUSY

/-- Puts an accepted start into the schedule. -/
def State.acceptStart (s : State) (i k p : Nat) (half : Bool) (w : BasWait) : State :=
  s.updInst i fun x => { x with k := k, phase := p, half := half, lift := none, wait := x.wait ++ [(s.ring.window, w)] }

/-- The effect of BAS_ARM up to its first due window (R194). -/
def basArm (c : InFlight) (s : State) : State :=
  let i := c.desc.object
  if s.sessionOwns i then s.fail c.uid ST_BUSY
  else match s.armCheck i (c.desc.u 32 1) none with
    | .inl st => s.fail c.uid st
    | .inr (k, p, half) => s.acceptStart i k p half (.arm (c.desc.u 32 1) (some c.uid) 2)

def execBasArm (q tag : Nat) (s : State) : Host.Outcome State Fault Refusal := startCommand 0x0501 q tag s basArm

/-- A block of the module arms an instance in TRACK mode (R192, R264): the status of a failing check. -/
def State.armFor (s : State) (i : Nat) : Nat ⊕ State := match s.armCheck i 2 none with
  | .inl st => .inl st
  | .inr (k, p, half) => .inr (s.acceptStart i k p half (.arm 2 none 2))

/-- Adds a command that waits for the instance's next due window. -/
def State.addWait (s : State) (i : Nat) (w : BasWait) : State :=
  s.updInst i fun x => { x with wait := x.wait ++ [(s.ring.window, w)] }

/-- A block of the module disarms an instance (R264, R284): its own waiting start goes, and one that a host's command puts into the schedule is taken out. -/
def State.disarmFor (s : State) (i : Nat) : State :=
  let t := if (s.inst i).state = 1 then s.updInst i fun x => { x with wait := x.wait.filter fun c => c.2.uid?.isSome } else s
  if (t.inst i).state = 4 ∨ ((t.inst i).state ≤ 1 ∧ (t.inst i).wait = []) then t else t.addWait i (.disarm none)

/-- A session that ends disarms an instance that it owns; it owns it until the instance is LOADED again (R192, R284). -/
def State.sessionLeaves (s : State) (i : Nat) : State :=
  if (s.inst i).owner ≠ 1 then s
  else
    let t := s.disarmFor i
    t.updInst i fun x => { x with owner := if x.state ≤ 1 then 0 else 3 }

/-- The effect of BAS_FREEZE up to the due window (R195). -/
def basFreeze (c : InFlight) (s : State) : State :=
  let i := c.desc.object
  let op := c.desc.u 32 1
  let x := s.inst i
  if s.sessionOwns i then s.fail c.uid ST_BUSY
  else if 1 < op ∨ 2047 < i then s.fail c.uid ST_BAD_PARAM
  else if x.state = 4 then s.fail c.uid ST_FENCED
  else if (x.state = 3 ∧ op = 0) ∨ (x.state = 2 ∧ op = 1) then s.ok c []
  else if x.state = 2 then s.addWait i (.freeze (some c.uid))
  else if x.state = 3 then s.addWait i (.release (some c.uid))
  else s.fail c.uid ST_BAD_PARAM

def execBasFreeze (q tag : Nat) (s : State) : Host.Outcome State Fault Refusal := startCommand 0x0502 q tag s basFreeze

/-- The effect of BAS_DISARM up to the due window (R195). -/
def basDisarm (c : InFlight) (s : State) : State :=
  let i := c.desc.object
  let x := s.inst i
  if s.sessionOwns i then s.fail c.uid ST_BUSY
  else if 2047 < i ∨ x.state = 0 then s.fail c.uid ST_BAD_PARAM
  else if x.state = 4 then s.fail c.uid ST_FENCED
  else if x.state = 1 then s.ok c []
  else s.addWait i (.disarm (some c.uid))

def execBasDisarm (q tag : Nat) (s : State) : Host.Outcome State Fault Refusal := startCommand 0x0503 q tag s basDisarm

/-- The entries of a BAS_REF_SET (R196). -/
def refEntries (c : InFlight) : List (Nat × Int) := (chunks 4 (c.desc.u 32 2) c.desc.data).map fun r => (fld r 0 2, sfld r 2 2)

/-- The effect of BAS_REF_SET up to the next window (R196). -/
def basRefSet (c : InFlight) (s : State) : State :=
  let n := c.desc.u 32 2
  let es := refEntries c
  let good (e : Nat × Int) : Bool := decide (e.1 ≤ 2047) && decide (1 ≤ (s.inst e.1).state ∧ (s.inst e.1).state ≤ 3) && coefRefSrc (s.coef e.1) == 0
  if es.any fun e => s.sessionOwns e.1 then s.fail c.uid ST_BUSY
  else if n = 0 ∨ 256 < n ∨ c.desc.dataLen ≠ 4 * n ∨ c.desc.data.length ≠ 4 * n ∨ es.all good = false ∨ noDup (es.map Prod.fst) = false then
    s.fail c.uid ST_BAD_PARAM
  else { s with bas := { s.bas with refWait := s.bas.refWait ++ [(some c.uid, es)] } }

def execBasRefSet (q tag : Nat) (s : State) : Host.Outcome State Fault Refusal := startCommand 0x0504 q tag s basRefSet

/-- Accepts a handover from `x` to `y`, for a command or for a block of the module (R189, R197): the status of a failing check. -/
def State.handover (s : State) (y x : Nat) (uid : Option Nat) : Nat ⊕ State :=
  match s.armCheck y 2 (some x) with
  | .inl st => .inl st
  | .inr (k, p, half) =>
    if (s.inst x).state ≠ 2 ∨ coefNode (s.coef x) ≠ coefNode (s.coef y) ∨ coefChannel (s.coef x) ≠ coefChannel (s.coef y) then .inl ST_BAD_PARAM
    else .inr (s.acceptStart y k p half (.take x uid))

/-- The effect of BAS_HANDOVER up to the due window (R197). -/
def basHandover (c : InFlight) (s : State) : State :=
  let y := c.desc.object
  let x := c.desc.u 32 2
  if s.sessionOwns y ∨ s.sessionOwns x then s.fail c.uid ST_BUSY
  else match s.handover y x (some c.uid) with
    | .inl st => s.fail c.uid st
    | .inr t => t

def execBasHandover (q tag : Nat) (s : State) : Host.Outcome State Fault Refusal := startCommand 0x0505 q tag s basHandover

/-- A record of BAS_READ (R198). -/
def State.basRecord (s : State) (i : Nat) : List Byte :=
  let x := s.inst i
  let rate := if drives x then coefRate (s.coef i) + (if x.half then 128 else 0) else 0
  pack [(2, i), (1, x.state), (1, s.ownerCode i), (1, rate), (1, x.wrapCause.toNat), (1, x.fenceCause.toNat), (1, 0)] ++ leInt 2 (if x.state = 0 then 0 else s.refOf i) ++
    leInt 2 x.meas ++ leInt 2 x.lastCmd ++ leBytes 2 x.phase ++ leInt 8 x.iAcc ++ pack [(4, x.evals.toNat), (4, x.missed)]

/-- The effect of BAS_READ (R198). -/
def basRead (c : InFlight) (s : State) : State :=
  let first := c.desc.u 32 2
  let n := c.desc.u 34 2
  if n = 0 ∨ 2048 < n ∨ c.desc.dataLen < 32 * n ∨ 2048 < first + n then s.fail c.uid ST_BAD_PARAM
  else s.answer c [] ((List.range n).flatMap fun j => s.basRecord (first + j))

def execBasRead (q tag : Nat) (s : State) : Host.Outcome State Fault Refusal := startCommand 0x0506 q tag s basRead

/-- The effect of BAS_REP up to the next window (R199). -/
def basRep (c : InFlight) (s : State) : State :=
  let k := c.desc.object
  let op := c.desc.u 32 1
  if 255 < k ∨ 1 < op then s.fail c.uid ST_BAD_PARAM
  else match s.repUser k with
    | none => s.fail c.uid ST_BAD_PARAM
    | some i =>
      if s.bas.coeffs.any fun e => coefRep e.2 == k && s.sessionOwns e.1 then s.fail c.uid ST_BUSY
      else if op = 1 ∧ c.desc.dataLen < 2 * coefRepN (s.coef i) then s.fail c.uid ST_BAD_PARAM
      else { s with bas := { s.bas with repWait := s.bas.repWait ++ [(c.uid, k, op)] } }

def execBasRep (q tag : Nat) (s : State) : Host.Outcome State Fault Refusal := startCommand 0x0507 q tag s basRep

end Sys2Proof.Machine
end

