-- ==== Sys2Proof/Machine/Single.lean ====
section
/-!
DEFINITION. IEEE 754 single-precision arithmetic for the thermal observer (chapter 09): rounding to a mantissa of 24 bits, to the
nearest value, ties to even (PRESUMED, assumption 25). The numbers of the observer stay far from overflow and underflow, so the
exponent is not bounded here.
-/
namespace Sys2Proof.Machine

/-- The bits of a number beyond its leading 24. -/
def spareBits (n : Nat) : Nat := Nat.log2 n - 23

/-- n + a part below one unit (`sticky`), rounded to 24 bits, with the exponent gained. -/
def roundNat (n : Nat) (sticky : Bool) : Nat × Nat :=
  let k := spareBits n
  let q := n / 2 ^ k
  let rem := 2 * (n % 2 ^ k) + (if sticky then 1 else 0)
  let up := decide (2 ^ k < rem) || (rem == 2 ^ k && k != 0 && q % 2 == 1)
  (if up then q + 1 else q, k)

/-- n / d x 2^e rounded to single precision. -/
def sRat (n : Int) (d : Nat) (e : Int) : Single :=
  let a := n.natAbs
  if a = 0 ∨ d = 0 then {}
  else
    let sh := 28 + Nat.log2 d - min (Nat.log2 a) (28 + Nat.log2 d)
    let q := a * 2 ^ sh / d
    let r := roundNat q (a * 2 ^ sh % d != 0)
    { m := if n < 0 then -(r.1 : Int) else r.1, e := e + r.2 - sh }

/-- A whole number. -/
def sInt (n : Int) : Single := sRat n 1 0

def Single.mul (a b : Single) : Single := sRat (a.m * b.m) 1 (a.e + b.e)
/-- Both mantissas at the smaller exponent. -/
def sAlign (a b : Single) : Int × Int × Int :=
  let e := min a.e b.e
  (a.m * 2 ^ (a.e - e).toNat, b.m * 2 ^ (b.e - e).toNat, e)
def Single.add (a b : Single) : Single := let r := sAlign a b; sRat (r.1 + r.2.1) 1 r.2.2
def Single.sub (a b : Single) : Single := let r := sAlign a b; sRat (r.1 - r.2.1) 1 r.2.2
/-- A quotient. By 0, which F_NOM 0 brings, it is a free value, a function of what is divided: the model has no infinity and no NaN (assumption 25). -/
def Single.div (a b : Single) : Single :=
  if b.m = 0 then { m := (Config.divByZero a.m a.e).1, e := (Config.divByZero a.m a.e).2 }
  else sRat (if b.m < 0 then -a.m else a.m) b.m.natAbs (a.e - b.e)
def Single.lt (a b : Single) : Bool := let r := sAlign a b; decide (r.1 < r.2.1)
def Single.le (a b : Single) : Bool := let r := sAlign a b; decide (r.1 ≤ r.2.1)
def Single.eq (a b : Single) : Bool := let r := sAlign a b; decide (r.1 = r.2.1)
def Single.min (a b : Single) : Single := if b.lt a then b else a
def Single.max (a b : Single) : Single := if a.lt b then b else a

/-- The whole square root of a number below 4^k. -/
def isqrt : Nat → Nat → Nat → Nat
  | 0, _, r => r
  | k + 1, n, r => if (r + 2 ^ k) * (r + 2 ^ k) ≤ n then isqrt k n (r + 2 ^ k) else isqrt k n r

/-- The square root of a number that is not negative. -/
def Single.sqrt (a : Single) : Single :=
  if a.m ≤ 0 then {}
  else
    let odd := (a.e % 2).toNat
    let n := a.m.natAbs * 2 ^ (40 + odd)
    let r := isqrt 40 n 0
    let q := roundNat r (r * r != n)
    { m := q.1, e := (a.e - odd - 40) / 2 + q.2 }

/-- The number times a factor as a quotient of whole numbers. -/
def Single.ratio (a : Single) (k : Nat) : Int × Nat := (a.m * k * 2 ^ a.e.toNat, 2 ^ (-a.e).toNat)
/-- The number times a factor, rounded down. -/
def Single.floor (a : Single) (k : Nat) : Int := (a.ratio k).1 / ((a.ratio k).2 : Int)

end Sys2Proof.Machine
end

