-- ==== Sys2Proof/Machine/Cooling.lean ====
section
/-!
DEFINITION. Cable cooling (chapter 09): circuits, lost inputs, the thermal observer and the cooling commands.
-/
namespace Sys2Proof.Machine

/-! ### Circuit records (R254, R255) -/

def coolNode (r : Rec) : Nat := fld r 2 2
def coolOutlet (r : Rec) : Nat := fld r 8 2
def coolIMax (r : Rec) : Nat := fld r 10 2
def coolFMin (r : Rec) : Nat := fld r 30 2
def coolFRun (r : Rec) : Nat := fld r 32 2
def coolFIdle (r : Rec) : Nat := fld r 34 2
def coolFlowFs (r : Rec) : Nat := fld r 36 2
def coolTTrip (r : Rec) : Int := sfld r 40 1

/-- The fields of a circuit record lie in their ranges and agree (R254, R255). -/
def State.circuitOk (s : State) (n : Nat) (r : Rec) : Bool :=
  let loop (i : Nat) : Bool := decide (i < 2048) && (s.bas.coeffs.get? i).isSome && coefNode (s.coef i) == coolNode r && rateK (coefRate (s.coef i)) == 1000
  fld r 0 2 == n && s.nodeKind (coolNode r) == 2 && loop (coolPump r) && loop (coolValve r) && (s.bas.coeffs.get? (coolOutlet r)).isSome &&
    decide (1 ≤ coolIMax r ∧ coolIMax r ≤ 4000) && decide (fld r 12 2 ≤ coolIMax r) && decide (1 ≤ fld r 14 2 ∧ fld r 14 2 ≤ 10000) &&
    decide (1 ≤ fld r 16 2) && decide (fld r 16 2 ≤ fld r 18 2) && decide (1 ≤ fld r 20 2 ∧ fld r 20 2 ≤ 10000) &&
    decide (10 ≤ fld r 22 2 ∧ fld r 22 2 ≤ 60000) && decide (fld r 24 2 ≤ 1000) && decide (fld r 26 2 ≤ 1000) &&
    decide (coolFMin r < coolFIdle r ∧ coolFIdle r ≤ coolFRun r) && decide (fld r 28 2 ≤ coolFlowFs r) &&
    decide (sfld r 38 1 < sfld r 39 1 ∧ sfld r 39 1 < sfld r 40 1 ∧ sfld r 40 1 ≤ 125) &&
    decide (1 ≤ fld r 42 1 ∧ fld r 42 1 ≤ 3) && zeros r 43 21

/-- A circuit as the module keeps it. -/
def State.circuit (s : State) (n : Nat) : Circuit := s.cool.circuits.getD n {}
/-- The record of a circuit, empty where none is configured. -/
def State.circuitRec (s : State) (n : Nat) : Rec := s.cool.recs.getD n []
/-- Changes a circuit. -/
def State.updCircuit (s : State) (n : Nat) (f : Circuit → Circuit) : State :=
  { s with cool := { s.cool with circuits := s.cool.circuits.set n (f (s.circuit n)) } }

/-- The session context that holds an outlet. -/
def State.ctxOf (s : State) (outlet : Nat) : Option (Nat × Ctx) := s.ses.ctxs.find? fun e => e.2.outlet == outlet

/-- The effect of COOL_CONFIG (R269). -/
def coolConfig (c : InFlight) (s : State) : State :=
  let n := c.desc.object
  match c.record 64 with
  | none => s.fail c.uid ST_BAD_PARAM
  | some r =>
    if 255 < n ∨ (¬allZero r ∧ ¬s.circuitOk n r) then s.fail c.uid ST_BAD_PARAM
    else if (s.circuit n).state ≠ 0 then s.fail c.uid ST_BUSY
    else ({ s with cool := { s.cool with recs := if allZero r then s.cool.recs.del n else s.cool.recs.set n r } }).ok c []

def execCoolConfig (q tag : Nat) (s : State) : Host.Outcome State Fault Refusal := startCommand 0x0800 q tag s coolConfig

/-! ### Samples and lost inputs (R256 to R258) -/

/-- Readings that are missing are -32768. -/
def tempOk (t : Int) : Bool := t != -32768

/-- A coolant temperature within -40 to 125 °C. -/
def coolantOk (t : Int) : Bool := tempOk t && decide (-4000 ≤ t ∧ t ≤ 12500)

/-- The newest sample is not older than COOL_SAMPLE_MS. -/
def State.coolFresh (s : State) (c : Circuit) : Bool := match c.sample with
  | some x => decide (s.now ≤ x.at' + s.pms PAR_COOL_SAMPLE_MS)
  | none => false

/-- The higher of the valid fitted pin readings. -/
def State.pinOf (s : State) (n : Nat) : Option Int :=
  match (s.circuit n).sample with
  | none => none
  | some x =>
    if s.coolFresh (s.circuit n) = false then none
    else
      let f := fld (s.circuitRec n) 42 1
      let l := (if bit f 0 && tempOk x.pin0 then [x.pin0] else []) ++ (if bit f 1 && tempOk x.pin1 then [x.pin1] else [])
      match l with
      | [] => none
      | a :: t => some (t.foldl max a)

/-- A coolant temperature has changed by more than COOL_DTDT_MAX within the last second. -/
def State.coolJump (s : State) (c : Circuit) (f : CoolSample → Int) : Bool :=
  let l := (c.past.filter fun x => tempOk (f x)).map f
  match l with
  | [] => false
  | a :: t => decide ((100 * s.pn PAR_COOL_DTDT_MAX : Int) < t.foldl max a - t.foldl min a)

/-- A time since which something lasts is at least `d` ago. -/
def lasted (since : Option Nat) (d now : Nat) : Bool := match since with
  | some t => decide (t + d ≤ now)
  | none => false

/-- The loss condition of an input: 0 coolant temperatures, 1 flow, 2 pin (R258). -/
def State.coolLoss (s : State) (n k : Nat) : Bool :=
  let c := s.circuit n
  let fresh := s.coolFresh c
  match c.sample with
  | none => true
  | some x =>
    match k with
    | 0 => !fresh || !coolantOk x.tIn || !coolantOk x.tOut || s.coolJump c CoolSample.tIn || s.coolJump c CoolSample.tOut ||
        lasted c.diffSince (10 * sec) s.now
    | 1 => !fresh || lasted c.lowSince (s.pms PAR_COOL_FLOW_MS) s.now || (s.inst (coolPump (s.circuitRec n))).state == 4
    | _ => (s.pinOf n).isNone || lasted c.devSince (5 * sec) s.now

/-- The circuit keeps a sample, and how long the conditions of R258 and the flow of R264 have lasted. -/
def State.takeSample (s : State) (n : Nat) (r : Rec) (x : CoolSample) : State :=
  let s := if s.forwards then { s with cool := { s.cool with fwdSamples := s.cool.fwdSamples ++ [(n, x)] } } else s
  let keep (b : Bool) (since : Option Nat) : Option Nat := if b then some (since.getD s.now) else none
  s.updCircuit n fun c => { c with
    sample := some x, past := x :: c.past.filter fun p => decide (s.now ≤ p.at' + sec),
    lowSince := keep (decide (x.flow < coolFMin r ∧ 16384 ≤ x.pump)) c.lowSince,
    diffSince := keep (tempOk x.tIn && tempOk x.tOut && decide (x.tOut + 200 < x.tIn ∧ coolFMin r ≤ x.flow)) c.diffSince,
    primeSince := if c.state = 1 ∧ coolFMin r ≤ x.flow then some (c.primeSince.getD s.now) else none }

/-- COOLING_SAMPLE (R256): the timers of R258 follow the sample, and coolant temperatures that are valid are held; while they are lost, the last
valid ones stay (R259). -/
def execCoolingSample (circuit : Nat) (tIn tOut : Int) (flow : Nat) (pump pin0 pin1 : Int) (s : State) : Host.Outcome State Fault Refusal :=
  match s.cool.recs.get? circuit with
  | none => .next s
  | some r =>
    let x : CoolSample := ⟨s.now, tIn, tOut, flow, pump, pin0, pin1⟩
    let t := s.takeSample circuit r x
    .next (if (t.circuit circuit).lost.getLsbD 0 ∨ t.coolLoss circuit 0 then t
           else t.updCircuit circuit fun c => { c with heldIn := tIn, heldOut := tOut })

/-- The number of inputs lost. -/
def lostCount (c : Circuit) : Nat := ((List.range 3).filter fun k => c.lost.getLsbD k).length

/-- INPUT_LOST (R258, R264): while the observer runs. -/
def execInputLost (circuit input : Nat) (s : State) : Host.Outcome State Fault Refusal :=
  let c := s.circuit circuit
  if (c.state = 2 ∨ c.state = 3) ∧ input < 3 ∧ c.lost.getLsbD input = false ∧ s.coolLoss circuit input = true ∧ s.isActive = true then
    let t := s.updCircuit circuit fun c => { c with lost := c.lost ||| BitVec.ofNat 3 (2 ^ input), okSince := c.okSince.del input, state := 3 }
    let t := t.raise 0x08 0x0003 circuit
    .next (if c.state = 2 then t.report SRC_COOL_DEGRADED circuit else t)
  else .next s

/-- INPUT_VALID_AGAIN (R258): the condition has been absent for 10 s. -/
def execInputValidAgain (circuit input : Nat) (s : State) : Host.Outcome State Fault Refusal :=
  let c := s.circuit circuit
  if input < 3 ∧ c.lost.getLsbD input = true ∧ lasted (c.okSince.get? input) (10 * sec) s.now = true ∧ s.isActive = true then
    .next (s.updCircuit circuit fun c =>
      let l := c.lost &&& ~~~ BitVec.ofNat 3 (2 ^ input)
      { c with lost := l, okSince := c.okSince.del input, state := if c.state = 3 ∧ l = 0 then 2 else c.state })
  else .next s

/-! ### Starting and ending a circuit (R264 to R266) -/

/-- A reference written to an instance, in Q15; where it lies outside Q15 its value is open. -/
def State.setRef (s : State) (i : Nat) (n : Int) (d : Nat) : State :=
  let r := s.q15 n d
  { r.2 with bas := { r.2.bas with refWait := r.2.bas.refWait ++ [(none, [(i, r.1)])] } }

/-- A flow reference written to the pump loop. -/
def State.setPump (s : State) (n f : Nat) : State :=
  let r := s.circuitRec n
  if (s.circuit n).pumpRef = some f then s
  else (s.updCircuit n fun c => { c with pumpRef := some f }).setRef (coolPump r) f (coolFlowFs r)

/-- Arms an instance for the cooling function; an arm that is refused is tried again in the next site cycle, and an instance that the host has FROZEN is
released (DEDUCED, assumption 135). -/
def State.coolArm (s : State) (i : Nat) : State :=
  let x := s.inst i
  if x.wait ≠ [] then s
  else if x.state = 3 then s.addWait i (.release none)
  else match s.armFor i with
    | .inl _ => s
    | .inr t => t

/-- The highest valid reading among the pin sensors and the coolant outlet (R259); the last one held where none is valid. -/
def State.startTemp (s : State) (n : Nat) : Int :=
  let c := s.circuit n
  let out := match c.sample with
    | some x => if s.coolFresh c && coolantOk x.tOut && !s.coolJump c CoolSample.tOut then some x.tOut else none
    | none => none
  match s.pinOf n, out with
  | some a, some b => max a b
  | some a, none => a
  | none, some b => b
  | none, none => c.heldOut

/-- A circuit enters PRIMING (R259, R264). -/
def State.startCircuit (s : State) (n : Nat) : State :=
  match s.cool.recs.get? n with
  | none => s
  | some r =>
    let t0 := sRat (s.startTemp n) 100 0
    let off := (s.circuit n).state == 0
    let t := s.updCircuit n fun c => { c with
      state := 1, lost := 0, okSince := [], tC := t0, tS := t0, enteredAt := s.now, primeSince := none, capMa := none, derated := c.derated && !off,
      derateMs := if off then 0 else c.derateMs, endAt := none, idleSince := none, devSince := none, pumpRef := none }
    let t := (t.coolArm (coolPump r)).coolArm (coolValve r)
    (t.setPump n (coolFRun r)).setRef (coolValve r) (sfld r 41 1) 200

/-- A circuit becomes FAILED (R264): its cause and event; waiting COOL_STOP commands end (DEDUCED, assumption 26). -/
def State.circuitFails (s : State) (n cause event : Nat) : State :=
  let w := (s.circuit n).stops
  let t := s.updCircuit n fun c => { c with state := 4, cause := cause, stops := [] }
  let t := w.foldl (fun (u : State) k => u.okUid k []) t
  (t.raise 0x08 event n).report SRC_COOL_FAILED n

/-- A circuit becomes OFF (R264): its instances are disarmed, and COOL_STOP completes. -/
def State.circuitOff (s : State) (n : Nat) : State :=
  let r := s.circuitRec n
  let w := (s.circuit n).stops
  let t := s.updCircuit n fun c => { c with state := 0, lost := 0, stops := [], endAt := none, idleSince := none, pumpRef := none }
  let t := (t.disarmFor (coolPump r)).disarmFor (coolValve r)
  w.foldl (fun (u : State) k => u.okUid k []) t

/-- The time at which the run-on of a circuit counts from: the end of the session or COOL_STOP, or the end of COOL_RUNON_S without a
session. -/
def State.runonFrom (s : State) (c : Circuit) : Option Nat := match c.endAt with
  | some t => some t
  | none => match c.idleSince with
    | some t => if t + s.pn PAR_COOL_RUNON_S * sec ≤ s.now then some (t + s.pn PAR_COOL_RUNON_S * sec) else none
    | none => none

/-- A circuit in COOLING or DEGRADED that may end: no session holds its outlet, and its contacts are cool or COOL_RUNON_S has passed since the
end (R264). -/
def State.mayOff (s : State) (n : Nat) : Bool :=
  let c := s.circuit n
  decide (c.state = 2 ∨ c.state = 3) && (s.ctxOf n).isNone && (match s.runonFrom c with
    | some t => c.tC.le (c.tK.add (sInt 5)) || decide (t + s.pn PAR_COOL_RUNON_S * sec ≤ s.now)
    | none => false)

/-- COOL_RUNON_EXPIRY (R264). -/
def execCoolRunonExpiry (circuit : Nat) (s : State) : Host.Outcome State Fault Refusal :=
  if s.mayOff circuit then .next (s.circuitOff circuit) else .next s

/-- The session of an outlet has ended (R264). -/
def State.coolSessionEnds (s : State) (n : Nat) : State :=
  if (s.circuit n).state = 0 then s else s.updCircuit n fun c => { c with endAt := some s.now }

/-- PRIMING_DONE (R264). -/
def execPrimingDone (circuit : Nat) (s : State) : Host.Outcome State Fault Refusal :=
  let c := s.circuit circuit
  if c.state = 1 ∧ s.coolLoss circuit 0 = false ∧ lasted c.primeSince (s.pms PAR_COOL_PRIME_MS) s.now = true then
    .next (s.updCircuit circuit fun c => { c with state := 2 })
  else .next s

/-- PRIMING_TIMEOUT (R264). -/
def execPrimingTimeout (circuit : Nat) (s : State) : Host.Outcome State Fault Refusal :=
  let c := s.circuit circuit
  if c.state = 1 ∧ c.enteredAt + s.pms PAR_COOL_PRIME_MAX_MS ≤ s.now then .next (s.circuitFails circuit 1 0x0005) else .next s

/-! ### The observer (R259 to R263) -/

/-- The output stages of an outlet: those of the node outputs of its cap map. -/
def State.outletStages (s : State) (o : Nat) : List Nat :=
  ((capEntries (s.capmap o)).map fun e => stageObj e.1 (e.2.1 + 1)).filter fun x =>
    !(stageConvs (s.stg.cabinets.getD (x % 65536) []) (x / 65536)).isEmpty

/-- PRE_INST and V_SCALE_V of an outlet record (R275). -/
def outPre (r : Rec) : Nat := fld r 10 2
def outVScale (r : Rec) : Nat := fld r 38 2

/-- Voltage of an outlet's stages in V: the highest of its output stages (DEDUCED, assumption 27). -/
def State.outletVolt (s : State) (o : Nat) : Nat := ((s.outletStages o).map fun x => (s.stage x).volt).foldl max 0

/-- Measured output voltage of an outlet in 0.1 V: from PRE_INST in the scale of V_SCALE_V while it drives, otherwise from the outlet's stages
(DEDUCED, assumption 27). -/
def State.outDv (s : State) (o : Nat) : Nat := match s.ses.recs.get? o with
  | some r =>
    let x := s.inst (outPre r)
    if drives x then (x.meas * (10 * outVScale r : Nat) / 32768).toNat else 10 * s.outletVolt o
  | none => 10 * s.outletVolt o

/-- I_SCALE_A of an outlet; without an outlet record I_MAX_A of the circuit (DEDUCED, assumption 28). -/
def State.outletScale (s : State) (o : Nat) : Nat := match s.ses.recs.get? o with
  | some r => fld r 36 2
  | none => coolIMax (s.circuitRec o)

/-- The outlet current over the last site cycle as a quotient in A (R257). -/
def State.outletAmps (s : State) (o inst : Nat) : Int × Nat :=
  let x := s.inst inst
  if x.cycN = 0 then (((s.outletStages o).map fun k => (s.stage k).amp).sum, 1)
  else (x.cycSum * s.outletScale o, 32768 * x.cycN)

/-- Target of the cap of R261 in mA, none when none applies: lost inputs, and a hold of the fault collector (R524). -/
def State.capTarget (s : State) (n : Nat) : Option Nat :=
  let r := s.circuitRec n
  let c := s.circuit n
  let open' := 10 * coolIMax r * s.pn PAR_COOL_OPENLOOP_PCT
  let t := if 2 ≤ lostCount c then some 0
           else if c.lost.getLsbD 1 then some (1000 * fld r 12 2)
           else if c.lost ≠ 0 then some open' else none
  if s.held 5 n 1 then some (match t with
    | some k => min k open'
    | none => open') else t

/-- The cap after one site cycle, in mA: COOL_LOSS_RAMP_AS A/s is as many mA in 1 ms (R261). -/
def State.nextCap (s : State) (n : Nat) : Option Nat :=
  let c := s.circuit n
  let top := 1000 * coolIMax (s.circuitRec n)
  let step := s.pn PAR_COOL_LOSS_RAMP_AS
  match s.capTarget n, c.capMa with
  | some k, m => let m := m.getD top; some (if k ≤ m then max k (m - step) else min k (m + step))
  | none, some m => if top ≤ m + step then none else some (m + step)
  | none, none => none

/-- What one site cycle of the observer forms for a circuit. -/
structure ObsOut where
  tC : Single
  tS : Single
  tK : Single
  iLim : Single
  /-- 0 no trip, 2 by estimate, 3 by pin. -/
  trip : Nat
  deriving DecidableEq, Repr

/-- R259 and R260, in the order in which the spec writes them. -/
def State.observe (s : State) (n : Nat) (i : Single) (cap : Option Nat) : ObsOut :=
  let r := s.circuitRec n
  let c := s.circuit n
  let x := c.sample.getD ⟨0, 0, 0, 0, 0, 0, 0⟩
  let lostT := c.lost.getLsbD 0
  let add : Int := if lostT then 1000 else 0
  let tin := sRat (c.heldIn + add) 100 0
  let tout := sRat (c.heldOut + add) 100 0
  let kappa := sRat (fld r 26 2) 1000 0
  let tk := tin.add (kappa.mul (tout.sub tin))
  let fr := if c.lost.getLsbD 1 then sInt 0 else Single.min (sInt 1) ((sInt x.flow).div (sInt (fld r 28 2)))
  let rNo := sRat (fld r 18 2) 1000 0
  let rNom := sRat (fld r 16 2) 1000 0
  let rth := rNo.sub ((rNo.sub rNom).mul fr)
  let rc := sRat (fld r 14 2) 10000000 0
  let dt := sRat 1 1000 0
  let p := (i.mul i).mul rc
  let tc := c.tC.add ((dt.div (sInt (fld r 20 2))).mul (p.sub ((c.tC.sub tk).div rth)))
  let ts := c.tS.add ((dt.div (sRat (fld r 22 2) 1000 0)).mul (tc.sub c.tS))
  let pin := s.pinOf n
  let pinS := pin.map fun v => sRat v 100 0
  let corr := match pinS with
    | some v => if c.lost.getLsbD 2 then sInt 0 else (sRat (fld r 24 2) 1000 0).mul (v.sub ts)
    | none => sInt 0
  let tc := tc.add corr
  let ts := ts.add corr
  let iMax := sInt (coolIMax r)
  let tLimit := sInt (sfld r 39 1)
  let tDer := sInt (sfld r 38 1)
  let tTrip := sInt (coolTTrip r)
  let iss := ((Single.max (sInt 0) (tLimit.sub tk)).div (rth.mul rc)).sqrt
  let trip := if tTrip.le tc then 2 else match pinS with
    | some v => if tTrip.le v then 3 else 0
    | none => 0
  let lim := if trip ≠ 0 then sInt 0
    else if tc.le tDer then iMax
    else
      let frac := (tLimit.sub tc).div (tLimit.sub tDer)
      Single.max (sInt 0) (Single.min iMax (iss.add ((iMax.sub iss).mul frac)))
  let lim := match cap with
    | some m => Single.min lim (sRat m 1000 0)
    | none => lim
  { tC := tc, tS := ts, tK := tk, iLim := lim, trip := trip }

/-- The cooling limit of R262 in kW, none where none applies. -/
def State.coolLimitKw (s : State) (n : Nat) : Option Nat :=
  match s.cool.recs.get? n with
  | none => none
  | some r =>
    let c := s.circuit n
    if c.state = 2 ∨ c.state = 3 then
      if c.iLim.eq (sInt (coolIMax r)) then none
      else
        let v := match s.ctxOf n with
          | some (_, x) => max (s.outDv n) x.evVolt
          | none => s.outDv n
        some ((c.iLim.ratio v).1 / ((c.iLim.ratio v).2 * 10000 : Nat)).toNat
    else some 0

/-- Hands the cooling limits to the arbiter (R262); in lockstep mode the next INPUTS says that the observer has run (R559). -/
def State.handLimits (s : State) : State :=
  let s := if s.forwards then { s with cool := { s.cool with fwdObserver := true } } else s
  s.cool.recs.foldl (fun (t : State) e =>
    { t with lv := { t.lv with coolLimit := t.lv.coolLimit.put e.1 (t.coolLimitKw e.1) } }) { s with lv := { s.lv with coolLimit := [] } }

/-- The pump reference that the conditions of R265 give. -/
def State.pumpWanted (s : State) (n : Nat) : Nat :=
  let r := s.circuitRec n
  let c := s.circuit n
  let stage := (s.outletStages n).any fun k => decide ((s.stage k).state = 3 ∨ (s.stage k).state = 4)
  if c.state = 1 ∨ (sInt 5).le c.iNow ∨ (c.tK.add (sInt 10)).lt c.tC ∨ stage then coolFRun r else coolFIdle r

/-- Timers of a circuit that run with the site cycle: the deviation of the pin, and how long the conditions of lost inputs are absent. -/
def State.coolTimers (s : State) (n : Nat) : State :=
  let c := s.circuit n
  let far := match s.pinOf n with
    | some v => let d := (sRat v 100 0).sub c.tS
                (sInt (s.pn PAR_COOL_OBS_DEV_K)).lt { d with m := d.m.natAbs }
    | none => false
  let t := s.updCircuit n fun c => { c with devSince := if far then some (c.devSince.getD s.now) else none }
  (List.range 3).foldl (fun (u : State) k =>
    if (u.circuit n).lost.getLsbD k then
      u.updCircuit n fun c => { c with okSince := if u.coolLoss n k then c.okSince.del k else c.okSince.set k (c.okSince.getD k u.now) }
    else u) t

/-- What the observer forms reaches the circuit: the events of R273, and the trip or the cap of 0 A that fails it (R264). -/
def State.observed (s : State) (n : Nat) (o : ObsOut) (cap : Option Nat) : State :=
  let c := s.circuit n
  let below := !o.iLim.eq (sInt (coolIMax (s.circuitRec n)))
  let t := s.updCircuit n fun c => { c with tC := o.tC, tS := o.tS, tK := o.tK, iLim := o.iLim, capMa := cap, derated := below }
  let t := if below ∧ ¬c.derated then t.raise 0x08 0x0001 n else if ¬below ∧ c.derated then t.raise 0x08 0x0002 n else t
  if o.trip ≠ 0 then t.circuitFails n o.trip 0x0004 else if cap = some 0 then t.circuitFails n 4 0x0005 else t

/-- One site cycle of one circuit. -/
def State.circuitCycle (s : State) (n : Nat) : State :=
  let r := s.circuitRec n
  let hasSes := (s.ctxOf n).isSome
  let a := s.outletAmps n (coolOutlet r)
  let i := sRat a.1 a.2 0
  let s := s.updCircuit n fun c => { c with
    iNow := i
    idleSince := if c.state = 0 ∨ hasSes then none else some (c.idleSince.getD s.now) }
  let s := if (s.circuit n).state = 0 then s else s.coolTimers n
  let c := s.circuit n
  let s := if c.state = 2 ∨ c.state = 3 then
      let cap := s.nextCap n
      s.observed n (s.observe n i cap) cap
    else s.updCircuit n fun c => { c with iLim := {} }
  let s := if (s.circuit n).state = 0 then s
    else
      let t := s.updCircuit n fun c => { c with derateMs := c.derateMs + (if c.iLim.eq (sInt (coolIMax r)) then 0 else 1) }
      ((t.setPump n (t.pumpWanted n)).coolArm (coolPump r)).coolArm (coolValve r)
  if s.mayOff n then s.circuitOff n else s

/-- COOLING_OBSERVER_CYCLE (R259, R262): every configured circuit, then the limits to the ledger; on the module that holds the lease (R267). -/
def execCoolingObserverCycle (s : State) : Host.Outcome State Fault Refusal :=
  if s.isActive then .next ((s.cool.recs.keys.foldl State.circuitCycle s).handLimits) else .next s

/-! ### Commands (R268 to R271) -/

/-- The effect of COOL_START (R270). -/
def coolStart (c : InFlight) (s : State) : State :=
  let n := c.desc.object
  if (s.cool.recs.get? n).isNone then s.fail c.uid ST_BAD_PARAM
  else if (s.ctxOf n).isSome then s.fail c.uid ST_BUSY
  else if (s.circuit n).state ≠ 0 then s.ok c []
  else (s.startCircuit n).ok c []

def execCoolStart (q tag : Nat) (s : State) : Host.Outcome State Fault Refusal := startCommand 0x0801 q tag s coolStart

/-- The effect of COOL_STOP (R270). -/
def coolStop (c : InFlight) (s : State) : State :=
  let n := c.desc.object
  if (s.cool.recs.get? n).isNone then s.fail c.uid ST_BAD_PARAM
  else if (s.ctxOf n).isSome then s.fail c.uid ST_BUSY
  else if (s.circuit n).state = 0 ∨ (s.circuit n).state = 4 then s.ok c []
  else s.updCircuit n fun x => { x with endAt := some (x.endAt.getD s.now), stops := x.stops ++ [c.uid] }

def execCoolStop (q tag : Nat) (s : State) : Host.Outcome State Fault Refusal := startCommand 0x0802 q tag s coolStop

/-- The effect of COOL_RESET (R270, R524). -/
def coolReset (c : InFlight) (s : State) : State :=
  let n := c.desc.object
  let x := s.circuit n
  let trip := sInt (coolTTrip (s.circuitRec n))
  let hot := trip.le x.tC || (match s.pinOf n with
    | some v => trip.le (sRat v 100 0)
    | none => false)
  if (s.cool.recs.get? n).isNone then s.fail c.uid ST_BAD_PARAM
  else if (s.ctxOf n).isSome then s.fail c.uid ST_BUSY
  else if x.state ≠ 4 then s.fail c.uid ST_BAD_PARAM
  else if s.held 5 n 2 then s.fail c.uid ST_FENCED
  else if hot then s.fail c.uid ST_BUSY
  else (s.startCircuit n).ok c []

def execCoolReset (q tag : Nat) (s : State) : Host.Outcome State Fault Refusal := startCommand 0x0803 q tag s coolReset

/-- A temperature in 0.01 °C; the rounding is open. -/
def State.centi (s : State) (t : Single) : Int × State := s.roundDiv (t.ratio 100).1 (t.ratio 100).2
/-- A current in A, rounded down. -/
def wholeAmps (i : Single) : Nat := (i.floor 1).toNat

/-- A circuit record of COOL_READ (R271). -/
def State.circuitRecord (s : State) (n : Nat) : List Byte × State :=
  match s.cool.recs.get? n with
  | none => (padTo 32 (pack [(1, n)]), s)
  | some _ =>
    let c := s.circuit n
    let a := s.centi c.tC
    let b := a.2.centi c.tK
    (pack [(1, n), (1, c.state), (1, c.lost.toNat), (1, c.cause)] ++ leInt 2 a.1 ++ leInt 2 ((s.pinOf n).getD (-32768)) ++ leInt 2 b.1 ++
      pack [(2, (c.sample.map CoolSample.flow).getD 0), (2, wholeAmps c.iNow), (2, wholeAmps c.iLim),
            (4, (s.coolLimitKw n).getD 0xFFFFFFFF), (4, min (2 ^ 32 - 1) (c.derateMs / 1000)), (8, 0)], b.2)

/-- The effect of COOL_READ (R271). -/
def coolRead (c : InFlight) (s : State) : State :=
  let first := c.desc.u 32 1
  let n := c.desc.u 34 2
  if n = 0 ∨ 256 < n ∨ c.desc.dataLen < 32 * n ∨ 256 < first + n then s.fail c.uid ST_BAD_PARAM
  else
    let r := (List.range n).foldl (fun (a : List Byte × State) j => let x := a.2.circuitRecord (first + j); (a.1 ++ x.1, x.2)) ([], s)
    r.2.answer c [] r.1

def execCoolRead (q tag : Nat) (s : State) : Host.Outcome State Fault Refusal := startCommand 0x0804 q tag s coolRead

end Sys2Proof.Machine
end

