-- ==== Sys2Proof/Machine/FwOps.lean ====
section
/-!
DEFINITION. Firmware bundles and slots (R580 to R583), and the activation of a bundle from its reset pulse on (R587).
-/
namespace Sys2Proof.Machine

/-- Writes a firmware slot. -/
def State.setFw (s : State) (n : Nat) (x : FwSlot) : State :=
  if n = 0 then { s with sys := { s.sys with f0 := x } } else { s with sys := { s.sys with f1 := x } }

/-- The slot that is not active, F0 when none is (DEDUCED, assumption 52). -/
def State.fwOther (s : State) : Nat := match s.sys.fwActive with
  | some 0 => 1
  | _ => 0

/-! ### Bundles (R580) -/

def fwbKind (b : List Byte) (j : Nat) : Nat := fld b (64 + 64 * j) 1
def fwbOffset (b : List Byte) (j : Nat) : Nat := fld b (68 + 64 * j) 4
def fwbLength (b : List Byte) (j : Nat) : Nat := fld b (72 + 64 * j) 4
def fwbHash (b : List Byte) (j : Nat) : List Byte := (b.drop (80 + 64 * j)).take 48
def fwbCount (b : List Byte) : Nat := fld b 17 1
def fwbSec (b : List Byte) : Nat := fld b 12 2

/-- The form of a bundle file, with PART and COUNT (R580): the components lie within it, their kinds are known and differ, and Vexnil is one. -/
def bundleForm (b : List Byte) : Bool :=
  let n := fwbCount b
  let l := List.range n
  b.take 4 == [0x46, 0x57, 0x42, 0x4E] && fld b 4 2 == 1 && fld b 6 2 == 0x9100 && decide (1 ≤ n ∧ n ≤ 4) && fld b 16 1 == 0xFF && zeros b 18 2 &&
    fld b 20 4 == b.length && fld b 24 4 == 0xFFFFFFFF && zeros b 28 36 && decide (fwbSec b ≤ 63) &&
    (l.all fun j => decide (1 ≤ fwbKind b j ∧ fwbKind b j ≤ 4) && zeros b (65 + 64 * j) 3 && zeros b (76 + 64 * j) 4 &&
      decide (416 ≤ fwbOffset b j ∧ fwbOffset b j + fwbLength b j ≤ b.length)) &&
    (l.any fun j => fwbKind b j == 1) && (l.all fun j => (l.filter fun k => fwbKind b k == fwbKind b j).length == 1) &&
    zeros b (64 + 64 * n) (64 * (4 - n))

/-- The number under which Config.verifies knows the Novjor firmware key, which the loader holds in fuses (R580). -/
def FW_KEY : Nat := 65536

/-- The signature over bytes 0 to 319 and the hashes of the components (R580). -/
def bundleAuthentic (b : List Byte) : Bool :=
  Config.verifies FW_KEY (b.take 320) ((b.drop 320).take 96) &&
    (List.range (fwbCount b)).all fun j => Config.sha384 ((b.drop (fwbOffset b j)).take (fwbLength b j)) == fwbHash b j

/-- The hashes of a bundle's components by kind. -/
def bundleComps (b : List Byte) : Tab (List Byte) :=
  (List.range (fwbCount b)).foldl (fun (t : Tab (List Byte)) j => t.set (fwbKind b j) (fwbHash b j)) []

/-! ### Activation (R587) -/

/-- A hash is that of one of an island's two copies. -/
def State.copyHas (s : State) (kind : Nat) (h : List Byte) : Bool := match s.sys.copies.get? kind with
  | some (a, b) => a == h || b == h
  | none => false

/-- The bundle's component of an island is absent or matches one of its copies. -/
def State.copyFits (s : State) (x : FwSlot) (kind : Nat) : Bool := match x.comps.get? kind with
  | none => true
  | some h => s.copyHas kind h

/-- The island kinds of a bundle: 2 Granite, 3 Jasper, 4 gauge domain. -/
def fwIslands (x : FwSlot) : List Nat := [2, 3, 4].filter fun k => (x.comps.get? k).isSome

/-- The copies of an island after its overwrite: the copy that the active bundle names stays, the other holds the new component. -/
def State.newCopies (s : State) (x : FwSlot) (kind : Nat) : List Byte × List Byte :=
  let h := (x.comps.get? kind).getD []
  let named := ((s.sys.fwActive.map s.fw).bind fun a => a.comps.get? kind).getD (s.sys.running.getD kind [])
  match s.sys.copies.get? kind with
  | some (a, b) => if a = h ∨ b = h then (a, b) else if a = named then (a, h) else (h, b)
  | none => (named, h)

/-- The bundle becomes TRIAL (R587): the islands' copies are written, SEQ is one above the other slot's, and the new bundle runs from the next start. -/
def State.fwFinish (s : State) (uid : Nat) : State :=
  let n := s.fwOther
  let x := s.fw n
  let t := (fwIslands x).foldl (fun (u : State) k => { u with sys := { u.sys with copies := u.sys.copies.set k (s.newCopies x k) } }) s
  let t := t.setFw n { x with state := 0x7F, seq := (s.fw (1 - n)).seq + 1 }
  ({ t with sys := { t.sys with activate := none } }).endCmd uid ST_OK [] [] 0 0

/-- Each island copy asks for HOLDUP leave, for at most 2 s (R587 check 4); a bundle without island components needs none. -/
def State.fwAsk (s : State) (uid : Nat) : State :=
  let l := fwIslands (s.fw s.fwOther)
  if l.isEmpty then s.fwFinish uid
  else
    let t := l.foldl (fun (u : State) _ => u.askHoldup true (.fwStore uid)) s
    { t with sys := { t.sys with activate := some (uid, false, t.now + 2 * sec) } }

/-- A reset pulse lets a waiting activation go on (R587 check 3). -/
def State.fwPulse (s : State) : State := match s.sys.activate with
  | some (uid, true, _) => s.fwAsk uid
  | _ => s

/-- An island copy has been written; the last one completes the activation. -/
def fwStoreDone (uid : Nat) (s : State) : State :=
  match s.sys.activate with
  | some (u, false, _) => if u ≠ uid ∨ s.awaits (.fwStore uid) ∨ s.hasGrant (.fwStore uid) then s else s.fwFinish uid
  | _ => s

end Sys2Proof.Machine
end

