-- ==== Sys2Proof/Machine/GrnOps.lean ====
section
/-!
DEFINITION. Shared operations of Granite (chapter 18): configuration records, outlet health, trips and lock-outs, permits, telegrams,
tokens and the reset.
-/
namespace Sys2Proof.Machine

/-! ### Configuration records (R491, R496, R509, R516) -/

def imgTpPeriodMs (i : GrnImage) : Nat := fld i.header 8 2
def imgTpUs (i : GrnImage) : Nat := fld i.header 10 2
def imgCrcMax (i : GrnImage) : Nat := fld i.header 12 2
def imgResetWindowS (i : GrnImage) : Nat := fld i.header 14 2
def imgUdpPort (i : GrnImage) : Nat := fld i.header 16 2
/-- IMAGE_CRC (R516). -/
def imgCrc (i : GrnImage) : Nat := fld i.header 28 4

def inMode (r : Rec) : Nat := fld r 1 1
def inFunc (r : Rec) : Nat := fld r 2 1
def inFilterMs (r : Rec) : Nat := fld r 3 1
def inDiscMs (r : Rec) : Nat := fld r 4 2
def inEdgeMax (r : Rec) : Nat := fld r 6 1
def inDebounceMs (r : Rec) : Nat := fld r 7 1
def inFirst (r : Rec) : Nat := fld r 8 2
def inCount (r : Rec) : Nat := fld r 10 2

def outUsed (r : Rec) : Bool := fld r 1 1 == 1
def outAuto (r : Rec) : Bool := fld r 2 1 == 1
def outFb (r : Rec) : Nat := fld r 3 1
def outInMask (r : Rec) : Nat := fld r 4 2
def outFbMs (r : Rec) : Nat := fld r 6 2

def connKind (r : Rec) : Nat := fld r 2 1
def connDir (r : Rec) : Nat := fld r 3 1
def connPeer (r : Rec) : Nat := fld r 4 2
def connWdMs (r : Rec) : Nat := fld r 6 2
def connPeriodMs (r : Rec) : Nat := fld r 8 2
def connIdentity (r : Rec) : Nat := fld r 10 4
/-- STAGE_OUTLET of a stage (kind 1). -/
def connStageOutlet (r : Rec) (stage : Nat) : Nat := fld r (14 + 2 * stage) 2
/-- CONN_OUTLET of a connector (kind 2). -/
def connConnOutlet (r : Rec) (c : Nat) : Nat := fld r (14 + 2 * c) 2
def connAddrA (r : Rec) : Nat := fld r 14 4
def connFirst (r : Rec) : Nat := fld r 22 2
def connCount (r : Rec) : Nat := fld r 24 1
def connOutMask (r : Rec) : Nat := fld r 25 1
def connUsed (r : Rec) : Nat := fld r 26 2

/-- The outlets that a stage of a cabinet connection feeds (R489, R509). -/
def stageFeedsOf (r : Rec) (stage : Nat) : List Nat :=
  let v := connStageOutlet r stage
  if v < 256 then [v]
  else if v = 0xFFFD then (((List.range 8).map fun k => connStageOutlet r (k + 1)).filter fun o => decide (o < 256)).eraseDups
  else []

/-- The outlets a connection serves (R505). -/
def connOutlets (r : Rec) : List Nat :=
  match connKind r with
  | 1 => ((List.range 9).flatMap (stageFeedsOf r)).eraseDups
  | 2 => (((List.range 4).map (connConnOutlet r)).filter fun o => decide (o < 256)).eraseDups
  | 3 => (List.range (connCount r)).map (connFirst r + ·)
  | 4 => (List.range (connCount r)).map (connFirst r + ·)
  | _ => []

/-- The OK bits of an outlet in an inbound payload are all 1 (R502); bit k of a peer's OK concerns outlet OUTLET_FIRST + k
(DEDUCED, assumption 17). -/
def okFor (r : Rec) (inb : List Byte) (o : Nat) : Bool :=
  match connKind r with
  | 2 => (List.range 4).all fun c => connConnOutlet r c != o || bits (fld inb 0 2) (4 * c + 3) (4 * c) == 15
  | 3 => !(bit (connUsed r) (o - connFirst r)) || bit (fld inb 0 2) (o - connFirst r)
  | 4 => !(bit (connUsed r) (o - connFirst r)) || bit (fld inb 0 2) (o - connFirst r)
  | _ => true

/-- Every used OK bit of a peer is 1 (R489, safe output). -/
def peerOk (r : Rec) (inb : List Byte) : Bool := (List.range 16).all fun k => !(bit (connUsed r) k) || bit (fld inb 0 2) k

/-! ### State -/

def State.grnIn (s : State) (n : Nat) : GrnIn := s.grn.inputs.getD n {}
def State.grnOut (s : State) (n : Nat) : GrnOut := s.grn.outputs.getD n {}
def State.grnConn (s : State) (n : Nat) : GrnConn := s.grn.conns.getD n {}
/-- The record of an input pair; unused where the image holds none. -/
def State.inRec (s : State) (n : Nat) : Rec := s.grn.image.inputs.getD n []
def State.outRec (s : State) (n : Nat) : Rec := s.grn.image.outputs.getD n []
def State.updIn (s : State) (n : Nat) (f : GrnIn → GrnIn) : State :=
  { s with grn := { s.grn with inputs := s.grn.inputs.set n (f (s.grnIn n)) } }
def State.updOut (s : State) (n : Nat) (f : GrnOut → GrnOut) : State :=
  { s with grn := { s.grn with outputs := s.grn.outputs.set n (f (s.grnOut n)) } }
def State.updConn (s : State) (n : Nat) (f : GrnConn → GrnConn) : State :=
  { s with grn := { s.grn with conns := s.grn.conns.set n (f (s.grnConn n)) } }

/-- An outlet is locked out (R511). -/
def State.outletLocked (s : State) (o : Nat) : Bool := (s.grn.locks.get? o).isSome

/-- A safety input (modes 1 and 2) in demand or faulty; a faulty pair counts as demand (R493). -/
def State.inTrips (s : State) (n : Nat) : Bool :=
  decide (inMode (s.inRec n) = 1 ∨ inMode (s.inRec n) = 2) && ((s.grnIn n).demand || (s.grnIn n).faulty)

/-- A site stop stands (R489). -/
def State.siteStop (s : State) : Bool := (List.range 16).any fun n => s.inTrips n && inFunc (s.inRec n) == 1

/-- An input concerns an outlet: a site stop input, or one whose range covers it (R489). -/
def inCovers (r : Rec) (o : Nat) : Bool :=
  decide (inMode r = 1 ∨ inMode r = 2) &&
    (inFunc r == 1 || (inFunc r == 2 && decide (inFirst r ≤ o ∧ o < inFirst r + inCount r)))

/-- The connections that serve an outlet, by number. -/
def State.serving (s : State) (o : Nat) : List (Nat × Rec) := s.grn.image.conns.filter fun e => (connOutlets e.2).contains o

/-- The trip cause present for an outlet, coded as in R511, 0 for none: inputs and the OK bits of connections in RUN (R489). -/
def State.tripCause (s : State) (o : Nat) : Nat :=
  let ins := (List.range 16).filter fun n => s.inTrips n && inCovers (s.inRec n) o
  if ins.any fun n => inFunc (s.inRec n) == 1 then 11
  else if ins.any fun n => (s.grnIn n).faulty then 2
  else if !ins.isEmpty then 1
  else if (s.serving o).any fun e => (s.grnConn e.1).state == 2 && !(okFor e.2 (s.grnConn e.1).inb o) then 3
  else 0

/-- An outlet is healthy (R510). -/
def State.outletHealthy (s : State) (o : Nat) : Bool :=
  !s.outletLocked o && s.tripCause o == 0 && (s.serving o).all fun e => (s.grnConn e.1).state == 2

/-- The cabinet connections of a node. -/
def State.cabConns (s : State) (node : Nat) : List (Nat × Rec) :=
  s.grn.image.conns.filter fun e => connKind e.2 == 1 && connPeer e.2 == node

/-- The outlets that a stage feeds, by Granite's own records (R489). -/
def State.stageFeeds (s : State) (node stage : Nat) : List Nat := ((s.cabConns node).flatMap fun e => stageFeedsOf e.2 stage).eraseDups

/-- The permit of a stage on one cabinet connection (R489, R502): no outlet it feeds is locked out or tripped; a stage of the site
group runs without a site stop. -/
def State.permits (s : State) (r : Rec) (stage : Nat) : Bool :=
  if connStageOutlet r stage = 0xFFFE then !s.siteStop
  else (stageFeedsOf r stage).all fun o => !s.outletLocked o && s.tripCause o == 0

/-- Whether the node's Granite connections let it drive a stage (R507): one is RUN and every one in RUN permits it. Of the partner's
connection the module knows nothing: while its own is not RUN and a partner is present, the answer is free. -/
def State.nodePermits (s : State) (node stage : Nat) : Bool × State :=
  let run := (s.cabConns node).filter fun e => (s.grnConn e.1).state == 2 && !s.grn.safeState && !s.grn.halted
  if run.isEmpty then (if s.isPaired then (s.draw.1 % 2 == 1, s.draw.2) else (false, s))
  else (run.all fun e => s.permits e.2 stage, s)

/-! ### Stages under a lock-out (R238) -/

/-- Whether a stage exists: a converter of the cabinet record belongs to it (R222). -/
def State.stageExists (s : State) (obj : Nat) : Bool :=
  decide (obj / 65536 ≤ 8) && !(stageConvs (s.stg.cabinets.getD (obj % 65536) []) (obj / 65536)).isEmpty

/-- Whether Granite locks out an outlet the stage feeds. -/
def State.stageLocked (s : State) (obj : Nat) : Bool := (s.stageFeeds (obj % 65536) (obj / 65536)).any s.outletLocked

/-- The stages of every cabinet record. -/
def State.allStages (s : State) : List Nat :=
  s.stg.cabinets.keys.flatMap fun n => ((List.range 9).map (stageObj n)).filter s.stageExists

/-- Stages that feed a locked-out outlet become LOCKED, their PWM off (R238). -/
def State.lockStages (s : State) : State :=
  s.allStages.foldl (fun (t : State) o => if (t.stage o).state ≠ 6 ∧ t.stageLocked o then t.stopStage o 6 5 ST_LOCKED_OUT else t) s

/-- LOCKED stages whose lock-outs are cleared become IDLE (R238). -/
def State.unlockStages (s : State) : State :=
  s.allStages.foldl (fun (t : State) o =>
    if (t.stage o).state = 6 ∧ ¬t.stageLocked o then t.updStage o fun x => { x with state := 0, owner := 0, cutShort := false } else t) s

/-! ### Telegrams (R501 to R503) -/

/-- One bit of the safety CRC, reflected polynomial of 0xF4AC_FB13. -/
def scrcBit (c : BitVec 32) : BitVec 32 := if c.getLsbD 0 then (c >>> 1) ^^^ 0xC8DF352F#32 else c >>> 1

/-- One byte of the safety CRC. -/
def scrcByte (c : BitVec 32) (b : Byte) : BitVec 32 :=
  scrcBit (scrcBit (scrcBit (scrcBit (scrcBit (scrcBit (scrcBit (scrcBit (c ^^^ b.zeroExtend 32))))))))

/-- SCRC over the identity and telegram bytes 0 to 7 + LEN (R501). -/
def scrc (identity : Nat) (b : List Byte) : Nat := (((leBytes 4 identity ++ b).foldl scrcByte 0xFFFFFFFF#32) ^^^ 0xFFFFFFFF#32).toNat

/-- The bytes of a telegram (R501). -/
def telegram (conn : Nat) (r : Rec) (ptype seq : Nat) (payload : List Byte) : List Byte :=
  let b := pack [(2, conn), (1, payload.length), (1, ptype)] ++ payload ++ pack [(2, seq), (2, connWdMs r)]
  b ++ leBytes 4 (scrc (connIdentity r) b)

/-- A mask of `n` bits from a test. -/
def maskOf (n : Nat) (f : Nat → Bool) : Nat := ((List.range n).map fun k => if f k then 2 ^ k else 0).sum

/-- A mask of outlets as 32 bytes. -/
def outletMask (f : Nat → Bool) : List Byte := (List.range 32).flatMap fun j => leBytes 1 (maskOf 8 fun b => f (8 * j + b))

/-- The outlets that a 32-byte mask names. -/
def maskOutlets (b : List Byte) : List Nat := (List.range 256).filter fun o => bit (byteAt b (o / 8)) (o % 8)

/-- The outbound state payload of a connection (R502), the lock set for the partner (R506). -/
def State.statePayload (s : State) (r : Rec) : List Byte :=
  match connKind r with
  | 1 => pack [(2, maskOf 9 (s.permits r)), (2, 0)]
  | 2 => pack [(2, maskOf 4 fun c => decide (connConnOutlet r c < 256) && s.outletLocked (connConnOutlet r c)), (2, 0)]
  | 5 => outletMask s.outletLocked ++ pack [(1, maskOf 8 fun n => (s.grnOut n).cause != 0), (3, 0)]
  | _ => pack [(2, maskOf (connCount r) fun k => s.outletLocked (connFirst r + k)), (2, 0)]

/-- Sends a telegram on a connection, to a node on a ring within the budget of R142: in module safe state only to the partner, after a halt not at all (R512). A busbar node is
reached only by the module that holds the segment (R508). -/
def State.sendTelegram (s : State) (conn ptype : Nat) (payload : List Byte) : State :=
  let r := s.grn.image.conns.getD conn []
  if s.grn.halted ∨ (s.grn.safeState ∧ connKind r ≠ 5) ∨ bit (connDir r) 1 = false ∨
      (decide (1 ≤ connKind r ∧ connKind r ≤ 2) && s.nodeRing (connPeer r) == 2 && !s.plc.master) = true then s
  else
    let q := (s.grnConn conn).seqOut + 1
    let t := s.updConn conn fun x => { x with seqOut := q, sentAt := s.now, outb := if ptype = 2 then x.outb else payload }
    let b := telegram conn r ptype q.toNat payload
    let ring := s.nodeRing (connPeer r)
    if connKind r = 3 then t.canTelegram (connPeer r) (fld r 18 4) b
    else if 1 ≤ connKind r ∧ connKind r ≤ 2 ∧ ring < 2 then t.sendSafety ring conn b else t.emit (.safety conn b)

/-- A state telegram, or the lock set. -/
def State.sendState (s : State) (conn : Nat) : State :=
  let r := s.grn.image.conns.getD conn []
  s.sendTelegram conn (if connKind r = 5 then 5 else 1) (s.statePayload r)

/-- Each connection whose payload has changed sends at once (R503). -/
def State.sendChanged (s : State) : State :=
  s.grn.image.conns.foldl (fun (t : State) e =>
    if connKind e.2 ≠ 5 ∧ (t.grnConn e.1).outb ≠ t.statePayload e.2 then t.sendState e.1 else t) s

/-! ### Trips and lock-outs (R489, R511) -/

/-- Locks an outlet out, keeping an earlier cause. -/
def State.lockOutlet (s : State) (cause o : Nat) : State :=
  if s.outletLocked o then s
  else ({ s with grn := { s.grn with locks := s.grn.locks.set o cause } }).raise 0x11 0x0002 o

/-- An outlet stop of one outlet (R489). -/
def State.tripOutlet (cause : Nat) (s : State) (o : Nat) : State := (s.raise 0x11 0x0001 o).lockOutlet cause o

/-- An outlet stop of several outlets, with its effect on the stages and the permits. -/
def State.trip (s : State) (cause : Nat) (l : List Nat) : State :=
  if l.isEmpty then s else ((l.foldl (State.tripOutlet cause) s).lockStages).sendChanged

/-- An output opens (R497, R499); its feedback is awaited. -/
def State.openOutput (s : State) (n : Nat) : State :=
  if (s.grnOut n).closed then s.updOut n fun x => { x with closed := false, changedAt := some s.now } else s

/-- An output opens and locks out with a cause; an earlier cause stays. -/
def State.lockOutput (s : State) (cause n : Nat) : State :=
  (s.openOutput n).updOut n fun x => { x with cause := if x.cause = 0 then cause else x.cause }

/-- A failed output check (R498, R499, R617): the output locks out, GRN_OUTPUT_FAULT and source 417. -/
def State.outputFault (s : State) (cause n : Nat) (f : GrnOut → GrnOut) : State :=
  (((s.lockOutput cause n).updOut n f).raise 0x11 0x0003 n).report SRC_GRN_OUTPUT 0

/-! ### Module safe state (R512) -/

/-- Every safe output opens and locks out with a cause that the spec does not name: a free value. -/
def State.openAll (s : State) : State :=
  let used := (List.range 8).filter fun n => outUsed (s.outRec n)
  used.foldl (fun (t : State) n => (t.lockOutput (1 + t.draw.1 % 255) n) |> fun u => { u with fresh := u.fresh + 1 }) s

/-- Entry into the module safe state. -/
def State.enterSafe (s : State) : State :=
  if s.grn.safeState ∨ s.grn.halted then s
  else
    let t := { s with grn := { s.grn with safeState := true } }
    (((t.openAll).raise 0x11 0x0008 0).report SRC_GRN_SAFE_STATE 0).giveUp 3

/-! ### The token (R232, R510) -/

/-- Granite's check of item 5, and of the site group (R510). -/
def State.safetyItem (s : State) (node stage : Nat) : Bool :=
  (s.stageFeeds node stage).all s.outletHealthy &&
    ((s.cabConns node).all fun e => connStageOutlet e.2 stage != 0xFFFE || (!s.siteStop && !s.grn.safeState))

/-- Granite issues a token for a stage, which its node takes (R232, R510); the stage is READY. -/
def State.issueToken (s : State) (node stage seq : Nat) : State :=
  match (s.cabConns node).find? fun e => (s.grnConn e.1).state == 2 with
  | none => s
  | some e =>
    let n := s.node node
    let valid := s.pn PAR_STG_TOKEN_MS
    let t := s.sendTelegram e.1 2 (pack [(2, node), (1, stage), (1, 0), (2, seq), (2, valid), (4, n.epoch)])
    t.updStage (stageObj node stage) fun x => { x with token := some ⟨seq, n.epoch, valid, s.now⟩ }

/-! ### The reset (R514) -/

/-- An input shows non-demand with both channels agreeing for 1 s. -/
def State.inCalm (s : State) (n : Nat) : Bool := match (s.grnIn n).calmSince with
  | some t => decide (t + sec ≤ s.now)
  | none => false

/-- A mode-3 input has been stable for 1 s. -/
def State.inStable (s : State) (n : Nat) : Bool :=
  decide ((s.grnIn n).a.since + sec ≤ s.now) && decide ((s.grnIn n).b.since + sec ≤ s.now)

/-- The causes of an outlet's lock-out are gone. -/
def State.outletClear (s : State) (o : Nat) : Bool :=
  ((List.range 16).all fun n => !inCovers (s.inRec n) o || (s.inCalm n && !(s.grnIn n).faulty)) &&
    (s.serving o).all fun e => (s.grnConn e.1).state == 2 && okFor e.2 (s.grnConn e.1).inb o

/-- The mirror contact of an output shows the released level: the contact input out of demand for released (R499, R514). -/
def State.fbReleased (s : State) (n : Nat) : Bool :=
  outFb (s.outRec n) == 0xFF || !(s.grnIn (outFb (s.outRec n))).demand

/-- The peers that name an output. -/
def State.outPeers (s : State) (n : Nat) : List (Nat × Rec) :=
  s.grn.image.conns.filter fun e => decide (connKind e.2 = 3 ∨ connKind e.2 = 4) && bit (connOutMask e.2) n

/-- The causes of an output's lock-out are gone. -/
def State.outputClear (s : State) (n : Nat) : Bool :=
  ((List.range 16).all fun i => !(bit (outInMask (s.outRec n)) i) || !(decide (inMode (s.inRec i) = 1 ∨ inMode (s.inRec i) = 2)) ||
      (s.inCalm i && !(s.grnIn i).faulty)) &&
    ((s.outPeers n).all fun e => (s.grnConn e.1).state == 2 && peerOk e.2 (s.grnConn e.1).inb) &&
    s.fbReleased n && !s.grn.safeState

/-- A reset finds inputs calm: their faults and chatter lock-outs end (R493, R495). -/
def State.resetInputs (s : State) (mask : Nat) : State :=
  (List.range 16).foldl (fun (t : State) n =>
    if bit mask n then
      if inMode (t.inRec n) = 3 then
        if t.inStable n then t.updIn n fun x => { x with a := { x.a with chatter := false }, b := { x.b with chatter := false } } else t
      else if t.inCalm n then t.updIn n fun x => { x with faulty := false } else t
    else t) s

/-- The period of the partner connection in ms, 0 without one. -/
def State.partnerPeriod (s : State) : Nat :=
  ((s.grn.image.conns.find? fun e => connKind e.2 == 5).map fun e => connPeriodMs e.2).getD 0

/-- A reset over named inputs, outlets and outputs (R514). -/
def State.grnReset (s : State) (inMask : Nat) (outlets outputs : List Nat) : State :=
  let s := s.resetInputs inMask
  let lo := s.grn.locks.keys.filter outlets.contains
  let lp := ((List.range 8).filter fun n => (s.grnOut n).cause != 0).filter outputs.contains
  let clr := lo.filter s.outletClear
  let clrP := lp.filter s.outputClear
  let kept := (lo.filter fun o => !s.outletClear o) ++ ((lp.filter fun n => !s.outputClear n).map fun n => 0x100 + n)
  let t := { s with grn := { s.grn with
    locks := s.grn.locks.keep fun o _ => !clr.contains o,
    cleared := (clr ++ clrP.map fun n => 0x100 + n).foldl (fun (t : Tab Nat) k => t.set k (s.now + 3 * s.partnerPeriod * ms)) s.grn.cleared } }
  let t := clrP.foldl (fun (u : State) n => u.updOut n fun x =>
    { x with cause := 0, highFail := false, lowFail := false, weld := false, feedback := false }) t
  let t := t.unlockStages
  let t := if clr.isEmpty && clrP.isEmpty then t else t.raise 0x11 0x0006 (clr.length + clrP.length)
  let t := match kept with
    | k :: _ => t.raise 0x11 0x0007 k
    | [] => t
  t.sendChanged

end Sys2Proof.Machine
end

