-- ==== Sys2Proof/Machine/Stages.lean ====
section
/-!
DEFINITION. Power stage control (chapter 08): cabinet records, pre-start checks, enables and soft start, phase fences, status blocks
and the stage commands.
-/
namespace Sys2Proof.Machine

/-! ### Cabinet records (R224, R225) -/

/-- The instances a node uses by its cabinet record. -/
def cabInsts (r : Rec) : List Nat :=
  (((convs r).filter fun c => c.role != 0).map Conv.inst ++ (if fld r 4 2 = 0xFFFF then [] else [fld r 4 2])).eraseDups

/-- The fields of a cabinet record lie in their ranges (R224). -/
def cabRanges (node : Nat) (r : Rec) : Bool :=
  fld r 0 2 == node && decide (1 ≤ fld r 2 1 ∧ fld r 2 1 ≤ 16) && zeros r 3 1 &&
    decide (fld r 4 2 < 2048 ∨ fld r 4 2 = 0xFFFF) && decide (100 ≤ fld r 6 2 ∧ fld r 6 2 ≤ 1500) && decide (fld r 8 2 ≤ 10000) &&
    (if fld r 4 2 = 0xFFFF then fld r 10 2 == 0
     else decide (100 ≤ fld r 10 2 ∧ fld r 10 2 ≤ 2000 ∧ fld r 6 2 ≤ fld r 10 2)) && zeros r 12 20 &&
    (List.range (min 16 (fld r 2 1))).all (fun n => zeros r (32 + 12 * n + 3) 1) &&
    (convs r).all fun c => decide (c.role ≤ 4) && (c.role == 0 ||
      (decide (1 ≤ c.phases ∧ c.phases ≤ 6) && decide (c.inst < 2048) && decide (1 ≤ c.ratingKw) &&
        (if c.role = 2 ∨ c.role = 4 then decide (c.output < 8 ∧ 1 ≤ c.weight ∧ c.weight ≤ 1000) else c.output == 0 && c.weight == 0)))

/-- The instances, weights and channels of a cabinet record agree (R225). -/
def State.cabRefs (s : State) (node : Nat) (r : Rec) : Bool :=
  let cs := (convs r).filter fun c => c.role != 0
  cs.all (fun c => (s.bas.coeffs.get? c.inst).isSome && (coefNode (s.coef c.inst) == node || (decide (3 ≤ c.role) && coefNode (s.coef c.inst) == 0))) &&
    noDup (cs.map Conv.inst) &&
    cs.all (fun c => cs.all fun d => !(c.stage == d.stage && decide (1 ≤ c.stage)) || c.weight == d.weight) &&
    noDup (((cabInsts r).filter fun i => coefNode (s.coef i) == node).map fun i => coefChannel (s.coef i))

/-- The effect of STG_CONFIG (R246). -/
def stgConfig (c : InFlight) (s : State) : State :=
  let node := c.desc.object
  match c.record 224 with
  | none => s.fail c.uid ST_BAD_PARAM
  | some r =>
    let mine := s.stg.stages.keep fun o _ => o % 65536 == node
    if s.nodeKind node ≠ 1 then s.fail c.uid ST_BAD_PARAM
    else if ¬allZero r ∧ ¬(cabRanges node r && s.cabRefs node r) then s.fail c.uid ST_BAD_PARAM
    else if mine.any fun e => (e.2.state != 0 && e.2.state != 6) || e.2.owner == 1 then s.fail c.uid ST_BUSY
    else
      let t := { s with stg := { s.stg with cabinets := if allZero r then s.stg.cabinets.del node else s.stg.cabinets.set node r } }
      (t.lockStages).ok c []

def execStgConfig (q tag : Nat) (s : State) : Host.Outcome State Fault Refusal := startCommand 0x0700 q tag s stgConfig

/-! ### The pre-start check (R230, R231, R247) -/

/-- A node carries stage commands: ONLINE or DEMOTED, and the stage not held by a FENCE (R247, R524). -/
def State.stageFree (s : State) (obj : Nat) : Bool :=
  decide ((s.node (obj % 65536)).state = 2 ∨ (s.node (obj % 65536)).state = 3) && !s.held 3 obj 2

/-- The checks of an order to check a stage: the status that refuses it. -/
def State.checkRefusal (s : State) (obj owner : Nat) : Option Nat :=
  let x := s.stage obj
  if s.stageExists obj = false then some ST_BAD_PARAM
  else if x.state = 6 then some ST_LOCKED_OUT
  else if (x.state ≠ 0 ∧ x.state ≠ 2) ∨ (x.owner = 1 ∧ owner = 0) then some ST_BUSY
  else if s.stageFree obj = false then some ST_FENCED
  else none

/-- The node is told to check a stage; a token it holds is void first (R247). Its sequence number moves on at the start of the check (R231), of which no
item has failed yet (R250). -/
def State.checkStage (s : State) (obj owner : Nat) (uid : Option Nat) : State :=
  (s.updStage obj fun x => { x with state := 1, token := none, since := s.now, uid := uid, owner := owner, checkSeq := (x.checkSeq + 1) % 65536, lastFail := 0 }).emit
    (.stageCheck (obj % 65536) (obj / 65536))

/-- The effect of STG_CHECK (R247). -/
def stgCheck (c : InFlight) (s : State) : State :=
  match s.checkRefusal c.desc.object 0 with
  | some st => s.fail c.uid st
  | none => s.checkStage c.desc.object 0 (some c.uid)

def execStgCheck (q tag : Nat) (s : State) : Host.Outcome State Fault Refusal := startCommand 0x0701 q tag s stgCheck

/-- Ends a STG_CHECK with a status, its result in place. -/
def State.endCheck (s : State) (uid : Option Nat) (st : Nat) (result : List Byte) : State := match uid with
  | none => s
  | some u => s.endCmd u st result [] 0 (if st = ST_OK then s.nextImage else 0)

/-- A check that fails (R231, R238): STG_PRESTART_FAIL, source 194 and the stage's next state. -/
def State.checkFails (s : State) (obj state st failed seq : Nat) : State :=
  let u := (s.stage obj).uid
  let t := s.updStage obj fun x => { x with uid := none, lastFail := failed, checkSeq := seq }
  let t := t.stopStage obj state (if state = 6 then 5 else 0) st
  (((t.endCheck u st (checkResult failed seq)).raise 0x07 0x0001 obj).report SRC_STG_PRESTART obj)

/-- The module's Granite may act on a check of a node: its cabinet connection is in RUN, and Granite runs. -/
def State.grnHears (s : State) (node : Nat) : Bool :=
  !s.grn.halted && (s.cabConns node).any fun e => (s.grnConn e.1).state == 2

/-- A check-result telegram reaches Granite (R231, R510). Item 5 is Granite's own. -/
def State.checkDone (s : State) (node stage seq failed : Nat) : State :=
  let obj := stageObj node stage
  let f := failed % 32 + (if s.safetyItem node stage then 0 else 32)
  if s.grnHears node = false ∨ 8 < stage then s
  else if bit f 2 then
    let t := if (s.stage obj).state = 1 then s.checkFails obj 6 ST_LOCKED_OUT f seq else s
    t.trip 5 (t.stageFeeds node stage)
  else if (s.stage obj).state ≠ 1 then s
  else if f ≠ 0 then s.checkFails obj 0 ST_CHECK_FAIL f seq
  else if (s.node node).leased = false ∨ s.grn.safeState then s
  else
    let u := (s.stage obj).uid
    let t := (s.updStage obj fun x => { x with state := 2, uid := none, lastFail := 0, checkSeq := seq }).issueToken node stage seq
    t.endCheck u ST_OK (checkResult 0 seq)

/-- CHECK_RESULT (R231, R238, R510). -/
def execCheckResult (node stage seq failed : Nat) (s : State) : Host.Outcome State Fault Refusal :=
  .next (s.checkDone node stage (seq % 65536) failed)

/-- CHECK_TIMEOUT (R238, R247): 40 ms in CHECKING. -/
def execCheckTimeout (stage : Nat) (s : State) : Host.Outcome State Fault Refusal :=
  let x := s.stage stage
  if x.state = 1 ∧ x.since + 40 * ms ≤ s.now then
    .next (((s.stopStage stage 0 x.stopCause ST_TIMEOUT).raise 0x07 0x0001 stage).report SRC_STG_PRESTART stage)
  else .next s

/-- TOKEN_EXPIRY (R233, R238). -/
def execTokenExpiry (stage : Nat) (s : State) : Host.Outcome State Fault Refusal :=
  match (s.stage stage).token with
  | some k =>
    if (s.stage stage).state = 2 ∧ k.rxAt + k.validMs * ms ≤ s.now then
      .next (s.updStage stage fun x => { x with state := 0, token := none, owner := 0 })
    else .next s
  | none => .next s

/-! ### Enable and soft start (R233 to R236, R248) -/

/-- The class of a stage (R223): vehicle where a cap map of KIND 0 names its output. -/
def State.stageClass (s : State) (obj : Nat) : Nat :=
  if 1 ≤ obj / 65536 ∧ ((s.consumersOf (obj % 65536) (obj / 65536 - 1)).any fun k => capKind (s.capmap k) == 0) then 1 else 0

/-- The precharge instance of the outlet that an output belongs to, and V_SCALE_V of its record (R234, R275). -/
def State.preInst (s : State) (node output : Nat) : Option (Nat × Nat) :=
  (s.consumersOf node output).findSome? fun k =>
    if k < 256 then (s.ses.recs.get? k).map fun r => (fld r 10 2, fld r 38 2) else none

/-- The instance whose reference follows a soft start, with its scale (R234). -/
def State.softInst (s : State) (obj : Nat) : Option (Nat × Nat) :=
  let r := s.stg.cabinets.getD (obj % 65536) []
  if obj / 65536 = 0 then (if fld r 4 2 = 0xFFFF then none else some (fld r 4 2, fld r 10 2))
  else s.preInst (obj % 65536) (obj / 65536 - 1)

/-- Check 4 of R248 for an output stage: its stage 0 runs, its instances are armed, and its weight is the share of the cap map. -/
def State.outputReady (s : State) (obj : Nat) : Bool :=
  let node := obj % 65536
  let cs := (stageConvs (s.stg.cabinets.getD node []) (obj / 65536)).map Prod.fst
  (s.stage (stageObj node 0)).state == 4 && cs.all (fun c => (s.inst c.inst).state == 2) &&
    (s.consumersOf node (obj / 65536 - 1)).all fun k =>
      ((capEntries (s.capmap k)).filter fun e => e.1 == node && e.2.1 == obj / 65536 - 1).all fun e => cs.all fun c => c.weight == e.2.2

/-- Check 5 of R248: a slot in GRANTED or RECLAIMING names the output. -/
def State.outputLeave (s : State) (obj : Nat) : Bool :=
  (s.consumersOf (obj % 65536) (obj / 65536 - 1)).any fun k => match s.slotOf k with
    | some (_, x) => decide (x.state = 1 ∨ x.state = 3)
    | none => false

/-- The node holds a valid token for the stage (R233). -/
def State.tokenValid (s : State) (obj : Nat) : Bool :=
  let x := s.stage obj
  match x.token with
  | some k => k.seq == x.checkSeq && k.epoch == (s.node (obj % 65536)).epoch && decide (s.now < k.rxAt + k.validMs * ms)
  | none => false

/-- The checks of an enable: the status that refuses it, and the state (a free permit of the partner's Granite may be drawn). -/
def State.enableRefusal (s : State) (obj owner targetV dvdt ilim : Nat) : Option Nat × State :=
  let x := s.stage obj
  if s.stageExists obj = false ∨ 1500 < targetV ∨ 500 < dvdt ∨ 10000 < ilim then (some ST_BAD_PARAM, s)
  else if x.owner = 1 ∧ owner = 0 then (some ST_BUSY, s)
  else if x.state = 6 then (some ST_LOCKED_OUT, s)
  else if 3 ≤ x.state then (some ST_BUSY, s)
  else if x.state < 2 then (some ST_NO_TOKEN, s)
  else if s.stageFree obj = false then (some ST_FENCED, s)
  else if 1 ≤ obj / 65536 ∧ s.outputReady obj = false then (some ST_BAD_PARAM, s)
  else if 1 ≤ obj / 65536 ∧ s.outputLeave obj = false then (some ST_NO_LEAVE, s)
  else if s.tokenValid obj = false then (some ST_NO_TOKEN, s)
  else
    let p := s.nodePermits (obj % 65536) (obj / 65536)
    (if p.1 then none else some ST_NO_TOKEN, p.2)

/-- The node takes an enable: the token is consumed, and the soft start begins in the next window (R233, R234; DESIGN CHOICE, assumption 129). -/
def State.enableStage (s : State) (obj owner targetV dvdt ilim : Nat) (uid : Option Nat) : State :=
  let dv := if dvdt = 0 then s.pn PAR_STG_SS_DVDT else dvdt
  let il := if ilim = 0 then 10 * s.pn PAR_STG_SS_ILIM_A else ilim
  let cls := s.stageClass obj
  let ri := s.softInst obj
  (s.updStage obj fun x => { x with state := 3, cls := cls, owner := owner, stopCause := 0, token := none, since := s.now, uid := uid,
                                    targetV := targetV, dvdt := dv, ilim := il, refInst := ri, v0 := none, enWin := s.ring.window + 1, nearSince := none }).emit
    (.stageEnable (obj % 65536) (obj / 65536) targetV dv il)

/-- The effect of STG_ENABLE (R248). -/
def stgEnable (c : InFlight) (s : State) : State :=
  let d := c.desc
  let r := s.enableRefusal d.object 0 (d.u 32 2) (d.u 34 2) (d.u 36 2)
  match r.1 with
  | some st => r.2.fail c.uid st
  | none => r.2.enableStage d.object 0 (d.u 32 2) (d.u 34 2) (d.u 36 2) (some c.uid)

def execStgEnable (q tag : Nat) (s : State) : Host.Outcome State Fault Refusal := startCommand 0x0702 q tag s stgEnable

/-- The voltage lies within 1 % of TARGET_V, or within 5 V when that is larger (R235). -/
def nearTarget (x : Stage) (v : Nat) : Bool :=
  decide (100 * (v - x.targetV) ≤ max 500 x.targetV ∧ 100 * (x.targetV - v) ≤ max 500 x.targetV)

/-- SOFT_START_END (R235): the voltage has been near TARGET_V for 1 ms. -/
def execSoftStartEnd (stage : Nat) (s : State) : Host.Outcome State Fault Refusal :=
  let x := s.stage stage
  match x.nearSince with
  | some t =>
    if x.state = 3 ∧ t + ms ≤ s.now then
      let u := s.updStage stage fun x => { x with state := 4, uid := none, nearSince := none, refInst := none, v0 := none }
      match x.uid with
      | some c => .next (u.okUid c (enableResult x s.now))
      | none => .next u
    else .next s
  | none => .next s

/-- SOFT_START_TIMEOUT (R235, R238). -/
def execSoftStartTimeout (stage : Nat) (s : State) : Host.Outcome State Fault Refusal :=
  let x := s.stage stage
  if x.state = 3 ∧ x.since + s.pms PAR_STG_SS_TIMEOUT_MS ≤ s.now then
    .next ((s.stopStage stage 0 3 ST_TIMEOUT).raise 0x07 0x0003 stage)
  else .next s

/-- A short reaches Granite: every outlet the stage feeds locks out with cause 6 (R236, R510). -/
def State.shortTrip (s : State) (node stage : Nat) : State := if s.grn.halted then s else s.trip 6 (s.stageFeeds node stage)

/-- Disables a stage that runs, starts or holds; a READY one loses its token (R238, R249). A soft start that a disable cuts short ends its
command with ST_ABORTED (DEDUCED, assumption 18). -/
def State.disableStage (s : State) (obj : Nat) : State :=
  let x := s.stage obj
  if x.state = 3 ∨ x.state = 4 ∨ x.state = 5 then s.stopStage obj 0 1 ST_ABORTED
  else if x.state = 2 then s.updStage obj fun x => { x with state := 0, token := none, owner := 0 }
  else s

/-- The other enabled stages that feed an outlet which a stage feeds (R236). -/
def State.sameOutlets (s : State) (obj : Nat) : List Nat :=
  let l := s.stageFeeds (obj % 65536) (obj / 65536)
  s.allStages.filter fun o => o != obj && decide (3 ≤ (s.stage o).state ∧ (s.stage o).state ≤ 5) &&
    (s.stageFeeds (o % 65536) (o / 65536)).any fun k => l.contains k

/-- SOFT_START_SHORT (R236, R238): on the node's report the stage is LOCKED, if Granite's lock-out has not locked it before, the other enabled stages that
feed its outlets are disabled, and Granite locks the outlets out. -/
def execSoftStartShort (stage : Nat) (s : State) : Host.Outcome State Fault Refusal :=
  let x := s.stage stage
  if x.state = 3 ∨ (x.state = 6 ∧ x.cutShort) then
    let t := if x.state = 3 then s.stopStage stage 6 2 ST_LOCKED_OUT else s.updStage stage fun x => { x with stopCause := 2, cutShort := false }
    let t := (t.sameOutlets stage).foldl State.disableStage t
    let t := t.shortTrip (stage % 65536) (stage / 65536)
    .next ((t.raise 0x07 0x0002 stage).report SRC_STG_SHORT stage)
  else .next s

/-! ### Disable, lease and fences (R238, R242, R243, R249) -/

/-- Disables a stage, the output stages of its cabinet first when it is stage 0 (R249). -/
def State.disableStages (s : State) (obj : Nat) : State :=
  let l := if obj / 65536 = 0 then ((List.range 8).map fun o => stageObj obj (o + 1)) ++ [obj] else [obj]
  l.foldl State.disableStage s

/-- The effect of STG_DISABLE (R249). -/
def stgDisable (c : InFlight) (s : State) : State :=
  if s.stageExists c.desc.object = false then s.fail c.uid ST_BAD_PARAM
  else
    let x := s.stage c.desc.object
    if x.state = 0 ∨ x.state = 6 then s.ok c [] else (s.disableStages c.desc.object).ok c []

def execStgDisable (q tag : Nat) (s : State) : Host.Outcome State Fault Refusal := startCommand 0x0703 q tag s stgDisable

/-- HOLD_RAMP_ZERO (R238). -/
def execHoldRampZero (stage : Nat) (s : State) : Host.Outcome State Fault Refusal :=
  if (s.stage stage).state = 5 then .next ((s.stopStage stage 0 4 ST_ABORTED).raise 0x07 0x0006 stage) else .next s

/-- C of the stages of a node, each as a numerator and a denominator (R243): C_in for stage 0. -/
def State.nodeCaps (s : State) (node : Nat) : List (Nat × Nat) :=
  (s.stageCap60 node 0, 60) :: (List.range 8).map fun o => s.capability node o

/-- STG_CAPABILITY for each stage of a node whose C has changed (R243, R252). The limits that follow reach the slots in step 2 of the arbiter's next
microsecond (R106, R108). -/
def State.capsChanged (s : State) (node : Nat) (before : List (Nat × Nat)) : State :=
  ((List.range 9).zip ((s.nodeCaps node).zip before)).foldl (fun (t : State) e =>
    if e.2.1.1 * e.2.2.2 ≠ e.2.2.1 * e.2.1.2 ∧ s.stageExists (stageObj node e.1) then t.raise 0x07 0x0005 (stageObj node e.1) else t) s

/-- The number of a phase as a fault object (R524). -/
def phaseObj (obj phase : Nat) : Nat := obj + 2 ^ 20 * phase

/-- A phase whose whole converter is fenced (R241, R523 source 193). -/
def convFenced (r : Rec) (stage : Nat) (fenced : BitVec 96) (phase : Nat) : Bool :=
  (stageConvs r stage).any fun e =>
    decide (e.2 ≤ phase ∧ phase < e.2 + e.1.phases) && (List.range e.1.phases).all fun j => fenced.getLsbD (e.2 + j)

/-- Phase fences that a node reports (R242): the fault source of each new one, STG_PHASE_FENCED, and the capability. The fencing of any
phase voids the stage's token (R233). -/
def State.phaseFences (s : State) (obj : Nat) (fenced : List Nat) : State :=
  let x := s.stage obj
  let new := (fenced.filter fun p => decide (p < 96) && !x.fenced.getLsbD p).eraseDups
  if new.isEmpty ∨ s.stageExists obj = false then s
  else
    let before := s.nodeCaps (obj % 65536)
    let m := new.foldl (fun (b : BitVec 96) p => b ||| ((1 : BitVec 96) <<< p)) x.fenced
    let t := s.updStage obj fun x => { x with fenced := m, token := none, state := if x.state = 2 then 0 else x.state, owner := if x.state = 2 then 0 else x.owner }
    let r := t.stg.cabinets.getD (obj % 65536) []
    let t := new.foldl (fun (u : State) p =>
      u.report (if convFenced r (obj / 65536) m p then SRC_STG_CONVERTER else SRC_STG_PHASE) (phaseObj obj p)) t
    (t.raise 0x07 0x0004 obj).capsChanged (obj % 65536) before

/-- PHASE_FENCE_REPORT (R242). -/
def execPhaseFenceReport (stage : Nat) (fenced : List Nat) (s : State) : Host.Outcome State Fault Refusal :=
  .next (s.phaseFences stage fenced)

/-! ### Status blocks (R155, R242, R250) -/

/-- The items of a check that a status block reports (R231, R238): a failed one ends the check, and READY waits for the token. Item 5 of a check that has
ended is Granite's, and stays (R230). -/
def State.checkSeen (s : State) (obj seq failed : Nat) : State :=
  let t := s.updStage obj fun x =>
    { x with checkSeq := seq, lastFail := if x.state = 1 ∨ x.checkSeq ≠ seq then failed else failed ||| (x.lastFail &&& 32) }
  if (s.stage obj).state ≠ 1 ∨ failed = 0 then t
  else if bit failed 2 then t.checkFails obj 6 ST_LOCKED_OUT failed seq
  else t.checkFails obj 0 ST_CHECK_FAIL failed seq

/-- What a status block says of one stage. A RUNNING stage whose gates the node no longer enables has been stopped by the node (R507),
which the module takes as IDLE (DEDUCED, assumption 19). -/
def State.stageReport (node : Nat) (s : State) (r : StageReport) : State :=
  let obj := stageObj node r.stage
  if 8 < r.stage ∨ s.stageExists obj = false then s
  else
    let t := s.updStage obj fun x => { x with
      volt := r.volt % 65536, amp := r.amp,
      nearSince := if x.state = 3 ∧ nearTarget x (r.volt % 65536) then some (x.nearSince.getD s.now) else none }
    let t := match r.check with
      | some (seq, failed) => t.checkSeen obj (seq % 65536) (failed % 32)
      | none => t
    let t := t.phaseFences obj r.fenced
    let t := if r.desat then t.report SRC_STG_DESAT obj else t
    if (t.stage obj).state = 4 ∧ ¬r.enabled then t.updStage obj fun x => { x with state := 0, owner := 0 } else t

/-- NODE_STATUS_BLOCK (R155). -/
def execNodeStatusBlock (status : NodeStatus) (s : State) : Host.Outcome State Fault Refusal :=
  if (s.node status.node).state = 0 then .next s
  else .next (status.stages.foldl (State.stageReport status.node)
    ((s.nodeHeard status.node).updNode status.node fun x => { x with outKw := status.outputKw }))

/-! ### STG_READ (R250) -/

/-- A stage record. -/
def State.stageRecord (s : State) (node stage : Nat) : List Byte :=
  let obj := stageObj node stage
  if s.stageExists obj = false then padTo 32 (pack [(2, node), (1, stage)])
  else
    let x := s.stage obj
    let cs := stageConvs (s.stg.cabinets.getD node []) stage
    pack [(2, node), (1, stage), (1, x.state), (1, x.cls), (1, x.owner), (1, x.lastFail), (1, x.stopCause), (4, s.stageKw node stage),
          (2, x.volt)] ++ leInt 2 x.amp ++
      pack [(1, (cs.map fun e => activePhases x.fenced e.1 e.2).sum), (1, (cs.map fun e => e.1.phases).sum), (2, x.checkSeq)] ++
      leBytes 12 x.fenced.toNat

/-- The effect of STG_READ (R250). -/
def stgRead (c : InFlight) (s : State) : State :=
  let first := c.desc.u 32 2
  let n := c.desc.u 34 2
  if n = 0 ∨ 256 < n ∨ c.desc.dataLen < 288 * n ∨ 0x1000 < first + n then s.fail c.uid ST_BAD_PARAM
  else s.answer c [] ((List.range n).flatMap fun j => (List.range 9).flatMap fun k => s.stageRecord (first + j) k)

def execStgRead (q tag : Nat) (s : State) : Host.Outcome State Fault Refusal := startCommand 0x0704 q tag s stgRead

end Sys2Proof.Machine
end

