-- ==== Sys2Proof/Machine/Granite.lean ====
section
/-!
DEFINITION. Granite (chapter 18): the Granite cycle, inputs, outputs, connections and telegrams, the reset and the safety commands.
-/
namespace Sys2Proof.Machine

/-! ### Safe inputs (R491 to R495) -/

/-- A channel takes a sample at a time: edges are counted on the sampled level (DEDUCED, assumption 20), and a level counts once it has
held for the filter or debounce time (R492, R495). -/
def GrnChan.sample (c : GrnChan) (level : Bool) (t hold : Nat) : GrnChan :=
  let c := if level = c.raw then c
           else { c with raw := level, since := t, edges := t :: c.edges.filter fun e => decide (t < e + sec) }
  if c.level ≠ c.raw ∧ c.since + hold ≤ t then { c with level := c.raw } else c

/-- More edges than EDGE_MAX in the second that ends now. -/
def GrnChan.tooFast (c : GrnChan) (r : Rec) (t : Nat) : Bool :=
  decide (inEdgeMax r < (c.edges.filter fun e => decide (t < e + sec)).length)

/-- The channels of a pair after the samples of a cycle, the last of them taken now; samples are 100 µs apart (R491). -/
def State.samplePair (s : State) (n : Nat) (samples : List (BitVec 32)) : GrnIn :=
  let r := s.inRec n
  let hold := (if inMode r = 3 then inDebounceMs r else inFilterMs r) * ms
  let k := samples.length
  (samples.zipIdx).foldl (fun (x : GrnIn) e =>
    let t := s.now - (k - 1 - e.2) * 100 * us
    { x with a := x.a.sample (e.1.getLsbD n) t hold, b := x.b.sample (e.1.getLsbD (16 + n)) t hold }) (s.grnIn n)

/-- Channel A or B shows demand: A low; B low in an equivalent pair, high in an antivalent one (R492). -/
def pairDemand (r : Rec) (x : GrnIn) : Bool := !x.a.level || (if inMode r = 1 then !x.b.level else x.b.level)
/-- The channels of a pair agree (R493). -/
def pairAgrees (r : Rec) (x : GrnIn) : Bool := if inMode r = 1 then x.a.level == x.b.level else x.a.level != x.b.level

/-- An input pair becomes faulty (R493), with GRN_INPUT_FAULT. -/
def State.inputFault (s : State) (n : Nat) : State :=
  if (s.grnIn n).faulty then s else (s.updIn n fun x => { x with faulty := true }).raise 0x11 0x0004 n

/-- One input pair in a Granite cycle. -/
def State.inputCycle (samples : List (BitVec 32)) (s : State) (n : Nat) : State :=
  let r := s.inRec n
  let x := s.samplePair n samples
  if inMode r = 1 ∨ inMode r = 2 then
    let d := pairDemand r x
    let y := { x with demand := d,
                      discSince := if pairAgrees r x then none else some (x.discSince.getD s.now),
                      calmSince := if d then none else some (x.calmSince.getD s.now) }
    let t := s.updIn n fun _ => y
    if x.a.tooFast r s.now || x.b.tooFast r s.now then t.inputFault n else t
  else if inMode r = 3 then
    let ca := x.a.chatter || x.a.tooFast r s.now
    let cb := x.b.chatter || x.b.tooFast r s.now
    let t := s.updIn n fun _ => { x with a := { x.a with chatter := ca }, b := { x.b with chatter := cb }, demand := false }
    if (ca && !x.a.chatter) || (cb && !x.b.chatter) then t.raise 0x11 0x0004 n else t
  else s

/-- INPUT_DISCREPANCY (R493). -/
def execInputDiscrepancy (input : Nat) (s : State) : Host.Outcome State Fault Refusal :=
  let r := s.inRec input
  match (s.grnIn input).discSince with
  | some t => if s.grn.halted = false ∧ (inMode r = 1 ∨ inMode r = 2) ∧ t + inDiscMs r * ms < s.now then .next (s.inputFault input) else .next s
  | none => .next s

/-! ### Trips and outputs in a cycle (R489, R497) -/

/-- Outlets whose trip cause has come up trip; the causes present are kept (R489). -/
def State.tripPresent (s : State) (l : List Nat) : State :=
  let hit := l.filter fun o => s.tripCause o != 0
  let new := hit.filter fun o => !s.grn.present.contains o
  let t := { s with grn := { s.grn with present := ((s.grn.present.filter fun o => !l.contains o) ++ hit).mergeSort (fun a b => decide (a ≤ b)) } }
  if new.isEmpty then t
  else ((new.foldl (fun (u : State) o => State.tripOutlet (u.tripCause o) u o) t).lockStages).sendChanged

/-- One output in a Granite cycle (R489, R496, R497). -/
def State.outputCycle (s : State) (n : Nat) : State :=
  let r := s.outRec n
  let x := s.grnOut n
  let ins := (List.range 16).filter fun i => bit (outInMask r) i && s.inTrips i
  let peers := s.outPeers n
  if ¬outUsed r then s.updOut n fun x => { x with closed := false }
  else if ins.any fun i => (s.grnIn i).faulty then s.lockOutput 2 n
  else if peers.any fun e => (s.grnConn e.1).state == 3 then s.lockOutput 4 n
  else if peers.any fun e => (s.grnConn e.1).state == 2 && !peerOk e.2 (s.grnConn e.1).inb then s.lockOutput 3 n
  else if !ins.isEmpty then
    if x.closed ∧ ¬outAuto r then s.lockOutput (if ins.any fun i => inFunc (s.inRec i) == 1 then 11 else 1) n else s.openOutput n
  else if x.cause = 0 ∧ ¬s.grn.safeState ∧ ¬x.closed ∧ (peers.all fun e => (s.grnConn e.1).state == 2) then
    s.updOut n fun x => { x with closed := true, changedAt := some s.now, testedAt := s.now }
  else s

/-- The clock check of a cycle (R513): 25,000 ± 250 cycles of REF and, while the module emits ring cycles, 50 ± 1 headers. -/
def State.clockCheck (s : State) (refCount headers : Nat) : State :=
  let ok := decide (24750 ≤ refCount ∧ refCount ≤ 25250) && (!s.emitsCycles || decide (49 ≤ headers ∧ headers ≤ 51))
  let t := { s with grn := { s.grn with clockFails := if ok then 0 else s.grn.clockFails + 1 }, sys := { s.sys with safeCheck := ok } }
  if 2 ≤ t.grn.clockFails then t.enterSafe else t

/-- Tokens of a node's stages become void (R233). -/
def State.voidTokens (s : State) (node : Nat) (f : Nat → Bool) : State :=
  (s.stagesOf node).foldl (fun (t : State) o =>
    if f (o / 65536) then t.updStage o fun x => { x with token := none, state := if x.state = 2 then 0 else x.state, owner := if x.state = 2 then 0 else x.owner }
    else t) s

/-- A site stop that was not there before takes the permits of the site group, and with them the tokens of its stages (R233, R489). -/
def State.siteVoid (s old : State) : State :=
  if s.siteStop && !old.siteStop then
    (s.grn.image.conns.filter fun e => connKind e.2 == 1).foldl (fun (t : State) e =>
      t.voidTokens (connPeer e.2) fun k => connStageOutlet e.2 k == 0xFFFE) s
  else s

/-- GRANITE_CYCLE (R488): the 10 kHz samples since the last cycle (bits 15..0 channels A, bits 31..16 channels B), and the counts of the
clock check. -/
def execGraniteCycle (samples : List (BitVec 32)) (refCount : Nat) (headers : Nat) (s : State) : Host.Outcome State Fault Refusal :=
  if s.grn.halted then .next s
  else
    let t := (List.range 16).foldl (State.inputCycle samples) s
    let t := t.clockCheck refCount headers
    let t := if t.flt.request then t.enterSafe else t
    let req := t.flt.tripReq.eraseDups
    let t := ({ t with flt := { t.flt with tripReq := [] } }).trip 8 req
    let t := (t.tripPresent (List.range 256)).siteVoid s
    .next (((List.range 8).foldl State.outputCycle t).sendChanged)

/-! ### Test pulses and feedback (R498, R499, R617) -/

/-- The check of an output's switches (R498): SOUTnH below 5 V and, of a closed output, SOUTnL above 15 V, in mV. A failed one opens the output. -/
def State.switchCheck (s : State) (n highMv lowMv : Nat) : State :=
  let high := decide (highMv < 5000)
  let low := decide (15000 < lowMv) || !(s.grnOut n).closed
  if high && low then s else s.outputFault 12 n fun x => { x with highFail := x.highFail || !high, lowFail := x.lowFail || !low }

/-- TEST_PULSE (R498): every GRN_TP_PERIOD_MS a closed output is pulsed, and SOUTnH during the high-side pulse and SOUTnL during the low-side pulse are
checked; of an open output SOUTnH alone, at any time. -/
def execTestPulse (output highMv lowMv : Nat) (s : State) : Host.Outcome State Fault Refusal :=
  let x := s.grnOut output
  if s.grn.halted ∨ ¬outUsed (s.outRec output) then .next s
  else if x.closed then
    if s.now < x.testedAt + imgTpPeriodMs s.grn.image * ms then .next s
    else .next (((s.updOut output fun x => { x with testedAt := s.now }).emit (.testPulse output (imgTpUs s.grn.image))).switchCheck output highMv lowMv)
  else .next (s.switchCheck output highMv lowMv)

/-- FEEDBACK_TIMEOUT (R499): FB_MS after an output opened or closed. A mirror contact shows the released level while its pair is out of
demand (DEDUCED, assumption 21). -/
def execFeedbackTimeout (output : Nat) (s : State) : Host.Outcome State Fault Refusal :=
  let r := s.outRec output
  match (s.grnOut output).changedAt with
  | none => .next s
  | some t =>
    if s.grn.halted ∨ ¬outUsed r ∨ outFb r = 0xFF ∨ s.now < t + outFbMs r * ms then .next s
    else
      let u := s.updOut output fun x => { x with changedAt := none }
      if (s.grnOut output).closed then
        if s.fbReleased output then .next (u.outputFault 14 output fun x => { x with feedback := true }) else .next u
      else if s.fbReleased output then .next u
      else .next (u.outputFault 13 output fun x => { x with weld := true })

/-- OUTPUT_CURRENT_LIMIT (R617): cause 12. -/
def execOutputCurrentLimit (output : Nat) (s : State) : Host.Outcome State Fault Refusal :=
  if (s.grnOut output).closed then .next (s.lockOutput 12 output) else .next s

/-! ### Connections (R503 to R506) -/

/-- A connection enters FAULTY (R504, R505). -/
def State.connFault (s : State) (n : Nat) : State :=
  let r := s.grn.image.conns.getD n []
  let x := s.grnConn n
  if x.state = 3 then s
  else
    let t := s.updConn n fun x => { x with state := 3, faults := x.faults + 1, run := 0 }
    let t := if x.state = 2 then (t.raise 0x11 0x0005 n).report SRC_GRN_CONN 0 else t
    let t := if connKind r = 1 then t.voidTokens (connPeer r) fun _ => true else t
    let t := if connKind r = 3 ∨ connKind r = 4 then
        ((List.range 8).filter fun k => bit (connOutMask r) k && outUsed (t.outRec k)).foldl (fun (u : State) k => u.lockOutput 4 k) t else t
    if connKind r = 5 then t else t.trip 4 (connOutlets r)

/-- CONNECTION_WATCHDOG_EXPIRY (R504). -/
def execConnectionWatchdogExpiry (conn : Nat) (s : State) : Host.Outcome State Fault Refusal :=
  let x := s.grnConn conn
  match x.lastAt, s.grn.image.conns.get? conn with
  | some t, some r => if x.state = 2 ∧ t + connWdMs r * ms ≤ s.now ∧ ¬s.grn.halted then .next (s.connFault conn) else .next s
  | _, _ => .next s

/-- CONNECTION_START_TIMEOUT (R504): 10 s after the cold start or commit without an accepted telegram. -/
def execConnectionStartTimeout (conn : Nat) (s : State) : Host.Outcome State Fault Refusal :=
  let x := s.grnConn conn
  if (s.grn.image.conns.get? conn).isSome ∧ x.state = 1 ∧ x.lastAt = none ∧ x.startAt + 10 * sec ≤ s.now ∧ ¬s.grn.halted then
    .next (s.connFault conn)
  else .next s

/-- STATE_TELEGRAM_DUE (R503, R506). -/
def execStateTelegramDue (conn : Nat) (s : State) : Host.Outcome State Fault Refusal :=
  match s.grn.image.conns.get? conn with
  | some r => if (s.grnConn conn).sentAt + connPeriodMs r * ms ≤ s.now then .next (s.sendState conn) else .next s
  | none => .next s

/-- The connection that a telegram names, configured for the transport and peer it came from (R503 check 1, R508). -/
def State.connFor (s : State) (src : SafetySource) (conn : Nat) : Option Rec :=
  (s.grn.image.conns.get? conn).filter fun r => bit (connDir r) 0 && match src with
    | .node a => decide (connKind r = 1 ∨ connKind r = 2) && connPeer r == a
    | .can c i => connKind r == 3 && connPeer r == c && connAddrA r == i
    | .eth p ip u => connKind r == 4 && connPeer r == p && connAddrA r == ip && u == imgUdpPort s.grn.image
    | .pair => connKind r == 5

/-- LEN and PTYPE are valid for the kind (R502, R503 check 1). -/
def telegramOk (kind ptype len : Nat) : Bool :=
  match kind with
  | 1 => decide (ptype = 1 ∨ ptype = 3 ∨ ptype = 4) && len == 4
  | 5 => ptype == 5 && len == 36
  | _ => ptype == 1 && len == 4

/-- A discarded telegram ends a run of accepted ones. -/
def GrnConn.discard (x : GrnConn) : GrnConn := { x with run := 0 }

/-- A CRC error of a connection (R503 check 2, R504): counted over the last hour. -/
def State.crcError (s : State) (n : Nat) : State :=
  let t := s.updConn n fun x => { x.discard with crcAt := s.now :: x.crcAt.filter fun e => decide (s.now < e + hour) }
  if (t.grnConn n).state = 2 ∧ imgCrcMax t.grn.image < (t.grnConn n).crcAt.length then t.connFault n else t

/-- An accepted telegram restarts the watchdog; the third in a row brings the connection to RUN (R503, R504). -/
def State.connAccept (s : State) (n seq : Nat) : State :=
  s.updConn n fun x => { x with seqIn := some seq, lastAt := some s.now, run := x.run + 1,
                                state := if x.state ≠ 2 ∧ 3 ≤ x.run + 1 then 2 else x.state }

/-- The partner's lock set (R506): its lock-outs are set with cause 9, but for those that a reset cleared in the last 3 periods. -/
def State.lockSetIn (s : State) (p : List Byte) : State :=
  let fresh (o : Nat) : Bool := !decide (s.now < s.grn.cleared.getD o 0)
  let l := (maskOutlets p).filter fun o => !s.outletLocked o && fresh o
  let t := s.trip 9 l
  ((List.range 8).filter fun n => bit (fld p 32 1) n && (s.grnOut n).cause == 0 && fresh (0x100 + n)).foldl
    (fun (u : State) n => u.lockOutput 9 n) t

/-- LOCK_SET_RECEIVED (R506): while the partner connection is in RUN. -/
def execLockSetReceived (payload : List Byte) (s : State) : Host.Outcome State Fault Refusal :=
  if ¬s.grn.halted ∧ s.grn.image.conns.any fun e => connKind e.2 == 5 && (s.grnConn e.1).state == 2 then .next (s.lockSetIn payload)
  else .next s

/-- A state telegram of a peer: its OK bits may trip outlets at once, and a RESET bit that has come up resets its connector's outlet
(R489, R502, R514; the bit acts when it rises, DEDUCED, assumption 22). -/
def State.stateIn (s : State) (n : Nat) (r : Rec) (p : List Byte) : State :=
  let old := (s.grnConn n).inb
  let t := s.updConn n fun x => { x with inb := p }
  if (t.grnConn n).state ≠ 2 then t
  else
    let t := t.tripPresent (connOutlets r)
    if connKind r ≠ 2 then t
    else
      let up := (List.range 4).filter fun c => bit (fld p 2 1) c && !bit (fld old 2 1) c && decide (connConnOutlet r c < 256)
      if up.isEmpty then t else t.grnReset 0 (up.map (connConnOutlet r)) []

/-- What an accepted telegram carries. -/
def State.telegramIn (s : State) (n : Nat) (r : Rec) (ptype : Nat) (p : List Byte) : State :=
  match ptype with
  | 3 => s.checkDone (connPeer r) (fld p 2 1) (fld p 0 2) (fld p 3 1)
  | 4 => s.shortTrip (connPeer r) (fld p 0 1)
  | 5 => if (s.grnConn n).state = 2 then s.lockSetIn p else s
  | _ => s.stateIn n r p

/-- A safety telegram that reaches Granite (R501, R503): the checks in their order, then acceptance. -/
def State.safetyIn (s : State) (source : SafetySource) (telegram : List Byte) : State :=
  let n := fld telegram 0 2
  let len := fld telegram 2 1
  let ptype := fld telegram 3 1
  if s.grn.halted then s
  else match s.connFor source n with
  | none => s
  | some r =>
    if ¬telegramOk (connKind r) ptype len ∨ telegram.length < 12 + len then (s.updConn n GrnConn.discard)
    else if scrc (connIdentity r) (telegram.take (8 + len)) ≠ fld telegram (8 + len) 4 then (s.crcError n)
    else if fld telegram (6 + len) 2 ≠ connWdMs r then ((s.updConn n GrnConn.discard).connFault n)
    else
      let seq := fld telegram (4 + len) 2
      let ok := match (s.grnConn n).seqIn with
        | none => true
        | some last => decide (1 ≤ (seq + 65536 - last) % 65536 ∧ (seq + 65536 - last) % 65536 ≤ 32)
      if (ok : Bool) = false then (s.updConn n GrnConn.discard)
      else (((s.connAccept n seq).telegramIn n r ptype ((telegram.drop 4).take len)).sendChanged)

/-- SAFETY_TELEGRAM (R501, R503); one that comes over CAN has passed a filter of its controller to Granite (R445). -/
def execSafetyTelegram (source : SafetySource) (telegram : List Byte) (s : State) : Host.Outcome State Fault Refusal :=
  .next (s.safetyIn source telegram)

/-! ### Safe state and halt (R512) -/

/-- MODULE_SAFE_STATE (R512): the collector's line, a failed clock check, or a failed check of Granite's configuration memory at start-up. -/
def execModuleSafeState (configurationCheck : Bool) (s : State) : Host.Outcome State Fault Refusal :=
  if s.flt.request ∨ 2 ≤ s.grn.clockFails ∨ configurationCheck then .next s.enterSafe else .next s

/-- GRANITE_HALT (R512): a lockstep mismatch or an uncorrectable memory error. Every output opens as the charge pumps stop. -/
def execGraniteHalt (s : State) : Host.Outcome State Fault Refusal :=
  if s.grn.halted then .next s
  else
    let t := { s with grn := { s.grn with halted := true, outputs := s.grn.outputs.mapV fun _ x => { x with closed := false } } }
    .next ((t.report SRC_GRN_SAFE_STATE 0).giveUp 3)

/-! ### The configuration (R516, R519) -/

/-- An input record keeps R491. -/
def inputOk (r : Rec) : Bool :=
  decide (fld r 0 1 < 16) && decide (inMode r ≤ 3) && zeros r 12 4 &&
    (inMode r == 0 ||
      (decide (2 ≤ inEdgeMax r ∧ inEdgeMax r ≤ 50) &&
        if inMode r = 3 then inFunc r == 0 && decide (1 ≤ inDebounceMs r ∧ inDebounceMs r ≤ 100) && inFirst r == 0 && inCount r == 0
        else decide (inFunc r ≤ 3) && decide (1 ≤ inFilterMs r ∧ inFilterMs r ≤ 5) && decide (10 ≤ inDiscMs r ∧ inDiscMs r ≤ 3000) &&
          inDebounceMs r == 0 &&
          (if inFunc r = 2 then decide (1 ≤ inCount r ∧ inFirst r + inCount r ≤ 256) else inFirst r == 0 && inCount r == 0)))

/-- An output record keeps R496, and its feedback input has FUNC 3. -/
def outputOk (ins : Tab Rec) (r : Rec) : Bool :=
  decide (fld r 0 1 < 8) && decide (fld r 1 1 ≤ 1) && zeros r 8 8 &&
    (!outUsed r ||
      (decide (fld r 2 1 ≤ 1) &&
        (outFb r == 0xFF || (decide (outFb r < 16) && inFunc (ins.getD (outFb r) []) == 3 &&
          decide (inMode (ins.getD (outFb r) []) = 1 ∨ inMode (ins.getD (outFb r) []) = 2) &&
          decide (10 ≤ outFbMs r ∧ outFbMs r ≤ 1000)))))

/-- An outlet number of a MAP, or one of the codes. -/
def mapCode (codes : List Nat) (v : Nat) : Bool := decide (v < 256) || codes.contains v

/-- A connection record keeps R509. -/
def connOk (r : Rec) : Bool :=
  let k := connKind r
  decide (1 ≤ fld r 0 2 ∧ fld r 0 2 ≤ 511) && decide (1 ≤ k ∧ k ≤ 5) && decide (1 ≤ connDir r ∧ connDir r ≤ 3) &&
    (connDir r == 3 || !decide (k = 1 ∨ k = 5)) && (bit (connDir r) 0 || k != 2) &&
    decide (5 ≤ connWdMs r ∧ connWdMs r ≤ 1000) && decide (1 ≤ connPeriodMs r ∧ 3 * connPeriodMs r ≤ connWdMs r) &&
    connIdentity r != 0 &&
    match k with
    | 1 => decide (1 ≤ connPeer r ∧ connPeer r ≤ 0xFFF) && (List.range 9).all fun j => mapCode [0xFFFD, 0xFFFE, 0xFFFF] (connStageOutlet r j)
    | 2 => decide (1 ≤ connPeer r ∧ connPeer r ≤ 0xFFF) && ((List.range 4).all fun j => mapCode [0xFFFF] (connConnOutlet r j)) && zeros r 22 10
    | 3 => decide (connPeer r ≤ 3) && decide (connCount r ≤ 16 ∧ connFirst r + connCount r ≤ 256) && zeros r 28 4
    | 4 => decide (1 ≤ connPeer r ∧ connPeer r ≤ 2) && decide (connCount r ≤ 16 ∧ connFirst r + connCount r ≤ 256) && zeros r 28 4
    | _ => connPeer r == 0 && zeros r 14 18

/-- The header's values lie in the ranges of R517. -/
def grnHeaderOk (h : Rec) : Bool :=
  h.take 4 == [0x47, 0x43, 0x46, 0x47] && fld h 4 2 == 1 && decide (fld h 6 2 ≤ 512) &&
    decide (100 ≤ fld h 8 2 ∧ fld h 8 2 ≤ 10000) && decide (200 ≤ fld h 10 2 ∧ fld h 10 2 ≤ 1000) &&
    decide (1 ≤ fld h 12 2 ∧ fld h 12 2 ≤ 100) && decide (5 ≤ fld h 14 2 ∧ fld h 14 2 ≤ 300) &&
    decide (1024 ≤ fld h 16 2) && zeros h 18 10

/-- Records keyed by a number that each carries. -/
def keyed (n : Nat) (l : List Rec) : Tab Rec := l.foldl (fun (t : Tab Rec) r => t.set (fld r 0 n) r) []

/-- The image that a host's bytes make, none where R519 refuses them. -/
def grnImageOf (b : List Byte) : Option GrnImage :=
  let h := b.take 32
  let n := fld h 6 2
  let ins := chunks 16 16 (b.drop 32)
  let outs := chunks 16 8 (b.drop 288)
  let conns := chunks 32 n (b.drop 416)
  let tin := keyed 1 ins
  let fb := (outs.filter outUsed).map outFb |>.filter (· != 0xFF)
  if b.length = 416 + 32 * n ∧ grnHeaderOk h ∧ fld h 28 4 = crc32 (b.drop 32) ∧ ins.all inputOk ∧ noDup (ins.map fun r => fld r 0 1) ∧
      outs.all (outputOk tin) ∧ noDup (outs.map fun r => fld r 0 1) ∧ noDup fb ∧
      (outs.filter outUsed).all (fun r => fb.all fun f => !bit (outInMask r) f) ∧
      conns.all connOk ∧ noDup (conns.map fun r => fld r 0 2) ∧ noDup (conns.map connIdentity) then
    some { header := h, inputs := tin, outputs := keyed 1 outs, conns := keyed 2 conns }
  else none

/-- The effect of GRN_CONFIG_LOAD (R519). -/
def grnConfigLoad (c : InFlight) (s : State) : State :=
  if c.desc.dataLen ≠ c.desc.data.length ∨ c.desc.object ≠ 0 then s.fail c.uid ST_BAD_PARAM
  else match grnImageOf c.desc.data with
    | none => s.fail c.uid ST_BAD_PARAM
    | some i => ({ s with grn := { s.grn with pendingImg := some i } }).answer c (pack [(4, imgCrc i)]) []

def execGrnConfigLoad (q tag : Nat) (s : State) : Host.Outcome State Fault Refusal := startCommand 0x1100 q tag s grnConfigLoad

/-- A stage of a cabinet node reports its gates enabled: in its status blocks, or in the state telegrams of a connection in RUN. -/
def State.nodeGates (s : State) (n : Nat) : Bool :=
  ((s.stagesOf n).any fun o => decide (3 ≤ (s.stage o).state ∧ (s.stage o).state ≤ 5)) ||
    s.grn.image.conns.any fun f => connKind f.2 == 1 && connPeer f.2 == n && (s.grnConn f.1).state == 2 && fld (s.grnConn f.1).inb 0 2 != 0

/-- A stage of a cabinet node that an image names reports its gates enabled (R519). -/
def State.gatesOn (s : State) (i : GrnImage) : Bool := i.conns.any fun e => connKind e.2 == 1 && s.nodeGates (connPeer e.2)

/-- An outlet's session is in PRECHARGE or later (R519). -/
def State.anyPrecharge (s : State) : Bool :=
  s.isActive && s.ses.ctxs.any fun e => decide (6 ≤ e.2.state)

/-- The effect of GRN_CONFIG_COMMIT up to its wait for a reset pulse (R519). A commit that waits excludes another (DEDUCED, assumption 23). -/
def grnConfigCommit (c : InFlight) (s : State) : State :=
  match s.grn.pendingImg with
  | none => s.fail c.uid ST_BAD_PARAM
  | some i =>
    if c.desc.object ≠ 0 ∨ imgCrc i ≠ c.desc.u 32 4 then s.fail c.uid ST_BAD_PARAM
    else if s.gatesOn s.grn.image || s.gatesOn i || s.anyPrecharge || s.grn.commit.isSome then s.fail c.uid ST_BUSY
    else { s with grn := { s.grn with commit := some (c.uid, s.now + 60 * sec) } }

def execGrnConfigCommit (q tag : Nat) (s : State) : Host.Outcome State Fault Refusal := startCommand 0x1101 q tag s grnConfigCommit

/-- COMMIT_PULSE_TIMEOUT (R519). -/
def execCommitPulseTimeout (s : State) : Host.Outcome State Fault Refusal :=
  match s.grn.commit with
  | some (u, t) => if t ≤ s.now then .next ({ s with grn := { s.grn with commit := none } }.fail u ST_TIMEOUT) else .next s
  | none => .next s

/-- Connections of an image, all STARTING (R504). -/
def startConns (i : GrnImage) (now : Nat) : Tab GrnConn := i.conns.mapV fun _ _ => { startAt := now }

/-- The pending image becomes active (R519). -/
def State.grnActivate (s : State) (i : GrnImage) (uid : Nat) : State :=
  let t := { s with grn := { s.grn with image := i, pendingImg := none, commit := none, conns := startConns i s.now } }
  let t := (List.range 256).foldl (fun (u : State) o => u.lockOutlet 10 o) t
  let t := { t with grn := { t.grn with locks := (List.range 256).map fun o => (o, 10) } }
  let t := (List.range 8).foldl (fun (u : State) n => (u.openOutput n).updOut n fun x => { x with cause := 10 }) t
  let t := (t.lockStages).raise 0x11 0x0009 (imgCrc i)
  (t.endCmd uid ST_OK (pack [(4, imgCrc i)]) [] 0 0).sendChanged

/-- A valid reset pulse (R514, R519): every lock-out, or those that an arm names; then a commit that waits. -/
def State.resetPulse (s : State) : State :=
  let t := match s.grn.arm with
    | some a => s.grnReset a.inMask a.outlets ((List.range 8).filter (bit a.outMask))
    | none => s.grnReset 0xFFFF (List.range 256) (List.range 8)
  match t.grn.commit, t.grn.pendingImg with
  | some (u, _), some i => t.grnActivate i u
  | _, _ => t

/-- SRESET_PULSE (R514): the high time of the pulse and the low time before it. -/
def execSresetPulse (highUs : Nat) (lowUs : Nat) (s : State) : Host.Outcome State Fault Refusal :=
  if s.grn.halted ∨ highUs < 200000 ∨ 2000000 < highUs ∨ (s.grn.tooLong ∧ lowUs < 1000000) then .next s
  else
    let t := ({ s with grn := { s.grn with tooLong := false } }).resetPulse
    .next t.fwPulse

/-- SRESET_TOO_LONG (R514): GRN_RESET_REFUSED, for which the spec gives no object here: a free value. -/
def execSresetTooLong (s : State) : Host.Outcome State Fault Refusal :=
  if s.grn.halted ∨ s.grn.tooLong then .next s
  else .next ({ s.draw.2 with grn := { s.grn with tooLong := true } }.raise 0x11 0x0007 s.draw.1)

/-! ### Commands (R518, R519) -/

/-- LEN bits of an input in GRN_READ; "locked out" stands while the pair is faulty or chatter-locked (DEDUCED, assumption 24). -/
def State.inputByte (s : State) (n : Nat) : Nat :=
  let x := s.grnIn n
  let ch := x.a.chatter || x.b.chatter
  let m3 := inMode (s.inRec n) == 3
  maskOf 6 fun k => match k with
    | 0 => x.a.level && !(m3 && x.a.chatter)
    | 1 => x.b.level && !(m3 && x.b.chatter)
    | 2 => s.inTrips n
    | 3 => x.faulty
    | 4 => ch
    | _ => x.faulty || ch

/-- An output in GRN_READ. -/
def outputByte (x : GrnOut) : Nat :=
  maskOf 6 fun k => match k with
    | 0 => x.closed
    | 1 => x.cause != 0
    | 2 => x.highFail
    | 3 => x.lowFail
    | 4 => x.weld
    | _ => x.feedback

/-- Connections in a state. -/
def State.connCount (s : State) (st : Nat) : Nat := (s.grn.image.conns.filter fun e => (s.grnConn e.1).state == st).length

/-- The effect of GRN_READ (R519). -/
def grnRead (c : InFlight) (s : State) : State :=
  if c.desc.dataLen < 352 ∨ c.desc.object ≠ 0 then s.fail c.uid ST_BAD_PARAM
  else
    s.answer c [] (outletMask s.outletLocked ++ outletMask s.grn.present.contains ++
      ((List.range 16).map fun n => BitVec.ofNat 8 (s.inputByte n)) ++ ((List.range 8).map fun n => BitVec.ofNat 8 (outputByte (s.grnOut n))) ++
      pack [(4, imgCrc s.grn.image), (2, s.connCount 2), (2, s.connCount 3)] ++
      (List.range 256).map fun o => BitVec.ofNat 8 (s.grn.locks.getD o 0))

def execGrnRead (q tag : Nat) (s : State) : Host.Outcome State Fault Refusal := startCommand 0x1102 q tag s grnRead

/-- The effect of GRN_RESET_ARM (R519). -/
def grnResetArm (c : InFlight) (s : State) : State :=
  match c.record 32 with
  | none => s.fail c.uid ST_BAD_PARAM
  | some b =>
    if c.desc.object ≠ 0 then s.fail c.uid ST_BAD_PARAM
    else
      let a : GrnArm := ⟨c.desc.u 32 1, c.desc.u 34 2, maskOutlets b, s.now + imgResetWindowS s.grn.image * sec⟩
      ({ s with grn := { s.grn with arm := some a } }).answer c [] []

def execGrnResetArm (q tag : Nat) (s : State) : Host.Outcome State Fault Refusal := startCommand 0x1103 q tag s grnResetArm

/-- RESET_ARM_EXPIRY (R517). -/
def execResetArmExpiry (s : State) : Host.Outcome State Fault Refusal :=
  match s.grn.arm with
  | some a => if a.expiry ≤ s.now then .next { s with grn := { s.grn with arm := none } } else .next s
  | none => .next s

/-- The effect of GRN_TRIP (R519): cause 7. -/
def grnTrip (c : InFlight) (s : State) : State :=
  match c.record 32 with
  | none => s.fail c.uid ST_BAD_PARAM
  | some b =>
    if c.desc.object ≠ 0 then s.fail c.uid ST_BAD_PARAM
    else
      let l := maskOutlets b
      let new := (l.filter fun o => !s.outletLocked o).length
      let t := s.trip 7 l
      let t := ((List.range 8).filter (bit (c.desc.u 32 1))).foldl (fun (u : State) n => u.lockOutput 7 n) t
      t.answer c (pack [(2, new)]) []

def execGrnTrip (q tag : Nat) (s : State) : Host.Outcome State Fault Refusal := startCommand 0x1104 q tag s grnTrip

/-- A connection record of GRN_CONN_READ (R519). -/
def State.connRecord (s : State) (n : Nat) : List Byte :=
  match s.grn.image.conns.get? n with
  | none => padTo 16 (pack [(2, n)])
  | some r =>
    let x := s.grnConn n
    let since := match x.lastAt with
      | some t => min 65535 ((s.now - t) / ms)
      | none => 65535
    pack [(2, n), (1, x.state), (1, connKind r), (2, x.seqIn.getD 0), (2, x.seqOut.toNat),
          (2, (x.crcAt.filter fun e => decide (s.now < e + hour)).length), (2, x.faults.toNat), (2, since), (2, 0)]

/-- The effect of GRN_CONN_READ (R519). -/
def grnConnRead (c : InFlight) (s : State) : State :=
  let first := c.desc.u 32 2
  let n := c.desc.u 34 2
  if n = 0 ∨ 512 < n ∨ c.desc.dataLen < 16 * n ∨ 512 < first + n ∨ c.desc.object ≠ 0 then s.fail c.uid ST_BAD_PARAM
  else s.answer c [] ((List.range n).flatMap fun j => s.connRecord (first + j))

def execGrnConnRead (q tag : Nat) (s : State) : Host.Outcome State Fault Refusal := startCommand 0x1105 q tag s grnConnRead

end Sys2Proof.Machine
end

