-- ==== Sys2Proof/Machine/Sessions.lean ====
section
/-!
DEFINITION. Vehicle sessions (chapter 10): outlet records, contexts, connection and link events, vehicle messages, the limits
of a site cycle, stops, and the session commands.
-/
namespace Sys2Proof.Machine

/-! ### Outlet records (R275, R276) -/

def outNode (r : Rec) : Nat := fld r 2 2
def outConnector (r : Rec) : Nat := fld r 4 1
def outProfile (r : Rec) : Nat := fld r 5 1
def outProtocols (r : Rec) : Nat := fld r 6 1
def outAuth (r : Rec) : Nat := fld r 7 1
def outCurr (r : Rec) : Nat := fld r 8 2
def outHead (r : Rec) : Nat := fld r 12 2
def outClass (r : Rec) : Nat := fld r 14 1
def outVMin (r : Rec) : Nat := fld r 16 2
def outVMax (r : Rec) : Nat := fld r 18 2
def outIMax (r : Rec) : Nat := fld r 20 2
def outPMax (r : Rec) : Nat := fld r 24 4
def outMinKw (r : Rec) : Nat := fld r 28 4
def outRamp (r : Rec) : Nat := fld r 32 4
def outIScale (r : Rec) : Nat := fld r 36 2

/-- The record of an outlet, empty where none is configured. -/
def State.outletRec (s : State) (o : Nat) : Rec := s.ses.recs.getD o []
/-- What the engine keeps of an outlet. -/
def State.outletLive (s : State) (o : Nat) : OutletLive := s.ses.outlets.getD o {}
/-- Changes it. -/
def State.updOutlet (s : State) (o : Nat) (f : OutletLive → OutletLive) : State :=
  { s with ses := { s.ses with outlets := s.ses.outlets.set o (f (s.outletLive o)) } }
/-- Changes a context that is in use. -/
def State.updCtx (s : State) (n : Nat) (f : Ctx → Ctx) : State := { s with ses := { s.ses with ctxs := s.ses.ctxs.upd n f } }

/-- The converters of the outputs that a cap map names. -/
def State.outletConvs (s : State) (o : Nat) : List Conv :=
  (capEntries (s.capmap o)).flatMap fun e => (stageConvs (s.stg.cabinets.getD e.1 []) (e.2.1 + 1)).map Prod.fst

/-- The fields of an outlet record lie in their ranges and agree (R275, R276). -/
def State.outletOk (s : State) (o : Nat) (r : Rec) : Bool :=
  let cm := s.capmap o
  let loop (i : Nat) : Bool := (s.bas.coeffs.get? i).isSome
  fld r 0 2 == o && s.nodeKind (outNode r) == 2 && decide (outConnector r < 4) && decide (outProfile r < 2) && decide (outProtocols r < 8) &&
    decide (outAuth r < 4) && decide (outClass r < 8) && zeros r 15 1 && zeros r 22 2 && zeros r 40 24 &&
    (s.ses.recs.all fun e => e.1 == o || outNode e.2 != outNode r || outConnector e.2 != outConnector r) &&
    s.nodeKind (outHead r) == 3 && (s.lv.capmaps.get? o).isSome && capKind cm == 0 && decide (outPMax r ≤ capMaxKw cm) &&
    loop (outCurr r) && loop (outPre r) && outCurr r != outPre r && coefNode (s.coef (outCurr r)) == coefNode (s.coef (outPre r)) &&
    coefChannel (s.coef (outCurr r)) == coefChannel (s.coef (outPre r)) &&
    ((capEntries cm).head?.map Prod.fst) == some (coefNode (s.coef (outCurr r))) &&
    ((s.outletConvs o).all fun c => c.role != 4 || c.inst == outPre r) &&
    ((s.outletConvs o).all fun c => c.role != 2 || (loop c.inst && coefRefSrc (s.coef c.inst) == 3 && coefRefArg (s.coef c.inst) == outCurr r)) &&
    decide (50 ≤ outVMin r ∧ outVMin r < outVMax r ∧ outVMax r ≤ 1500) && decide (1 ≤ outIMax r ∧ outIMax r ≤ 4000) &&
    decide (1 ≤ outPMax r ∧ outPMax r ≤ 10000) && decide (outMinKw r ≤ outPMax r) &&
    (outProfile r != 0 || decide (outVMax r ≤ 1000 ∧ outIMax r ≤ 500)) &&
    (outProfile r != 1 || ((s.cool.recs.get? o).isSome && decide (outIMax r ≤ coolIMax (s.circuitRec o)))) &&
    (!(bit (outAuth r) 1) || bit (outProtocols r) 2)

/-- The outlet that a dispenser node's connector feeds (R277). -/
def State.outletAt (s : State) (node connector : Nat) : Option Nat :=
  (s.ses.recs.find? fun e => outNode e.2 == node && outConnector e.2 == connector).map Prod.fst

/-- SEQ of a tunnel message: a gap is counted (R277). -/
def State.tunnelSeq (s : State) (o seq : Nat) : State :=
  s.updOutlet o fun l => { l with
    tunnelSeq := some seq, gaps := match l.tunnelSeq with
      | some q => if seq % 65536 = (q + 1) % 65536 then l.gaps else l.gaps + 1
      | none => l.gaps }

/-! ### Measured values -/

/-- Measured output current of an outlet as a quotient in A. -/
def State.outAmps (s : State) (o : Nat) : Int × Nat := s.outletAmps o (outCurr (s.outletRec o))

/-- The measured current is below a limit in A. -/
def ampsBelow (a : Int × Nat) (n : Int) : Bool := decide (a.1 < n * a.2)

/-! ### Parameters of a session (R302) -/

/-- The entries of groups 09 and 0A. -/
def sesPars : List Nat := (List.range 11).map (0x0900 + ·) ++ (List.range 4).map (0x0A00 + ·)

/-- A parameter as it stood when the session started. -/
def Ctx.par (c : Ctx) (id : Nat) : Nat := c.pars.getD id 0

/-! ### Responses to the vehicle (R278, R294) -/

/-- A TCP segment to the vehicle of a context: with a synchronised standby it waits for an image that holds its sequence numbers (R294). Its length is that of
an encoding that the spec does not give: a free value. -/
def State.segment (s : State) (n : Nat) (m : Nat → Nat → TunnelMsg) : State :=
  match s.ses.ctxs.get? n with
  | none => s
  | some c => match c.tcp with
    | none => s
    | some k =>
      let f := s.draw
      let t := f.2.updCtx n fun c => { c with tcp := some { k with sndNxt := (k.sndNxt + 1 + f.1 % 1440) % 2 ^ 32 } }
      if t.isPaired then { t with ses := { t.ses with txWait := t.ses.txWait ++ [(t.nextImage, c.outlet, m k.sndNxt k.rcvNxt)] } }
      else t.tunnel c.outlet (m k.sndNxt k.rcvNxt)

/-- What a response says: processing is ongoing while the session waits for its authorisation or its leave (R282, R285), the present limits (R286), and the
measured output voltage (R289). -/
def State.reply (s : State) (c : Ctx) (ok : Bool) : Reply :=
  let v := s.outDv c.outlet
  let kw := c.iLimit * max (max v c.evVolt) 1000 / 10000
  { ok := ok, ongoing := c.auth == 1 || c.state == 5, shutdown := c.emergency && c.state == 8, limitA := c.iLimit, limitKw := kw, volt := v,
    schedule := if c.protocol = 2 then some kw else none }

/-- A response, in the next TLS record where the connection has one. -/
def State.respond (s : State) (n : Nat) (ok : Bool) : State :=
  match s.ses.ctxs.get? n with
  | none => s
  | some c =>
    (s.updCtx n fun c => { c with txRecord := if c.tls then c.txRecord + 1 else c.txRecord }).segment n fun q a =>
      .response q a (if c.tls then some c.txRecord else none) (s.reply c ok)

/-! ### Ends and stops (R284, R290, R301) -/

/-- Causes of a normal stop in TRANSFER (R290); HOST with mode 1 is given as an emergency. -/
def normalCause (cause : Nat) : Bool := cause == 1 || cause == 2 || cause == 16 || cause == 17

/-- A session enters CLOSING (R284): its circuit's session ends, its instances are disarmed, and SES_STOP commands complete (R299). -/
def State.toClosing (s : State) (n : Nat) : State :=
  match s.ses.ctxs.get? n with
  | none => s
  | some c =>
    let r := s.outletRec c.outlet
    let t := s.updCtx n fun c => { c with state := 9, stops := [] }
    let t := (outCurr r :: outPre r :: ((s.outletConvs c.outlet).filter fun v => v.role == 2).map Conv.inst).foldl
      State.sessionLeaves t
    (c.stops.foldl (fun (u : State) k => u.okUid k []) t).coolSessionEnds c.outlet

/-- A normal stop becomes an emergency stop (R284, R290, R299). -/
def State.makeEmergency (s : State) (n : Nat) (c : Ctx) : State :=
  (s.updCtx n fun x => { x with emergency := true, stopAt := s.now, iRef := 0 }).setRef (outCurr (s.outletRec c.outlet)) 0 1

/-- A session ends with a cause (R284): before PRECHARGE to CLOSING, in PRECHARGE by emergency stop, in TRANSFER by the stop of R290. A
session that has stopped already keeps its cause; a normal stop becomes an emergency stop where the later cause asks for one. -/
def State.endSession (s : State) (n cause : Nat) (emergency : Bool) : State :=
  match s.ses.ctxs.get? n with
  | none => s
  | some c =>
    if 8 < c.state then s
    else if c.state = 8 then (if c.emergency = false ∧ (emergency = true ∨ normalCause cause = false) then s.makeEmergency n c else s)
    else
      let t := s.updCtx n fun c => { c with cause := cause, auth := if c.auth = 1 then 0 else c.auth }
      let t := if cause = 12 then t.report SRC_SES_FENCED c.outlet else t
      if c.state < 6 then t.toClosing n
      else
        let em := emergency || c.state == 6 || !normalCause cause
        let t := t.updCtx n fun c => { c with state := 8, emergency := em, stopAt := s.now, smallSince := none, red := [],
                                              iRef := if em then 0 else c.iRef }
        if em ∧ 7 ≤ c.state then t.setRef (outCurr (s.outletRec c.outlet)) 0 1 else t

/-- The output stages of a session are disabled. -/
def State.stagesOff (s : State) (n : Nat) : State :=
  match s.ses.ctxs.get? n with
  | none => s
  | some c => (s.outletStages c.outlet).foldl State.disableStage s

/-! ### Start (R274, R284) -/

/-- The outlet may start a session: enabled, no weld block, UNPLUGGED since its last session, its dispenser node neither fenced nor
lease-lapsed (R21, R274, R292, R297), and not held (R524). -/
def State.outletFree (s : State) (o : Nat) : Bool :=
  let l := s.outletLive o
  let nd := outNode (s.outletRec o)
  !l.disabled && !l.weld && !l.needUnplug && (s.ctxOf o).isNone && (s.node nd).state != 4 && s.holds nd && !s.held 7 o 1 && s.isActive && s.sys.ready

/-- Link up and LOCK_OK lead from PLUGGED to COMM (R284). -/
def State.maybeComm (s : State) (n : Nat) : State :=
  s.updCtx n fun c => if c.state = 1 ∧ c.link ∧ c.lock then { c with state := 2 } else c

/-- PLUGGED on an outlet that may start a session: a context, or SES_NO_CONTEXT and another try in 1 s. -/
def State.plug (s : State) (o : Nat) : State :=
  if s.outletFree o = false then s
  else match s.ses.ctxs.freeFrom 0 256 with
    | none => (s.updOutlet o fun l => { l with retryAt := some (s.now + sec) }).raise 0x09 0x0007 o
    | some n =>
      let l := s.outletLive o
      let c : Ctx := { outlet := o, pluggedAt := s.now, pars := sesPars.map fun id => (id, s.pn id), link := l.link, lock := l.lock }
      let t := { s with ses := { s.ses with ctxs := s.ses.ctxs.set n c } }
      let t := t.updOutlet o fun l => { l with retryAt := none }
      let t := if (t.circuit o).state = 0 then t.startCircuit o else t
      (t.raise 0x09 0x0001 n).maybeComm n

/-- CONNECTION_EVENT (R277, R284). -/
def execConnectionEvent (node connector seq : Nat) (event : ConnEvent) (s : State) : Host.Outcome State Fault Refusal :=
  match s.outletAt node connector with
  | none => .next s
  | some o =>
    let s := s.tunnelSeq o seq
    let lose (t : State) : State := match t.ctxOf o with
      | some (n, _) => if t.isActive then t.endSession n 3 true else t
      | none => t
    .next (match event with
      | .plugged => (s.updOutlet o fun l => { l with plugged := true }).plug o
      | .unplugged => lose (s.updOutlet o fun l => { l with plugged := false, needUnplug := false, retryAt := none, lock := false })
      | .pilotError => lose s
      | .lockOk =>
        let t := s.updOutlet o fun l => { l with lock := true }
        match s.ctxOf o with
        | some (n, _) => (t.updCtx n fun c => { c with lock := true }).maybeComm n
        | none => t
      | .insulation pass => match s.ctxOf o with
        | some (n, c) =>
          if c.state = 4 ∧ s.isActive then
            if pass then s.updCtx n fun c => { c with insOk := true } else s.endSession n 9 false
          else s
        | none => s
      | .ready => s
      | .lockFail => s)

/-- LINK_EVENT (R277, R284): the vehicle's MAC address is taken anew after a link up. -/
def execLinkEvent (node connector seq : Nat) (up : Bool) (s : State) : Host.Outcome State Fault Refusal :=
  match s.outletAt node connector with
  | none => .next s
  | some o =>
    let s := (s.tunnelSeq o seq).updOutlet o fun l => { l with link := up }
    .next (match s.ctxOf o with
      | none => s
      | some (n, _) =>
        if up then (s.updCtx n fun c => { c with link := true, mac := none }).maybeComm n
        else
          let t := s.updCtx n fun c => { c with link := false }
          if t.isActive then t.endSession n 3 true else t)

/-- NO_CONTEXT_RETRY (R284). -/
def execNoContextRetry (outlet : Nat) (s : State) : Host.Outcome State Fault Refusal :=
  match (s.outletLive outlet).retryAt with
  | some t => if t ≤ s.now ∧ (s.outletLive outlet).plugged then .next (s.plug outlet) else .next s
  | none => .next s

/-! ### Vehicle messages (R278 to R282, R293) -/

/-- The supported cipher suites and groups towards vehicles (R280). -/
def vehicleSuites : List TlsSuite := [.aes128GcmSha256, .aes256GcmSha384]
def vehicleGroups : List TlsGroup := [.x448, .secp521r1]

/-- The signature that the SECC leaf key of a slot makes: secp521r1 or Ed448, where Obsidian lets the session engine sign with it (R280, R463, R465). -/
def State.seccSig (s : State) (slot : Nat) : Option TlsSig :=
  if s.slotAllows slot 0 M_SES then
    match ((s.obs.slots.get? slot).map KeySlot.type).getD 0 with
    | 3 => some .ecdsaP521Sha512
    | 4 => some .ed448
    | _ => none
  else none

/-- What a handshake settles on under the signature of the SECC key, none where it is refused (R280): TLS 1.3, and of suites and groups the first supported
one in the vehicle's order (DESIGN CHOICE, assumption 102). A pre-shared key, a ticket and 0-RTT data are passed over. -/
def VehicleTls.chosen (o : VehicleTls) (sig : Option TlsSig) : Option (TlsSuite × TlsGroup × TlsSig) :=
  match o.suites.find? vehicleSuites.contains, o.groups.find? vehicleGroups.contains, sig with
  | some a, some b, some c => if o.tls13 && o.sigs.contains c then some (a, b, c) else none
  | _, _, _ => none

/-- A contract is in order (R281): its chain has not expired and verifies against a V2G root certificate that Obsidian holds for the session engine, and the
vehicle's signature over the authorisation request verifies with the contract key. -/
def State.contractOk (s : State) (k : Contract) : Bool :=
  decide (s.sysTime ≤ k.notAfter) && s.obs.slots.any fun e => s.slotAllows e.1 8 M_SES && (match Config.chainKey e.2.cert k.chain with
    | some key => Config.verifiesUnder key k.request k.signature
    | none => false)

/-- The energy services of a protocol that the module supports (R279). -/
def serviceOk (protocol : Nat) (e : EnergyService) : Bool :=
  match protocol with
  | 1 => e == .dc
  | 2 => e == .dcCore || e == .dcExtended
  | 3 => e == .dc || e == .mcs
  | _ => false

/-- The charge parameters of a vehicle fit an outlet (R21 step 3): its highest voltage reaches V_MIN_V, and a target voltage lies within V_MIN_V to V_MAX_V
(DEDUCED, assumption 136). -/
def paramsFit (r : Rec) (p : ChargeParams) : Bool :=
  decide (10 * outVMin r ≤ p.maxV) && p.targetV.all fun v => decide (10 * outVMin r ≤ v ∧ v ≤ 10 * outVMax r)

/-- Jasper's account check (R21 step 4) passes (R326, R357). -/
def State.accountPasses (s : State) (account outlet : Nat) : Bool := match s.bil.accounts.get? account with
  | none => false
  | some r =>
    fld r 3 1 == 0 && !(s.bil.tables.getD (fld r 4 1) {}).active.isEmpty &&
      !(fld r 2 1 == 2 && decide (s.bil.live.balance.getD account 0 + fld r 16 4 ≤ 0)) && (s.met.chans.getD outlet {}).state == 2 &&
      decide (s.bil.live.logHead - s.bil.live.acked + 1024 ≤ 16384 ∧ s.bil.live.readings.length + 600 ≤ 4096)

/-- A message that failed to decode or is out of sequence: a FAILED response, and the end at the third (R293). -/
def State.badMessage (s : State) (n : Nat) : State :=
  let t := (s.updCtx n fun c => { c with bad := c.bad + 1 }).respond n false
  match t.ses.ctxs.get? n with
  | some c => if 3 ≤ c.bad then t.endSession n 4 true else t
  | none => t

/-- CHECKS (R284): Jasper's account check, then Granite's outlet check; both answer at once. -/
def State.sesChecks (s : State) (n : Nat) : State :=
  match s.ses.ctxs.get? n with
  | none => s
  | some c =>
    let t := s.updCtx n fun c => { c with state := 3 }
    if s.accountPasses c.account c.outlet = false then t.endSession n 7 true
    else if s.outletHealthy c.outlet = false then t.endSession n 8 true
    else (t.updCtx n fun c => { c with state := 4, cableAt := s.now }).emit (.insulationTest c.outlet)

/-- The authorisation request (R281, R282). A refused contract leaves EIM where AUTH bit 0 is set. -/
def State.sesAuthorise (s : State) (n : Nat) (c : Ctx) (k : Option Contract) : State :=
  let r := s.outletRec c.outlet
  let ask (t : State) : State := ((t.updCtx n fun c => { c with auth := 1, authAt := s.now }).raise 0x09 0x0002 n).respond n true
  let eim := bit (outAuth r) 0
  if c.auth ≠ 0 then s.respond n true
  else match k with
    | some k =>
      if bit (outAuth r) 1 ∧ c.protocol = 3 ∧ s.contractOk k then
        ask (s.updCtx n fun c => { c with pnc := true, idKind := 1, ident := padTo 24 k.emaid })
      else if eim then s.respond n false
      else (s.respond n false).endSession n 6 true
    | none =>
      if eim then ask (s.updCtx n fun c => { c with idKind := 2 }) else (s.respond n false).endSession n 6 true

/-- The vehicle's selection of a protocol (R279): its highest-priority entry among those enabled by PROTOCOLS and allowed by SES_TLS_ONLY;
ISO 15118-20 runs over TLS, the others without. -/
def protocolOf (r : Rec) (c : Ctx) (entries : List Nat) : Option Nat :=
  entries.find? fun p => decide (1 ≤ p ∧ p ≤ 3) && bit (outProtocols r) (p - 1) && (p == 3) == c.tls && (p == 3 || c.par PAR_SES_TLS_ONLY == 0)

/-- A start of power delivery (R284, R289): outside SES_PRE_TOL_V of the target the end with PRECHARGE, within it the handover, from a reference of 0 A
(DEDUCED, assumption 137). Before every stage is RUNNING, and once it has been accepted, a start is out of sequence. -/
def State.sesStart (s : State) (n : Nat) (c : Ctx) : State :=
  let r := s.outletRec c.outlet
  let v := s.outDv c.outlet
  let tol := 10 * c.par PAR_SES_PRE_TOL_V
  match c.evTargetV with
  | none => s.badMessage n
  | some tv =>
    if c.step = 3 then s.badMessage n
    else if tv + tol < v ∨ v + tol < tv then (s.respond n false).endSession n 13 true
    else if c.step ≠ 2 ∨ ((s.outletStages c.outlet).any fun k => (s.stage k).state != 4) then s.badMessage n
    else
      match s.handover (outCurr r) (outPre r) none with
      | .inl st => (s.respond n false).endSession n (if st = ST_FENCED then 12 else 18) true
      | .inr t => (((t.updInst (outCurr r) fun x => { x with owner := 1 }).setRef (outCurr r) 0 1).updCtx n fun c => { c with step := 3 }).respond n true

/-- A TLS handshake of a vehicle (R280): the record keys are made, and a client certificate is requested where AUTH bit 1 is set. -/
def State.sesTls (s : State) (n : Nat) (c : Ctx) (o : VehicleTls) : State :=
  let r := s.outletRec c.outlet
  let slot := c.par PAR_SES_SECC_SLOT
  if c.state = 2 ∧ c.protocol = 0 ∧ !c.tls then
    match o.chosen (s.seccSig slot) with
    | some (suite, group, sig) =>
      if bit (outProtocols r) 2 then
        ((s.putKeys (256 + 2 * n) 1 true suite).updCtx n fun c => { c with tls := true, suite := some suite, rxRecord := 0, txRecord := 0 }).segment n
          fun q a => .tlsAccept q a suite group sig slot (bit (outAuth r) 1)
      else s.endSession n 4 true
    | none => s.endSession n 4 true
  else s.badMessage n

/-- A message of the vehicle of a context. -/
def State.sesMessage (s : State) (n : Nat) (c : Ctx) (m : VehicleMsg) : State :=
  let r := s.outletRec c.outlet
  match m with
  | .tls o => s.sesTls n c o
  | .tlsFailure => s.endSession n 4 true
  | .protocols l =>
    if c.state = 2 ∧ c.protocol = 0 then
      match protocolOf r c l with
      | some p => (s.updCtx n fun c => { c with protocol := p }).respond n true
      | none => (s.respond n false).endSession n 4 true
    else s.badMessage n
  | .service e dyn =>
    if c.state = 2 ∧ c.protocol ≠ 0 then
      if serviceOk c.protocol e ∧ (dyn = false ∨ c.protocol = 3) then (s.updCtx n fun c => { c with service := some e, dynamic := dyn }).respond n true else s.respond n false
    else s.badMessage n
  | .certificates => if c.protocol ≠ 0 then s.respond n false else s.badMessage n
  | .authorise k => if c.state = 2 ∧ c.protocol ≠ 0 then s.sesAuthorise n c k else s.badMessage n
  | .parameters p =>
    if 2 ≤ c.state ∧ c.state ≤ 5 ∧ c.auth = 2 then
      if paramsFit r p = false then (s.respond n false).endSession n 4 true
      else
      let t := s.updCtx n fun c => { c with params := true, evMaxV := p.maxV, evMaxA := p.maxA, evMaxKw := p.maxKw,
                                            evTargetV := match p.targetV with
                                              | some v => some v
                                              | none => c.evTargetV }
      (if c.state = 2 then t.sesChecks n else t).respond n true
    else s.badMessage n
  | .precharge v =>
    if 4 ≤ c.state ∧ c.state ≤ 6 then
      if v < 10 * outVMin r ∨ 10 * outVMax r < v then (s.respond n false).endSession n 4 true
      else (s.updCtx n fun c => { c with evTargetV := some v }).respond n true
    else s.badMessage n
  | .start => if c.state = 6 then s.sesStart n c else s.badMessage n
  | .demand d =>
    if c.state = 7 ∨ (c.state = 6 ∧ c.step = 3) then
      (s.updCtx n fun c => { c with evTargetV := some d.targetV, evTargetA := d.targetA, evVolt := d.presentV, evMaxA := d.maxA,
                                    soc := d.soc.getD c.soc, demandAt := s.now }).respond n true
    else if c.state = 8 then s.respond n true
    else s.badMessage n
  | .stop => if c.state < 8 then (s.endSession n 1 false).respond n true else s.respond n true
  | .contactorsOpen => (s.updOutlet c.outlet fun l => { l with contactorsAt := some s.now }).respond n true
  | .bad => s.badMessage n

/-- An Ethernet frame of a session's vehicle (R278): discovery is answered, a TCP connection is taken when there is none, and a segment that continues the
connection brings its message; any other is acknowledged again and does nothing (DEDUCED, assumption 138). Sequence numbers start at a free value. -/
def State.sesPacket (s : State) (n : Nat) (c : Ctx) (f : VehicleFrame) : State :=
  match f.packet with
  | .other => s
  | .discovery => (s.updCtx n fun c => { c with ip := some (c.ip.getD f.ip) }).tunnel c.outlet .discovery
  | .syn port q =>
    if c.tcp.isSome then s
    else
      let d := s.draw
      (d.2.updCtx n fun c => { c with ip := some f.ip, tcp := some ⟨port, (q + 1) % 2 ^ 32, d.1 % 2 ^ 32⟩ }).segment n .synAck
  | .close port => if (c.tcp.map TcpConn.port) = some port then s.updCtx n fun c => { c with tcp := none } else s
  | .segment port q len m => match c.tcp with
    | none => s
    | some k =>
      if k.port ≠ port ∨ c.ip ≠ some f.ip then s
      else if q ≠ k.rcvNxt then s.segment n .ack
      else
        let c' := { c with tcp := some { k with rcvNxt := (q + len) % 2 ^ 32 }, rxRecord := if c.tls then c.rxRecord + 1 else c.rxRecord }
        (s.updCtx n fun _ => c').sesMessage n c' m

/-- VEHICLE_FRAME (R277, R278, R293). Frames are counted in seconds that begin with a frame; a second whose count passed
SES_RX_LIMIT_FPS ends the session at the next frame (DEDUCED, assumption 29). -/
def execVehicleFrame (node connector seq mac : Nat) (frame : VehicleFrame) (s : State) : Host.Outcome State Fault Refusal :=
  match s.outletAt node connector with
  | none => .next s
  | some o =>
    let s := s.tunnelSeq o seq
    match s.ctxOf o with
    | none => .next s
    | some (n, c) =>
      if s.isActive = false ∨ (c.link : Bool) = false ∨ c.state = 9 then .next s
      else
        let lim := c.par PAR_SES_RX_LIMIT_FPS
        let fresh := decide (c.rxStart + sec ≤ s.now) || c.rxCount == 0
        let excess := fresh && decide (lim < c.rxCount)
        let cnt := if fresh then 1 else c.rxCount + 1
        let foreign := match c.mac with
          | some m => m != mac
          | none => false
        let dropped := foreign || decide (lim < cnt)
        let c' := { c with rxStart := if fresh then s.now else c.rxStart, rxCount := cnt, mac := some (c.mac.getD mac),
                           dropped := if dropped then c.dropped + 1 else c.dropped }
        let t := s.updCtx n fun _ => c'
        .next (if excess then t.endSession n 4 true else if dropped then t else t.sesPacket n c' frame)

/-! ### Leave of a session (R285, R288) -/

/-- KW of the request of R285. -/
def State.sesKw (s : State) (c : Ctx) : Nat :=
  let k := min (outPMax (s.outletRec c.outlet)) c.evMaxKw
  match s.coolLimitKw c.outlet with
  | some l => min k l
  | none => k

/-- The leave request of a session (R285). -/
def State.sesAsk (s : State) (n : Nat) (c : Ctx) : State :=
  let r := s.outletRec c.outlet
  let kw := s.sesKw c
  if kw < outMinKw r then s.endSession n 10 true
  else
    let w := c.par PAR_SES_LEAVE_WAIT_MS
    (s.updCtx n fun c => { c with state := 5, asking := true }).arrive
      { kind := 0, consumer := c.outlet, kw := kw, minKw := outMinKw r, rampKwS := outRamp r, cls := outClass r, partialOk := true,
        wait := w != 0, waitMs := w }

/-- A change of the session's leave (R288). -/
def State.sesChange (s : State) (n : Nat) (c : Ctx) (kw : Nat) (partialOk : Bool) : State :=
  let r := s.outletRec c.outlet
  (s.updCtx n fun c => { c with asking := true, lowSince := none, highSince := none }).arrive
    { kind := 1, consumer := c.outlet, kw := kw, minKw := outMinKw r, rampKwS := outRamp r, partialOk := partialOk }

/-- Arms instances for a session in TRACK, up to the first that is refused: it ends the session (R284). -/
def State.sesArms (n : Nat) : List Nat → State → State
  | [], s => s
  | i :: l, s => match s.armFor i with
    | .inr t => State.sesArms n l (t.updInst i fun x => { x with owner := 1 })
    | .inl st => s.endSession n (if st = ST_FENCED then 12 else 18) true

/-- Arms the instances of PRECHARGE in TRACK (R284). -/
def State.sesArm (s : State) (n : Nat) (c : Ctx) : State :=
  State.sesArms n (outPre (s.outletRec c.outlet) :: ((s.outletConvs c.outlet).filter fun v => v.role == 2).map Conv.inst) s

/-- The arbiter's answer to a session (R284, R288). -/
def State.sesAnswer (s : State) (consumer st : Nat) : State :=
  match s.ctxOf consumer with
  | none => s
  | some (n, c) =>
    let t := s.updCtx n fun c => { c with asking := false }
    if c.state = 5 then
      if st = ST_OK then
        let t := t.updCtx n fun c => { c with state := 6, step := 0, reading := 1 }
        t.sesArm n c
      else t.endSession n 10 true
    else if c.state = 7 ∧ st ≠ ST_OK then t.updCtx n fun c => { c with refusedAt := some s.now }
    else t

/-- Hands the arbiter's answers to the sessions. -/
def State.handAnswers (s : State) : State :=
  s.lv.answers.foldl (fun (u : State) a => u.sesAnswer a.1 a.2) { s with lv := { s.lv with answers := [] } }

/-- Target power of the vehicle, in units of 0.01 W. -/
def Ctx.targetP (c : Ctx) : Nat := c.evTargetV.getD 0 * c.evTargetA

/-- GRANT_KW of an outlet, 0 without a slot. -/
def State.grantKw (s : State) (o : Nat) : Nat := ((s.slotOf o).map fun e => e.2.grantKw).getD 0

/-- SES_REGRANT_S has passed since the last refusal (R288). -/
def State.mayAsk (s : State) (c : Ctx) : Bool := match c.refusedAt with
  | some t => decide (t + c.par PAR_SES_REGRANT_S * sec ≤ s.now)
  | none => true

/-- SHRINK_TIMER (R288): the leave is lowered to (1 + SES_SHRINK_PCT / 100) times the target power, rounded up, and never below MIN_KW. -/
def execShrinkTimer (context : Nat) (s : State) : Host.Outcome State Fault Refusal :=
  match s.ses.ctxs.get? context with
  | none => .next s
  | some c =>
    let kw := max (outMinKw (s.outletRec c.outlet)) (ceilDiv ((100 + c.par PAR_SES_SHRINK_PCT) * c.targetP) 10000000)
    if c.state = 7 ∧ (c.asking : Bool) = false ∧ lasted c.lowSince (c.par PAR_SES_SHRINK_S * sec) s.now = true ∧ s.mayAsk c = true ∧ kw < s.grantKw c.outlet then
      .next (s.sesChange context c kw false)
    else .next s

/-- REGRANT_TIMER (R288). -/
def execRegrantTimer (context : Nat) (s : State) : Host.Outcome State Fault Refusal :=
  match s.ses.ctxs.get? context with
  | none => .next s
  | some c =>
    let kw := s.sesKw c
    if c.state = 7 ∧ (c.asking : Bool) = false ∧ lasted c.highSince (c.par PAR_SES_REGRANT_S * sec) s.now = true ∧ s.mayAsk c = true ∧ s.grantKw c.outlet < kw then
      .next (s.sesChange context c kw true)
    else .next s

/-! ### One site cycle of a session (R284, R286, R287, R291) -/

/-- What ends a session at once (R291), in the order of the rule: COOLING, FENCED, FENCED, SAFETY; 0 for none. -/
def State.sesFatal (s : State) (c : Ctx) : Nat :=
  let o := c.outlet
  let r := s.outletRec o
  if 6 ≤ c.state ∧ s.grantKw o = 0 then 11
  else if (s.inst (outCurr r)).state = 4 ∨ ((s.outletConvs o).any fun v => (s.inst v.inst).state == 4) ∨ s.held 7 o 2 ∨ (6 ≤ c.state ∧ (s.met.chans.getD o {}).state ≠ 2) then 12
  else if (capEntries (s.capmap o)).any fun e => !s.holds e.1 then 12
  else if s.outletLocked o then 8 else 0

/-- CABLE_CHECK of one cycle: with the test passed, the output below 60 V and the circuit out of PRIMING, the leave request. -/
def State.sesCable (s : State) (n : Nat) (c : Ctx) : State :=
  if c.insOk ∧ s.outDv c.outlet < 600 ∧ (s.circuit c.outlet).state ≠ 1 then s.sesAsk n c else s

/-- PRECHARGE of one cycle (R284, R289). The checks start once the vehicle has given its target voltage, so that their tokens serve the enable
(DEDUCED, assumption 151). -/
def State.sesPrecharge (s : State) (n : Nat) (c : Ctx) : State :=
  let r := s.outletRec c.outlet
  let stages := s.outletStages c.outlet
  let fail (u : State) (st : Nat) : State := u.endSession n (if st = ST_FENCED then 12 else 18) true
  match c.step with
  | 0 =>
    let l := outPre r :: ((s.outletConvs c.outlet).filter fun v => v.role == 2).map Conv.inst
    if l.any fun i => (s.inst i).state == 1 && (s.inst i).wait.isEmpty then s.endSession n 18 true
    else if c.evTargetV.isSome ∧ (l.all fun i => (s.inst i).state == 2) then
      match stages.findSome? fun k => s.checkRefusal k 1 with
      | some st => fail s st
      | none => (stages.foldl (fun (u : State) k => u.checkStage k 1 none) s).updCtx n fun c => { c with step := 1 }
    else s
  | 1 =>
    if stages.any fun k => (s.stage k).state != 1 && (s.stage k).state != 2 then s.endSession n 18 true
    else match c.evTargetV with
      | none => s
      | some tv =>
        if tv < 10 * outVMin r ∨ 10 * outVMax r < tv then s.endSession n 4 true
        else if stages.all fun k => (s.stage k).state == 2 then
          let il := 20 / max 1 stages.length
          let chk := stages.foldl (fun (a : Option Nat × State) k => match a.1 with
            | some st => (some st, a.2)
            | none => a.2.enableRefusal k 1 (tv / 10) 0 il) (none, s)
          match chk.1 with
          | some st => fail chk.2 st
          | none => (stages.foldl (fun (u : State) k => u.enableStage k 1 (tv / 10) 0 il none) chk.2).updCtx n fun c => { c with step := 2 }
        else s
  | 2 => if stages.any fun k => (s.stage k).state < 3 || (s.stage k).state == 6 then s.endSession n 18 true else s
  | _ =>
    if stages.any fun k => (s.stage k).state < 3 || (s.stage k).state == 6 then s.endSession n 18 true
    else if (s.inst (outCurr r)).state = 2 ∧ (s.inst (outPre r)).state = 1 then
      (s.updCtx n fun c => { c with state := 7, demandAt := s.now, iRef := 0, lastGrant := s.grantKw c.outlet }).raise 0x09 0x0003 n
    else s

/-- The smaller of the terms of i_lim in µA (R286), under a grant in kW. -/
def State.sesLim (s : State) (c : Ctx) (grant v : Nat) : Nat :=
  let r := s.outletRec c.outlet
  let cool := match s.cool.recs.get? c.outlet with
    | some _ => ((s.circuit c.outlet).iLim.floor 1000000).toNat
    | none => 1000000 * outIMax r
  let caps := (capEntries (s.capmap c.outlet)).map fun e => s.nodeCap e.1 e.2.1 * 10000000 / (max 1 e.2.2 * v) * 1000000
  caps.foldl min (min (min (1000000 * outIMax r) cool) (min (100000 * c.evMaxA) (grant * 10000 / v * 1000000)))

/-- The lines that a session follows for the published reductions of its slot (R287): one per end of a notice, from the publication and the i_ref of that
moment, with what all reductions up to that end take from the grant. -/
def Ctx.redLines (c : Ctx) (l : List Reduction) : List SesRed :=
  l.filterMap fun p => p.endAt.map fun e =>
    let kw := ((l.filter fun q => q.endAt.any fun f => decide (f ≤ e)).map Reduction.kw).sum
    { fromUa := ((c.red.find? fun q => q.endAt == e).map SesRed.fromUa).getD c.iRef, at' := e - p.noticeMs * ms, endAt := e, kw := kw }

/-- The limit that a line sets at a time: linear from its start to the reduced limit, which it reaches 2 ms before the notice ends (R287). -/
def SesRed.limit (q : SesRed) (target now : Nat) : Nat :=
  let span := q.endAt - 2 * ms - q.at'
  if q.fromUa ≤ target ∨ span ≤ now - q.at' then target else q.fromUa - (q.fromUa - target) * (now - q.at') / span

/-- TRANSFER of one cycle (R286, R287): the limit for the vehicle, i_ref, and the timers of R288. -/
def State.sesTransfer (s : State) (n : Nat) (c : Ctx) : State :=
  let r := s.outletRec c.outlet
  let v := max (max (s.outDv c.outlet) c.evVolt) 1000
  let slot := s.slotOf c.outlet
  let grant := s.grantKw c.outlet
  let pend := (slot.map fun e => e.2.pendingKw).getD 0
  let red := c.redLines ((slot.map fun e => e.2.pending).getD [])
  let lim := s.sesLim c grant v
  let limVeh := s.sesLim c (grant - pend) v
  let lin := red.foldl (fun a q => min a (q.limit (s.sesLim c (grant - q.kw) v) s.now)) lim
  let want := min (100000 * c.evTargetA) (min lim lin)
  let iRef := min want (c.iRef + outRamp r * 10000000 / v)
  let coolUa := ((s.circuit c.outlet).iLim.floor 1000000).toNat
  let limA := limVeh / 1000000
  let p := c.targetP
  let low := decide (p * 100 < (100 - c.par PAR_SES_SHRINK_PCT) * grant * 100000)
  let high := decide (grant * 100000 < p)
  let t := s.updCtx n fun c => { c with
    red := red, iRef := iRef, iLimit := limA, lastGrant := grant - pend, lastCool := coolUa,
    lowSince := if low then some (c.lowSince.getD s.now) else none, highSince := if high then some (c.highSince.getD s.now) else none }
  let t := t.setRef (outCurr r) iRef (outIScale r * 1000000)
  if limA < c.iLimit ∧ (grant - pend < c.lastGrant ∨ coolUa < c.lastCool) then t.raise 0x09 0x0004 n else t

/-- STOPPING of one cycle (R263, R290): a normal stop lowers i_ref, which stays within the observer's i_lim; with every output stage IDLE or LOCKED the session is in CLOSING. -/
def State.sesStopping (s : State) (n : Nat) (c : Ctx) : State :=
  let r := s.outletRec c.outlet
  let small := ampsBelow (s.outAmps c.outlet) 5
  let cool := match s.cool.recs.get? c.outlet with
    | some _ => ((s.circuit c.outlet).iLim.floor 1000000).toNat
    | none => c.iRef
  let i := min (c.iRef - 1000 * c.par PAR_SES_STOP_RAMP_AS) cool
  let t := s.updCtx n fun c => { c with smallSince := if small then some (c.smallSince.getD s.now) else none, iRef := i }
  let t := if i = c.iRef then t else t.setRef (outCurr r) i (outIScale r * 1000000)
  if (s.outletStages c.outlet).all fun k => (s.stage k).state == 0 || (s.stage k).state == 6 then t.toClosing n else t

/-- CLOSING of one cycle (R284): the leave goes once the reading is written, or there is none; then the context is freed. -/
def State.sesClosing (s : State) (n : Nat) (c : Ctx) : State :=
  if c.reading = 0 ∨ c.reading = 3 then
    if (c.released : Bool) = false then
      (s.updCtx n fun c => { c with released := true }).arrive { kind := 2, consumer := c.outlet }
    else if (s.slotOf c.outlet).isNone then
      let t := ({ s with ses := { s.ses with ctxs := s.ses.ctxs.del n } }).dropKeys (256 + 2 * n)
      (t.updOutlet c.outlet fun l => { l with needUnplug := l.plugged }).raise 0x09 0x0005 n
    else s
  else s

/-- Timers of the measured values (R292, R293). -/
def State.sesTimers (s : State) (n : Nat) (c : Ctx) : State :=
  let r := s.outletRec c.outlet
  let v := s.outDv c.outlet
  let high := decide (4 ≤ c.state ∧ c.state < 9 ∧ min c.evMaxV (10 * outVMax r) + 10 * c.par PAR_SES_OV_MARGIN_V < v)
  let rev := decide (4 ≤ c.state ∧ c.state < 9) && ampsBelow (s.outAmps c.outlet) (-50)
  s.updCtx n fun c => { c with overSince := if high then some (c.overSince.getD s.now) else none,
                               reverseSince := if rev then some (c.reverseSince.getD s.now) else none }

/-- Ends a session at once where R291 asks for it. -/
def State.fatalEnd (s : State) (n : Nat) : State :=
  match s.ses.ctxs.get? n with
  | none => s
  | some c =>
    let fatal := if c.state < 8 ∨ (c.state = 8 ∧ c.emergency = false) then s.sesFatal c else 0
    if fatal ≠ 0 then s.endSession n fatal true else s

/-- One site cycle of one context. -/
def State.sesCycle (s : State) (n : Nat) : State :=
  match s.ses.ctxs.get? n with
  | none => s
  | some c =>
    let s := (s.sesTimers n c).fatalEnd n
    let c := s.ses.ctxs.getD n c
    match c.state with
      | 4 => s.sesCable n c
      | 6 => s.sesPrecharge n c
      | 7 => s.sesTransfer n c
      | 8 => s.sesStopping n c
      | 9 => s.sesClosing n c
      | _ => s

/-- SESSION_LIMITS_CYCLE (R284, R286): every context; a contactor watch ends once the output is below 60 V (R292). -/
def execSessionLimitsCycle (s : State) : Host.Outcome State Fault Refusal :=
  if s.isActive then
    let t := s.ses.ctxs.keys.foldl State.sesCycle s
    .next (t.ses.outlets.keys.foldl (fun (u : State) o =>
      u.updOutlet o fun l => if u.outDv o < 600 then { l with contactorsAt := none } else l) t)
  else .next s

/-! ### Timeouts -/

/-- A timeout of a context in one of the states from `lo` to `hi`. -/
def State.sesTimeout (s : State) (n lo hi cause : Nat) (due : Ctx → Bool) : Host.Outcome State Fault Refusal :=
  match s.ses.ctxs.get? n with
  | none => .next s
  | some c => if lo ≤ c.state ∧ c.state ≤ hi ∧ due c = true ∧ s.isActive = true then .next (s.endSession n cause true) else .next s

/-- SES_LINK_TIMEOUT (R284). -/
def execSesLinkTimeout (context : Nat) (s : State) : Host.Outcome State Fault Refusal :=
  s.sesTimeout context 1 1 4 fun c => decide (c.pluggedAt + c.par PAR_SES_LINK_S * sec ≤ s.now)
/-- AUTH_TIMEOUT (R282). -/
def execAuthTimeout (context : Nat) (s : State) : Host.Outcome State Fault Refusal :=
  s.sesTimeout context 2 2 6 fun c => c.auth == 1 && decide (c.authAt + c.par PAR_SES_AUTH_TIMEOUT_MS * ms ≤ s.now)
/-- CABLE_CHECK_TIMEOUT (R284). -/
def execCableCheckTimeout (context : Nat) (s : State) : Host.Outcome State Fault Refusal :=
  s.sesTimeout context 4 4 9 fun c => !(c.insOk && decide (s.outDv c.outlet < 600)) && decide (c.cableAt + c.par PAR_SES_CABLE_MAX_S * sec ≤ s.now)
/-- DEMAND_TIMEOUT (R293). -/
def execDemandTimeout (context : Nat) (s : State) : Host.Outcome State Fault Refusal :=
  s.sesTimeout context 7 7 5 fun c => decide (c.demandAt + c.par PAR_SES_DEMAND_TIMEOUT_MS * ms ≤ s.now)
/-- PROTOCOL_TIMEOUT (R293): another message is later than the protocol's timeout. -/
def execProtocolTimeout (context : Nat) (s : State) : Host.Outcome State Fault Refusal := s.sesTimeout context 2 7 5 fun _ => true
/-- OVERVOLTAGE_DETECTED (R293). -/
def execOvervoltageDetected (context : Nat) (s : State) : Host.Outcome State Fault Refusal :=
  s.sesTimeout context 4 8 14 fun c => lasted c.overSince ms s.now
/-- REVERSE_CURRENT_DETECTED (R293). -/
def execReverseCurrentDetected (context : Nat) (s : State) : Host.Outcome State Fault Refusal :=
  s.sesTimeout context 4 8 15 fun c => lasted c.reverseSince (10 * ms) s.now

/-- STOP_CURRENT_LOW (R290): below 5 A for 10 ms in a normal stop, at once in an emergency stop. -/
def execStopCurrentLow (context : Nat) (s : State) : Host.Outcome State Fault Refusal :=
  match s.ses.ctxs.get? context with
  | none => .next s
  | some c =>
    let low := ampsBelow (s.outAmps c.outlet) 5
    if c.state = 8 ∧ s.isActive = true ∧ low = true ∧ ((c.emergency : Bool) = true ∨ lasted c.smallSince (10 * ms) s.now = true) then .next (s.stagesOff context)
    else .next s

/-- ESTOP_TIMEOUT (R290). -/
def execEstopTimeout (context : Nat) (s : State) : Host.Outcome State Fault Refusal :=
  match s.ses.ctxs.get? context with
  | none => .next s
  | some c =>
    if c.state = 8 ∧ s.isActive = true ∧ (c.emergency : Bool) = true ∧ c.stopAt + c.par PAR_SES_ESTOP_MS * ms ≤ s.now then .next (s.stagesOff context)
    else .next s

/-- WELD_CHECK_TIMEOUT (R292): the output is not below 60 V 2 s after the contactors were reported open. -/
def execWeldCheckTimeout (outlet : Nat) (s : State) : Host.Outcome State Fault Refusal :=
  match (s.outletLive outlet).contactorsAt with
  | none => .next s
  | some t =>
    if t + 2 * sec ≤ s.now ∧ 600 ≤ s.outDv outlet then
      .next (((s.updOutlet outlet fun l => { l with weld := true, contactorsAt := none }).raise 0x09 0x0006 outlet).report SRC_SES_WELD outlet)
    else .next s

/-! ### Commands (R296 to R300) -/

/-- The effect of SES_OUTLET_CONFIG (R296). -/
def sesOutletConfig (c : InFlight) (s : State) : State :=
  let o := c.desc.object
  match c.record 64 with
  | none => s.fail c.uid ST_BAD_PARAM
  | some r =>
    if 255 < o ∨ (¬allZero r ∧ ¬s.outletOk o r) then s.fail c.uid ST_BAD_PARAM
    else if (s.ctxOf o).isSome then s.fail c.uid ST_BUSY
    else ({ s with ses := { s.ses with recs := if allZero r then s.ses.recs.del o else s.ses.recs.set o r } }).ok c []

def execSesOutletConfig (q tag : Nat) (s : State) : Host.Outcome State Fault Refusal := startCommand 0x0900 q tag s sesOutletConfig

/-- The effect of SES_OUTLET_STATE (R297). -/
def sesOutletState (c : InFlight) (s : State) : State :=
  let o := c.desc.object
  let op := c.desc.u 32 1
  if (s.ses.recs.get? o).isNone ∨ 2 < op then s.fail c.uid ST_BAD_PARAM
  else if op = 0 then (s.updOutlet o fun l => { l with disabled := false }).ok c []
  else if op = 1 then (s.updOutlet o fun l => { l with disabled := true }).ok c []
  else if 600 ≤ s.outDv o then s.fail c.uid ST_BUSY
  else (s.updOutlet o fun l => { l with weld := false }).ok c []

def execSesOutletState (q tag : Nat) (s : State) : Host.Outcome State Fault Refusal := startCommand 0x0901 q tag s sesOutletState

/-- The effect of SES_AUTHORISE (R298). -/
def sesAuthoriseCmd (c : InFlight) (s : State) : State :=
  let n := c.desc.object
  let dec := c.desc.u 32 1
  let acc := c.desc.u 34 2
  match s.ses.ctxs.get? n with
  | none => s.fail c.uid ST_BAD_PARAM
  | some x =>
    if x.state ≠ 2 ∨ x.auth ≠ 1 ∨ 1 < dec ∨ 4095 < acc then s.fail c.uid ST_BAD_PARAM
    else if dec = 0 then (s.endSession n 6 true).ok c []
    else (s.updCtx n fun x => { x with auth := 2, account := acc, energyMax := c.desc.u 40 8 }).ok c []

def execSesAuthorise (q tag : Nat) (s : State) : Host.Outcome State Fault Refusal := startCommand 0x0902 q tag s sesAuthoriseCmd

/-- The effect of SES_STOP (R299): it completes when the session reaches CLOSING. -/
def sesStop (c : InFlight) (s : State) : State :=
  let n := c.desc.object
  let mode := c.desc.u 32 1
  match s.ses.ctxs.get? n with
  | none => s.fail c.uid ST_BAD_PARAM
  | some x =>
    if 1 < mode then s.fail c.uid ST_BAD_PARAM
    else if x.state = 9 ∨ (x.state = 8 ∧ mode = 0) then s.ok c []
    else
      let t := s.updCtx n fun x => { x with stops := x.stops ++ [c.uid] }
      if x.state = 8 then
        if x.emergency then t
        else t.makeEmergency n x
      else t.endSession n 2 (mode == 1)

def execSesStop (q tag : Nat) (s : State) : Host.Outcome State Fault Refusal := startCommand 0x0903 q tag s sesStop

/-- A context record of SES_READ (R300). Whole amperes, volts and seconds are rounded down. EVCCID gives the address's first byte first (assumption 140). -/
def State.ctxRecord (s : State) (n : Nat) : List Byte :=
  match s.ses.ctxs.get? n with
  | none => padTo 64 (pack [(1, n)])
  | some c =>
    let a := s.outAmps c.outlet
    let cool := match s.coolLimitKw c.outlet with
      | some _ => 4
      | none => 0
    let red := if ((s.slotOf c.outlet).map fun e => e.2.pendingKw).getD 0 = 0 then 0 else 8
    let fl := (if c.tls then 1 else 0) + (if c.pnc then 2 else 0) + cool + red
    pack [(1, n), (1, c.state), (1, c.outlet), (1, c.protocol), (1, c.idKind), (1, c.cause), (1, fl), (1, 0)] ++ (leBytes 6 (c.mac.getD 0)).reverse ++ [0, 0] ++
      padTo 24 c.ident ++ pack [(2, s.outDv c.outlet / 10)] ++ leInt 2 (floorDiv a.1 (max 1 a.2)) ++
      pack [(2, c.iRef / 1000000), (2, c.iLimit), (4, s.grantKw c.outlet), (2, c.evTargetV.getD 0 / 10), (2, c.evTargetA / 10), (1, c.soc), (3, 0),
            (4, (s.now - c.pluggedAt) / sec)]

/-- The effect of SES_READ (R300). -/
def sesRead (c : InFlight) (s : State) : State :=
  let first := c.desc.u 32 1
  let n := c.desc.u 34 2
  if n = 0 ∨ 256 < n ∨ c.desc.dataLen < 64 * n ∨ 256 < first + n then s.fail c.uid ST_BAD_PARAM
  else s.answer c [] ((List.range n).flatMap fun j => s.ctxRecord (first + j))

def execSesRead (q tag : Nat) (s : State) : Host.Outcome State Fault Refusal := startCommand 0x0904 q tag s sesRead

end Sys2Proof.Machine
end

