-- ==== Sys2Proof/Machine/Arbiter.lean ====
section
/-!
DEFINITION. The arbiter's microsecond (R108).
-/
namespace Sys2Proof.Machine

/-- One LV_GRID_SET (R103, R108 step 1, R127): the setpoint, its expiry from the completion, and the reclaim it makes pending. -/
def State.gridSet (s : State) (e : Nat × Option Nat × Nat) : State :=
  let before := s.pendingKw
  let expiry := if e.2.1.isNone ∨ e.2.2 = 0 then none else some (s.now + e.2.2 * sec)
  let t := ({ s with lv := { s.lv with setpoint := e.2.1, setExpiry := expiry } }).settle none
  t.okUid e.1 (pack [(4, t.lv.g), (4, t.pendingKw - before)])

/-- Step 1: the envelope inputs (R108). The comparison of R110 and R111 also takes up changed parameters, P and H. -/
def State.arbStep1 (s : State) : State :=
  let t := s.lv.gridIn.foldl State.gridSet { s with lv := { s.lv with gridIn := [] } }
  t.settle none

/-- A release, a change or a request. -/
def State.arbTake (s : State) (r : LeaveReq) : State :=
  match r.kind with
  | 0 => s.leaveAsk r
  | 1 => s.leaveChange r
  | _ => s.leaveRelease r

/-- Step 3: releases and requested decreases, in order of arrival; what is left waits for step 5. -/
def State.arbStep3 (s : State) : State :=
  let first (t : State) (r : LeaveReq) : Bool := r.kind == 2 || (r.kind == 1 && t.isDecrease r)
  let run := s.lv.arrivals.filter (first s)
  let left := s.lv.arrivals.filter fun r => !first s r
  (run.foldl State.arbTake { s with lv := { s.lv with arrivals := left } }).settle none

/-- Step 4: the ends of notices. -/
def State.arbStep4 (s : State) : State := s.noticeEnds s.lv.slots.keys

/-- Step 5: new requests and increases, in order of arrival. -/
def State.arbStep5 (s : State) : State :=
  s.lv.arrivals.foldl State.arbTake { s with lv := { s.lv with arrivals := [] } }

/-- A waiting slot before another: the higher class, then the earlier arrival. -/
def waitsBefore (a b : Nat × LvSlot) : Bool := decide (b.2.cls < a.2.cls ∨ (a.2.cls = b.2.cls ∧ a.2.arrival ≤ b.2.arrival))

/-- A slot put into its place of that order. -/
def waitInsert (e : Nat × LvSlot) : List (Nat × LvSlot) → List (Nat × LvSlot)
  | [] => [e]
  | x :: l => if waitsBefore e x then e :: x :: l else x :: waitInsert e l

/-- One waiting request decided again. -/
def State.arbWait (s : State) (e : Nat × LvSlot) : State :=
  match (s.lv.slots.get? e.1).bind LvSlot.waiting with
  | none => s
  | some r => match s.lvTerms.decideLeave r none with
    | some kw => s.lvTerms.grantTo r e.1 kw true
    | none => s

/-- Step 6: waiting requests, highest class first and in order of arrival. -/
def State.arbStep6 (s : State) : State :=
  ((s.lv.slots.keep fun _ x => x.state == 2).foldr waitInsert []).foldl State.arbWait s

/-- Ends the sessions that R291 ends at once. -/
def State.fatalEnds (s : State) : State := s.ses.ctxs.keys.foldl State.fatalEnd s

/-- In lockstep mode the events of a microsecond go into the next INPUTS; those of host commands come with the commands (R559). -/
def State.noteEvents (s : State) : State :=
  if s.forwards then { s with lv := { s.lv with fwdEvents := s.lv.fwdEvents ++ s.lv.arrivals.filter fun r => r.uid.isNone } } else s

/-- One microsecond of the arbiter (R108), its answers to sessions, and the ends of R291. -/
def State.arbitrate (s : State) : State := ((s.noteEvents.arbStep1.limitSlots.arbStep3.arbStep4.arbStep5.arbStep6.lvTerms).handAnswers).fatalEnds

/-- ARBITER_MICROSECOND (R108): a microsecond of the model's time passes; the active module's arbiter takes its events. -/
def execArbiterMicrosecond (s : State) : Host.Outcome State Fault Refusal :=
  let t := { s with now := s.now + us }
  .next (if t.isActive then t.arbitrate else t)

end Sys2Proof.Machine
end

