-- ==== Sys2Proof/Machine/BilOps.lean ====
section
/-!
DEFINITION. Shared operations of Jasper and Obsidian: what a key slot allows (R465), the legal log, readings, registers, and the
schedules of the legal clock (R341 to R368).
-/
namespace Sys2Proof.Machine

/-! ### Jasper's inputs -/

/-- A channel as Jasper runs it. -/
def State.chan (s : State) (ch : Nat) : MetChan := s.met.chans.getD ch {}
/-- Changes it. -/
def State.updChan (s : State) (ch : Nat) (f : MetChan → MetChan) : State :=
  { s with met := { s.met with chans := s.met.chans.set ch (f (s.chan ch)) } }
/-- The record of a channel, empty where none is applied. -/
def State.chanRec (s : State) (ch : Nat) : Rec := s.met.recs.getD ch []
def metSource (r : Rec) : Nat := fld r 2 1
def metKind (r : Rec) : Nat := fld r 3 1
def metHead (r : Rec) : Nat := fld r 4 2
def metSensor (r : Rec) : Nat := fld r 6 1
def metHz (r : Rec) : Nat := fld r 7 1
def metPMax (r : Rec) : Nat := fld r 28 4
def metLegConst (r : Rec) : Nat := fld r 32 4
def metGapMax (r : Rec) : Nat := fld r 36 2

/-- Changes the journalled state. -/
def State.updBil (s : State) (f : BilLive → BilLive) : State := { s with bil := { s.bil with live := f s.bil.live } }
/-- Registers of a channel. -/
def State.reg (s : State) (ch : Nat) : ChanReg := s.bil.live.chans.getD ch {}
/-- Changes them. -/
def State.updReg (s : State) (ch : Nat) (f : ChanReg → ChanReg) : State :=
  s.updBil fun l => { l with chans := l.chans.set ch (f (s.reg ch)) }
/-- The seal is open (R308). -/
def State.sealOpen (s : State) : Bool := s.met.sealEnd.isSome
/-- The first quantity of a channel, on which demand and rates rest (R351): 0 for DC, 2 for AC. -/
def mainQty (ch : Nat) : Nat := if ch < 256 then 0 else 2
/-- The quantities of a channel (R346). -/
def qtysOf (ch : Nat) : List Nat := if ch < 256 then [0, 1] else [2, 3, 4, 5, 6, 7]

/-! ### The legal log and its stores (R364 to R367) -/

/-- Free log entries (R366). -/
def State.logFree (s : State) : Nat := 16384 - (s.bil.live.logHead - s.bil.live.acked)
/-- Free reading slots (R366). -/
def State.slotsFree (s : State) : Nat := 4096 - s.bil.live.readings.length

/-- BIL_STORE_LOW at a store below its reserve, and at one first below 25 % free (R367). -/
def State.storeNote (s : State) : State :=
  let low := decide (s.logFree < 1024 ∨ s.slotsFree < 600)
  let quarter := decide (s.logFree * 4 < 16384 ∨ s.slotsFree * 4 < 4096)
  let up := (low && !s.bil.low) || (quarter && !s.bil.quarter)
  let t := { s with bil := { s.bil with low := low, quarter := quarter } }
  if up then t.raise 0x0B 0x0005 s.logFree else t

/-- One entry written at the next INDEX with its chain (R364). On an M0 module it is marked not for trade (R2); the mark stands beside the 64 bytes
(assumption 139). -/
def State.logWrite (s : State) (e : Nat × Nat × Nat × List Byte) : State :=
  s.updBil fun l =>
    let n := l.logHead + 1
    let b := pack [(4, n), (2, e.1), (2, e.2.1), (8, e.2.2.1)] ++ padTo 32 e.2.2.2 ++ (Config.sha256 l.lastEntry).take 16
    { l with logHead := n, lastEntry := b, log := l.log.set n b, notTrade := l.notTrade.set n (s.sys.metOption == 0) }

/-- Entries that wait are written while places are free. -/
def State.logDrain : List (Nat × Nat × Nat × List Byte) → State → State
  | [], s => s.updBil fun l => { l with waiting := [] }
  | e :: es, s => if s.logFree = 0 then s.updBil fun l => { l with waiting := e :: es } else State.logDrain es (s.logWrite e)

/-- An entry of the legal log at a legal time, and at the present one; with no free place it waits (R366, R367). -/
def State.logPutAt (s : State) (at' type ch : Nat) (data : List Byte) : State :=
  (State.logDrain (s.bil.live.waiting ++ [(type, ch, at', data)]) s).storeNote
def State.logPut (s : State) (type ch : Nat) (data : List Byte) : State := s.logPutAt s.bil.live.legal type ch data

/-- A session of a channel that leaves RUNNING in PRECHARGE or later ends with FENCED (R326). -/
def State.chanSession (s : State) (ch : Nat) : State := match s.ctxOf ch with
  | some (n, c) => if 6 ≤ c.state ∧ s.isActive then s.endSession n 12 true else s
  | none => s

/-- A channel becomes LOST (R325); CAUSE of the log entry is not coded by the spec: a free value. -/
def State.chanLost (s : State) (ch : Nat) : State :=
  let t := s.updChan ch fun c => { c with state := 3, lostAt := s.now, run := 0 }
  let t := (t.report SRC_MET_CHAN_LOST ch).raise 0x0A 0x0001 ch
  let t := t.draw.2.logPut 7 ch [BitVec.ofNat 8 t.draw.1]
  t.chanSession ch

/-- Every channel that runs or starts becomes LOST (R362, R367). -/
def State.allLost (s : State) : State :=
  s.met.recs.keys.foldl (fun (u : State) ch => if (u.chan ch).state = 2 ∨ (u.chan ch).state = 1 then u.chanLost ch else u) s

/-- A full store sets every channel LOST and raises the legal store fault source (R367). -/
def State.noteFullStore (s : State) : State :=
  if (s.logFree = 0 ∨ s.slotsFree = 0) ∧ (s.bil.full : Bool) = false then
    (({ s with bil := { s.bil with full := true } }).allLost).report SRC_BIL_STORE 0
  else s

/-- Writes a legal log entry at a legal time. -/
def State.legalLogAt (s : State) (at' type ch : Nat) (data : List Byte) : State := (s.logPutAt at' type ch data).noteFullStore
/-- Writes a legal log entry at the present legal time. -/
def State.legalLog (s : State) (type ch : Nat) (data : List Byte) : State := s.legalLogAt s.bil.live.legal type ch data

/-! ### Tables, rates and friendly hours (R348 to R350, R358) -/

/-- A tariff table. -/
def State.table (s : State) (k : Nat) : TariffTable := s.bil.tables.getD k {}
/-- What runs of it. -/
def State.tableRun (s : State) (k : Nat) : TableRun := s.bil.live.runs.getD k {}
/-- The present offset in ms (R342). -/
def State.offsetMs (s : State) : Int := s.isl PAR_BIL_UTC_OFFSET_MIN * 60000
/-- Local legal time of a legal time, ms; times before the epoch read 0. -/
def State.localMs (s : State) (t : Nat) : Nat := ((t : Int) + s.offsetMs).toNat
/-- The legal time of a local one. -/
def State.legalOf (s : State) (l : Nat) : Nat := ((l : Int) - s.offsetMs).toNat
/-- Weekday of a day counted from 2000-01-01, a Saturday: 0 Monday to 6 Sunday. -/
def weekday (day : Nat) : Nat := (day + 5) % 7
/-- Minutes of a day. -/
def dayMin : Nat := 1440

/-- A switch point's MINUTE, DAYS and RATE. -/
def switchOf (r : Rec) (n : Nat) : Nat × Nat × Nat := (fld r (64 + 4 * n) 2, fld r (66 + 4 * n) 1, fld r (67 + 4 * n) 1)

/-- The later of two occurrences. -/
def laterOcc (a : Option (Nat × Nat)) (b : Nat × Nat) : Option (Nat × Nat) := match a with
  | some x => if x.1 < b.1 then some b else some x
  | none => some b

/-- The latest occurrence of any switch point at or before a local time in ms: its local time in ms and its RATE (R349). -/
def lastSwitch (r : Rec) (l : Nat) : Option (Nat × Nat) :=
  let day := l / 86400000
  ((List.range (fld r 1 1)).flatMap fun n =>
    let w := switchOf r n
    ((List.range 8).filter fun d => d ≤ day && bit w.2.1 (weekday (day - d)) && decide (((day - d) * dayMin + w.1) * 60000 ≤ l)).map fun d =>
      (((day - d) * dayMin + w.1) * 60000, w.2.2)).foldl laterOcc none

/-- Rate in force of a table. -/
def State.rateOf (s : State) (table : Option Nat) : Nat := match table with
  | some k => if (s.table k).active.isEmpty then 0 else (s.tableRun k).rate
  | none => 0
/-- Table assigned to a channel. -/
def State.tableOf (s : State) (ch : Nat) : Option Nat := s.bil.assign.get? ch
/-- Demand interval of a channel in ms (R351). -/
def State.demandLen (s : State) (ch : Nat) : Nat := match s.tableOf ch with
  | some k => if (s.table k).active.isEmpty then 900000 else 60000 * fld (s.table k).active 5 1
  | none => 900000
/-- PRICE of a rate. -/
def priceOf (r : Rec) (rate : Nat) : Nat := fld r (32 + 4 * rate) 4

/-- Friendly hours of a version at a local time (R348): hours that span midnight belong to the day on which they begin (DEDUCED,
assumption 30). -/
def friendlyAt (r : Rec) (l : Nat) : Bool :=
  let day := l / 86400000
  let m := l / 60000 % dayMin
  let a := fld r 20 2
  let b := fld r 22 2
  let on (d : Nat) := bit (fld r 6 1) (weekday d)
  if a = b then false
  else if a < b then on day && decide (a ≤ m ∧ m < b)
  else (on day && decide (a ≤ m)) || (decide (1 ≤ day) && on (day - 1) && decide (m < b))

/-! ### The calendar (R352) -/

/-- Year, month and day of month of a day counted from 2000-01-01. -/
def civil (day : Nat) : Nat × Nat × Nat :=
  let z := day + 730425
  let era := z / 146097
  let doe := z % 146097
  let yoe := (doe - doe / 1460 + doe / 36524 - doe / 146096) / 365
  let doy := doe - (365 * yoe + yoe / 4 - yoe / 100)
  let mp := (5 * doy + 2) / 153
  let d := doy - (153 * mp + 2) / 5 + 1
  let m := if mp < 10 then mp + 3 else mp - 9
  (yoe + era * 400 + (if m ≤ 2 then 1 else 0), m, d)

/-- The day counted from 2000-01-01 of a date. -/
def dayOf (y m d : Nat) : Nat :=
  let y := if m ≤ 2 then y - 1 else y
  let era := y / 400
  let yoe := y % 400
  let doy := (153 * (if 2 < m then m - 3 else m + 9) + 2) / 5 + d - 1
  era * 146097 + (yoe * 365 + yoe / 4 - yoe / 100 + doy) - 730425

/-- The last end of a billing period at or before a legal time (R352). -/
def State.periodBoundary (s : State) (t : Nat) : Nat :=
  let l := s.localMs t
  let c := civil (l / 86400000)
  let d := s.islN PAR_BIL_PERIOD_DAY
  let h := 3600000 * s.islN PAR_BIL_PERIOD_HOUR
  let this' := dayOf c.1 c.2.1 d * 86400000 + h
  let prev := if c.2.1 = 1 then dayOf (c.1 - 1) 12 d else dayOf c.1 (c.2.1 - 1) d
  s.legalOf (if this' ≤ l then this' else prev * 86400000 + h)

/-- The last demand boundary of a channel at or before a legal time (R351). -/
def State.demandBoundary (s : State) (ch t : Nat) : Nat :=
  let l := s.localMs t
  s.legalOf (l - l % s.demandLen ch)

/-- The latest of the last fired boundaries of all schedules (R345). -/
def State.lastFired (s : State) : Nat :=
  let l := s.bil.live
  ((l.chans.vals.map ChanReg.dFired) ++ (l.runs.vals.map TableRun.switched) ++ (l.runs.vals.map TableRun.activated)).foldl max
    (max l.period l.offset)

/-- The clock is reversed (R345). -/
def State.reversed (s : State) : Bool := decide (s.bil.live.legal < s.lastFired)

/-! ### Readings (R359 to R361) -/

def RF_OUTAGE : BitVec 16 := 4
def RF_RECOVERED : BitVec 16 := 2
def RF_SPLIT : BitVec 16 := 16
def RF_TAKEOVER : BitVec 16 := 1024
def RF_TARIFF : BitVec 16 := 2048
/-- A flag where a condition holds. -/
def rflag (b : Bool) (n : Nat) : BitVec 16 := if b then BitVec.ofNat 16 (2 ^ n) else 0

/-- The flags that hold at the present tick of a channel (R361). -/
def State.tickFlags (s : State) (ch : Nat) (estimated : Bool) : BitVec 16 :=
  let c := s.chan ch
  rflag (s.sys.metOption == 0) 0 ||| rflag s.reversed 3 ||| rflag s.bil.live.invalid 5 ||| rflag s.sealOpen 6 ||| rflag estimated 7 |||
    rflag c.overTick 8 ||| rflag (c.state == 3) 9

/-- Registers in mWh of a channel, by quantity. -/
def State.regNow (s : State) (ch : Nat) : Tab Nat := (s.reg ch).total

/-- Display value and rollover count of a register (R347). -/
def dispWh (mwh : Nat) : Nat := mwh / 1000 % 10000000000
def rollCount (mwh : Nat) : Nat := mwh / 10000000000000

/-- COST of a reading (R360). -/
def RdAcc.costOf (a : RdAcc) : Nat := a.fee + (a.cost.map fun e => (e.2 + 500000) / 1000000).sum

/-- RFLAGS of a reading: the flags of its ticks, NOT_FOR_TRADE in every reading of an M0 module, and CLOCK_INVALID in every reading while the clock is not valid
(R2, R342, R361). -/
def State.rflagsOf (s : State) (a : RdAcc) : BitVec 16 := a.flags ||| rflag (s.sys.metOption == 0) 0 ||| rflag s.bil.live.invalid 5

/-- Bytes 0 to 367 of a reading (R360). -/
def State.readingBody (s : State) (kind : Nat) (a : RdAcc) (endMs seq logIndex : Nat) (demand : Tab Nat) (ends : Tab Nat) : List Byte :=
  let qs := qtysOf a.channel
  let q (k : Nat) : List Byte :=
    let b := a.regs.getD k 0
    let e := ends.getD k 0
    pack [(8, dispWh b), (8, dispWh e), (4, rollCount b), (4, rollCount e)]
  let ver := match a.table with
    | some k => fld (s.table k).active 16 4
    | none => 0
  [0x4A, 0x52, 0x44, 0x47] ++ pack [(2, 1), (1, kind), (1, qs.length), (2, a.channel), (2, (s.rflagsOf a).toNat), (4, seq)] ++ padTo 16 s.sys.identity ++
    pack [(4, s.bil.check), (4, s.met.sealCount), (4, s.met.calSeq), (2, a.account.getD 0xFFFF), (1, a.table.getD 0xFF), (1, 0), (4, ver),
          (4, logIndex), (8, a.start), (8, endMs)] ++ padTo 24 a.ident ++ padTo 144 (qs.flatMap q) ++
    ((List.range 8).flatMap fun r => leBytes 8 (a.rates.getD r 0)) ++ ((List.range 8).flatMap fun r => leBytes 4 (demand.getD r 0)) ++
    pack [(8, if kind = 1 then a.costOf else 0), (4, a.est / 1000000), (4, a.lossBound), (4, a.tailBound)] ++ List.replicate 12 0

/-- A reading signed with the reading key of slot 1 (R360, R466). -/
def State.signReading (s : State) (body : List Byte) : List Byte × State :=
  (body ++ padTo 64 (Config.sign 1 body s.draw.1), s.draw.2)

/-- Whether Jasper can sign (R479). -/
def State.canSign (s : State) : Bool := s.slotAllows 1 0 M_JASPER

/-- A reading issued: stored in a slot, logged and reported (R352, R359, R364). -/
def State.issueReading (s : State) (kind : Nat) (a : RdAcc) (endMs : Nat) (demand : Tab Nat) : State :=
  let seq := s.bil.live.readSeq + 1
  let b := s.signReading (s.readingBody kind a endMs seq (s.bil.live.logHead + 1) demand (s.regNow a.channel))
  let t := b.2.updBil fun l => { l with readSeq := seq, readings := l.readings.set seq b.1 }
  (t.legalLog 1 a.channel (pack [(4, seq), (1, kind), (11, 0)] ++ (Config.sha256 b.1).take 16)).raise 0x0B 0x0001 seq

/-! ### Registering energy (R323, R346, R351) -/

/-- Energy in whole mWh and price added to an open reading under the rate and version of a table. -/
def State.accAdd (s : State) (a : RdAcc) (rate mwh est : Nat) (flags : BitVec 16) (table : Option Nat) : RdAcc :=
  let price := match table with
    | some k => priceOf (s.table k).active rate
    | none => 0
  { a with rates := if mwh = 0 then a.rates else a.rates.set rate (a.rates.getD rate 0 + mwh),
           cost := if mwh = 0 then a.cost else a.cost.set rate (a.cost.getD rate 0 + mwh * price),
           est := a.est + est, flags := a.flags ||| flags }

/-- Energy of one quantity added to remainder, total and the register of the rate in force. -/
def ChanReg.addQty (r : ChanReg) (q nwh rate : Nat) : ChanReg × Nat :=
  let n := r.nwh.getD q 0 + nwh
  let m := n / 1000000
  let k := 8 * q + rate
  ({ r with nwh := r.nwh.set q (n % 1000000), total := if m = 0 then r.total else r.total.set q (r.total.getD q 0 + m),
            rates := if m = 0 then r.rates else r.rates.set k (r.rates.getD k 0 + m) }, m)

/-- Energy in nWh by quantity registered for a channel, of which `est` nWh are estimated. -/
def State.registerEnergy (s : State) (ch : Nat) (es : List (Nat × Nat)) (est : Nat) (flags : BitVec 16) : State :=
  let rate := s.rateOf (s.tableOf ch)
  let r := es.foldl (fun (a : ChanReg × Nat) e =>
    let x := a.1.addQty e.1 e.2 rate
    (x.1, if e.1 = mainQty ch then x.2 else a.2)) (s.reg ch, 0)
  let main := ((es.find? fun e => e.1 == mainQty ch).map Prod.snd).getD 0
  let reg := { r.1 with est := r.1.est + est, dNwh := r.1.dNwh + main,
                        period := r.1.period.map fun a => s.accAdd a rate r.2 est 0 (s.tableOf ch) }
  let t := s.updReg ch fun _ => reg
  t.updBil fun l => { l with opened := l.opened.mapV fun _ a =>
    if a.channel = ch then s.accAdd a (s.rateOf a.table) r.2 est flags a.table else a }

/-! ### Boundaries (R344, R351 to R355) -/

/-- The demand of an interval in W: energy over the time that the legal clock counted (R351); the rounding is open. -/
def State.demandW (s : State) (r : ChanReg) : Nat × State :=
  let x := s.roundDiv (36 * r.dNwh : Nat) (10000 * max 1 r.dMs)
  (x.1.toNat, x.2)

/-- The running demand interval of a channel closes, and the next begins; an interval that holds no tick is not recorded (R344, R351). -/
def State.closeDemand (s : State) (ch fired : Nat) (flags : BitVec 16) : State :=
  let r := s.reg ch
  let w := s.demandW r
  let clear (r : ChanReg) : ChanReg := { r with dNwh := 0, dMs := 0, dTicks := 0, dFlags := 0, dFired := max r.dFired fired }
  if r.dTicks = 0 then s.updReg ch clear
  else w.2.updReg ch fun r => clear { r with dLast := r.dFlags ||| flags, maxima := r.maxima.set r.dRate (max (r.maxima.getD r.dRate 0) w.1) }

/-- Demand intervals that end at the present tick (R353 step 2). -/
def State.fireDemand (s : State) : State :=
  s.met.recs.keys.foldl (fun (u : State) ch =>
    let b := u.demandBoundary ch u.bil.live.legal
    if (u.reg ch).dFired < b then u.closeDemand ch b 0 else u) s

/-- A new billing period of a channel. -/
def State.newPeriod (s : State) (ch : Nat) : State :=
  s.updReg ch fun r => { r with maxima := [], period := some { channel := ch, start := s.bil.live.legal, regs := r.total, table := s.tableOf ch } }

/-- The end of a billing period that follows a boundary: ends lie 28 days apart at least, so steps of 4 days miss none (R352). -/
def State.periodAfter (s : State) (p : Nat) : Option Nat :=
  ((List.range 16).map fun k => s.periodBoundary (p + k * 345600000)).find? (decide <| p < ·)

/-- The billing periods' readings find places and a key; a boundary waits for them (DEDUCED, assumption 31). -/
def State.periodReady (s : State) : Bool :=
  let n := s.met.recs.length
  decide (n ≤ s.logFree ∧ n ≤ s.slotsFree) && (n == 0 || s.canSign)

/-- The billing periods that end at or before a legal time `b`, in time order (R344, R352, R353 step 3); the first boundary of all begins the first period. -/
def State.firePeriods (b : Nat) : Nat → State → State
  | 0, s => s
  | n + 1, s =>
    let first := s.bil.live.period == 0
    match (if first then some (s.periodBoundary b) else s.periodAfter s.bil.live.period) with
    | none => s
    | some p =>
      if s.bil.live.period < p ∧ p ≤ b ∧ (first || s.periodReady) then
        let t := s.updBil fun x => { x with period := p }
        let t := s.met.recs.keys.foldl (fun (u : State) ch => match (u.reg ch).period with
          | some a => (u.issueReading 3 { a with table := u.tableOf ch } u.bil.live.legal (u.reg ch).maxima).newPeriod ch
          | none => u.newPeriod ch) t
        State.firePeriods b n (if first then t else t.raise 0x0B 0x0002 0)
      else s

/-- No more periods can end than spans of 28 days fit between the last fired end and the present. -/
def State.periodsLeft (s : State) : Nat := (s.bil.live.legal - s.bil.live.period) / 2419200000 + 1

/-- The activation of a table that is due at a legal time (R350, R353 step 4). -/
def State.fireActivation (t : Nat) (s : State) (k : Nat) : State :=
  let x := s.table k
  if x.pend.isEmpty ∨ t < x.pendAt ∨ x.pendAt ≤ (s.tableRun k).activated then s
  else
    let rate := ((lastSwitch x.pend (s.localMs t)).map Prod.snd).getD 0
    let u := { s with bil := { s.bil with tables := s.bil.tables.set k { x with active := x.pend, pend := [] } } }
    let u := u.updBil fun l => { l with
      runs := l.runs.set k { l.runs.getD k {} with rate := rate, activated := x.pendAt },
      opened := l.opened.mapV fun _ a => if a.table = some k then { a with flags := a.flags ||| RF_TARIFF } else a,
      chans := l.chans.mapV fun ch g =>
        if s.tableOf ch = some k then { g with period := g.period.map fun p => { p with flags := p.flags ||| RF_TARIFF } } else g }
    (u.legalLog 10 k (pack [(4, fld x.pend 16 4)])).raise 0x0B 0x0007 k

/-- The rate switch of a table that is due at a legal time (R349, R353 step 4). -/
def State.fireSwitch (t : Nat) (s : State) (k : Nat) : State :=
  match lastSwitch (s.table k).active (s.localMs t) with
  | none => s
  | some (l, r) =>
    let b := s.legalOf l
    if (s.tableRun k).switched < b then s.updBil fun l => { l with runs := l.runs.set k { l.runs.getD k {} with rate := r, switched := b } } else s

/-- An offset change that is due at a legal time (R342, R353 step 5). -/
def State.fireOffset (t : Nat) (s : State) : State :=
  let b := 1000 * s.islN PAR_BIL_OFFSET_AT_S
  if b = 0 ∨ t < b ∨ b ≤ s.bil.live.offset then s
  else
    let old := s.isl PAR_BIL_UTC_OFFSET_MIN
    let new' := s.isl PAR_BIL_OFFSET_NEXT_MIN
    let t := (s.setIsland PAR_BIL_UTC_OFFSET_MIN new').setIsland PAR_BIL_OFFSET_AT_S 0
    (t.updBil fun l => { l with offset := b }).legalLog 3 0xFFFF (leInt 2 old ++ leInt 2 new')

/-- An assignment of tables that is due at a legal time (R374). -/
def State.fireAssign (now : Nat) (s : State) : State := match s.bil.assignPend with
  | some (t, b) =>
    if t ≤ now then
      { s with bil := { s.bil with assignPend := none,
                                   assign := ((List.range 264).filter fun ch => byteAt b ch != 0xFF).map fun ch => (ch, byteAt b ch) } }
    else s
  | none => s

/-- Steps 3 to 5 of R353 for the boundaries at or before a legal time. -/
def State.othersAt (s : State) (b : Nat) : State :=
  let t := State.firePeriods b s.periodsLeft s
  let t := (List.range 16).foldl (fun (u : State) k => State.fireSwitch b (State.fireActivation b u k) k) t
  State.fireAssign b (State.fireOffset b t)

/-- The earliest end of a billing period, activation of a table, assignment or offset change that is due, none when nothing is (R344). -/
def State.nextBoundary (s : State) : Option Nat :=
  let l := s.bil.live
  let period := if l.period = 0 ∨ s.periodReady = false then [] else (s.periodAfter l.period).toList
  let acts := (List.range 16).filterMap fun k =>
    let x := s.table k
    if x.pend.isEmpty ∨ x.pendAt ≤ (s.tableRun k).activated then none else some x.pendAt
  let a := 1000 * s.islN PAR_BIL_OFFSET_AT_S
  let off := if a = 0 ∨ a ≤ l.offset then [] else [a]
  ((period ++ acts ++ (s.bil.assignPend.map Prod.fst).toList ++ off).filter (decide <| · ≤ l.legal)).min?

/-- Steps 3 to 5 of R353 in the time order of the boundaries that a jump of the clock has passed (R344, R355). -/
def State.fireInOrder : Nat → State → State
  | 0, s => s.othersAt s.bil.live.legal
  | n + 1, s => match s.nextBoundary with
    | some b => State.fireInOrder n (s.othersAt b)
    | none => s.othersAt s.bil.live.legal

/-- Steps 3 to 5 of R353 at the present tick: no more boundaries are due than period ends, 16 tables, an assignment and an offset change. -/
def State.fireOthers (s : State) : State := State.fireInOrder (s.periodsLeft + 18) s

/-- Every boundary due at the present tick, in the order of R353. An activation that was passed may shorten the demand intervals. -/
def State.fireAll (s : State) : State := s.fireDemand.fireOthers.fireDemand

/-- A boundary of some schedule is due (R355). -/
def State.boundaryDue (s : State) : Bool :=
  let t := s.bil.live.legal
  (s.met.recs.keys.any fun ch => decide ((s.reg ch).dFired < s.demandBoundary ch t)) || decide (s.bil.live.period < s.periodBoundary t) ||
    ((List.range 16).any fun k =>
      (!(s.table k).pend.isEmpty && decide ((s.table k).pendAt ≤ t ∧ (s.tableRun k).activated < (s.table k).pendAt)) ||
      (match lastSwitch (s.table k).active (s.localMs t) with
        | some (l, _) => decide ((s.tableRun k).switched < s.legalOf l)
        | none => false)) ||
    (let b := 1000 * s.islN PAR_BIL_OFFSET_AT_S
     b != 0 && decide (b ≤ t ∧ s.bil.live.offset < b))

/-- The demand interval of a channel over a jump of the legal clock from `c` to `t` (R351, R355): the running interval closes at its
end, intervals without a tick are not recorded, and the last one runs on. -/
def State.advanceDemand (s : State) (ch c t : Nat) (flags : BitVec 16) : State :=
  let r := s.reg ch
  let b := max (s.demandBoundary ch c + s.demandLen ch) (r.dFired + 1)
  if t < b then s.updReg ch fun r => { r with dMs := r.dMs + (t - c), dFlags := r.dFlags ||| flags }
  else
    let u := s.updReg ch fun r => { r with dMs := r.dMs + (b - c) }
    let last := s.demandBoundary ch t
    (u.closeDemand ch last flags).updReg ch fun r => { r with dMs := t - last, dFlags := flags }

/-- The legal clock moves from its present value to `t` without ticks (R341, R355): boundaries passed are processed in time order, and energy
held apart goes to the interval that begins at its boundary. -/
def State.resumeLegal (s : State) (t : Nat) (flags : BitVec 16) : State :=
  let go (s : State) (c t : Nat) : State :=
    let u := s.met.recs.keys.foldl (fun (u : State) ch => u.advanceDemand ch c t flags) s
    (u.updBil fun l => { l with legal := t }).fireOthers
  let apart (s : State) : State :=
    let u := s.met.recs.keys.foldl (fun (u : State) ch =>
      let es := (u.reg ch).apart
      if es.isEmpty then u
      else ((u.registerEnergy ch es 0 flags).updReg ch fun r => { r with
        apart := [], dTicks := r.dTicks + 1, dRate := if r.dTicks = 0 then u.rateOf (u.tableOf ch) else r.dRate })) s
    u.updBil fun l => { l with apartAt := none }
  match s.bil.live.apartAt with
  | some b => go (apart (go s (min s.bil.live.legal b) b)) b (max t b)
  | none => go s s.bil.live.legal t

end Sys2Proof.Machine
end

