-- ==== Sys2Proof/Machine/Metrology.lean ====
section
/-!
DEFINITION. Jasper metrology (chapter 11): channel and calibration records, the seal, samples, tick energies, pulse outputs and the
metrology commands.
-/
namespace Sys2Proof.Machine

/-! ### Records (R304, R305, R316 to R320) -/

/-- An IEEE 754 single as a quotient, none for an infinity or a number that is none. -/
def singleOf (v : Nat) : Option (Int × Nat) :=
  let e := bits v 30 23
  let f := bits v 22 0
  let sg : Int := if bit v 31 then -1 else 1
  if e = 255 then none
  else if e = 0 then some (sg * f, 2 ^ 149)
  else some (sg * ((f + 2 ^ 23) * 2 ^ (e - 150) : Nat), 2 ^ (150 - e))

/-- Voltage inputs, current inputs with and without the neutral of a kind (R305). -/
def kindV : Nat → Nat
  | 2 => 3 | 3 => 2 | _ => 1
def kindI : Nat → Nat
  | 2 => 3 | 3 => 2 | _ => 1

/-- The codes of R319 of a kind's quantities, in the order of R309, the neutral aside. -/
def kindCodes : Nat → List Nat
  | 2 => [0, 1, 2, 3, 4, 5] | 3 => [0, 2, 3, 5] | _ => [0, 3]

/-- The J2 voltage and current inputs that a record names. -/
def j2V (r : Rec) : List Nat := ((List.range 3).map fun k => fld r (8 + k) 1).filter (· != 0xFF)
def j2I (r : Rec) : List Nat := ((List.range 4).map fun k => fld r (11 + k) 1).filter (· != 0xFF)

/-- START_MA holds R317: pi is taken to 15 digits, which no whole START_MA can tell from pi. -/
def startOk (r : Rec) : Bool := match singleOf (fld r 20 4) with
  | none => false
  | some (n, d) =>
    let a : Int := fld r 24 4 * 100 * (d : Int)
    if metSensor r = 2 then decide (n * 1000000000000000 ≤ a * 2 * 3141592653589793 * metHz r) else decide (n ≤ a)

/-- The J2 inputs of a record are exactly those of its kind and belong to no other record (R317). -/
def State.j2Ok (s : State) (ch : Nat) (r : Rec) : Bool :=
  let k := metKind r
  let v := j2V r
  let i := j2I r
  (v.length == kindV k) && (i.length == kindI k || (k == 2 && i.length == 4)) && noDup v && noDup i && (v ++ i).all (decide <| · < 8) &&
    s.met.recs.all fun e => e.1 == ch || metSource e.2 != 2 || (v.all fun x => !(j2V e.2).contains x) && (i.all fun x => !(j2I e.2).contains x)

/-- A channel record is valid (R304, R316, R317). -/
def State.chanRecOk (s : State) (ch : Nat) (r : Rec) : Bool :=
  let k := metKind r
  fld r 0 2 == ch && decide (ch < 264) && (if ch < 256 then k == 1 else decide (2 ≤ k ∧ k ≤ 4)) && decide (metSensor r ≤ 2) &&
    (if ch < 256 then metHz r == 0 else metHz r == 50 || metHz r == 60) && (metSensor r == 0 || decide (2 ≤ k)) && zeros r 15 1 && zeros r 38 26 &&
    (singleOf (fld r 16 4)).isSome && (singleOf (fld r 20 4)).isSome && decide (1 ≤ metPMax r ∧ metPMax r ≤ 200000) &&
    decide (1 ≤ metLegConst r ∧ metLegConst r ≤ 1000000) && decide (metPMax r * metLegConst r ≤ 1800000) &&
    decide (5 ≤ metGapMax r ∧ metGapMax r ≤ 100) &&
    (match metSource r with
      | 1 => s.nodeKind (metHead r) == 3 && metSensor r == 0 && (s.met.recs.all fun e => e.1 == ch || metSource e.2 != 1 || metHead e.2 != metHead r) &&
          (match s.ses.recs.get? ch with
            | some o => outHead o == metHead r
            | none => true)
      | 2 => metHead r == 0 && s.j2Ok ch r && startOk r
      | _ => false)

/-- The entries in use of a calibration record: QUANTITY, STEP, GAIN, OFFSET and PHASE. -/
structure CalEntry where
  qty : Nat
  step : Nat
  gain : Nat
  offset : Int
  phase : Int
  deriving DecidableEq, Repr

def calEntries (r : Rec) : List CalEntry :=
  (List.range (min 20 (fld r 2 1))).map fun n => ⟨fld r (16 + 8 * n) 1, fld r (17 + 8 * n) 1, fld r (18 + 8 * n) 2, sfld r (20 + 8 * n) 2, sfld r (22 + 8 * n) 2⟩

/-- A calibration record is valid (R319, R320). A J2 current input that has an entry has one for each step (DEDUCED, assumption 32). -/
def State.calOk (s : State) (ch : Nat) (r : Rec) : Bool :=
  let l := calEntries r
  let j2 := metSource (s.chanRec ch) == 2
  fld r 0 2 == ch && decide (ch < 264) && decide (1 ≤ fld r 2 1 ∧ fld r 2 1 ≤ 20) && zeros r 3 1 && zeros r 8 8 &&
    (l.all fun e => decide (e.qty ≤ 6 ∧ 26214 ≤ e.gain ∧ e.gain ≤ 40960 ∧ -5000 ≤ e.phase ∧ e.phase ≤ 5000) &&
      (if j2 && decide (3 ≤ e.qty) then decide (e.step ≤ 3) else e.step == 0) && (e.phase == 0 || (decide (3 ≤ e.qty) && decide (256 ≤ ch)))) &&
    noDup (l.map fun e => (e.qty, e.step)) &&
    (!j2 || l.all fun e => decide (e.qty < 3) || (List.range 4).all fun k => l.any fun x => x.qty == e.qty && x.step == k)

/-- The record of a channel without calibration: no entry in use, every GAIN at 32,768 (R319). -/
def calDefault (ch : Nat) : List Byte :=
  pack [(2, ch), (14, 0)] ++ (List.range 20).flatMap fun _ => pack [(2, 0), (2, 32768), (4, 0)]

/-- The calibration record of a channel. -/
def State.calRec (s : State) (ch : Nat) : Rec := s.met.cals.getD ch (calDefault ch)

/-! ### Corrected samples (R313 to R315, R320) -/

/-- The unit of corrected values: 1 / (2^15 x 10^256). -/
def unitDec : Nat := 10 ^ 256

/-- The correction entry of a quantity and step. -/
def State.calOf (s : State) (ch code step : Nat) : CalEntry :=
  ((calEntries (s.calRec ch)).find? fun e => e.qty == code && e.step == step).getD ⟨code, step, 32768, 0, 0⟩

/-- A corrected sample of a head: GAIN x (raw - OFFSET). With a PHASE, whose delay filter is not given, or an OFFSET, whose range the
record of a head does not give, the value is free. -/
def State.corrHead (s : State) (ch code : Nat) (raw exp : Int) : Int × State :=
  let c := s.calOf ch code 0
  if c.phase ≠ 0 ∨ c.offset ≠ 0 then s.drawInt else (raw * c.gain * (10 ^ (256 + exp).toNat : Nat), s)

/-- A corrected J2 sample: the raw value is a part of 2^23 of the range of the step, then V_RATIO or I_RATIO. Air-cored coils, whose
integrator is not given to the last digit, and PHASE give a free value. -/
def State.corrJ2 (s : State) (ch code step : Nat) (raw : Int) : Int × State :=
  let r := s.chanRec ch
  let c := s.calOf ch code step
  let cur := decide (3 ≤ code)
  if c.phase ≠ 0 ∨ (cur ∧ metSensor r = 2) then s.drawInt
  else
    let q := (singleOf (fld r (if cur then 20 else 16) 4)).getD (0, 1)
    ((raw - c.offset) * c.gain * q.1 * (unitDec : Int) / ((2 ^ 23 * 4 ^ step * q.2 : Nat) : Int), s)

/-- The sum of two lists, element by element. -/
def addList : List Int → List Int → List Int
  | [], b => b
  | a, [] => a
  | x :: a, y :: b => (x + y) :: addList a b

/-- One sample of voltages and currents added to a tick; `w` is its Δt in 1/32,000 s. -/
def TickRec.add (t : TickRec) (pairs w : Nat) (v i : List Int) : TickRec :=
  { t with n := t.n + 1, e := t.e + w * ((List.range pairs).map fun k => v.getD k 0 * i.getD k 0).sum,
           v := addList t.v v, v2 := addList t.v2 (v.map fun x => x * x), i := addList t.i i, i2 := addList t.i2 (i.map fun x => x * x) }

/-- Two ticks' sums joined. -/
def TickRec.join (a b : TickRec) : TickRec :=
  { n := a.n + b.n, e := a.e + b.e, q := a.q + b.q, v := addList a.v b.v, v2 := addList a.v2 b.v2, i := addList a.i b.i, i2 := addList a.i2 b.i2,
    fills := a.fills + b.fills, est := a.est + b.est }

/-- `k` milliseconds of a record, as a fill (R311); a negative number takes fills back. -/
def TickRec.times (t : TickRec) (k : Int) : TickRec :=
  let m (l : List Int) := l.map (k * ·)
  { n := t.n * k.toNat, e := k * t.e, q := k * t.q, v := m t.v, v2 := m t.v2, i := m t.i, i2 := m t.i2, fills := k, est := k * t.e }

/-- Corrects the values of one head sample. -/
def State.corrSample (s : State) (ch : Nat) : List (Nat × Int × Int) → List Int × State
  | [] => ([], s)
  | (code, raw, exp) :: l =>
    let a := s.corrHead ch code raw exp
    let b := State.corrSample a.2 ch l
    (a.1 :: b.1, b.2)

/-- The sums over some samples of a head's block. -/
def State.blockSums (s : State) (ch : Nat) (kind : Nat) (exps : List Int) (l : List (List Int)) : TickRec × State :=
  let codes := kindCodes kind ++ (if kind = 2 ∧ 6 < exps.length then [6] else [])
  let r := l.foldl (fun (a : TickRec × State) smp =>
    let c := a.2.corrSample ch ((List.range codes.length).map fun k => (codes.getD k 0, smp.getD k 0, exps.getD k 0))
    (a.1.add (kindI kind) 1 (c.1.take (kindV kind)) (c.1.drop (kindV kind)), c.2)) ({}, s)
  if kind = 1 then r else ({ r.1 with q := r.2.drawInt.1 }, r.2.drawInt.2)

/-- Bytes of a sample block up to its TAG (R309). -/
def SampleBlock.bytes (b : SampleBlock) : List Byte :=
  pack [(2, b.head), (1, b.exps.length), (1, (if b.overrange then 1 else 0) + (if b.sensorFault then 2 else 0)), (4, b.seq), (4, b.cycle)] ++
    padTo 8 (b.exps.flatMap (leInt 1)) ++ pack [(1, b.hkind), (3, 0)] ++ b.samples.flatMap fun l => l.flatMap (leInt 4)

/-- The TAG of a block verifies under the stream key of its head (R309, R310, R465, R473). -/
def State.tagOk (s : State) (b : SampleBlock) : Bool := match s.obs.enrolled.get? b.head with
  | some k => s.slotAllows k.slot 4 M_JASPER && Config.cmac k.slot b.head b.bytes == b.tag
  | none => false

/-- The fill that an accepted block leaves to its tick (R311): the gap is the run of block numbers before it, filled up to GAP_MAX_MS; milliseconds filled
already count, and those filled for a block that then came are taken back (DEDUCED, assumption 141). -/
def fillOf (r : Rec) (c : MetChan) (missing : Nat) : Int :=
  if c.state = 2 then (min missing (metGapMax r) : Nat) - (c.filled : Int) else 0

/-- SAMPLE_BLOCK (R309 to R312): accepted when TAG, HEAD, HKIND and SEQ allow it; a second copy is dropped, others are counted; a block with
SENSOR_FAULT counts as missing. -/
def execSampleBlock (block : SampleBlock) (s : State) : Host.Outcome State Fault Refusal :=
  if (s.met.ready && s.met.clock) = false then .next s
  else match s.met.recs.find? fun e => metSource e.2 == 1 && metHead e.2 == block.head with
  | none => .next s
  | some (ch, r) =>
    let c := s.chan ch
    let ahead := match c.seq with
      | some q => decide (1 ≤ (block.seq + 2 ^ 32 - q) % 2 ^ 32 ∧ (block.seq + 2 ^ 32 - q) % 2 ^ 32 < 2 ^ 31)
      | none => true
    let tagOk := s.tagOk block
    if tagOk ∧ c.seq = some block.seq then .next s
    else if (tagOk && block.hkind == metKind r && ahead) = false then .next (s.updChan ch fun c => { c with dropped := c.dropped + 1 })
    else if block.sensorFault then .next s
    else
      let a := s.blockSums ch (metKind r) block.exps (block.samples.take block.split)
      let b := a.2.blockSums ch (metKind r) block.exps (block.samples.drop block.split)
      let jump := match c.seq with
        | some q => (block.seq + 2 ^ 32 - q) % 2 ^ 32 != 1
        | none => true
      let k := match c.seq with
        | some q => fillOf r c ((block.seq + 2 ^ 32 - q) % 2 ^ 32 - 1)
        | none => 0
      let t := b.2.updChan ch fun c => { c with
        seq := some block.seq, run := if jump then 1 else c.run + 1, got := true, gap := 0, filled := 0, last := a.1.join b.1,
        gapMs := min (2 ^ 32 - 1) ((c.gapMs : Int) + k).toNat, cur := (c.cur.join (c.last.times k)).join a.1, nxt := c.nxt.join b.1, overrange := block.overrange, overTick := c.overTick || block.overrange,
        overSince := if block.overrange then some (c.overSince.getD s.now) else none }
      let t := if 0 < k ∧ c.filled = 0 then t.raise 0x0A 0x0003 ch else t
      .next (if block.overrange ∧ ¬c.overrange then t.raise 0x0A 0x0004 ch else t)

/-! ### Local channels (R313, R314) -/

/-- Full scale of a 24-bit sample. -/
def j2Full : Nat := 8388608

/-- One sample of the eight current inputs: the value used and its step, with the switch to the lower step at 90 % and the count of samples
below 20 % (R314). -/
def State.j2Currents (s : State) (x : J2Sample) : List (Int × Nat) × State :=
  (List.range 8).foldl (fun (a : List (Int × Nat) × State) k =>
    let st := a.2.met.steps.getD k 0
    let v := x.active.getD k 0
    let down := decide (9 * j2Full ≤ 10 * v.natAbs ∧ 0 < st)
    let use := if down then (x.lower.getD k 0, st - 1) else (v, st)
    let calm := if down ∨ j2Full ≤ 5 * v.natAbs then 0 else a.2.met.calm.getD k 0 + 1
    (a.1 ++ [use], { a.2 with met := { a.2.met with steps := a.2.met.steps.set k use.2, calm := a.2.met.calm.set k calm } })) ([], s)

/-- GAIN_STEP_UP (R314). -/
def execGainStepUp (input : Nat) (s : State) : Host.Outcome State Fault Refusal :=
  let st := s.met.steps.getD input 0
  if input < 8 ∧ st < 3 ∧ 800 ≤ s.met.calm.getD input 0 then
    .next { s with met := { s.met with steps := s.met.steps.set input (st + 1), calm := s.met.calm.set input 0 } }
  else .next s

/-- Corrects the J2 values of one sample of a channel. -/
def State.corrJ2s (s : State) (ch : Nat) : List (Nat × Nat × Int) → List Int × State
  | [] => ([], s)
  | (code, step, raw) :: l =>
    let a := s.corrJ2 ch code step raw
    let b := State.corrJ2s a.2 ch l
    (a.1 :: b.1, b.2)

/-- The samples of one tick of a J2 channel. -/
def State.j2Channel (s : State) (ch : Nat) (l : List (J2Sample × List (Int × Nat))) : State :=
  let r := s.chanRec ch
  let k := metKind r
  let v := j2V r
  let i := j2I r
  let codes := kindCodes k ++ [6]
  let res := l.foldl (fun (a : TickRec × Bool × State) x =>
    let vs := (List.range v.length).map fun j => (codes.getD j 0, 0, x.1.volts.getD (v.getD j 0) 0)
    let is := (List.range i.length).map fun j => let u := x.2.getD (i.getD j 0) (0, 0); (codes.getD (v.length + j) 6, u.2, u.1)
    let clip := ((vs.any fun y => decide (j2Full ≤ y.2.2.natAbs + 1)) || is.any fun y => y.2.1 == 0 && decide (j2Full ≤ y.2.2.natAbs + 1))
    let a1 := a.2.2.corrJ2s ch vs
    let a2 := a1.2.corrJ2s ch is
    (a.1.add (kindI k) 4 a1.1 a2.1, a.2.1 || clip, a2.2)) ({}, false, s)
  let q : Int × State := if k = 1 then (0, res.2.2) else res.2.2.drawInt
  let hot := res.2.1
  let t := q.2.updChan ch fun c => { c with
    cur := c.cur.join { res.1 with q := q.1 }, got := !l.isEmpty, gap := if metGapMax r < c.gap then c.gap else 0, run := if l.isEmpty ∨ hot then 0 else c.run + 1, overrange := hot, overTick := hot,
    overSince := if hot then some (c.overSince.getD s.now) else none }
  if hot ∧ ¬(s.chan ch).overrange then t.raise 0x0A 0x0004 ch else t

/-! ### Tick energies (R311, R318, R321 to R323) -/

/-- Start-up current of a channel in mA (R318): a head reports its own at enrolment; 2.0 A is the figure of the head the spec names. -/
def State.startMa (s : State) (ch : Nat) : Nat :=
  let r := s.chanRec ch
  if metSource r = 2 then fld r 24 4 else match s.obs.enrolled.get? (metHead r) with
    | some e => e.startMa
    | none => 2000

/-- The last `n` ticks of a channel joined. -/
def MetChan.window (c : MetChan) (n : Nat) : TickRec := (c.hist.take n).foldl TickRec.join {}

/-- The reference current over the last 100 ms lies below the start-up current (R318). -/
def State.belowStart (s : State) (ch : Nat) (h : List TickRec) : Bool :=
  let w := (h.take 100).foldl TickRec.join {}
  let lim := s.startMa ch * 2 ^ 15 * 10 ^ 253
  if ch < 256 then decide ((w.i.getD 0 0).natAbs < lim * w.n)
  else ((w.i2.take (kindI (metKind (s.chanRec ch)))).all fun x => decide (x.natAbs < lim * lim * w.n))

/-- An energy in the unit of `TickRec` in nWh; the rounding is open. -/
def State.nwhOf (s : State) (e : Int) : Int × State := s.roundDiv e (32000 * 3600 * 2 ^ 30 * 10 ^ 503)

/-- The quantities and energies in nWh of a tick (R322); Q1 to Q4 follow the signs of active and reactive energy (PRESUMED, assumption 33). -/
def tickQtys (ch : Nat) (p q : Int) : List (Nat × Nat) :=
  if ch < 256 then [(if 0 ≤ p then 0 else 1, p.natAbs)]
  else
    let quad := if 0 ≤ p then (if 0 ≤ q then 4 else 7) else (if 0 ≤ q then 5 else 6)
    [(if 0 ≤ p then 2 else 3, p.natAbs), (quad, q.natAbs)]

/-! ### Pulse outputs (R327, R328) -/

def pulseChan (r : Rec) : Nat := fld r 0 2
def pulseQty (r : Rec) : Nat := fld r 2 1
def pulseConst (r : Rec) : Nat := fld r 4 4
def pulseWidth (r : Rec) : Nat := fld r 8 2

/-- Energy in nWh of one pulse of a constant of 1 per kWh. -/
def kwhNwh : Nat := 1000000000000

/-- A pulse output takes up a channel's tick energies (R327): pulses beyond a backlog of 65,535 are lost. -/
def MetPulse.feed (p : MetPulse) (ch : Nat) (es : List (Nat × Nat)) (now : Nat) : MetPulse :=
  if pulseChan p.cfg ≠ ch ∨ p.fresh then p
  else
    let e := ((es.find? fun x => x.1 == pulseQty p.cfg).map Prod.snd).getD 0
    let a := p.acc + e * pulseConst p.cfg
    let b := p.backlog + a / kwhNwh
    { p with acc := a % kwhNwh, backlog := min 65535 b, lost := p.lost + (b - 65535), since := if b = 0 then none else some (p.since.getD now) }

/-- One tick of a pulse output: pulses and rests end on tick boundaries; whether a pulse starts. -/
def MetPulse.tick (p : MetPulse) : MetPulse × Bool :=
  let p := { p with fresh := false }
  let p := if 0 < p.high then { p with high := p.high - 1 } else { p with rest := p.rest - 1 }
  if p.high = 0 ∧ p.rest = 0 ∧ 0 < p.backlog then
    ({ p with high := pulseWidth p.cfg, rest := pulseWidth p.cfg, backlog := p.backlog - 1, since := if p.backlog = 1 then none else p.since }, true)
  else (p, false)

/-- The pulses of a legal test output that fall due in a tick (R328): start and width in 10 µs; T runs between due instants. -/
def legPulses (base e : Nat) : Nat → MetLeg → Nat → List (Nat × Nat) → MetLeg × List (Nat × Nat)
  | 0, l, _, acc => (l, acc)
  | k + 1, l, j, acc =>
    let due := base + (j * kwhNwh - l.acc) * 100 / max 1 e
    let w := match l.lastDue with
      | some d => max 100 (min 2000 ((due - d) / 2))
      | none => 2000
    let start := max due l.free
    let w := if due < start then 100 else w
    legPulses base e k { l with lastDue := some due, free := start + 2 * w } (j + 1) (acc ++ [(start, w)])

/-- A legal test output takes up a channel's tick energies (R328). -/
def State.legFeed (s : State) (ch : Nat) (es : List (Nat × Nat)) (out : Nat) : State :=
  let l := s.met.legs.getD out {}
  if l.channel ≠ some ch ∨ l.fresh then s
  else
    let e := ((es.find? fun x => x.1 == l.qty).map Prod.snd).getD 0 * metLegConst (s.chanRec ch)
    let n := (l.acc + e) / kwhNwh
    let base := 100 * s.met.ticks
    let r := legPulses base e n l 1 []
    let waits := decide (base + 100 < r.1.free) && r.2.any fun p => p.2 == 100
    let l' := { r.1 with acc := (l.acc + e) % kwhNwh, since := if waits then some (l.since.getD s.now) else none }
    r.2.foldl (fun (u : State) p => u.emit (.pulse out true p.1 p.2)) { s with met := { s.met with legs := s.met.legs.set out l' } }

/-- The pulse outputs take up a channel's tick energies. -/
def State.pulseFeed (s : State) (ch : Nat) (es : List (Nat × Nat)) : State :=
  let t := { s with met := { s.met with pulses := s.met.pulses.mapV fun _ p => p.feed ch es s.now } }
  (t.legFeed ch es 0).legFeed ch es 1

/-- One tick of PLS2 to PLS7; an output set in the tick takes energy from the next one on (R329, R337). -/
def State.pulseTick (s : State) : State :=
  let t := { s with met := { s.met with legs := s.met.legs.mapV fun _ l => { l with fresh := false } } }
  t.met.pulses.keys.foldl (fun (u : State) k =>
    let p := u.met.pulses.getD k {}
    let r := p.tick
    let u := { u with met := { u.met with pulses := u.met.pulses.set k r.1 } }
    if r.2 then u.emit (.pulse k (fld p.cfg 3 1 == 0) (100 * u.met.ticks) (100 * pulseWidth p.cfg)) else u) t

/-- PULSE_BACKLOG_PERSISTED (R327). -/
def execPulseBacklogPersisted (output : Nat) (s : State) : Host.Outcome State Fault Refusal :=
  let since := if output < 2 then (s.met.legs.getD output {}).since else (s.met.pulses.getD output {}).since
  if lasted since sec s.now then .next (s.raise 0x0A 0x0007 output) else .next s

/-! ### The tick that ends, for one channel -/

/-- The energy of the tick that ends becomes final (R311, R318, R323, R353 step 1). A tick in which a running head channel received no block
is filled while the gap is within GAP_MAX_MS (assumption 141). Energy after a pending boundary is held apart (R355). -/
def State.tickChannel (s : State) (ch : Nat) : State :=
  let r := s.chanRec ch
  let c := s.chan ch
  let miss := metSource r == 1 && !c.got
  let gap := if miss then c.gap + 1 else c.gap
  let fill := miss && c.state == 2 && decide (gap ≤ metGapMax r)
  let x := if fill then c.cur.join (c.last.times 1) else c.cur
  let hist := (x :: c.hist).take 1000
  let below := s.belowStart ch hist
  let apart := s.bil.live.apartAt.isSome
  let live := c.state == 2 && s.bil.registers
  let a := s.nwhOf x.e
  let es := if live && !below then tickQtys ch a.1 x.q else []
  let m := a.2.nwhOf x.est
  let est := if live && !below then m.1.natAbs else 0
  let fl := m.2.tickFlags ch (x.fills != 0)
  let t := m.2.updChan ch fun c => { c with
    gap := gap, filled := if fill then c.filled + 1 else c.filled, hist := hist, below := below, cur := c.nxt, nxt := {}, got := false, overTick := false,
    gapMs := if fill then min (2 ^ 32 - 1) (c.gapMs + 1) else c.gapMs, creep := if live && below then (c.creep + 1) % 2 ^ 32 else c.creep }
  let t := if fill && c.filled == 0 then t.raise 0x0A 0x0003 ch else t
  let t := if s.bil.registers = false then t
    else if apart then t.updReg ch fun g => { g with est := g.est + est, apart := es.foldl (fun b e => b.set e.1 (b.getD e.1 0 + e.2)) g.apart }
    else
      let t := t.updReg ch fun g => { g with
        dMs := g.dMs + 1, dTicks := g.dTicks + 1, dRate := if g.dTicks = 0 then t.rateOf (t.tableOf ch) else g.dRate,
        dFlags := g.dFlags ||| fl, period := g.period.map fun p => { p with flags := p.flags ||| fl } }
      let t := t.updBil fun l => { l with opened := l.opened.mapV fun _ p => if p.channel = ch then { p with flags := p.flags ||| fl } else p }
      if es.isEmpty then t else t.registerEnergy ch es est fl
  t.pulseFeed ch es

/-! ### Channel states (R325) -/

/-- GAP_EXCEEDED (R311, R325). -/
def execGapExceeded (channel : Nat) (s : State) : Host.Outcome State Fault Refusal :=
  if (s.chan channel).state = 2 ∧ metGapMax (s.chanRec channel) < (s.chan channel).gap then .next ((s.chanLost channel).noteFullStore) else .next s

/-- OVERRANGE_PERSISTED (R312, R325). -/
def execOverrangePersisted (channel : Nat) (s : State) : Host.Outcome State Fault Refusal :=
  if (s.chan channel).state = 2 ∧ lasted (s.chan channel).overSince sec s.now = true then .next ((s.chanLost channel).noteFullStore) else .next s

/-- CHANNEL_STARTED (R325). -/
def execChannelStarted (channel : Nat) (s : State) : Host.Outcome State Fault Refusal :=
  if (s.chan channel).state = 1 ∧ 100 ≤ (s.chan channel).run ∧ s.held 6 channel 2 = false ∧ (s.bil.full : Bool) = false ∧ (s.bil.checkOk : Bool) = true then
    .next (s.updChan channel fun c => { c with state := 2, gap := 0 })
  else .next s

/-- CHANNEL_BACK (R325): 1 s of accepted data, 1,000 blocks or ticks, and no fence. -/
def execChannelBack (channel : Nat) (s : State) : Host.Outcome State Fault Refusal :=
  let c := s.chan channel
  if c.state = 3 ∧ 1000 ≤ c.run ∧ s.held 6 channel 2 = false ∧ (s.bil.full : Bool) = false ∧ (s.bil.checkOk : Bool) = true then
    .next (((s.updChan channel fun c => { c with state := 2, gap := 0 }).raise 0x0A 0x0002 channel).legalLog 8 channel (leBytes 8 ((s.now - c.lostAt) / ms)))
  else .next s

/-- HARMONIC_WINDOW_END (R324): the results of IEC 61000-4-7 over the window, for AC channels. -/
def execHarmonicWindowEnd (channel freq : Nat) (blocks : List HarmBlock) (s : State) : Host.Outcome State Fault Refusal :=
  if 256 ≤ channel ∧ (s.met.recs.get? channel).isSome then
    .next (s.updChan channel fun c => { c with harm := some ⟨s.bil.live.legal, freq, blocks⟩ })
  else .next s

/-! ### The seal (R307, R308) -/

/-- The seal opens for some minutes: count, log entry and event. -/
def State.openSeal (s : State) (minutes : Nat) (reason : List Byte) : State :=
  let n := (s.met.sealCount + 1) % 2 ^ 32
  let t := { s with met := { s.met with sealCount := n, sealEnd := some (s.now + minutes * 60 * sec) } }
  (t.legalLog 4 0xFFFF (pack [(4, n), (2, minutes)] ++ reason.take 26)).raise 0x0A 0x0005 n

/-- The seal closes. -/
def State.closeSeal (s : State) : State :=
  let n := (s.met.sealCount + 1) % 2 ^ 32
  let t := { s with met := { s.met with sealCount := n, sealEnd := none } }
  (t.legalLog 5 0xFFFF (leBytes 4 n)).raise 0x0A 0x0006 n

/-- SEAL_EXPIRY (R308). -/
def execSealExpiry (s : State) : Host.Outcome State Fault Refusal := match s.met.sealEnd with
  | some t => if t ≤ s.now then .next s.closeSeal else .next s
  | none => .next s

/-! ### Commands (R333 to R337) -/

/-- Ends a Jasper command without the wait of R62. -/
def State.metOk (s : State) (uid : Nat) (result : List Byte) : State :=
  s.endCmd uid ST_OK result [] (((s.cmd? uid).map fun c => c.desc.data.length).getD 0) 0

/-- A Jasper command asks for its HOLDUP leave, at most 2 s. -/
def State.jasperStore (s : State) (c : InFlight) (w : MetStore) : State :=
  (({ s with met := { s.met with stores := s.met.stores ++ [(c.uid, w)] } }).askHoldup true (.metStore c.uid)).setDeadline c.uid (s.now + 2 * sec)

/-- A reading of a channel is open (R333). -/
def State.readingOpen (s : State) (ch : Nat) : Bool := s.bil.live.opened.any fun e => e.2.channel == ch

/-- The checks of R333 that follow the record's own. -/
def State.sealedStore (s : State) (c : InFlight) (w : MetStore) : State :=
  if s.sealOpen = false then s.fail c.uid ST_LOCKED
  else if s.readingOpen c.desc.object then s.fail c.uid ST_BUSY
  else s.jasperStore c w

/-- The effect of MET_CHAN_CONFIG up to its store (R333). -/
def metChanConfig (c : InFlight) (s : State) : State :=
  let ch := c.desc.object
  match c.record 64 with
  | none => s.fail c.uid ST_BAD_PARAM
  | some r =>
    if 263 < ch ∨ (¬allZero r ∧ ¬s.chanRecOk ch r) then s.fail c.uid ST_BAD_PARAM
    else s.sealedStore c (.chan ch r)

def execMetChanConfig (q tag : Nat) (s : State) : Host.Outcome State Fault Refusal := startCommand 0x0A00 q tag s metChanConfig

/-- The effect of MET_CAL_SET up to its store (R333). -/
def metCalSet (c : InFlight) (s : State) : State :=
  let ch := c.desc.object
  match c.record 176 with
  | none => s.fail c.uid ST_BAD_PARAM
  | some r => if ¬s.calOk ch r then s.fail c.uid ST_BAD_PARAM else s.sealedStore c (.cal ch r)

def execMetCalSet (q tag : Nat) (s : State) : Host.Outcome State Fault Refusal := startCommand 0x0A01 q tag s metCalSet

/-- The effect of MET_SEAL up to its store (R334). -/
def metSeal (c : InFlight) (s : State) : State :=
  let op := c.desc.u 32 1
  let d := c.desc.data
  let count := pack [(4, s.met.sealCount)]
  let top := s.islN PAR_MET_SEAL_MAX_MIN
  if 1 < op then s.fail c.uid ST_BAD_PARAM
  else if op = 0 then
    if c.desc.dataLen ≠ 0 then s.fail c.uid ST_BAD_PARAM
    else if s.sealOpen then s.jasperStore c (.seal none []) else s.metOk c.uid count
  else if s.sys.metOption = 0 then
    if c.desc.dataLen ≠ 0 then s.fail c.uid ST_BAD_PARAM else s.jasperStore c (.seal (some top) [])
  else
    let min' := fld d 26 2
    let slot := fld d 28 2
    if c.desc.dataLen ≠ 128 ∨ d.length ≠ 128 ∨ d.take 4 ≠ [0x53, 0x45, 0x41, 0x4C] ∨ fld d 24 1 ≠ 1 ∨ min' = 0 ∨ top < min' ∨
        ¬(zeros d 25 1 && zeros d 30 2) then s.fail c.uid ST_BAD_PARAM
    else if ¬(s.slotAllows slot 9 M_JASPER && s.slotAllows slot 1 M_JASPER && Config.verifies slot (d.take 64) (d.drop 64)) then s.fail c.uid ST_AUTH_FAIL
    else if (d.drop 4).take 16 ≠ padTo 16 s.sys.identity ∨ fld d 20 4 ≠ s.met.sealCount + 1 then s.fail c.uid ST_DENIED
    else s.jasperStore c (.seal (some min') ((d.drop 32).take 32))

def execMetSeal (q tag : Nat) (s : State) : Host.Outcome State Fault Refusal := startCommand 0x0A02 q tag s metSeal

/-- A mean of a signed sum in 10 mV or 10 mA; the rounding is open. -/
def State.centiMean (s : State) (sum : Int) (n : Nat) : Int × State := s.roundDiv (100 * sum) (max 1 n * 2 ^ 15 * 10 ^ 256)
/-- An RMS in 10 mV or 10 mA; the rounding is open. -/
def State.centiRms (s : State) (sum : Int) (n : Nat) : Int × State := s.roundDiv (isqrt 2300 (sum.natAbs * 10000 / max 1 n) 0 : Nat) (2 ^ 15 * 10 ^ 256)

/-- Values of a list put through an open rounding. -/
def State.mapOpen (s : State) (f : State → Nat → Int × State) : List Nat → List Int × State
  | [] => ([], s)
  | k :: l =>
    let a := f s k
    let b := State.mapOpen a.2 f l
    (a.1 :: b.1, b.2)

/-- A record of MET_READ (R335). -/
def State.metRecord (s : State) (ch : Nat) : List Byte × State :=
  match s.met.recs.get? ch with
  | none => (padTo 64 (pack [(2, ch)]), s)
  | some r =>
    let c := s.chan ch
    let w := c.window (s.islN PAR_MET_READ_AVG_MS)
    let n := min c.hist.length (s.islN PAR_MET_READ_AVG_MS)
    let p := s.roundDiv (1000 * w.e) (max 1 n * 32000 * 2 ^ 30 * 10 ^ 512)
    let q := p.2.roundDiv (36 * w.q) (10000 * max 1 n)
    let sva := q.2.roundDiv (((List.range (kindI (metKind r))).map fun k => isqrt 4400 ((w.v2.getD k 0).natAbs * (w.i2.getD k 0).natAbs) 0).sum : Nat)
      (max 1 w.n * 2 ^ 30 * 10 ^ 512)
    let dc := decide (ch < 256)
    let v := sva.2.mapOpen (fun u k => if dc then u.centiMean (w.v.getD k 0) w.n else u.centiRms (w.v2.getD k 0) w.n) (List.range 3)
    let i := v.2.mapOpen (fun u k => if dc then u.centiMean (w.i.getD k 0) w.n else u.centiRms (w.i2.getD k 0) w.n) (List.range 4)
    let fl := (if s.held 6 ch 2 then 1 else 0) + (if c.overrange then 2 else 0) + (if 0 < c.gap ∧ c.gap ≤ metGapMax r then 4 else 0) + (if c.below then 8 else 0)
    let steps := if metSource r = 2 then ((List.range (j2I r).length).map fun k => s.met.steps.getD ((j2I r).getD k 0) 0 * 4 ^ k).sum else 0
    (pack [(2, ch), (1, c.state), (1, fl), (1, steps), (3, 0)] ++ leInt 4 p.1 ++ leInt 4 q.1 ++ leInt 4 sva.1 ++
      leBytes 4 (if dc then 0 else ((c.harm.map HarmResult.freq).getD 0)) ++ v.1.flatMap (leInt 4) ++ i.1.flatMap (leInt 4) ++
      pack [(4, c.gapMs), (4, c.creep), (4, 0)], i.2)

/-- The effect of MET_READ (R335). -/
def metRead (c : InFlight) (s : State) : State :=
  let first := c.desc.u 32 2
  let n := c.desc.u 34 2
  if n = 0 ∨ 264 < n ∨ c.desc.dataLen < 64 * n ∨ 264 < first + n then s.fail c.uid ST_BAD_PARAM
  else
    let r := (List.range n).foldl (fun (a : List Byte × State) j => let x := a.2.metRecord (first + j); (a.1 ++ x.1, x.2)) ([], s)
    r.2.answer c [] r.1

def execMetRead (q tag : Nat) (s : State) : Host.Outcome State Fault Refusal := startCommand 0x0A03 q tag s metRead

/-- A block of MET_HARM_READ (R336). -/
def harmBlock (b : HarmBlock) : List Byte := pack [(4, b.fund), (2, b.thd)] ++ padTo 124 (b.orders.flatMap (leBytes 2)) ++ List.replicate 6 0

/-- The effect of MET_HARM_READ (R336). -/
def metHarmRead (c : InFlight) (s : State) : State :=
  let ch := c.desc.object
  if ch < 256 ∨ 263 < ch ∨ (s.chan ch).state ≠ 2 then s.fail c.uid ST_BAD_PARAM
  else
    let h := (s.chan ch).harm.getD ⟨0, 0, []⟩
    s.answer c [] (pack [(2, ch), (1, h.blocks.length), (1, 0), (8, h.endMs), (4, h.freq)] ++ h.blocks.flatMap harmBlock)

def execMetHarmRead (q tag : Nat) (s : State) : Host.Outcome State Fault Refusal := startCommand 0x0A04 q tag s metHarmRead

/-- The effect of MET_CAL_READ (R337). -/
def metCalRead (c : InFlight) (s : State) : State :=
  let ch := c.desc.object
  if 263 < ch then s.fail c.uid ST_BAD_PARAM else s.answer c [] (padTo 64 (s.chanRec ch) ++ padTo 176 (s.calRec ch))

def execMetCalRead (q tag : Nat) (s : State) : Host.Outcome State Fault Refusal := startCommand 0x0A05 q tag s metCalRead

/-- The effect of MET_PULSE_SET up to its store (R327, R337). -/
def metPulseSet (c : InFlight) (s : State) : State :=
  let o := c.desc.object
  match c.record 16 with
  | none => s.fail c.uid ST_BAD_PARAM
  | some r =>
    let ch := pulseChan r
    if o < 2 ∨ 7 < o ∨ (263 < ch ∧ ch ≠ 0xFFFF) ∨ 7 < pulseQty r ∨ (ch ≤ 263 ∧ ¬(qtysOf ch).contains (pulseQty r)) ∨ 1 < fld r 3 1 ∨
        pulseConst r = 0 ∨ 1000000 < pulseConst r ∨ pulseWidth r = 0 ∨ 1000 < pulseWidth r ∨ ¬zeros r 10 6 then s.fail c.uid ST_BAD_PARAM
    else s.jasperStore c (.pulse o r)

def execMetPulseSet (q tag : Nat) (s : State) : Host.Outcome State Fault Refusal := startCommand 0x0A06 q tag s metPulseSet

/-- The effect of MET_LEG_SELECT up to its store (R329, R337). -/
def metLegSelect (c : InFlight) (s : State) : State :=
  let o := c.desc.object
  let ch := c.desc.u 32 2
  let qt := c.desc.u 34 1
  if 1 < o ∨ (ch ≠ 0xFFFF ∧ ((s.met.recs.get? ch).isNone ∨ ¬(qtysOf ch).contains qt)) then s.fail c.uid ST_BAD_PARAM
  else s.jasperStore c (.leg o ch qt)

def execMetLegSelect (q tag : Nat) (s : State) : Host.Outcome State Fault Refusal := startCommand 0x0A07 q tag s metLegSelect

/-- A stored channel or calibration record takes effect at a tick, is logged, and its command completes (R306, R325, R333). -/
def State.applyStored (s : State) (w : Nat × MetStore) : State :=
  match w.2 with
  | .chan ch r =>
    let old := padTo 64 (s.chanRec ch)
    let del := allZero r
    let t := { s with met := { s.met with recs := if del then s.met.recs.del ch else s.met.recs.set ch r } }
    let t := t.updChan ch fun _ => { state := if del then 0 else 1 }
    let t := if del then t else (t.updReg ch fun g => { g with dFired := max g.dFired (t.demandBoundary ch t.bil.live.legal) }) |> fun u =>
      if (u.reg ch).period.isNone then u.newPeriod ch else u
    let t := if del then t.chanSession ch else t
    (t.legalLog 6 ch (pack [(1, 1), (4, crc32 old), (4, crc32 r)])).metOk w.1 []
  | .cal ch r =>
    let n := (s.met.calSeq + 1) % 2 ^ 32
    let old := s.calRec ch
    let r := putFld r 4 4 n
    let t := { s with met := { s.met with cals := s.met.cals.set ch r, calSeq := n } }
    ((t.legalLog 6 ch (pack [(1, 2), (4, crc32 old), (4, crc32 r)])).raise 0x0A 0x0008 ch).metOk w.1 (pack [(4, n)])
  | _ => s

end Sys2Proof.Machine
end

