-- ==== Sys2Proof/Machine/Billing.lean ====
section
/-!
DEFINITION. Legal registers, tariffs and readings (chapter 12): the legal tick, accounts, session readings, the journal and power-fail
commit, Jasper's start, and the billing commands.
-/
namespace Sys2Proof.Machine

/-! ### Accounts (R356 to R358) -/

def accKind (r : Rec) : Nat := fld r 2 1
def accState (r : Rec) : Nat := fld r 3 1
def accTable (r : Rec) : Nat := fld r 4 1
def accFriendly (r : Rec) : Bool := bit (fld r 5 1) 0
def accEmergency (r : Rec) : Nat := fld r 16 4
def accLow (r : Rec) : Nat := fld r 20 4

/-- The record of an account, empty where it is unused. -/
def State.account (s : State) (k : Nat) : Rec := s.bil.accounts.getD k []
/-- BALANCE. -/
def State.balance (s : State) (k : Nat) : Int := s.bil.live.balance.getD k 0

/-- A deduction from an account; BIL_LOW_CREDIT where BALANCE falls below LOW. -/
def State.deduct (s : State) (k : Nat) (n : Int) : State :=
  let b := s.balance k
  let t := s.updBil fun l => { l with balance := l.balance.set k (b - n) }
  let low : Int := accLow (s.account k)
  if low ≤ b ∧ b - n < low then t.raise 0x0B 0x0004 k else t

/-- A prepaid account is exhausted and unprotected (R358). -/
def State.exhausted (s : State) (k : Nat) : Bool :=
  let r := s.account k
  accKind r == 2 && decide (s.balance k + accEmergency r ≤ 0) &&
    !(accFriendly r && friendlyAt (s.table (accTable r)).active (s.localMs s.bil.live.legal))

/-- What an open session's account is charged once per second, and what follows when its credit ends (R376). -/
def State.deductOpened (u : State) (e : Nat × RdAcc) : State := match e.2.account with
  | none => u
  | some k =>
    let total := e.2.fee + (e.2.cost.map Prod.snd).sum / 1000000
    let u := (u.deduct k ((total : Int) - e.2.deducted)).updBil fun l => { l with opened := l.opened.upd e.1 fun a => { a with deducted := total } }
    if u.exhausted k ∧ u.isActive then
      match u.ses.ctxs.get? e.1 with
      | some c => if c.outlet = e.2.channel then u.endSession e.1 16 false else u
      | none => u
    else u

/-- CREDIT_DEDUCTION (R358). -/
def execCreditDeduction (s : State) : Host.Outcome State Fault Refusal :=
  if s.met.ready = false then .next s else .next (s.bil.live.opened.foldl State.deductOpened s)

/-! ### Session readings (R359) -/

/-- A hexadecimal digit in ASCII. -/
def hexDigit (n : Nat) : Byte := BitVec.ofNat 8 (if n < 10 then 48 + n else 55 + n)
/-- The EVCCID in hexadecimal. -/
def hexMac (m : Nat) : List Byte := (List.range 12).map fun k => hexDigit (m / 16 ^ (11 - k) % 16)

/-- A session's reading opens at the first tick after the session enters PRECHARGE; the fee is deducted (R358, R359). -/
def State.openReading (s : State) (n : Nat) (c : Ctx) : State :=
  let tab := accTable (s.account c.account)
  let ver := (s.table tab).active
  let a : RdAcc := { channel := c.outlet, start := s.bil.live.legal, regs := s.regNow c.outlet, account := some c.account, table := some tab,
                     version := fld ver 16 4, fee := fld ver 24 4, deducted := fld ver 24 4,
                     ident := padTo 24 (if c.idKind = 1 then c.ident else hexMac (c.mac.getD 0)) }
  let t := s.updBil fun l => { l with opened := l.opened.set n a }
  let t := t.deduct c.account (fld ver 24 4 : Nat)
  if s.isActive then t.updCtx n fun c => { c with reading := 2 } else t

/-- Every output stage of an outlet is IDLE or LOCKED. -/
def State.outletOff (s : State) (o : Nat) : Bool := (s.outletStages o).all fun k => (s.stage k).state == 0 || (s.stage k).state == 6

/-- A session's reading closes once its stages are off: the active module deducts the rest, signs, stores and logs it (R358 to R360). With
no free place or no key the reading stays open (DEDUCED, assumption 31). -/
def State.closeReading (s : State) (n : Nat) (a : RdAcc) (c : Ctx) : State :=
  if s.isActive ∧ s.canSign = true ∧ 0 < s.logFree ∧ 0 < s.slotsFree then
    let a := if c.takenOver then { a with flags := a.flags ||| RF_TAKEOVER } else a
    let t := match a.account with
      | some k => s.deduct k ((a.costOf : Int) - a.deducted)
      | none => s
    let t := t.updBil fun l => { l with opened := l.opened.del n }
    (t.issueReading 1 a t.bil.live.legal []).updCtx n fun c => { c with reading := 3 }
  else s

/-- Step 6 of R353 for the session readings: closes, discards of the copies of freed contexts, opens, and ENERGY_MAX_WH (R298, R359). -/
def State.sessionReadings (s : State) : State :=
  let t := s.bil.live.opened.foldl (fun (u : State) e =>
    match u.ses.ctxs.get? e.1 with
    | none => u.updBil fun l => { l with opened := l.opened.del e.1 }
    | some c =>
      if 8 ≤ c.state ∧ u.outletOff c.outlet = true then u.closeReading e.1 e.2 c
      else if c.state = 7 ∧ c.energyMax ≠ 0 ∧ c.energyMax * 1000 ≤ (e.2.rates.map Prod.snd).sum ∧ u.isActive then u.endSession e.1 17 false
      else u) s
  s.ses.ctxs.foldl (fun (u : State) e =>
    if 6 ≤ e.2.state ∧ (e.2.reading = 1 ∨ (e.2.reading = 2 ∧ ¬u.isActive)) ∧ (u.bil.live.opened.get? e.1).isNone then u.openReading e.1 e.2 else u) t

/-! ### Clock adjustments (R343) -/

/-- An adjustment of the legal clock to `t`: logged, written to the RTC, and CLOCK_INVALID ends (R342, R343). -/
def State.adjustClock (s : State) (t : Nat) : State × Int × Bool :=
  let old := s.bil.live.legal
  let d : Int := (t : Int) - old
  let split := decide ((1000 * s.islN PAR_BIL_ADJ_LIMIT_S : Nat) < d.natAbs)
  let u := if split then
      let v := s.met.recs.keys.foldl (fun (v : State) ch =>
        (v.closeDemand ch 0 RF_SPLIT).updReg ch fun g => { g with period := g.period.map fun p => { p with flags := p.flags ||| RF_SPLIT } }) s
      v.updBil fun l => { l with opened := l.opened.mapV fun _ a => { a with flags := a.flags ||| RF_SPLIT } }
    else s
  let u := u.updBil fun l => { l with legal := t, invalid := false }
  let u := { u with bil := { u.bil with rtc := some (t, s.now) } }
  let u := (u.legalLog 2 0xFFFF (pack [(8, old), (8, t), (1, if split then 1 else 0)])).raise 0x0B 0x0003 (d % 2 ^ 32).toNat
  (u, d, split)

/-- The BIL_CLOCK_SET commands that wait for this tick. -/
def State.clockRequests (s : State) : State :=
  s.bil.clockSets.foldl (fun (u : State) w =>
    let r := u.adjustClock w.2
    let v := if u.sys.pfw then r.1 else r.1.fireAll
    match v.cmd? w.1 with
    | some c => v.okMirrored c (leInt 8 r.2.1 ++ [if r.2.2 then 1 else 0]) 31 (2 * ms)
    | none => v) { s with bil := { s.bil with clockSets := [] } }

/-! ### The journal and the commits (R369, R370) -/

/-- The journal takes up Jasper's state. -/
def State.journalNow (s : State) (commit : Nat) : State :=
  { s with bil := { s.bil with journal := some ⟨((s.bil.journal.map Journal.seq).getD 0) + 1, commit, s.bil.live⟩ } }

/-- JOURNAL_WRITE (R369). -/
def execJournalWrite (s : State) : Host.Outcome State Fault Refusal := if s.met.ready ∧ s.bil.registers then .next (s.journalNow 0) else .next s

/-- A commit: log entry 12 and a journal entry marked as a commit. -/
def State.powerCommit (s : State) (kind w : Nat) : State := (s.legalLog 12 0xFFFF (leBytes 8 w)).journalNow kind

/-- The final commit: Jasper stops registering. -/
def State.finalCommit (s : State) (w : Nat) : State :=
  let t := s.powerCommit 2 w
  { t with bil := { t.bil with registers := false } }

/-- FINAL_COMMIT (R370). -/
def execFinalCommit (s : State) : Host.Outcome State Fault Refusal := match s.bil.warnTick with
  | some w => if w + 30 ≤ s.bil.live.legal ∧ s.bil.registers then .next (s.finalCommit w) else .next s
  | none => .next s

/-! ### The legal tick (R353) -/

/-- Step 1: the energy of the tick that ends is final. -/
def State.tickEnergy (s : State) (j2 : List J2Sample) : State :=
  let r := j2.foldl (fun (a : List (J2Sample × List (Int × Nat)) × State) x => let c := a.2.j2Currents x; (a.1 ++ [(x, c.1)], c.2)) ([], s)
  let t := s.met.recs.foldl (fun (u : State) e => if metSource e.2 = 2 then u.j2Channel e.1 r.1 else u) r.2
  (s.met.recs.keys.foldl State.tickChannel t).pulseTick

/-- LEGAL_TICK (R353): in fixed order the energy of the tick that ends, demand, billing periods, table activations and rate switches,
offset changes, requests, and the power-fail commit. From the power-fail warning on no boundary is processed (R355). -/
def execLegalTick (j2 : List J2Sample) (s : State) : Host.Outcome State Fault Refusal :=
  if (s.met.ready && s.met.clock) = false then .next s
  else
    let t := s.tickEnergy j2
    let w := t.bil.live.legal
    let t := { t with met := { t.met with ticks := t.met.ticks + 1 } }
    let t := t.updBil fun l => { l with legal := l.legal + 1 }
    let t := if t.sys.pfw then
        (if t.bil.live.apartAt = none ∧ t.boundaryDue = true then t.updBil fun l => { l with apartAt := some l.legal } else t)
      else t.fireAll
    let t := t.met.apply.foldl State.applyStored { t with met := { t.met with apply := [] } }
    let t := t.sessionReadings.clockRequests
    let t := if t.sys.pfw ∧ t.bil.warnTick = none then ({ t with bil := { t.bil with warnTick := some w } }).powerCommit 1 w else t
    .next t.noteFullStore

/-! ### Other ticks -/

/-- RTC_WRITE (R342). -/
def execRtcWrite (s : State) : Host.Outcome State Fault Refusal :=
  if s.met.ready then .next { s with bil := { s.bil with rtc := some (s.bil.live.legal, s.now) } } else .next s

/-- STORE_COPY (R368): readings and log entries wait for HOLDUP leave to be copied. -/
def execStoreCopy (s : State) : Host.Outcome State Fault Refusal :=
  if s.met.ready ∧ s.bil.live.copied < s.bil.live.logHead ∧ s.awaits .storeCopy = false ∧ s.hasGrant .storeCopy = false then .next (s.askHoldup true .storeCopy)
  else .next s

/-- The copy has ended. -/
def storeCopyDone (s : State) : State := s.updBil fun l => { l with copied := l.logHead }

/-- CHECK_VALUE_RECOMPUTE (R362): a value that differs stops registration. -/
def execCheckValueRecompute (value : Nat) (s : State) : Host.Outcome State Fault Refusal :=
  if s.met.ready = false ∨ value % 2 ^ 32 = s.bil.check then .next s
  else
    let t := ({ s with bil := { s.bil with registers := false, checkOk := false } }).legalLog 14 0xFFFF (pack [(4, s.bil.check), (4, value)])
    .next (t.allLost.report SRC_MET_CHECK 0)

/-- The display frame of an outlet whose node holds a display key (R363). -/
def State.displayOf (u : State) (e : Nat × Rec) : State :=
  let nd := outNode e.2
  match u.obs.enrolled.get? nd with
  | none => u
  | some k =>
    if u.slotAllows k.slot 4 M_JASPER = false then u
    else
      let a := u.bil.live.opened.find? fun x => x.2.channel == e.1
      let wh := (a.map fun x => (x.2.rates.map Prod.snd).sum / 1000).getD 0
      let fl := (a.map fun x => u.rflagsOf x.2).getD (u.tickFlags e.1 false)
      let reg := (u.reg e.1).total.getD 0 0
      let f := pack [(2, e.1), (4, u.bil.check), (8, wh), (8, dispWh reg), (4, rollCount reg), (2, fl.toNat)]
      u.emit (.display e.1 f ((Config.cmac k.slot nd f).take 8))

/-- DISPLAY_FRAME (R363): the order of the fields is the model's (DESIGN CHOICE, assumption 34). -/
def execDisplayFrame (s : State) : Host.Outcome State Fault Refusal :=
  if s.met.ready = false then .next s else .next (s.ses.recs.foldl State.displayOf s)

/-! ### Jasper's start and the MET clock (R342, R362, R371, R574) -/

/-- LOSS_BOUND_WH and TAIL_BOUND_WH of a channel (R371). -/
def State.lossBound (s : State) (ch : Nat) : Nat := ceilDiv (metPMax (s.chanRec ch) * 10) 36
def State.tailBound (s : State) (ch : Nat) : Nat :=
  ceilDiv (metPMax (s.chanRec ch) * (2000 * s.pn PAR_PAIR_LEASE_MS + 2 * s.pn PAR_RING_HOLD_US + 1000 * s.pn PAR_RING_RAMP_MS)) 7200000

/-- Jasper starts (R325, R362, R371): the check value, the journal, the legal clock from the RTC, the readings that were open, the boundaries of
the outage, and every configured channel STARTING. An entry that is the first commit resumes as the final one does (DEDUCED, assumption 152). `rtc` is the RTC's time, none when it lost its supply. -/
def State.jasperStart (s : State) (check : Nat) (rtc : Option Nat) : State :=
  let live := (s.bil.journal.map Journal.live).getD {}
  let kind := s.bil.journal.map Journal.commit
  let ok := match rtc with
    | some t => decide (live.legal ≤ t)
    | none => false
  let t1 := if ok then rtc.getD 0 else live.legal
  let fl := match kind with
    | some 0 => RF_OUTAGE ||| RF_RECOVERED
    | some _ => RF_OUTAGE
    | none => 0
  let rec' := decide (kind = some 0)
  let old := s.bil.check
  let u := { s with
    met := { s.met with ready := true, clock := true, ticks := 0, stores := [], apply := [], steps := [], calm := [], legs := [],
                        pulses := s.met.pulses.mapV fun _ p => { cfg := p.cfg },
                        chans := s.met.recs.mapV fun _ _ => { state := 1 } }
    bil := { s.bil with live := { live with invalid := live.invalid || !ok }, check := check % 2 ^ 32, checkOk := true, warnTick := none,
                        registers := true, recovered := rec', full := false, clockSets := [], stopped := none } }
  let u := if old ≠ 0 ∧ old ≠ check % 2 ^ 32 then u.legalLog 14 0xFFFF (pack [(4, old), (4, check)]) else u
  let u := if u.sealOpen then u.closeSeal else u
  match kind with
  | none => (u.legalLogAt t1 2 0xFFFF (pack [(8, live.legal), (8, t1), (1, 0)])).updBil fun l => { l with legal := t1 }
  | some _ =>
    let u := u.legalLogAt t1 13 0xFFFF (pack [(8, t1 - live.legal), (1, if rec' then 1 else 0)])
    let u := u.legalLogAt t1 2 0xFFFF (pack [(8, live.legal), (8, t1), (1, 0)])
    let u := u.updBil fun l => { l with
      chans := l.chans.mapV fun _ g => { g with dFlags := g.dFlags ||| fl, period := g.period.map fun p => { p with flags := p.flags ||| fl } } }
    let u := u.resumeLegal t1 fl
    let u := live.opened.foldl (fun (v : State) e =>
      let a := { e.2 with flags := e.2.flags ||| fl, tailBound := v.tailBound e.2.channel, lossBound := if rec' then v.lossBound e.2.channel else 0 }
      let v := match a.account with
        | some k => v.deduct k ((a.costOf : Int) - a.deducted)
        | none => v
      if v.canSign then (v.issueReading 1 a live.legal []).updBil fun l => { l with opened := l.opened.del e.1 } else v) u
    if rec' then u.raise 0x0B 0x0006 0 else u

/-- The MET clock stops: the legal clock does not tick (R574). -/
def State.metStop (s : State) : State :=
  { s with met := { s.met with clock := false }, bil := { s.bil with stopped := some (s.bil.live.legal, s.now) } }

/-- The time in which the MET clock stood, to a running channel (R311, R574): a gap, which the next block of a head fills by its number; that of a J2 channel is
filled at once with its last tick while it is within GAP_MAX_MS. -/
def clockGap (r : Rec) (elapsedMs : Nat) (c : MetChan) : MetChan :=
  if c.state ≠ 2 then c
  else if metSource r = 2 ∧ c.gap + elapsedMs ≤ metGapMax r then
    { c with cur := c.cur.join ((c.hist.headD {}).times elapsedMs), gapMs := min (2 ^ 32 - 1) (c.gapMs + elapsedMs) }
  else { c with gap := c.gap + elapsedMs }

/-- The MET clock runs again: a gap under R311, and the legal clock advances by the time that the RTC measured (R341, R574). -/
def State.metResume (s : State) (elapsedMs : Nat) : State :=
  let old := s.bil.live.legal
  let t := { s with met := { s.met with clock := true, chans := s.met.chans.mapV fun ch c => clockGap (s.chanRec ch) elapsedMs c },
                    bil := { s.bil with stopped := none } }
  let t := t.legalLogAt (old + elapsedMs) 2 0xFFFF (pack [(8, old), (8, old + elapsedMs), (1, 0)])
  t.resumeLegal (old + elapsedMs) 0

/-! ### Commands (R373, R374) -/

/-- A tariff version is valid (R348, R349). -/
def tariffOk (k : Nat) (r : Rec) : Bool :=
  let n := fld r 1 1
  let sw := (List.range n).map (switchOf r)
  fld r 0 1 == k && decide (k < 16 ∧ 1 ≤ n ∧ n ≤ 32) && [5, 10, 15, 30, 60].contains (fld r 5 1) && decide (fld r 6 1 < 128) && zeros r 7 1 && zeros r 28 4 &&
    zeros r 192 64 && decide (fld r 8 8 % 60000 = 0) && decide (fld r 20 2 < dayMin) && decide (fld r 22 2 < dayMin) &&
    (sw.all fun w => decide (w.1 < dayMin ∧ w.2.1 < 128 ∧ w.2.2 < 8)) && (sw.any fun w => w.2.1 != 0) &&
    (List.range 7).all fun d => noDup ((sw.filter fun w => bit w.2.1 d).map Prod.fst)

/-- The effect of BIL_TARIFF_SET up to its store. -/
def bilTariffSet (c : InFlight) (s : State) : State :=
  let k := c.desc.object
  match c.record 256 with
  | none => s.fail c.uid ST_BAD_PARAM
  | some r => if ¬tariffOk k r ∨ fld r 16 4 ≤ (s.table k).newest then s.fail c.uid ST_BAD_PARAM else s.jasperStore c (.tariff k r)

def execBilTariffSet (q tag : Nat) (s : State) : Host.Outcome State Fault Refusal := startCommand 0x0B00 q tag s bilTariffSet

/-- The effect of BIL_TARIFF_ASSIGN up to its store. -/
def bilTariffAssign (c : InFlight) (s : State) : State :=
  match c.record 264 with
  | none => s.fail c.uid ST_BAD_PARAM
  | some r => if c.desc.object ≠ 0 ∨ (r.any fun b => decide (16 ≤ b.toNat ∧ b.toNat < 255)) then s.fail c.uid ST_BAD_PARAM else s.jasperStore c (.assign r)

def execBilTariffAssign (q tag : Nat) (s : State) : Host.Outcome State Fault Refusal := startCommand 0x0B01 q tag s bilTariffAssign

/-- A session uses an account. -/
def State.accountInUse (s : State) (k : Nat) : Bool := s.ses.ctxs.any fun e => e.2.auth == 2 && e.2.account == k

/-- The effect of BIL_ACCOUNT_SET up to its store. -/
def bilAccountSet (c : InFlight) (s : State) : State :=
  let k := c.desc.object
  match c.record 32 with
  | none => s.fail c.uid ST_BAD_PARAM
  | some r =>
    if 4095 < k ∨ fld r 0 2 ≠ k ∨ 2 < accKind r ∨ 1 < accState r ∨ 15 < accTable r ∨ 1 < fld r 5 1 ∨ ¬(zeros r 6 2 && zeros r 28 4) then s.fail c.uid ST_BAD_PARAM
    else if s.accountInUse k ∧ (accKind r = 0 ∨ accKind r ≠ accKind (s.account k)) then s.fail c.uid ST_BUSY
    else s.jasperStore c (.account k r)

def execBilAccountSet (q tag : Nat) (s : State) : Host.Outcome State Fault Refusal := startCommand 0x0B02 q tag s bilAccountSet

/-- The effect of BIL_ACCOUNT_CREDIT. -/
def bilAccountCredit (c : InFlight) (s : State) : State :=
  let k := c.desc.object
  let txn := c.desc.u 32 4
  let last := s.bil.live.txn.getD k 0
  if (s.bil.accounts.get? k).isNone ∨ txn < last ∨ c.desc.u 36 4 ≠ 0 then s.fail c.uid ST_BAD_PARAM
  else if txn = last then s.okMirrored c (leInt 8 (s.balance k) ++ [1]) 31 (2 * ms)
  else
    let b := s.balance k + c.desc.i 40 8
    let t := s.updBil fun l => { l with balance := l.balance.set k b, txn := l.txn.set k txn }
    (t.legalLog 11 k (leBytes 4 txn ++ leInt 8 (c.desc.i 40 8) ++ leInt 8 b)).okMirrored c (leInt 8 b ++ [0]) 31 (2 * ms)

def execBilAccountCredit (q tag : Nat) (s : State) : Host.Outcome State Fault Refusal := startCommand 0x0B03 q tag s bilAccountCredit

/-- An account record as it is read (R356). -/
def State.accountRecord (s : State) (k : Nat) : List Byte := match s.bil.accounts.get? k with
  | none => padTo 32 (leBytes 2 k)
  | some r => (padTo 8 r) ++ leInt 8 (s.balance k) ++ (padTo 24 r).drop 16 ++ pack [(4, s.bil.live.txn.getD k 0), (4, 0)]

/-- The effect of BIL_ACCOUNT_READ. -/
def bilAccountRead (c : InFlight) (s : State) : State :=
  let first := c.desc.u 32 2
  let n := c.desc.u 34 2
  if c.desc.object ≠ 0 ∨ n = 0 ∨ 4096 < n ∨ c.desc.dataLen < 32 * n ∨ 4096 < first + n then s.fail c.uid ST_BAD_PARAM
  else s.answer c [] ((List.range n).flatMap fun j => s.accountRecord (first + j))

def execBilAccountRead (q tag : Nat) (s : State) : Host.Outcome State Fault Refusal := startCommand 0x0B04 q tag s bilAccountRead

/-- The effect of BIL_CLOCK_SET: it takes effect at the next tick (R343). -/
def bilClockSet (c : InFlight) (s : State) : State :=
  if c.desc.object ≠ 0 then s.fail c.uid ST_BAD_PARAM
  else { s with bil := { s.bil with clockSets := s.bil.clockSets ++ [(c.uid, c.desc.u 40 8)] } }

def execBilClockSet (q tag : Nat) (s : State) : Host.Outcome State Fault Refusal := startCommand 0x0B05 q tag s bilClockSet

/-- The effect of BIL_READING_GET. -/
def bilReadingGet (c : InFlight) (s : State) : State :=
  let first := c.desc.u 32 4
  let n := c.desc.u 36 2
  if c.desc.object ≠ 0 ∨ n = 0 ∨ 64 < n ∨ c.desc.dataLen < 432 * n then s.fail c.uid ST_BAD_PARAM
  else s.answer c [] ((List.range n).flatMap fun j => padTo 432 (s.bil.live.readings.getD (first + j) []))

def execBilReadingGet (q tag : Nat) (s : State) : Host.Outcome State Fault Refusal := startCommand 0x0B06 q tag s bilReadingGet

/-- The effect of BIL_REGISTER_SNAP: RATE_MWH gives the rate registers (DEDUCED, assumption 35); without the key Jasper signs no reading (R465, R479). -/
def bilRegisterSnap (c : InFlight) (s : State) : State :=
  let ch := c.desc.object
  if (s.met.recs.get? ch).isNone ∨ c.desc.dataLen < 432 then s.fail c.uid ST_BAD_PARAM
  else if s.canSign = false then s.fail c.uid ST_DENIED
  else
    let g := s.reg ch
    let a : RdAcc := { channel := ch, start := s.bil.live.legal, regs := g.total, table := s.tableOf ch, flags := s.tickFlags ch false, est := g.est,
                       rates := (List.range 8).map fun r => (r, g.rates.getD (8 * mainQty ch + r) 0) }
    let b := s.signReading (s.readingBody 2 a s.bil.live.legal 0 0 [] g.total)
    b.2.answer c [] b.1

def execBilRegisterSnap (q tag : Nat) (s : State) : Host.Outcome State Fault Refusal := startCommand 0x0B07 q tag s bilRegisterSnap

/-- The effect of BIL_LOG_READ. -/
def bilLogRead (c : InFlight) (s : State) : State :=
  let first := c.desc.u 32 4
  let n := c.desc.u 36 2
  if c.desc.object ≠ 0 ∨ n = 0 ∨ 1024 < n ∨ c.desc.dataLen < 64 * n then s.fail c.uid ST_BAD_PARAM
  else s.answer c [] ((List.range n).flatMap fun j => padTo 64 (s.bil.live.log.getD (first + j) []))

def execBilLogRead (q tag : Nat) (s : State) : Host.Outcome State Fault Refusal := startCommand 0x0B08 q tag s bilLogRead

/-- The reading of a log entry of type 1. -/
def readingOf (b : List Byte) : Option Nat := if fld b 4 2 = 1 then some (fld b 16 4) else none

/-- Legal log entries up to `n` are acknowledged (R366, R367): they go with the readings they list, and what waited takes the freed places. -/
def State.ackLog (s : State) (n : Nat) : State :=
  let gone := s.bil.live.log.keep fun k _ => decide (k ≤ n)
  let t := s.updBil fun l => { l with
    log := l.log.keep fun k _ => decide (n < k), notTrade := l.notTrade.keep fun k _ => decide (n < k), acked := max l.acked n,
    readings := l.readings.keep fun k _ => !(gone.any fun e => readingOf e.2 == some k) }
  let t := (State.logDrain t.bil.live.waiting t).storeNote
  if 0 < t.logFree ∧ 0 < t.slotsFree then { t with bil := { t.bil with full := false } } else t

/-- The effect of BIL_LOG_ACK (R366, R367): entries and their reading slots become free, and a full store resumes. -/
def bilLogAck (c : InFlight) (s : State) : State :=
  let n := c.desc.u 32 4
  if c.desc.object ≠ 0 ∨ s.bil.live.logHead < n then s.fail c.uid ST_BAD_PARAM
  else
    let t := s.ackLog n
    t.answer c (leBytes 4 t.logFree) []

def execBilLogAck (q tag : Nat) (s : State) : Host.Outcome State Fault Refusal := startCommand 0x0B09 q tag s bilLogAck

/-- The effect of BIL_STATUS. -/
def bilStatus (c : InFlight) (s : State) : State :=
  if c.desc.object ≠ 0 then s.fail c.uid ST_BAD_PARAM
  else s.answer c (pack [(4, s.bil.check), (2, s.logFree), (2, s.slotsFree), (8, s.bil.live.legal)]) []

def execBilStatus (q tag : Nat) (s : State) : Host.Outcome State Fault Refusal := startCommand 0x0B0A q tag s bilStatus

/-! ### Stores that have ended -/

/-- The next whole minute of the legal clock. -/
def State.nextMinute (s : State) : Nat := (s.bil.live.legal / 60000 + 1) * 60000

/-- A Jasper store has ended (R306, R332, R373): sealed records wait for the next tick, the others take effect. -/
def metStoreDone (uid : Nat) (s : State) : State :=
  match s.met.stores.find? fun w => w.1 == uid with
  | none => s
  | some (_, w) =>
    let s := { s with met := { s.met with stores := s.met.stores.filter fun w => w.1 != uid } }
    let mirrored (t : State) : State := match t.cmd? uid with
      | some c => t.okMirrored c [] 31 (2 * ms)
      | none => t
    match w with
    | .chan .. => { s with met := { s.met with apply := s.met.apply ++ [(uid, w)] } }
    | .cal .. => { s with met := { s.met with apply := s.met.apply ++ [(uid, w)] } }
    | .seal m reason =>
      let t := match m with
        | some n => s.openSeal n reason
        | none => if s.sealOpen then s.closeSeal else s
      t.metOk uid (leBytes 4 t.met.sealCount)
    | .pulse o r => ({ s with met := { s.met with pulses := s.met.pulses.set o { cfg := r, fresh := true } } }).metOk uid []
    | .leg o ch q =>
      let l : MetLeg := { channel := if ch = 0xFFFF then none else some ch, qty := q, fresh := true }
      (({ s with met := { s.met with legs := s.met.legs.set o l } }).legalLog 9 ch (pack [(1, o), (2, ch), (1, q)])).metOk uid []
    | .tariff k r =>
      let x := s.table k
      let a := fld r 8 8
      let x := { x with pend := r, pendAt := if a ≤ s.bil.live.legal then s.nextMinute else a, newest := max x.newest (fld r 16 4) }
      mirrored { s with bil := { s.bil with tables := s.bil.tables.set k x } }
    | .assign r => mirrored { s with bil := { s.bil with assignPend := some (s.nextMinute, r) } }
    | .account k r =>
      let new' := (s.bil.accounts.get? k).isNone
      let t := { s with bil := { s.bil with accounts := if accKind r = 0 then s.bil.accounts.del k else s.bil.accounts.set k r } }
      mirrored (if new' then t.updBil fun l => { l with balance := l.balance.del k, txn := l.txn.del k } else t)

end Sys2Proof.Machine
end

