-- ==== Sys2Proof/Machine/Gauge.lean ====
section
/-!
DEFINITION. The buffer battery gauge (chapter 13): counting, anchors and learning, the journal, hibernation, the available charge,
and the gauge commands.
-/
namespace Sys2Proof.Machine

/-! ### String records (R382) -/

def strSource (r : Rec) : Nat := fld r 1 1
def strShunt (r : Rec) : Nat := fld r 2 1
def strCanId (r : Rec) : Nat := fld r 4 4
def strCabinet (r : Rec) : Nat := fld r 8 2
def strShuntR (r : Rec) : Nat := fld r 10 2
def strVNom (r : Rec) : Nat := fld r 12 2
def strCapAh (r : Rec) : Nat := fld r 14 2
def strFullMv (r : Rec) : Nat := fld r 16 2
def strEmptyMv (r : Rec) : Nat := fld r 18 2
def strTaperA (r : Rec) : Nat := fld r 20 2
def strEmptyA (r : Rec) : Nat := fld r 22 2
def strWakeDa (r : Rec) : Nat := fld r 24 2
def strSelfMa (r : Rec) : Nat := fld r 26 2

/-- mA s in an Ah. -/
def mAsPerAh : Nat := 3600000

/-- A string. -/
def State.gstr (s : State) (k : Nat) : Option GStr := s.gau.strings.get? k
/-- Changes a configured string. -/
def State.updStr (s : State) (k : Nat) (f : GStr → GStr) : State := { s with gau := { s.gau with strings := s.gau.strings.upd k f } }

/-- The domain counts and measures: powered and awake. -/
def State.gauAwake (s : State) : Bool := s.gau.on && !s.gau.hibernating

/-! ### Counting (R383) -/

/-- One count of dq in mA s, discharge positive. -/
def GStr.count (x : GStr) (dq : Int) : GStr :=
  if 0 < dq then
    let dq := dq.toNat
    let take := min dq x.q
    { x with q := x.q - take, d := x.d + (dq - take) }
  else
    let c := (-dq).toNat
    let back := min c x.d
    { x with d := x.d - back, q := min x.qL (x.q + (c - back)) }

/-- The deficit flag after a count: set when Q reaches 0, cleared when Q is above it again. -/
def GStr.noteDeficit (was x : GStr) : GStr := { x with deficit := if x.q = 0 then x.deficit || decide (0 < was.q) else false }

/-- Whether the full and the empty condition hold (R384). -/
def GStr.isFull (x : GStr) : Bool :=
  x.frameAt.isSome && decide (strFullMv x.cfg ≤ x.cellMax) && decide (x.iMa < 0 ∧ -x.iMa ≤ strTaperA x.cfg * 1000) && !x.noVoltage
def GStr.isEmpty (x : GStr) : Bool :=
  x.frameAt.isSome && decide (x.cellMin ≤ strEmptyMv x.cfg) && decide (0 < x.iMa ∧ x.iMa ≤ strEmptyA x.cfg * 1000) && !x.noVoltage

/-- Keeps the times since which the anchor conditions hold. -/
def GStr.conditions (x : GStr) (now : Nat) : GStr :=
  let f := if x.isFull then some (x.fullSince.getD now) else none
  let e := if x.isEmpty then some (x.emptySince.getD now) else none
  { x with fullSince := f, emptySince := e, anchored := if f.isNone ∧ e.isNone then false else x.anchored }

/-- Counts a current over a time and keeps the conditions; GAU_DEFICIT when Q reaches 0 (R383). The rounding of dq to mA s is open. -/
def State.countStr (s : State) (k : Nat) (iMa : Int) (dtNs : Nat) : State := match s.gstr k with
  | none => s
  | some x =>
    let r := s.roundDiv (iMa * dtNs) sec
    let y := GStr.noteDeficit x (x.count r.1)
    let t := r.2.updStr k fun _ => y
    if y.deficit ∧ x.deficit = false then t.raise 0x0C 0x0005 k else t

/-- The current of a direct shunt in mA: the voltage in nV over SHUNT_R in 0.1 micro-ohm; its rounding is open. -/
def State.shuntMa (s : State) (r : Rec) (nv : Int) : Int × State := s.roundDiv (10 * nv) (max 1 (strShuntR r))

/-- The string of a direct shunt input. -/
def State.strOfShunt (s : State) (input : Nat) : Option (Nat × GStr) :=
  s.gau.strings.find? fun e => strSource e.2.cfg == 1 && strShunt e.2.cfg == input

/-- A current at or above a string's wake threshold. -/
def wakes (r : Rec) (iMa : Int) : Bool := decide ((strWakeDa r : Int) * 100 ≤ iMa ∨ iMa ≤ -((strWakeDa r : Int) * 100))

/-- A sample of a direct string's shunt (R380 to R384): its current is counted over 1 ms, and the conditions of its anchors are judged. -/
def State.shuntIn (s : State) (k : Nat) (x : GStr) (nanovolts : Int) : State :=
  let i := s.shuntMa x.cfg nanovolts
  let t := i.2.countStr k i.1 ms
  let t := t.updStr k fun x => ({ x with iMa := i.1 }).conditions t.now
  if wakes x.cfg i.1 then { t with gau := { t.gau with shuntAt := t.now } } else t

/-- SHUNT_SAMPLE (R380, R383): one sample of 1 ms. -/
def execShuntSample (input : Nat) (nanovolts : Int) (s : State) : Host.Outcome State Fault Refusal :=
  if s.gauAwake then
    match s.strOfShunt input with
    | none => .next s
    | some (k, x) =>
      .next (s.shuntIn k x nanovolts)
  else .next s

/-- STRING_FRAME (R381, R383): a frame of a string's battery management unit. -/
def execStringFrame (canId : Nat) (data : List Byte) (s : State) : Host.Outcome State Fault Refusal :=
  if s.gauAwake then
    match s.gau.strings.find? fun e => strCanId e.2.cfg == canId with
    | none => .next s
    | some (k, x) =>
      let s := { s with gau := { s.gau with lastFrame := s.now } }
      if data.length ≠ 16 ∨ fld data 14 2 ≠ crc16 (data.take 14) ∨ x.seq = some (fld data 12 1) then .next s
      else
        let i := sfld data 0 4
        let t := match strSource x.cfg, x.frameAt with
          | 2, some a => s.countStr k i (s.now - a)
          | _, _ => s
        let f (x : GStr) : GStr :=
          { x with iMa := if strSource x.cfg = 2 then i else x.iMa, vMv := fld data 4 4, cellMin := fld data 8 2, cellMax := fld data 10 2,
                   seq := some (fld data 12 1), frameAt := some s.now, noVoltage := false }
        .next (t.updStr k fun x => (f x).conditions s.now)
  else .next s

/-! ### The journal (R386, R387) -/

/-- GFLAGS (R392). -/
def GStr.flags (x : GStr) : Nat :=
  let b (v : Bool) (k : Nat) : Nat := if v then k else 0
  b x.deficit 1 + b x.learnLost 2 + b x.noVoltage 4 + b x.pairOpen 8 + b x.learnClamp 16

/-- The journal entries of the strings as they stand. -/
def State.gauEntries (s : State) : Tab GEntry := s.gau.strings.mapV fun _ x => ⟨x.q, x.qL, x.d, x.state, x.flags, x.learns.toNat⟩

/-- MAGIC of a journal slot: ASCII GJNL. -/
def gaugeMagic : Nat := 0x4C4E4A47

/-- Bytes of a string's entry (R386). -/
def GEntry.bytes (e : GEntry) : List Byte := pack [(8, e.q), (8, e.qL), (8, e.d), (1, e.state), (1, e.flags), (2, e.learns), (4, 0)]

/-- Bytes 0 to 1,039 of a journal slot (R386); the entry of a string that is not configured is zeros (DESIGN CHOICE, assumption 142). -/
def GSlot.bytes (g : GSlot) : List Byte :=
  pack [(4, g.magic), (4, g.seq), (1, g.reason), (7, 0)] ++ (List.range 32).flatMap fun k => match g.entries.get? k with
    | some e => e.bytes
    | none => List.replicate 32 0

/-- A slot with its CRC. -/
def GSlot.closed (g : GSlot) : GSlot := { g with crc := crc32 g.bytes }

/-- A slot is valid: MAGIC and CRC agree (R386, R387). -/
def GSlot.valid (g : GSlot) : Bool := g.magic == gaugeMagic && g.crc == crc32 g.bytes

/-- A slot is erased. -/
def GSlot.erased (g : GSlot) : Bool := g.magic == 0xFFFFFFFF && g.crc == 0xFFFFFFFF

theorem GSlot.closed_valid (g : GSlot) (h : g.magic = gaugeMagic) : g.closed.valid = true := by
  simp [GSlot.closed, GSlot.valid, GSlot.bytes, h]

/-- The slot that the next write takes: the one that is not valid, or the older one. -/
def Gau.nextIsB (g : Gau) : Bool := g.jA.valid && (!g.jB.valid || decide (g.jB.seq < g.jA.seq))

/-- Writes a journal slot (R386), numbered one above the other; `done` false leaves it without its CRC, neither erased nor valid (R387, assumption 142). -/
def State.gauJournal (s : State) (reason : Nat) (done : Bool) : State :=
  let g := s.gau
  let other := if g.nextIsB then g.jA else g.jB
  let x : GSlot := { magic := gaugeMagic, seq := if other.valid then (other.seq + 1) % 2 ^ 32 else 1, reason := reason, entries := s.gauEntries }
  let x := if done then x.closed else { x with crc := (crc32 x.bytes + 1) % 2 ^ 32 }
  { s with gau := { (if g.nextIsB then { g with jB := x } else { g with jA := x }) with journalAt := s.now } }

/-- GAUGE_JOURNAL_PERIODIC (R386). -/
def execGaugeJournalPeriodic (s : State) : Host.Outcome State Fault Refusal :=
  if s.gauAwake ∧ s.gau.journalAt + s.islN PAR_GAU_JOURNAL_S * sec ≤ s.now then .next (s.gauJournal 0 true) else .next s

/-- BATAUX_LOW (R378): one journal write starts, and the domain stops; whether the write completes is the event's. -/
def execBatauxLow (written : Bool) (s : State) : Host.Outcome State Fault Refusal :=
  if s.gau.on then .next { s.gauJournal 3 written with gau := { (s.gauJournal 3 written).gau with on := false, hibernating := false } } else .next s

/-- The valid slot at a restart, and whether the other one is neither erased nor valid (R387). -/
def Gau.validSlot (g : Gau) : Option GSlot × Bool :=
  match g.jA.valid, g.jB.valid with
  | true, true => (some (if g.jA.seq < g.jB.seq then g.jB else g.jA), false)
  | true, false => (some g.jA, !g.jB.erased)
  | false, true => (some g.jB, !g.jA.erased)
  | false, false => (none, !g.jA.erased || !g.jB.erased)

/-- A string restored at a restart; with no valid slot its values are open. -/
def State.restoreStr (s : State) (k : Nat) (e : Option GEntry) (lost : Bool) : State :=
  let base (x : GStr) : GStr := { x with state := 1, pairOpen := false, noVoltage := false, learnLost := x.learnLost || lost, fullSince := none,
                                          emptySince := none, anchored := false, frameAt := none, seq := none }
  match e with
  | some e =>
    let f (x : GStr) : GStr :=
      { base x with q := e.q, qL := e.qL, d := e.d, learns := BitVec.ofNat 16 e.learns, deficit := bit e.flags 0,
                    learnLost := bit e.flags 1 || lost, learnClamp := bit e.flags 4 }
    s.updStr k f
  | none =>
    let a := s.draw
    let b := a.2.draw
    let c := b.2.draw
    c.2.updStr k fun x => { base x with q := a.1, qL := b.1, d := c.1 }

/-- GAUGE_RESTART (R378, R387, R388): BATAUX is above 9.0 V again. -/
def execGaugeRestart (s : State) : Host.Outcome State Fault Refusal :=
  if s.gau.on then .next s
  else
    let v := s.gau.validSlot
    let t := s.gau.strings.keys.foldl (fun u k => u.restoreStr k (v.1.bind fun j => j.entries.get? k) v.2) s
    let t := { t with gau := { t.gau with on := true, hibernating := false, shuntAt := t.now, lastFrame := t.now, journalAt := t.now } }
    .next (if v.2 then t.gau.strings.keys.foldl (fun u k => u.raise 0x0C 0x0006 k) t else t)

/-! ### Anchors and learning (R384, R385) -/

/-- A full anchor: Q is Q_L, D is 0, and a pair is open. -/
def GStr.fullAnchor (x : GStr) : GStr := { x with q := x.qL, d := 0, state := 2, pairOpen := true, deficit := false, anchored := true }

/-- Q_L after the empty anchor of an open pair, and whether a bound acted: the change within the learning bound, Q_L within 50 % to
110 % of the rated capacity (R385). -/
def GStr.learn (x : GStr) (maxPct : Nat) : Nat × Bool :=
  let cap := strCapAh x.cfg * mAsPerAh
  let want : Int := if 0 < x.d then x.d else -(x.q : Int)
  let lim : Int := (cap * maxPct / 100 : Nat)
  let ch := clamp (-lim) lim want
  let v := clamp ((cap * 50 / 100 : Nat)) ((cap * 110 / 100 : Nat)) ((x.qL : Int) + ch)
  (v.toNat, decide (ch ≠ want ∨ v ≠ (x.qL : Int) + ch))

/-- A string at an empty anchor: with a pair open it learns (R385, R387). -/
def GStr.emptyAnchor (x : GStr) (maxPct : Nat) : GStr :=
  let y : GStr := { x with q := 0, d := 0, state := 2, pairOpen := false, deficit := false, anchored := true }
  if x.pairOpen then
    let l := x.learn maxPct
    { y with qL := l.1, learnClamp := l.2, learnLost := false, learns := x.learns + 1 }
  else y

/-- ANCHOR_HOLD_EXPIRY (R384, R385, R388): a condition has held for its hold time. -/
def execAnchorHoldExpiry (string : Nat) (s : State) : Host.Outcome State Fault Refusal :=
  let past (t : Option Nat) (par : Nat) : Bool := match t with
    | some a => decide (a + s.islN par * sec ≤ s.now)
    | none => false
  match s.gstr string with
  | none => .next s
  | some x =>
    if s.gauAwake = false ∨ x.anchored then .next s
    else if past x.fullSince PAR_GAU_FULL_HOLD_S then .next ((s.updStr string GStr.fullAnchor).raise 0x0C 0x0001 string)
    else if past x.emptySince PAR_GAU_EMPTY_HOLD_S then
      let pct := s.islN PAR_GAU_LEARN_MAX_PCT
      let t := (s.updStr string fun x => x.emptyAnchor pct).raise 0x0C 0x0002 string
      if x.pairOpen then
        let t := t.raise 0x0C 0x0003 string
        .next ((if (x.learn pct).2 then t.raise 0x0C 0x0004 string else t).gauJournal 1 true)
      else .next t
    else .next s

/-- A string that nobody observes: no anchor condition holds without a break (R384). -/
def GStr.unseen (x : GStr) : GStr := { x with fullSince := none, emptySince := none, anchored := false }

/-- STRING_FRAME_TIMEOUT (R388). Without frames no anchor condition is observed on an UNANCHORED string either (R384; DEDUCED, assumption 153). -/
def execStringFrameTimeout (string : Nat) (s : State) : Host.Outcome State Fault Refusal :=
  match s.gstr string with
  | none => .next s
  | some x =>
    let lim := s.islN PAR_GAU_FRAME_TIMEOUT_MS * ms
    let late := match x.frameAt with
      | some a => decide (a + lim ≤ s.now)
      | none => false
    if s.gauAwake = false ∨ late = false then .next s
    else if x.state ≠ 2 then .next (s.updStr string GStr.unseen)
    else if strSource x.cfg = 2 then
      let t := s.countStr string x.iMa lim
      .next ((t.updStr string fun x => { x with state := 1, pairOpen := false, frameAt := none, fullSince := none, emptySince := none }).raise 0x0C 0x0007 string)
    else .next (s.updStr string fun x => { x with noVoltage := true, fullSince := none, emptySince := none, anchored := false })

/-! ### Hibernation (R379) -/

/-- HIBERNATION_ENTRY: all conditions hold for GAU_IDLE_S; a journal slot is written (R386). -/
def execHibernationEntry (s : State) : Host.Outcome State Fault Refusal :=
  let idle := s.islN PAR_GAU_IDLE_S * sec
  if s.gauAwake ∧ s.sys.pg = false ∧ s.gau.shuntAt + idle ≤ s.now ∧ s.gau.lastFrame + idle ≤ s.now then
    let t := s.gauJournal 2 true
    .next { t with gau := { t.gau with hibernating := true, hibAt := t.now } }
  else .next s

/-- Counts the self-discharge of every configured string since it was last counted. No anchor condition is observed meanwhile. -/
def State.selfDischarge (s : State) : State :=
  let dt := s.now - s.gau.hibAt
  let t := s.gau.strings.foldl (fun (u : State) e => (u.countStr e.1 (strSelfMa e.2.cfg) dt).updStr e.1 GStr.unseen) s
  { t with gau := { t.gau with hibAt := t.now } }

/-- Leaves hibernation. -/
def State.gauWake (s : State) : State :=
  if s.gau.on ∧ s.gau.hibernating then
    let t := s.selfDischarge
    { t with gau := { t.gau with hibernating := false, shuntAt := t.now, lastFrame := t.now } }
  else s

/-- A shunt voltage that is at or above its string's wake threshold. -/
def State.shuntWakes (s : State) (input : Nat) (nv : Int) : Bool × State := match s.strOfShunt input with
  | none => (false, s)
  | some (_, x) =>
    let i := s.shuntMa x.cfg nv
    (wakes x.cfg i.1, i.2)

/-- One tick of hibernation: the self-discharge, and whether a shunt's current wakes the gauge. -/
def State.hibernateTick (s : State) (shunts : List (Nat × Int)) : Bool × State :=
  shunts.foldl (fun (a : Bool × State) e =>
    let w := a.2.shuntWakes e.1 e.2
    (a.1 || w.1, w.2)) (false, s.selfDischarge)

/-- HIBERNATION_TICK (R379): self-discharge is counted and the shunts are compared. -/
def execHibernationTick (shunts : List (Nat × Int)) (s : State) : Host.Outcome State Fault Refusal :=
  if s.gau.on ∧ s.gau.hibernating then
    let r := s.hibernateTick shunts
    .next (if r.1 then r.2.gauWake else r.2)
  else .next s

/-- GAUGE_WAKE (R379, R453). -/
def execGaugeWake (cause : GaugeWake) (s : State) : Host.Outcome State Fault Refusal :=
  match cause with
  | .shunt input nv =>
    let w := s.shuntWakes input nv
    .next (if w.1 then w.2.gauWake else w.2)
  | .dominant ns => if 1000 ≤ ns then .next s.gauWake else .next s
  | .request => .next s.gauWake

/-! ### Available charge (R389) -/

/-- The sum of R389 runs over a string: it is COUNTING, behind a cabinet that this module holds and has not fenced. -/
def State.strCounts (s : State) (x : GStr) : Bool := x.state == 2 && s.holds (strCabinet x.cfg) && (s.node (strCabinet x.cfg)).state != 4

/-- 100 x 3600 x 1000 x 1000 times a string's term in kWh: max(0, Q - reserve) x V_NOM, 0 unless it counts behind a held and
unfenced cabinet. -/
def State.strTermRaw (s : State) (x : GStr) : Nat :=
  if s.strCounts x then (100 * x.q - s.islN PAR_GAU_RESERVE_PCT * x.qL) * strVNom x.cfg else 0

/-- kWh, rounded down, of a raw term. -/
def kwhOf (raw : Nat) : Nat := raw / (100 * mAsPerAh * 1000)

/-- A in kWh (R389). -/
def State.gauAvail (s : State) : Nat := kwhOf ((s.gau.strings.vals.map s.strTermRaw).sum)

/-- GAUGE_REPORT (R389): A and each string's term reach the arbiter. -/
def execGaugeReport (s : State) : Host.Outcome State Fault Refusal :=
  if s.gauAwake then
    .next { s with gau := { s.gau with reportAt := some s.now, terms := s.gau.strings.mapV fun _ x => kwhOf (s.strTermRaw x) },
                   lv := { s.lv with availKwh := s.gauAvail } }
  else .next s

/-- GAUGE_DATA_STALE (R389): no report for 100 ms. -/
def execGaugeDataStale (s : State) : Host.Outcome State Fault Refusal :=
  match s.gau.reportAt with
  | some t =>
    if t + 100 * ms ≤ s.now then
      .next (({ s with lv := { s.lv with availKwh := 0 }, gau := { s.gau with reportAt := none } }).report SRC_GAU_SILENT 0)
    else .next s
  | none => .next s

/-! ### Commands (R390 to R392) -/

/-- A string record that is valid beside the others (R382). -/
def State.strRecOk (s : State) (k : Nat) (r : Rec) : Bool :=
  let others := s.gau.strings.keep fun j _ => j != k
  let src := strSource r
  fld r 0 1 == k && (src == 1 || src == 2) && (if src = 1 then decide (strShunt r ≤ 7) else strShunt r == 0xFF) && zeros r 3 1 &&
  decide (strCanId r < 2 ^ 29) && s.nodeKind (strCabinet r) == 1 && (if src = 1 then decide (1 ≤ strShuntR r) else strShuntR r == 0) &&
  decide (50 ≤ strVNom r ∧ strVNom r ≤ 1500) && decide (1 ≤ strCapAh r) && decide (strEmptyMv r < strFullMv r) &&
  decide (1 ≤ strTaperA r ∧ strTaperA r ≤ 1000) && decide (1 ≤ strEmptyA r ∧ strEmptyA r ≤ 2000) && decide (strSelfMa r ≤ 10000) && zeros r 28 4 &&
  !(others.any fun e => strCanId e.2.cfg == strCanId r || (src == 1 && strSource e.2.cfg == 1 && strShunt e.2.cfg == strShunt r))

/-- Asks the gauge's HOLDUP leave for a command (R390, R76): at most 2 s. The request wakes a hibernating domain (R379). -/
def State.askGauge (s : State) (c : InFlight) : State := (s.gauWake.askHoldup true (.gauStore c.uid)).setDeadline c.uid (s.now + 2 * sec)

/-- The effect of GAU_STRING_CONFIG up to its leave (R391). -/
def gauStringConfig (c : InFlight) (s : State) : State :=
  match c.record 32 with
  | none => s.fail c.uid ST_BAD_PARAM
  | some r =>
    if 31 < c.desc.object ∨ (allZero r = false ∧ s.strRecOk c.desc.object r = false) then s.fail c.uid ST_BAD_PARAM else s.askGauge c

def execGauStringConfig (q tag : Nat) (s : State) : Host.Outcome State Fault Refusal := startCommand 0x0C00 q tag s gauStringConfig

/-- The effect of GAU_LEARN_SET up to its leave (R391). -/
def gauLearnSet (c : InFlight) (s : State) : State :=
  match s.gstr c.desc.object with
  | none => s.fail c.uid ST_BAD_PARAM
  | some x =>
    let v := c.desc.u 32 4
    if 5 * strCapAh x.cfg ≤ v ∧ v ≤ 11 * strCapAh x.cfg then s.askGauge c else s.fail c.uid ST_BAD_PARAM

def execGauLearnSet (q tag : Nat) (s : State) : Host.Outcome State Fault Refusal := startCommand 0x0C02 q tag s gauLearnSet

/-- A record applied (R388). -/
def State.applyString (s : State) (k : Nat) (r : Rec) : State :=
  let str := s.gau.strings
  let new : GStr := { cfg := r, qL := strCapAh r * mAsPerAh }
  let str' := if allZero r then str.del k else match str.get? k with
    | some x => str.set k { x with cfg := r }
    | none => str.set k new
  { s with gau := { s.gau with strings := str' } }

/-- The end of a gauge store: the command takes effect, here and on the partner's gauge (R391). -/
def gauStoreDone (uid : Nat) (s : State) : State := match s.cmd? uid with
  | none => s
  | some c =>
    let k := c.desc.object
    let t := if c.desc.opcode = 0x0C00 then s.applyString k c.desc.data
      else s.updStr k fun x => { x with qL := c.desc.u 32 4 * (mAsPerAh / 10), d := 0, pairOpen := false, state := 1, learnLost := false, deficit := false }
    t.okMirrored c [] 31 (2 * ms)

/-- A record of GAU_READ (R392); rounding to the units of the fields is downward. -/
def State.gauRecord (s : State) (k : Nat) : List Byte := match s.gstr k with
  | none => padTo 32 (pack [(1, k)])
  | some x =>
    let dah := mAsPerAh / 10
    pack [(1, k), (1, x.state), (1, x.flags), (1, if x.qL = 0 then 0 else 100 * x.q / x.qL)] ++ leInt 4 (floorDiv x.iMa 100) ++
    pack [(2, x.vMv / 1000), (2, x.cellMin), (4, x.q / dah), (4, x.qL / dah), (4, x.d / dah), (4, kwhOf (s.strTermRaw x)), (2, x.learns.toNat), (2, 0)]

/-- The effect of GAU_READ (R392): it wakes a hibernating domain. -/
def gauRead (c : InFlight) (s : State) : State :=
  let first := c.desc.u 32 1
  let n := c.desc.u 33 1
  if n = 0 ∨ 32 < n ∨ c.desc.dataLen < 32 * n ∨ 32 < first + n then s.fail c.uid ST_BAD_PARAM
  else
    let t := s.gauWake
    let cnt := (t.gau.strings.vals.filter t.strCounts).length
    t.answer c (pack [(4, t.gauAvail), (1, cnt)]) ((List.range n).flatMap fun j => t.gauRecord (first + j))

def execGauRead (q tag : Nat) (s : State) : Host.Outcome State Fault Refusal := startCommand 0x0C01 q tag s gauRead

end Sys2Proof.Machine
end

