-- ==== Sys2Proof/Machine/CanFd.lean ====
section
/-!
DEFINITION. The CAN FD controllers (chapter 16): timing, filters, queues, rate detection, bus-off and the CAN commands. Between two
commands the bus is idle, so what waits for the next bus idle takes effect at once (assumption 43).
-/
namespace Sys2Proof.Machine

/-! ### Checks of records and frames (R442 to R444, R446) -/

/-- A timing within the ranges of R443 and the rates of R442. The bit times are in quanta of 12.5 ns. -/
def timingOk (t : Rec) : Bool :=
  let nb := fld t 0 1
  let n1 := fld t 1 2
  let n2 := fld t 3 1
  let db := fld t 5 1
  let d1 := fld t 6 1
  let d2 := fld t 7 1
  let n := nb * (1 + n1 + n2)
  let d := db * (1 + d1 + d2)
  decide (1 ≤ nb ∧ nb ≤ 32) && decide (2 ≤ n1 ∧ n1 ≤ 256) && decide (1 ≤ n2 ∧ n2 ≤ 128) && decide (1 ≤ fld t 4 1 ∧ fld t 4 1 ≤ n2) &&
  decide (80 ≤ n ∧ n ≤ 640) && zeros t 9 3 &&
  (if db = 0 then zeros t 6 3
   else decide (db ≤ 32) && decide (1 ≤ d1 ∧ d1 ≤ 32) && decide (1 ≤ d2 ∧ d2 ≤ 16) && decide (1 ≤ fld t 8 1 ∧ fld t 8 1 ≤ d2) && decide (10 ≤ d ∧ d ≤ n))

/-- A filter within its ranges. -/
def filterOk (f : Rec) : Bool :=
  decide (fld f 0 4 < 2 ^ 29) && decide (fld f 4 4 < 2 ^ 29) && decide (fld f 8 1 < 4) && decide (fld f 9 1 ≤ 2) && zeros f 10 2

/-- A configuration record within its ranges (R456). A controller that is off may have no timing (assumption 43). -/
def State.canRecOk (s : State) (r : Rec) : Bool :=
  let t := canTiming r
  let cands := (List.range 8).map (canCand r)
  decide (canMode r ≤ 3) && decide (fld r 1 1 < 16) && zeros r 3 1 && zeros r 16 16 &&
  (fld r 2 1 == 0xFF || (decide (fld r 2 1 ≤ 15) && (s.host (fld r 2 1)).transport != 0)) &&
  (timingOk t || (canMode r == 0 && allZero t)) && (cands.all fun c => allZero c || timingOk c) &&
  (canFd r || !(hasData t || cands.any hasData)) && (List.range 32).all fun n => filterOk (canFilter r n)

/-- Data bytes that a DLC gives (ISO 11898-1). -/
def dlcLen (fd : Bool) (dlc : Nat) : Nat := if fd then [0, 1, 2, 3, 4, 5, 6, 7, 8, 12, 16, 20, 24, 32, 48, 64].getD dlc 0 else min dlc 8

/-- A frame of CAN_TX that is well formed under a record (R446, R456). -/
def frameOk (r f : Rec) : Bool :=
  let fl := fld f 4 1
  let fd := bit fl 1
  let n := if bit fl 3 then 0 else dlcLen fd (fld f 5 1)
  decide (fld f 0 4 < (if bit fl 0 then 2 ^ 29 else 2 ^ 11)) && decide (fl < 64) && !bit fl 4 && !(bit fl 2 && !fd) && !(bit fl 3 && fd) &&
  decide (fld f 5 1 ≤ 15) && zeros f 6 10 && zeros f (16 + n) (64 - n) && !(fd && !canFd r) && !(bit fl 2 && !hasData (canTiming r))

/-! ### Modes (R452) -/

/-- LISTEN_FORCED: a controller in normal mode while its module is not active. -/
def State.canForced (s : State) (k : Nat) : Bool := !s.isActive && canMode (s.canCtl k).cfg == 1

/-- The mode in effect: listen-only during a detection, and on a standby unless Granite uses the controller. -/
def State.canModeNow (s : State) (k : Nat) : Nat :=
  let x := s.canCtl k
  if x.detect.isSome then 2
  else if s.canForced k ∧ canGranite x.cfg = false then 2
  else canMode x.cfg

/-- Transmit entries that host frames may use (R445). -/
def hostEntries (r : Rec) : Nat := if canGranite r then 28 else 32

/-! ### Registers (R459) -/

/-- The controller is off the bus: bus-off is entered, or the transmit error count has passed 255 (R451). -/
def CanCtl.offBus (x : CanCtl) : Bool := x.busoff || decide (255 < x.tec)

/-- ERR_STATE: 0 error active, 1 error passive, 2 bus-off. -/
def CanCtl.errState (x : CanCtl) : Nat := if x.offBus then 2 else if 127 < x.tec ∨ 127 < x.recCount then 1 else 0

/-- CAN_STAT. -/
def State.canStat (s : State) (k : Nat) : Nat :=
  let x := s.canCtl k
  let b (v : Bool) (n : Nat) : Nat := if v then 2 ^ n else 0
  s.canModeNow k + b (s.canForced k) 3 + 16 * x.errState + b x.detect.isSome 6 + b x.overrun 7 + b x.lock 8 + 2 ^ 16 * x.rx.length + 2 ^ 24 * (s.canTx k).length

/-- CAN_ERRCNT. -/
def State.canErrCnt (s : State) (k : Nat) : Nat := min 255 (s.canCtl k).recCount + 2 ^ 16 * min 511 (s.canCtl k).tec

/-! ### Changes of the timing (R453) -/

/-- A change of CAN3's timing goes to the gauge domain, which wakes and stores it under HOLDUP leave; a later one replaces one that still waits. -/
def State.canGauge (s : State) (k : Nat) (old : Rec) : State :=
  let new := canTiming (s.canCtl 3).cfg
  if k ≠ 3 ∨ new = canTiming old then s
  else
    let t := { s with can := { s.can with gaugeWanted := some (new, s.now) } }
    if s.awaits .canTiming ∨ s.hasGrant .canTiming then t else t.gauWake.askHoldup true .canTiming

/-- The gauge domain has stored the timing. -/
def canTimingDone (s : State) : State := match s.can.gaugeWanted with
  | some (r, _) => { s with can := { s.can with gaugeTiming := r, gaugeWanted := none } }
  | none => s

/-! ### Reception (R445, R447, R450) -/

/-- The first enabled filter that a frame matches. -/
def canMatch (r : Rec) (id : Nat) (ide : Bool) : Option Nat :=
  (List.range 32).find? fun n =>
    let f := canFilter r n
    filterOn f && bit (fld f 8 1) 0 == ide && id &&& fld f 4 4 == fld f 0 4 &&& fld f 4 4

/-- A frame that the receive queue cannot take: it is dropped and counted; with all 64 entries held RX_OVERRUN is set, and
CAN_RX_OVERRUN is raised once per second. -/
def State.canDrop (s : State) (k : Nat) (full : Bool) : State :=
  let t := s.updCan k fun x => { x with dropped := (x.dropped + 1) % 65536, overrun := x.overrun || full }
  let due := match (s.canCtl k).overrunAt with
    | none => true
    | some a => decide (a + sec ≤ s.now)
  if full && due then (t.updCan k fun x => { x with overrunAt := some s.now }).raise 0x0F 0x0003 k else t

/-- A frame without error reaches its destination (R445 to R447): Granite, as a telegram (R508), or the receive queue, whose entry takes the counter and the
wrap count at the start of frame (R449). -/
def State.canStore (s : State) (k id flags dlc : Nat) (data : List Byte) (sofNs : Nat) : State :=
  let x := s.canCtl k
  match canMatch x.cfg id (bit flags 0) with
  | none => s
  | some n =>
    if fld (canFilter x.cfg n) 9 1 = 1 then s.safetyIn (.can k id) data
    else if fld (canFilter x.cfg n) 9 1 ≠ 0 then s
    else if canRxHost x.cfg = 0xFF then s.canDrop k false
    else if 64 ≤ x.rx.length then s.canDrop k true
    else
      let len := if bit flags 3 then 0 else dlcLen (bit flags 1) dlc
      let e := pack [(4, id), (1, flags % 32), (1, dlc), (2, x.seq), (4, s.canTicksAt sofNs % 2 ^ 32), (1, n), (1, s.canWrapAt sofNs), (2, 0)] ++ padTo 64 (data.take len)
      s.updCan k fun x => { x with rx := x.rx ++ [e], seq := (x.seq + 1) % 65536 }

/-- The used candidates of a record. -/
def usedCands (r : Rec) : List Nat := (List.range 8).filter fun n => !allZero (canCand r n)

/-- The next used candidate after one, from the first again after the last. -/
def nextCand (r : Rec) (n : Nat) : Nat :=
  ((usedCands r).find? fun m => decide (n < m)).getD ((usedCands r).headD 0)

/-- The detection takes the next candidate (R450). -/
def State.canNext (s : State) (k : Nat) : State :=
  s.updCan k fun x => { x with detect := x.detect.map fun d => { d with cand := nextCand x.cfg d.cand, good := 0, brs := false, since := s.now } }

/-- A frame during a detection: the second consecutive one accepts the candidate (R450). -/
def State.canGood (s : State) (k : Nat) (d : CanDetect) (brs : Bool) : State :=
  if d.good = 0 then s.updCan k fun x => { x with detect := some { d with good := 1, brs := brs, since := s.now } }
  else
    let x := s.canCtl k
    let old := x.cfg
    let cfg := if d.apply then old.take 4 ++ canCand old d.cand ++ old.drop 16 else old
    let t := (s.updCan k fun x => { x with cfg := cfg, detect := none }).canGauge k old
    let t := t.raise 0x0F 0x0005 k
    let ver := if hasData (canCand old d.cand) && (d.brs || brs) then 1 else 0
    match t.cmd? d.uid with
    | some c => t.endCmd c.uid ST_OK (pack [(1, d.cand), (1, ver), (2, 0), (4, (s.now - d.start) / ms)]) [] c.desc.data.length 0
    | none => t

/-- An error count of a receiver; in listen-only mode the counters are frozen. CAN_ERR_PASSIVE is raised on the way to error passive. -/
def State.canErr (s : State) (k : Nat) (f : CanCtl → CanCtl) : State :=
  let t := s.updCan k f
  if (s.canCtl k).errState = 0 ∧ (t.canCtl k).errState = 1 then t.raise 0x0F 0x0004 k else t

/-- What a controller makes of what the bus carries (R442). A CAN FD frame without FD, as a recessive bit after `res`, is a protocol exception; with PXHD
an exception is an error, as ISO 11898-1 counts it; a frame with BRS without a data phase cannot be sampled (DEDUCED, assumption 144). -/
def State.canSees (s : State) (k : Nat) (x : CanRx) : CanRx :=
  let cfg := (s.canCtl k).cfg
  let timing := match (s.canCtl k).detect with
    | some d => canCand cfg d.cand
    | none => canTiming cfg
  let x : CanRx := match x with
    | .frame id flags dlc data sof =>
      if bit flags 1 ∧ canFd cfg = false then .exception
      else if bit flags 1 ∧ bit flags 2 ∧ hasData timing = false then .error 1
      else .frame id flags dlc data sof
    | y => y
  match x with
  | .exception => if canPxhd cfg then .error 1 else .exception
  | y => y

/-- A frame without error (R445, R447, R450, R451): it is stored; in normal mode it is acknowledged, whatever the queue, and counts the receive errors down. -/
def State.canFrameIn (s : State) (k id flags dlc : Nat) (data : List Byte) (sofNs : Nat) : State :=
  let t := s.canStore k id flags dlc data sofNs
  let t := if s.canModeNow k = 1 then
      (t.updCan k fun x => { x with recCount := if 127 < x.recCount then 127 else x.recCount - 1 }).emit (.canAck k)
    else t
  match (s.canCtl k).detect with
  | some d => t.canGood k d (bit flags 2)
  | none => t

/-- An error on the bus (R450, R451): a detection takes the next candidate; in normal mode it is counted and signalled. -/
def State.canErrorIn (s : State) (k by' : Nat) : State :=
  if (s.canCtl k).detect.isSome then s.canNext k
  else if s.canModeNow k = 1 then
    (s.canErr k fun x => { x with recCount := min 255 (x.recCount + by') }).emit (.canError k ((s.canCtl k).errState == 1))
  else s

/-- CAN_FRAME_RECEIVED (R445, R447, R450, R451). A controller in internal loopback is not connected to the bus (DEDUCED, assumption 144). -/
def execCanFrameReceived (controller : Nat) (rx : CanRx) (s : State) : Host.Outcome State Fault Refusal :=
  if 3 < controller ∨ s.canModeNow controller = 0 ∨ s.canModeNow controller = 3 ∨ (s.canCtl controller).offBus then .next s
  else match s.canSees controller rx with
    | .frame id flags dlc data sof => .next (s.canFrameIn controller id flags dlc data sof)
    | .error by' => .next (s.canErrorIn controller by')
    | .exception => .next (if (s.canCtl controller).detect.isSome then s.canNext controller else s)

/-- DETECT_DWELL_EXPIRY (R450). -/
def execDetectDwellExpiry (controller : Nat) (s : State) : Host.Outcome State Fault Refusal :=
  match (s.canCtl controller).detect with
  | some d => if d.since + s.pms PAR_CAN_DETECT_DWELL_MS ≤ s.now then .next (s.canNext controller) else .next s
  | none => .next s

/-- DETECT_TIMEOUT (R450, R456): the controller returns to its previous mode and timing. -/
def execDetectTimeout (controller : Nat) (s : State) : Host.Outcome State Fault Refusal :=
  match (s.canCtl controller).detect with
  | some d => if d.deadline ≤ s.now then .next ((s.updCan controller fun x => { x with detect := none }).fail d.uid ST_TIMEOUT) else .next s
  | none => .next s

/-! ### Transmission (R448, R451, R452) -/

/-- The arbitration value of a frame: lower wins. -/
def arbValue (f : Rec) : Nat := if bit (fld f 4 1) 0 then 2 * fld f 0 4 + 1 else 2 * (fld f 0 4 * 2 ^ 18)

/-- The entry that the controller sends next: among those it may send, the lowest arbitration value, then the lower number. -/
def State.canFirst (s : State) (k : Nat) : Option (Nat × CanTxEntry) :=
  ((s.canTx k).filter fun e => s.isActive || e.2.uid.isNone).foldl (fun b e => match b with
    | none => some e
    | some a => if arbValue e.2.frame < arbValue a.2.frame then some e else some a) none

/-- An entry leaves the controller; its CAN_TX ends when every frame is sent or failed. -/
def State.canDone (s : State) (k n : Nat) (e : CanTxEntry) (sent : Bool) : State :=
  let t := s.updCan k fun x => { x with tx := x.tx.del n }
  match e.uid with
  | none => t
  | some u =>
    let c := ((t.canCtl k).cmds.get? u).getD ⟨1, 0, 0⟩
    let c := if sent then { c with sent := c.sent + 1 } else { c with failed := c.failed + 1 }
    let t := t.updCan k fun x => { x with cmds := x.cmds.set u c }
    if c.total ≤ c.sent + c.failed then t.canTxEnd k u ST_OK else t

/-- An entry has been sent (R448): on the bus, or back to the controller itself in internal loopback, where nothing is driven. -/
def State.canSent (s : State) (k n : Nat) (e : CanTxEntry) : State :=
  let t := (s.canDone k n e true).updCan k fun x => { x with tec := x.tec - 1 }
  if s.canModeNow k = 3 then t.canStore k (fld e.frame 0 4) (fld e.frame 4 1) (fld e.frame 5 1) (e.frame.drop 16) 0
  else t.emit (.canFrame k e.frame)

/-- CAN_FRAME_SENT (R448, R451): the entry that the controller sends next is sent, loses arbitration or meets an error, which is counted and signalled. -/
def execCanFrameSent (controller : Nat) (outcome : CanTxEnd) (s : State) : Host.Outcome State Fault Refusal :=
  let x := s.canCtl controller
  let m := s.canModeNow controller
  if 3 < controller ∨ (m ≠ 1 ∧ m ≠ 3) ∨ x.offBus then .next s
  else match s.canFirst controller with
    | none => .next s
    | some (n, e) =>
      let once := canNoRetx x.cfg || bit (fld e.frame 4 1) 5
      match outcome with
      | .sent => .next (s.canSent controller n e)
      | .lost => if once then .next (s.canDone controller n e false) else .next s
      | .error by' =>
        let t := (s.canErr controller fun x => { x with tec := min 511 (x.tec + by') }).emit (.canError controller (x.errState == 1))
        if once then .next (t.canDone controller n e false) else .next t

/-- CAN_TX_TIMEOUT (R456): the unsent frames are removed. -/
def execCanTxTimeout (q tag : Nat) (s : State) : Host.Outcome State Fault Refusal :=
  match s.mbx.inflight.find? fun c => c.q == q && c.desc.tag == tag && c.desc.opcode == 0x0F02 && c.phase == .running with
  | some c => if c.deadline ≠ 0 ∧ c.deadline ≤ s.now then .next (s.canTxEnd c.desc.object c.uid ST_TIMEOUT) else .next s
  | none => .next s

/-! ### Bus-off (R451) -/

/-- CAN_BUSOFF: the transmit error count has passed 255. CAN_BUSOFF_MAX entries within 60 s lock the controller. -/
def execCanBusoff (controller : Nat) (s : State) : Host.Outcome State Fault Refusal :=
  let x := s.canCtl controller
  if 3 < controller ∨ x.busoff ∨ x.tec ≤ 255 then .next s
  else
    let offs := s.now :: x.offs.filter fun t => decide (s.now < t + 60 * sec)
    let lock := decide (s.pn PAR_CAN_BUSOFF_MAX ≤ offs.length)
    let t := s.updCan controller fun x =>
      { x with busoff := true, recovering := false, offAt := s.now, offs := offs, lock := x.lock || lock, busoffs := (x.busoffs + 1) % 65536 }
    let t := t.raise 0x0F 0x0001 controller
    if lock then .next (t.report SRC_CAN_BUSOFF 0) else .next t

/-- BUSOFF_HOLD_EXPIRY: the recovery sequence starts. -/
def execBusoffHoldExpiry (controller : Nat) (s : State) : Host.Outcome State Fault Refusal :=
  let x := s.canCtl controller
  if x.busoff ∧ x.recovering = false ∧ canManual x.cfg = false ∧ x.lock = false ∧ x.offAt + s.pms PAR_CAN_BUSOFF_HOLD_MS ≤ s.now then
    .next (s.updCan controller fun x => { x with recovering := true })
  else .next s

/-- CAN_RECOVERED: the sequence has ended, and CAN_RECOVER commands with it. -/
def execCanRecovered (controller : Nat) (s : State) : Host.Outcome State Fault Refusal :=
  let x := s.canCtl controller
  if x.busoff ∧ x.recovering then
    let t := s.updCan controller fun x => { x with busoff := false, recovering := false, tec := 0, recCount := 0, recover := [] }
    .next (x.recover.foldl (fun (u : State) c => u.endCmd c ST_OK [] [] 0 0) (t.raise 0x0F 0x0002 controller))
  else .next s

/-- CAN_TS_WRAP (R449). -/
def execCanTsWrap (s : State) : Host.Outcome State Fault Refusal :=
  if s.can.wraps < s.canTicks / 2 ^ 32 then .next { s with can := { s.can with wraps := s.can.wraps + 1, wrap := (s.can.wrap + 1) % 256 } }
  else .next s

/-! ### Commands (R455, R456) -/

/-- The effect of CAN_CONFIG. -/
def canConfig (c : InFlight) (s : State) : State :=
  let k := c.desc.object
  match c.record 512 with
  | none => s.fail c.uid ST_BAD_PARAM
  | some r =>
    if 3 < k ∨ s.canRecOk r = false then s.fail c.uid ST_BAD_PARAM
    else if (s.canCtl k).detect.isSome then s.fail c.uid ST_BUSY
    else
      let t := (s.canCtl k).cmds.keys.foldl (fun (u : State) j => u.canTxEnd k j ST_ABORTED) s
      let old := (t.canCtl k).cfg
      let t := (t.updCan k fun x => { x with cfg := r, tx := [] }).canGauge k old
      t.endCmd c.uid ST_OK [] [] 512 0

def execCanConfig (q tag : Nat) (s : State) : Host.Outcome State Fault Refusal := startCommand 0x0F00 q tag s canConfig

/-- The effect of CAN_DETECT. -/
def canDetect (c : InFlight) (s : State) : State :=
  let k := c.desc.object
  let limit := c.desc.u 32 4
  let x := s.canCtl k
  let l := usedCands x.cfg
  if 3 < k ∨ limit < 100 ∨ 600000 < limit ∨ 1 < c.desc.u 36 1 ∨ l.isEmpty ∨ (l.all fun n => timingOk (canCand x.cfg n)) = false then s.fail c.uid ST_BAD_PARAM
  else if x.detect.isSome ∨ s.canTx k ≠ [] then s.fail c.uid ST_BUSY
  else s.updCan k fun x => { x with detect := some { uid := c.uid, apply := c.desc.u 36 1 == 1, start := s.now, deadline := s.now + limit * ms, cand := l.headD 0, since := s.now } }

def execCanDetect (q tag : Nat) (s : State) : Host.Outcome State Fault Refusal := startCommand 0x0F01 q tag s canDetect

/-- The lowest free entries for host frames. -/
def State.canFree (s : State) (k : Nat) : List Nat := (List.range (hostEntries (s.canCtl k).cfg)).filter fun n => ((s.canTx k).get? n).isNone

/-- The effect of CAN_TX. -/
def canTxCmd (c : InFlight) (s : State) : State :=
  let k := c.desc.object
  let n := c.desc.u 32 1
  let x := s.canCtl k
  let frames := chunks 80 n c.desc.data
  if 3 < k ∨ n = 0 ∨ 28 < n ∨ c.desc.data.length ≠ 80 * n ∨ (frames.all fun f => frameOk x.cfg f) = false then s.fail c.uid ST_BAD_PARAM
  else if (s.canFree k).length < n then s.fail c.uid ST_BUSY
  else if s.canModeNow k ≠ 1 ∧ s.canModeNow k ≠ 3 then s.fail c.uid ST_DENIED
  else
    let limit := c.desc.u 36 4
    let tx := ((s.canFree k).zip frames).foldl (fun (t : Tab CanTxEntry) e => t.set e.1 ⟨e.2, some c.uid⟩) (s.canTx k)
    let t := s.updCan k fun x => { x with tx := tx, cmds := x.cmds.set c.uid ⟨n, 0, 0⟩ }
    t.setDeadline c.uid (if limit = 0 then 0 else s.now + limit * ms)

def execCanTx (q tag : Nat) (s : State) : Host.Outcome State Fault Refusal := startCommand 0x0F02 q tag s canTxCmd

/-- The effect of CAN_RX_READ. -/
def canRxRead (c : InFlight) (s : State) : State :=
  let k := c.desc.object
  let n := c.desc.u 32 1
  let l := (s.canCtl k).rx.take n
  if 3 < k then s.fail c.uid ST_BAD_PARAM
  else if canRxHost (s.canCtl k).cfg ≠ c.entry then s.fail c.uid ST_DENIED
  else if n = 0 ∨ 64 < n ∨ c.desc.dataLen < 80 * n then s.fail c.uid ST_BAD_PARAM
  else s.answer c (pack [(1, l.length)]) l.flatten

def execCanRxRead (q tag : Nat) (s : State) : Host.Outcome State Fault Refusal := startCommand 0x0F03 q tag s canRxRead

/-- The effect of CAN_RX_ACK. -/
def canRxAck (c : InFlight) (s : State) : State :=
  let k := c.desc.object
  let rx := (s.canCtl k).rx
  if 3 < k then s.fail c.uid ST_BAD_PARAM
  else if canRxHost (s.canCtl k).cfg ≠ c.entry then s.fail c.uid ST_DENIED
  else match rx.findIdx? fun r => fld r 6 2 == c.desc.u 32 2 with
    | none => s.fail c.uid ST_BAD_PARAM
    | some n =>
      let left := rx.drop (n + 1)
      (s.updCan k fun x => { x with rx := left }).endCmd c.uid ST_OK (pack [(1, left.length)]) [] 0 0

def execCanRxAck (q tag : Nat) (s : State) : Host.Outcome State Fault Refusal := startCommand 0x0F04 q tag s canRxAck

/-- The effect of CAN_RECOVER. -/
def canRecover (c : InFlight) (s : State) : State :=
  let k := c.desc.object
  if 3 < k then s.fail c.uid ST_BAD_PARAM
  else if (s.canCtl k).busoff = false then s.endCmd c.uid ST_OK [] [] 0 0
  else s.updCan k fun x => { x with lock := false, recovering := true, recover := x.recover ++ [c.uid] }

def execCanRecover (q tag : Nat) (s : State) : Host.Outcome State Fault Refusal := startCommand 0x0F05 q tag s canRecover

/-- The effect of CAN_STATUS. -/
def canStatus (c : InFlight) (s : State) : State :=
  let k := c.desc.object
  if 3 < k then s.fail c.uid ST_BAD_PARAM
  else s.answer c (pack [(4, s.canStat k), (4, s.canErrCnt k), (4, s.can.latch), (1, s.can.latchWrap), (3, s.can.latchAt / us)]) []

def execCanStatus (q tag : Nat) (s : State) : Host.Outcome State Fault Refusal := startCommand 0x0F06 q tag s canStatus

end Sys2Proof.Machine
end

