-- ==== Sys2Proof/Machine/Pair.lean ====
section
/-!
DEFINITION. The redundant pair (chapter 20): forming, STATUS, the state image, roles, release, split and heal, lockstep, and the pair
commands.
-/
namespace Sys2Proof.Machine

/-! ### Forming (R540, R549) -/

/-- A STATUS opens the forming of a pair: the link has block lock, and a new pair key is needed (R474, R549). -/
def State.formPair (s : State) (p : PartnerStatus) : State :=
  (s.dropPairKey.updPair fun x => { x with partner := some p, statusAt := s.now }).pairChecks false

/-- PAIR_LINK_LOCK (R540, R549, R611): X5, its transmitter enabled, gains block lock and the partner's first STATUS arrives. -/
def execPairLinkLock (status : PartnerStatus) (s : State) : Host.Outcome State Fault Refusal :=
  if s.cageLit 4 then
    let t := s.updPair fun x => { x with link := true }
    .next (if s.partnerConfigured ∧ s.pair.sync = SYNC_DOWN then t.formPair status else t)
  else .next s

/-- The pair link is lost (R542, R549): source 448 and PAIR_LOST; nothing waits for the partner any longer. -/
def State.pairLost (s : State) : State :=
  if s.pair.sync = SYNC_DOWN then s
  else
    let t := (s.setSync SYNC_DOWN).dropFinal.updPair fun x =>
      { x with partner := none, mismatch := 0, outst := [], fullLeft := 0, imageCycle := none, sentCycle := none }
    (((t.report SRC_PAIR_LOST 0).raise 0x13 0x0003 0).noteSplit).claimLapsed

/-- PAIR_LINK_LOST (R542): `lock` says that X5 has lost block lock; otherwise no STATUS has arrived for 3 site cycles. -/
def execPairLinkLost (lock : Bool) (s : State) : Host.Outcome State Fault Refusal :=
  if lock then .next (s.pairLost.updPair fun x => { x with link := false })
  else if s.pair.statusAt + 3 * ms ≤ s.now then .next s.pairLost
  else .next s

/-- MISMATCH_RECHECK (R540): every 10 s while a mismatch stands. -/
def execMismatchRecheck (s : State) : Host.Outcome State Fault Refusal :=
  if s.pair.mismatch ≠ 0 ∧ s.pair.checkedAt + 10 * sec ≤ s.now then .next (s.pairChecks (s.pair.mismatch == 6 && !s.obs.pairKeyed)) else .next s

/-! ### Switchover (R552, R564) -/

/-- A release with a final image (R552, R556): commands that have not started end (R64), the image goes out at the next site cycle
boundary, and the release headers follow its acknowledgement. -/
def State.beginFinal (s : State) (row : Nat) : State :=
  (s.endWaiting.updPair fun x =>
    { x with role := ROLE_RELEASING, roleAfter := ROLE_STANDBY, releaseLeft := 3, finalWanted := true, finalImage := none, releaseAt := none }).raise
      0x13 0x0005 row

/-- A PAIR_SWITCHOVER ends: its result gives the new epoch, the nodes claimed and the time since the first RELEASE header, taken at the STATUS
that shows them held (DEDUCED, assumption 48). -/
def State.switchDone (s : State) (p : PartnerStatus) : State :=
  match s.pair.switchCmd with
  | none => s
  | some (uid, held, _) =>
    if s.pair.role ≠ ROLE_RELEASING ∧ p.role = ROLE_ACTIVE ∧ held ≤ p.held then
      let t := s.okUid uid (pack [(4, p.epoch), (4, p.held), (4, (s.now - s.pair.releaseAt.getD s.now) / us)])
      t.updPair fun x => { x with switchCmd := none, takeovers := x.takeovers + 1, switchAt := s.now, switchDue := false, switchDueAt := s.now }
    else s

/-- SWITCHOVER_TIMEOUT (R564). -/
def execSwitchoverTimeout (s : State) : Host.Outcome State Fault Refusal :=
  match s.pair.switchCmd with
  | none => .next s
  | some (uid, _, t) => if t ≤ s.now then .next ((s.fail uid ST_TIMEOUT).updPair fun x => { x with switchCmd := none }) else .next s

/-! ### STATUS (R542) -/

/-- PAIR_STATUS_MESSAGE (R542, R544, R549, R553, R564): a partner whose own state has left SYNCHRONISED needs a full image again (DEDUCED, assumption
49). -/
def execPairStatusMessage (status : PartnerStatus) (s : State) : Host.Outcome State Fault Refusal :=
  if s.pair.link = false ∨ s.partnerConfigured = false then .next s
  else if s.pair.sync = SYNC_DOWN then .next (s.formPair status)
  else
    let fell := s.isPaired && s.hasLease && !status.synchronised && (s.pair.partner.map PartnerStatus.synchronised) == some true
    let t := s.updPair fun x => { x with partner := some status, statusAt := s.now }
    let t := if fell then t.setSync SYNC_SYNCING else t
    .next (((t.noteSplit).switchDone status).claimLapsed)

/-! ### The state image (R548, R549) -/

/-- IFLAGS of an image. -/
def PairImage.iflags (m : PairImage) : Nat := (if m.lockstep then 1 else 0) + (if m.split then 2 else 0) + (if m.pfw then 4 else 0)

/-- Sends one image. -/
def State.sendImage (s : State) (kind segment segments : Nat) : State :=
  let m := s.buildImage kind segment segments
  let n := s.pair.imgSent + 1
  (s.emit (.pairImage kind m.iflags m.siteCycle m.epoch segment segments)).updPair fun x =>
    { x with imgSent := n, outst := x.outst ++ [(n, m.siteCycle, s.now)], sentCycle := some m.siteCycle, lastSent := some m,
             finalWanted := if kind = 2 then false else x.finalWanted, finalImage := if kind = 2 then some n else x.finalImage }

/-- IMAGE_SEND (R548, R549, R552): once per site cycle by a module that holds a lease, and a segment of the full image beside it. -/
def execImageSend (s : State) : Host.Outcome State Fault Refusal :=
  if s.pair.sync < SYNC_SYNCING ∨ s.hasLease = false ∨ s.pair.sentCycle = some s.pair.siteCycle then .next s
  else
    let t := s.sendImage (if s.pair.finalWanted then 2 else 0) 0 0
    if t.pair.sync = SYNC_SYNCING ∧ 0 < t.pair.fullLeft then
      .next ((t.sendImage 1 (t.pair.fullOf - t.pair.fullLeft) t.pair.fullOf).updPair fun x => { x with fullLeft := x.fullLeft - 1 })
    else .next t

/-- An image that completes what a module may resume from (R550): the last segment of a full image, or a cycle image of a synchronised pair; in
lockstep the cycle images carry no engine state, which the standby has itself (R559). -/
def State.completes (s : State) (m : PairImage) : Bool :=
  (m.kind == 1 && m.segment + 1 == m.segments) || (m.kind != 1 && s.isPaired)

/-- An image of the partner comes in (R549 to R552): it is acknowledged; what the module keeps of it follows its role, its kind and whether it completes what came before. -/
def State.imageIn (s : State) (image : PairImage) : State :=
  let gap := image.kind != 1 && (s.pair.imageCycle.map fun c => image.siteCycle != (c + 1) % 2 ^ 32) == some true
  let t := if gap ∧ s.isPaired then s.setSync SYNC_SYNCING else s
  let t := t.emit (.pairAck image.siteCycle)
  let t := t.updPair fun x => { x with imgReg := image.siteCycle, imageCycle := if image.kind = 1 then x.imageCycle else some image.siteCycle }
  let t := if t.isActive then t else t.takeConfig image
  let t := if t.pair.role = ROLE_STANDBY ∧ t.pair.ownEngines = false ∧ (image.lockstep = false ∨ image.kind = 1) then (t.takeLedger image).lvTerms else t
  let t := if t.completes image then t.updPair fun x => { x with image := some (image.merged x.image), imageAt := some s.now } else t
  if image.kind = 1 ∧ image.segment + 1 = image.segments ∧ t.hasLease = false then
    let t := t.setSync SYNC_SYNCHRONISED
    if t.pair.lockstep then (t.resumeEngines image).updPair fun x => { x with ownEngines := true } else t
  else t

/-- IMAGE_RECEIVED (R548, R549, R559): the image is acknowledged; a gap in SITE_CYCLE ends the synchronisation; the last segment of a full image makes a
module without a lease SYNCHRONISED, in lockstep mode with its engines loaded. -/
def execImageReceived (image : PairImage) (s : State) : Host.Outcome State Fault Refusal :=
  if s.pair.link = false ∨ s.pair.sync < SYNC_SYNCING then .next s else .next (s.imageIn image)

/-- The responses to vehicles whose image has been acknowledged go out (R294). -/
def State.flushTx (s : State) : State :=
  s.releaseTx s.pair.imgAcked

/-- ACK_US and ACK_US_MAX (R568): the longest time of a full second shows once that second is over. -/
def Pair.noteAck (x : Pair) (now took : Nat) : Pair :=
  let v := min took 65535
  if x.ackSecond + sec ≤ now then { x with ackUs := v, ackUsMax := x.ackUsRun, ackUsRun := v, ackSecond := now }
  else { x with ackUs := v, ackUsRun := max x.ackUsRun v }

/-- Image `n`, sent at `at'`, is acknowledged (R549, R552): what waited for it is sent, a full image that is complete synchronises the pair, and the final one ends a release. -/
def State.imageAcked (s : State) (n at' siteCycle : Nat) : State :=
  let t := s.updPair fun x =>
    { x.noteAck s.now ((s.now - at') / us) with imgAcked := max x.imgAcked n, imgReg := siteCycle, ackedCycle := siteCycle,
                                                outst := x.outst.filter fun e => e.1 != n }
  let t := t.flushTx
  let t := if t.pair.sync = SYNC_SYNCING ∧ t.pair.fullLeft = 0 ∧ t.pair.outst.isEmpty then t.setSync SYNC_SYNCHRONISED else t
  match t.pair.finalImage with
    | some k => if k ≤ t.pair.imgAcked then t.dropFinal else t
    | none => t

/-- IMAGE_ACK (R62, R294, R549, R552): the oldest image of the site cycle is acknowledged. -/
def execImageAck (siteCycle : Nat) (s : State) : Host.Outcome State Fault Refusal :=
  match s.pair.outst.find? fun e => e.2.1 == siteCycle with
  | none => .next s
  | some (n, _, at') => .next (s.imageAcked n at' siteCycle)

/-- IMAGE_ACK_TIMEOUT (R549): an image is not acknowledged within 2 ms; a final image is sent again. -/
def execImageAckTimeout (s : State) : Host.Outcome State Fault Refusal :=
  match s.pair.outst.head? with
  | none => .next s
  | some (_, _, at') =>
    if at' + 2 * ms ≤ s.now ∧ SYNC_SYNCING ≤ s.pair.sync then
      .next ((s.setSync SYNC_SYNCING).updPair fun x => { x with outst := [], finalWanted := x.finalWanted || x.finalImage.isSome, finalImage := none })
    else .next s

/-! ### Giving up (R545, R547) -/

/-- The condition of a row of R545 that self-diagnosis watches; rows 7 and 8 belong to PAIR_SWITCHOVER and HEAL, row 1 to the watchdog. -/
def State.givesUp (s : State) (row : Nat) : Bool :=
  let p := s.partnerSeen
  match row with
  | 2 => s.trigger 2 && s.partnerReady
  | 3 => s.trigger 3
  | 4 => s.trigger 4
  | 5 => s.trigger 5 && s.partnerReady && (p.map fun x => x.ringA != 3 || x.ringB != 3) == some true
  | 6 => s.trigger 6 && s.partnerReady && (p.map fun x => !x.pfw) == some true
  | _ => false

/-- GIVE_UP (R545): a trigger acts; the row of the DRAM error resets the application complex as the watchdog does. -/
def execGiveUp (row : Nat) (s : State) : Host.Outcome State Fault Refusal :=
  if s.givesUp row ∧ s.pair.outCause ≠ row ∧ s.pair.role ≠ ROLE_OUT ∧ (s.pair.role ≠ ROLE_RELEASING ∨ row ≤ 4) then
    let t := s.giveUp row
    .next (if row = 2 then t.resetAt 1 7 s.now else t)
  else .next s

/-- START_WAIT_EXPIRY (R544). -/
def execStartWaitExpiry (s : State) : Host.Outcome State Fault Refusal :=
  match s.pair.firstScan with
  | some t =>
    if t + s.pms PAR_PAIR_START_WAIT_MS ≤ s.now ∧ s.pair.waitDone = false then .next ((s.updPair fun x => { x with waitDone := true }).claimLapsed)
    else .next s
  | none => .next s

/-! ### Split and heal (R553 to R558) -/

/-- The instances of nodes that the partner held, as its image has them (R557). -/
def State.healInsts (s : State) (m : PairImage) (moved : Nat → Bool) : Tab Inst :=
  (m.insts.keep fun i _ => coefNode (s.coef i) != 0 && moved (coefNode (s.coef i))).foldl
    (fun (t : Tab Inst) e => t.set e.1 (resumeInst (s.inst e.1) e.2)) s.bas.insts

/-- The partner's ledger slots of consumers that have none here, under free numbers (R557). -/
def healSlots (own m : Tab LvSlot) : Tab LvSlot :=
  (resumeSlots m).foldl (fun (t : Tab LvSlot) e =>
    if t.any fun x => x.2.consumer == e.2.consumer then t
    else match if (t.get? e.1).isNone then some e.1 else t.freeFrom 0 512 with
      | some k => t.set k e.2
      | none => t) own

/-- The partner's contexts whose outlets have none here, under free numbers; a reading that is open there is opened again here and carries TAKEOVER
(R359, R557, R558; DEDUCED, assumption 50). -/
def State.healCtxs (s : State) (m : PairImage) (moved : Nat → Bool) : Tab Ctx :=
  (m.ctxs.keep fun _ c => moved (outNode (s.outletRec c.outlet))).foldl (fun (t : Tab Ctx) e =>
    if t.any fun x => x.2.outlet == e.2.outlet then t
    else
      let c := { resumeCtx e.2 with reading := if e.2.reading = 2 then 1 else e.2.reading }
      match if (t.get? e.1).isNone then some e.1 else t.freeFrom 0 256 with
      | some k => t.set k c
      | none => t) s.ses.ctxs

/-- The keeping module takes the objects of the nodes that the partner held from the partner's image (R557). -/
def State.healMerge (s : State) : State :=
  match s.pair.image with
  | none => s
  | some m =>
    let moved (n : Nat) : Bool := ((m.nodes.get? n).map Node.leased).getD false && !s.holds n
    let stages := (m.stages.keep fun o _ => moved (o % 65536)).foldl (fun (t : Tab Stage) e => t.set e.1 (resumeStage e.2)) s.stg.stages
    let circuits := (m.circuits.keep fun c _ => moved (fld (s.circuitRec c) 2 2)).foldl (fun (t : Tab Circuit) e => t.set e.1 e.2) s.cool.circuits
    { s with bas := { s.bas with insts := s.healInsts m moved }, stg := { s.stg with stages := stages }, cool := { s.cool with circuits := circuits },
             ses := { s.ses with ctxs := s.healCtxs m moved }, lv := { s.lv with slots := healSlots s.lv.slots m.slots } }

/-- RELEASE_MESSAGE (R546, R547, R556): the partner has released under an epoch. The standby emits from there and claims; the keeping module of a heal
merges the partner's image, releases its own nodes and raises its epoch. -/
def execReleaseMessage (epoch _siteCycle : Nat) (s : State) : Host.Outcome State Fault Refusal :=
  if s.pair.link = false then .next s
  else
    let t := s.portsOwn.updPair fun x => { x with released := some epoch }
    if t.pair.healing ∧ t.isActive then
      .next { t.healMerge with ring := { t.ring with raiseTo := some (max t.ring.epoch epoch + 1), raiseLeft := 3 } }
    else if t.pair.role = ROLE_STANDBY then
      .next ({ t with ring := { t.ring with epoch := max t.ring.epoch (epoch + 1) } }.claimLapsed)
    else .next t.claimLapsed

/-- This module keeps control at a heal (R555): it holds the anchor node; with neither holding it, the larger H, and on a tie position 0. -/
def State.keeps (s : State) (p : PartnerStatus) : Bool :=
  if s.holdsAnchor then true
  else if p.anchor then false
  else if s.lvH ≠ p.heldShare then decide (p.heldShare < s.lvH)
  else s.pn PAR_PAIR_POSITION == 0

/-- HEAL (R554 to R556): it begins when both modules are ACTIVE, the link is SYNCHRONISED both ways, and HEAL_SEEN has reached both. The yielding module
releases with a final image; the keeping one waits for that release. -/
def execHeal (s : State) : Host.Outcome State Fault Refusal :=
  match s.partnerSeen with
  | none => .next s
  | some p =>
    if s.isActive ∧ p.role = ROLE_ACTIVE ∧ s.isPaired ∧ p.synchronised ∧ s.pair.healSeen ∧ p.healSeen ∧ s.pair.healing = false then
      if s.keeps p then .next (s.updPair fun x => { x with healing := true })
      else .next ((s.beginFinal 8).updPair fun x => { x with healSeen := false })
    else .next s

/-- SWITCH_DUE (R551): PAIR_SWITCH_DAYS since the last takeover or switchover, on an active module with a partner, and again once a day. -/
def execSwitchDue (s : State) : Host.Outcome State Fault Refusal :=
  let days := (s.now - s.pair.switchAt) / (24 * hour)
  if s.isActive ∧ s.partnerConfigured ∧ s.pn PAR_PAIR_SWITCH_DAYS ≤ days ∧ (s.pair.switchDue = false ∨ s.pair.switchDueAt + 24 * hour ≤ s.now) then
    .next ((s.updPair fun x => { x with switchDue := true, switchDueAt := s.now }).raise 0x13 0x000A days)
  else .next s

/-! ### Lockstep (R559, R560) -/

/-- The host commands that change the state of Basalt, the leave arbiter or the cooling observer (R559). -/
def engineBody (opcode : Nat) : InFlight → State → State :=
  match opcode with
  | 0x0300 => leaveRequest
  | 0x0301 => leaveChangeCmd
  | 0x0302 => leaveReleaseCmd
  | 0x0310 => lvGridSet
  | 0x0311 => lvCapmapSet
  | 0x0312 => lvShareSet
  | 0x0500 => basLoad
  | 0x0501 => basArm
  | 0x0502 => basFreeze
  | 0x0503 => basDisarm
  | 0x0504 => basRefSet
  | 0x0505 => basHandover
  | 0x0507 => basRep
  | 0x0800 => coolConfig
  | 0x0801 => coolStart
  | 0x0802 => coolStop
  | 0x0803 => coolReset
  | _ => fun _ t => t

/-- A cooling sample that is forwarded. -/
def State.lockSample (s : State) (e : Nat × CoolSample) : State :=
  match execCoolingSample e.1 e.2.tIn e.2.tOut e.2.flow e.2.pump e.2.pin0 e.2.pin1 s with
  | .next t => t
  | _ => s

/-- A window and the events of the engines, on a module that acts as the active one does. -/
def State.lockRun (s : State) (x : LockInputs) : State :=
  let cmd (t : State) (d : Desc) : State :=
    let c : InFlight := { uid := t.mbx.nextUid, q := 16, entry := 0, desc := d, phase := .running }
    engineBody d.opcode c { t with mbx := { t.mbx with inflight := t.mbx.inflight ++ [c], nextUid := t.mbx.nextUid + 1 } }
  let t := { s with bas := { s.bas with site := x.site } }
  let t := x.commands.foldl cmd (t.windowEffects.runSites x.window)
  let t := x.frames.foldl (fun (u : State) e => u.runNode e.1 e.2.1 (some e.2.2)) t
  let t := x.missed.foldl (fun (u : State) e => u.runNode e.1 e.2 none) t
  let t := x.polls.foldl (fun (u : State) e => (u.runDue e.1 e.2.1 e.2.2).1) t
  let t := x.samples.foldl State.lockSample t
  let t := if x.observer then (t.cool.recs.keys.foldl State.circuitCycle t).handLimits else t
  { t with lv := { t.lv with arrivals := t.lv.arrivals ++ x.events } }.arbitrate

/-- The standby acts for its engines as the active module does, over the hub as that module's image shows it. -/
def State.asActive (s : State) : State :=
  { s with pair := { s.pair with role := ROLE_ACTIVE, partner := none, sync := SYNC_DOWN, lockstep := false },
           ring := { s.ring with nodes := (s.pair.image.map PairImage.nodes).getD s.ring.nodes, epoch := (s.pair.image.map PairImage.epoch).getD s.ring.epoch } }

/-- The standby's engines over one window's INPUTS (R559): nothing leaves them. -/
def State.lockstep (s : State) (x : LockInputs) : State :=
  let t := s.asActive.lockRun x
  { s with bas := t.bas, lv := { t.lv with answers := [] }, cool := t.cool, fresh := t.fresh }

/-- The standby's own digest of a window (R560), over the loop frames that it would have inserted and its ledger. -/
def State.ownDigest (s : State) (x : LockInputs) : Nat :=
  let t := s.asActive.lockRun x
  t.lockDigest ((t.out.take (t.out.length - s.out.length)).reverse.filterMap fun e => match e with
    | .loopFrame _ b _ => some b
    | _ => none)

/-- LOCKSTEP_INPUTS (R559, R560): on a standby in lockstep the engines evaluate the window; when its digest differs from the active module's, it
leaves lockstep with PAIR_DIVERGED and synchronises again. -/
def execLockstepInputs (inputs : LockInputs) (s : State) : Host.Outcome State Fault Refusal :=
  if s.pair.role = ROLE_STANDBY ∧ s.pair.lockstep ∧ s.pair.ownEngines then
    let t := s.lockstep inputs
    if inputs.digest = s.ownDigest inputs then .next t
    else .next (((t.setSync SYNC_SYNCING).updPair fun x => { x with diverged := x.diverged + 1, ownEngines := false, image := none, imageAt := none }).raise
      0x13 0x0009 inputs.window)
  else .next s

/-! ### Registers and commands (R563, R564, R568) -/

/-- Days since the last takeover or switchover, saturating (R568). -/
def State.switchDays (s : State) : Nat := min 65535 ((s.now - s.pair.switchAt) / (24 * hour))

/-- PAIR_STAT (R568). -/
def State.pairStat (s : State) : Nat :=
  let b (v : Bool) (k : Nat) : Nat := if v then 2 ^ k else 0
  s.pair.mismatch * 2 ^ 24 + b s.pair.split 19 + b s.holdsAnchor 18 + b ((s.pair.partner.map PartnerStatus.pfw) == some true) 17 + b s.pair.switchDue 16 +
    s.pair.role * 256 + s.pair.sync * 8 + b s.pair.lockstep 2 + s.pn PAR_PAIR_POSITION * 2 + b s.pair.link 0

/-- PAIR_HELD (R568). -/
def State.pairHeld (s : State) : Nat := ((s.pair.partner.map PartnerStatus.held).getD 0) % 65536 * 65536 + s.heldCount

/-- The epoch of R168: 0 while the module holds no lease. -/
def State.ownEpoch (s : State) : Nat := if s.hasLease then s.ring.epoch else 0

/-- What PAIR_STATUS returns of the partner (R563). -/
def partnerRecord (p : PartnerStatus) : List Byte :=
  padTo 16 p.identity ++ pack [(2, p.proto), (1, p.position), (1, p.role), (1, 4 * p.ringA + 16 * p.ringB)] ++ List.replicate 11 0

/-- The effect of PAIR_STATUS (R563). -/
def pairStatus (c : InFlight) (s : State) : State :=
  let p := s.pair.partner.getD {}
  let r := pack [(4, s.pairStat), (4, s.pairHeld), (4, s.ownEpoch), (4, p.epoch)]
  if 32 ≤ c.desc.dataLen then s.answer c r (partnerRecord p) else s.answer c r []

def execPairStatus (q tag : Nat) (s : State) : Host.Outcome State Fault Refusal := startCommand 0x1300 q tag s pairStatus

/-- The effect of PAIR_SWITCHOVER up to its release (R552, R564). The 10 ms run from the command's start (DEDUCED, assumption 48). -/
def pairSwitchover (c : InFlight) (s : State) : State :=
  let healthy := s.partnerReady && (s.partnerSeen.map PartnerStatus.selfTest) == some true
  if healthy = false then s.fail c.uid ST_NO_PARTNER
  else if s.pair.split ∨ s.pair.healing then s.fail c.uid ST_BUSY
  else
    let limit := s.now + 10 * ms + (if s.plc.master then 3 * s.pms PAR_PLC_CYCLE_MS else 0)
    (s.beginFinal 7).updPair fun x => { x with switchCmd := some (c.uid, s.heldCount, limit) }

def execPairSwitchover (q tag : Nat) (s : State) : Host.Outcome State Fault Refusal := startCommand 0x1301 q tag s pairSwitchover

end Sys2Proof.Machine
end

