-- ==== Sys2Proof/Machine/Connectors.lean ====
section
/-!
DEFINITION. Pins and cages (chapter 22): optical modules and PPS_OUT.
-/
namespace Sys2Proof.Machine

/-- Rates in Mbit/s that suit a cage, 0 to 5 for X1 to X6: X1 to X5 25,781, X6 10,312 or 25,781 (R610, R611). -/
def opticFits (cage rate : Nat) : Bool := rate == 25781 || (cage == 5 && rate == 10312)

/-- OPTICAL_MODULE_INSERTED (R611): the transmitter is enabled if the module's rate suits the cage. Without it X1 to X4 show no lock, which is a
break of the span, and X5 loses the pair link. -/
def execOpticalModuleInserted (cage : Nat) (present : Bool) (rateMbit : Nat) (s : State) : Host.Outcome State Fault Refusal :=
  if 5 < cage then .next s
  else
    let tx := present && opticFits cage rateMbit
    let o : Optic := if present then { present := true, rate := rateMbit, tx := tx } else {}
    let t := { s with pins := { s.pins with optics := s.pins.optics.set cage o } }
    if tx then .next t
    else if cage = 4 then .next (t.pairLost.updPair fun x => { x with link := false })
    else .next (t.cageLock cage false)

/-- PPS_SECOND (R596): PPS_OUT is high for the first 100 ms of each whole second of system time, and low until that time has first locked
after the start; `rising` says which of its two moments has come. -/
def execPpsSecond (rising : Bool) (s : State) : Host.Outcome State Fault Refusal :=
  if decide (s.sysTime % sec < 100 * ms) = rising then .next { s with pins := { s.pins with ppsOut := rising && s.mbx.timeLocked } } else .next s

/-! ### What the output pins show (R596, R597, R600, R601) -/

/-- An output pin of J1 (R596) between frames and management accesses. Until its block has started, and from the end of its domain's holdup on, it is at its reset state
(R597): every field that it shows is at reset then. Pins of no output of the table show nothing. -/
def State.j1Pin (s : State) (pin : Nat) : PinLevel :=
  let up := s.sys.powered.getLsbD 0 && (s.sys.pg || s.sys.pfw)
  let level (on : Bool) : PinLevel := if on && up then .high else .low
  let sinks (on : Bool) : PinLevel := if on && up then .low else .off
  match pin with
  | 56 => level s.pins.ppsOut
  | 58 => level s.sys.pg
  | 59 => if s.sys.pfw && up then .low else .high
  | 61 => .low
  | 63 => level s.pins.ethPhyRstN
  | 65 | 68 | 71 | 74 => .high
  | 67 | 70 | 73 | 76 => if up && s.canModeNow ((pin - 67) / 3) != 0 then .low else .high
  | 77 => sinks s.sys.ready
  | 78 => sinks s.isActive
  | 79 => sinks s.isDegraded
  | 80 => sinks (s.obs.lifecycle == 4 || s.grn.safeState || s.sys.recovery)
  | _ => .off

/-- A pulse output between pulses conducts only with POLARITY 1, from Jasper's first tick until its power-down; LEG0 and LEG1, which are 0 and 1, never (R600). -/
def State.pulseConducts (s : State) (m : Nat) : Bool :=
  let p := s.met.pulses.getD m {}
  s.met.ready && decide (0 < s.met.ticks) && decide (2 ≤ m) && !allZero p.cfg && fld p.cfg 3 1 == 1

/-- Both switches of SOUTn are closed (R496, R601). -/
def State.soutClosed (s : State) (n : Nat) : Bool := s.sys.powered.getLsbD 1 && (s.grn.outputs.getD n {}).closed

end Sys2Proof.Machine
end

