-- ==== Sys2Proof/Machine/Nv.lean ====
section
/-!
DEFINITION. User images (chapter 03): NV_STORE, NV_SELECT, NV_COMMIT, NV_STATUS, NV_EXPORT, NV_IMPORT, their work leave, and the
system log.
-/
namespace Sys2Proof.Machine

/-! ### The image in a slot (R82, R83) -/

/-- A 12-byte record of an image (R82). -/
def imageRecord (e : Nat × Int) : List Byte := pack [(2, e.1), (2, 0)] ++ leInt 8 e.2

/-- An entry of the host table in block 0x01: 48 bytes (R82). -/
def hostBytes (e : Nat) (h : HostEntry) : List Byte :=
  pack [(4, 0), (1, e), (1, 0), (1, h.transport), (1, h.cls), (2, h.roles.toNat), (2, h.queueMask.toNat), (1, h.depth), (1, h.reserve), (2, h.sharedCap)] ++
  padTo 32 h.identity

/-- A block of the table section: TABLE_ID, LENGTH and the table (R82). -/
def tableBlock (id : Nat) (b : List Byte) : List Byte := pack [(2, id), (4, b.length)] ++ b

/-- Records of one size in ascending order. -/
def recsBytes (n : Nat) (t : Tab Rec) : List Byte := t.flatMap fun e => padTo n e.2

/-- The table section (R82), block by block in ascending TABLE_ID; what a chapter does not lay out is DEDUCED (assumption 117). -/
def tableBytes (t : ImgTables) : List Byte :=
  tableBlock 0x01 ((List.range 16).flatMap fun e => hostBytes e (t.hosts.getD e {})) ++
  tableBlock 0x03 (recsBytes 72 t.capmaps ++ t.shares.flatMap fun e => pack [(2, e.1), (2, e.2)]) ++
  tableBlock 0x04 (recsBytes 32 t.nodes) ++
  tableBlock 0x05 ((List.range 2048).flatMap fun i => padTo 64 (t.coeffs.getD i [])) ++
  tableBlock 0x07 (recsBytes 224 t.cabinets) ++ tableBlock 0x08 (recsBytes 64 t.circuits) ++ tableBlock 0x09 (recsBytes 64 t.outlets) ++
  tableBlock 0x0D (t.overrides.flatMap (padTo 16)) ++ tableBlock 0x0E (padTo 136 t.plcMask) ++
  tableBlock 0x0F ((List.range 4).flatMap fun n => padTo 512 (t.can.getD n [])) ++
  tableBlock 0x12 ((List.range 512).flatMap fun k => leBytes 1 (t.reactions.getD k (((sourceRow k).map SourceRow.dflt).getD 0)))

/-- The body: records, then the table section (R82). -/
def Slot.body (x : Slot) : List Byte := x.records.flatMap imageRecord ++ tableBytes x.tables

/-- Bytes of the table section (R82) (R82): a block of 6 bytes and the table for each TABLE_ID. -/
def tablesLen (t : ImgTables) : Nat :=
  6 + 16 * 48 + 6 + 72 * t.capmaps.length + 4 * t.shares.length + 6 + 32 * t.nodes.length + 6 + 2048 * 64 + 6 + 224 * t.cabinets.length +
  6 + 64 * t.circuits.length + 6 + 64 * t.outlets.length + 6 + 16 * t.overrides.length + 6 + 136 + 6 + 2048 + 6 + 512

/-- Bytes 0 to 59 of a stored image's header, STATE taken as 0xFF (R82). -/
def Slot.header (x : Slot) : List Byte :=
  pack [(4, x.magic), (2, x.format), (2, x.dictVersion), (2, x.part), (1, 0xFF), (1, x.flags), (4, x.seq), (4, x.serial)] ++ padTo 16 x.target ++
  pack [(4, x.records.length), (4, tablesLen x.tables), (2, x.signer), (10, 0), (4, x.bodyCrc)]

/-- HDR_CRC computed afresh (R82, R94). -/
def Slot.resealed (x : Slot) : Slot := { x with hdrCrc := crc32 x.header }

/-- The header that a store writes over an image: identification and both CRCs (R82, R84). -/
def Slot.sealed (x : Slot) : Slot :=
  { x with magic := 0x4D49564E, format := 1, dictVersion := Config.dictVersion % 65536, part := 0x9100, target := List.replicate 16 0,
           signer := 0, bodyCrc := crc32 x.body }.resealed

/-- The magic and both CRCs hold (R83). -/
def Slot.intact (x : Slot) : Bool := x.magic == 0x4D49564E && x.bodyCrc == crc32 x.body && x.hdrCrc == crc32 x.header

/-- The header sector erased (R81). -/
def Slot.erased (x : Slot) : Slot := { x with state := IMG_EMPTY, magic := 0xFFFFFFFF, bodyCrc := 0xFFFFFFFF, hdrCrc := 0xFFFFFFFF, written := true }

/-- A slot as the module finds it: EMPTY where its header or a CRC fails, whatever its STATE says (R83). -/
def Slot.found (x : Slot) : Slot := if x.state = IMG_EMPTY ∨ x.intact then x else { x with state := IMG_EMPTY }

/-! ### A store -/

/-- Segments of 64 KiB that an image takes (R90). -/
def segmentsOf (records : Tab Int) (t : ImgTables) : Nat := ceilDiv (4096 + 12 * records.length + tablesLen t) 65536

/-- The target slot of a store (R90). -/
def State.storeTarget (s : State) : Nat :=
  match s.par.active with
  | none => 0
  | some n => if (s.slot n).state = IMG_COMMITTED then 1 - n else n

/-- SEQ of a store: the active one plus 1, or 1 (R90). -/
def State.storeSeq (s : State) : Nat := match s.par.active with
  | none => 1
  | some n => (s.slot n).seq + 1

/-- Erases the header sector of a slot and counts it: at NV_WEAR_WARN, and at every later erase (DESIGN CHOICE, assumption 112), the wear event and source are
raised (R81, R100). -/
def State.eraseSlot (s : State) (n : Nat) : State :=
  let x := s.slot n
  let t := s.setSlot n { x.erased with erases := x.erases + 1 }
  if s.pn PAR_NV_WEAR_WARN ≤ x.erases + 1 then (t.raise 0x02 0x0003 n).report SRC_NV_WEAR 0 else t

/-- Begins an NV operation: it waits for its first work leave (R90, R94, R95). -/
def State.beginNv (s : State) (kind uid target : Nat) (image : Slot) : State :=
  let op : NvOp := { kind := kind, uid := uid, target := target, wasActive := s.par.active, askAt := s.now, image := image }
  ({ s with par := { s.par with op := some op } }).askHoldup false .nvOp

/-- The effect of NV_STORE (R90, R91). -/
def nvStore (c : InFlight) (s : State) : State :=
  if s.par.op.isSome then s.fail c.uid ST_BUSY else s.beginNv 1 c.uid s.storeTarget {}

def execNvStore (q tag : Nat) (s : State) : Host.Outcome State Fault Refusal := startCommand 0x0210 q tag s nvStore

/-- An entry flagged PAIR_LOCAL. -/
def isPairLocal (id : Nat) : Bool := ((parEntry id).map ParEntry.pairLocal).getD false

/-- The image that a store writes, taken when the first segment is granted (R90); an import brings its own records (R98). The standby's part of a store
takes the values of the active module and its own PAIR_LOCAL ones (R92). -/
def State.takeImage (s : State) (op : NvOp) : Slot :=
  let recs := if op.kind = 4 then op.image.records else match op.given with
    | none => s.snapshotRecords
    | some g => g.foldl (fun (t : Tab Int) (e : Nat × Int) => t.set e.1 e.2) (s.snapshotRecords.keep fun id _ => isPairLocal id)
  { state := IMG_TRIAL, flags := op.image.flags, seq := s.storeSeq, serial := op.image.serial, records := recs, tables := s.currentTables,
    erases := (s.slot op.target).erases, written := true }

/-- The active slot after a store that failed once begun (R90). -/
def State.activeAfterFail (s : State) (op : NvOp) : Option Nat :=
  if op.wasActive = some op.target then (if (s.slot (1 - op.target)).state = IMG_COMMITTED then some (1 - op.target) else none)
  else op.wasActive

/-- Ends a store that failed: once begun, the target slot is EMPTY (R90). -/
def State.failNv (s : State) (op : NvOp) (st : Nat) : State :=
  let t := if op.begun then
      let u := s.setSlot op.target { (s.slot op.target).erased with records := [], tables := {} }
      { u with par := { u.par with active := u.activeAfterFail op } }
    else s
  let t := { t with par := { t.par with op := none } }
  ((t.dropWork .nvOp).endWork .nvOp).fail op.uid st

/-- RESULT of NV_STORE (R92): SLOT, PARTNER_STATUS, SEQ and RECORDS. -/
def storeResult (op : NvOp) (x : Slot) : List Byte := pack [(1, op.target), (1, 0xFF), (2, 0), (4, x.seq), (4, x.records.length)]

/-- The end of a store (R90): STATE is programmed TRIAL, the slot is active, and the live values it stored are cleared; an import
clears every live value of an entry that is not PAIR_LOCAL (R98). -/
def State.finishStore (s : State) (op : NvOp) : State :=
  let t := s.setSlot op.target { op.image.sealed with erases := (s.slot op.target).erases }
  let keep (id : Nat) (v : Int) : Bool := if op.kind = 4 then isPairLocal id else op.took.get? id != some v
  let t := { t with par := { t.par with active := some op.target, op := none, live := t.par.live.keep keep,
                                         serials := if op.kind = 4 then t.par.serials.set op.signer op.image.serial else t.par.serials } }
  match t.cmd? op.uid with
  | some c => t.okForwarded c (storeResult op op.image) 17 0
      (some ⟨op.image.records.keep fun id _ => !isPairLocal id, op.image.flags, op.image.serial, op.signer⟩)
  | none => t

/-- NV_STORE_SEGMENT (R90): under its HOLDUP grant the next 64 KiB is written; the first grant takes the snapshot. `verified`:
what the read-back of the slot gives. -/
def execNvStoreSegment (verified : Bool) (s : State) : Host.Outcome State Fault Refusal :=
  match s.par.op with
  | none => .next s
  | some op =>
    if (op.kind = 1 ∨ op.kind = 4) ∧ s.hasGrant .nvOp then
      let op1 := if op.begun then op
        else { op with begun := true, image := s.takeImage op, left := max 1 (segmentsOf (s.takeImage op).records s.currentTables), took := s.par.live }
      let t := if op.begun then s else s.eraseSlot op.target
      let op2 := { op1 with left := op1.left - 1 }
      let t := { t with par := { t.par with op := some op2 } }
      let t := t.endWork .nvOp
      if verified = false then .next ((t.failNv op2 ST_NV_FAIL).report SRC_NV_FAIL 0)
      else if op2.left = 0 then .next (t.finishStore op2)
      else
        let op3 := { op2 with askAt := t.now }
        .next (({ t with par := { t.par with op := some op3 } }).askHoldup false .nvOp)
    else .next s

/-- NV_LEAVE_WAIT_EXPIRY (R90, R94, R95): the waits for work leave have reached NV_LEAVE_WAIT_MS. -/
def execNvLeaveWaitExpiry (s : State) : Host.Outcome State Fault Refusal :=
  match s.par.op with
  | none => .next s
  | some op =>
    if s.awaits .nvOp ∧ s.pms PAR_NV_LEAVE_WAIT_MS ≤ op.waited + (s.now - op.askAt) then .next (s.failNv op ST_NO_LEAVE)
    else .next s

/-! ### Selecting and committing -/

/-- The effect of NV_SELECT up to its wait for work leave (R94). -/
def nvSelect (c : InFlight) (s : State) : State :=
  let n := c.desc.u 32 1
  if s.par.op.isSome then s.fail c.uid ST_BUSY
  else if 1 < n then s.fail c.uid ST_BAD_PARAM
  else if s.par.active = some n then s.okMirrored c [] 17 0
  else if (s.slot n).state ≠ IMG_COMMITTED then s.fail c.uid ST_BAD_PARAM
  else s.beginNv 2 c.uid n {}

def execNvSelect (q tag : Nat) (s : State) : Host.Outcome State Fault Refusal := startCommand 0x0211 q tag s nvSelect

/-- The effect of NV_COMMIT up to its wait for work leave (R95). -/
def nvCommit (c : InFlight) (s : State) : State :=
  if s.par.op.isSome then s.fail c.uid ST_BUSY
  else match s.par.active with
    | none => s.okMirrored c [] 17 0
    | some n => if (s.slot n).state = IMG_COMMITTED then s.okMirrored c [] 17 0 else s.beginNv 3 c.uid n {}

def execNvCommit (q tag : Nat) (s : State) : Host.Outcome State Fault Refusal := startCommand 0x0212 q tag s nvCommit

/-- A slot whose header NV_SELECT has written again: STATE, SEQ and HDR_CRC are new (R94). -/
def State.rewritten (s : State) (n : Nat) : Slot :=
  let x := s.slot n
  { x with state := IMG_COMMITTED, seq := (s.slot (1 - n)).seq + 1, erases := x.erases + 1, written := true }.resealed

/-- The rewrite of a selected slot's header, and the rejection of a trial slot that was active (R94). -/
def State.selectSlot (s : State) (n : Nat) (was : Option Nat) : State :=
  let t := (s.eraseSlot n).setSlot n (s.rewritten n)
  let t := { t with par := { t.par with active := some n } }
  match was with
  | some m =>
    if (t.slot m).state = IMG_TRIAL ∨ (t.slot m).state = IMG_BOOTED then
      (t.setSlot m { t.slot m with state := IMG_REJECTED }).raise 0x02 0x0001 m
    else t
  | none => t

/-- The end of the one work-leave operation of NV_SELECT or NV_COMMIT (R94, R95). -/
def nvOpDone (s : State) : State :=
  match s.par.op with
  | none => s
  | some op =>
    let t := { s with par := { s.par with op := none } }
    let t := if op.kind = 2 then t.selectSlot op.target op.wasActive
      else if op.kind = 3 then t.setSlot op.target { t.slot op.target with state := IMG_COMMITTED } else t
    match t.cmd? op.uid with
    | some c => if op.kind = 2 ∨ op.kind = 3 then t.okMirrored c [] 17 0 else s
    | none => t

/-- A STATE programming of a start (R85): the slot becomes BOOTED from TRIAL, REJECTED from BOOTED, with IMAGE_ROLLBACK, and the
other slot becomes active if it is COMMITTED. -/
def bootProgramDone (n : Nat) (s : State) : State :=
  if (s.slot n).state = IMG_BOOTED then
    let t := (s.setSlot n { s.slot n with state := IMG_REJECTED }).raise 0x02 0x0001 n
    { t with par := { t.par with active := if (t.slot (1 - n)).state = IMG_COMMITTED then some (1 - n) else none } }
  else if (s.slot n).state = IMG_TRIAL then s.setSlot n { s.slot n with state := IMG_BOOTED }
  else s

/-! ### NV_STATUS -/

/-- BOOT_PENDING: a BOOT entry's stored or live value differs from its running value (R96). -/
def State.bootPending (s : State) : Bool := dictionary.any fun e =>
  e.apply == 1 && !e.isIsland && ((s.imageVal e.id).getD e.dflt != s.pv e.id || (s.par.live.getD e.id (s.pv e.id)) != s.pv e.id)

/-- The effect of NV_STATUS (R96). LIVE_PENDING is set by any live value, also by one equal to the stored value (DESIGN CHOICE, assumption 113). -/
def nvStatus (c : InFlight) (s : State) : State :=
  let b (v : Bool) (k : Nat) : Nat := if v then k else 0
  let a := match s.par.active with
    | some n => n
    | none => 0xFF
  let seq := match s.par.active with
    | some n => (s.slot n).seq
    | none => 0
  s.answer c (pack [(1, a), (1, s.par.slotA.state), (1, s.par.slotB.state), (1, b (!s.par.live.isEmpty) 1 + b s.bootPending 2),
    (4, seq), (4, s.par.slotA.erases), (4, s.par.slotB.erases)]) []

def execNvStatus (q tag : Nat) (s : State) : Host.Outcome State Fault Refusal := startCommand 0x0213 q tag s nvStatus

/-! ### Settings images -/

/-- The 64-byte header of a settings image (R82, R97). SEQ, STATE and SIGNER_SLOT are left open: free values. -/
def exportHeader (seq state signer records : Nat) : List Byte :=
  pack [(1, 0x4E), (1, 0x56), (1, 0x49), (1, 0x4D), (2, 1), (2, Config.dictVersion), (2, 0x9100), (1, state), (1, 1), (4, seq), (4, 0)] ++
  List.replicate 16 0 ++ pack [(4, records), (4, 0), (2, signer), (10, 0), (4, 0), (4, 0)]

/-- The records that a settings image may hold: none of PAIR_LOCAL or ISLAND entries. -/
def settingsRecords (t : Tab Int) : Tab Int := t.keep fun id _ => match parEntry id with
  | some e => !(e.pairLocal || e.isIsland)
  | none => false

/-- The signed settings image of the active stored image (R97), and the state with the free values drawn. -/
def State.buildExport (s : State) : List Byte × State :=
  let recs := match s.par.active with
    | some n => settingsRecords (s.slot n).records
    | none => []
  let a := s.draw
  let b := a.2.draw
  let c := b.2.draw
  let d := c.2.draw
  let body := exportHeader a.1 b.1 c.1 recs.length ++ recs.flatMap imageRecord
  (body ++ padTo 64 (Config.sign 0 body d.1), d.2)

/-- Returns a segment of the export buffer, which stays with the host that opened it (R97). -/
def exportSegment (c : InFlight) (host : Nat) (buf : List Byte) (s : State) : State :=
  let off := c.desc.u 32 4
  if buf.length < off then s.fail c.uid ST_BAD_PARAM
  else ({ s with par := { s.par with exportBuf := some (host, buf, s.now) } }).answer c (pack [(4, buf.length)]) ((buf.drop off).take c.desc.dataLen)

/-- Opens the export buffer for a host (R97); without an identity key that may sign for the application there is no image (DESIGN CHOICE, assumption 118). -/
def openExport (c : InFlight) (s : State) : State :=
  if s.slotAllows 0 0 M_APP then let b := s.buildExport; exportSegment c c.entry b.1 b.2 else s.fail c.uid ST_DENIED

/-- The effect of NV_EXPORT (R97); later segments go to any host that may issue it (DESIGN CHOICE, assumption 157). -/
def nvExport (c : InFlight) (s : State) : State :=
  if c.desc.u 32 4 = 0 then
    match s.par.exportBuf with
    | some (e, _, _) => if e = c.entry then openExport c s else s.fail c.uid ST_BUSY
    | none => openExport c s
  else match s.par.exportBuf with
    | some (e, buf, _) => exportSegment c e buf s
    | none => s.fail c.uid ST_BAD_PARAM

def execNvExport (q tag : Nat) (s : State) : Host.Outcome State Fault Refusal := startCommand 0x0214 q tag s nvExport

/-- EXPORT_BUFFER_TIMEOUT (R97). -/
def execExportBufferTimeout (s : State) : Host.Outcome State Fault Refusal :=
  match s.par.exportBuf with
  | some (_, _, t) => if t + 60 * sec ≤ s.now then .next { s with par := { s.par with exportBuf := none } } else .next s
  | none => .next s

/-- The records of a settings image (R82). -/
def importRecords (b : List Byte) : Tab Int :=
  ((chunks 12 (fld b 36 4) (b.drop 64)).map fun r => (fld r 0 2, match parEntry (fld r 0 2) with
    | some e => if e.type = 4 ∨ e.type = 6 then sfld r 4 8 else (fld r 4 8 : Int)
    | none => 0))

/-- Whether the records stand in ascending order, each of a defined entry that is neither PAIR_LOCAL nor ISLAND, in its range, with
its reserved bytes 0. -/
def importRecordsOk (b : List Byte) : Bool :=
  (importRecords b).wf && ((importRecords b).all fun r => match parEntry r.1 with
    | some e => e.storable && !(e.pairLocal || e.isIsland) && decide (e.min ≤ r.2 ∧ r.2 ≤ e.max)
    | none => false) && (chunks 12 (fld b 36 4) (b.drop 64)).all fun r => zeros r 2 2

/-- The form of a settings image (R98 step 1). -/
def importFormOk (b : List Byte) : Bool :=
  decide (b.length = 128 + 12 * fld b 36 4) && fld b 0 4 == 0x4D49564E && fld b 4 2 == 1 && fld b 8 2 == 0x9100 && bit (fld b 11 1) 0 &&
  decide (fld b 11 1 < 4) && fld b 40 4 == 0 && zeros b 46 10 && fld b 56 4 == 0 && fld b 60 4 == 0 && importRecordsOk b

/-- A slot whose key carries the settings-verify use attribute (R98). -/
def State.settingsVerifier (s : State) (slot : Nat) : Bool := match s.obs.slots.get? slot with
  | none => false
  | some k => k.type == 1 && s.slotAllows slot 1 M_APP && s.slotAllows slot 7 M_APP

/-- The first failing check of a complete settings image (R98). While no serial has been accepted from a slot, any SERIAL is above it (DESIGN CHOICE,
assumption 114). -/
def State.importStatus (s : State) (b : List Byte) : Option Nat :=
  let slot := fld b 44 2
  let body := b.take (b.length - 64)
  let target := (b.drop 20).take 16
  if importFormOk b = false then some ST_BAD_PARAM
  else if ¬(s.settingsVerifier slot ∧ Config.verifies slot body (b.drop (b.length - 64))) then some ST_AUTH_FAIL
  else if ¬(allZero target ∨ target = s.sys.identity) then some ST_DENIED
  else if fld b 16 4 ≤ s.par.serials.getD slot 0 ∧ (s.par.serials.get? slot).isSome then some ST_DENIED
  else none

/-- The imported image: its records, the active image's PAIR_LOCAL values, IMPORTED set and SERIAL copied (R98). -/
def State.importImage (s : State) (l : Tab Int) (serial : Nat) : Slot :=
  let loc : Tab Int := match s.par.active with
    | some n => (s.slot n).records.keep fun id _ => isPairLocal id
    | none => []
  let recs := l.foldl (fun (t : Tab Int) r => if r.2 = parDefault r.1 then t else t.set r.1 r.2) loc
  { flags := 2, serial := serial, records := recs }

/-- The work of an import begins: the final segment on the active module, the forwarded command on its standby (R92, R98). -/
def State.beginImport (s : State) (uid : Nat) (l : Tab Int) (serial signer : Nat) : State :=
  let t := s.beginNv 4 uid s.storeTarget (s.importImage l serial)
  { t with par := { t.par with op := t.par.op.map fun o => { o with signer := signer } } }

/-- NV_STORE as the standby carries it out, with the values of the active module (R92). -/
def nvStoreMirror (m : Option MirrorStore) (c : InFlight) (s : State) : State :=
  if s.par.op.isSome then s.fail c.uid ST_BUSY
  else
    let t := s.beginNv 1 c.uid s.storeTarget {}
    { t with par := { t.par with op := t.par.op.map fun o => { o with given := m.map MirrorStore.records } } }

/-- The store of an import as the standby carries it out (R92, R98). -/
def nvImportMirror (m : MirrorStore) (c : InFlight) (s : State) : State :=
  if s.par.op.isSome then s.fail c.uid ST_BUSY else s.beginImport c.uid m.records m.serial m.signer

/-- The effect of NV_IMPORT (R91, R98). What another host's later segment and a segment too many do is the model's choice (DESIGN CHOICE, assumption 157). -/
def nvImport (c : InFlight) (s : State) : State :=
  let off := c.desc.u 32 4
  let last := c.desc.u 36 1
  let other := (s.par.importBuf.map fun b => b.1 != c.entry) == some true
  if 1 < last then s.fail c.uid ST_BAD_PARAM
  else if (off == 0 && other) = true then s.fail c.uid ST_BUSY
  else
    let got := match s.par.importBuf with
      | some (e, b, _) => if off = 0 ∨ e ≠ c.entry then [] else b
      | none => []
    if off ≠ got.length ∨ other = true ∨ 131072 < got.length + c.desc.data.length then
      ({ s with par := { s.par with importBuf := none } }).fail c.uid ST_BAD_PARAM
    else
      let buf := got ++ c.desc.data
      if last = 0 then ({ s with par := { s.par with importBuf := some (c.entry, buf, s.now) } }).ok c []
      else if s.par.op.isSome then s.fail c.uid ST_BUSY
      else
        let t := { s with par := { s.par with importBuf := none } }
        match t.importStatus buf with
        | some st => t.fail c.uid st
        | none => t.beginImport c.uid (importRecords buf) (fld buf 16 4) (fld buf 44 2)

def execNvImport (q tag : Nat) (s : State) : Host.Outcome State Fault Refusal := startCommand 0x0215 q tag s nvImport

/-- IMPORT_BUFFER_TIMEOUT (R98). -/
def execImportBufferTimeout (s : State) : Host.Outcome State Fault Refusal :=
  match s.par.importBuf with
  | some (_, _, t) => if t + 60 * sec ≤ s.now then .next { s with par := { s.par with importBuf := none } } else .next s
  | none => .next s

/-! ### System log (R81) -/

/-- Bytes of waiting log entries. -/
def logBytes (l : List Rec) : Nat := (l.map List.length).sum

/-- Drops the oldest entries beyond 64 KiB; answers what is kept and how many were dropped. -/
def trimLog : Nat → List Rec → List Rec × Nat
  | 0, l => (l, 0)
  | n + 1, l => if 65536 < logBytes l then let r := trimLog n l.tail; (r.1, r.2 + 1) else (l, 0)

/-- The system log in NVM holds the newest entries that fit in its 2 MiB, as a circular region keeps them (R79). -/
def logRing : List Rec → List Rec
  | [] => []
  | r :: l => if logBytes (r :: l) ≤ 0x200000 then r :: l else logRing l

/-- SYSTEM_LOG_APPEND (R81): `entries` are what the firmware has logged since the last second (the spec does not give their
content, assumption 10). Under its grant the waiting entries are appended, the first recording how many were dropped; without
a grant the leave is asked, and the oldest entries beyond 64 KiB are dropped. -/
def execSystemLogAppend (entries : List (List Byte)) (s : State) : Host.Outcome State Fault Refusal :=
  let s := { s with par := { s.par with logDram := s.par.logDram ++ entries } }
  if s.hasGrant .sysLog then
    let drop := if s.par.logDropped = 0 then [] else [leBytes 4 s.par.logDropped]
    let t := { s with par := { s.par with logNvm := logRing (s.par.logNvm ++ drop ++ s.par.logDram), logDram := [], logDropped := 0 } }
    .next (t.endWork .sysLog)
  else
    let r := trimLog s.par.logDram.length s.par.logDram
    let t := { s with par := { s.par with logDram := r.1, logDropped := s.par.logDropped + r.2 } }
    let t := if r.2 = 0 then t else t.raise 0x02 0x0004 r.2
    if t.par.logDram.isEmpty || t.awaits .sysLog then .next t else .next (t.askHoldup false .sysLog)

end Sys2Proof.Machine
end

