-- ==== Sys2Proof/Machine/Obsidian.lean ====
section
/-!
DEFINITION. Obsidian (chapter 17): key updates, enrolment, the life cycle, tamper, the pair key, and the key commands.
-/
namespace Sys2Proof.Machine

/-! ### Slots (R462 to R467) -/

/-- The attribute record of a slot (R464); an empty slot has zeros after SLOT. -/
def State.slotRecord (s : State) (n : Nat) : List Byte := match s.obs.slots.get? n with
  | none => padTo 32 (leBytes 2 n)
  | some k => pack [(2, n), (1, k.type), (1, k.flags), (2, k.uses), (1, k.masters), (1, k.worlds), (1, k.lifecycles), (3, 0),
                    (4, if bit k.uses 7 then s.par.serials.getD n 0 else 0)] ++ padTo 8 k.keyId ++ List.replicate 8 0

/-- Writes a slot with a key as two shares, the mask drawn fresh (R467); a slot that SETTINGS_VERIFY may use starts without a serial. -/
def State.putSlot (s : State) (n : Nat) (k : KeySlot) (key : Nat) : State :=
  let m := s.draw
  { m.2 with obs := { m.2.obs with slots := m.2.obs.slots.set n { k with mask := m.1, share := key ^^^ m.1 } },
             par := { m.2.par with serials := m.2.par.serials.del n } }

/-- The key of a slot. -/
def KeySlot.key (k : KeySlot) : Nat := k.mask ^^^ k.share

/-- REMASK (R467): the mask of every slot is replaced, and the other share with it. -/
def execRemask (s : State) : Host.Outcome State Fault Refusal :=
  if s.obs.ready ∧ s.obs.maskedAt + s.islN PAR_OBS_REMASK_MS * ms ≤ s.now then
    let r := s.obs.slots.foldl (fun (a : Tab KeySlot × State) e =>
      let m := a.2.draw
      (a.1 ++ [(e.1, { e.2 with mask := m.1, share := e.2.key ^^^ m.1 })], m.2)) ([], s)
    .next { r.2 with obs := { r.2.obs with slots := r.1, maskedAt := s.now } }
  else .next s

/-- A slot carries PAIR_SHARE. -/
def State.pairShare (s : State) (n : Nat) : Bool := bit (s.obs.slots.getD n {}).flags 0

/-- With a pair key in force, the persistent slots that carry PAIR_SHARE are copied to the partner with their enrolment records (R474). -/
def State.shareSlots (s : State) : State :=
  if s.obs.pairKeyed then
    s.emit (.sharedSlots (s.obs.slots.keep fun n k => decide (n < 256) && bit k.flags 0).keys (s.obs.enrolled.keep fun _ e => s.pairShare e.master).keys)
  else s

/-! ### Tamper and the life cycle (R475 to R479) -/

/-- Armed sources (R476): MESH, BKBAT_LOW, TEMP, GLITCH, LID, KEK_LOST. -/
def State.armed (s : State) : BitVec 6 :=
  let l := s.obs.lifecycle
  let on (b : Bool) (k : Nat) : BitVec 6 := if b then BitVec.ofNat 6 (2 ^ k) else 0
  let any := decide (1 ≤ l ∧ l ≤ 3)
  let two := decide (l = 2 ∨ l = 3)
  on (l == 2) 0 ||| on two 1 ||| on any 2 ||| on any 3 ||| on (any && s.obs.lidEn) 4 ||| on two 5

/-- The RTC's time in ms: of the legal time last written to it, 0 where none was. -/
def State.rtcMs (s : State) : Nat := match s.bil.rtc with
  | some (l, t) => l + (s.now - t) / ms
  | none => s.now / ms

/-- Every slot, working register and pair key is zeroised (R477). -/
def State.zeroise (s : State) : State :=
  { s with obs := { s.obs with slots := [], pairKeyed := false, pairSlot := none, zeroised := true, eraseDue := true, kekCoin := false, work := [], serviceEnd := none } }

/-- Ends the key update in flight that a tamper or a reset aborts (R478). -/
def State.abortObs (s : State) : State := s.obs.work.foldl (fun (u : State) w => (u.dropWork (.obsStore w.uid)).fail w.uid ST_ABORTED) s

/-- The hosts over Ethernet are lost (R479). -/
def State.loseEthernet (s : State) : State :=
  s.mbx.hosts.foldl (fun (u : State) e => if e.2.transport ≠ 0 ∧ e.2.transport ≠ 1 ∧ (u.hostLive e.1).connected then u.loseHost e.1 else u) s

/-- The tamper record of some sources. -/
def State.tamperRecord (s : State) (sources : BitVec 6) : State :=
  { s with obs := { s.obs with records := (⟨s.rtcMs, sources, s.obs.lifecycle⟩ :: s.obs.records).take 8 } }

/-- A tamper while powered (R477 to R479): zeroised, recorded, TAMPERED; the module gives up control and its Ethernet hosts. -/
def State.tamper (s : State) (sources : BitVec 6) : State :=
  let t := (s.abortObs.tamperRecord sources).zeroise
  let t := { t with obs := { t.obs with lifecycle := 4 } }
  let t := ((t.raise 0x10 0x0001 sources.toNat).raise 0x10 0x0002 4).report SRC_OBS_TAMPERED 0
  (t.loseEthernet).giveUp 4

/-- The sources that can fire now (R476): BKBAT_LOW only without the 24 V supply, GLITCH only while Obsidian is powered, KEK_LOST only at start-up. -/
def State.tamperSources (s : State) (sources : BitVec 6) : BitVec 6 :=
  sources &&& 31#6 &&& (if s.sys.pg then ~~~ 2#6 else ~~~ 0#6) &&& (if s.sys.powered.getLsbD 2 then ~~~ 0#6 else ~~~ 8#6)

/-- TAMPER_DETECTED (R476 to R478): without power the coin-cell domain zeroises on its own and latches the sources. -/
def execTamperDetected (sources : BitVec 6) (s : State) : Host.Outcome State Fault Refusal :=
  let src := s.tamperSources sources
  let t := { s with obs := { s.obs with live := src, meshOpen := src.getLsbD 0 } }
  let fired := src &&& t.armed
  if fired = 0 then .next t
  else if s.sys.powered.getLsbD 2 ∧ s.obs.ready then .next (t.tamper fired)
  else
    let u := (t.tamperRecord fired).zeroise
    .next { u with obs := { u.obs with lifecycle := 4, latch := some (u.obs.latch.getD 0 ||| fired) } }

/-- The mesh is learnt again and MESH rearmed: an open mesh is a tamper (R475). -/
def State.rearm (s : State) : State :=
  let t := { s with obs := { s.obs with lifecycle := 2, serviceEnd := none, meshLearnt := true } }
  let t := t.raise 0x10 0x0002 2
  if t.obs.meshOpen then t.tamper 1 else t

/-- SERVICE_EXPIRY (R475). -/
def execServiceExpiry (s : State) : Host.Outcome State Fault Refusal := match s.obs.serviceEnd with
  | some t => if t ≤ s.now ∧ s.obs.lifecycle = 3 then .next s.rearm else .next s
  | none => .next s

/-- OBS_BKBAT_LOW (the note under R479): the measured voltage; below the warning level with 24 V present, the event and source 384, once. -/
def execObsBkbatLow (mv : Nat) (s : State) : Host.Outcome State Fault Refusal :=
  let warn := decide (mv < s.islN PAR_OBS_BKBAT_WARN_MV) && s.sys.pg
  let t := { s with obs := { s.obs with bkbat := mv, bkbatWarn := warn } }
  if warn ∧ ¬s.obs.bkbatWarn then .next ((t.raise 0x10 0x0004 mv).report SRC_OBS_BKBAT 0) else .next t

/-- A node key (R473): HMAC-SHA-256 under a master key over `DRD9 NODE`, the identity and the generation, cut to 16 bytes. -/
def nodeKey (master : KeySlot) (identity : List Byte) (generation : Nat) : Nat :=
  Config.deriveKey master.key ([0x44, 0x52, 0x44, 0x39, 0x20, 0x4E, 0x4F, 0x44, 0x45] ++ identity ++ leBytes 4 generation)

/-- The key of a planned node under the master key of a slot. -/
def State.nodeKeyOf (s : State) (node master generation : Nat) : Nat :=
  nodeKey (s.obs.slots.getD master {}) (((s.plan node).map fun r => r.take 16).getD []) generation

/-- The node keys of the enrolment records are derived again (R473). -/
def State.deriveNode (s : State) (node : Nat) (e : Enrolment) : State := match s.obs.slots.get? e.master with
  | none => s
  | some k =>
    (s.putSlot e.slot { type := 6, flags := 2, uses := 16, masters := 8, worlds := 2, lifecycles := 14 } (nodeKey k e.identity e.generation)) |> fun u =>
      { u with obs := { u.obs with enrolled := u.obs.enrolled.set node e } }

/-- Obsidian's start (R462, R473, R475, R477, R478): the encrypted copies of slots zeroised before are erased under HOLDUP leave; a latched or live tamper
comes first; then volatile slots empty, node keys derived, SERVICE ended. -/
def State.obsStart (s : State) (kekLost : Bool) : State :=
  let t := { s with obs := { s.obs with ready := true, pairKeyed := false, pairSlot := none, work := [], slots := s.obs.slots.keep fun n _ => decide (n < 256), maskedAt := s.now } }
  let t := if t.obs.eraseDue then t.askHoldup true .obsErase else t
  let live := (t.obs.live ||| (if kekLost then 32#6 else 0)) &&& t.armed
  match t.obs.latch with
  | some src => (({ t with obs := { t.obs with latch := none } }).raise 0x10 0x0001 src.toNat).report SRC_OBS_TAMPERED 0
  | none =>
    if live ≠ 0 then t.tamper live
    else
      let u := t.obs.enrolled.foldl (fun (u : State) e => u.deriveNode e.1 e.2) t
      if u.obs.lifecycle = 3 then u.rearm else u

/-! ### Key update messages (R468 to R473) -/

def updOp (b : List Byte) : Nat := fld b 6 1
def updSlot (b : List Byte) : Nat := fld b 28 2
def updSigner (b : List Byte) : Nat := fld b 30 2
def updBody (b : List Byte) : List Byte := (b.drop 64).take (fld b 32 4)

/-- The attribute record of a body is well formed for a slot (R464): what only Obsidian sets is not asked for. -/
def attrOk (b : List Byte) (slot : Nat) : Bool :=
  decide (32 ≤ b.length) && fld b 0 2 == slot && decide (1 ≤ fld b 2 1 ∧ fld b 2 1 ≤ 8) && decide (fld b 3 1 < 16) && !(bit (fld b 3 1) 3) &&
    decide (fld b 4 2 < 32768) && decide (fld b 6 1 < 32 ∧ fld b 7 1 < 4 ∧ fld b 8 1 < 16) && zeros b 9 3 && zeros b 24 8

/-- The slot that an attribute record describes. -/
def slotOfAttr (b : List Byte) (secret : Bool) (cert : List Byte) (id : List Byte) : KeySlot :=
  { type := fld b 2 1, flags := (if bit (fld b 3 1) 0 then 1 else 0) + (if secret then 2 else 0) + (if bit (fld b 3 1) 2 then 4 else 0),
    uses := fld b 4 2, masters := fld b 6 1, worlds := fld b 7 1, lifecycles := fld b 8 1,
    keyId := if 6 ≤ fld b 2 1 then List.replicate 8 0 else (Config.sha256 id).take 8, cert := cert }

/-- Bytes of a private key or symmetric key of a type: raw scalars and raw bytes (R470; the curves' scalar lengths are a DESIGN CHOICE, assumption 146). -/
def keyBytes (type : Nat) : Nat := [0, 32, 48, 66, 57, 56, 16, 32, 32].getD type 0

/-- The form of a key update message (R471 step 1). -/
def updFormOk (d : List Byte) : Bool :=
  let n := fld d 32 4
  let b := updBody d
  let slot := updSlot d
  let named := decide (4 ≤ slot ∧ slot ≤ 255)
  decide (128 ≤ d.length) && d.length == 128 + n && d.take 4 == [0x4F, 0x4B, 0x55, 0x50] && fld d 4 2 == 1 && zeros d 7 1 && zeros d 36 28 &&
    (match updOp d with
      | 1 => named && n == 97 && attrOk b slot && fld b 2 1 == 1 && fld b 32 1 == 4 && updSigner d == slot
      | 2 => named && attrOk b slot && decide (33 ≤ n ∧ n ≤ 32 + 4096) && decide (fld b 2 1 ≤ 5)
      | 3 => named && attrOk b slot && decide (104 ≤ n ∧ n ≤ 120 + fld b 100 2 + 8192) && zeros b 102 2 && decide (120 + fld b 100 2 ≤ n) && fld b 100 2 == keyBytes (fld b 2 1)
      | 4 => named && n == 32 && attrOk b slot
      | 5 => named && n == 0
      | 6 => slot == 0 && n == 4 && decide (fld b 0 1 ≤ 5) && zeros b 1 1 && (fld b 0 1 != 3 || decide (1 ≤ fld b 2 2 ∧ fld b 2 2 ≤ 480))
      | 7 => slot == 0 && n == 1 && decide (fld b 0 1 ≤ 1)
      | 8 => decide (slot ≤ 255 ∧ 9 ≤ n)
      | _ => false)

/-- The operation is allowed in a life-cycle state (R469, R475). -/
def updAllowed (op state target : Nat) : Bool :=
  let run := decide (1 ≤ state ∧ state ≤ 3)
  match op with
  | 1 => state == 1
  | 6 => (state == 1 && target == 2) || (state == 2 && target == 3) || (state == 3 && target == 2) || (run && target == 5)
  | 7 => state == 1 || state == 3
  | 8 => state == 2 || state == 3
  | _ => run

/-- The signature of a message (R471 step 3, R472): OWNER_SET comes from the PCIe host while no slot carries UPDATE_AUTH. -/
def State.updSigned (s : State) (c : InFlight) (d : List Byte) : Bool :=
  let msg := d.take (d.length - 64)
  let sig := d.drop (d.length - 64)
  let b := updBody d
  if updOp d = 1 then
    (s.host c.entry).transport == 1 && !(s.obs.slots.any fun e => bit e.2.uses 11) && bit (fld b 4 2) 11 && Config.verifiesUnder (b.drop 32) msg sig
  else s.slotAllows (updSigner d) 11 M_OBS && s.slotAllows (updSigner d) 1 M_OBS && Config.verifies (updSigner d) msg sig

/-- The checks of step 5 of R471, and those of R473 and R475: the first that fails. -/
def State.updBlocked (s : State) (d : List Byte) : Option Nat :=
  let op := updOp d
  let b := updBody d
  let held := s.obs.slots.get? (updSlot d)
  if 1 ≤ op ∧ op ≤ 4 ∧ held.isSome then some ST_BUSY
  else if op = 3 ∧ (Config.unwrap (d.take 64) ((b.drop 32).take (88 + fld b 100 2))).isNone then some ST_AUTH_FAIL
  else if op = 5 then match held with
    | none => some ST_BUSY
    | some k => if bit k.flags 2 ∧ s.obs.lifecycle ≠ 3 then some ST_LOCKED else none
  else if op = 6 ∧ fld b 0 1 = 2 ∧ (s.obs.meshOpen = true ∨ s.obs.bkbat < 2500) then some ST_BUSY
  else if op = 8 then
    let node := fld b 0 2
    let ident := ((s.plan node).map fun r => r.take 16).getD []
    if s.nodeKind node ≠ 2 ∧ s.nodeKind node ≠ 3 then some ST_BAD_PARAM
    else if s.slotAllows (fld b 2 2) 5 M_OBS = false then some ST_DENIED
    else if (s.obs.slots.any fun e => s.slotAllows e.1 12 M_OBS && Config.nodeCertOk e.1 (b.drop 8) ident) = false then some ST_AUTH_FAIL
    else if (s.obs.enrolled.get? node).isNone ∧ (s.obs.slots.freeFrom 800 400).isNone then some ST_BUSY
    else none
  else none

/-- A change of Obsidian asks for its HOLDUP leave, at most 2 s. -/
def State.obsAsk (s : State) (c : InFlight) (w : ObsWork) : State :=
  let t : State := { s with obs := { s.obs with work := s.obs.work ++ [w] } }
  (t.askHoldup true (.obsStore c.uid)).setDeadline c.uid (s.now + 2 * sec)

/-- The effect of OBS_UPDATE up to its store (R471, R480, R484). -/
def obsUpdate (c : InFlight) (s : State) : State :=
  let d := c.desc.data
  let id := padTo 16 s.sys.identity
  if c.desc.object ≠ 0 ∨ c.desc.dataLen ≠ d.length ∨ updFormOk d = false then s.fail c.uid ST_BAD_PARAM
  else if updOp d = 8 ∧ s.isStandby then s.fail c.uid ST_NOT_ACTIVE
  else if updAllowed (updOp d) s.obs.lifecycle (fld (updBody d) 0 1) = false then s.fail c.uid ST_LOCKED
  else if s.updSigned c d = false then s.fail c.uid ST_AUTH_FAIL
  else if (d.drop 8).take 16 ≠ id ∨ fld d 24 4 ≠ s.obs.count + 1 then s.fail c.uid ST_DENIED
  else match s.updBlocked d with
    | some st => s.fail c.uid st
    | none =>
      let w : ObsWork := { uid := c.uid, op := updOp d, slot := updSlot d, header := d.take 64, body := updBody d }
      s.obsAsk c w

def execObsUpdate (q tag : Nat) (s : State) : Host.Outcome State Fault Refusal := startCommand 0x1003 q tag s obsUpdate

/-- A command of Obsidian ends: R62 makes no wait. -/
def State.obsOk (s : State) (uid : Nat) : State := s.endCmd uid ST_OK [] [] (((s.cmd? uid).map fun c => c.desc.data.length).getD 0) 0

/-- DECOMMISSIONED: zeroised, and the partition erased (R475); the tamper records lie in the coin-cell domain. -/
def State.decommission (s : State) : State :=
  let t := s.zeroise
  ({ t with obs := { t.obs with lifecycle := 5, count := 0, enrolled := [], eraseDue := false } }).raise 0x10 0x0002 5

/-- What a message does to a slot or the life cycle (R469, R475). -/
def State.updApply (s : State) (w : ObsWork) : State :=
  let b := w.body
  match w.op with
  | 1 => s.putSlot w.slot (slotOfAttr b false (b.drop 32) (b.drop 32)) 0
  | 2 => s.putSlot w.slot (slotOfAttr b false (b.drop 32) (Config.spki (b.drop 32))) 0
  | 3 =>
    let n := 88 + fld b 100 2
    let key := (Config.unwrap w.header ((b.drop 32).take n)).getD 0
    s.putSlot w.slot (slotOfAttr b true (b.drop (32 + n)) (Config.publicKey (fld b 2 1) key)) key
  | 4 => s.draw.2.putSlot w.slot (slotOfAttr b true [] (Config.publicKey (fld b 2 1) s.draw.1)) s.draw.1
  | 5 => { s with obs := { s.obs with slots := s.obs.slots.del w.slot }, par := { s.par with serials := s.par.serials.del w.slot } }
  | 6 =>
    let t := fld b 0 1
    if t = 5 then s.decommission
    else if t = 3 then ({ s with obs := { s.obs with lifecycle := 3, serviceEnd := some (s.now + fld b 2 2 * 60 * sec) } }).raise 0x10 0x0002 3
    else ({ s with obs := { s.obs with kekCoin := true } }).rearm
  | 7 => { s with obs := { s.obs with lidEn := fld b 0 1 == 1 } }
  | _ => s

/-- A key update's store has ended (R471): the change and the counter stand together. An ENROL sends the node its key and waits for its
acknowledgement, at most 1 s (R473). -/
def obsStoreDone (uid : Nat) (s : State) : State :=
  match s.obs.work.find? fun w => w.uid == uid with
  | none => s
  | some w =>
    if w.op = 8 then
      let l : List ObsWork := s.obs.work.map fun x => if x.uid = uid then { x with ackBy := some (s.now + sec) } else x
      let s := { s with obs := { s.obs with work := l } }
      s.draw.2.emit (.nodeKey (fld w.body 0 2) (Config.wrapFor (w.body.drop 8) (s.nodeKeyOf (fld w.body 0 2) (fld w.body 2 2) (fld w.body 4 4)) s.draw.1))
    else
      let s := { s with obs := { s.obs with work := s.obs.work.filter fun x => x.uid != uid } }
      if w.op = 0 then s.decommission.obsOk uid
      else
        let t := s.updApply w
        let t := if w.op = 6 ∧ fld w.body 0 1 = 5 then t else { t with obs := { t.obs with count := s.obs.count + 1 } }
        let shared := bit ((s.obs.slots.getD w.slot {}).flags) 0 || bit ((t.obs.slots.getD w.slot {}).flags) 0
        let t := if shared ∧ w.op ≤ 5 then t.shareSlots else t
        (t.raise 0x10 0x0003 w.slot).obsOk uid

/-- The enrolment that waits for a node. -/
def State.enrolling (s : State) (node : Nat) : Option ObsWork := s.obs.work.find? fun w => w.op == 8 && fld w.body 0 2 == node && w.ackBy.isSome

/-- The slot of a node's key (R462): the one that it has, or the next in the order of enrolment. -/
def State.enrolSlot (s : State) (node : Nat) : Nat := match s.obs.enrolled.get? node with
  | some e => e.slot
  | none => (s.obs.slots.freeFrom 800 400).getD 800

/-- ENROL_ACK (R473, R474, R318): the node key takes its slot, and the counter advances with the enrolment record, which goes to the partner with a shared
master. -/
def execEnrolAck (node startMa : Nat) (s : State) : Host.Outcome State Fault Refusal :=
  match s.enrolling node with
  | none => .next s
  | some w =>
    let b := w.body
    let slot := s.enrolSlot node
    let e : Enrolment := ⟨fld b 2 2, fld b 4 4, ((s.plan node).map fun r => r.take 16).getD [], slot, startMa⟩
    let t := { s with obs := { s.obs with work := s.obs.work.filter fun x => x.uid != w.uid, count := s.obs.count + 1 } }
    let t := t.deriveNode node e
    .next (((if s.pairShare e.master then t.shareSlots else t).raise 0x10 0x0003 slot).obsOk w.uid)

/-- ENROL_ACK_TIMEOUT (R473). -/
def execEnrolAckTimeout (node : Nat) (s : State) : Host.Outcome State Fault Refusal :=
  match s.enrolling node with
  | none => .next s
  | some w =>
    if w.ackBy.getD 0 ≤ s.now then
      .next (({ s with obs := { s.obs with work := s.obs.work.filter fun x => x.uid != w.uid } }).fail w.uid ST_TIMEOUT)
    else .next s

/-! ### The pair key (R474) -/

/-- The partner's chain verifies against slot 3, its identity key signs its ephemeral key, its identity is named in a slot that carries PAIR_PEER, and it has
accepted this module's (R474). -/
def State.partnerVerified (s : State) (o : PairOffer) : Bool :=
  o.accepted && o.ephemeral.length == 56 && o.certs.length == 3 && s.slotAllows 3 1 M_OBS && match Config.chainUnder 3 o.certs with
    | none => false
    | some (name, key) =>
      Config.verifiesUnder key o.ephemeral o.signature && s.obs.slots.any fun e => s.slotAllows e.1 13 M_OBS && Config.commonName e.2.cert == name

/-- A pair key can be agreed: Obsidian runs with its keys, among them the identity key that signs, a partner is configured, and the partner verifies. -/
def State.agrees (s : State) (o : PairOffer) : Bool :=
  s.obs.ready && !s.obs.zeroised && s.partnerConfigured && s.slotAllows 0 0 M_OBS && s.partnerVerified o

/-- The pair key is agreed (R474): this module's signed ephemeral key goes out, and the key takes a working slot, as AES-256 for the copies under it (DESIGN
CHOICE, assumption 146). -/
def State.pairKeyIn (s : State) (o : PairOffer) : State :=
  let s := s.dropPairKey
  let m := s.draw
  let d := m.2.draw
  let pub := Config.publicKey 5 m.1
  let n := (s.obs.slots.freeFrom 1200 80).getD 1200
  let t := (d.2.emit (.pairOffer pub (Config.sign 0 pub d.1) (s.obs.chain.take 3))).putSlot n
    { type := 7, flags := 2, uses := 8, masters := 16, worlds := 2, lifecycles := 14 } (Config.agree m.1 o.ephemeral)
  { t with obs := { t.obs with pairKeyed := true, pairSlot := some n } }

/-- What the partner copies is taken over: the slots that carry PAIR_SHARE and the enrolment records (R474). -/
def State.takeShared (s : State) (shared : List (Nat × KeySlot)) (enrolments : List (Nat × Enrolment)) : State :=
  let t := (shared.filter fun e => decide (4 ≤ e.1 ∧ e.1 < 256) && bit e.2.flags 0).foldl (fun (u : State) e => u.putSlot e.1 e.2 e.2.key) s
  enrolments.foldl (fun (u : State) e => u.deriveNode e.1 e.2) t

/-- PAIR_KEY_AGREEMENT (R474): the partner's shared slots and enrolment records are taken over, and this module's are sent; with the key in force the pair
forms, without it check 6 fails (R540). -/
def execPairKeyAgreement (offer : PairOffer) (shared : List (Nat × KeySlot)) (enrolments : List (Nat × Enrolment)) (s : State) :
    Host.Outcome State Fault Refusal :=
  if s.agrees offer then
    let t := (((s.pairKeyIn offer).takeShared shared enrolments).shareSlots).raise 0x10 0x0005 0
    .next (if t.pair.sync = SYNC_FORMING then t.pairChecks false else t)
  else
    let t := s.dropPairKey
    .next (if t.pair.sync = SYNC_FORMING then t.pairChecks true else t)

/-! ### Other commands (R481 to R484) -/

/-- Source bits of the latest tamper record. -/
def State.tamperCause (s : State) : Nat := (s.obs.records.head?.map fun r => r.sources.toNat).getD 0

/-- A tamper record as it is read (R481). -/
def tamperBytes (r : TamperRec) : List Byte := pack [(8, r.rtcMs), (1, r.sources.toNat), (1, r.lifecycle), (6, 0)]

/-- The effect of OBS_STATUS (R481). -/
def obsStatus (c : InFlight) (s : State) : State :=
  let o := s.obs
  let data := if 128 ≤ c.desc.dataLen then padTo 128 (o.records.flatMap tamperBytes) else []
  s.answer c (pack [(1, o.lifecycle), (1, s.tamperCause), (1, s.armed.toNat), (1, o.live.toNat), (4, o.count), (2, o.bkbat)]) data

def execObsStatus (q tag : Nat) (s : State) : Host.Outcome State Fault Refusal := startCommand 0x1000 q tag s obsStatus

/-- The effect of OBS_SLOT_READ (R482). -/
def obsSlotRead (c : InFlight) (s : State) : State :=
  let first := c.desc.u 32 2
  let n := c.desc.u 34 2
  if n = 0 ∨ 1280 < n ∨ c.desc.dataLen < 32 * n ∨ 1280 < first + n then s.fail c.uid ST_BAD_PARAM
  else s.answer c [] ((List.range n).flatMap fun j => s.slotRecord (first + j))

def execObsSlotRead (q tag : Nat) (s : State) : Host.Outcome State Fault Refusal := startCommand 0x1001 q tag s obsSlotRead

/-- The effect of OBS_CHAIN_READ (R482); the total counts the length fields (DEDUCED, assumption 36). -/
def obsChainRead (c : InFlight) (s : State) : State :=
  let b := s.obs.chain.flatMap fun x => leBytes 2 x.length ++ x
  if c.desc.dataLen < b.length then s.fail c.uid ST_BAD_PARAM else s.answer c (leBytes 4 b.length) b

def execObsChainRead (q tag : Nat) (s : State) : Host.Outcome State Fault Refusal := startCommand 0x1002 q tag s obsChainRead

/-- The effect of OBS_ATTEST (R483). -/
def obsAttest (c : InFlight) (s : State) : State :=
  let n := c.desc.object
  if s.obs.lifecycle = 4 ∨ s.obs.lifecycle = 5 then s.fail c.uid ST_LOCKED
  else match s.obs.slots.get? n with
    | none => s.fail c.uid ST_BAD_PARAM
    | some k =>
      if 5 < k.type then s.fail c.uid ST_BAD_PARAM
      else if s.slotAllows 0 0 M_OBS = false then s.fail c.uid ST_DENIED
      else
        let text := s.slotRecord n ++ leBytes 8 s.sysTime ++ k.cert
        let cert := Config.certificate text (Config.sign 0 text s.draw.1)
        s.draw.2.answer c (leBytes 4 cert.length) cert

def execObsAttest (q tag : Nat) (s : State) : Host.Outcome State Fault Refusal := startCommand 0x1004 q tag s obsAttest

/-- The effect of OBS_DECOMMISSION up to its store (R484). -/
def obsDecommission (c : InFlight) (s : State) : State :=
  if s.obs.lifecycle ≠ 4 then s.fail c.uid ST_LOCKED
  else if (s.host c.entry).transport ≠ 1 then s.fail c.uid ST_DENIED
  else s.obsAsk c { uid := c.uid, op := 0, slot := 0, header := [], body := [] }

def execObsDecommission (q tag : Nat) (s : State) : Host.Outcome State Fault Refusal := startCommand 0x1005 q tag s obsDecommission

end Sys2Proof.Machine
end

