-- ==== Sys2Proof/Machine/System.lean ====
section
/-!
DEFINITION. Supply, clocks, resets, start-up and firmware (chapter 21).
-/
namespace Sys2Proof.Machine

/-- Changes the system block. -/
def State.updSys (s : State) (f : Sys → Sys) : State := { s with sys := f s.sys }

/-! ### What a reset clears (R575) -/

/-- An NV operation that is cut off. A begun store leaves its slot EMPTY (R84). NV_SELECT under its grant may be cut before the erase, between erase and
rewrite, which leaves the slot EMPTY, or before the former slot is REJECTED (R94), and the programming of NV_COMMIT before or after it: which, is free. -/
def State.cutStore (s : State) : State := match s.par.op with
  | none => s
  | some op =>
    let d := s.draw
    if op.begun ∧ (op.kind = 1 ∨ op.kind = 4) then s.setSlot op.target { (s.slot op.target).erased with records := [], tables := {} }
    else if s.hasGrant .nvOp = false ∨ d.1 % 3 = 0 then s
    else if op.kind = 2 then
      d.2.setSlot op.target (if d.1 % 3 = 1 then { (s.slot op.target).erased with erases := (s.slot op.target).erases + 1 } else s.rewritten op.target)
    else if op.kind = 3 then d.2.setSlot op.target { s.slot op.target with state := IMG_COMMITTED }
    else s

/-- The slot that a start takes for the active one (R85), without the programmings that wait for their work leave. -/
def State.bootSlot (s : State) : Option Nat :=
  let x (n : Nat) : Slot := (s.slot n).found
  let c (n : Nat) : Bool := [IMG_TRIAL, IMG_BOOTED, IMG_COMMITTED].contains (x n).state
  let best := if c 0 && (!c 1 || decide ((x 1).seq < (x 0).seq)) then some 0 else if c 1 then some 1 else none
  match best with
  | some n => if (x n).state = IMG_BOOTED then (if (x (1 - n)).state = IMG_COMMITTED then some (1 - n) else none) else some n
  | none => none

/-- The host table of a slot's image, the factory table without one (R36, R82). -/
def State.imageHosts (s : State) (slot : Option Nat) : Tab HostEntry :=
  let t : Tab HostEntry := match slot with
    | some n => (s.slot n).tables.hosts
    | none => []
  if t.isEmpty then ({} : Mbx).hosts else t

/-- A firmware load that is cut off leaves its slot EMPTY (R586). -/
def FwSlot.cut (x : FwSlot) : FwSlot := if x.verified then x else { x with bytes := [], state := if x.bytes.isEmpty then x.state else 0xFF }

/-- The state of a ring without a member that is known (R156). -/
def State.ringBare (s : State) (ring : Nat) : Nat :=
  if !(s.port (2 * ring)).lock && !(s.port (2 * ring + 1)).lock then 3 else if s.ringOpen ring then 1 else 0

/-- What every reset clears: the application complex with its DRAM, its engines and links, the volatile key slots, the live layer, the setpoint and the
collector's holds; the islands' own requests for work leave stay (DEDUCED, assumption 53). The host table is at once the one that R85 chooses, which the
registers show (R71) and for whose entries events are queued during the start (R69; DESIGN CHOICE, assumption 111). -/
def State.clearApp (s : State) : State :=
  let t := s.cutStore
  { t with
    mbx := { hosts := t.imageHosts t.bootSlot, nextUid := t.mbx.nextUid, sysOffset := t.mbx.sysOffset, pcieUp := t.mbx.pcieUp }
    par := { t.par with live := [], op := none, exportBuf := none, importBuf := none, logDram := [], logDropped := 0 }
    lv := { availKwh := t.lv.availKwh, workHold := t.lv.workHold, nextWork := t.lv.nextWork, workWait := t.lv.workWait.filter fun w => w.island,
            workGrant := t.lv.workGrant.filter fun w => w.island }
    ring := { ports := t.ring.ports, enumDone := t.ring.enumDone, enumRings := t.ring.enumRings, enumWait := t.ring.enumWait, openA := t.ring.openA,
              openB := t.ring.openB, stateA := t.ringBare 0, stateB := t.ringBare 1 }
    bas := {}
    tune := {}
    stg := {}
    cool := {}
    ses := { outlets := t.ses.outlets.mapV fun _ o => { weld := o.weld } }
    pt := {}
    plc := { heardAt := some t.now }
    can := { start := t.now, gaugeTiming := t.can.gaugeTiming, gaugeWanted := t.can.gaugeWanted }
    obs := { t.obs with slots := t.obs.slots.keep fun n _ => decide (n < 256) }
    flt := { t.flt with holds := [] }
    pair := { link := t.pair.link, takeovers := t.pair.takeovers, diverged := t.pair.diverged, switchAt := t.pair.switchAt, switchDue := t.pair.switchDue,
              switchDueAt := t.pair.switchDueAt }
    sys := { t.sys with f0 := t.sys.f0.cut, f1 := t.sys.f1.cut, activate := none, ready := false, recovery := false, rollback := none }
    pins := { t.pins with ppsOut := false, ethPhyRstN := false } }

/-- What a power-on or cold reset clears beside that: everything but what NVM, fuses, the coin-cell domain and the gauge domain hold. Granite's
lock-outs stay, its safe state ends; the seal closes as Jasper starts (R308, R511, R512). -/
def State.clearCold (s : State) : State :=
  let t := s.clearApp
  { t with
    mbx := { t.mbx with pcieUp := false }
    par := { t.par with islandWait := [] }
    lv := {}
    ring := {}
    met := { t.met with ready := false, clock := false, chans := [], stores := [], apply := [], steps := [], calm := [], ticks := 0 }
    bil := { t.bil with clockSets := [], stopped := none, registers := false, warnTick := none }
    obs := { t.obs with ready := false, pairKeyed := false, pairSlot := none, work := [] }
    grn := { image := t.grn.image, locks := t.grn.locks, outputs := t.grn.outputs.mapV fun _ o => { cause := o.cause } }
    flt := {}
    pair := {}
    sys := { t.sys with powered := 0xF, fwVersion := 0, safeCheck := false } }

/-! ### Starts (R575, R577) -/

/-- The lowest phase that has not ended, 0 when all have. -/
def phaseOf (ended : BitVec 10) : Nat := ([1, 2, 3, 4, 5, 6, 7, 8, 9].find? fun n => !ended.getLsbD n).getD 0

/-- A start begins: its cause and time, and the phases that it skips; every PLL locks within 100 µs (R574). -/
def State.begin (s : State) (cause starts : Nat) (skip : BitVec 10) : State :=
  s.updSys fun x => { x with cause := cause, starts := BitVec.ofNat 16 starts, startAt := s.now, servedAt := s.now, ended := skip, phase := phaseOf skip,
                             resetDue := none, locks := 0x3F, fwActive := none }

/-- A cold reset (R575, R576): Jasper has made its final commit. -/
def State.coldReset (s : State) (cause : Nat) : State :=
  let t := if s.met.ready && s.bil.registers then s.finalCommit s.bil.live.legal else s
  t.clearCold.begin cause (t.sys.starts.toNat + 1) 0

/-- An application reset (R575): the islands keep running, and phases 1 to 3 and 5 are skipped. A busbar link that this module drives gives its release
beacon first (R576). A module that was degraded by its holds alone leaves degraded operation (R528). -/
def State.appReset (s : State) (cause : Nat) : State :=
  let t := if s.plc.master then s.emit (.beacon (s.beacon s.plc.epoch 1 0)) else s
  let u := t.clearApp.begin cause (t.sys.starts.toNat + 1) 0x2E
  (u.updSys fun x => { x with locks := if s.met.clock then 0x3F else 0x37 }).noteDegraded

/-- A module that is to be reset releases its lease (R576). -/
def State.releaseForReset (s : State) : State :=
  if s.isActive then s.beginRelease 8
  else if s.pair.role = ROLE_RELEASING then s.dropFinal
  else s

/-- An application reset that is due takes effect once no release is under way (R576). -/
def State.appResetDue (s : State) : State := match s.sys.resetDue with
  | some (1, cause, t) =>
    if t ≤ s.now then (if s.isActive ∨ s.pair.role = ROLE_RELEASING then s.releaseForReset else s.appReset cause) else s
  | _ => s

/-- HRST_N (R576): held low for at least 10 µs, of which `lowUs` have passed. -/
def execHrstN (lowUs : Nat) (s : State) : Host.Outcome State Fault Refusal :=
  if 10 ≤ lowUs ∧ s.sys.powered ≠ 0 then
    .next (s.releaseForReset.resetAt 0 2 (s.now - lowUs * us + 5 * ms))
  else .next s

/-- COLD_RESET_EFFECT (R576): the reset that is due takes effect. -/
def execColdResetEffect (s : State) : Host.Outcome State Fault Refusal := match s.sys.resetDue with
  | some (0, cause, t) => if t ≤ s.now then .next (s.coldReset cause) else .next s
  | _ => .next s.appResetDue

/-- WATCHDOG_EXPIRY (R29, R545, R575): source 6; an active module releases, and the application reset follows. -/
def execWatchdogExpiry (s : State) : Host.Outcome State Fault Refusal :=
  if s.sys.servedAt + s.pms PAR_SYS_WDOG_MS ≤ s.now ∧ s.sys.ended.getLsbD 4 = true ∧ s.sys.resetDue = none then
    .next ((((s.report SRC_APP_WDOG 0).giveUp 1).updSys fun x => { x with resetDue := some (1, 4, s.now) }).appResetDue)
  else .next s

/-- PLL_UNLOCK (R574): 0 APP, 1 ENG, 2 RING, 3 MET, 4 CAN, 5 PLC. MET stops Jasper's clock; the others reset the application complex, which without the
RING PLL releases nothing. -/
def execPllUnlock (pll : Nat) (s : State) : Host.Outcome State Fault Refusal :=
  if 5 < pll ∨ s.sys.locks.getLsbD pll = false then .next s
  else
    let t := (s.updSys fun x => { x with locks := x.locks &&& ~~~ (1#6 <<< pll), unlocks := min (x.unlocks + 1) (2 ^ 24 - 1) }).report SRC_PLL_UNLOCK 0
    if pll = 3 then .next (if t.met.ready && t.met.clock then t.metStop else t)
    else if pll = 2 then .next (match s.sys.resetDue with
      | some (0, k, d) => (t.appReset 6).resetAt 0 k d
      | _ => t.appReset 6)
    else .next (t.resetAt 1 6 s.now).appResetDue

/-- MET_PLL_RELOCK (R574): the time in between, measured on the RTC. -/
def execMetPllRelock (elapsedMs : Nat) (s : State) : Host.Outcome State Fault Refusal :=
  if s.sys.locks.getLsbD 3 then .next s
  else
    let t := s.updSys fun x => { x with locks := x.locks ||| 8#6 }
    .next (if t.met.ready && !t.met.clock then t.metResume elapsedMs else t)

/-! ### The supply (R569 to R571) -/

/-- POWER_GOOD (R569, R570): a power-on start, after an absence of supply or a completed power-down. -/
def execPowerGood (mv : Nat) (s : State) : Host.Outcome State Fault Refusal :=
  if s.sys.pg = false ∧ (s.sys.pfw = false ∨ s.sys.powered = 0) ∧ 18000 < mv then
    let t := s.clearCold.begin 1 0 0
    .next (t.updSys fun x => { x with pg := true, pfw := false, pgAt := s.now, supplyMv := mv, minMv := mv, unlocks := 0 })
  else .next s

/-- POWER_FAIL_WARNING (R571, R578): no work leave is granted from here on, a store stops, and start-up stops. -/
def execPowerFailWarning (mv : Nat) (s : State) : Host.Outcome State Fault Refusal :=
  if s.sys.pg ∧ s.sys.pfw = false ∧ mv < 16500 then
    let t := s.updSys fun x => { x with pfw := true, pfwAt := s.now, pg := false, supplyMv := mv, minMv := min x.minMv mv }
    let t := { t with lv := { t.lv with workHold := true } }
    .next (match t.par.op with
      | some op => if op.kind = 1 ∨ op.kind = 4 then t.failNv op ST_ABORTED else t
      | none => t)
  else .next s

/-- The application complex, engines and links are off. -/
def State.appOff (s : State) : State :=
  let t := s.clearApp
  { t with mbx := { t.mbx with pcieUp := false }, lv := { workHold := true }, ring := {}, pair := {}, can := { gaugeTiming := t.can.gaugeTiming } }

/-- Granite is off: every output opens, and the lock-outs stay (R511, R571). -/
def State.graniteOff (s : State) : State :=
  { s with grn := { image := s.grn.image, locks := s.grn.locks, outputs := s.grn.outputs.mapV fun _ o => { cause := o.cause } } }

/-- Obsidian is off; the coin-cell domain watches (R476). -/
def State.obsidianOff (s : State) : State :=
  { s with obs := { s.obs with ready := false, pairKeyed := false, pairSlot := none, work := [], slots := s.obs.slots.keep fun n _ => decide (n < 256) } }

/-- Jasper and the NVM controller are off. -/
def State.jasperOff (s : State) : State :=
  { s with met := { s.met with ready := false, clock := false, chans := [], stores := [], apply := [] }, bil := { s.bil with registers := false, clockSets := [] } }

/-- HOLDUP_END (R571): domain 0 the application complex with its engines and links, 1 Granite, 2 Obsidian, at the earliest 10 ms after the warning; 3
Jasper and NVM, 40 ms after it. -/
def execHoldupEnd (domain : Nat) (s : State) : Host.Outcome State Fault Refusal :=
  if s.sys.pfw = false ∨ 3 < domain ∨ s.sys.powered.getLsbD domain = false ∨ s.now < s.sys.pfwAt + (if domain = 3 then 40 * ms else 10 * ms) then .next s
  else
    let t := match domain with
      | 0 => s.appOff
      | 1 => s.graniteOff
      | 2 => s.obsidianOff
      | _ => s.jasperOff
    .next (t.updSys fun x => { x with powered := x.powered &&& ~~~ (1#4 <<< domain), ended := 0, phase := 1, ready := false, resetDue := none })

/-! ### The loader (R579 to R583) -/

/-- The slot with the highest SEQ among those in state TRIAL, BOOTED or COMMITTED. -/
def State.fwBest (s : State) : Option Nat :=
  let c (n : Nat) : Bool := [0x7F, 0x3F, 0x1F].contains (s.fw n).state
  if c 0 && (!c 1 || decide ((s.fw 1).seq < (s.fw 0).seq)) then some 0 else if c 1 then some 1 else none

/-- A slot is REJECTED, to be reported once Vexnil runs (R581). -/
def State.rejectFw (s : State) (n : Nat) : State :=
  (s.setFw n { s.fw n with state := 0x0F }).updSys fun x => { x with rollback := some n }

/-- A bundle that may run: its signature and hashes hold, and its SEC_VERSION is not below the fuse counter (R581, R582). -/
def State.fwGood (s : State) (n : Nat) : Bool := (s.fw n).verified && decide (s.sys.fuse ≤ (s.fw n).secVersion)

/-- The loader's choice (R581), by the procedure of R85; a bundle that fails its checks is REJECTED, and the loader chooses again. -/
def State.chooseFw : Nat → State → State
  | 0, s => s.updSys fun x => { x with fwActive := none }
  | k + 1, s => match s.fwBest with
    | none => s.updSys fun x => { x with fwActive := none }
    | some n =>
      if (s.fw n).state = 0x3F then State.chooseFw k (s.rejectFw n)
      else if s.fwGood n = false then State.chooseFw k (s.rejectFw n)
      else
        let t := if (s.fw n).state = 0x7F then s.setFw n { s.fw n with state := 0x3F } else s
        t.updSys fun x => { x with fwActive := some n, fwVersion := (s.fw n).version }

/-- Granite runs a different copy: every outlet and every output locks out with cause 10 (R583). -/
def State.lockAllConfig (s : State) : State :=
  let t := (List.range 256).foldl (fun (u : State) o => u.lockOutlet 10 o) s
  let t := (List.range 8).foldl (fun (u : State) n => u.lockOutput 10 n) t
  t.lockStages

/-- One island's hash from the active bundle (R583): it runs the copy that matches, else the one it ran last, with source 289 or 419. -/
def State.islandHash (s : State) (x : FwSlot) (kind : Nat) : State :=
  match x.comps.get? kind with
  | none => s
  | some h =>
    if s.copyHas kind h then
      let t := s.updSys fun y => { y with running := y.running.set kind h }
      if kind = 2 ∧ s.sys.running.get? 2 ≠ some h then t.lockAllConfig else t
    else if kind = 3 then s.report SRC_MET_CHECK 0
    else if kind = 2 then s.report SRC_GRN_FIRMWARE 0
    else s

/-- The slots as a start finds them (R83): at a cold start one found EMPTY that had been written is reported (R100). -/
def State.findSlots (s : State) : State :=
  let t := (s.setSlot 0 (s.slot 0).found).setSlot 1 (s.slot 1).found
  let report (u : State) (n : Nat) : State :=
    if s.sys.cause < 4 ∧ (u.slot n).written ∧ (u.slot n).state = IMG_EMPTY then u.raise 0x02 0x0002 n else u
  report (report t 0) 1

/-- The parameter image is chosen (R85); a programming of STATE waits for its work leave. -/
def State.chooseImage (s : State) : State :=
  let s := s.findSlots
  let c (n : Nat) : Bool := [IMG_TRIAL, IMG_BOOTED, IMG_COMMITTED].contains (s.slot n).state
  let best := if c 0 && (!c 1 || decide ((s.slot 1).seq < (s.slot 0).seq)) then some 0 else if c 1 then some 1 else none
  let t := { s with par := { s.par with active := best } }
  match best with
  | none => t
  | some n => if (s.slot n).state = IMG_COMMITTED then t else t.askHoldup false (.bootProgram n)

/-- Phase 4 ends, or the module is in recovery (R577, R579, R583); then the parameter image is chosen. -/
def State.loader (s : State) : State :=
  let t := State.chooseFw 3 s
  match t.sys.fwActive with
  | none => t.updSys fun x => { x with recovery := true }
  | some n =>
    let x := t.fw n
    (([2, 3, 4].foldl (fun (u : State) k => u.islandHash x k) t).updSys fun x => { x with recovery := false, ended := x.ended ||| 16#10 }).chooseImage

/-! ### Phases (R577) -/

/-- The phases that a phase waits for have ended. -/
def State.phaseFree (s : State) (n : Nat) : Bool :=
  let e (k : Nat) : Bool := s.sys.ended.getLsbD k
  match n with
  | 3 => e 2
  | 4 => e 1
  | 5 => e 4 || decide (s.sys.startAt + sec ≤ s.now)
  | 6 => e 4
  | 7 => e 3 && e 6
  | 8 => e 7
  | 9 => e 8
  | _ => true

/-- The number of a phase. -/
def PhaseEnd.num : PhaseEnd → Nat
  | .obsidian _ => 1
  | .granite _ => 2
  | .collector _ => 3
  | .loader => 4
  | .jasper .. => 5
  | .vexnil => 6
  | .ring => 7
  | .lease => 8
  | .ready => 9

/-- Vexnil has started (R577 phase 6): every entry takes its value, the tables come from the active image, and the hosts may come. The collector keeps its
reactions through an application reset (R575). -/
def State.vexnilStart (s : State) : State :=
  let img : ImgTables := match s.par.active with
    | some n => (s.slot n).tables
    | none => {}
  let reactions := if 4 ≤ s.sys.cause then s.flt.reactions else img.reactions
  let t := { s.takeTables img with
    mbx := { s.mbx with hosts := s.imageHosts s.par.active }
    can := { s.can with ctls := img.can.mapV fun _ r => { cfg := r } }
    pins := { s.pins with ethPhyRstN := true } }
  let t := ({ t with flt := { t.flt with reactions := reactions } }).latchBoot.loadInsts
  let t := t.raise 0x01 0x0001 s.sys.cause
  match s.sys.rollback with
  | some n => (t.raise 0x01 0x0002 n).updSys fun x => { x with rollback := none }
  | none => t

/-- Start-up is complete (R543): STANDBY, or OUT while a trigger of R545 holds the module there. -/
def State.startupDone (s : State) : State :=
  let out := s.grn.safeState || s.grn.halted || s.obs.lifecycle == 4
  let t := s.updPair fun x => { x with role := if out then ROLE_OUT else ROLE_STANDBY, firstScan := some (x.firstScan.getD s.now) }
  t.claimLapsed

/-- What the end of a phase does. -/
def State.phaseEffect (s : State) (p : PhaseEnd) : State :=
  match p with
  | .obsidian kekLost => s.obsStart kekLost
  | .granite ok =>
    let t := { s with grn := { s.grn with ready := ok, conns := startConns s.grn.image s.now } }
    let t := if ok then t else t.enterSafe
    t.sendChanged
  | .collector ok =>
    let good := ok && !s.grn.halted
    { s with flt := { s.flt with testOk := good, request := s.flt.request || !good } }.noteDegraded
  | .loader => s
  | .jasper check rtc => s.jasperStart check rtc
  | .vexnil => s.vexnilStart
  | .ring => s.startupDone
  | .lease => s
  | .ready => (s.updSys fun x => { x with ready := true }).raise 0x01 0x0003 ((s.now - s.sys.pgAt) / ms)

/-- Phase 6 waits for the programming of STATE that R85 asks for. -/
def State.bootWaits (s : State) : Bool :=
  let boot (w : Work) : Bool := match w.what with
    | .bootProgram _ => true
    | _ => false
  s.lv.workWait.any boot || s.lv.workGrant.any boot

/-- The work of phase 8 has ended (R544, R577): an active module has published its ledger, a standby may claim and its start wait is over, and a module that is
held OUT has nothing to claim (R578; DEDUCED, assumption 150). -/
def State.leaseSettled (s : State) : Bool := if s.isActive then s.lv.published else s.pair.role != ROLE_STANDBY || s.mayClaim

/-- STARTUP_PHASE_DONE (R577, R578): the phase's work has ended. -/
def execStartupPhaseDone (phase : PhaseEnd) (s : State) : Host.Outcome State Fault Refusal :=
  let n := phase.num
  if s.sys.pg = false ∨ s.sys.pfw ∨ s.sys.ended.getLsbD n ∨ s.phaseFree n = false ∨ (n = 6 ∧ s.bootWaits) ∨ (n = 8 ∧ s.leaseSettled = false) then .next s
  else
    let t := if n = 4 then s.loader
      else (s.phaseEffect phase).updSys fun x => { x with ended := x.ended ||| (1#10 <<< n) }
    .next (t.updSys fun x => { x with phase := phaseOf x.ended })

/-! ### Commands (R584 to R588) -/

/-- The effect of SYS_RESET up to its posting (R585). -/
def sysReset (c : InFlight) (s : State) : State :=
  if 1 < c.desc.u 32 1 ∨ 1 < c.desc.u 33 1 then s.fail c.uid ST_BAD_PARAM
  else if s.isActive ∧ s.isPaired ∧ c.desc.u 33 1 = 0 then s.fail c.uid ST_BUSY
  else s.endCmd c.uid ST_OK [] [] 0 0

def execSysReset (q tag : Nat) (s : State) : Host.Outcome State Fault Refusal := startCommand 0x0100 q tag s sysReset

/-- The checks of a finished load (R586 checks 3 to 5): the status of the first that fails. -/
def State.bundleStatus (s : State) (b : List Byte) : Nat :=
  if bundleForm b = false then ST_BAD_PARAM
  else if bundleAuthentic b = false then ST_AUTH_FAIL
  else if fwbSec b < s.sys.fuse then ST_LOCKED
  else ST_OK

/-- A verified bundle in an EMPTY slot. -/
def fwSlotOf (b : List Byte) : FwSlot :=
  { state := 0xFF, version := fld b 8 4, secVersion := fwbSec b, proto := fld b 14 2, comps := bundleComps b, bytes := b, verified := true }

/-- The effect of SYS_FW_LOAD (R586). A load while the active slot is on trial, or while an activation of the slot waits, changes nothing; any other
failed check leaves the slot EMPTY (DEDUCED, assumption 54). -/
def sysFwLoad (c : InFlight) (s : State) : State :=
  let off := c.desc.u 32 4
  let last := c.desc.u 36 1
  let n := s.fwOther
  let had := if off = 0 then [] else (s.fw n).bytes
  let b := had ++ c.desc.data
  let onTrial : Bool := match s.sys.fwActive with
    | some a => (s.fw a).state == 0x7F || (s.fw a).state == 0x3F
    | none => false
  if onTrial || s.sys.activate.isSome then s.fail c.uid ST_BUSY
  else if off ≠ had.length ∨ (off ≠ 0 ∧ (s.fw n).verified) ∨ 192 * 1048576 < b.length ∨ 1 < last then (s.setFw n {}).fail c.uid ST_BAD_PARAM
  else if last = 0 then (s.setFw n { bytes := b }).endCmd c.uid ST_OK [] [] c.desc.data.length 0
  else
    let st := s.bundleStatus b
    if st = ST_OK then (s.setFw n (fwSlotOf b)).endCmd c.uid ST_OK [] [] c.desc.data.length 0
    else (s.setFw n {}).fail c.uid st

def execSysFwLoad (q tag : Nat) (s : State) : Host.Outcome State Fault Refusal := startCommand 0x0101 q tag s sysFwLoad

/-- The effect of SYS_FW_ACTIVATE up to its waits (R587); while another one waits it is refused (DEDUCED, assumption 54). -/
def sysFwActivate (c : InFlight) (s : State) : State :=
  let x := s.fw s.fwOther
  if s.sys.activate.isSome then s.fail c.uid ST_BUSY
  else if x.verified = false ∨ x.state ≠ 0xFF ∨ x.version ≠ c.desc.u 32 4 then s.fail c.uid ST_BAD_PARAM
  else if s.copyFits x 3 = false ∧ s.sealOpen = false then s.fail c.uid ST_LOCKED
  else if s.copyFits x 2 = false then s.updSys fun y => { y with activate := some (c.uid, true, s.now + 60 * sec) }
  else s.fwAsk c.uid

def execSysFwActivate (q tag : Nat) (s : State) : Host.Outcome State Fault Refusal := startCommand 0x0102 q tag s sysFwActivate

/-- FW_ACTIVATE_PULSE_TIMEOUT (R587 check 3). -/
def execFwActivatePulseTimeout (s : State) : Host.Outcome State Fault Refusal := match s.sys.activate with
  | some (uid, true, t) => if t ≤ s.now then .next ((s.updSys fun x => { x with activate := none }).fail uid ST_TIMEOUT) else .next s
  | _ => .next s

/-- The effect of SYS_FW_COMMIT (R588). -/
def sysFwCommit (c : InFlight) (s : State) : State :=
  let t := match s.sys.fwActive with
    | some n =>
      let x := s.fw n
      if x.state = 0x7F ∨ x.state = 0x3F then (s.setFw n { x with state := 0x1F }).updSys fun y => { y with fuse := max y.fuse x.secVersion } else s
    | none => s
  t.endCmd c.uid ST_OK [] [] 0 0

def execSysFwCommit (q tag : Nat) (s : State) : Host.Outcome State Fault Refusal := startCommand 0x0103 q tag s sysFwCommit

/-- The effect of SYS_FW_STATUS (R588). -/
def sysFwStatus (c : InFlight) (s : State) : State :=
  let ver (x : FwSlot) : Nat := if x.state = 0xFF ∧ x.verified = false then 0 else x.version
  s.answer c (pack [(1, s.sys.fwActive.getD 0xFF), (1, s.sys.f0.state), (1, s.sys.f1.state), (1, s.sys.fuse), (4, ver s.sys.f0), (4, ver s.sys.f1),
    (1, s.sys.cause)]) []

def execSysFwStatus (q tag : Nat) (s : State) : Host.Outcome State Fault Refusal := startCommand 0x0104 q tag s sysFwStatus

end Sys2Proof.Machine
end

