-- ==== Sys2Proof/Machine/Cycle.lean ====
section
/-!
DEFINITION. The ring cycle (R140, R143, R149, R152, R546): its header, the end of an epoch raise and the steps of a release.
-/
namespace Sys2Proof.Machine

/-- The header of the present cycle (R143). -/
def State.header (s : State) (epoch : Nat) (release : Bool) : List Byte :=
  headerBytes s.ring.cycle.toNat epoch s.taiNs s.issuer ((if release then 1 else 0) + (if s.taiLocked then 0 else 2)) s.ring.plan.toNat
    (s.pn PAR_PAIR_LEASE_MS)

/-- Emits the header of the present cycle, the same on every cage on which the module emits (R136, R157). -/
def State.cycleHeader (s : State) (epoch : Nat) (release : Bool) : State :=
  s.emitCages.foldl (fun (t : State) c => t.emit (.cycleHeader c (s.header epoch release))) s

/-- A release waits for its final image (R552, R556); without a synchronising partner nothing is waited for. -/
def State.awaitsFinal (s : State) : Bool := decide (SYNC_SYNCING ≤ s.pair.sync) && (s.pair.finalWanted || s.pair.finalImage.isSome)

/-- The release has been carried out (R546): the leases of the nodes it still held have ended, the role is that of R545, and no point of a
node is defined (R407). -/
def State.releaseDone (s : State) : State :=
  let held := (s.ring.nodes.filter fun e => e.2.leased).map Prod.fst
  let t := held.foldl (fun (u : State) n => (u.leaseEnds n true).updNode n fun x => { x with state := 6, endedAt := u.now, ownLapse := true }) s
  { t with pair := { t.pair with role := t.pair.roleAfter, finalWanted := false, finalImage := none } }.ringsCheck.dropPoints

/-- One cycle of a release: RELEASE to the partner with the first of three headers that carry it, then none (R546). -/
def State.releaseCycle (s : State) : State :=
  if s.awaitsFinal then s.cycleHeader s.ring.epoch false
  else if s.pair.releaseLeft = 0 then s.releaseDone
  else
    let t := if s.pair.releaseLeft = 3 then
        (if s.pair.link then s.emit (.release s.pair.ackedCycle) else s) |> fun u => { u with pair := { u.pair with releaseAt := some u.now } }
      else s
    { t.cycleHeader t.ring.epoch true with pair := { t.pair with releaseLeft := t.pair.releaseLeft - 1 } }

/-- One cycle of a module that emits and does not release: with RELEASE while its epoch is being raised, then under the raised epoch (R152). -/
def State.headerCycle (s : State) : State := match s.ring.raiseTo with
  | none => s.cycleHeader s.ring.epoch false
  | some e =>
    if s.ring.raiseLeft = 0 then (s.cycleHeader e false).raiseEpoch e
    else { s.cycleHeader s.ring.epoch true with ring := { s.ring with raiseLeft := s.ring.raiseLeft - 1 } }

/-- A ring cycle begins (R141, R143): the nodes hold the caps that lie in their frames, the plan's number is current, and the cycle counts. -/
def State.cycleBegins (s : State) : State :=
  let t := s.capsHeld.stampPlan
  { t with ring := { t.ring with cycle := t.ring.cycle + 1, winLeft := 2, skew := t.nextSkew } }

/-- RING_CYCLE (R140, R141, R143, R164): the caps of the last cycle are held, CYCLE advances, its start slews towards a multiple of 20 µs, PLAN follows the
schedule, and the header opens the cycle's two windows; a scan whose time has come ends. Without the RING PLL there is no cycle (R574). -/
def execRingCycle (s : State) : Host.Outcome State Fault Refusal :=
  if s.sys.locks.getLsbD 2 = false then .next s
  else
    let t := s.cycleBegins
    let t := if t.pair.role = ROLE_RELEASING then t.releaseCycle else if t.emitsCycles then t.headerCycle else t
    .next t.scanDue.appResetDue

end Sys2Proof.Machine
end

