-- ==== Sys2Proof/Machine/FaultCollector.lean ====
section
/-!
DEFINITION. The fault collector's own rows (chapter 19): reports of the blocks, stalled queues, the self-check, clearing and the fault
commands. What a report does is in Report.lean.
-/
namespace Sys2Proof.Machine

/-! ### Reports (R522, R523) -/

/-- The node of an object of kind phase. -/
def phaseNode (object : Nat) : Nat := object % 65536

/-- FAULT_REPORT (R522): a block reports a source with its object. A phase hold changes its cabinet's capability (R243). -/
def execFaultReport (source object : Nat) (s : State) : Host.Outcome State Fault Refusal :=
  match sourceRow source with
  | none => .next s
  | some r =>
    if r.kind = 4 then .next ((s.report source object).capsChanged (phaseNode object) (s.nodeCaps (phaseNode object)))
    else .next (s.report source object)

/-- QUEUE_STALL (R523): CQ_FULL has held for FLT_QSTALL_MS. -/
def execQueueStall (q : Nat) (s : State) : Host.Outcome State Fault Refusal :=
  match (s.qp q).fullSince with
  | some t =>
    if (s.qp q).stalled = false ∧ t + s.pms PAR_FLT_QSTALL_MS ≤ s.now then
      .next ((s.updQp q fun p => { p with stalled := true }).report SRC_QUEUE_STALL q)
    else .next s
  | none => .next s

/-- The bits of one byte of a copy of the collector's state that a disturbance has inverted since the last comparison (R531); bit 8 is the byte's parity bit. -/
def flipsAt (l : List (Nat × Nat)) (n : Nat) : Nat := l.foldl (fun m e => if e.1 = n then m ^^^ (e.2 % 512) else m) 0

/-- A byte of the live copy whose parity bit no longer fits it: an odd number of its nine bits is inverted (R531). -/
def parityFails (live : List (Nat × Nat)) : Bool := live.any fun e => ((List.range 9).filter fun k => bit (flipsAt live e.1) k).length % 2 == 1

/-- A byte that differs between the live copy and the shadow copy, which were written alike (R531). -/
def copiesDiffer (live shadow : List (Nat × Nat)) : Bool := (live ++ shadow).any fun e => flipsAt live e.1 % 256 != flipsAt shadow e.1 % 256

/-- COLLECTOR_SELF_CHECK (R531): the copies are compared, with what disturbances have inverted in each since (assumption 149). A parity error or a mismatch asserts the
direct line; from then on nothing is set. -/
def execCollectorSelfCheck (live shadow : List (Nat × Nat)) (s : State) : Host.Outcome State Fault Refusal :=
  let parity := parityFails live
  let mismatch := copiesDiffer live shadow
  if (parity || mismatch) ∧ s.flt.request = false then
    let t := { s with flt := { s.flt with request := true, parity := s.flt.parity || parity, mismatch := s.flt.mismatch || mismatch } }
    .next ((t.raise 0x12 0x0004 ((if parity then 1 else 0) + (if mismatch then 2 else 0))).noteDegraded)
  else .next s

/-! ### Clearing (R524, R529) -/

/-- An object's kind refuses the clear (R524). -/
def State.clearRefused (s : State) (kind object : Nat) : Bool :=
  match kind with
  | 2 => decide ((s.node object).answered < 1000)
  | 4 => (s.stage (object % 2 ^ 20)).state != 0
  | _ => false

/-- A FENCED node whose instances' fences are all lifted, and which no source holds, is DEMOTED again or ONLINE (R155). -/
def State.nodeFreed (s : State) (n : Nat) : State :=
  if (s.node n).state = 4 ∧ s.held 2 n 2 = false ∧ ((s.instsOf n).keys.all fun i => (s.inst i).state != 4) = true then
    s.updNode n fun x => { x with state := if x.demoted then 3 else 2 }
  else s

/-- What the owner of a released object carries out (R529). -/
def State.released (s : State) (source kind object : Nat) : State :=
  match kind with
  | 1 =>
    (if source = SRC_BAS_RATE then s.updInst object fun x => liftFence x 2
     else s.updInst object fun x => liftFence { x with wrap := false, wrapCause := 0 } 0).nodeFreed (coefNode (s.coef object))
  | 2 =>
    if s.held 2 object 2 then s
    else ((s.instsOf object).keys.foldl (fun u i => u.updInst i fun x => liftFence x 1) s).nodeFreed object
  | 4 =>
    if s.held 4 object 2 then s
    else (s.updStage (object % 2 ^ 20) fun x => { x with fenced := x.fenced &&& ~~~((1 : BitVec 96) <<< (object / 2 ^ 20)) }).capsChanged (phaseNode object)
      (s.nodeCaps (phaseNode object))
  | _ => s

/-- Releases one hold of a source. -/
def State.releaseHold (s : State) (source kind object : Nat) : State :=
  ({ s with flt := { s.flt with holds := s.flt.holds.filter fun h => !(h.source == source && h.object == object) } }).released source kind object

/-- The condition of a source stands as a level (R529; assumption 44 lists them). -/
def State.levelStands (s : State) (source : Nat) : Bool :=
  if source = SRC_PTP_HOLDOVER then s.mbx.holdover && s.mbx.timeLocked
  else if source = SRC_IMPORT_EXCESS then s.lv.importExcess
  else if source = SRC_RING_PARTITION then s.ring.stateA == 2 || s.ring.stateB == 2
  else if source = SRC_CAN_BUSOFF then s.can.ctls.any fun e => e.2.lock
  else if source = SRC_PLC_OVERBOOKED then s.plc.nodes.any fun e => e.2.overfull
  else if source = SRC_OBS_TAMPERED then s.obs.zeroised
  else if source = SRC_GRN_SAFE_STATE then s.grn.safeState
  else if source = SRC_RING_WRAP then s.ringWrapped 0 || s.ringWrapped 1
  else if source = SRC_PLL_UNLOCK then s.sys.locks != 0x3F
  else if source = SRC_BIL_STORE then s.bil.full
  else if source = SRC_OBS_BKBAT then s.obs.bkbatWarn
  else if source = SRC_PAIR_MISMATCH then s.pair.mismatch != 0
  else false

/-- The sticky bit clears when the source holds no object; a source whose condition stands is set again (R529). Whether the heat spreader is still too hot
no command tells: it is free (assumption 44). -/
def State.clearBit (s : State) (source : Nat) : State :=
  if s.flt.holds.any fun h => h.source == source then s
  else
    let was := (s.flt.src.getD source {}).set
    let t := { s with flt := { s.flt with src := s.flt.src.upd source fun e => { e with set := false } } }
    let t := if was then t.raise 0x12 0x0002 source else t
    if was && source == SRC_TEMP_HIGH then (if t.draw.1 % 2 = 1 then t.draw.2.report source 0 else t.draw.2)
    else if was && s.levelStands source then t.report source 0 else t

/-- The objects of a source that a clear names and that are held. -/
def State.clearTargets (s : State) (source object : Nat) : List Nat :=
  ((s.flt.holds.filter fun h => h.source == source && (object == 0xFFFFFFFF || h.object == object)).map Hold.object)

/-- The effect of FLT_CLEAR (R529, R532, R535). On a standby only the sources of words 0, 1 and 9 to 15 are cleared. -/
def fltClear (c : InFlight) (s : State) : State :=
  let src := c.desc.u 32 2
  let obj := c.desc.object
  let word := src / 32
  if s.isStandby ∧ 2 ≤ word ∧ word ≤ 8 then s.fail c.uid ST_NOT_ACTIVE
  else match sourceRow src with
  | none => s.fail c.uid ST_BAD_PARAM
  | some r =>
    if obj ≠ 0xFFFFFFFF ∧ s.clearRefused r.kind obj then s.fail c.uid ST_BUSY
    else
      let l := (s.clearTargets src obj).filter fun o => !s.clearRefused r.kind o
      let t := l.foldl (fun (u : State) o => u.releaseHold src r.kind o) s
      let t := (t.clearBit src).noteDegraded
      let left := (t.flt.holds.filter fun h => h.source == src).length
      t.ok c (pack [(4, l.length), (4, left), (1, if (t.flt.src.getD src {}).set then 1 else 0)])

def execFltClear (q tag : Nat) (s : State) : Host.Outcome State Fault Refusal := startCommand 0x1202 q tag s fltClear

/-! ### Other commands (R533, R534, R536) -/

/-- A record of FLT_READ (R533). -/
def State.fltRecord (s : State) (src : Nat) : List Byte :=
  match sourceRow src with
  | none => pack [(2, src), (3, 0), (1, 4), (26, 0)]
  | some r =>
    let e := s.flt.src.getD src {}
    let held := (s.flt.holds.filter fun h => h.source == src).length
    pack [(2, src), (1, s.reaction r), (1, r.dflt), (1, r.allowed), (1, (if e.set then 1 else 0) + (if 0 < held then 2 else 0)), (1, r.kind), (1, 0),
      (4, e.count.toNat), (2, min held 65535), (2, 0), (4, e.lastObject), (4, 0), (8, e.lastTime)]

/-- The effect of FLT_READ (R533). -/
def fltRead (c : InFlight) (s : State) : State :=
  let first := c.desc.u 32 2
  let n := c.desc.u 34 2
  if n = 0 ∨ 512 < n ∨ c.desc.dataLen < 32 * n ∨ 512 < first + n then s.fail c.uid ST_BAD_PARAM
  else s.answer c [] ((List.range n).flatMap fun j => s.fltRecord (first + j))

def execFltRead (q tag : Nat) (s : State) : Host.Outcome State Fault Refusal := startCommand 0x1200 q tag s fltRead

/-- The effect of FLT_REACT_SET (R527, R534): holds in place keep the reaction they were set under. -/
def fltReactSet (c : InFlight) (s : State) : State :=
  let src := c.desc.u 32 2
  let v := c.desc.u 34 1
  match sourceRow src with
  | none => s.fail c.uid ST_BAD_PARAM
  | some r =>
    if 3 < v ∨ bit r.allowed v = false then s.fail c.uid ST_BAD_PARAM
    else ({ s with flt := { s.flt with reactions := s.flt.reactions.put src (if v = r.dflt then none else some v) } }).ok c []

def execFltReactSet (q tag : Nat) (s : State) : Host.Outcome State Fault Refusal := startCommand 0x1201 q tag s fltReactSet

/-- The effect of FLT_TEST (R536). -/
def fltTest (c : InFlight) (s : State) : State :=
  let src := c.desc.u 32 2
  if src < 480 ∨ 511 < src then s.fail c.uid ST_BAD_PARAM else (s.report src 0).ok c []

def execFltTest (q tag : Nat) (s : State) : Host.Outcome State Fault Refusal := startCommand 0x1203 q tag s fltTest

end Sys2Proof.Machine
end

