-- ==== Sys2Proof/Machine/Mailbox.lean ====
section
/-!
DEFINITION. Host mailboxes (chapter 02): the host table, doorbells, transports, fetching and acceptance, completions, events
and system time.
-/
namespace Sys2Proof.Machine

/-! ### Fetching and acceptance -/

/-- The form of a descriptor (R59 step 1): 64 bytes, reserved bytes 0 (R11), DATA_LEN and DATA_ADDR (R55). -/
def formOk (d : Desc) (pcie : Bool) : Bool :=
  d.bytes.length == 64 && zeros d.bytes 5 3 && zeros d.bytes 24 8 && decide (fld d.bytes 4 1 < 4) && decide (d.dataLen ≤ 65536) &&
  (if pcie then d.dataAddr % 4 == 0 && (d.dataLen != 0 || d.dataAddr == 0) else d.dataAddr == 0) &&
  ((cmdSpec d.opcode).map fun c => paramsOk c d).getD true

/-- In recovery the loader accepts these commands alone (R579). -/
def recoveryOps : List Nat := [0x0100, 0x0101, 0x0102, 0x0104]

/-- The first failing check of R59, steps 1 to 5; a fenced queue pair ends each descriptor with ST_FENCED at once (R524). Step 6,
the life-cycle lock, stands with the commands it concerns. -/
def State.acceptStatus (s : State) (q e : Nat) (d : Desc) : Option Nat :=
  let h := s.host e
  if s.held 8 q 2 then some ST_FENCED
  else if formOk d (h.transport == 1) = false then some ST_BAD_PARAM
  else match cmdSpec d.opcode with
    | none => some ST_UNSUPPORTED
    | some c =>
      if s.sys.recovery ∧ ¬(recoveryOps.contains d.opcode) then some ST_UNSUPPORTED
      else if s.mbx.inflight.any fun x => x.q == q && x.desc.tag == d.tag && x.status != ST_TAG_IN_USE then some ST_TAG_IN_USE
      else if c.roles &&& h.roles = 0 then some ST_DENIED
      else if c.standby = false ∧ s.isStandby then some ST_NOT_ACTIVE
      else none

/-- Whether the module takes commands: the application complex has opened its host transports (phase 6, R577), or the loader
serves the PCIe host in recovery (R579). -/
def State.serves (s : State) (e : Nat) : Bool :=
  s.sys.ended.getLsbD 6 || (s.sys.recovery && (s.host e).transport == 1)

/-- A descriptor waits in the SQ of a queue pair. -/
def State.hasDesc (s : State) (q e : Nat) : Bool :=
  let p := s.qp q
  if (s.host e).transport = 1 then p.sqHead != p.sqTail else !p.sq.isEmpty

/-- A queue pair of a host that is lost once the completion of an MBX_HOST_SET is posted (R67). -/
def State.losing (s : State) (q : Nat) : Bool := s.mbx.live.any fun e => e.2.loseAfter.any fun l => l.2.getLsbD q

/-- A queue pair from which the module may fetch (R32, R49). -/
def State.fetchable (s : State) (q : Nat) : Bool :=
  match s.ownerOf q with
  | none => false
  | some e => !s.losing q && (s.qp q).ready && ((s.qp q).enable || (s.host e).transport != 1) && s.serves e && s.hasDesc q e && s.creditFor q && decide (s.cqUsed q < s.depthOf q)

/-- The first ready queue pair of a class after its pointer, wrapping from 15 to 0 (R52). -/
def State.nextOf (s : State) (cls ptr : Nat) : Option Nat :=
  ((List.range 16).map fun j => (ptr + 1 + j) % 16).find? fun q => s.fetchable q && ((s.ownerOf q).map fun e => (s.host e).cls) == some cls

/-- The queue pair of the next turn and its class (R52). A NORMAL turn that finds no NORMAL pair ready stays owed: the count of HIGH fetches stays at 4
(DESIGN CHOICE, assumption 105). -/
def State.nextTurn (s : State) : Option (Nat × Nat) :=
  let hi := s.nextOf 1 s.mbx.ptrHigh
  let lo := s.nextOf 0 s.mbx.ptrNormal
  match hi, lo with
  | some q, none => some (q, 1)
  | some q, some p => if s.mbx.highRun < 4 then some (q, 1) else some (p, 0)
  | none, some p => some (p, 0)
  | none, none => none

/-- The descriptor that the fetch takes: of an Ethernet pair the oldest in module memory, of a PCIe pair the one its DMA reads. -/
def State.takenDesc (s : State) (q e : Nat) (dma : Desc) : Desc :=
  if (s.host e).transport = 1 then dma else (s.qp q).sq.headD dma

/-- DESCRIPTOR_FETCH (R49, R52, R57 to R59). `dma` is what host memory holds in the fetched slot of a PCIe pair. A command that fails a check of R59 ends
with that check's status at once, also behind a failed LINK (DESIGN CHOICE, assumption 107). -/
def execDescriptorFetch (dma : Desc) (s : State) : Host.Outcome State Fault Refusal :=
  match s.nextTurn with
  | none => .next s
  | some (q, cls) =>
    match s.ownerOf q with
    | none => .next s
    | some e =>
      let d := s.takenDesc q e dma
      let p := s.qp q
      let st := s.acceptStatus q e d
      let c : InFlight := { uid := s.mbx.nextUid, q := q, entry := e, desc := d, ordered := d.ordered || p.lastLink.isSome, linked := p.lastLink,
                            linkFailed := p.linkStatus != ST_OK,
                            phase := if st.isSome then .done else .waiting, status := st.getD 0, result := padTo 16 [] }
      let t := s.updQp q fun p => { p with sqHead := (p.sqHead + 1) % max 1 (s.depthOf q), sq := p.sq.tail, linkStatus := ST_OK,
                                           lastLink := if d.link = true then some s.mbx.nextUid else none }
      let t := { t with mbx := { t.mbx with
        inflight := t.mbx.inflight ++ [c], nextUid := t.mbx.nextUid + 1,
        ptrNormal := if cls = 0 then q else t.mbx.ptrNormal, ptrHigh := if cls = 1 then q else t.mbx.ptrHigh,
        highRun := if cls = 1 then min 4 (t.mbx.highRun + 1) else 0 } }
      .next (t.noteFull q)

/-! ### Completions -/

/-- Bytes 0 to 15 of a completion (R56). STANDBY is set in every role but ACTIVE (DESIGN CHOICE, assumption 106). -/
def completionHead (s : State) (c : InFlight) (p : QPair) (evtLost : Bool) : List Byte :=
  let b (v : Bool) (k : Nat) : Nat := if v then 2 ^ k else 0
  pack [(2, c.desc.tag), (1, c.q), (1, c.status), (2, c.desc.opcode), (1, p.sqHead),
        (1, p.phase + b evtLost 1 + b s.isDegraded 2 + b s.isStandby 3), (4, c.dataDone), (4, 0)]

/-- Writes a completion to its CQ and signals it (R37, R53, R56, R69). -/
def State.writeCompletion (s : State) (c : InFlight) : State :=
  let p := s.qp c.q
  let l := s.hostLive c.entry
  let depth := max 1 (s.depthOf c.q)
  let pcie := (s.host c.entry).transport == 1
  let wait := s.pn PAR_HOST_IRQ_COALESCE_US
  let t := s.emit (.completion c.q (completionHead s c p l.evtLost) c.result c.data)
  let t := t.updQp c.q fun p =>
    { p with cqTail := (p.cqTail + 1) % depth, phase := if p.cqTail + 1 = depth then 1 - p.phase else p.phase,
             unconsumed := p.unconsumed + 1, linkStatus := if p.lastLink = some c.uid then c.status else p.linkStatus,
             irqSince := if pcie && p.irqEn && wait != 0 then some (p.irqSince.getD s.now) else p.irqSince }
  let t := t.updLive c.entry fun l => { l with evtLost := false, lastTx := s.now, records := l.records + 1 }
  if pcie && p.irqEn && wait == 0 then t.emit (.msix c.q) else t

/-- Whether a completion may be posted: the standby has acknowledged an image that holds the effect (R62). -/
def State.mayPost (s : State) (c : InFlight) : Bool :=
  c.phase == .done && (c.image == 0 || !s.isPaired || decide (c.image ≤ s.pair.imgAcked))

/-- What follows the posting of a completion: the host of a changed entry is lost (R67), and a reset is due 5 ms later (R576). -/
def State.afterPost (s : State) (c : InFlight) : State :=
  let t := match (s.mbx.live.find? fun e => e.2.loseAfter.any fun l => l.1 == c.uid) with
    | some (e, l) => s.loseHostOf e (l.loseAfter.foldl (fun (m : BitVec 16) x => m ||| x.2) 0)
    | none => s
  if c.desc.opcode = 0x0100 ∧ c.status = ST_OK then
    let app := c.desc.u 32 1 == 1
    let t := if t.isActive ∧ app = false then t.beginRelease 8 else t
    t.resetAt (if app then 1 else 0) (if app then 5 else 3) (t.now + 5 * ms)
  else t

/-- What the completion of a command with LINK means to the next command of its SQ (R58). -/
def InFlight.linkVerdict (c d : InFlight) : InFlight :=
  if d.linked = some c.uid ∧ c.status ≠ ST_OK then { d with linkFailed := true } else d

/-- Posts one completion: the command leaves the flight, and its credit returns to the pool (R49). A command that the partner
forwarded (pseudo queue pair 16) is answered over the pair link (R373). -/
def State.post (s : State) (c : InFlight) : State :=
  let t := { s with mbx := { s.mbx with inflight := (s.mbx.inflight.filter fun (d : InFlight) => d.uid != c.uid).map c.linkVerdict } }
  let t := if c.q = 16 then t.emit (.partnerReply c.desc.tag c.status) else if c.discard then t else t.writeCompletion c
  (t.noteFull c.q).afterPost c

/-- COMPLETION_POST (R62). -/
def execCompletionPost (q tag : Nat) (s : State) : Host.Outcome State Fault Refusal :=
  match s.mbx.inflight.find? fun c => c.q == q && c.desc.tag == tag && s.mayPost c with
  | none => .next s
  | some c => .next (s.post c)

/-- IRQ_COALESCE_EXPIRY (R37). -/
def execIrqCoalesceExpiry (q : Nat) (s : State) : Host.Outcome State Fault Refusal :=
  match (s.qp q).irqSince with
  | none => .next s
  | some t =>
    if t + s.pn PAR_HOST_IRQ_COALESCE_US * us ≤ s.now then
      let u := s.updQp q fun p => { p with irqSince := none }
      .next (if (s.qp q).irqEn then u.emit (.msix q) else u)
    else .next s

/-! ### Mailbox commands -/

/-- The entry that MBX_HOST_SET writes (R66). -/
def hostOfDesc (d : Desc) : HostEntry :=
  { transport := d.u 34 1, cls := d.u 35 1, roles := BitVec.ofNat 16 (d.u 36 2), queueMask := BitVec.ofNat 16 (d.u 38 2),
    depth := d.u 40 1, reserve := d.u 41 1, sharedCap := d.u 42 2, identity := d.data }

/-- An entry within its own ranges (R34, R48, R50, R66). -/
def hostEntryOk (h : HostEntry) (dataLen : Nat) : Bool :=
  decide (1 ≤ h.transport ∧ h.transport ≤ 5) && decide (h.cls ≤ 1) && h.roles &&& ~~~ALL_ROLES == 0 &&
  decide (16 ≤ h.depth ∧ h.depth ≤ 128 ∧ h.depth % 16 = 0) && decide (h.reserve ≤ 64 ∧ h.reserve ≤ h.depth) && decide (h.sharedCap ≤ 256) &&
  dataLen == (if h.transport = 1 then 0 else 32) && h.identity.length == dataLen

/-- No two entries share a queue pair (R32). -/
def queuesDisjoint : List HostEntry → Bool
  | [] => true
  | h :: hs => hs.all (fun g => h.queueMask &&& g.queueMask == 0) && queuesDisjoint hs

/-- The rules a host table keeps (R32, R33, R50, R67): disjoint queue pairs, one PCIe entry at most, reserves of at most 256
credits, and an entry with role OWNER. -/
def hostTableOk (t : Tab HostEntry) : Bool :=
  queuesDisjoint t.vals && decide ((t.vals.filter fun h => h.transport == 1).length ≤ 1) && decide (reserveSum t ≤ 256) &&
  t.vals.any fun h => h.roles &&& OWNER != 0

/-- The host table that MBX_HOST_SET would leave, none when a field is out of range (R66). -/
def hostTableAfter (d : Desc) (t : Tab HostEntry) : Option (Tab HostEntry) :=
  if 15 < d.u 32 1 ∨ d.object ≠ 0 then none
  else if d.u 33 1 = 0 then (if hostEntryOk (hostOfDesc d) d.dataLen then some (t.set (d.u 32 1) (hostOfDesc d)) else none)
  else if d.u 33 1 = 1 ∧ d.dataLen = 0 then some (t.del (d.u 32 1))
  else none

/-- The effect of MBX_HOST_SET (R66, R67). -/
def mbxHostSet (c : InFlight) (s : State) : State :=
  match hostTableAfter c.desc s.mbx.hosts with
  | none => s.fail c.uid ST_BAD_PARAM
  | some t =>
    if hostTableOk t then
      let e := c.desc.u 32 1
      let old := s.host e
      let lose := s.mbx.hosts.get? e != t.get? e && (s.hostLive e).connected
      let u := { s with mbx := { s.mbx with hosts := t } }
      let u := u.updLive e fun l => { l with events := [], eventMask := 0x000FFFFE, evtLost := false,
                                             loseAfter := if lose then l.loseAfter ++ [(c.uid, old.queueMask)] else l.loseAfter }
      u.ok c []
    else s.fail c.uid ST_BAD_PARAM

def execMbxHostSet (q tag : Nat) (s : State) : Host.Outcome State Fault Refusal := startCommand 0x0120 q tag s mbxHostSet

/-- The effect of MBX_EVENT_WAIT (R68, R69). -/
def mbxEventWait (c : InFlight) (s : State) : State :=
  let m := waitMask c
  if m &&& ~~~(0x000FFFFE#32) ≠ 0 then s.fail c.uid ST_BAD_PARAM
  else if 4 < (s.mbx.inflight.filter (isWaitOf c.entry)).length then s.fail c.uid ST_BUSY
  else (s.updLive c.entry fun l => { l with eventMask := m }).deliver c.entry

def execMbxEventWait (q tag : Nat) (s : State) : Host.Outcome State Fault Refusal := startCommand 0x0121 q tag s mbxEventWait

/-- The command in flight that MBX_ABORT names, other than itself: a tag of its own names none (DESIGN CHOICE, assumption 108). -/
def State.abortTarget (s : State) (c : InFlight) : Option InFlight :=
  s.mbx.inflight.find? fun d => d.q == c.desc.u 32 1 && d.desc.tag == c.desc.u 34 2 && d.uid != c.uid && d.status != ST_TAG_IN_USE

/-- A command that MBX_ABORT ends: one that has not started, or an MBX_EVENT_WAIT (R70). -/
def abortable (d : InFlight) : Bool := d.phase == .waiting || (d.phase == .running && d.desc.opcode == 0x0121)

/-- The effect of MBX_ABORT (R70): OUTCOME 0, the target's completion with ST_ABORTED posted first; 1, it has started; 2, none. A target that is done and
not yet posted gives OUTCOME 1 (DESIGN CHOICE, assumption 108). -/
def mbxAbort (c : InFlight) (s : State) : State :=
  if (s.host c.entry).queueMask.getLsbD (c.desc.u 32 1) = false then s.fail c.uid ST_DENIED
  else match s.abortTarget c with
    | none => s.answer c (pack [(1, 2)]) []
    | some d =>
      if abortable d then (s.post { d with phase := .done, status := ST_ABORTED, result := padTo 16 [] }).answer c (pack [(1, 0)]) []
      else (s.canAbort d).answer c (pack [(1, 1)]) []

def execMbxAbort (q tag : Nat) (s : State) : Host.Outcome State Fault Refusal := startCommand 0x0122 q tag s mbxAbort

/-! ### Doorbells and queue registers -/

/-- A queue pair of the PCIe transport (R71). -/
def State.isPcieQ (s : State) (q : Nat) : Bool := match s.ownerOf q with
  | some e => (s.host e).transport == 1
  | none => false

/-- MBX_SQ_TAIL_DB (R54): a tail that would pass the head, an index outside the ring, or a pair that is not READY is ignored with
DB_ERR. A queue pair that belongs to no entry ignores its doorbells (R32). -/
def execMbxSqTailDb (q tail : Nat) (s : State) : Host.Outcome State Fault Refusal :=
  if s.isPcieQ q then
    let p := s.qp q
    let depth := s.depthOf q
    let queued := (p.sqTail + depth - p.sqHead) % depth
    let adv := (tail + depth - p.sqTail) % depth
    if p.ready ∧ tail < depth ∧ queued + adv ≤ depth - 1 then .next (s.updQp q fun p => { p with sqTail := tail })
    else .next (s.updQp q fun p => { p with dbErr := true })
  else .next s

/-- MBX_CQ_HEAD_DB (R54): a head that would pass the tail is ignored with DB_ERR; otherwise the consumed slots are free. -/
def execMbxCqHeadDb (q head : Nat) (s : State) : Host.Outcome State Fault Refusal :=
  if s.isPcieQ q then
    let p := s.qp q
    let depth := s.depthOf q
    let cqHead := (p.cqTail + depth - p.unconsumed % max 1 depth) % max 1 depth
    let adv := (head + depth - cqHead) % depth
    if p.ready ∧ head < depth ∧ adv ≤ p.unconsumed then
      .next ((s.updQp q fun p => { p with unconsumed := p.unconsumed - adv }).noteFull q)
    else .next (s.updQp q fun p => { p with dbErr := true })
  else .next s

/-- QUEUE_ENABLE (R53, R71): it takes effect on a queue pair of the PCIe transport, whose host it shows to be connected (DESIGN CHOICE, assumption 110).
While a stop drains it cancels the stop: READY and the indices stay (DESIGN CHOICE, assumption 109). -/
def execQueueEnable (q : Nat) (s : State) : Host.Outcome State Fault Refusal :=
  match s.ownerOf q with
  | none => .next s
  | some e =>
    if (s.host e).transport = 1 ∧ s.mbx.pcieUp then
      let t := s.updLive e fun l => { l with connected := true, port := 1 }
      if (s.qp q).ready then .next (t.updQp q fun p => { p with enable := true }) else .next (t.updQp q QPair.started)
    else .next s

/-- QUEUE_DISABLE (R71): fetching stops. -/
def execQueueDisable (q : Nat) (s : State) : Host.Outcome State Fault Refusal :=
  if s.isPcieQ q then .next (s.updQp q fun p => { p with enable := false }) else .next s

/-- QUEUE_DRAINED (R71): no command is in flight any longer, READY falls and the indices reset. -/
def execQueueDrained (q : Nat) (s : State) : Host.Outcome State Fault Refusal :=
  if s.isPcieQ q ∧ (s.qp q).enable = false ∧ (s.qp q).ready ∧ s.inflightOf q = 0 then .next (s.updQp q QPair.emptied) else .next s

/-! ### Ethernet transport -/

/-- The entry whose identity a key hash is, on a port (R40); of several the lowest-numbered (DESIGN CHOICE, assumption 103). -/
def State.admits (s : State) (port : Nat) (hash : List Byte) : Option Nat :=
  (s.mbx.hosts.find? fun e => decide (2 ≤ e.2.transport) && e.2.identity == hash && (e.2.transport == port || e.2.transport == 5)).map Prod.fst

/-- The address parameter of a port (R47). -/
def portAddr (port : Nat) : Nat := if port = 2 then PAR_ETH0_IP else if port = 3 then PAR_ETH1_IP else PAR_ETH2_IP

/-- The supported cipher suites, groups and signatures of the host ports (R39). -/
def hostSuites : List TlsSuite := [.aes128GcmSha256, .aes256GcmSha384]
def hostGroups : List TlsGroup := [.secp256r1, .secp384r1, .x448]
def hostSigs : List TlsSig := [.ecdsaP256Sha256, .ecdsaP384Sha384]

/-- What a handshake settles on, none where it is refused (R39): TLS 1.3 with the peer's certificate, and of each list the first supported option in the
peer's order (DESIGN CHOICE, assumption 102). A pre-shared key, a ticket and 0-RTT data are passed over. -/
def TlsOffer.chosen (o : TlsOffer) : Option (TlsSuite × TlsGroup × TlsSig) :=
  match o.suites.find? hostSuites.contains, o.groups.find? hostGroups.contains, o.sigs.find? hostSigs.contains with
  | some a, some b, some c => if o.tls13 && o.certificate then some (a, b, c) else none
  | _, _, _ => none

/-- The module takes handshakes on a port (R40, R47): its transports are open, the port has an address, and the identity key may sign for the application. -/
def State.listens (s : State) (port : Nat) : Bool :=
  decide (2 ≤ port ∧ port ≤ 4) && s.sys.ended.getLsbD 6 && s.pn (portAddr port) != 0 && s.slotAllows 0 0 M_APP

/-- The session of an entry opens on a port (R39, R41): an open one is lost first, the queue pairs run, and the record keys are made. -/
def State.openSession (s : State) (port e : Nat) (suite : TlsSuite) : State :=
  let t := if (s.hostLive e).connected then s.loseHost e else s
  let t := ((List.range 16).filter fun q => (s.host e).queueMask.getLsbD q).foldl (fun u q => u.updQp q QPair.opened) t
  (t.putKeys (768 + 2 * e) 2 false suite).updLive e fun l =>
    { l with connected := true, port := port, suite := some suite, lastRx := s.now, lastTx := s.now, records := 0, keyAt := s.now }

/-- TLS_HANDSHAKE (R39 to R41), on the port HOST_TLS_PORT: `keyHash` is the SHA-256 of the public key in the peer's certificate. -/
def execTlsHandshake (port : Nat) (keyHash : List Byte) (offer : TlsOffer) (s : State) : Host.Outcome State Fault Refusal :=
  if s.listens port ∧ offer.tcpPort = s.pn PAR_HOST_TLS_PORT then
    match offer.chosen, s.admits port keyHash with
    | some (suite, group, sig), some e => .next ((s.openSession port e suite).emit (.tlsAccept e suite group sig))
    | _, _ => .next s
  else .next s

/-- A message has arrived from a host. -/
def State.heard (s : State) (e : Nat) : State := s.updLive e fun l => { l with lastRx := s.now }

/-- A connected Ethernet host. -/
def State.ethHost (s : State) (e : Nat) : Bool := (s.hostLive e).connected && decide (2 ≤ (s.host e).transport)

/-- A completion of a REJECT: the 32 bytes of R56 with ST_QUEUE_FULL (R42, R43). PHASE is the queue pair's present one (DESIGN CHOICE, assumption 115). -/
def State.rejection (s : State) (entry q : Nat) (evtLost : Bool) (d : Desc) : List Byte :=
  completionHead s { uid := 0, q := q, entry := entry, desc := d, status := ST_QUEUE_FULL } (s.qp q) evtLost ++ List.replicate 16 0

/-- Sends one REJECT for the descriptors that found no slot (R42, R43); the first completion carries EVT_LOST where it is due (R69). -/
def State.reject (s : State) (entry q : Nat) (l : List Desc) : State := match l with
  | [] => s
  | d :: ds =>
    (s.emit (.reject entry q (s.rejection entry q (s.hostLive entry).evtLost d :: ds.map (s.rejection entry q false)))).updLive entry fun x =>
      { x with evtLost := false, lastTx := s.now, records := x.records + 1 }

/-- SUBMIT (R42, R43): the descriptors are appended until the SQ is full, and the others are rejected. A queue pair that is not
the host's own has no free slot for it (assumption 7). -/
def execSubmit (entry q : Nat) (descs : List Desc) (s : State) : Host.Outcome State Fault Refusal :=
  if s.ethHost entry then
    let t := s.heard entry
    let free := if s.ownerOf q = some entry then s.depthOf q - (s.qp q).sq.length else 0
    let t := t.updQp q fun p => { p with sq := p.sq ++ descs.take free }
    .next (t.reject entry q (descs.drop free))
  else .next s

/-- CQ_ACK (R42): COUNT slots are free again; a count above the unconsumed completions closes the session. A queue pair that is not the host's own has no
unconsumed completion of it, so a CQ_ACK for it closes the session too (DESIGN CHOICE, assumption 104). -/
def execCqAck (entry q count : Nat) (s : State) : Host.Outcome State Fault Refusal :=
  if s.ethHost entry then
    if s.ownerOf q = some entry ∧ count ≤ (s.qp q).unconsumed then
      .next (((s.heard entry).updQp q fun p => { p with unconsumed := p.unconsumed - count }).noteFull q)
    else .next ((s.loseHost entry).emit (.closeSession entry))
  else .next s

/-- KEEPALIVE (R44). -/
def execKeepalive (entry : Nat) (s : State) : Host.Outcome State Fault Refusal :=
  if s.ethHost entry then .next (s.heard entry) else .next s

/-- BAD_HOST_MESSAGE (R42). -/
def execBadHostMessage (entry : Nat) (s : State) : Host.Outcome State Fault Refusal :=
  if s.ethHost entry then .next ((s.loseHost entry).emit (.closeSession entry)) else .next s

/-- TLS_SESSION_CLOSED (R44). -/
def execTlsSessionClosed (entry : Nat) (s : State) : Host.Outcome State Fault Refusal :=
  if s.ethHost entry then .next (s.loseHost entry) else .next s

/-- HOST_KEEPALIVE_TIMEOUT (R44). -/
def execHostKeepaliveTimeout (entry : Nat) (s : State) : Host.Outcome State Fault Refusal :=
  if s.ethHost entry ∧ (s.hostLive entry).lastRx + s.pms PAR_HOST_KEEPALIVE_MS ≤ s.now then .next ((s.loseHost entry).emit (.closeSession entry))
  else .next s

/-- KEEPALIVE_SEND_DUE (R44). -/
def execKeepaliveSendDue (entry : Nat) (s : State) : Host.Outcome State Fault Refusal :=
  if s.ethHost entry ∧ (s.hostLive entry).lastTx + s.pms PAR_HOST_KEEPALIVE_MS / 2 ≤ s.now then
    .next ((s.emit (.keepalive entry)).updLive entry fun l => { l with lastTx := s.now, records := l.records + 1 })
  else .next s

/-- TLS_KEY_UPDATE_DUE (R39). -/
def execTlsKeyUpdateDue (entry : Nat) (s : State) : Host.Outcome State Fault Refusal :=
  let l := s.hostLive entry
  if s.ethHost entry ∧ (16777216 ≤ l.records ∨ l.keyAt + hour ≤ s.now) then
    .next ((s.emit (.keyUpdate entry)).updLive entry fun l => { l with records := 0, keyAt := s.now })
  else .next s

/-! ### PCIe -/

/-- The entry with the PCIe transport (R33). -/
def State.pcieEntry (s : State) : Option Nat := (s.mbx.hosts.find? fun e => e.2.transport == 1).map Prod.fst

/-- The PCIe host is lost (R38); a function that is down answers no access. -/
def State.losePcie (s : State) : State := match s.pcieEntry with
  | some e => if (s.hostLive e).connected then s.loseHost e else s
  | none => s

/-- PCIE_LINK_DOWN (R38). -/
def execPcieLinkDown (s : State) : Host.Outcome State Fault Refusal :=
  .next { s.losePcie with mbx := { s.losePcie.mbx with pcieUp := false } }

/-- PCIE_FUNCTION_RESET (R38, R575): the function alone restarts. -/
def execPcieFunctionReset (s : State) : Host.Outcome State Fault Refusal := .next s.losePcie

/-- PERST_N (R596, R38): the host counts as connected from its rise on (DESIGN CHOICE, assumption 110); low holds the function in reset; its rise starts link training, which the model takes to succeed
(assumption 8). -/
def execPerstN (high : Bool) (s : State) : Host.Outcome State Fault Refusal :=
  let t := { s with pins := { s.pins with perstN := high } }
  if high then
    let t := { t with mbx := { t.mbx with pcieUp := true } }
    match t.pcieEntry with
    | some e => .next (t.updLive e fun l => { l with connected := true, port := 1 })
    | none => .next t
  else .next { t.losePcie with mbx := { t.losePcie.mbx with pcieUp := false } }

/-! ### System time -/

/-- What the best master clock algorithm compares, in order (IEEE 1588-2019, PRESUMED, assumption 116): the data set, the sender, the receiving port. -/
def masterKey (m : PtpClock × Nat) : List Nat :=
  [m.1.priority1, m.1.clockClass, m.1.accuracy, m.1.variance, m.1.priority2, m.1.grandmaster, m.1.stepsRemoved, m.1.clock, m.1.clockPort, m.2]

/-- The first difference of two lists of numbers is in favour of the first list. -/
def keyBefore : List Nat → List Nat → Bool
  | a :: l, b :: m => decide (a < b) || (a == b && keyBefore l m)
  | _, _ => false

/-- The best master among those heard on both ports (R45). -/
def bestMaster : List (PtpClock × Nat) → Option (PtpClock × Nat)
  | [] => none
  | m :: l => match bestMaster l with
    | none => some m
    | some b => if keyBefore (masterKey b) (masterKey m) then some b else some m

/-- A message of the module's domain, over its transport (R45, R47). -/
def State.ptpHere (s : State) (domain transport : Nat) : Bool :=
  (domain : Int) == s.pv PAR_PTP_DOMAIN && (transport : Int) == s.pv PAR_PTP_TRANSPORT

/-- A hardware time stamp: system time at a resolution of 8 ns (R45). -/
def State.stamp (s : State) : Int := (s.sysTime / 8 * 8 : Nat)

/-- An Announce: the master's data set is kept, and the best master is selected; with another master the exchange starts again (R45). -/
def State.ptpAnnounce (s : State) (port : Nat) (d : PtpClock) : State :=
  let l := (s.mbx.masters.filter fun x => x.1.clock != d.clock || x.1.clockPort != d.clockPort || x.2 != port) ++ [(d, port)]
  let best := (bestMaster l).map fun m => (m.1.clock, m.1.clockPort, m.2)
  if best = s.mbx.master then { s with mbx := { s.mbx with masters := l } }
  else { s with mbx := { s.mbx with masters := l, master := best, ptpSync := none, ptpReq := none, pathDelay := none } }

/-- System time is corrected by its offset from the master, in one step (DESIGN CHOICE, assumption 9). The offset of REF that shows is a free value, since
no rule gives it (R591). -/
def State.discipline (s : State) (offset : Int) : State :=
  let f := s.drawInt
  { f.2 with mbx := { s.mbx with sysOffset := s.mbx.sysOffset - offset, holdover := false, timeLocked := true }, sys := { s.sys with refPpb := f.1 } }

/-- A Sync is complete (R45): `d` is its ingress time less its origin time. With the path delay known, system time follows; a Delay_Req goes out, whose egress
time is kept beside what remains of `d`. -/
def State.ptpSynced (s : State) (port : Nat) (d : Int) : State :=
  let t := match s.mbx.pathDelay with
    | some p => s.discipline (d - p)
    | none => s
  { t.emit (.delayReq port t.mbx.ptpSeq) with
    mbx := { t.mbx with ptpSync := none, ptpSeq := (t.mbx.ptpSeq + 1) % 65536, ptpReq := some (t.mbx.ptpSeq, s.mbx.pathDelay.getD d, t.stamp) } }

/-- The Delay_Resp to the Delay_Req in flight (R45): half the sum of both directions is the path delay; the first one also sets system time. -/
def State.ptpDelayed (s : State) (d t3 t4 : Int) : State :=
  let p := (d + (t4 - t3)) / 2
  let t := if s.mbx.pathDelay.isSome then s else s.discipline (d - p)
  { t with mbx := { t.mbx with ptpReq := none, pathDelay := some p } }

/-- PTP_MESSAGE (R45): ETH0 and ETH1 only, in the module's domain and over its transport; only the selected master is followed. -/
def execPtpMessage (port : Nat) (msg : PtpMsg) (s : State) : Host.Outcome State Fault Refusal :=
  if port = 2 ∨ port = 3 then
    match msg with
    | .announce d dom tr => .next (if s.ptpHere dom tr then s.ptpAnnounce port d else s)
    | .sync c p seq twoStep t1 dom tr =>
      if s.ptpHere dom tr ∧ s.mbx.master = some (c, p, port) then
        .next (if twoStep then { s with mbx := { s.mbx with ptpSync := some (seq, s.stamp) } } else s.ptpSynced port (s.stamp - t1))
      else .next s
    | .followUp c p seq t1 dom tr => match s.mbx.ptpSync with
      | some (n, t2) => .next (if s.ptpHere dom tr ∧ s.mbx.master = some (c, p, port) ∧ n = seq then s.ptpSynced port (t2 - t1) else s)
      | none => .next s
    | .delayResp c p seq t4 dom tr => match s.mbx.ptpReq with
      | some (n, d, t3) => .next (if s.ptpHere dom tr ∧ s.mbx.master = some (c, p, port) ∧ n = seq then s.ptpDelayed d t3 t4 else s)
      | none => .next s
  else .next s

/-- PTP_MASTER_LOST (R46). -/
def execPtpMasterLost (s : State) : Host.Outcome State Fault Refusal :=
  .next (({ s with mbx := { s.mbx with masters := [], master := none, ptpSync := none, ptpReq := none, pathDelay := none, holdover := true } }).report SRC_PTP_HOLDOVER 0)

end Sys2Proof.Machine
end

