-- ==== Sys2Proof/Machine/Params.lean ====
section
/-!
DEFINITION. Parameters (chapter 03): PAR_GET, PAR_DESCRIBE and PAR_SET, island entries included.
-/
namespace Sys2Proof.Machine

/-! ### Island entries -/

/-- The value an island holds for an entry: READ_ONLY entries follow the island's state, the others hold what was set (R76). -/
def State.islandValue (s : State) (id : Nat) : Int :=
  if id = PAR_MET_CAL_SEQ then s.met.calSeq
  else if id = PAR_MET_SEAL_COUNT then s.met.sealCount
  else if id = PAR_MET_SEAL_OPEN then (if s.met.sealEnd.isSome then 1 else 0)
  else if id = PAR_MET_CHAN_COUNT then s.met.recs.length
  else if 0x0E00 ≤ id ∧ id < 0x0E10 then fld (s.bil.tables.getD (id - 0x0E00) {}).active 16 4
  else if s.grn.image.header.isEmpty then s.isl id
  else if id = PAR_GRN_TP_PERIOD_MS then fld s.grn.image.header 8 2
  else if id = PAR_GRN_TP_US then fld s.grn.image.header 10 2
  else if id = PAR_GRN_CRC_MAX then fld s.grn.image.header 12 2
  else if id = PAR_GRN_RESET_WINDOW_S then fld s.grn.image.header 14 2
  else if id = PAR_GRN_UDP_PORT then fld s.grn.image.header 16 2
  else if id = PAR_GRN_CONFIG_CRC then fld s.grn.image.header 28 4
  else s.isl id

/-- The island's own check of a value (R375: the billing entries that Jasper locks while the seal is closed). -/
def State.islandRefuses (s : State) (id : Nat) : Option Nat :=
  if (id = PAR_BIL_ADJ_LIMIT_S ∨ id = PAR_BIL_PERIOD_DAY ∨ id = PAR_BIL_PERIOD_HOUR) ∧ s.met.sealEnd = none then some ST_LOCKED else none

/-! ### Reading -/

/-- SOURCE and VALUE of an entry in a layer (R87). -/
def State.parLayer (s : State) (layer id : Nat) : Nat × Int :=
  match parEntry id with
  | none => (0, 0)
  | some e =>
    let slotSrc := match s.par.active with
      | some n => 2 + n
      | none => 0
    match layer with
    | 1 => match s.par.live.get? id with
      | some v => (1, v)
      | none => (0, 0)
    | 2 => match s.imageVal id with
      | some v => (slotSrc, v)
      | none => (0, 0)
    | 3 => (4, e.dflt)
    | _ =>
      if e.isIsland then (5, s.islandValue id)
      else if e.apply = 1 then
        (s.par.runSrc.getD id 4, s.pv id)
      else match s.par.live.get? id with
        | some v => (1, v)
        | none => match s.imageVal id with
          | some v => (slotSrc, v)
          | none => (4, e.dflt)

/-- A record of PAR_GET (R87). -/
def State.parRecord (s : State) (layer id : Nat) : List Byte :=
  let r := s.parLayer layer id
  pack [(2, id), (1, r.1), (5, 0)] ++ leInt 8 r.2

/-- The effect of PAR_GET (R87). -/
def parGet (c : InFlight) (s : State) : State :=
  let d := c.desc
  let first := d.u 32 2
  let n := d.u 34 2
  let layer := d.u 36 1
  if n = 0 ∨ 4096 < n ∨ 3 < layer ∨ d.dataLen < 16 * n ∨ 0x1800 < first + n then s.fail c.uid ST_BAD_PARAM
  else s.answer c [] ((List.range n).flatMap fun j => s.parRecord layer (first + j))

def execParGet (q tag : Nat) (s : State) : Host.Outcome State Fault Refusal := startCommand 0x0200 q tag s parGet

/-- The bytes of a name, padded with zeros to 24 (R73). -/
def nameBytes (n : String) : List Byte := padTo 24 (n.toList.map fun ch => BitVec.ofNat 8 ch.toNat)

/-- The 64-byte descriptor of an ID (R73, R88). -/
def parDescriptor (id : Nat) : List Byte :=
  match parEntry id with
  | none => padTo 64 (pack [(2, id)])
  | some e => pack [(2, e.id), (1, e.type), (1, e.unit)] ++ leInt 1 e.scale ++ pack [(1, e.apply), (2, e.flags), (2, e.roles.toNat), (6, 0)] ++
      leInt 8 e.min ++ leInt 8 e.max ++ leInt 8 e.dflt ++ nameBytes e.name

/-- The effect of PAR_DESCRIBE (R88). -/
def parDescribe (c : InFlight) (s : State) : State :=
  let d := c.desc
  let first := d.u 32 2
  let n := d.u 34 2
  if n = 0 ∨ 1024 < n ∨ d.dataLen < 64 * n ∨ 0x1800 < first + n then s.fail c.uid ST_BAD_PARAM
  else s.answer c [] ((List.range n).flatMap fun j => parDescriptor (first + j))

def execParDescribe (q tag : Nat) (s : State) : Host.Outcome State Fault Refusal := startCommand 0x0202 q tag s parDescribe

/-! ### Setting -/

/-- The value of an 8-byte container for a type (R74): signed for I32 and I64. -/
def containerVal (type : Nat) (d : Desc) : Int := if type = 4 ∨ type = 6 then d.i 40 8 else (d.u 40 8 : Int)

/-- A live value set after the snapshot of a running store is not cleared by it (R90). -/
def NvOp.touched (op : NvOp) (id : Nat) : NvOp := { op with took := op.took.del id }

/-- The effect of PAR_SET on an entry that is no island's (R77, R89). -/
def parSetLive (c : InFlight) (e : ParEntry) (s : State) : State :=
  let v := containerVal e.type c.desc
  let t := { s with par := { s.par with live := s.par.live.put e.id (if c.desc.u 34 1 = 0 then some v else none), op := s.par.op.map fun (o : NvOp) => o.touched e.id } }
  let t := if e.apply = 2 then t.setRunning e.id (t.effective e.id) else t
  t.ok c (pack [(1, if e.apply = 1 then 1 else 0)])

/-- The effect of PAR_SET (R89). An island entry waits for its island's HOLDUP leave, at most 2 s (R76). -/
def parSet (c : InFlight) (s : State) : State :=
  let d := c.desc
  let id := d.u 32 2
  let op := d.u 34 1
  match parEntry id with
  | none => s.fail c.uid ST_BAD_PARAM
  | some e =>
    let v := containerVal e.type d
    if 1 < op then s.fail c.uid ST_BAD_PARAM
    else if e.readOnly || e.legal || e.safety then s.fail c.uid ST_DENIED
    else if c.q ≠ PARTNER_Q ∧ e.roles &&& (s.host c.entry).roles = 0 then s.fail c.uid ST_DENIED
    else if s.isStandby ∧ ¬(e.pairLocal || e.isIsland) then s.fail c.uid ST_NOT_ACTIVE
    else if op = 0 ∧ ¬(e.min ≤ v ∧ v ≤ e.max) then s.fail c.uid ST_BAD_PARAM
    else if op = 1 ∧ e.isIsland then s.fail c.uid ST_BAD_PARAM
    else if e.apply = 2 ∧ s.unitRuns id then s.fail c.uid ST_BUSY
    else if e.isIsland then
      match s.islandRefuses id with
      | some st => s.fail c.uid st
      | none =>
        let t := { s with par := { s.par with islandWait := s.par.islandWait ++ [(c.uid, id, v, s.now + 2 * sec)] } }
        t.askHoldup true (.parIsland c.uid)
    else parSetLive c e s

def execParSet (q tag : Nat) (s : State) : Host.Outcome State Fault Refusal := startCommand 0x0201 q tag s parSet

/-- The island stores the value, its HOLDUP operation having ended (R76); the same island of the standby does so too. -/
def parIslandDone (uid : Nat) (s : State) : State :=
  match s.par.islandWait.find? fun w => w.1 == uid with
  | none => s
  | some (_, id, v, _) =>
    let t := { s with par := { s.par with islandWait := s.par.islandWait.filter fun w => w.1 != uid } }
    let t := (if id / 256 = 0x0F then t.gauWake else t).setIsland id v
    match t.cmd? uid with
    | some c => t.okMirrored c (pack [(1, 0)]) 31 (2 * ms)
    | none => t

end Sys2Proof.Machine
end

