-- ==== Sys2Proof/Machine/Partner.lean ====
section
/-!
DEFINITION. Commands that both modules of a pair carry out (R76, R92, R373, R391): the forwarded command on the standby, and its answer on
the active module.
-/
namespace Sys2Proof.Machine

/-- The effect of a command that is carried out on the standby as well; none for a command that is not. -/
def mirroredBody (opcode : Nat) (store : Option MirrorStore) : Option (InFlight → State → State) :=
  match opcode with
  | 0x0201 => some parSet
  | 0x0210 => some (nvStoreMirror store)
  | 0x0211 => some nvSelect
  | 0x0212 => some nvCommit
  | 0x0215 => store.map nvImportMirror
  | 0x0B00 => some bilTariffSet
  | 0x0B01 => some bilTariffAssign
  | 0x0B02 => some bilAccountSet
  | 0x0B03 => some bilAccountCredit
  | 0x0B05 => some bilClockSet
  | 0x0C00 => some gauStringConfig
  | 0x0C02 => some gauLearnSet
  | _ => none

/-- PARTNER_REQUEST (R92, R98, R373): a standby of a synchronised pair carries out the forwarded command, as a command of the pseudo queue pair 16; its
completion is the answer. -/
def execPartnerRequest (desc : PartnerCmd) (s : State) : Host.Outcome State Fault Refusal :=
  match mirroredBody desc.desc.opcode desc.store with
  | none => .next s
  | some body =>
    if s.isActive = false ∧ s.isPaired = true then
      let c : InFlight := { uid := s.mbx.nextUid, q := PARTNER_Q, entry := 0, desc := desc.desc, phase := .running }
      .next (body c { s with mbx := { s.mbx with inflight := s.mbx.inflight ++ [c], nextUid := s.mbx.nextUid + 1 } })
    else .next s

/-- The command of a queue pair and tag that waits for the standby's status. -/
def State.forwarded (s : State) (q tag : Nat) : Option InFlight :=
  s.mbx.inflight.find? fun c => c.q == q && c.desc.tag == tag && c.phase == .running && c.partner.isSome

/-- PARTNER_REPLY (R92, R373). -/
def execPartnerReply (q tag status : Nat) (s : State) : Host.Outcome State Fault Refusal :=
  match s.forwarded q tag with
  | none => .next s
  | some c => .next (s.partnerDone c (status % 256))

/-- PARTNER_REPLY_TIMEOUT (R373): the completion is posted without the standby's status; PARTNER_STATUS is then 0xFF (DEDUCED, assumption 51). -/
def execPartnerReplyTimeout (q tag : Nat) (s : State) : Host.Outcome State Fault Refusal :=
  match s.forwarded q tag with
  | none => .next s
  | some c => if c.deadline ≠ 0 ∧ c.deadline ≤ s.now then .next (s.partnerDone c 0xFF) else .next s

end Sys2Proof.Machine
end

