-- ==== Sys2Proof/Machine/Plc.lean ====
section
/-!
DEFINITION. The Ohmyar busbar link (chapter 15): tone maps, poll cycles, failed exchanges, joining, the segment and the busbar commands.
-/
namespace Sys2Proof.Machine

/-! ### Symbols and frames (R419 to R421), in units of 10 ns -/

/-- The number of carriers. -/
def CARRIERS : Nat := 1074

/-- A frame of `n` payload symbols: preamble, header symbol, payload. -/
def plcFrame (n : Nat) : Nat := 4608 + 4710 * (1 + n)
/-- The gap between frames. -/
def plcGap : Nat := 2000
/-- An exchange: poll, gap, response, gap. -/
def plcExchange (dn up : Nat) : Nat := plcFrame dn + plcGap + plcFrame up + plcGap

/-- A carrier is masked (R422). -/
def State.masked (s : State) (c : Nat) : Bool := s.plc.mask.getLsbD c
/-- Unmasked carriers. -/
def unmaskedOf (m : BitVec 1088) : Nat := ((List.range CARRIERS).filter fun c => !m.getLsbD c).length
/-- Information bits of a robust symbol (R421). -/
def State.robustBits (s : State) : Nat := unmaskedOf s.plc.mask / 6
/-- Information bytes of a robust symbol. -/
def State.robustBytes (s : State) : Nat := s.robustBits / 8

/-! ### Tone maps (R420, R423) -/

/-- Bits per carrier of a modulation code. -/
def modBits (code : Nat) : Nat := [0, 1, 2, 4, 6, 8, 10].getD code 0
/-- T of a modulation code in 0.01 dB. -/
def modT (code : Nat) : Int := [0, 500, 800, 1400, 2000, 2600, 3200].getD code 0
/-- O(R) in 0.01 dB. -/
def rateO (rate : Nat) : Int := [-400, -250, -150, 0].getD rate 0
/-- R as a fraction. -/
def rateNum (rate : Nat) : Nat := [1, 2, 3, 5].getD rate 1
def rateDen (rate : Nat) : Nat := [2, 3, 4, 6].getD rate 2

/-- The highest modulation that R420 allows a carrier at a rate. -/
def modFor (rate : Nat) (margin : Int) (snr : Int) : Nat :=
  ([6, 5, 4, 3, 2, 1].find? fun k => decide (modT k + rateO rate + margin ≤ snr)).getD 0

/-- Step 1 of R423: the modulations of all carriers at a rate. -/
def State.rawCodes (s : State) (rate : Nat) (snr : List Int) : List Nat :=
  (List.range CARRIERS).map fun c => if s.masked c then 0 else modFor rate (100 * s.pn PAR_PLC_MARGIN_DB) (snr.getD c 0)

/-- Information bits of a symbol of a map: the sum of the bits times R, rounded down. -/
def mapBits (rate : Nat) (codes : List Nat) : Nat := (codes.map modBits).sum * rateNum rate / rateDen rate

/-- Step 2 of R423: the rate with the most information bits, the lower one on a tie. -/
def State.bestRate (s : State) (snr : List Int) : Nat :=
  (List.range 4).foldl (fun b r => if mapBits b (s.rawCodes b snr) < mapBits r (s.rawCodes r snr) then r else b) 0

/-- Step 3 of R423: a carrier more than one step above both of its unmasked neighbours is lowered to one step above the higher one. -/
def State.smooth (s : State) (codes : List Nat) : List Nat :=
  (List.range CARRIERS).map fun c =>
    let k := codes.getD c 0
    let a := codes.getD (c - 1) 0
    let b := codes.getD (c + 1) 0
    if 0 < c ∧ c + 1 < CARRIERS ∧ s.masked (c - 1) = false ∧ s.masked (c + 1) = false ∧ a + 1 < k ∧ b + 1 < k then max a b + 1 else k

/-- The map that a receiver builds from the SNR it measured (R423). -/
def State.buildMap (s : State) (gen : Nat) (snr : List Int) : Tmap :=
  let rate := s.bestRate snr
  let codes := s.smooth (s.rawCodes rate snr)
  let used := (List.range CARRIERS).filter fun c => codes.getD c 0 != 0
  { gen := gen, rate := rate, codes := codes, sum := (used.map fun c => snr.getD c 0 - modT (codes.getD c 0) - rateO rate).sum, used := used.length }

/-- Information bytes per symbol of a map (R420). -/
def Tmap.bytes (m : Tmap) : Nat := (m.codes.map modBits).sum * rateNum m.rate / (8 * rateDen m.rate)

/-- SNR margin of a map in 0.01 dB: of the last frames received under it, at its creation before any (R423). -/
def Tmap.margin (m : Tmap) : Int :=
  if m.margins = [] then floorDiv m.sum (max 1 m.used) else floorDiv m.margins.sum m.margins.length

/-- The margin over 16 frames has fallen 6 dB below its value at the creation (R424). -/
def Tmap.fallen (m : Tmap) : Bool :=
  m.margins.length == 16 && m.used != 0 && decide (m.margins.sum * m.used ≤ 16 * (m.sum - 600 * m.used))

/-- A frame received under a map. -/
def Tmap.heard (m : Tmap) (v : Option Int) : Tmap := match v with
  | some v => { m with margins := (v :: m.margins).take 16 }
  | none => m

/-! ### Nodes and slots (R426, R428, R429) -/

/-- A busbar node. -/
def State.plcNode (s : State) (n : Nat) : PlcNode := s.plc.nodes.getD n {}
/-- Changes a busbar node. -/
def State.updPlc (s : State) (n : Nat) (f : PlcNode → PlcNode) : State :=
  { s with plc := { s.plc with nodes := s.plc.nodes.set n (f (s.plcNode n)) } }

/-- The planned busbar nodes, in ascending address order. -/
def State.busbarNodes (s : State) : List Nat := s.ring.plans.keys.filter fun n => s.nodeRing n == 2

/-- The node's slot runs under its tone maps: both are valid and no immediate refresh is under way (R424). -/
def PlcNode.runsMapped (x : PlcNode) : Bool := x.dn.isSome && x.up.isSome && !x.urgent

/-- Payload symbols of the fixed slot in each direction (R428). -/
def State.slotSymbols (s : State) (x : PlcNode) : Nat × Nat :=
  if x.runsMapped then (ceilDiv x.fixDn ((x.dn.map Tmap.bytes).getD 1), ceilDiv x.fixUp ((x.up.map Tmap.bytes).getD 1))
  else (ceilDiv x.fixDn s.robustBytes, ceilDiv x.fixUp s.robustBytes)

/-- Length of a node's fixed slot. -/
def State.slotLen (s : State) (x : PlcNode) : Nat := plcExchange (s.slotSymbols x).1 (s.slotSymbols x).2
/-- Length of a node's re-poll: its fixed part in robust mode (R430). -/
def State.repollLen (s : State) (x : PlcNode) : Nat := plcExchange (ceilDiv x.fixDn s.robustBytes) (ceilDiv x.fixUp s.robustBytes)
/-- Length of the beacon and its gap (R426). -/
def State.beaconLen (s : State) : Nat := plcFrame (ceilDiv 200 s.robustBits) + plcGap

/-- The joined nodes in ascending address order. -/
def State.joinedNodes (s : State) : List Nat := (s.plc.nodes.keep fun _ x => x.joined).keys

/-- A node polled in alternate cycles: the cycle is overfull, or the node is demoted for missed slots (R429, R431). -/
def State.alternate (s : State) (n : Nat) : Bool :=
  let x := s.plcNode n
  x.overfull || ((s.node n).demoted && !x.fromOver)

/-- The nodes polled in a cycle of a parity: the alternate ones take the two parities in turn, in address order (assumption 40). -/
def State.polledIn (s : State) (parity : Nat) : List Nat :=
  let alt := s.joinedNodes.filter s.alternate
  s.joinedNodes.filter fun n => !s.alternate n || alt.findIdx (· == n) % 2 == parity

/-- The retry reserve: PLC_RETRY_RESERVE re-polls, each as long as the longest (R429; assumption 40). -/
def State.plcReserve (s : State) : Nat :=
  s.pn PAR_PLC_RETRY_RESERVE * ((s.joinedNodes.map fun n => s.repollLen (s.plcNode n)).foldl max 0)

/-- Beacon, fixed slots and retry reserve of the fuller cycle. -/
def State.plcFixed (s : State) : Nat :=
  let load (p : Nat) : Nat := ((s.polledIn p).map fun n => s.slotLen (s.plcNode n)).sum
  s.beaconLen + max (load 0) (load 1) + s.plcReserve

/-- A poll cycle in units of 10 ns. -/
def State.plcCycle (s : State) : Nat := 100000 * s.pn PAR_PLC_CYCLE_MS
/-- Everything fits in a cycle (R429). -/
def State.plcFits (s : State) : Bool := decide (s.plcFixed ≤ s.plcCycle)

/-- OVERBOOKED (R441). -/
def State.overbooked (s : State) : Bool := s.plc.nodes.any fun e => e.2.overfull

/-- Takes nodes to alternate cycles from a list until everything fits; their instances are demoted (R429). -/
def State.takeOver (s : State) : List Nat → State
  | [] => s
  | n :: l =>
    if s.plcFits then s
    else
      let fresh := !(s.node n).demoted
      let t := s.updPlc n fun x => { x with overfull := true, fromOver := x.fromOver || fresh }
      State.takeOver (if fresh then t.demoteNode n else t) l

/-- Nodes return to every cycle when the cycle fits again with all of them (R429). -/
def State.unbook (s : State) : State :=
  let free := { s with plc := { s.plc with nodes := s.plc.nodes.mapV fun _ x => { x with overfull := false } } }
  if s.overbooked && free.plcFits then free else s

/-- The booking of a cycle after a node has joined or a map has come into force (R429): nodes leave the alternate cycles when everything
fits again without them. -/
def State.rebook (s : State) : State :=
  let free := { s with plc := { s.plc with nodes := s.plc.nodes.mapV fun _ x => { x with overfull := false } } }
  if free.plcFits then free
  else
    let t := free.takeOver free.joinedNodes.reverse
    let new := t.joinedNodes.filter fun n => (t.plcNode n).overfull && !(s.plcNode n).overfull
    new.foldl (fun (u : State) n => (u.raise 0x0E 0x0004 n).report SRC_PLC_OVERBOOKED 0) t

/-! ### Counts of a second (R441) -/

/-- Rolls the counts of a second when a new one has begun. -/
def State.plcSecond (s : State) : State :=
  let now := s.now / sec
  if now = s.plc.second then s
  else
    let last := decide (now = s.plc.second + 1)
    { s with plc := { s.plc with second := now, repolls := 0, missed := 0, lastRepolls := if last then s.plc.repolls else 0,
                                 lastMissed := if last then s.plc.missed else 0 } }

/-! ### Loops over the busbar (R428) -/

/-- An instance was due between the poll before and the present one. -/
def dueBetween (a b k p : Nat) : Bool := k != 0 && decide ((a + k - p % k) / k < (b + k - p % k) / k)

/-- The due instances of a busbar node at its poll, in ascending channel order. -/
def State.plcDue (s : State) (n : Nat) : List Nat :=
  let x := s.plcNode n
  let l := (s.instsOf n).filter fun e => dueBetween x.polledBefore x.polledAt e.2.k e.2.phase
  (List.range 32).flatMap fun c => (l.filter fun e => coefChannel (s.coef e.1) == c).map Prod.fst

/-- The due instances at a response, or at a missed slot; the command words wait for the next poll. -/
def State.runPlc (s : State) (n : Nat) (words : Option (List (Int × Int))) : State :=
  let due := s.plcDue n
  let s := if s.forwards then { s with plc := { s.plc with fwdPolls := s.plc.fwdPolls ++ [(due, (s.plcNode n).polledAt, words)] } } else s
  let r := s.runDue due (s.plcNode n).polledAt words
  r.1.updPlc n fun x => { x with words := r.2.map Prod.snd }

/-- A missed slot (R431). -/
def State.plcMiss (s : State) (n : Nat) : State :=
  let t := s.updPlc n fun x => { x with slot := 4 }
  let t := { t with plc := { t.plc with missed := t.plc.missed + 1 } }
  if s.holds n then (t.missSlot n).runPlc n none else t

/-! ### Poll cycles (R426, R427, R433) -/

/-- The module holds the segment and is not asked to leave it. -/
def State.plcListening (s : State) : Bool := !s.plc.master

/-- A carrier mask that comes into force voids every map (R422). -/
def State.applyMask (s : State) : State := match s.plc.maskNext with
  | none => s
  | some m =>
    { s with plc := { s.plc with mask := m, maskNext := none, nodes := s.plc.nodes.mapV fun _ x =>
        { x with dn := none, up := none, prevDn := none, prevUp := none, newDn := none, newUp := none, refresh := min x.refresh 1 } } }

/-- PLC_TMAP_REFRESH commands count a cycle; after 10 they end with ST_TIMEOUT (R438). -/
def State.refreshWaits (s : State) : State :=
  let t := { s with plc := { s.plc with waits := (s.plc.waits.filter fun w => decide (0 < w.2.2)).map fun w => (w.1, w.2.1, w.2.2 - 1) } }
  (s.plc.waits.filter fun w => w.2.2 == 0).foldl (fun (u : State) w => u.fail w.1 ST_TIMEOUT) t

/-- A beacon that the module sends (R427). -/
def State.sendBeacon (s : State) (epoch flags nodes : Nat) : State :=
  { s with plc := { s.plc with beacons := (s.plc.beacons + 1) % 2 ^ 32, epoch := epoch } }.emit (.beacon (s.beacon epoch flags nodes))

/-- The poll of a node: in robust mode, or under its downstream map (R425, R428, R430). A robust payload is under no map; its header names generation 0
(DESIGN CHOICE, assumption 143). -/
def State.pollOf (s : State) (n : Nat) (robust : Bool) : Emit :=
  let x := s.plcNode n
  let silent := ((List.range x.words.length).zip x.words).filter fun e => e.2.isNone
  let bytes := (frameWords (((List.range x.words.length).zip x.words))).flatMap (leBytes 2)
  if robust then .poll n true 0 (ceilDiv x.fixDn s.robustBytes) bytes (silent.map Prod.fst)
  else .poll n false ((x.dn.map Tmap.gen).getD 0) (s.slotSymbols x).1 bytes (silent.map Prod.fst)

/-- The polls of a cycle. -/
def State.pollAll (s : State) (l : List Nat) : State :=
  l.foldl (fun (t : State) n =>
    let x := t.plcNode n
    let t := t.updPlc n fun x => { x with slot := 1, mapped := x.runsMapped && x.refresh != 1, polledBefore := x.polledAt, polledAt := t.ring.window }
    let t := t.emit (t.pollOf n (!x.runsMapped || x.refresh == 1))
    if x.refresh = 1 then t.emit (.sounding n)
    else if x.refresh = 2 then (x.newUp.map fun m => t.emit (.toneMap n m.gen m.rate m.codes)).getD t
    else t) s

/-- The start of a poll cycle: slots of the last cycle that found no answer are missed; a new mask, the waits of PLC_TMAP_REFRESH and the booking
follow. -/
def State.cycleStart (s : State) : State :=
  let left := (s.plc.nodes.filter fun e => decide (1 ≤ e.2.slot ∧ e.2.slot ≤ 3)).map Prod.fst
  let t := (left.foldl State.plcMiss s.plcSecond).applyMask.refreshWaits.unbook
  { t with plc := { t.plc with nextAt := s.now + s.pms PAR_PLC_CYCLE_MS, cycles := t.plc.cycles + 1, used := 0, led := s.isActive,
                               discovery := t.plc.cycles % 100 == 0, nodes := t.plc.nodes.mapV fun _ x => { x with slot := 0 } } }

/-- The nodes that a cycle polls: the joined ones of its parity, and those that the module polls after another holder (R426, R429, R433). -/
def State.polledNow (s : State) : List Nat := s.polledIn (s.plc.cycles % 2) ++ (s.plc.nodes.keep fun _ x => !x.joined).keys

/-- The nodes that take part in the bulk period (R424, R426): joined, with bulk data waiting, and under no immediate refresh. -/
def State.bulkNodes (s : State) : List Nat := (s.plc.nodes.keep fun _ x => x.joined && x.bulk && !x.urgent).keys

/-- The exchanges that end before the cycle does (R426), the beacon, the fixed slots of this cycle and the retry reserve taken off; the discovery
window, as the first exchange, takes the place of one (DESIGN CHOICE, assumption 154). -/
def State.bulkRoom (s : State) : Nat :=
  let used := s.beaconLen + (s.polledNow.map fun n => s.slotLen (s.plcNode n)).sum + s.plcReserve
  (s.plcCycle - used) / plcExchange (s.pn PAR_PLC_BULK_SYM) (s.pn PAR_PLC_BULK_SYM) - (if s.plc.discovery then 1 else 0)

/-- The order of the round robin: the nodes after the last one served, then the others. -/
def State.bulkTurn (s : State) : List Nat := (s.bulkNodes.filter fun n => decide (s.plc.bulkLast < n)) ++ s.bulkNodes.filter fun n => decide (n ≤ s.plc.bulkLast)

/-- The bulk period of a cycle (R426): exchanges in turn up to its end. -/
def State.bulkPeriod (s : State) : State :=
  let l := s.bulkTurn
  let give := if l.isEmpty then [] else (List.range s.bulkRoom).map fun k => l.getD (k % l.length) 0
  give.foldl (fun (t : State) n => { t with plc := { t.plc with bulkLast := n } }.emit (.bulk n (t.pn PAR_PLC_BULK_SYM))) s

/-- The beacon and the polls of a cycle; after a raise of the epoch one beacon that releases under the old one (R152). -/
def State.pollSend (s : State) : State :=
  if s.plc.epoch ≠ 0 ∧ s.plc.epoch ≠ s.ring.epoch then
    let t := s.sendBeacon s.plc.epoch 1 0
    { t with plc := { t.plc with epoch := t.ring.epoch } }
  else (s.sendBeacon s.ring.epoch (if s.plc.discovery then 2 else 0) (s.polledIn (s.plc.cycles % 2)).length).pollAll s.polledNow |>.bulkPeriod

/-- POLL_CYCLE (R426, R427, R433, R434): the start of a cycle, its beacon and its polls. A module that has lost control releases with one beacon, and so
does one that has raised its epoch (R152, R546). A standby that has taken the segment polls as well; a module in another role leaves it. -/
def execPollCycle (s : State) : Host.Outcome State Fault Refusal :=
  if s.plc.master = false ∨ s.now < s.plc.nextAt then .next s
  else if s.isActive = false ∧ (s.plc.led = true ∨ s.pair.role ≠ ROLE_STANDBY) then
    .next (let t := if s.plc.led then s.sendBeacon s.plc.epoch 1 0 else s
           { t with plc := { t.plc with master := false, led := false, heardAt := some t.now, discovery := false } })
  else .next s.cycleStart.pollSend

/-! ### Refreshes (R424, R425) -/

/-- An immediate refresh: the slot is robust until the new maps are in force (R424). -/
def State.refreshNow (s : State) (n : Nat) : State :=
  if (s.plcNode n).urgent then s
  else (s.updPlc n fun x => { x with urgent := true, refresh := max 1 x.refresh }).raise 0x0E 0x0002 n

/-- TMAP_REFRESH_DUE (R424): PLC_TMAP_S after the last refresh. -/
def execTmapRefreshDue (node : Nat) (s : State) : Host.Outcome State Fault Refusal :=
  let x := s.plcNode node
  if x.joined ∧ s.plc.master ∧ x.refresh = 0 ∧ x.refreshAt + s.pn PAR_PLC_TMAP_S * sec ≤ s.now then
    .next (s.updPlc node fun x => { x with refresh := 1 })
  else .next s

/-- The maps of a refresh come into force (R425). -/
def State.mapsInForce (s : State) (n : Nat) : State :=
  let t := s.updPlc n fun x =>
    { x with prevDn := x.dn, prevUp := x.up, dn := x.newDn.map fun m => { m with since := s.now }, up := x.newUp.map fun m => { m with since := s.now },
             newDn := none, newUp := none, genOpen := false, refresh := 0, urgent := false, refreshAt := s.now,
             refreshes := (x.refreshes + 1) % 2 ^ 32 }
  let mine := t.plc.waits.filter fun w => w.2.1 == n
  let t := { t with plc := { t.plc with waits := t.plc.waits.filter fun w => w.2.1 != n } }
  (mine.foldl (fun (u : State) w => u.okUid w.1 []) (t.raise 0x0E 0x0003 n)).rebook

/-- TMAP_REFRESH_STEP (R425): sounding, map exchange, maps in force; a step that fails starts the refresh again. The generation moves
on only once until a map is accepted. -/
def execTmapRefreshStep (step : TmapStep) (s : State) : Host.Outcome State Fault Refusal :=
  let n := step.node
  let x := s.plcNode n
  if x.joined = false ∨ s.plc.master = false then .next s
  else match x.refresh with
    | 1 =>
      if step.ok then
        let gen := if x.genOpen then x.gen else (x.gen + 1) % 16
        .next (s.updPlc n fun x => { x with gen := gen, genOpen := true, newDn := some (s.buildMap gen step.snrDn),
                                            newUp := some (s.buildMap gen step.snrUp), refresh := 2 })
      else .next s
    | 2 => if step.ok then .next (s.updPlc n fun x => { x with refresh := 3 }) else .next (s.updPlc n fun x => { x with refresh := 1 })
    | 3 => .next (s.mapsInForce n)
    | _ => .next s

/-! ### Exchanges (R424, R430, R431) -/

/-- A node that a scan has not found answers the module that has taken the segment (R433): it joins, and is claimed when it has lapsed. -/
def State.plcTaken (s : State) (a : PollAnswer) : State :=
  let t := s.updPlc a.node fun x => { x with joined := true, fixDn := min a.fixDn 512, fixUp := min a.fixUp 512 }
  let t := if (t.node a.node).state = 0 then
      t.updNode a.node fun x => { x with state := 2, ring := 2, epoch := a.epoch, seenAt := t.now, lastSeen := t.ring.cycle.toNat }
    else t
  t.rebook

/-- A response to a poll or to its re-poll (R424, R430): the counts, and the margins of the maps it came under. A node that says that its lease has
ended has lapsed, or has been released: by the module's own raise where its epoch is below the present one (R152). Too low a margin starts a refresh. -/
def State.pollAnswered (s : State) (a : PollAnswer) : State :=
  let n := a.node
  let x := s.plcNode n
  let t := if x.joined then s else s.plcTaken a
  let t := t.updPlc n fun y =>
    { y with bulk := a.bulk, slot := 0, exchanges := if x.slot = 1 then (y.exchanges + 1) % 2 ^ 32 else y.exchanges,
             repolls := if x.slot = 3 then (y.repolls + 1) % 2 ^ 32 else y.repolls,
             consec := if x.slot = 1 ∧ x.mapped then 0 else y.consec,
             dn := y.dn.map fun m => m.heard a.dnMargin, up := y.up.map fun m => m.heard a.upMargin }
  let t := t.nodeHeard n
  let t := if a.lapsed then t.leaseReport n a.epoch true else t
  let y := t.plcNode n
  if x.mapped && ((y.dn.map Tmap.fallen).getD false || (y.up.map Tmap.fallen).getD false) then t.refreshNow n else t

/-- POLL_RESPONSE (R152, R428, R430): the response, and the evaluation of the node's due instances on its words. -/
def execPollResponse (answer : PollAnswer) (s : State) : Host.Outcome State Fault Refusal :=
  let n := answer.node
  if s.plc.master = false ∨ ((s.plcNode n).slot ≠ 1 ∧ (s.plcNode n).slot ≠ 3) then .next s
  else
    let t := s.plcSecond.pollAnswered answer
    if t.holds n then .next ((t.answerSlot n t.ring.window).runPlc n (some answer.words)) else .next t

/-- EXCHANGE_FAILED (R424, R430, R431): the exchange, or the re-poll, of a node has failed. -/
def execExchangeFailed (node : Nat) (s : State) : Host.Outcome State Fault Refusal :=
  let x := s.plcNode node
  if s.plc.master = false then .next s
  else if x.slot = 3 then .next (s.plcSecond.plcMiss node)
  else if x.slot = 1 then
    let s := s.plcSecond
    let room := decide (s.plc.used < s.pn PAR_PLC_RETRY_RESERVE)
    let c := if x.mapped then min 255 (x.consec + 1) else x.consec
    let t := s.updPlc node fun y =>
      { y with slot := 2, exchanges := (y.exchanges + 1) % 2 ^ 32, failed := (y.failed + 1) % 2 ^ 32, consec := c }
    let t := if room then { t with plc := { t.plc with used := t.plc.used + 1 } } else t
    let t := if x.mapped ∧ 3 ≤ c then t.refreshNow node else t
    if room then .next t else .next (t.plcMiss node)
  else .next s

/-- REPOLL (R430): at the end of the failed slot, in robust mode, with the same content. -/
def execRepoll (node : Nat) (s : State) : Host.Outcome State Fault Refusal :=
  let x := s.plcNode node
  if s.plc.master ∧ x.slot = 2 then
    let s := s.plcSecond
    let t := s.updPlc node fun y => { y with slot := 3 }
    .next (({ t with plc := { t.plc with repolls := t.plc.repolls + 1 } }).emit (s.pollOf node true))
  else .next s

/-! ### Joining and the segment (R433, R434) -/

/-- A node of the busbar link that answers the discovery window and is not planned there is counted as UNPLANNED (R434). -/
def State.plcUnplanned (s : State) (a : PlcJoin) : State :=
  let m : ScanMember := { identity := a.identity, ring := 2, west := none, east := none, delayWest := none, delayEast := none,
                          hopsWrap := 0, parent := 0, port := 0, epoch := a.epoch, lapsed := a.lapsed }
  (s.scanUnplanned {} m).2

/-- One answer of a discovery window (R429, R434). Only a node that has not joined answers: one that the module still takes for joined has begun anew. -/
def State.plcJoin (s : State) (a : PlcJoin) : State :=
  match (s.planOf a.identity).filter fun n => s.nodeRing n == 2 with
  | none => if s.ring.nodes.any fun e => e.2.state == 1 && e.2.identity == padTo 16 a.identity then s else s.plcUnplanned a
  | some n =>
    if 512 < a.fixDn ∨ 512 < a.fixUp then s
    else
      let again := (s.plcNode n).joined
      let t := s.updPlc n fun _ => { joined := true, fixDn := a.fixDn, fixUp := a.fixUp, refresh := 1, urgent := true, refreshAt := s.now }
      if t.plcFits = false then (s.raise 0x0E 0x0004 n).report SRC_PLC_OVERBOOKED 0
      else
        let t := t.updNode n fun x => { x with state := if x.state = 0 then 2 else x.state, ring := 2, epoch := a.epoch, seenAt := t.now, lastSeen := t.ring.cycle.toNat }
        let t := (t.sendConfig n).raise 0x0E 0x0001 n
        if a.lapsed && again then t.leaseReport n a.epoch false
        else if a.lapsed && (t.isActive || t.mayClaim) then t.claimNodes [n] else t

/-- DISCOVERY_WINDOW (R434): the answers that did not collide. -/
def execDiscoveryWindow (answers : List PlcJoin) (s : State) : Host.Outcome State Fault Refusal :=
  if s.plc.master ∧ s.plc.discovery then
    .next (answers.foldl State.plcJoin { s with plc := { s.plc with discovery := false } })
  else .next s

/-- FOREIGN_BEACON (R433, R547): another issuer's beacon; the module stops transmitting. A beacon that carries the release frees the
segment. -/
def execForeignBeacon (epoch : Nat) (release : Bool) (s : State) : Host.Outcome State Fault Refusal :=
  let _ := epoch
  .next { s with plc := { s.plc with master := false, led := false, discovery := false, foreignAt := some s.now, heardAt := if release then none else some s.now } }

/-- SEGMENT_SILENCE (R433): no beacon of another issuer for 3 poll cycles. An active module, or a standby, takes the segment, and after
another holder it polls every planned busbar node in robust mode. -/
def execSegmentSilence (s : State) : Host.Outcome State Fault Refusal :=
  let silent : Bool := match s.plc.heardAt with
    | none => true
    | some t => decide (t + 3 * s.pms PAR_PLC_CYCLE_MS ≤ s.now)
  if (s.isActive ∨ s.pair.role = ROLE_STANDBY) ∧ silent ∧ s.plc.master = false then
    let nodes := s.busbarNodes.foldl (fun (t : Tab PlcNode) n => match t.get? n with
      | some x => if s.plc.foreignAt.isSome then t.set n { x with dn := none, up := none, prevDn := none, prevUp := none, newDn := none, newUp := none, refresh := min x.refresh 1 } else t
      | none => if s.plc.foreignAt.isSome then t.set n {} else t) s.plc.nodes
    .next { s with plc := { s.plc with master := true, nextAt := s.now, nodes := nodes, epoch := s.ring.epoch } }
  else .next s

/-! ### Commands (R435 to R438) -/

/-- STATE of a node (R436). -/
def State.plcState (s : State) (n : Nat) : Nat :=
  let x := s.plcNode n
  if x.joined = false then 0 else if s.alternate n then 3 else if x.runsMapped then 2 else 1

/-- A record of PLC_NODE_READ (R436). -/
def State.plcRecord (s : State) (n : Nat) : List Byte :=
  let x := s.plcNode n
  let f := if x.joined then s.slotSymbols x else (0, 0)
  pack [(2, n), (1, s.plcState n), (1, x.consec), (2, (x.dn.map Tmap.bytes).getD 0), (2, (x.up.map Tmap.bytes).getD 0)] ++
    leInt 2 ((x.dn.map Tmap.margin).getD 0) ++ leInt 2 ((x.up.map Tmap.margin).getD 0) ++
    pack [(1, f.1), (1, f.2), (2, 0), (4, x.exchanges), (4, x.failed), (4, x.repolls), (4, x.refreshes)]

/-- The effect of PLC_NODE_READ (R436). -/
def plcNodeRead (c : InFlight) (s : State) : State :=
  let n := c.desc.u 34 2
  if n = 0 ∨ 128 < n ∨ c.desc.dataLen < 32 * n then s.fail c.uid ST_BAD_PARAM
  else s.answer c [] (((s.busbarNodes.filter fun a => decide (c.desc.u 32 2 ≤ a)).take n).flatMap s.plcRecord)

def execPlcNodeRead (q tag : Nat) (s : State) : Host.Outcome State Fault Refusal := startCommand 0x0E00 q tag s plcNodeRead

/-- Modulation codes two per byte, the even carrier in the low nibble. -/
def packNibbles : List Nat → List Byte
  | [] => []
  | [a] => [BitVec.ofNat 8 a]
  | a :: b :: l => BitVec.ofNat 8 (a + 16 * b) :: packNibbles l

/-- The effect of PLC_TMAP_READ (R437). -/
def plcTmapRead (c : InFlight) (s : State) : State :=
  let n := c.desc.object
  let x := s.plcNode n
  if 1 < c.desc.u 32 1 then s.fail c.uid ST_BAD_PARAM
  else match if c.desc.u 32 1 = 0 then x.dn else x.up with
    | none => s.fail c.uid ST_BAD_PARAM
    | some m => s.answer c [] (pack [(2, n), (1, m.gen), (1, m.rate), (2, m.bytes)] ++ leInt 2 m.margin ++ pack [(4, (s.now - m.since) / sec), (4, 0)] ++
        packNibbles m.codes ++ List.replicate 7 0)

def execPlcTmapRead (q tag : Nat) (s : State) : Host.Outcome State Fault Refusal := startCommand 0x0E01 q tag s plcTmapRead

/-- The effect of PLC_TMAP_REFRESH (R424, R438). -/
def plcTmapRefresh (c : InFlight) (s : State) : State :=
  let n := c.desc.object
  if (s.plcNode n).joined = false then s.fail c.uid ST_BAD_PARAM
  else
    let t := s.refreshNow n
    { t with plc := { t.plc with waits := t.plc.waits ++ [(c.uid, n, 10)] } }

def execPlcTmapRefresh (q tag : Nat) (s : State) : Host.Outcome State Fault Refusal := startCommand 0x0E02 q tag s plcTmapRefresh

/-- The effect of PLC_MASK_SET (R422, R438). -/
def plcMaskSet (c : InFlight) (s : State) : State := match c.record 136 with
  | none => s.fail c.uid ST_BAD_PARAM
  | some r =>
    let m := BitVec.ofNat 1088 (leNat r)
    if c.desc.object ≠ 0 ∨ leNat r / 2 ^ 1074 ≠ 0 ∨ unmaskedOf m < 300 then s.fail c.uid ST_BAD_PARAM
    else ({ s with plc := { s.plc with maskNext := some m } }).ok c []

def execPlcMaskSet (q tag : Nat) (s : State) : Host.Outcome State Fault Refusal := startCommand 0x0E03 q tag s plcMaskSet

end Sys2Proof.Machine
end

