-- ==== Sys2Proof/Machine/Points.lean ====
section
/-!
DEFINITION. The point directory (chapter 14): catalogues, updates, qualities, subscriptions and the point commands. Nothing else reads
it (R395).
-/
namespace Sys2Proof.Machine

/-! ### Addresses and entries (R396, R399) -/

/-- Address of a point: node address in bits [24:9], index in bits [8:0]. -/
def ptAddr (node index : Nat) : Nat := 512 * node + index
def ptNode (addr : Nat) : Nat := addr / 512
/-- First address of the host points. -/
def PT_HOST : Nat := ptAddr 0xFFFF 0
/-- The number of addresses. -/
def PT_END : Nat := 0x2000000

/-- QUALITY flags (R400). -/
def Q_DEFINED : Nat := 1
def Q_VALID : Nat := 2
def Q_STALE : Nat := 4
def Q_FENCED : Nat := 8
def Q_UNREACHABLE : Nat := 16
def Q_LAPSED : Nat := 32
def Q_OVERRUN : Nat := 64
def Q_SOURCE_BAD : Nat := 128
def Q_UNPLANNED : Nat := 256
def Q_HOST : Nat := 512

/-- A quality with flags set, and with flags cleared. -/
def qSet (q f : Nat) : Nat := q ||| f
def qClear (q f : Nat) : Nat := q - (q &&& f)

/-- The entry of a defined address; a host point is always defined (R396). -/
def State.point? (s : State) (addr : Nat) : Option Point :=
  if PT_HOST ≤ addr ∧ addr < PT_END then some (s.pt.host.getD (addr - PT_HOST) {}) else s.pt.points.get? addr

/-- The override that covers an address (R412). -/
def State.overrideOf (s : State) (addr : Nat) : Option Rec :=
  (s.pt.overrides.find? fun e => decide (e.1 ≤ addr ∧ addr < e.1 + fld e.2 4 2)).map Prod.snd

/-- The effective class and deadband of a defined point (R402). -/
def State.ptClass (s : State) (addr : Nat) (p : Point) : Nat := match s.overrideOf addr with
  | some r => if bit (fld r 7 1) 0 then fld r 6 1 else p.cls
  | none => p.cls
def State.ptDeadband (s : State) (addr : Nat) (p : Point) : Nat := match s.overrideOf addr with
  | some r => if bit (fld r 7 1) 1 then fld r 8 2 else p.deadband
  | none => p.deadband

/-- The 32 bytes of an entry (R399); an address that is not defined gives its address alone (R410). -/
def State.ptRecord (s : State) (addr : Nat) : List Byte := match s.point? addr with
  | none => pack [(8, 0), (8, 0), (4, addr), (12, 0)]
  | some p => pack [(8, p.value), (8, p.time), (4, addr), (2, p.quality), (1, p.type), (1, p.unit)] ++ leInt 1 p.scale ++
      pack [(1, s.ptClass addr p), (2, s.ptDeadband addr p), (4, p.seq)]

/-- Bulk configuration traffic to a node: index, effective class and effective deadband of each of its points (R402). -/
def State.sendPointConfig (s : State) (node : Nat) : State :=
  s.emit (.pointConfig node ((s.pt.points.keep fun a _ => ptNode a == node).map fun e => (e.1 % 512, s.ptClass e.1 e.2, s.ptDeadband e.1 e.2)))

/-! ### Subscriptions (R408) -/

/-- The fetch that waits on a subscription. -/
def isFetchOf (entry sub : Nat) (c : InFlight) : Bool :=
  c.desc.opcode == 0x0D05 && c.entry == entry && c.desc.object == sub && c.phase == .running

/-- Returns the entries whose bits are set, and clears those bits (R415). -/
def State.fetchNow (s : State) (c : InFlight) : State :=
  let key := 16 * c.entry + c.desc.object
  let x := s.pt.subs.getD key ⟨0, 0, []⟩
  let n := min (c.desc.dataLen / 32) 2048
  let now : Tab Unit := x.bits.take n
  let left := x.bits.drop n
  let t := { s with pt := { s.pt with subs := s.pt.subs.upd key fun x => { x with bits := left } } }
  t.answer c (pack [(4, now.length), (1, if left.isEmpty then 0 else 1)]) (now.keys.flatMap s.ptRecord)

/-- The fetches whose subscription has a bit set are served (R415). -/
def State.serveFetches (s : State) : State :=
  s.mbx.inflight.foldl (fun (t : State) c =>
    if c.desc.opcode = 0x0D05 ∧ c.phase = .running ∧ (t.pt.subs.getD (16 * c.entry + c.desc.object) ⟨0, 0, []⟩).bits ≠ [] then t.fetchNow c else t) s

/-- Writes an entry of the module or of a node. -/
def State.ptSet (s : State) (addr : Nat) (p : Point) : State := { s with pt := { s.pt with points := s.pt.points.set addr p } }

/-- A quality that differs is written, and counts as a change (R404). -/
def State.ptQuality (s : State) (addr : Nat) (q : Nat) : State := match s.pt.points.get? addr with
  | some p => if p.quality = q then s else (s.ptSet addr { p with quality := q }).ptMark addr
  | none => s

/-! ### Planned load (R401, R405) -/

/-- Planned rate of a class, in updates per 60 x PT_INTEGRITY_S seconds. A class without a row counts nothing (assumption 37). -/
def ptRate (integrity cls : Nat) : Nat :=
  match cls with
  | 0 => 60000 * integrity
  | 1 => 6000 * integrity
  | 2 => 600 * integrity
  | 3 => 60 * integrity
  | 4 => 6 * integrity
  | 5 => integrity
  | 6 => 60
  | _ => 0

/-- Period of a class in ns, 0 where it has none. -/
def ptPeriod (cls : Nat) : Nat :=
  match cls with
  | 0 => ms
  | 1 => 10 * ms
  | 2 => 100 * ms
  | 3 => sec
  | 4 => 10 * sec
  | 5 => 60 * sec
  | 6 => ms
  | _ => 0

/-- The planned load in updates per 60 x PT_INTEGRITY_S seconds: the sum over the defined points. -/
def State.ptPlannedRaw (s : State) : Nat :=
  (s.pt.points.map fun e => ptRate (s.pn PAR_PT_INTEGRITY_S) (s.ptClass e.1 e.2)).sum

/-- The planned load in updates per second, rounded down. -/
def State.ptPlanned (s : State) : Nat := s.ptPlannedRaw / max 1 (60 * s.pn PAR_PT_INTEGRITY_S)

/-- PT_LOAD_HIGH each time the planned load passes PT_LOAD_WARN_PCT of 40 million per second from below (R405). -/
def State.notePtLoad (s : State) : State :=
  let high := decide (400000 * s.pn PAR_PT_LOAD_WARN_PCT * (60 * s.pn PAR_PT_INTEGRITY_S) < s.ptPlannedRaw)
  let t := { s with pt := { s.pt with loadHigh := high } }
  if high && !s.pt.loadHigh then t.raise 0x0D 0x0004 (s.ptPlanned / 40000) else t

/-! ### Catalogues (R398) -/

/-- A node whose batches and catalogues this module takes (R403, R407). -/
def State.ptAccepts (s : State) (node : Nat) : Bool :=
  s.isActive && decide (1 ≤ node ∧ node ≤ 0xFFFE) && decide (1 ≤ (s.node node).state ∧ (s.node node).state ≤ 4)

/-- A catalogue without a duplicate index, an index above 511, or an unknown TYPE or UNIT. -/
def catalogueOk (l : List CatRecord) : Bool :=
  noDup (l.map CatRecord.index) && l.all fun r => decide (r.index ≤ 511) && decide (1 ≤ r.type ∧ r.type ≤ 9) && decide (r.unit ≤ 0x12)

/-- Quality flags that a node's state gives its points (R400). -/
def ptNodeFlags (state : Nat) : Nat :=
  if state = 4 then Q_FENCED else if state = 5 then Q_UNREACHABLE else if state = 6 ∨ state = 7 then Q_LAPSED else if state = 1 then Q_UNPLANNED else 0

/-- The entry that a catalogue record gives an address: kept where TYPE, UNIT and SCALE stay, fresh otherwise. -/
def catPoint (old : Option Point) (r : CatRecord) (flags now : Nat) : Point :=
  let fresh : Point := { quality := Q_DEFINED + flags, type := r.type, unit := r.unit, scale := r.scale, cls := r.cls, deadband := r.deadband, lastAt := now }
  match old with
  | none => fresh
  | some p => if p.type = r.type ∧ p.unit = r.unit ∧ p.scale = r.scale then { p with cls := r.cls, deadband := r.deadband } else fresh

/-- CATALOGUE (R398): a catalogue with an error changes nothing and raises PT_CATALOGUE_BAD; an accepted one defines exactly its
listed indices. A point whose flags change counts as changed for subscriptions (R408). -/
def execCatalogue (node version : Nat) (records : List CatRecord) (s : State) : Host.Outcome State Fault Refusal :=
  if s.ptAccepts node = false then .next s
  else if catalogueOk records = false then .next (s.raise 0x0D 0x0002 node)
  else
    let other := s.pt.points.keep fun a _ => ptNode a != node
    let points := records.foldl (fun (t : Tab Point) r =>
      t.set (ptAddr node r.index) (catPoint (s.pt.points.get? (ptAddr node r.index)) r (ptNodeFlags (s.node node).state) s.now)) other
    let t := { s with pt := { s.pt with points := points, versions := s.pt.versions.set node (version % 2 ^ 32) } }.ptMarkChanges s
    .next (((t.sendPointConfig node).raise 0x0D 0x0001 node).notePtLoad)

/-! ### Updates (R403 to R405) -/

/-- POINT_BATCH (R403): the records of a node in a state that the rule names wait for the next site cycle, in order of arrival. TIME is
the TAI of the cycle plus OFFSET_NS. -/
def execPointBatch (node cycle : Nat) (records : List PointRecord) (s : State) : Host.Outcome State Fault Refusal :=
  if s.ptAccepts node then
    let age := (s.ring.cycle - BitVec.ofNat 32 cycle).toNat
    let at' := s.taiNs - 20000 * age
    .next { s with pt := { s.pt with updates := s.pt.updates ++ records.map fun r => (ptAddr node r.index, r, at' + r.offsetNs) } }
  else .next s

/-- An entry with an accepted update. -/
def Point.accept (p : Point) (value time now : Nat) (bad : Bool) : Point :=
  { p with value := value % 2 ^ 64, time := time, quality := if bad then qSet (qSet (qClear p.quality (Q_STALE + Q_OVERRUN)) Q_VALID) Q_SOURCE_BAD
                                                             else qSet (qClear p.quality (Q_STALE + Q_OVERRUN + Q_SOURCE_BAD)) Q_VALID,
           seq := (p.seq + 1) % 2 ^ 32, lastAt := now }

/-- The present values of the module block: index, value, unit and scale of each point whose source exists (R397). An outlet's power
comes from MET_READ, with what its rounding leaves open. -/
def State.modulePoints (s : State) : List (Nat × Int × Nat × Int) × State :=
  let terms : List (Nat × Int × Nat × Int) := [(0, (s.lv.g : Int), 4, 3), (1, (s.lv.p : Int), 4, 3), (2, (s.lv.b : Int), 4, 3), (3, (s.lv.e : Int), 4, 3),
    (4, (s.lv.sum : Int), 4, 3), (5, (s.lv.d : Int), 4, 3), (6, (s.lv.h : Int), 8, 0), (7, (s.pendingKw : Int), 4, 3), (8, s.lv.importKw, 4, 3),
    (9, (s.lv.g : Int), 4, 3), (10, (s.lv.b : Int), 4, 3), (11, (s.lv.bufKw : Int), 4, 3), (12, (s.lv.availKwh : Int), 5, 3)]
  (s.met.recs.keys.filter fun ch => decide (ch < 256)).foldl (fun (a : List (Nat × Int × Nat × Int) × State) ch =>
    let r := a.2.metRecord ch
    (a.1 ++ [(0x100 + ch, sfld r.1 8 4, 4, 0)], r.2)) (terms, s)

/-- The module block is written: points whose source is gone are no longer defined (R397, R404 step 2). -/
def State.writeModuleBlock (s : State) : State :=
  let l := s.modulePoints
  let t := l.2
  let t := { t with pt := { t.pt with points := t.pt.points.keep fun a _ => decide (512 ≤ a) || l.1.any fun e => e.1 == a } }.ptMarkChanges t
  let t := l.1.foldl (fun (u : State) e =>
    let p := u.pt.points.getD e.1 { unit := e.2.2.1, scale := e.2.2.2, cls := 0 }
    (u.ptSet e.1 (p.accept (e.2.1 % 2 ^ 64).toNat u.sysTime u.now false)).ptMark e.1) t
  { t with pt := { t.pt with applied := t.pt.applied + l.1.length } }

/-- The host points written since the last cycle (R404 step 2, R413). -/
def State.writeHostPoints (s : State) : State :=
  let t := s.pt.hostWait.foldl (fun (u : State) w =>
    let p := u.pt.host.getD w.1 {}
    let p := { p.accept w.2.1 w.2.2 u.now false with quality := Q_DEFINED + Q_VALID + Q_HOST }
    ({ u with pt := { u.pt with host := u.pt.host.set w.1 p } }).ptMark (PT_HOST + w.1)) s
  { t with pt := { t.pt with hostWait := [], applied := t.pt.applied + s.pt.hostWait.length } }

/-- One node update, under what is left of the budget: a record whose index is not defined is discarded, one past the budget sets
OVERRUN (R403, R405). -/
def State.nodeUpdate (a : Nat × State) (u : Nat × PointRecord × Nat) : Nat × State :=
  match a.2.pt.points.get? u.1 with
  | none => a
  | some p =>
    if a.1 = 0 then
      let t := a.2.ptQuality u.1 (qSet p.quality Q_OVERRUN)
      (0, { t with pt := { t.pt with discarded := t.pt.discarded + 1 } })
    else
      let t := (a.2.ptSet u.1 (p.accept u.2.1.value u.2.2 a.2.now u.2.1.bad)).ptMark u.1
      (a.1 - 1, { t with pt := { t.pt with applied := t.pt.applied + 1 } })

/-- The node state changes reach the flags of every defined entry (R404 step 1). -/
def State.ptNodeStates (s : State) : State :=
  s.pt.points.foldl (fun (t : State) e =>
    if ptNode e.1 = 0 then t
    else t.ptQuality e.1 (qSet (qClear e.2.quality (Q_FENCED + Q_UNREACHABLE + Q_LAPSED + Q_UNPLANNED)) (ptNodeFlags (s.node (ptNode e.1)).state))) s

/-- POINT_SITE_CYCLE (R404, R405). -/
def execPointSiteCycle (s : State) : Host.Outcome State Fault Refusal :=
  let t := s.ptNodeStates
  let u := t.writeModuleBlock.writeHostPoints
  let used := (u.pt.applied - t.pt.applied)
  let r := u.pt.updates.foldl State.nodeUpdate (40000 - used, { u with pt := { u.pt with updates := [] } })
  .next r.2.serveFetches.notePtLoad

/-- Whether a node point has been silent too long (R406). -/
def State.ptSilent (s : State) (addr : Nat) (p : Point) : Bool :=
  let c := s.ptClass addr p
  decide (ptNode addr ≠ 0) && decide (c < 7) && decide (p.lastAt + 2 * max (ptPeriod c) (s.pn PAR_PT_INTEGRITY_S * sec) ≤ s.now)

/-- The points that were silent too long take the quality STALE (R403). -/
def State.markStale (s : State) : State :=
  s.pt.points.foldl (fun (t : State) e => if s.ptSilent e.1 e.2 then t.ptQuality e.1 (qSet e.2.quality Q_STALE) else t) s

/-- The counts of the second that ends; discarded updates are reported (R405). -/
def State.ptSecond (s : State) : State :=
  let n := s.pt.discarded
  let t := { s with pt := { s.pt with appliedSec := s.pt.applied, discardedSec := n, applied := 0, discarded := 0 } }
  if 0 < n then (t.raise 0x0D 0x0003 n).report SRC_PT_OVERRUN 0 else t

/-- STALE_CHECK (R405, R406, R416): silent points become STALE, PT_OVERRUN is raised while updates are discarded, and the counts of the
second are kept. -/
def execStaleCheck (s : State) : Host.Outcome State Fault Refusal :=
  .next s.markStale.ptSecond.serveFetches

/-! ### Commands (R409 to R416) -/

/-- The effect of PT_READ (R410). -/
def ptRead (c : InFlight) (s : State) : State :=
  let first := c.desc.u 32 4
  let n := c.desc.u 36 2
  if n = 0 ∨ 64 < n ∨ c.desc.dataLen < 32 * n ∨ PT_END < first + n then s.fail c.uid ST_BAD_PARAM
  else s.answer c [] ((List.range n).flatMap fun j => s.ptRecord (first + j))

def execPtRead (q tag : Nat) (s : State) : Host.Outcome State Fault Refusal := startCommand 0x0D00 q tag s ptRead

/-- The effect of PT_DUMP up to its wait for BULK leave (R411). -/
def ptDump (c : InFlight) (s : State) : State :=
  let first := c.desc.u 32 4
  let span := c.desc.u 36 4
  if span = 0 ∨ PT_END < span ∨ PT_END < first + span ∨ c.desc.dataLen < 32 ∨ 1 < c.desc.u 40 1 then s.fail c.uid ST_BAD_PARAM
  else (s.askWork 1 false (s.pn PAR_PT_DUMP_MBS) (.ptDump c.uid)).setDeadline c.uid (s.now + s.pms PAR_PT_LEAVE_WAIT_MS)

def execPtDump (q tag : Nat) (s : State) : Host.Outcome State Fault Refusal := startCommand 0x0D01 q tag s ptDump

/-- The defined addresses from `first` on, below `last`. -/
def State.definedIn (s : State) (first last : Nat) : List Nat :=
  ((s.pt.points.keys.filter fun a => decide (first ≤ a ∧ a < last)) ++ (List.range 512).map (PT_HOST + ·)).filter fun a => decide (first ≤ a ∧ a < last)

/-- The end of a dump's BULK operation: the entries are copied between two site cycles (R411). The examination stops behind the last
entry returned (DEDUCED, assumption 38). -/
def ptDumpDone (uid : Nat) (s : State) : State := match s.cmd? uid with
  | none => s
  | some c =>
    let first := c.desc.u 32 4
    let last := first + c.desc.u 36 4
    let n := min (c.desc.dataLen / 32) 2048
    let l := if bit (c.desc.u 40 1) 0 then (s.definedIn first last).take n else (List.range (min n (last - first))).map (first + ·)
    let stop := if l.length < n then last else (l.getLast?.map (· + 1)).getD last
    s.answer c (pack [(4, if stop < last then stop else 0xFFFFFFFF), (4, l.length)]) (l.flatMap s.ptRecord)

/-- An override entry within its ranges: one node block, no module or host point, no foreign overlap (R412). -/
def State.overrideOk (s : State) (r : Rec) : Bool :=
  let first := fld r 0 4
  let n := fld r 4 2
  decide (1 ≤ n ∧ n ≤ 512) && decide (ptNode first = ptNode (first + n - 1)) && decide (1 ≤ ptNode first ∧ ptNode first ≤ 0xFFFE) &&
  decide (fld r 7 1 < 4) && (!bit (fld r 7 1) 0 || decide (fld r 6 1 ≤ 7)) && zeros r 10 6 &&
  !(s.pt.overrides.any fun e => decide (e.1 < first + n ∧ first < e.1 + fld e.2 4 2) && !(e.1 == first && fld e.2 4 2 == n))

/-- The effect of PT_POINT_SET (R412). -/
def ptPointSet (c : InFlight) (s : State) : State := match c.record 16 with
  | none => s.fail c.uid ST_BAD_PARAM
  | some r =>
    let first := fld r 0 4
    let held := (s.pt.overrides.get? first).isSome
    if s.overrideOk r = false then s.fail c.uid ST_BAD_PARAM
    else if fld r 7 1 = 0 then
      (({ s with pt := { s.pt with overrides := s.pt.overrides.del first } }).sendPointConfig (ptNode first)).notePtLoad.ok c []
    else if held = false ∧ 8192 ≤ s.pt.overrides.length then s.fail c.uid ST_BUSY
    else (({ s with pt := { s.pt with overrides := s.pt.overrides.set first r } }).sendPointConfig (ptNode first)).notePtLoad.ok c []

def execPtPointSet (q tag : Nat) (s : State) : Host.Outcome State Fault Refusal := startCommand 0x0D02 q tag s ptPointSet

/-- The effect of PT_WRITE (R413): the value is applied at the next site cycle. -/
def ptWrite (c : InFlight) (s : State) : State :=
  let k := c.desc.object
  if 511 < k then s.fail c.uid ST_BAD_PARAM
  else ({ s with pt := { s.pt with hostWait := s.pt.hostWait ++ [(k, c.desc.u 40 8, s.sysTime)] } }).ok c []

def execPtWrite (q tag : Nat) (s : State) : Host.Outcome State Fault Refusal := startCommand 0x0D03 q tag s ptWrite

/-- The effect of PT_SUBSCRIBE (R408, R414). -/
def ptSubscribe (c : InFlight) (s : State) : State :=
  let k := c.desc.object
  let first := c.desc.u 32 4
  let n := c.desc.u 36 4
  let key := 16 * c.entry + k
  let others := ((s.pt.subs.del key).vals.map PtSub.count).sum
  if 15 < k ∨ 4194304 < n ∨ PT_END < first + n then s.fail c.uid ST_BAD_PARAM
  else if n = 0 then ({ s with pt := { s.pt with subs := s.pt.subs.del key } }).ok c []
  else if 4194304 < others + n then s.fail c.uid ST_BUSY
  else
    let x : PtSub := ⟨first, n, (s.definedIn first (first + n)).map fun a => (a, ())⟩
    ({ s with pt := { s.pt with subs := s.pt.subs.set key x } }).serveFetches.ok c []

def execPtSubscribe (q tag : Nat) (s : State) : Host.Outcome State Fault Refusal := startCommand 0x0D04 q tag s ptSubscribe

/-- The effect of PT_FETCH (R415). -/
def ptFetch (c : InFlight) (s : State) : State :=
  let k := c.desc.object
  let wait := c.desc.u 32 2
  if 15 < k ∨ 60000 < wait then s.fail c.uid ST_BAD_PARAM
  else match s.pt.subs.get? (16 * c.entry + k) with
    | none => s.fail c.uid ST_BAD_PARAM
    | some x =>
      if s.mbx.inflight.any fun d => isFetchOf c.entry k d && d.uid != c.uid then s.fail c.uid ST_BUSY
      else if x.bits ≠ [] ∨ wait = 0 then s.fetchNow c
      else s.setDeadline c.uid (s.now + wait * ms)

def execPtFetch (q tag : Nat) (s : State) : Host.Outcome State Fault Refusal := startCommand 0x0D05 q tag s ptFetch

/-- FETCH_WAIT_EXPIRY (R415): WAIT_MS passes without a set bit. -/
def execFetchWaitExpiry (q tag : Nat) (s : State) : Host.Outcome State Fault Refusal :=
  match s.mbx.inflight.find? fun c => c.q == q && c.desc.tag == tag && c.desc.opcode == 0x0D05 && c.phase == .running with
  | some c => if c.deadline ≤ s.now then .next (s.fetchNow c) else .next s
  | none => .next s

/-- The effect of PT_STATUS (R416). -/
def ptStatus (c : InFlight) (s : State) : State :=
  s.answer c (pack [(4, s.pt.points.length + 512), (4, s.ptPlanned), (4, s.pt.appliedSec), (4, s.pt.discardedSec)]) []

def execPtStatus (q tag : Nat) (s : State) : Host.Outcome State Fault Refusal := startCommand 0x0D06 q tag s ptStatus

end Sys2Proof.Machine
end

