-- ==== Sys2Proof/Machine/Tune.lean ====
section
/-!
DEFINITION. The commands of tracing and tuning (chapter 07), the sample of a trace buffer, and read-outs under BULK leave.
-/
namespace Sys2Proof.Machine

/-! ### Trace records (R214) -/

def traceDecim (r : Rec) : Nat := fld r 0 1
def tracePace (r : Rec) : Nat := fld r 2 2
def tracePre (r : Rec) : Nat := fld r 4 2
def traceTap (r : Rec) : Nat := fld r 6 1
def traceLevel (r : Rec) : Int := sfld r 8 2

/-- Samples that a buffer holds (R204). -/
def TRACE_LEN : Nat := 8192

/-! ### Samples (R204 to R206) -/

/-- The eight slot values of a sample; an unused slot reads 0. -/
def State.traceValues (s : State) (r : Rec) : List Int :=
  (List.range 8).map fun j => if (traceSlot r j).2 = 255 then 0 else tapOf (s.inst (traceSlot r j).1) (traceSlot r j).2

/-- A trigger fires between a previous sample and the present one (R205). -/
def Trace.fires (t : Trace) (vals : List Int) : Bool :=
  let r := t.cfg
  let b := vals.getD (traceTap r) 0
  let l := traceLevel r
  let rise (a : Int) : Bool := decide (a < l ∧ l ≤ b)
  let fall (a : Int) : Bool := decide (l < a ∧ b ≤ l)
  let prev : Option Int := t.samples.head?.map fun p => p.2.2.getD (traceTap r) 0
  match traceKind r with
  | 1 => (prev.map rise).getD false
  | 2 => (prev.map fall).getD false
  | 3 => (prev.map fun a => rise a || fall a).getD false
  | 4 => t.hit
  | 5 => t.hit
  | _ => false

/-- A buffer with one more sample (R206). -/
def State.recordTrace (s : State) (t : Trace) : Trace :=
  let vals := s.traceValues t.cfg
  let fired := t.state == 2 && t.fires vals
  let st := if fired then 3 else t.state
  let post := if st = 3 then t.post + 1 else 0
  let count := t.count + 1
  let st := if st = 1 ∧ tracePre t.cfg ≤ count then 2 else st
  { t with state := st, due := false, samples := ((s.ring.window, (s.inst (tracePace t.cfg)).k, vals) :: t.samples).take TRACE_LEN, count := count,
           post := post, hit := false }

/-- TRACE_SAMPLE (R204): the end of a due window that is sampled. -/
def execTraceSample (buffer : Nat) (s : State) : Host.Outcome State Fault Refusal :=
  let s := s.traceGone
  match s.tune.traces.get? buffer with
  | none => .next s
  | some t =>
    if t.due ∧ 1 ≤ t.state ∧ t.state ≤ 3 then
      let t' := s.recordTrace t
      let u := { s with tune := { s.tune with traces := s.tune.traces.set buffer t' } }
      if t'.state = 3 ∧ TRACE_LEN - tracePre t.cfg ≤ t'.post then .next (u.endTrace buffer 0) else .next u
    else .next s

/-! ### Trace commands -/

/-- A buffer. -/
def State.trace (s : State) (b : Nat) : Trace := s.tune.traces.getD b {}

/-- A buffer that another entry holds (R207). -/
def State.traceForeign (s : State) (c : InFlight) : Bool :=
  (s.trace c.desc.object).state != 0 && (s.trace c.desc.object).entry != c.entry

/-- A trace record within its ranges (R214). -/
def State.traceOk (s : State) (r : Rec) : Bool :=
  decide (1 ≤ traceDecim r) && decide (traceKind r ≤ 5) && decide (tracePace r ≤ 2047) &&
  ((s.inst (tracePace r)).state == 2 || (s.inst (tracePace r)).state == 3) && decide (tracePre r ≤ 8191) && decide (traceTap r ≤ 7) &&
  zeros r 7 1 && zeros r 10 6 &&
  ((List.range 8).all fun j => zeros r (19 + 4 * j) 1 && ((traceSlot r j).2 == 255 ||
    (decide ((traceSlot r j).2 ≤ 7) && decide ((traceSlot r j).1 ≤ 2047) && (s.inst (traceSlot r j).1).state != 0))) &&
  !(decide (1 ≤ traceKind r ∧ traceKind r ≤ 3) && (traceSlot r (traceTap r)).2 == 255)

/-- The effect of TUNE_TRACE_SET (R206, R207, R214). A buffer that records is busy (DEDUCED, assumption 16). -/
def tuneTraceSet (c : InFlight) (s : State) : State :=
  let s := s.traceGone
  let b := c.desc.object
  let t := s.trace b
  match c.record 48 with
  | none => s.fail c.uid ST_BAD_PARAM
  | some r =>
    if 31 < b then s.fail c.uid ST_BAD_PARAM
    else if s.traceForeign c ∨ (1 ≤ t.state ∧ t.state ≤ 3) then s.fail c.uid ST_BUSY
    else if s.traceOk r = false then s.fail c.uid ST_BAD_PARAM
    else
      let t' : Trace := { state := if tracePre r = 0 then 2 else 1, entry := c.entry, cfg := r }
      ({ s with tune := { s.tune with traces := s.tune.traces.set b t' } }).ok c []

def execTuneTraceSet (q tag : Nat) (s : State) : Host.Outcome State Fault Refusal := startCommand 0x0600 q tag s tuneTraceSet

/-- The effect of TUNE_TRACE_TRIGGER (R206): only a waiting buffer is triggered. -/
def tuneTraceTrigger (c : InFlight) (s : State) : State :=
  let s := s.traceGone
  let b := c.desc.object
  if 31 < b then s.fail c.uid ST_BAD_PARAM
  else if s.traceForeign c ∨ (s.trace b).state ≠ 2 then s.fail c.uid ST_BUSY
  else ({ s with tune := { s.tune with traces := s.tune.traces.upd b fun t => { t with state := 3, post := 0 } } }).ok c []

def execTuneTraceTrigger (q tag : Nat) (s : State) : Host.Outcome State Fault Refusal := startCommand 0x0601 q tag s tuneTraceTrigger

/-- The effect of TUNE_TRACE_STOP (R206, R217). -/
def tuneTraceStop (c : InFlight) (s : State) : State :=
  let s := s.traceGone
  let b := c.desc.object
  let t := s.trace b
  if 31 < b then s.fail c.uid ST_BAD_PARAM
  else if s.traceForeign c then s.fail c.uid ST_BUSY
  else if t.state = 0 then s.ok c []
  else if t.state = 4 then ({ s with tune := { s.tune with traces := s.tune.traces.del b } }).ok c []
  else (s.endTrace b 1).ok c []

def execTuneTraceStop (q tag : Nat) (s : State) : Host.Outcome State Fault Refusal := startCommand 0x0602 q tag s tuneTraceStop

/-! ### Read-outs (R215) -/

/-- The header of an image (R215). -/
def tuneHeader (win0 k decim endCause trig n : Nat) : List Byte :=
  padTo 64 (pack [(4, win0), (2, k), (1, decim), (1, endCause), (2, trig), (2, 0), (4, n)])

/-- Bytes `off` to `off + n - 1` of samples of `w` bytes each, past a header of 64 bytes; samples beyond the recorded ones read 0. -/
def sampleBytes (hdr : List Byte) (samples : List (List Byte)) (w total off n : Nat) : List Byte :=
  (hdr ++ padTo (w * total) samples.flatten).drop off |>.take n

/-- The image of a buffer from an offset. -/
def State.traceImage (s : State) (b off n : Nat) : List Byte :=
  let t := s.trace b
  let l := t.samples.reverse
  let first := l.head?.getD (0, 0, [])
  let hdr := tuneHeader first.1 first.2.1 (traceDecim t.cfg) t.endCause (if t.post = 0 then 0 else l.length - t.post) l.length
  sampleBytes hdr (l.map fun p => p.2.2.flatMap fun v => leInt 2 v) 16 TRACE_LEN off n

/-- The capture of a generator from an offset. -/
def State.captureImage (s : State) (g off n : Nat) : List Byte :=
  let x := s.tune.gens.getD g {}
  let l := x.capture.reverse
  sampleBytes (tuneHeader x.win0 x.k (genDecim x.cfg) x.endCause 0 l.length) (l.map fun p => leInt 2 p.1 ++ leInt 2 p.2) 4 65536 off n

/-- Asks for the BULK leave of a read-out (R215). -/
def State.askRead (s : State) (c : InFlight) : State :=
  (s.askWork 1 false (s.pn PAR_TUNE_READ_MBS) (.tuneRead c.uid)).setDeadline c.uid (s.now + s.pms PAR_TUNE_LEAVE_WAIT_MS)

/-- The effect of TUNE_TRACE_READ up to its leave (R215). -/
def tuneTraceRead (c : InFlight) (s : State) : State :=
  let s := s.traceGone
  if 31 < c.desc.object ∨ 64 + 16 * TRACE_LEN < c.desc.u 32 4 then s.fail c.uid ST_BAD_PARAM
  else if (s.trace c.desc.object).state ≠ 4 then s.fail c.uid ST_BUSY
  else s.askRead c

def execTuneTraceRead (q tag : Nat) (s : State) : Host.Outcome State Fault Refusal := startCommand 0x0603 q tag s tuneTraceRead

/-- The effect of TUNE_CAP_READ up to its leave (R215). -/
def tuneCapRead (c : InFlight) (s : State) : State :=
  if 15 < c.desc.object ∨ 64 + 4 * 65536 < c.desc.u 32 4 then s.fail c.uid ST_BAD_PARAM
  else if (s.tune.gens.getD c.desc.object {}).state = 1 then s.fail c.uid ST_BUSY
  else s.askRead c

def execTuneCapRead (q tag : Nat) (s : State) : Host.Outcome State Fault Refusal := startCommand 0x0612 q tag s tuneCapRead

/-- The end of a read-out's transfer: the data go to the host. -/
def tuneReadDone (uid : Nat) (s : State) : State := match s.cmd? uid with
  | none => s
  | some c =>
    let off := c.desc.u 32 4
    if c.desc.opcode = 0x0603 then
      if (s.trace c.desc.object).state = 4 then s.answer c [] (s.traceImage c.desc.object off c.desc.dataLen) else s.fail uid ST_BUSY
    else if (s.tune.gens.getD c.desc.object {}).state = 1 then s.fail uid ST_BUSY
    else s.answer c [] (s.captureImage c.desc.object off c.desc.dataLen)

/-- BULK_LEAVE_TIMEOUT (R215, R411): the wait for BULK leave of a read-out or a dump has run out. -/
def execBulkLeaveTimeout (q tag : Nat) (s : State) : Host.Outcome State Fault Refusal :=
  let waits (c : InFlight) : Bool := c.q == q && c.desc.tag == tag && c.phase == .running && (s.awaits (.tuneRead c.uid) || s.awaits (.ptDump c.uid))
  match s.mbx.inflight.find? waits with
  | none => .next s
  | some c =>
    if c.deadline ≤ s.now then .next (((s.dropWork (.tuneRead c.uid)).dropWork (.ptDump c.uid)).fail c.uid ST_NO_LEAVE) else .next s

/-! ### Status and injections -/

/-- The effect of TUNE_STATUS (R217). -/
def tuneStatus (c : InFlight) (s : State) : State :=
  let s := s.traceGone
  s.answer c [] (((List.range 32).flatMap fun b => leBytes 1 (s.trace b).state) ++
    (List.range 16).flatMap fun g => leBytes 1 (s.tune.gens.getD g {}).state)

def execTuneStatus (q tag : Nat) (s : State) : Host.Outcome State Fault Refusal := startCommand 0x0604 q tag s tuneStatus

/-- The ranges of an injection record but AMP's upper bound (R216). -/
def genOk (r : Rec) : Bool :=
  decide (genInst r ≤ 2047) && decide (genWave r ≤ 3) && decide (genPoint r ≤ 1) && decide (1 ≤ genAmp r) && decide (genTap r ≤ 7) &&
  decide (1 ≤ genDecim r ∧ genDecim r ≤ 16) && decide (1 ≤ genLength r ∧ genLength r ≤ 65536) && decide (1 ≤ genSeed r ∧ genSeed r ≤ 32767) &&
  decide (1 ≤ genHold r ∧ genHold r ≤ 1024) && zeros r 28 4

/-- The slots whose cap map names a node. -/
def State.slotsOfNode (s : State) (n : Nat) : List LvSlot :=
  s.lv.slots.vals.filter fun x => (capEntries (s.capmap x.consumer)).any fun e => e.1 == n

/-- The effect of TUNE_INJ_START up to the instance's first due evaluation, whose window the result gives (R210, R216). -/
def tuneInjStart (c : InFlight) (s : State) : State :=
  let g := c.desc.object
  match c.record 32 with
  | none => s.fail c.uid ST_BAD_PARAM
  | some r =>
    let i := genInst r
    let n := coefNode (s.coef i)
    let sl := s.slotsOfNode n
    if 15 < g ∨ genOk r = false ∨ (s.inst i).state ≠ 2 ∨ s.nodeKind n ≠ 1 then s.fail c.uid ST_BAD_PARAM
    else if s.sessionOwns i ∨ (s.tune.gens.getD g {}).state = 1 ∨ s.tune.gens.any (fun e => e.2.state == 1 && genInst e.2.cfg == i) then s.fail c.uid ST_BUSY
    else if (s.node n).state = 3 then s.fail c.uid ST_FENCED
    else if s.pn PAR_TUNE_INJ_MAX < genAmp r then s.fail c.uid ST_BAD_PARAM
    else if sl.isEmpty ∨ sl.any (fun x => x.state != 1) then s.fail c.uid ST_NO_LEAVE
    else
      let x : Gen := { state := 1, cfg := r, k := (s.inst i).k, lfsr := genSeed r, uid := some c.uid }
      { s with tune := { s.tune with gens := s.tune.gens.set g x } }

def execTuneInjStart (q tag : Nat) (s : State) : Host.Outcome State Fault Refusal := startCommand 0x0610 q tag s tuneInjStart

/-- The effect of TUNE_INJ_STOP (R211, R217). -/
def tuneInjStop (c : InFlight) (s : State) : State :=
  if 15 < c.desc.object then s.fail c.uid ST_BAD_PARAM
  else if (s.tune.gens.getD c.desc.object {}).state = 1 then (s.endGen c.desc.object 1).ok c []
  else s.ok c []

def execTuneInjStop (q tag : Nat) (s : State) : Host.Outcome State Fault Refusal := startCommand 0x0611 q tag s tuneInjStop

/-- INJECTION_LENGTH_REACHED (R208, R211). -/
def execInjectionLengthReached (gen : Nat) (s : State) : Host.Outcome State Fault Refusal :=
  match s.tune.gens.get? gen with
  | none => .next s
  | some g => if g.state = 1 ∧ genTotal g.cfg ≤ g.n then .next (s.endGen gen 0) else .next s

end Sys2Proof.Machine
end

