-- ==== Sys2Proof/Machine/Work.lean ====
section
/-!
DEFINITION. The work ledger's own rows (R118, R120, R76): a grant, the end of an operation, and an island wait that runs out.
-/
namespace Sys2Proof.Machine

/-- A request becomes a grant (R120); the waits of an NV operation add up (R90). -/
def State.grantWork (s : State) (w : Work) : State :=
  let t : State := { s with lv := { s.lv with workWait := s.lv.workWait.filter (fun x => x.id != w.id), workGrant := s.lv.workGrant ++ [w] } }
  match w.what, t.par.op with
  | .nvOp, some op => { t with par := { t.par with op := some { op with waited := op.waited + (t.now - op.askAt) } } }
  | _, _ => t

/-- WORK_LEAVE_GRANT (R120). -/
def execWorkLeaveGrant (kind : Nat) (s : State) : Host.Outcome State Fault Refusal := match s.nextWorkReq kind with
  | some w => .next (s.grantWork w)
  | none => .next s

/-- The log entry of a changed offset entry (R375, R367); its two offsets are DEDUCED, assumption 55. -/
def State.logOffset (s old : State) : State :=
  let changed (id : Nat) : Bool := s.isl id != old.isl id
  let entry (t : State) (a b : Int) : State := t.legalLog 3 0xFFFF (leInt 2 a ++ leInt 2 b)
  let a := PAR_BIL_UTC_OFFSET_MIN
  let b := PAR_BIL_OFFSET_NEXT_MIN
  if changed a then entry s (old.isl a) (s.isl a)
  else if changed b then entry s (old.isl b) (s.isl b)
  else if changed PAR_BIL_OFFSET_AT_S then entry s (s.isl a) (s.isl b)
  else s

/-- What the end of an operation does besides returning its grant. -/
def State.workDone (s : State) : WorkFor → State
  | .nvOp => nvOpDone s
  | .sysLog => s
  | .parIsland uid => (parIslandDone uid s).logOffset s
  | .bootProgram n => bootProgramDone n s
  | .metStore uid => metStoreDone uid s
  | .storeCopy => storeCopyDone s
  | .gauStore uid => gauStoreDone uid s
  | .obsStore uid => obsStoreDone uid s
  | .tuneRead uid => tuneReadDone uid s
  | .ptDump uid => ptDumpDone uid s
  | .fwStore uid => fwStoreDone uid s
  | .canTiming => canTimingDone s
  | .obsErase => { s with obs := { s.obs with eraseDue := false } }

/-- An operation that a row of its own ends: a segment of a user-slot write (R90) and a system log append (R81). -/
def State.endsItself (s : State) : WorkFor → Bool
  | .nvOp => match s.par.op with
    | some op => op.kind == 1 || op.kind == 4
    | none => false
  | .sysLog => true
  | _ => false

/-- WORK_OPERATION_END (R118): the grant returns to the budget, and the operation's effect stands. -/
def execWorkOperationEnd (id : Nat) (s : State) : Host.Outcome State Fault Refusal := match s.lv.workGrant.find? fun w => w.id == id with
  | some w =>
    if s.endsItself w.what then .next s
    else
      let t : State := { s with lv := { s.lv with workGrant := s.lv.workGrant.filter fun x => x.id != id } }
      .next (t.workDone w.what)
  | none => .next s

/-- The island operation that a command waits on, and the end of its wait: 2 s (R76). -/
def State.islandWaits (s : State) (c : InFlight) : Option (WorkFor × Nat) :=
  let l : List (WorkFor × Nat) :=
    ((s.par.islandWait.find? fun w => w.1 == c.uid).map fun w => (WorkFor.parIsland c.uid, w.2.2.2)).toList ++
    [(.metStore c.uid, c.deadline), (.gauStore c.uid, c.deadline), (.obsStore c.uid, c.deadline)] ++
    (match s.sys.activate with
      | some (u, false, t) => if u = c.uid then [(WorkFor.fwStore c.uid, t)] else []
      | _ => [])
  l.find? fun e => s.awaits e.1

/-- An island's request for work leave was not granted in time: it goes with what it was for, and its command ends with ST_NO_LEAVE. -/
def State.islandLate (s : State) (c : InFlight) (what : WorkFor) : State :=
  let u := s.dropWork what
  let u : State := { u with
    par := { u.par with islandWait := u.par.islandWait.filter fun w => w.1 != c.uid }
    met := { u.met with stores := u.met.stores.filter fun w => w.1 != c.uid }
    obs := { u.obs with work := u.obs.work.filter fun w => w.uid != c.uid } }
  let u : State := match what with
    | .fwStore _ => { u with sys := { u.sys with activate := none } }
    | _ => u
  u.fail c.uid ST_NO_LEAVE

/-- ISLAND_LEAVE_TIMEOUT (R76): nothing changes but the command's end. -/
def execIslandLeaveTimeout (q tag : Nat) (s : State) : Host.Outcome State Fault Refusal :=
  match s.mbx.inflight.find? fun c => c.q == q && c.desc.tag == tag && c.phase == .running && (s.islandWaits c).isSome with
  | none => .next s
  | some c => match s.islandWaits c with
    | none => .next s
    | some (what, t) =>
      if s.now < t then .next s else .next (s.islandLate c what)

end Sys2Proof.Machine
end

