-- ==== Sys2Proof/Machine/Registers.lean ====
section
/-!
DEFINITION. The BAR0 register window (R10, R17, R18): what each register reads, what a write does, and the output pins that show
state (R596).
-/
namespace Sys2Proof.Machine

/-! ### Fields -/

/-- A register word from its fields: lowest bit, width and value; a value keeps its low bits. -/
def fields (l : List (Nat × Nat × Nat)) : Nat := (l.map fun e => e.2.2 % 2 ^ e.2.1 * 2 ^ e.1).sum
/-- A one-bit field. -/
def flag (k : Nat) (v : Bool) : Nat × Nat × Nat := (k, 1, if v then 1 else 0)
/-- Nodes in some of the states of R155. -/
def State.nodesIn (s : State) (l : List Nat) : Nat := (s.ring.nodes.filter fun e => l.contains e.2.state).length
/-- Word n of a row of single bits. -/
def bitWord (n : Nat) (f : Nat → Bool) : Nat := maskOf 32 fun b => f (32 * n + b)

/-! ### The maps, block by block -/

/-- SYS and CLK (R6, R591); SYS_PART and SYS_VARIANT keep the values fixed at manufacture. -/
def State.sysReg (s : State) (off : Nat) : Nat :=
  let y := s.sys
  match off with
  | 0x0000 => fields [(16, 16, y.partNum.toNat)]
  | 0x0004 => fields [(16, 8, y.hwIssue.toNat), (4, 4, y.tempGrade.toNat), (0, 4, y.metOption.toNat)]
  | 0x0008 => y.fwVersion
  | 0x000C => fields [(7, 1, y.fwActive.getD 0), flag 6 y.recovery, flag 5 y.ready, (0, 4, y.phase)]
  | 0x8000 => fields [flag 8 y.safeCheck, (2, 6, y.locks.toNat), flag 1 y.pfw, flag 0 y.pg]
  | 0x8004 => fields [(16, 16, y.starts.toNat), (0, 4, y.cause)]
  | 0x8008 => fields [(16, 16, y.minMv), (0, 16, y.supplyMv)]
  | 0x800C => fields [(0, 24, y.unlocks)]
  | 0x8010 => if s.mbx.timeLocked && !s.mbx.holdover then (y.refPpb % 2 ^ 32).toNat else 0
  | 0x8014 => (s.now - y.startAt) / sec
  | _ => 0

/-- Registers of a queue pair (R71). -/
def State.queueReg (s : State) (q off : Nat) : Nat :=
  let p := s.qp q
  let own := s.ownerOf q
  let h := (own.map s.host).getD {}
  match off with
  | 0x00 => p.sqBase.toNat % 2 ^ 32
  | 0x04 => p.sqBase.toNat / 2 ^ 32
  | 0x08 => p.cqBase.toNat % 2 ^ 32
  | 0x0C => p.cqBase.toNat / 2 ^ 32
  | 0x10 => fields [(16, 8, if own.isSome then h.reserve else 0), (8, 8, s.depthOf q), flag 2 p.ready, flag 1 p.irqEn, flag 0 p.enable]
  | 0x1C => fields [flag 26 ((own.map fun e => (s.hostLive e).connected) == some true), flag 25 p.dbErr, flag 24 (s.cqFull q), (16, 8, s.inflightOf q),
      (15, 1, p.phase), (8, 7, p.cqTail), (0, 7, p.sqHead)]
  | 0x20 => match own with
    | some e => fields [(16, 16, h.roles.toNat), (8, 1, h.cls), (7, 1, 1), (4, 3, h.transport), (0, 4, e)]
    | none => 0
  | _ => 0

/-- MBX (R71). -/
def State.mbxReg (s : State) (off : Nat) : Nat :=
  if off = 0x1000 then
    fields [(8, 5, (s.mbx.live.filter fun e => e.2.connected).length), flag 2 s.isDegraded, flag 1 s.isPaired, flag 0 s.isActive]
  else if off = 0x1004 then fields [(16, 9, s.sharedFree), (0, 9, s.creditsFree)]
  else if 0x1100 ≤ off ∧ off < 0x1500 then s.queueReg ((off - 0x1100) / 0x40) ((off - 0x1100) % 0x40)
  else 0

/-- FLT (R539). -/
def State.fltReg (s : State) (off : Nat) : Nat :=
  let heldSrc (k : Nat) : Bool := s.flt.holds.any fun h => h.source == k
  if off = 0 then fields [flag 31 s.flt.request, flag 30 s.isDegraded, (16, 10, (s.flt.src.filter fun e => e.2.set).length),
    (0, 10, ((List.range 512).filter heldSrc).length)]
  else if off = 4 then fields [flag 3 s.flt.testOk, flag 2 s.flt.mismatch, flag 1 s.flt.parity, flag 0 s.flt.request]
  else if off = 8 then fields [flag 31 s.flt.last.isSome, (0, 9, s.flt.last.getD 0)]
  else if 0x100 ≤ off ∧ off < 0x140 then bitWord ((off - 0x100) / 4) s.srcSet
  else if 0x200 ≤ off ∧ off < 0x240 then bitWord ((off - 0x200) / 4) heldSrc
  else 0

/-- LV (R132). -/
def State.lvReg (s : State) (off : Nat) : Nat :=
  let kw (v : Nat) : Nat := fields [(0, 18, v)]
  let waits (kind : Nat) : Nat := (s.lv.workWait.filter fun w => w.kind == kind).length
  if 0x20 ≤ off ∧ off < 0x40 then kw (s.classKw ((off - 0x20) / 4))
  else match off with
    | 0x00 => fields [(16, 10, s.lv.slots.length), (6, 10, (s.lv.slots.filter fun e => e.2.state == 2).length), (0, 6, s.lvStat)]
    | 0x04 => kw s.lv.g
    | 0x08 => kw s.lv.p
    | 0x0C => kw s.lv.b
    | 0x10 => kw s.lv.e
    | 0x14 => kw s.lv.sum
    | 0x18 => kw s.pendingKw
    | 0x1C => fields [(0, 11, s.lv.h)]
    | 0x40 => fields [(24, 6, waits 1), (14, 7, s.lv.workGrant.length), (8, 6, waits 0), (0, 8, s.workFree 0)]
    | 0x44 => fields [(0, 13, s.workFree 1)]
    | _ => 0

/-- HELD_OPEN of a cage: two issuers meet at it (R157, R168; DEDUCED, assumption 57). -/
def State.heldOpen (s : State) (cage : Nat) : Bool := (s.port cage).foreign && s.emitCages.contains cage

/-- RING (R168). -/
def State.ringReg (s : State) (off : Nat) : Nat :=
  if 0x20 ≤ off ∧ off < 0x30 then
    let n := (off - 0x20) / 4
    let p := s.port n
    fields [(16, 16, p.blkErr.toNat), flag 4 (s.heldOpen n), flag 3 p.foreign, flag 2 (s.ownReturn n), flag 1 p.los, flag 0 p.lock]
  else match off with
    | 0x00 => fields [(16, 16, s.nodesIn [2, 3]), flag 8 s.scanning, flag 7 (s.pair.healSeen || (List.range 4).any s.heldOpen),
        flag 6 (s.ring.nodes.any fun e => e.2.mismatch && (e.2.state == 2 || e.2.state == 3)), (4, 2, s.ring.stateB), (2, 2, s.ring.stateA),
        flag 1 s.ring.enumDone, flag 0 s.emitsCycles]
    | 0x04 => s.ring.cycle.toNat
    | 0x08 => s.ownEpoch
    | 0x0C => fields [(16, 16, s.nodesIn [3]), (0, 16, s.nodesIn [4])]
    | 0x10 => fields [(16, 16, s.nodesIn [5, 6, 7]), (0, 16, s.nodesIn [1])]
    | _ => 0

/-- BAS (R202). -/
def State.basReg (s : State) (off : Nat) : Nat :=
  let count (f : Inst → Bool) : Nat := (s.bas.insts.filter fun e => f e.2).length
  if 0x100 ≤ off ∧ off < 0x200 then bitWord ((off - 0x100) / 4) fun i => (s.inst i).wrap
  else if 0x200 ≤ off ∧ off < 0x300 then bitWord ((off - 0x200) / 4) fun i => (s.inst i).state == 4
  else match off with
    | 0x00 => fields [(16, 12, count fun x => x.state == 2 || x.state == 3), (0, 12, count fun x => x.state == 4)]
    | 0x04 => fields [(16, 12, count Inst.half), (0, 12, count fun x => x.state == 3)]
    | 0x08 => fields [(16, 10, s.peakEvals), (0, 10, s.pn PAR_BAS_EVAL_LIMIT)]
    | _ => 0

/-- CAN (R459): block n at n × 0x100. -/
def State.canReg (s : State) (off : Nat) : Nat :=
  let n := off / 0x100
  if 3 < n then 0
  else match off % 0x100 with
    | 0x00 => s.canStat n
    | 0x04 => s.canErrCnt n
    | 0x08 => s.canCount
    | 0x0C => s.can.latch
    | 0x10 => fields [(16, 16, (s.canCtl n).busoffs), (0, 16, (s.canCtl n).dropped)]
    | 0x14 => fields [(0, 8, s.can.wrap)]
    | _ => 0

/-- PLC (R441). PLC_USE reads 0 while the module gives no cycles (DEDUCED from its reset value, assumption 58). -/
def State.plcReg (s : State) (off : Nat) : Nat := match off with
  | 0x00 =>
    let joined := (s.plc.nodes.filter fun e => e.2.joined)
    let foreign := match s.plc.foreignAt with
      | some t => decide (s.now ≤ t + 3 * s.pms PAR_PLC_CYCLE_MS)
      | none => false
    fields [(16, 8, joined.length), (8, 8, (joined.filter fun e => !e.2.runsMapped).length), flag 2 s.overbooked, flag 1 foreign, flag 0 s.plc.master]
  | 0x04 => s.plc.beacons
  | 0x08 => if s.plc.master then fields [(16, 16, s.plcFixed / 1000), (0, 16, (s.plcCycle - s.plcFixed) / 1000)] else 0
  | 0x0C => fields [(16, 16, s.plcSecond.plc.lastRepolls), (0, 16, s.plcSecond.plc.lastMissed)]
  | _ => 0

/-- PAIR (R568). -/
def State.pairReg (s : State) (off : Nat) : Nat := match off with
  | 0x00 => s.pairStat
  | 0x04 => s.pair.imgReg
  | 0x08 => fields [(16, 16, s.pair.ackUsMax), (0, 16, s.pair.ackUs)]
  | 0x0C => fields [(16, 16, s.pair.takeovers.toNat), (0, 16, s.pair.diverged.toNat)]
  | 0x10 => s.pairHeld
  | 0x14 => fields [(0, 16, s.switchDays)]
  | _ => 0

/-- GRN (R521). GRN_CFG_CRC reads its reset value until READY, before which no value is valid. -/
def State.grnReg (s : State) (off : Nat) : Nat :=
  let faulty (n : Nat) : Bool := (s.grnIn n).faulty || (s.grnIn n).a.chatter || (s.grnIn n).b.chatter
  let outs (f : GrnOut → Bool) : Nat := maskOf 8 fun n => f (s.grnOut n)
  if 0x20 ≤ off ∧ off < 0x40 then bitWord ((off - 0x20) / 4) s.outletLocked
  else match off with
    | 0x00 => fields [flag 31 s.grn.safeState, flag 30 s.grn.pendingImg.isSome, flag 29 s.grn.arm.isSome, flag 28 s.grn.ready,
        (19, 9, ((List.range 256).filter s.outletLocked).length), (0, 10, s.connCount 3)]
    | 0x04 => fields [(16, 16, maskOf 16 faulty), (0, 16, maskOf 16 s.inTrips)]
    | 0x08 => fields [(16, 8, outs fun x => x.highFail || x.lowFail || x.weld || x.feedback), (8, 8, outs fun x => x.cause != 0),
        (0, 8, outs GrnOut.closed)]
    | 0x0C => if s.grn.ready then imgCrc s.grn.image else 0
    | 0x10 => maskOf 32 fun k =>
        let n := k / 2
        inMode (s.inRec n) == 3 && (let ch := if k % 2 = 0 then (s.grnIn n).a else (s.grnIn n).b
                                    ch.level && !ch.chatter)
    | _ => 0

/-- MET (R340). -/
def State.metReg (s : State) (off : Nat) : Nat :=
  let inState (k : Nat) : Nat := ((List.range 264).filter fun ch => (s.chan ch).state == k).length
  let leg (n : Nat) : MetLeg := s.met.legs.getD n {}
  let legFields (n k : Nat) : List (Nat × Nat × Nat) := match (leg n).channel with
    | some ch => [(k + 15, 1, 1), (k + 12, 3, (leg n).qty), (k, 9, ch)]
    | none => []
  if 0x10 ≤ off ∧ off < 0x34 then bitWord ((off - 0x10) / 4) fun ch => decide (ch < 264) && (s.chan ch).state == 3
  else match off with
    | 0x00 => fields [(16, 9, inState 2), (4, 9, inState 3), flag 1 s.sealOpen, flag 0 s.met.ready]
    | 0x04 => s.met.sealCount
    | 0x08 => s.met.calSeq
    | 0x40 => fields ((List.range 8).map fun n => (2 * n, 2, s.met.steps.getD n 0))
    | 0x44 => fields (legFields 0 0 ++ legFields 1 16)
    | _ => 0

/-- BIL (R377). -/
def State.bilReg (s : State) (off : Nat) : Nat :=
  let l := s.bil.live
  match off with
  | 0x00 => fields [(16, 9, l.opened.length), flag 5 s.bil.full, flag 4 s.bil.low, flag 3 s.bil.recovered,
      flag 2 (s.bil.registers && s.reversed), flag 1 (s.bil.registers && !l.invalid), flag 0 s.bil.checkOk]
  | 0x04 => s.bil.check
  | 0x08 => l.legal % 2 ^ 32
  | 0x0C => s.bil.clockHi
  | 0x10 => l.readSeq
  | 0x14 => l.logHead % 2 ^ 32
  | 0x18 => fields [(16, 16, s.logFree), (0, 16, s.slotsFree)]
  | _ => 0

/-- OBS (R487); until READY every field reads its reset value, 0. -/
def State.obsReg (s : State) (off : Nat) : Nat :=
  let o := s.obs
  let slots (f : Nat → Bool) : Nat := (o.slots.filter fun e => f e.1).length
  if o.ready = false then 0
  else match off with
    | 0x00 => fields [(16, 6, (o.records.head?.map fun r => r.sources.toNat).getD 0), flag 8 o.pairKeyed, flag 7 o.bkbatWarn, (3, 3, o.lifecycle),
        flag 2 ((o.live &&& s.armed) != 0), flag 1 o.zeroised, flag 0 o.ready]
    | 0x04 => fields [(16, 6, s.armed.toNat), (0, 6, o.live.toNat)]
    | 0x08 => o.count
    | 0x0C => fields [(16, 11, slots fun n => decide (256 ≤ n)), (0, 9, slots fun n => decide (n < 256))]
    | 0x10 => fields [(0, 12, o.bkbat)]
    | _ => 0

/-- What a 32-bit read of a BAR0 offset gives (R10, R17, R18): write-only fields, reserved bits and unallocated offsets read 0. -/
def State.readReg (s : State) (off : Nat) : Nat :=
  if off % 4 ≠ 0 then 0
  else match off / 0x10000 with
    | 0x0 => if 0x1000 ≤ off ∧ off < 0x8000 then s.mbxReg off else s.sysReg off
    | 0x1 => s.fltReg (off % 0x10000)
    | 0x2 => s.lvReg (off % 0x10000)
    | 0x3 => s.ringReg (off % 0x10000)
    | 0x4 => s.basReg (off % 0x10000)
    | 0x5 => s.canReg (off % 0x10000)
    | 0x6 => s.plcReg (off % 0x10000)
    | 0x7 => s.pairReg (off % 0x10000)
    | 0x8 => s.grnReg (off % 0x10000)
    | 0x9 => if off < 0x98000 then s.metReg (off % 0x8000) else s.bilReg (off % 0x8000)
    | 0xA => s.obsReg (off % 0x10000)
    | _ => 0

/-- BIL_CLOCK_LO_READ (R377). -/
def execBilClockLoRead (s : State) : Host.Outcome State Fault Refusal :=
  .next { s with bil := { s.bil with clockHi := s.bil.live.legal / 2 ^ 32 % 2 ^ 32 } }

/-! ### Writes -/

/-- The half of a base address that a write sets; rings are 4 KiB aligned (R71). -/
def setBase (old : BitVec 64) (hi : Bool) (v : BitVec 32) : BitVec 64 :=
  if hi then v ++ (old.setWidth 32) else (old.extractLsb' 32 32) ++ (v &&& 0xFFFFF000)

/-- A write to a register of a queue pair (R71, R54); the doorbells and ENABLE act as their own rows do. -/
def State.writeQueue (s : State) (q off : Nat) (v : BitVec 32) : Host.Outcome State Fault Refusal :=
  let base (f : QPair → QPair) : State := if s.isPcieQ q ∧ (s.qp q).ready = false then s.updQp q f else s
  match off with
  | 0x00 => .next (base fun p => { p with sqBase := setBase p.sqBase false v })
  | 0x04 => .next (base fun p => { p with sqBase := setBase p.sqBase true v })
  | 0x08 => .next (base fun p => { p with cqBase := setBase p.cqBase false v })
  | 0x0C => .next (base fun p => { p with cqBase := setBase p.cqBase true v })
  | 0x10 =>
    if s.isPcieQ q then
      let t := s.updQp q fun p => { p with irqEn := v.getLsbD 1 }
      if v.getLsbD 0 = (s.qp q).enable then .next t else if v.getLsbD 0 then execQueueEnable q t else execQueueDisable q t
    else .next s
  | 0x14 => execMbxSqTailDb q (v.toNat % 128) s
  | 0x18 => execMbxCqHeadDb q (v.toNat % 128) s
  | 0x1C => .next (if v.getLsbD 25 then s.updQp q fun p => { p with dbErr := false } else s)
  | _ => .next s

/-- REGISTER_WRITE (R10, R18, R71): a 32-bit write by the PCIe host. Read-only and sticky fields, reserved bits and unallocated offsets ignore it. -/
def execRegisterWrite (offset : Nat) (value : BitVec 32) (s : State) : Host.Outcome State Fault Refusal :=
  if s.mbx.pcieUp = false ∨ offset % 4 ≠ 0 then .next s
  else if 0x1100 ≤ offset ∧ offset < 0x1500 then s.writeQueue ((offset - 0x1100) / 0x40) ((offset - 0x1100) % 0x40) value
  else if offset = 0x20000 ∧ value.getLsbD 4 then .next { s with lv := { s.lv with importExcess := false } }
  else if offset / 0x400 = 0x140 ∧ offset % 0x100 = 0 ∧ value.getLsbD 7 then
    .next (s.updCan ((offset - 0x50000) / 0x100) fun x => { x with overrun := false })
  else .next s

/-! ### Output pins that show state (R596) -/

/-- LED0: on while READY. -/
def State.led0 (s : State) : Bool := s.sys.ready
/-- LED1: on while the role is ACTIVE. -/
def State.led1 (s : State) : Bool := s.isActive
/-- LED2: on while DEGRADED. -/
def State.led2 (s : State) : Bool := s.isDegraded
/-- LED3: on in TAMPERED, in module safe state, and while RECOVERY is set. -/
def State.led3 (s : State) : Bool := s.obs.lifecycle == 4 || s.grn.safeState || s.sys.recovery
/-- PG_OUT: high while power good stands. -/
def State.pgOut (s : State) : Bool := s.sys.pg
/-- PFW_N: low from the power-fail warning. -/
def State.pfwN (s : State) : Bool := !s.sys.pfw
/-- CANn_STB: low while the controller's MODE is not 0. -/
def State.canStb (s : State) (n : Nat) : Bool := s.canModeNow n == 0

end Sys2Proof.Machine
end

