-- ==== Sys2Proof/Machine/Dispatch.lean ====
section
/-! DEFINITION. What each command does: one arm per command of the opcode table. -/
namespace Sys2Proof.Machine

def exec (i : Instr) (s : State) : Host.Outcome State Fault Refusal :=
  match i with
  | .mbxHostSet q tag => Sys2Proof.Machine.execMbxHostSet q tag s
  | .mbxEventWait q tag => Sys2Proof.Machine.execMbxEventWait q tag s
  | .mbxAbort q tag => Sys2Proof.Machine.execMbxAbort q tag s
  | .mbxSqTailDb q tail => Sys2Proof.Machine.execMbxSqTailDb q tail s
  | .mbxCqHeadDb q head => Sys2Proof.Machine.execMbxCqHeadDb q head s
  | .queueEnable q => Sys2Proof.Machine.execQueueEnable q s
  | .queueDisable q => Sys2Proof.Machine.execQueueDisable q s
  | .queueDrained q => Sys2Proof.Machine.execQueueDrained q s
  | .registerWrite offset value => Sys2Proof.Machine.execRegisterWrite offset value s
  | .tlsHandshake port keyHash offer => Sys2Proof.Machine.execTlsHandshake port keyHash offer s
  | .submit entry q descs => Sys2Proof.Machine.execSubmit entry q descs s
  | .cqAck entry q count => Sys2Proof.Machine.execCqAck entry q count s
  | .keepalive entry => Sys2Proof.Machine.execKeepalive entry s
  | .badHostMessage entry => Sys2Proof.Machine.execBadHostMessage entry s
  | .tlsSessionClosed entry => Sys2Proof.Machine.execTlsSessionClosed entry s
  | .hostKeepaliveTimeout entry => Sys2Proof.Machine.execHostKeepaliveTimeout entry s
  | .keepaliveSendDue entry => Sys2Proof.Machine.execKeepaliveSendDue entry s
  | .tlsKeyUpdateDue entry => Sys2Proof.Machine.execTlsKeyUpdateDue entry s
  | .pcieLinkDown => Sys2Proof.Machine.execPcieLinkDown s
  | .pcieFunctionReset => Sys2Proof.Machine.execPcieFunctionReset s
  | .perstN high => Sys2Proof.Machine.execPerstN high s
  | .descriptorFetch dma => Sys2Proof.Machine.execDescriptorFetch dma s
  | .completionPost q tag => Sys2Proof.Machine.execCompletionPost q tag s
  | .irqCoalesceExpiry q => Sys2Proof.Machine.execIrqCoalesceExpiry q s
  | .ptpMessage port msg => Sys2Proof.Machine.execPtpMessage port msg s
  | .ptpMasterLost => Sys2Proof.Machine.execPtpMasterLost s
  | .parGet q tag => Sys2Proof.Machine.execParGet q tag s
  | .parDescribe q tag => Sys2Proof.Machine.execParDescribe q tag s
  | .parSet q tag => Sys2Proof.Machine.execParSet q tag s
  | .nvStore q tag => Sys2Proof.Machine.execNvStore q tag s
  | .nvStoreSegment verified => Sys2Proof.Machine.execNvStoreSegment verified s
  | .nvLeaveWaitExpiry => Sys2Proof.Machine.execNvLeaveWaitExpiry s
  | .nvSelect q tag => Sys2Proof.Machine.execNvSelect q tag s
  | .nvCommit q tag => Sys2Proof.Machine.execNvCommit q tag s
  | .nvStatus q tag => Sys2Proof.Machine.execNvStatus q tag s
  | .nvExport q tag => Sys2Proof.Machine.execNvExport q tag s
  | .exportBufferTimeout => Sys2Proof.Machine.execExportBufferTimeout s
  | .nvImport q tag => Sys2Proof.Machine.execNvImport q tag s
  | .importBufferTimeout => Sys2Proof.Machine.execImportBufferTimeout s
  | .systemLogAppend entries => Sys2Proof.Machine.execSystemLogAppend entries s
  | .workLeaveGrant kind => Sys2Proof.Machine.execWorkLeaveGrant kind s
  | .workOperationEnd id => Sys2Proof.Machine.execWorkOperationEnd id s
  | .leaveRequest q tag => Sys2Proof.Machine.execLeaveRequest q tag s
  | .leaveChange q tag => Sys2Proof.Machine.execLeaveChange q tag s
  | .leaveRelease q tag => Sys2Proof.Machine.execLeaveRelease q tag s
  | .leaveRead q tag => Sys2Proof.Machine.execLeaveRead q tag s
  | .lvGridSet q tag => Sys2Proof.Machine.execLvGridSet q tag s
  | .lvCapmapSet q tag => Sys2Proof.Machine.execLvCapmapSet q tag s
  | .lvShareSet q tag => Sys2Proof.Machine.execLvShareSet q tag s
  | .shareVersionCommit => Sys2Proof.Machine.execShareVersionCommit s
  | .shareStoreTimeout => Sys2Proof.Machine.execShareStoreTimeout s
  | .arbiterMicrosecond => Sys2Proof.Machine.execArbiterMicrosecond s
  | .setpointExpiry => Sys2Proof.Machine.execSetpointExpiry s
  | .reclaimNoticeEnd slot => Sys2Proof.Machine.execReclaimNoticeEnd slot s
  | .leaveWaitExpiry slot => Sys2Proof.Machine.execLeaveWaitExpiry slot s
  | .ledgerPublication => Sys2Proof.Machine.execLedgerPublication s
  | .importExcessDetected importKw deliveredKw => Sys2Proof.Machine.execImportExcessDetected importKw deliveredKw s
  | .bufferDeliveryRestored deliveredKw => Sys2Proof.Machine.execBufferDeliveryRestored deliveredKw s
  | .ringCycle => Sys2Proof.Machine.execRingCycle s
  | .loopWindow => Sys2Proof.Machine.execLoopWindow s
  | .upstreamLoopFrame frame => Sys2Proof.Machine.execUpstreamLoopFrame frame s
  | .slotDeadline node window => Sys2Proof.Machine.execSlotDeadline node window s
  | .reportRecord node code arg epoch => Sys2Proof.Machine.execReportRecord node code arg epoch s
  | .switchedFrame node side hops => Sys2Proof.Machine.execSwitchedFrame node side hops s
  | .nodeStatusBlock status => Sys2Proof.Machine.execNodeStatusBlock status s
  | .nodeSilence node => Sys2Proof.Machine.execNodeSilence node s
  | .nodeFramesAgain node epoch => Sys2Proof.Machine.execNodeFramesAgain node epoch s
  | .foreignNodeSeen node epoch => Sys2Proof.Machine.execForeignNodeSeen node epoch s
  | .claimAccepted node epoch side hops => Sys2Proof.Machine.execClaimAccepted node epoch side hops s
  | .ownHeadersNotReturned ring => Sys2Proof.Machine.execOwnHeadersNotReturned ring s
  | .cageLockChange cage lock => Sys2Proof.Machine.execCageLockChange cage lock s
  | .enumerationScan ring members => Sys2Proof.Machine.execEnumerationScan ring members s
  | .ringNodeSet q tag => Sys2Proof.Machine.execRingNodeSet q tag s
  | .ringNodeRead q tag => Sys2Proof.Machine.execRingNodeRead q tag s
  | .ringScan q tag members => Sys2Proof.Machine.execRingScan q tag members s
  | .ringNodeRestore q tag => Sys2Proof.Machine.execRingNodeRestore q tag s
  | .opticalModuleInserted cage present rateMbit => Sys2Proof.Machine.execOpticalModuleInserted cage present rateMbit s
  | .basLoad q tag => Sys2Proof.Machine.execBasLoad q tag s
  | .basArm q tag => Sys2Proof.Machine.execBasArm q tag s
  | .trackingReportTimeout inst => Sys2Proof.Machine.execTrackingReportTimeout inst s
  | .basFreeze q tag => Sys2Proof.Machine.execBasFreeze q tag s
  | .basDisarm q tag => Sys2Proof.Machine.execBasDisarm q tag s
  | .basRefSet q tag => Sys2Proof.Machine.execBasRefSet q tag s
  | .basHandover q tag => Sys2Proof.Machine.execBasHandover q tag s
  | .basRead q tag => Sys2Proof.Machine.execBasRead q tag s
  | .basRep q tag => Sys2Proof.Machine.execBasRep q tag s
  | .tuneTraceSet q tag => Sys2Proof.Machine.execTuneTraceSet q tag s
  | .tuneTraceTrigger q tag => Sys2Proof.Machine.execTuneTraceTrigger q tag s
  | .tuneTraceStop q tag => Sys2Proof.Machine.execTuneTraceStop q tag s
  | .tuneTraceRead q tag => Sys2Proof.Machine.execTuneTraceRead q tag s
  | .tuneStatus q tag => Sys2Proof.Machine.execTuneStatus q tag s
  | .traceSample buffer => Sys2Proof.Machine.execTraceSample buffer s
  | .tuneInjStart q tag => Sys2Proof.Machine.execTuneInjStart q tag s
  | .tuneInjStop q tag => Sys2Proof.Machine.execTuneInjStop q tag s
  | .injectionLengthReached gen => Sys2Proof.Machine.execInjectionLengthReached gen s
  | .tuneCapRead q tag => Sys2Proof.Machine.execTuneCapRead q tag s
  | .stgConfig q tag => Sys2Proof.Machine.execStgConfig q tag s
  | .stgCheck q tag => Sys2Proof.Machine.execStgCheck q tag s
  | .checkResult node stage seq failed => Sys2Proof.Machine.execCheckResult node stage seq failed s
  | .checkTimeout stage => Sys2Proof.Machine.execCheckTimeout stage s
  | .tokenExpiry stage => Sys2Proof.Machine.execTokenExpiry stage s
  | .stgEnable q tag => Sys2Proof.Machine.execStgEnable q tag s
  | .softStartEnd stage => Sys2Proof.Machine.execSoftStartEnd stage s
  | .softStartTimeout stage => Sys2Proof.Machine.execSoftStartTimeout stage s
  | .softStartShort stage => Sys2Proof.Machine.execSoftStartShort stage s
  | .stgDisable q tag => Sys2Proof.Machine.execStgDisable q tag s
  | .stgRead q tag => Sys2Proof.Machine.execStgRead q tag s
  | .phaseFenceReport stage fenced => Sys2Proof.Machine.execPhaseFenceReport stage fenced s
  | .holdRampZero stage => Sys2Proof.Machine.execHoldRampZero stage s
  | .coolConfig q tag => Sys2Proof.Machine.execCoolConfig q tag s
  | .coolStart q tag => Sys2Proof.Machine.execCoolStart q tag s
  | .coolStop q tag => Sys2Proof.Machine.execCoolStop q tag s
  | .coolReset q tag => Sys2Proof.Machine.execCoolReset q tag s
  | .coolRead q tag => Sys2Proof.Machine.execCoolRead q tag s
  | .coolingSample circuit tIn tOut flow pump pin0 pin1 => Sys2Proof.Machine.execCoolingSample circuit tIn tOut flow pump pin0 pin1 s
  | .coolingObserverCycle => Sys2Proof.Machine.execCoolingObserverCycle s
  | .inputLost circuit input => Sys2Proof.Machine.execInputLost circuit input s
  | .inputValidAgain circuit input => Sys2Proof.Machine.execInputValidAgain circuit input s
  | .primingDone circuit => Sys2Proof.Machine.execPrimingDone circuit s
  | .primingTimeout circuit => Sys2Proof.Machine.execPrimingTimeout circuit s
  | .coolRunonExpiry circuit => Sys2Proof.Machine.execCoolRunonExpiry circuit s
  | .sesOutletConfig q tag => Sys2Proof.Machine.execSesOutletConfig q tag s
  | .sesOutletState q tag => Sys2Proof.Machine.execSesOutletState q tag s
  | .sesAuthorise q tag => Sys2Proof.Machine.execSesAuthorise q tag s
  | .sesStop q tag => Sys2Proof.Machine.execSesStop q tag s
  | .sesRead q tag => Sys2Proof.Machine.execSesRead q tag s
  | .connectionEvent node connector seq event => Sys2Proof.Machine.execConnectionEvent node connector seq event s
  | .linkEvent node connector seq up => Sys2Proof.Machine.execLinkEvent node connector seq up s
  | .vehicleFrame node connector seq mac frame => Sys2Proof.Machine.execVehicleFrame node connector seq mac frame s
  | .sessionLimitsCycle => Sys2Proof.Machine.execSessionLimitsCycle s
  | .noContextRetry outlet => Sys2Proof.Machine.execNoContextRetry outlet s
  | .sesLinkTimeout context => Sys2Proof.Machine.execSesLinkTimeout context s
  | .authTimeout context => Sys2Proof.Machine.execAuthTimeout context s
  | .cableCheckTimeout context => Sys2Proof.Machine.execCableCheckTimeout context s
  | .demandTimeout context => Sys2Proof.Machine.execDemandTimeout context s
  | .shrinkTimer context => Sys2Proof.Machine.execShrinkTimer context s
  | .regrantTimer context => Sys2Proof.Machine.execRegrantTimer context s
  | .stopCurrentLow context => Sys2Proof.Machine.execStopCurrentLow context s
  | .estopTimeout context => Sys2Proof.Machine.execEstopTimeout context s
  | .overvoltageDetected context => Sys2Proof.Machine.execOvervoltageDetected context s
  | .reverseCurrentDetected context => Sys2Proof.Machine.execReverseCurrentDetected context s
  | .weldCheckTimeout outlet => Sys2Proof.Machine.execWeldCheckTimeout outlet s
  | .metChanConfig q tag => Sys2Proof.Machine.execMetChanConfig q tag s
  | .metCalSet q tag => Sys2Proof.Machine.execMetCalSet q tag s
  | .metSeal q tag => Sys2Proof.Machine.execMetSeal q tag s
  | .sealExpiry => Sys2Proof.Machine.execSealExpiry s
  | .metRead q tag => Sys2Proof.Machine.execMetRead q tag s
  | .metHarmRead q tag => Sys2Proof.Machine.execMetHarmRead q tag s
  | .metCalRead q tag => Sys2Proof.Machine.execMetCalRead q tag s
  | .metPulseSet q tag => Sys2Proof.Machine.execMetPulseSet q tag s
  | .metLegSelect q tag => Sys2Proof.Machine.execMetLegSelect q tag s
  | .sampleBlock block => Sys2Proof.Machine.execSampleBlock block s
  | .legalTick j2 => Sys2Proof.Machine.execLegalTick j2 s
  | .gapExceeded channel => Sys2Proof.Machine.execGapExceeded channel s
  | .overrangePersisted channel => Sys2Proof.Machine.execOverrangePersisted channel s
  | .channelStarted channel => Sys2Proof.Machine.execChannelStarted channel s
  | .channelBack channel => Sys2Proof.Machine.execChannelBack channel s
  | .gainStepUp input => Sys2Proof.Machine.execGainStepUp input s
  | .harmonicWindowEnd channel freq blocks => Sys2Proof.Machine.execHarmonicWindowEnd channel freq blocks s
  | .pulseBacklogPersisted output => Sys2Proof.Machine.execPulseBacklogPersisted output s
  | .checkValueRecompute value => Sys2Proof.Machine.execCheckValueRecompute value s
  | .displayFrame => Sys2Proof.Machine.execDisplayFrame s
  | .journalWrite => Sys2Proof.Machine.execJournalWrite s
  | .rtcWrite => Sys2Proof.Machine.execRtcWrite s
  | .creditDeduction => Sys2Proof.Machine.execCreditDeduction s
  | .storeCopy => Sys2Proof.Machine.execStoreCopy s
  | .finalCommit => Sys2Proof.Machine.execFinalCommit s
  | .bilTariffSet q tag => Sys2Proof.Machine.execBilTariffSet q tag s
  | .bilTariffAssign q tag => Sys2Proof.Machine.execBilTariffAssign q tag s
  | .bilAccountSet q tag => Sys2Proof.Machine.execBilAccountSet q tag s
  | .bilAccountCredit q tag => Sys2Proof.Machine.execBilAccountCredit q tag s
  | .bilAccountRead q tag => Sys2Proof.Machine.execBilAccountRead q tag s
  | .bilClockSet q tag => Sys2Proof.Machine.execBilClockSet q tag s
  | .bilReadingGet q tag => Sys2Proof.Machine.execBilReadingGet q tag s
  | .bilRegisterSnap q tag => Sys2Proof.Machine.execBilRegisterSnap q tag s
  | .bilLogRead q tag => Sys2Proof.Machine.execBilLogRead q tag s
  | .bilLogAck q tag => Sys2Proof.Machine.execBilLogAck q tag s
  | .bilStatus q tag => Sys2Proof.Machine.execBilStatus q tag s
  | .gauStringConfig q tag => Sys2Proof.Machine.execGauStringConfig q tag s
  | .gauRead q tag => Sys2Proof.Machine.execGauRead q tag s
  | .gauLearnSet q tag => Sys2Proof.Machine.execGauLearnSet q tag s
  | .stringFrame canId data => Sys2Proof.Machine.execStringFrame canId data s
  | .anchorHoldExpiry string => Sys2Proof.Machine.execAnchorHoldExpiry string s
  | .stringFrameTimeout string => Sys2Proof.Machine.execStringFrameTimeout string s
  | .gaugeJournalPeriodic => Sys2Proof.Machine.execGaugeJournalPeriodic s
  | .gaugeReport => Sys2Proof.Machine.execGaugeReport s
  | .gaugeDataStale => Sys2Proof.Machine.execGaugeDataStale s
  | .batauxLow written => Sys2Proof.Machine.execBatauxLow written s
  | .gaugeRestart => Sys2Proof.Machine.execGaugeRestart s
  | .hibernationEntry => Sys2Proof.Machine.execHibernationEntry s
  | .hibernationTick shunts => Sys2Proof.Machine.execHibernationTick shunts s
  | .gaugeWake cause => Sys2Proof.Machine.execGaugeWake cause s
  | .ptRead q tag => Sys2Proof.Machine.execPtRead q tag s
  | .ptDump q tag => Sys2Proof.Machine.execPtDump q tag s
  | .ptPointSet q tag => Sys2Proof.Machine.execPtPointSet q tag s
  | .ptWrite q tag => Sys2Proof.Machine.execPtWrite q tag s
  | .ptSubscribe q tag => Sys2Proof.Machine.execPtSubscribe q tag s
  | .ptFetch q tag => Sys2Proof.Machine.execPtFetch q tag s
  | .fetchWaitExpiry q tag => Sys2Proof.Machine.execFetchWaitExpiry q tag s
  | .ptStatus q tag => Sys2Proof.Machine.execPtStatus q tag s
  | .catalogue node version records => Sys2Proof.Machine.execCatalogue node version records s
  | .pointBatch node cycle records => Sys2Proof.Machine.execPointBatch node cycle records s
  | .pointSiteCycle => Sys2Proof.Machine.execPointSiteCycle s
  | .staleCheck => Sys2Proof.Machine.execStaleCheck s
  | .plcNodeRead q tag => Sys2Proof.Machine.execPlcNodeRead q tag s
  | .plcTmapRead q tag => Sys2Proof.Machine.execPlcTmapRead q tag s
  | .plcTmapRefresh q tag => Sys2Proof.Machine.execPlcTmapRefresh q tag s
  | .plcMaskSet q tag => Sys2Proof.Machine.execPlcMaskSet q tag s
  | .pollCycle => Sys2Proof.Machine.execPollCycle s
  | .pollResponse answer => Sys2Proof.Machine.execPollResponse answer s
  | .exchangeFailed node => Sys2Proof.Machine.execExchangeFailed node s
  | .repoll node => Sys2Proof.Machine.execRepoll node s
  | .tmapRefreshDue node => Sys2Proof.Machine.execTmapRefreshDue node s
  | .tmapRefreshStep step => Sys2Proof.Machine.execTmapRefreshStep step s
  | .discoveryWindow answers => Sys2Proof.Machine.execDiscoveryWindow answers s
  | .foreignBeacon epoch release => Sys2Proof.Machine.execForeignBeacon epoch release s
  | .segmentSilence => Sys2Proof.Machine.execSegmentSilence s
  | .canConfig q tag => Sys2Proof.Machine.execCanConfig q tag s
  | .canDetect q tag => Sys2Proof.Machine.execCanDetect q tag s
  | .detectDwellExpiry controller => Sys2Proof.Machine.execDetectDwellExpiry controller s
  | .detectTimeout controller => Sys2Proof.Machine.execDetectTimeout controller s
  | .canTx q tag => Sys2Proof.Machine.execCanTx q tag s
  | .canTxTimeout q tag => Sys2Proof.Machine.execCanTxTimeout q tag s
  | .canFrameSent controller outcome => Sys2Proof.Machine.execCanFrameSent controller outcome s
  | .canFrameReceived controller rx => Sys2Proof.Machine.execCanFrameReceived controller rx s
  | .canRxRead q tag => Sys2Proof.Machine.execCanRxRead q tag s
  | .canRxAck q tag => Sys2Proof.Machine.execCanRxAck q tag s
  | .canRecover q tag => Sys2Proof.Machine.execCanRecover q tag s
  | .canStatus q tag => Sys2Proof.Machine.execCanStatus q tag s
  | .canBusoff controller => Sys2Proof.Machine.execCanBusoff controller s
  | .busoffHoldExpiry controller => Sys2Proof.Machine.execBusoffHoldExpiry controller s
  | .canRecovered controller => Sys2Proof.Machine.execCanRecovered controller s
  | .canTsWrap => Sys2Proof.Machine.execCanTsWrap s
  | .obsStatus q tag => Sys2Proof.Machine.execObsStatus q tag s
  | .obsSlotRead q tag => Sys2Proof.Machine.execObsSlotRead q tag s
  | .obsChainRead q tag => Sys2Proof.Machine.execObsChainRead q tag s
  | .obsUpdate q tag => Sys2Proof.Machine.execObsUpdate q tag s
  | .enrolAckTimeout node => Sys2Proof.Machine.execEnrolAckTimeout node s
  | .obsAttest q tag => Sys2Proof.Machine.execObsAttest q tag s
  | .obsDecommission q tag => Sys2Proof.Machine.execObsDecommission q tag s
  | .tamperDetected sources => Sys2Proof.Machine.execTamperDetected sources s
  | .remask => Sys2Proof.Machine.execRemask s
  | .serviceExpiry => Sys2Proof.Machine.execServiceExpiry s
  | .pairKeyAgreement offer shared enrolments => Sys2Proof.Machine.execPairKeyAgreement offer shared enrolments s
  | .grnConfigLoad q tag => Sys2Proof.Machine.execGrnConfigLoad q tag s
  | .grnConfigCommit q tag => Sys2Proof.Machine.execGrnConfigCommit q tag s
  | .commitPulseTimeout => Sys2Proof.Machine.execCommitPulseTimeout s
  | .grnRead q tag => Sys2Proof.Machine.execGrnRead q tag s
  | .grnResetArm q tag => Sys2Proof.Machine.execGrnResetArm q tag s
  | .resetArmExpiry => Sys2Proof.Machine.execResetArmExpiry s
  | .grnTrip q tag => Sys2Proof.Machine.execGrnTrip q tag s
  | .grnConnRead q tag => Sys2Proof.Machine.execGrnConnRead q tag s
  | .graniteCycle samples refCount headers => Sys2Proof.Machine.execGraniteCycle samples refCount headers s
  | .safetyTelegram source telegram => Sys2Proof.Machine.execSafetyTelegram source telegram s
  | .connectionWatchdogExpiry conn => Sys2Proof.Machine.execConnectionWatchdogExpiry conn s
  | .connectionStartTimeout conn => Sys2Proof.Machine.execConnectionStartTimeout conn s
  | .stateTelegramDue conn => Sys2Proof.Machine.execStateTelegramDue conn s
  | .lockSetReceived payload => Sys2Proof.Machine.execLockSetReceived payload s
  | .inputDiscrepancy input => Sys2Proof.Machine.execInputDiscrepancy input s
  | .sresetPulse highUs lowUs => Sys2Proof.Machine.execSresetPulse highUs lowUs s
  | .sresetTooLong => Sys2Proof.Machine.execSresetTooLong s
  | .testPulse output highMv lowMv => Sys2Proof.Machine.execTestPulse output highMv lowMv s
  | .feedbackTimeout output => Sys2Proof.Machine.execFeedbackTimeout output s
  | .outputCurrentLimit output => Sys2Proof.Machine.execOutputCurrentLimit output s
  | .moduleSafeState configurationCheck => Sys2Proof.Machine.execModuleSafeState configurationCheck s
  | .graniteHalt => Sys2Proof.Machine.execGraniteHalt s
  | .fltRead q tag => Sys2Proof.Machine.execFltRead q tag s
  | .fltReactSet q tag => Sys2Proof.Machine.execFltReactSet q tag s
  | .fltClear q tag => Sys2Proof.Machine.execFltClear q tag s
  | .fltTest q tag => Sys2Proof.Machine.execFltTest q tag s
  | .faultReport source object => Sys2Proof.Machine.execFaultReport source object s
  | .queueStall q => Sys2Proof.Machine.execQueueStall q s
  | .collectorSelfCheck live shadow => Sys2Proof.Machine.execCollectorSelfCheck live shadow s
  | .pairStatus q tag => Sys2Proof.Machine.execPairStatus q tag s
  | .pairSwitchover q tag => Sys2Proof.Machine.execPairSwitchover q tag s
  | .pairStatusMessage status => Sys2Proof.Machine.execPairStatusMessage status s
  | .pairLinkLost lock => Sys2Proof.Machine.execPairLinkLost lock s
  | .pairLinkLock status => Sys2Proof.Machine.execPairLinkLock status s
  | .mismatchRecheck => Sys2Proof.Machine.execMismatchRecheck s
  | .imageSend => Sys2Proof.Machine.execImageSend s
  | .imageReceived image => Sys2Proof.Machine.execImageReceived image s
  | .imageAck siteCycle => Sys2Proof.Machine.execImageAck siteCycle s
  | .imageAckTimeout => Sys2Proof.Machine.execImageAckTimeout s
  | .releaseMessage epoch siteCycle => Sys2Proof.Machine.execReleaseMessage epoch siteCycle s
  | .giveUp row => Sys2Proof.Machine.execGiveUp row s
  | .startWaitExpiry => Sys2Proof.Machine.execStartWaitExpiry s
  | .heal => Sys2Proof.Machine.execHeal s
  | .lockstepInputs inputs => Sys2Proof.Machine.execLockstepInputs inputs s
  | .switchDue => Sys2Proof.Machine.execSwitchDue s
  | .sysReset q tag => Sys2Proof.Machine.execSysReset q tag s
  | .sysFwLoad q tag => Sys2Proof.Machine.execSysFwLoad q tag s
  | .sysFwActivate q tag => Sys2Proof.Machine.execSysFwActivate q tag s
  | .sysFwCommit q tag => Sys2Proof.Machine.execSysFwCommit q tag s
  | .sysFwStatus q tag => Sys2Proof.Machine.execSysFwStatus q tag s
  | .powerGood mv => Sys2Proof.Machine.execPowerGood mv s
  | .powerFailWarning mv => Sys2Proof.Machine.execPowerFailWarning mv s
  | .holdupEnd domain => Sys2Proof.Machine.execHoldupEnd domain s
  | .hrstN lowUs => Sys2Proof.Machine.execHrstN lowUs s
  | .coldResetEffect => Sys2Proof.Machine.execColdResetEffect s
  | .watchdogExpiry => Sys2Proof.Machine.execWatchdogExpiry s
  | .pllUnlock pll => Sys2Proof.Machine.execPllUnlock pll s
  | .metPllRelock elapsedMs => Sys2Proof.Machine.execMetPllRelock elapsedMs s
  | .startupPhaseDone phase => Sys2Proof.Machine.execStartupPhaseDone phase s
  | .bilClockLoRead => Sys2Proof.Machine.execBilClockLoRead s
  | .islandLeaveTimeout q tag => Sys2Proof.Machine.execIslandLeaveTimeout q tag s
  | .bulkLeaveTimeout q tag => Sys2Proof.Machine.execBulkLeaveTimeout q tag s
  | .shuntSample input nanovolts => Sys2Proof.Machine.execShuntSample input nanovolts s
  | .enrolAck node startMa => Sys2Proof.Machine.execEnrolAck node startMa s
  | .obsBkbatLow mv => Sys2Proof.Machine.execObsBkbatLow mv s
  | .switchoverTimeout => Sys2Proof.Machine.execSwitchoverTimeout s
  | .fwActivatePulseTimeout => Sys2Proof.Machine.execFwActivatePulseTimeout s
  | .protocolTimeout context => Sys2Proof.Machine.execProtocolTimeout context s
  | .partnerRequest desc => Sys2Proof.Machine.execPartnerRequest desc s
  | .partnerReply q tag status => Sys2Proof.Machine.execPartnerReply q tag status s
  | .partnerReplyTimeout q tag => Sys2Proof.Machine.execPartnerReplyTimeout q tag s
  | .ppsSecond rising => Sys2Proof.Machine.execPpsSecond rising s

end Sys2Proof.Machine
end

