-- ==== Sys2Proof/Safety.lean ====
section
/-!
DEFINITION. The words that statements use: when a mailbox row starts its command, when a command completes, and the invariants that
every step keeps.
-/
namespace Sys2Proof.Machine

/-- The row of a mailbox command starts command `c`: it waits under this queue pair and tag, the commands before it let it start (R58, R61), and no
failed command links to it. -/
abbrev Starts (op q tag : Nat) (s : State) (c : InFlight) : Prop :=
  s.named op q tag = some c ∧ s.mayStart c = true ∧ c.linkFailed = false

/-- A command completes from a state: it answers a next state, neither a fault nor a refusal. -/
def Completes (i : Instr) (s : State) : Prop := ∃ t, exec i s = .next t

/-- What manufacture fixes (R2, R6): part number, hardware issue, temperature grade and metrology option. -/
def State.options (s : State) : BitVec 16 × BitVec 8 × BitVec 4 × BitVec 4 := (s.sys.partNum, s.sys.hwIssue, s.sys.tempGrade, s.sys.metOption)

/-- The identification of a module as issued (R6): part 9100, an issue from 1 upward, grade S or X, option M0 or M1. -/
def State.issued (s : State) : Prop :=
  s.sys.partNum = 0x9100 ∧ s.sys.hwIssue ≠ 0 ∧ (s.sys.tempGrade = 1 ∨ s.sys.tempGrade = 2) ∧ (s.sys.metOption = 0 ∨ s.sys.metOption = 1)

/-- Every trace buffer that records or waits has a pace instance that drives its channel (R204, R206). -/
abbrev State.Paced (s : State) : Prop := ∀ e ∈ s.tune.traces, 1 ≤ e.2.state → e.2.state ≤ 3 → drives (s.inst (tracePace e.2.cfg)) = true

/-- Consecutive evaluations of a law on inputs (reference, measurement, feed-forward), without injections, repetitive controller or tracking start:
the causes of each (R175, R176). -/
def lawRun (c : Law) : Int → Int → Int → List (Int × Int × Int) → List (BitVec 5)
  | _, _, _, [] => []
  | iAcc, dq, xPrev, (r, y, f) :: l =>
    let o := evalLaw c iAcc dq xPrev false none r y f 0 0 0 0
    o.causes :: lawRun c o.iAcc o.dq o.x l

end Sys2Proof.Machine
end

