-- ==== Sys2Proof/Certificates/Slice0/Obligations.lean ====
section
/-!
DEFINITION. The statements for the provers, chapter by chapter of the spec.
-/
open Sys2Proof Sys2Proof.Machine

/-! ### Host mailboxes (chapter 02) -/

/-- R58, R61, R56, R60: the row of a mailbox command that waits, may start, and stands behind no failed LINK starts it; a row that names no such command changes nothing (log entry 6), and one behind a failed LINK ends with ST_ABORTED and no other effect. A completion changes the commands in flight and nothing else. The command takes its status, result and data; every other command in flight, and one that has already ended, stays as it is. Model's own readings it rests on: log entries 6, 63. -/
def Obligations.CommandCompletion : Prop :=
  ((∀ (op q tag : Nat) (s : State) (c : InFlight) (f : InFlight → State → State), Starts op q tag s c →
    startCommand op q tag s f = .next (f c (s.start c.uid))) ∧
  (∀ (op q tag : Nat) (s : State) (c : InFlight) (f : InFlight → State → State), s.named op q tag = some c → s.mayStart c = true →
    c.linkFailed = true → startCommand op q tag s f = .next (s.fail c.uid ST_ABORTED)) ∧
  (∀ (op q tag : Nat) (s : State) (f : InFlight → State → State), s.named op q tag = none → startCommand op q tag s f = .next s)) ∧
  (∀ (s : State) (uid st : Nat) (result data : List Byte) (n image : Nat),
    s.endCmd uid st result data n image = { s with mbx := { s.mbx with inflight := (s.endCmd uid st result data n image).mbx.inflight } } ∧
    (s.endCmd uid st result data n image).mbx.inflight.length = s.mbx.inflight.length ∧
    (∀ c ∈ s.mbx.inflight, c.uid ≠ uid ∨ c.phase = .done → c ∈ (s.endCmd uid st result data n image).mbx.inflight) ∧
    (∀ c ∈ s.mbx.inflight, c.uid = uid → c.phase ≠ .done →
      { c with phase := .done, status := st, result := padTo 16 result, data := data, dataDone := n, image := image } ∈
        (s.endCmd uid st result data n image).mbx.inflight))

/-- R66, R67, R68, R69, R70: MBX_HOST_SET writes the table that keeps the rules and renews the entry's event mask and queue; the host of a changed entry that is connected is to be lost once this completion is posted; a table that breaks a rule, or a field out of range, changes nothing but the command's status. MBX_EVENT_WAIT sets the host's mask and takes what is queued; a mask with other bits ends with ST_BAD_PARAM and a fifth wait with ST_BUSY. MBX_ABORT gives OUTCOME 2 where the tag names no other command, 0 where the command had not started or is a wait, whose completion is posted first, and 1 where it had started; a queue pair of another host ends with ST_DENIED. Model's own readings it rests on: log entries 6, 108. -/
def Obligations.MailboxCommands : Prop :=
  (∀ (s : State) (q tag : Nat) (c : InFlight), Starts 0x0120 q tag s c →
    (∀ (t : Tab HostEntry), hostTableAfter c.desc s.mbx.hosts = some t → hostTableOk t = true →
      (s.mbx.hosts.get? (c.desc.u 32 1) = t.get? (c.desc.u 32 1) ∨ (s.hostLive (c.desc.u 32 1)).connected = false →
        exec (.mbxHostSet q tag) s = .next (({ s.start c.uid with mbx := { (s.start c.uid).mbx with hosts := t } }.updLive (c.desc.u 32 1) fun l =>
          { l with events := [], eventMask := 0x000FFFFE, evtLost := false }).ok c [])) ∧
      (s.mbx.hosts.get? (c.desc.u 32 1) ≠ t.get? (c.desc.u 32 1) → (s.hostLive (c.desc.u 32 1)).connected = true →
        exec (.mbxHostSet q tag) s = .next (({ s.start c.uid with mbx := { (s.start c.uid).mbx with hosts := t } }.updLive (c.desc.u 32 1) fun l =>
          { l with events := [], eventMask := 0x000FFFFE, evtLost := false,
                   loseAfter := l.loseAfter ++ [(c.uid, (s.host (c.desc.u 32 1)).queueMask)] }).ok c []))) ∧
    (∀ (t : Tab HostEntry), hostTableAfter c.desc s.mbx.hosts = some t → hostTableOk t = false →
      exec (.mbxHostSet q tag) s = .next ((s.start c.uid).fail c.uid ST_BAD_PARAM)) ∧
    (hostTableAfter c.desc s.mbx.hosts = none → exec (.mbxHostSet q tag) s = .next ((s.start c.uid).fail c.uid ST_BAD_PARAM))) ∧
  (∀ (s : State) (q tag : Nat) (c : InFlight), Starts 0x0121 q tag s c →
    (waitMask c &&& ~~~(0x000FFFFE#32) = 0 → ((s.start c.uid).mbx.inflight.filter (isWaitOf c.entry)).length ≤ 4 →
      exec (.mbxEventWait q tag) s = .next (((s.start c.uid).updLive c.entry fun l => { l with eventMask := waitMask c }).deliver c.entry)) ∧
    (waitMask c &&& ~~~(0x000FFFFE#32) = 0 → 4 < ((s.start c.uid).mbx.inflight.filter (isWaitOf c.entry)).length →
      exec (.mbxEventWait q tag) s = .next ((s.start c.uid).fail c.uid ST_BUSY)) ∧
    (waitMask c &&& ~~~(0x000FFFFE#32) ≠ 0 → exec (.mbxEventWait q tag) s = .next ((s.start c.uid).fail c.uid ST_BAD_PARAM))) ∧
  (∀ (s : State) (q tag : Nat) (c : InFlight), Starts 0x0122 q tag s c →
    ((s.host c.entry).queueMask.getLsbD (c.desc.u 32 1) = false → exec (.mbxAbort q tag) s = .next ((s.start c.uid).fail c.uid ST_DENIED)) ∧
    ((s.host c.entry).queueMask.getLsbD (c.desc.u 32 1) = true →
      ((s.start c.uid).abortTarget c = none → exec (.mbxAbort q tag) s = .next ((s.start c.uid).answer c (pack [(1, 2)]) [])) ∧
      (∀ d, (s.start c.uid).abortTarget c = some d →
        (abortable d = true → exec (.mbxAbort q tag) s =
          .next (((s.start c.uid).post { d with phase := .done, status := ST_ABORTED, result := padTo 16 [] }).answer c (pack [(1, 0)]) [])) ∧
        (abortable d = false → exec (.mbxAbort q tag) s = .next (((s.start c.uid).canAbort d).answer c (pack [(1, 1)]) [])))))

/-- R69, R68: after a delivery, no event that still waits in an entry's queue is selected by one of its waits in flight. Raising an event changes the commands in flight, what is queued for the host-table entries, and nothing else. -/
def Obligations.EventDelivery : Prop :=
  (∀ (s : State) (e : Nat), ∀ w ∈ (s.deliver e).mbx.inflight, isWaitOf e w = true →
    ∀ v ∈ ((s.deliver e).hostLive e).events, selects (waitMask w) v.area = false) ∧
  (∀ (s : State) (area code object : Nat), ∃ fl lv, s.raise area code object = { s with mbx := { s.mbx with inflight := fl, live := lv } })

/-- R54, R71: a tail within the free slots, a head within the posted completions, ENABLE and its clearing, and the end of the drain. Model's own readings it rests on: log entry 64. -/
def Obligations.QueueRegisters : Prop :=
  (∀ (s : State) (q tail : Nat), s.isPcieQ q = true → (s.qp q).ready = true → tail < s.depthOf q →
    ((s.qp q).sqTail + s.depthOf q - (s.qp q).sqHead) % s.depthOf q + (tail + s.depthOf q - (s.qp q).sqTail) % s.depthOf q ≤ s.depthOf q - 1 →
    exec (.mbxSqTailDb q tail) s = .next (s.updQp q fun p => { p with sqTail := tail })) ∧
  (∀ (s : State) (q head n : Nat), s.isPcieQ q = true → (s.qp q).ready = true → head < s.depthOf q →
    (head + s.depthOf q - ((s.qp q).cqTail + s.depthOf q - (s.qp q).unconsumed % max 1 (s.depthOf q)) % max 1 (s.depthOf q)) % s.depthOf q = n →
    n ≤ (s.qp q).unconsumed →
    exec (.mbxCqHeadDb q head) s = .next ((s.updQp q fun p => { p with unconsumed := p.unconsumed - n }).noteFull q)) ∧
  (∀ (s : State) (q tail : Nat), s.isPcieQ q = true → (s.qp q).ready = false →
    exec (.mbxSqTailDb q tail) s = .next (s.updQp q fun p => { p with dbErr := true }) ∧
    exec (.mbxCqHeadDb q tail) s = .next (s.updQp q fun p => { p with dbErr := true })) ∧
  (∀ (s : State) (q e : Nat), s.ownerOf q = some e → (s.host e).transport = 1 → s.mbx.pcieUp = true → (s.qp q).ready = false →
    exec (.queueEnable q) s = .next ((s.updLive e fun l => { l with connected := true, port := 1 }).updQp q QPair.started)) ∧
  (∀ (s : State) (q : Nat), s.isPcieQ q = true → exec (.queueDisable q) s = .next (s.updQp q fun p => { p with enable := false })) ∧
  (∀ (s : State) (q : Nat), s.isPcieQ q = true → (s.qp q).enable = false → (s.qp q).ready = true → s.inflightOf q = 0 →
    exec (.queueDrained q) s = .next (s.updQp q QPair.emptied)) ∧
  (∀ (s : State) (q : Nat) (p : QPair), (s.updQp q fun _ => p) = { s with mbx := { s.mbx with qp := s.mbx.qp.set q p } })

/-- R10, R71, R18: a register write of the PCIe host. It sets the ring bases of a PCIe queue pair that is not READY, IRQ_EN of any PCIe pair, and clears DB_ERR, IMPORT_EXCESS and a CAN overrun where the bit is written 1; a ring base while READY, any write to a queue pair of another transport but DB_ERR, the window from 0x80000 on, and an access while the function is down change nothing. Reads of the unallocated window from 0xB0000 on return 0. Model's own readings it rests on: log entries 6, 100. -/
def Obligations.RegisterAccess : Prop :=
  (∀ (s : State) (q : Nat) (v : BitVec 32), s.mbx.pcieUp = true → q < 16 → s.isPcieQ q = true → (s.qp q).ready = false →
    exec (.registerWrite (0x1100 + 0x40 * q) v) s = .next (s.updQp q fun p => { p with sqBase := setBase p.sqBase false v }) ∧
    exec (.registerWrite (0x1104 + 0x40 * q) v) s = .next (s.updQp q fun p => { p with sqBase := setBase p.sqBase true v }) ∧
    exec (.registerWrite (0x1108 + 0x40 * q) v) s = .next (s.updQp q fun p => { p with cqBase := setBase p.cqBase false v }) ∧
    exec (.registerWrite (0x110C + 0x40 * q) v) s = .next (s.updQp q fun p => { p with cqBase := setBase p.cqBase true v })) ∧
  (∀ (s : State) (q : Nat) (v : BitVec 32), q < 16 → s.isPcieQ q = false ∨ (s.qp q).ready = true →
    exec (.registerWrite (0x1100 + 0x40 * q) v) s = .next s ∧ exec (.registerWrite (0x1104 + 0x40 * q) v) s = .next s ∧
    exec (.registerWrite (0x1108 + 0x40 * q) v) s = .next s ∧ exec (.registerWrite (0x110C + 0x40 * q) v) s = .next s) ∧
  (∀ (s : State) (q : Nat) (v : BitVec 32), s.mbx.pcieUp = true → q < 16 → s.isPcieQ q = true → v.getLsbD 0 = (s.qp q).enable →
    exec (.registerWrite (0x1110 + 0x40 * q) v) s = .next (s.updQp q fun p => { p with irqEn := v.getLsbD 1 })) ∧
  (∀ (s : State) (q : Nat) (v : BitVec 32), q < 16 → s.isPcieQ q = false → exec (.registerWrite (0x1110 + 0x40 * q) v) s = .next s) ∧
  (∀ (s : State) (q : Nat) (v : BitVec 32), s.mbx.pcieUp = true → q < 16 → v.getLsbD 25 = true →
    exec (.registerWrite (0x111C + 0x40 * q) v) s = .next (s.updQp q fun p => { p with dbErr := false })) ∧
  (∀ (s : State) (v : BitVec 32), s.mbx.pcieUp = true → v.getLsbD 4 = true →
    exec (.registerWrite 0x20000 v) s = .next { s with lv := { s.lv with importExcess := false } }) ∧
  (∀ (s : State) (n : Nat) (v : BitVec 32), s.mbx.pcieUp = true → n < 4 → v.getLsbD 7 = true →
    exec (.registerWrite (0x50000 + 0x100 * n) v) s = .next (s.updCan n fun x => { x with overrun := false })) ∧
  (∀ (s : State) (off : Nat) (v : BitVec 32), s.mbx.pcieUp = false ∨ 0x80000 ≤ off → exec (.registerWrite off v) s = .next s) ∧
  (∀ (s : State) (off : Nat), 0xB0000 ≤ off → s.readReg off = 0)

/-- R39 to R44: sessions of Ethernet hosts. On a port that takes handshakes, one whose offer holds a supported suite, group and signature and whose certificate an entry admits opens the entry's session, and any other changes nothing. SUBMIT appends what the SQ has room for and rejects the rest, each in a completion with ST_QUEUE_FULL; CQ_ACK frees slots; a CQ_ACK above the unconsumed completions, a bad message, an early close and silence are host loss, with the session closed by the module in all but the early close. KEEPALIVE and KeyUpdate go out when they are due. Host loss ends the session: the entry is unconnected, each of its queue pairs is in the empty state, no command of its that had not started is in flight, and the completions of those that had are discarded. Model's own readings it rests on: log entries 7, 60, 102, 103, 104, 115. -/
def Obligations.EthernetHosts : Prop :=
  ((∀ (s : State) (port e : Nat) (hash : List Byte) (o : TlsOffer) (a : TlsSuite) (b : TlsGroup) (g : TlsSig), s.listens port = true → o.tcpPort = s.pn PAR_HOST_TLS_PORT →
    o.chosen = some (a, b, g) → s.admits port hash = some e → exec (.tlsHandshake port hash o) s = .next ((s.openSession port e a).emit (.tlsAccept e a b g))) ∧
  (∀ (s : State) (port : Nat) (hash : List Byte) (o : TlsOffer), s.listens port = false ∨ o.tcpPort ≠ s.pn PAR_HOST_TLS_PORT ∨ o.chosen = none ∨ s.admits port hash = none →
    exec (.tlsHandshake port hash o) s = .next s) ∧
  (∀ (s : State) (port e : Nat) (a : TlsSuite), ((s.openSession port e a).hostLive e).connected = true ∧ ((s.openSession port e a).hostLive e).port = port ∧
    ((s.openSession port e a).hostLive e).suite = some a ∧ ((s.openSession port e a).hostLive e).records = 0) ∧
  (∀ (o : TlsOffer) (a : TlsSuite) (b : TlsGroup) (g : TlsSig), o.chosen = some (a, b, g) → o.tls13 = true ∧ o.certificate = true ∧ a ∈ o.suites ∧ a ∈ hostSuites ∧
    b ∈ o.groups ∧ b ∈ hostGroups ∧ g ∈ o.sigs ∧ g ∈ hostSigs) ∧
  (∀ (s : State) (e q k : Nat) (l : List Desc), s.ethHost e = true → s.ownerOf q = some e → (s.heard e).depthOf q - ((s.heard e).qp q).sq.length = k →
    exec (.submit e q l) s = .next (((s.heard e).updQp q fun p => { p with sq := p.sq ++ l.take k }).reject e q (l.drop k))) ∧
  (∀ (s : State) (e q : Nat), s.reject e q [] = s) ∧
  (∀ (s : State) (e q : Nat) (d : Desc) (l : List Desc), ∃ x : List (List Byte), (s.reject e q (d :: l)).out = Emit.reject e q x :: s.out ∧ x.length = l.length + 1 ∧
    (∀ b ∈ x, byteAt b 3 = ST_QUEUE_FULL) ∧ ((s.reject e q (d :: l)).hostLive e).lastTx = s.now ∧ (s.reject e q (d :: l)).mbx.qp = s.mbx.qp) ∧
  (∀ (s : State) (e q n : Nat), s.ethHost e = true → s.ownerOf q = some e → n ≤ (s.qp q).unconsumed →
    exec (.cqAck e q n) s = .next (((s.heard e).updQp q fun p => { p with unconsumed := p.unconsumed - n }).noteFull q)) ∧
  (∀ (s : State) (e q n : Nat), s.ethHost e = true → s.ownerOf q = some e → (s.qp q).unconsumed < n →
    exec (.cqAck e q n) s = .next ((s.loseHost e).emit (.closeSession e))) ∧
  (∀ (s : State) (e : Nat), s.ethHost e = true → exec (.keepalive e) s = .next (s.updLive e fun l => { l with lastRx := s.now })) ∧
  (∀ (s : State) (e : Nat), s.ethHost e = true → exec (.badHostMessage e) s = .next ((s.loseHost e).emit (.closeSession e))) ∧
  (∀ (s : State) (e : Nat), s.ethHost e = true → exec (.tlsSessionClosed e) s = .next (s.loseHost e)) ∧
  (∀ (s : State) (e : Nat), s.ethHost e = true → (s.hostLive e).lastRx + s.pms PAR_HOST_KEEPALIVE_MS ≤ s.now →
    exec (.hostKeepaliveTimeout e) s = .next ((s.loseHost e).emit (.closeSession e))) ∧
  (∀ (s : State) (e : Nat), s.ethHost e = true → (s.hostLive e).lastTx + s.pms PAR_HOST_KEEPALIVE_MS / 2 ≤ s.now →
    exec (.keepaliveSendDue e) s = .next ((s.emit (.keepalive e)).updLive e fun l => { l with lastTx := s.now, records := l.records + 1 })) ∧
  (∀ (s : State) (e : Nat), s.ethHost e = true → 16777216 ≤ (s.hostLive e).records ∨ (s.hostLive e).keyAt + hour ≤ s.now →
    exec (.tlsKeyUpdateDue e) s = .next ((s.emit (.keyUpdate e)).updLive e fun l => { l with records := 0, keyAt := s.now }))) ∧
  (∀ (s : State) (e : Nat), ((s.loseHost e).hostLive e).connected = false ∧
    (∀ q, q < 16 → (s.host e).queueMask.getLsbD q = true → (s.loseHost e).qp q = (s.qp q).emptied) ∧
    ∀ c ∈ (s.loseHost e).mbx.inflight, c.entry = e → c.phase ≠ .waiting ∧ c.discard = true)

/-- R37, R38, R45, R46, R49, R62, R596: the PCIe function, the fetch of a descriptor, the posting of a completion, MSI-X and system time. A vector fires at the end of its delay where IRQ_EN still stands. Only the selected master is followed, over the module's domain and transport: a Sync whose path delay is known corrects system time by what its ingress time exceeds origin time and path delay, and a Delay_Req goes out; a Delay_Resp gives the path delay as half the sum of both directions. Model's own readings it rests on: log entries 8, 9, 60, 110, 116. -/
def Obligations.PcieAndTime : Prop :=
  (∀ (s : State) (e : Nat), s.pcieEntry = some e → (s.hostLive e).connected = true →
    exec .pcieLinkDown s = .next { s.loseHost e with mbx := { (s.loseHost e).mbx with pcieUp := false } } ∧
    exec .pcieFunctionReset s = .next (s.loseHost e)) ∧
  (∀ (s : State) (e : Nat), s.pcieEntry = some e → exec (.perstN true) s =
    .next ({ s with mbx := { s.mbx with pcieUp := true }, pins := { s.pins with perstN := true } }.updLive e fun l => { l with connected := true, port := 1 })) ∧
  (∀ (s : State) (e : Nat), s.pcieEntry = some e → (s.hostLive e).connected = false → exec (.perstN false) s =
    .next { s with mbx := { s.mbx with pcieUp := false }, pins := { s.pins with perstN := false } }) ∧
  (∀ (s : State) (q cls e : Nat) (dma : Desc), s.nextTurn = some (q, cls) → s.ownerOf q = some e →
    ∃ (t : State) (c : InFlight), exec (.descriptorFetch dma) s = .next t ∧ t.mbx.inflight = s.mbx.inflight ++ [c] ∧ c.q = q ∧ c.entry = e ∧ c.desc = s.takenDesc q e dma ∧
      (c.phase = .waiting ↔ s.acceptStatus q e c.desc = none) ∧ (∀ st, s.acceptStatus q e c.desc = some st → c.phase = .done ∧ c.status = st) ∧ t = { s with mbx := t.mbx }) ∧
  (∀ (s : State) (dma : Desc), s.nextTurn = none → exec (.descriptorFetch dma) s = .next s) ∧
  (∀ (s : State) (q tag : Nat) (c : InFlight), (s.mbx.inflight.find? fun c => c.q == q && c.desc.tag == tag && s.mayPost c) = some c →
    exec (.completionPost q tag) s = .next (s.post c)) ∧
  (∀ (s : State) (q t : Nat), (s.qp q).irqSince = some t → t + s.pn PAR_HOST_IRQ_COALESCE_US * us ≤ s.now →
    ((s.qp q).irqEn = true → exec (.irqCoalesceExpiry q) s = .next ((s.updQp q fun p => { p with irqSince := none }).emit (.msix q))) ∧
    ((s.qp q).irqEn = false → exec (.irqCoalesceExpiry q) s = .next (s.updQp q fun p => { p with irqSince := none }))) ∧
  (∀ (s : State) (port c p n : Nat) (t1 d : Int), port = 2 ∨ port = 3 → s.mbx.master = some (c, p, port) → s.pv PAR_PTP_DOMAIN = 0 → s.pv PAR_PTP_TRANSPORT = 0 →
    s.mbx.pathDelay = some d → ∃ t : State, exec (.ptpMessage port (.sync c p n false t1 0 0)) s = .next t ∧
      t.mbx.sysOffset = s.mbx.sysOffset - (s.stamp - t1 - d) ∧ t.mbx.holdover = false ∧ t.mbx.timeLocked = true ∧ t.out = Emit.delayReq port s.mbx.ptpSeq :: s.out ∧ t.now = s.now) ∧
  (∀ (s : State) (port c p n : Nat) (t1 : Int), port = 2 ∨ port = 3 → s.mbx.master = some (c, p, port) → s.pv PAR_PTP_DOMAIN = 0 → s.pv PAR_PTP_TRANSPORT = 0 →
    exec (.ptpMessage port (.sync c p n true t1 0 0)) s = .next { s with mbx := { s.mbx with ptpSync := some (n, s.stamp) } }) ∧
  (∀ (s : State) (port c p n : Nat) (t1 t2 : Int), port = 2 ∨ port = 3 → s.mbx.master = some (c, p, port) → s.pv PAR_PTP_DOMAIN = 0 → s.pv PAR_PTP_TRANSPORT = 0 →
    s.mbx.ptpSync = some (n, t2) → exec (.ptpMessage port (.followUp c p n t1 0 0)) s = .next (s.ptpSynced port (t2 - t1))) ∧
  (∀ (s : State) (port c p n : Nat) (t3 t4 d : Int), port = 2 ∨ port = 3 → s.mbx.master = some (c, p, port) → s.pv PAR_PTP_DOMAIN = 0 → s.pv PAR_PTP_TRANSPORT = 0 →
    s.mbx.ptpReq = some (n, d, t3) → ∃ t : State, exec (.ptpMessage port (.delayResp c p n t4 0 0)) s = .next t ∧ t.mbx.pathDelay = some ((d + (t4 - t3)) / 2) ∧
      t.mbx.ptpReq = none ∧ (s.mbx.pathDelay.isSome = true → t.mbx.sysOffset = s.mbx.sysOffset)) ∧
  (∀ (s : State) (port : Nat) (m : PtpMsg), port ≠ 2 → port ≠ 3 → exec (.ptpMessage port m) s = .next s) ∧
  (∀ (s : State), exec .ptpMasterLost s =
    .next (({ s with mbx := { s.mbx with masters := [], master := none, ptpSync := none, ptpReq := none, pathDelay := none, holdover := true } }).report SRC_PTP_HOLDOVER 0))

/-! ### Parameters and user images (chapter 03) -/

/-- R72, R87, R88: PAR_GET and PAR_DESCRIBE return a record for each ID in turn and change nothing else; an undefined ID has SOURCE 0 and VALUE 0, the
factory layer holds every defined entry, and the live layer is shown where it holds one. Model's own readings it rests on: log entry 5. -/
def Obligations.ParameterReads : Prop :=
  (∀ (s : State) (q tag : Nat) (c : InFlight), Starts 0x0200 q tag s c → 1 ≤ c.desc.u 34 2 → c.desc.u 34 2 ≤ 4096 → c.desc.u 36 1 ≤ 3 →
    16 * c.desc.u 34 2 ≤ c.desc.dataLen → c.desc.u 32 2 + c.desc.u 34 2 ≤ 0x1800 →
    exec (.parGet q tag) s = .next ((s.start c.uid).answer c []
      ((List.range (c.desc.u 34 2)).flatMap fun j => s.parRecord (c.desc.u 36 1) (c.desc.u 32 2 + j)))) ∧
  (∀ (s : State) (q tag : Nat) (c : InFlight), Starts 0x0202 q tag s c → 1 ≤ c.desc.u 34 2 → c.desc.u 34 2 ≤ 1024 →
    64 * c.desc.u 34 2 ≤ c.desc.dataLen → c.desc.u 32 2 + c.desc.u 34 2 ≤ 0x1800 →
    exec (.parDescribe q tag) s = .next ((s.start c.uid).answer c [] ((List.range (c.desc.u 34 2)).flatMap fun j => parDescriptor (c.desc.u 32 2 + j)))) ∧
  (∀ (s : State) (layer id : Nat), parEntry id = none → s.parLayer layer id = (0, 0)) ∧
  (∀ (s : State) (id : Nat) (e : ParEntry), parEntry id = some e → s.parLayer 3 id = (4, e.dflt)) ∧
  (∀ (s : State) (id : Nat) (e : ParEntry) (v : Int), parEntry id = some e → s.par.live.get? id = some v → s.parLayer 1 id = (1, v) ∧
    (e.isIsland = false → e.apply ≠ 1 → s.parLayer 0 id = (1, v)))

/-- R76, R77, R89, R90: PAR_SET of a RUN or BOOT entry that passes the checks sets or clears its live value, takes the entry out of what a running store is to clear, and changes nothing else of the module but the command's end, with APPLIED 1 for a BOOT entry; an undefined entry, one that no command may set, a wrong role, an entry that a standby may not set, a value out of range and a STOPPED entry whose unit runs change nothing but the command's status; an island entry waits for its island's HOLDUP work leave, at most 2 s. Model's own readings it rests on: log entries 5, 74. -/
def Obligations.ParameterSet : Prop :=
  ∀ (s : State) (q tag : Nat) (c : InFlight), Starts 0x0201 q tag s c →
    (parEntry (c.desc.u 32 2) = none → exec (.parSet q tag) s = .next ((s.start c.uid).fail c.uid ST_BAD_PARAM)) ∧
    (∀ e, parEntry (c.desc.u 32 2) = some e → c.desc.u 34 1 ≤ 1 →
      ((e.readOnly || e.legal || e.safety) = true → exec (.parSet q tag) s = .next ((s.start c.uid).fail c.uid ST_DENIED)) ∧
      ((e.readOnly || e.legal || e.safety) = false → c.q ≠ PARTNER_Q → e.roles &&& (s.host c.entry).roles = 0 →
        exec (.parSet q tag) s = .next ((s.start c.uid).fail c.uid ST_DENIED)) ∧
      ((e.readOnly || e.legal || e.safety) = false → e.roles &&& (s.host c.entry).roles ≠ 0 → (s.isStandby = true → e.pairLocal = true) →
        (c.desc.u 34 1 = 0 → e.min ≤ containerVal e.type c.desc ∧ containerVal e.type c.desc ≤ e.max) → e.isIsland = false → e.apply ≠ 2 →
        exec (.parSet q tag) s = .next (({ (s.start c.uid) with par := { s.par with
          live := s.par.live.put e.id (if c.desc.u 34 1 = 0 then some (containerVal e.type c.desc) else none),
          op := s.par.op.map fun (o : NvOp) => o.touched e.id } }).ok c (pack [(1, if e.apply = 1 then 1 else 0)]))) ∧
      ((e.readOnly || e.legal || e.safety) = false → e.roles &&& (s.host c.entry).roles ≠ 0 → s.isStandby = true → e.pairLocal = false → e.isIsland = false →
        exec (.parSet q tag) s = .next ((s.start c.uid).fail c.uid ST_NOT_ACTIVE)) ∧
      ((e.readOnly || e.legal || e.safety) = false → e.roles &&& (s.host c.entry).roles ≠ 0 → s.isStandby = false → c.desc.u 34 1 = 0 →
        containerVal e.type c.desc < e.min ∨ e.max < containerVal e.type c.desc →
        exec (.parSet q tag) s = .next ((s.start c.uid).fail c.uid ST_BAD_PARAM)) ∧
      ((e.readOnly || e.legal || e.safety) = false → e.roles &&& (s.host c.entry).roles ≠ 0 → s.isStandby = false → c.desc.u 34 1 = 1 → e.isIsland = false → e.apply = 2 →
        s.unitRuns (c.desc.u 32 2) = true → exec (.parSet q tag) s = .next ((s.start c.uid).fail c.uid ST_BUSY)) ∧
      ((e.readOnly || e.legal || e.safety) = false → e.roles &&& (s.host c.entry).roles ≠ 0 → c.desc.u 34 1 = 0 → e.isIsland = true → e.apply ≠ 2 →
        e.min ≤ containerVal e.type c.desc → containerVal e.type c.desc ≤ e.max → s.islandRefuses (c.desc.u 32 2) = none →
        exec (.parSet q tag) s = .next (({ (s.start c.uid) with par := { s.par with
          islandWait := s.par.islandWait ++ [(c.uid, c.desc.u 32 2, containerVal e.type c.desc, s.now + 2 * sec)] } }).askHoldup true (.parIsland c.uid))))

/-- R90, R91, R94, R95, R96: NV_STORE, NV_SELECT and NV_COMMIT begin by asking HOLDUP work leave, which leaves the active slot and both slots as they are; while an NV operation runs each answers ST_BUSY; selecting the active slot, or committing a committed one or none, changes nothing, and selecting a slot that is not COMMITTED ends with ST_BAD_PARAM. NV_STATUS gives the active slot, the states of both slots and the active SEQ. -/
def Obligations.ImageCommands : Prop :=
  ∀ (s : State) (q tag : Nat) (c : InFlight),
    (Starts 0x0210 q tag s c → s.par.op = none → exec (.nvStore q tag) s = .next ((s.start c.uid).beginNv 1 c.uid s.storeTarget {})) ∧
    (Starts 0x0210 q tag s c → s.par.op.isSome = true → exec (.nvStore q tag) s = .next ((s.start c.uid).fail c.uid ST_BUSY)) ∧
    (Starts 0x0211 q tag s c → s.par.op = none → c.desc.u 32 1 ≤ 1 → s.par.active ≠ some (c.desc.u 32 1) →
      (s.slot (c.desc.u 32 1)).state = IMG_COMMITTED → exec (.nvSelect q tag) s = .next ((s.start c.uid).beginNv 2 c.uid (c.desc.u 32 1) {})) ∧
    (Starts 0x0211 q tag s c → s.par.op = none → c.desc.u 32 1 ≤ 1 → s.par.active = some (c.desc.u 32 1) →
      exec (.nvSelect q tag) s = .next ((s.start c.uid).okMirrored c [] 17 0)) ∧
    (∀ n, Starts 0x0212 q tag s c → s.par.op = none → s.par.active = some n → (s.slot n).state ≠ IMG_COMMITTED →
      exec (.nvCommit q tag) s = .next ((s.start c.uid).beginNv 3 c.uid n {})) ∧
    (Starts 0x0211 q tag s c → s.par.op.isSome = true → exec (.nvSelect q tag) s = .next ((s.start c.uid).fail c.uid ST_BUSY)) ∧
    (Starts 0x0211 q tag s c → s.par.op = none → s.par.active ≠ some (c.desc.u 32 1) → 1 < c.desc.u 32 1 ∨ (s.slot (c.desc.u 32 1)).state ≠ IMG_COMMITTED →
      exec (.nvSelect q tag) s = .next ((s.start c.uid).fail c.uid ST_BAD_PARAM)) ∧
    (Starts 0x0212 q tag s c → s.par.op.isSome = true → exec (.nvCommit q tag) s = .next ((s.start c.uid).fail c.uid ST_BUSY)) ∧
    (∀ n, Starts 0x0212 q tag s c → s.par.op = none → s.par.active = some n → (s.slot n).state = IMG_COMMITTED →
      exec (.nvCommit q tag) s = .next ((s.start c.uid).okMirrored c [] 17 0)) ∧
    (Starts 0x0212 q tag s c → s.par.op = none → s.par.active = none → exec (.nvCommit q tag) s = .next ((s.start c.uid).okMirrored c [] 17 0)) ∧
    (Starts 0x0213 q tag s c → ∃ r, exec (.nvStatus q tag) s = .next ((s.start c.uid).answer c r []) ∧
      r.length = 16 ∧ fld r 0 1 = (match s.par.active with | some n => n % 256 | none => 0xFF) ∧ fld r 1 1 = s.par.slotA.state % 256 ∧
      fld r 2 1 = s.par.slotB.state % 256 ∧ fld r 4 4 = (match s.par.active with | some n => (s.slot n).seq % 2 ^ 32 | none => 0)) ∧
    (∀ kind uid target img, (s.beginNv kind uid target img).par.active = s.par.active ∧ (s.beginNv kind uid target img).slot 0 = s.slot 0 ∧
      (s.beginNv kind uid target img).slot 1 = s.slot 1)

/-- R82, R83, R84, R85, R90, R94: a segment is written under its grant, the first taking the snapshot and erasing the target's header, which counts an erase; after the last the slot holds the image with its identification and CRCs, is TRIAL and active, and the live values of the snapshot that still stand are cleared; the slot that is not the target keeps its content and state; a read-back mismatch ends a begun store with ST_NV_FAIL and source 2; a wait past NV_LEAVE_WAIT_MS ends it with ST_NO_LEAVE. A store that fails once begun leaves its target EMPTY, one not begun changes no slot. A header that a store or NV_SELECT has written passes the check of R83, a slot that fails it is found EMPTY. The end of NV_SELECT's work, and of a start's programming: COMMITTED and active after a select, its records kept and SEQ one above the other slot's, with a trial slot that was active REJECTED; BOOTED from TRIAL and REJECTED from BOOTED at a start. Model's own readings it rests on: log entries 61, 112, 117. -/
def Obligations.StoreAndSlots : Prop :=
  ((∀ (s : State) (op : NvOp), s.par.op = some op → op.kind = 1 ∨ op.kind = 4 → s.hasGrant .nvOp = true → op.begun = false → op.target ≤ 1 →
    2 ≤ segmentsOf (s.takeImage op).records s.currentTables → ∃ (t : State) (o : NvOp), exec (.nvStoreSegment true) s = .next t ∧ t.par.op = some o ∧ o.begun = true ∧
      o.image = s.takeImage op ∧ o.took = s.par.live ∧ o.left + 1 = segmentsOf (s.takeImage op).records s.currentTables ∧ (t.slot op.target).state = IMG_EMPTY ∧
      (t.slot op.target).erases = (s.slot op.target).erases + 1 ∧ t.slot (1 - op.target) = s.slot (1 - op.target) ∧ t.par.active = s.par.active) ∧
  (∀ (s : State) (op : NvOp), s.par.op = some op → op.kind = 1 ∨ op.kind = 4 → s.hasGrant .nvOp = true → op.begun = true → 2 ≤ op.left →
    ∃ t : State, exec (.nvStoreSegment true) s = .next t ∧ t.par = { s.par with op := some { op with left := op.left - 1, askAt := s.now } } ∧
      t.awaits .nvOp = true ∧ t.hasGrant .nvOp = false ∧ t = { s with par := t.par, lv := t.lv }) ∧
  (∀ (s : State) (op : NvOp), s.par.op = some op → op.kind = 1 ∨ op.kind = 4 → s.hasGrant .nvOp = true → op.begun = true → op.left = 1 →
    ∃ t : State, exec (.nvStoreSegment true) s = .next t ∧ t.par.active = some op.target ∧ t.par.op = none ∧
      t.slot op.target = { op.image.sealed with erases := (s.slot op.target).erases } ∧ (op.image.state = IMG_TRIAL → (t.slot op.target).state = IMG_TRIAL) ∧
      (op.target ≤ 1 → t.slot (1 - op.target) = s.slot (1 - op.target)) ∧ (op.kind = 1 → t.par.live = s.par.live.keep fun id v => op.took.get? id != some v) ∧
      (op.kind = 4 → t.par.live = s.par.live.keep fun id _ => isPairLocal id)) ∧
  (∀ (s : State) (op : NvOp), (s.takeImage op).state = IMG_TRIAL ∧ (s.takeImage op).tables = s.currentTables) ∧
  (∀ (s : State) (op o : NvOp), s.par.op = some op → op.kind = 1 ∨ op.kind = 4 → s.hasGrant .nvOp = true → op.begun = true → o = { op with left := op.left - 1 } →
    exec (.nvStoreSegment false) s = .next (((({ s with par := { s.par with op := some o } }.endWork .nvOp).failNv o ST_NV_FAIL)).report SRC_NV_FAIL 0)) ∧
  (∀ (s : State) (op : NvOp), s.par.op = some op → s.awaits .nvOp = true → s.pms PAR_NV_LEAVE_WAIT_MS ≤ op.waited + (s.now - op.askAt) →
    exec .nvLeaveWaitExpiry s = .next (s.failNv op ST_NO_LEAVE)) ∧
  (∀ (s : State) (op : NvOp) (st : Nat), op.begun = false → (s.failNv op st).slot 0 = s.slot 0 ∧ (s.failNv op st).slot 1 = s.slot 1 ∧
    (s.failNv op st).par.active = s.par.active) ∧
  (∀ (s : State) (op : NvOp) (st : Nat), op.begun = true → op.target ≤ 1 → ((s.failNv op st).slot op.target).state = IMG_EMPTY ∧
    (s.failNv op st).slot (1 - op.target) = s.slot (1 - op.target)) ∧
  (∀ (s : State) (op : NvOp) (st : Nat), (s.failNv op st).par.op = none)) ∧
  ((∀ x : Slot, x.sealed.intact = true ∧ x.sealed.records = x.records ∧ x.sealed.tables = x.tables ∧ x.sealed.state = x.state) ∧
  (∀ (s : State) (n : Nat), (s.slot n).intact = true → (s.rewritten n).intact = true) ∧
  (∀ x : Slot, x.intact = false → x.found.state = IMG_EMPTY) ∧
  (∀ x : Slot, x.intact = true → x.found = x) ∧
  (∀ (s : State) (n : Nat) (was : Option Nat), n ≤ 1 → was ≠ some n → (∀ m, was = some m → m ≤ 1) →
    ((s.selectSlot n was).slot n).state = IMG_COMMITTED ∧ ((s.selectSlot n was).slot n).seq = (s.slot (1 - n)).seq + 1 ∧
    ((s.selectSlot n was).slot n).records = (s.slot n).records ∧ (s.selectSlot n was).par.active = some n ∧
    (∀ m, was = some m → (s.slot m).state = IMG_TRIAL ∨ (s.slot m).state = IMG_BOOTED → ((s.selectSlot n was).slot m).state = IMG_REJECTED)) ∧
  (∀ (s : State) (n : Nat), n ≤ 1 → (s.slot n).state = IMG_TRIAL → bootProgramDone n s = s.setSlot n { s.slot n with state := IMG_BOOTED }) ∧
  (∀ (s : State) (n : Nat), n ≤ 1 → (s.slot n).state = IMG_BOOTED → ((bootProgramDone n s).slot n).state = IMG_REJECTED ∧
    (bootProgramDone n s).par.active = if (s.slot (1 - n)).state = IMG_COMMITTED then some (1 - n) else none))

/-- R81, R97, R98: export builds the image at OFFSET 0 for the host that asks, where the identity key may sign, and returns its bytes from OFFSET to any host, the buffer staying with the one that opened it; import appends a segment, and the last one ends with the status of the first check that fails or begins the store of the image; both buffers end after 60 s, and the system log keeps its entries in DRAM until HOLDUP leave is granted. Model's own readings it rests on: log entries 10, 61, 114, 118. -/
def Obligations.SettingsImages : Prop :=
  ∀ (s : State) (q tag : Nat) (c : InFlight),
    (∀ e b t, Starts 0x0214 q tag s c → 0 < c.desc.u 32 4 → s.par.exportBuf = some (e, b, t) → c.desc.u 32 4 ≤ b.length →
      exec (.nvExport q tag) s = .next (({ (s.start c.uid) with par := { s.par with exportBuf := some (e, b, s.now) } }).answer c
        (pack [(4, b.length)]) ((b.drop (c.desc.u 32 4)).take c.desc.dataLen))) ∧
    (Starts 0x0214 q tag s c → c.desc.u 32 4 = 0 → s.par.exportBuf = none → s.slotAllows 0 0 M_APP = true → ∃ (t : State) (b : List Byte), exec (.nvExport q tag) s = .next t ∧
      t.par.exportBuf = some (c.entry, b, s.now) ∧ t = { s with mbx := t.mbx, par := t.par, fresh := t.fresh }) ∧
    (Starts 0x0214 q tag s c → c.desc.u 32 4 = 0 → s.par.exportBuf = none → s.slotAllows 0 0 M_APP = false →
      exec (.nvExport q tag) s = .next ((s.start c.uid).fail c.uid ST_DENIED)) ∧
    (∀ e b t, Starts 0x0214 q tag s c → c.desc.u 32 4 = 0 → s.par.exportBuf = some (e, b, t) → e ≠ c.entry →
      exec (.nvExport q tag) s = .next ((s.start c.uid).fail c.uid ST_BUSY)) ∧
    (∀ b u, Starts 0x0215 q tag s c → c.desc.u 32 4 = 0 → c.desc.u 36 1 = 1 → s.par.importBuf = none → c.desc.data = b → b.length ≤ 131072 → s.par.op = none →
      u = s.start c.uid → exec (.nvImport q tag) s = .next (match u.importStatus b with
        | some st => u.fail c.uid st
        | none => u.beginImport c.uid (importRecords b) (fld b 16 4) (fld b 44 2))) ∧
    (Starts 0x0215 q tag s c → c.desc.u 32 4 = 0 → c.desc.u 36 1 = 0 → s.par.importBuf = none → c.desc.data.length ≤ 131072 →
      exec (.nvImport q tag) s = .next (({ (s.start c.uid) with par := { s.par with importBuf := some (c.entry, c.desc.data, s.now) } }).ok c [])) ∧
    (∀ b t, Starts 0x0215 q tag s c → 0 < c.desc.u 32 4 → c.desc.u 36 1 = 0 → s.par.importBuf = some (c.entry, b, t) → c.desc.u 32 4 = b.length →
      b.length + c.desc.data.length ≤ 131072 → exec (.nvImport q tag) s =
        .next (({ (s.start c.uid) with par := { s.par with importBuf := some (c.entry, b ++ c.desc.data, s.now) } }).ok c [])) ∧
    (∀ e b t, s.par.exportBuf = some (e, b, t) → t + 60 * sec ≤ s.now →
      exec .exportBufferTimeout s = .next { s with par := { s.par with exportBuf := none } }) ∧
    (∀ e b t, s.par.importBuf = some (e, b, t) → t + 60 * sec ≤ s.now →
      exec .importBufferTimeout s = .next { s with par := { s.par with importBuf := none } }) ∧
    (∀ l, s.hasGrant .sysLog = true → s.par.logDropped = 0 → exec (.systemLogAppend l) s =
      .next (({ s with par := { s.par with logNvm := logRing (s.par.logNvm ++ (s.par.logDram ++ l)), logDram := [] } }).endWork .sysLog)) ∧
    (∀ l, s.hasGrant .sysLog = false → logBytes (s.par.logDram ++ l) ≤ 65536 → ∃ t : State, exec (.systemLogAppend l) s = .next t ∧
      t.par = { s.par with logDram := s.par.logDram ++ l } ∧ t = { s with par := t.par, lv := t.lv }) ∧
  (∀ l : List (List Byte), s.hasGrant .sysLog = true → exec (.systemLogAppend l) s =
    .next (({ s with par := { s.par with logNvm := logRing (s.par.logNvm ++ (if s.par.logDropped = 0 then [] else [leBytes 4 s.par.logDropped]) ++ (s.par.logDram ++ l)), logDram := [],
                                         logDropped := 0 } } : State).endWork .sysLog))

/-! ### Power leave (chapter 04) -/

/-- R101, R102: after a recomputation the terms are those of the table, E is at most 200,000 kW, and B is at most P and at most S; the recomputation
changes no slot. Model's own readings it rests on: log entries 66, 70. -/
def Obligations.EnvelopeTerms : Prop :=
  ∀ s : State, (s.lvTerms.lv.g = min (s.pn PAR_LV_CONTRACT_KW) (s.lv.setpoint.getD (s.pn PAR_LV_FALLBACK_KW)) * s.lvTerms.lv.h / 1000 - s.pn PAR_LV_AUX_KW) ∧
    s.lvTerms.lv.e = min (s.lvTerms.lv.g + s.lvTerms.lv.p) 200000 ∧ s.lvTerms.lv.sum = s.lvS ∧ s.lvTerms.lv.b ≤ s.lvTerms.lv.p ∧
    s.lvTerms.lv.b ≤ s.lvTerms.lv.sum ∧ s.lvTerms.lv.slots = s.lv.slots ∧ s.lvTerms.lv.p ≤ s.pn PAR_LV_BUF_MAX_KW

/-- R108, R109: a request or increase is granted in full when S + Δ is at most E, no reclaim is pending, and the consumer's limit and MIN_KW allow it; while a
reclaim is pending nothing is granted; and no decision lifts S above E, or the grant above the consumer's limit or above what was asked. Model's own readings it rests on: log entries 11, 76. -/
def Obligations.LeaveDecisions : Prop :=
  (∀ (s : State) (r : LeaveReq), s.pendingKw = 0 → s.limitOf r.consumer = none → r.minKw ≤ r.kw → s.lv.sum + r.kw ≤ s.lv.e →
    s.decideLeave r none = some r.kw) ∧
  (∀ (s : State) (r : LeaveReq) (g l : Nat), s.pendingKw = 0 → s.limitOf r.consumer = some l → g < min r.kw l → s.lv.sum + (min r.kw l - g) ≤ s.lv.e →
    s.decideLeave r (some g) = some (min r.kw l - g)) ∧
  (∀ (s : State) (r : LeaveReq), s.pendingKw = 0 → s.limitOf r.consumer = none → r.minKw ≤ r.kw → r.partialOk = true → s.lv.sum ≤ s.lv.e →
    s.lv.e < s.lv.sum + r.kw → r.minKw ≤ s.lv.e - s.lv.sum → s.decideLeave r none = some (s.lv.e - s.lv.sum)) ∧
  (∀ (s : State) (r : LeaveReq) (h : Option Nat), s.pendingKw ≠ 0 → s.decideLeave r h = none) ∧
  (∀ (s : State) (r : LeaveReq) (h : Option Nat) (d : Nat), s.decideLeave r h = some d → s.lv.sum + d ≤ s.lv.e ∧ h.getD 0 + d ≤ r.kw ∧
    ∀ l, s.limitOf r.consumer = some l → h.getD 0 + d ≤ l)

/-- R113: the cap of an output is the sum of GRANT_KW × SHARE / 1000, each rounded down, over the slots whose cap map names it; the caps of any set of node outputs are together never larger than S,
whatever cap maps whose shares sum to at most 1,000 per mille are loaded. -/
def Obligations.CapsWithinLedger : Prop :=
  (∀ (s : State) (l : List (Nat × Nat)), (∀ k, ((capEntries (s.capmap k)).map fun e => e.2.2).sum ≤ 1000) → l.Nodup →
    (l.map fun o => s.nodeCap o.1 o.2).sum ≤ s.lvS) ∧
  (∀ (s : State) (n o : Nat), s.nodeCap n o = (s.lv.slots.vals.flatMap fun x =>
    ((capEntries (s.capmap x.consumer)).filter fun e => e.1 == n && e.2.1 == o).map fun e => x.grantKw * e.2.2 / 1000).sum)

/-- R122 to R125, R127: a well-formed leave command reaches the arbiter as one arrival with the descriptor's figures, LV_GRID_SET as one envelope input, and
nothing else changes; a host command on an outlet's leave is refused with ST_DENIED. Model's own readings it rests on: log entry 74. -/
def Obligations.LeaveCommands : Prop :=
  ∀ (s : State) (q tag : Nat) (c : InFlight),
    (∀ m, Starts 0x0300 q tag s c → 256 ≤ c.desc.object → c.desc.object ≤ 511 → s.lv.capmaps.get? c.desc.object = some m → c.desc.u 32 4 ≤ capMaxKw m →
      1 ≤ c.desc.u 32 4 → c.desc.u 32 4 ≤ 200000 → c.desc.u 36 4 ≤ c.desc.u 32 4 → c.desc.u 40 4 ≤ 1000000 → c.desc.u 44 1 ≤ 7 → c.desc.u 45 1 ≤ 3 →
      (bit (c.desc.u 45 1) 1 = true → 1 ≤ c.desc.u 46 2 ∧ c.desc.u 46 2 ≤ 60000) → (bit (c.desc.u 45 1) 1 = false → c.desc.u 46 2 = 0) →
      exec (.leaveRequest q tag) s = .next ((s.start c.uid).arrive
        { kind := 0, consumer := c.desc.object, kw := c.desc.u 32 4, minKw := c.desc.u 36 4,
          rampKwS := c.desc.u 40 4, cls := c.desc.u 44 1, partialOk := bit (c.desc.u 45 1) 0, wait := bit (c.desc.u 45 1) 1, waitMs := c.desc.u 46 2,
          uid := some c.uid, owner := c.entry + 1 })) ∧
    (Starts 0x0301 q tag s c → 256 ≤ c.desc.object → c.desc.object ≤ 511 → c.desc.u 32 4 ≤ ((s.lv.capmaps.get? c.desc.object).map capMaxKw).getD (2 ^ 32) →
      1 ≤ c.desc.u 32 4 → c.desc.u 32 4 ≤ 200000 → c.desc.u 36 4 ≤ c.desc.u 32 4 → c.desc.u 40 4 ≤ 1000000 → c.desc.u 45 1 ≤ 1 →
      exec (.leaveChange q tag) s = .next ((s.start c.uid).arrive
        { kind := 1, consumer := c.desc.object, kw := c.desc.u 32 4, minKw := c.desc.u 36 4,
          rampKwS := c.desc.u 40 4, partialOk := bit (c.desc.u 45 1) 0, uid := some c.uid, owner := c.entry + 1 })) ∧
    (Starts 0x0302 q tag s c → 256 ≤ c.desc.object → c.desc.object ≤ 511 →
      exec (.leaveRelease q tag) s = .next ((s.start c.uid).arrive { kind := 2, consumer := c.desc.object, uid := some c.uid })) ∧
    (c.desc.object < 256 →
      (Starts 0x0300 q tag s c → exec (.leaveRequest q tag) s = .next ((s.start c.uid).fail c.uid ST_DENIED)) ∧
      (Starts 0x0301 q tag s c → exec (.leaveChange q tag) s = .next ((s.start c.uid).fail c.uid ST_DENIED)) ∧
      (Starts 0x0302 q tag s c → exec (.leaveRelease q tag) s = .next ((s.start c.uid).fail c.uid ST_DENIED))) ∧
    (Starts 0x0310 q tag s c → c.desc.u 32 4 ≤ 200000 → exec (.lvGridSet q tag) s = .next { (s.start c.uid) with
      lv := { s.lv with gridIn := s.lv.gridIn ++ [(c.uid, some (c.desc.u 32 4), c.desc.u 36 2)] } }) ∧
    (Starts 0x0310 q tag s c → c.desc.u 32 4 = 0xFFFFFFFF → exec (.lvGridSet q tag) s = .next { (s.start c.uid) with
      lv := { s.lv with gridIn := s.lv.gridIn ++ [(c.uid, none, 0)] } }) ∧
    (Starts 0x0303 q tag s c → c.desc.u 34 2 ≤ 512 → 64 + 32 * c.desc.u 34 2 ≤ c.desc.dataLen → c.desc.u 32 2 + c.desc.u 34 2 ≤ 512 →
      exec (.leaveRead q tag) s = .next ((s.start c.uid).answer c [] ((s.start c.uid).lvHeader ++
        (List.range (c.desc.u 34 2)).flatMap fun j => (s.start c.uid).lvRecord (c.desc.u 32 2 + j))))

/-- R117, R128, R129: LV_CAPMAP_SET stores a record that is in order, an all-zero one removes it, and a consumer with a slot answers ST_BUSY; LV_SHARE_SET sends
the shares to the held nodes, and its version takes effect only once every planned node has been sent it under a lease that this module still holds, within the
second, or ends with ST_TIMEOUT after 1 s. Model's own readings it rests on: log entry 60. -/
def Obligations.CapmapsAndShares : Prop :=
  (∀ (s : State) (q tag : Nat) (c : InFlight) (r : Rec), Starts 0x0311 q tag s c → c.record 72 = some r → c.desc.object ≤ 511 →
    (s.slotOf c.desc.object = none → allZero r = false → s.capmapOk c.desc.object r = true → exec (.lvCapmapSet q tag) s =
      .next (({ (s.start c.uid) with lv := { s.lv with capmaps := s.lv.capmaps.set c.desc.object r } }).ok c [])) ∧
    (s.slotOf c.desc.object = none → allZero r = true → exec (.lvCapmapSet q tag) s =
      .next (({ (s.start c.uid) with lv := { s.lv with capmaps := s.lv.capmaps.del c.desc.object } }).ok c [])) ∧
    ((s.slotOf c.desc.object).isSome = true → exec (.lvCapmapSet q tag) s = .next ((s.start c.uid).fail c.uid ST_BUSY))) ∧
  (∀ (s : State) (q tag : Nat) (c : InFlight), Starts 0x0312 q tag s c → s.lv.sharePending = none → 1 ≤ c.desc.u 32 4 → c.desc.u 32 4 ≤ 4096 →
    c.desc.dataLen = 4 * c.desc.u 32 4 → c.desc.data.length = 4 * c.desc.u 32 4 → ((shareEntries c).map Prod.snd).sum = 1000 →
    (∀ e ∈ shareEntries c, (s.plan e.1).isSome = true) → noDup ((shareEntries c).map Prod.fst) = true →
    ∃ (t : State) (p : ShareSet), exec (.lvShareSet q tag) s = .next t ∧ t.lv = { s.lv with sharePending := some p } ∧ p.uid = c.uid ∧
      p.version = (s.lv.shareVersion + 1) % 2 ^ 32 ∧ p.deadline = s.now + sec ∧ t = { s with mbx := t.mbx, lv := t.lv, out := t.out } ∧
      (∀ k ∈ s.ring.plans.keys, s.holds k = true → k ∈ p.sent ∧ Emit.shareStore k (p.shares.getD k 0) p.version ∈ t.out) ∧
      (∀ k ∈ p.sent, s.holds k = true)) ∧
  (∀ (s : State) (p : ShareSet), s.lv.sharePending = some p → (∀ k ∈ s.ring.plans.keys, k ∈ p.sent ∧ s.holds k = true) → s.now < p.deadline →
    exec .shareVersionCommit s =
    .next ((({ s with lv := { s.lv with shares := p.shares, shareVersion := p.version, sharePending := none } }).emit (.shareCommit p.version)).okUid p.uid [])) ∧
  (∀ (s : State) (p : ShareSet) (k : Nat), s.lv.sharePending = some p → k ∈ s.ring.plans.keys → k ∉ p.sent ∨ s.holds k = false →
    exec .shareVersionCommit s = .next s) ∧
  (∀ (s : State) (p : ShareSet), s.lv.sharePending = some p → p.deadline ≤ s.now → exec .shareVersionCommit s = .next s) ∧
  (∀ (s : State) (p : ShareSet), s.lv.sharePending = some p → p.deadline ≤ s.now →
    exec .shareStoreTimeout s = .next (({ s with lv := { s.lv with sharePending := none } }).fail p.uid ST_TIMEOUT))

/-- R103, R108, R110, R114, R115, R123, R118, R119, R120: the arbiter's microsecond, the ends of its timers, a publication, and import supervision. A grant of work leave moves the request that may be granted next from the waiting to the grants, no grant of a kind takes its budget below 0, and after the power-fail warning none is made; an operation's end returns its grant. Model's own readings it rests on: log entries 11, 59, 60, 67, 119 to 122. -/
def Obligations.ArbiterAndWorkLeave : Prop :=
  ((∀ s : State, s.isActive = true → exec .arbiterMicrosecond s = .next ({ s with now := s.now + us }).arbitrate) ∧
  (∀ s : State, s.isActive = false → exec .arbiterMicrosecond s = .next { s with now := s.now + us }) ∧
  (∀ (s : State) (e : Nat), s.lv.setExpiry = some e → e ≤ s.now → ∃ t : State, exec .setpointExpiry s = .next t ∧ t.lv.setpoint = none ∧
    t.lv.setExpiry = none ∧ t.lv.d = s.pn PAR_LV_FALLBACK_KW) ∧
  (∀ (s : State) (k : Nat), exec (.reclaimNoticeEnd k) s = .next (s.noticeEnds [k])) ∧
  (∀ (s : State) (k : Nat) (x : LvSlot) (r : Reduction) (t : Nat), s.lv.slots = [(k, x)] → x.pending = [r] → r.endAt = some t → t ≤ s.now → 0 < r.kw →
    s.isActive = true → ∃ (u : State) (y : LvSlot), s.noticeEnds [k] = u ∧ u.lv.slots = [(k, y)] ∧ y.grantKw = x.grantKw - r.kw ∧ y.pending = [] ∧ y.state = 1) ∧
  (∀ (s : State) (k : Nat), s.isActive = false → exec (.reclaimNoticeEnd k) s = .next s) ∧
  (∀ (s : State) (k : Nat) (x : LvSlot) (r : LeaveReq), s.lv.slots.get? k = some x → x.waiting = some r → x.deadline ≤ s.now →
    exec (.leaveWaitExpiry k) s = .next ((s.freeSlot k).decided r ST_NO_LEAVE 0 0)) ∧
  (∀ s : State, ∃ t : State, exec .ledgerPublication s = .next t ∧ t.pair.siteCycle = (s.pair.siteCycle + 1) % 2 ^ 32 ∧
    (s.publishes = true → t.lv.cancelled = false ∧ ∀ x ∈ t.lv.slots.vals, ∀ r ∈ x.pending, r.endAt.isSome = true) ∧
    (s.publishes = false → t.lv.slots = s.lv.slots ∧ t.lv.residue = s.lv.residue)) ∧
  (∀ (s : State) (n o : Nat), n ∈ s.ring.plans.keys → o < 8 → Emit.cap n o (s.nodeCap n o) (s.nodeRamps n o) s.ring.epoch ∈ s.publishCaps.out) ∧
  (∀ (s : State) (kw : Int) (dkw t : Nat), s.publishes = true → (s.lv.g : Int) + s.pendingKw + s.pn PAR_LV_OVER_TOL_KW < kw → s.lv.overSince = some t →
    t + s.pn PAR_LV_OVER_MS * ms ≤ s.now → ∃ u : State,
    exec (.importExcessDetected kw dkw) s = .next u ∧ u.lv.pBound = some dkw ∧ u.lv.importExcess = true) ∧
  (∀ (s : State) (kw : Int) (dkw : Nat), s.publishes = false ∨ kw ≤ s.lv.g + s.pendingKw + s.pn PAR_LV_OVER_TOL_KW ∨ s.lv.overSince = none →
    exec (.importExcessDetected kw dkw) s = .next s) ∧
  (∀ (s : State) (kw t : Nat), s.publishes = true → s.lv.pBound.isSome = true → s.lvB s.lv.g s.lvPRaw ≤ kw → s.lv.restoreSince = some t → t + 10 * sec ≤ s.now →
    exec (.bufferDeliveryRestored kw) s = .next (({ s with lv := { s.lv with pBound := none, restoreSince := none } }).settle none))) ∧
  ((∀ (s : State) (kind : Nat) (w : Work), s.nextWorkReq kind = some w → exec (.workLeaveGrant kind) s = .next (s.grantWork w) ∧
    (s.grantWork w).lv.workGrant = s.lv.workGrant ++ [w] ∧ (s.grantWork w).lv.workWait = s.lv.workWait.filter (fun x => x.id != w.id)) ∧
  (∀ (s t : State) (kind : Nat), ((s.lv.workGrant.filter fun w => w.kind == kind).map Work.amount).sum ≤ (if kind = 0 then 120 else s.pn PAR_LV_WORK_BULK_MBS) →
    exec (.workLeaveGrant kind) s = .next t →
    ((t.lv.workGrant.filter fun w => w.kind == kind).map Work.amount).sum ≤ (if kind = 0 then 120 else t.pn PAR_LV_WORK_BULK_MBS)) ∧
  (∀ (s : State) (kind : Nat), s.lv.workHold = true → exec (.workLeaveGrant kind) s = .next s) ∧
  (∀ (s : State) (kind : Nat) (w v : Work), s.nextWorkReq kind = some w → v ∈ s.lv.workWait → v.kind = kind → v.island = true → w.island = true) ∧
  (∀ (s : State) (id : Nat) (w : Work), s.lv.workGrant.find? (fun x => x.id == id) = some w → s.endsItself w.what = false → exec (.workOperationEnd id) s =
    .next (({ s with lv := { s.lv with workGrant := s.lv.workGrant.filter fun x => x.id != id } }).workDone w.what)) ∧
  (∀ (s : State) (q tag : Nat) (c : InFlight) (id : Nat) (v : Int) (t : Nat), s.mbx.inflight = [c] → c.q = q → c.desc.tag = tag → c.phase = .running →
    s.par.islandWait = [(c.uid, id, v, t)] → s.awaits (.parIsland c.uid) = true → t ≤ s.now → ∃ u : State, exec (.islandLeaveTimeout q tag) s = .next u ∧
      u.par.islandWait = [] ∧ u.par.island = s.par.island ∧ u.awaits (.parIsland c.uid) = false ∧
      u.mbx.inflight = [{ c with phase := .done, status := ST_NO_LEAVE, result := padTo 16 [], data := [], dataDone := 0, image := 0 }]) ∧
  (∀ (s : State) (q tag : Nat) (c : InFlight), s.mbx.inflight = [c] → c.q = q → c.desc.tag = tag → c.phase = .running →
    s.awaits (.tuneRead c.uid) = true ∨ s.awaits (.ptDump c.uid) = true → c.deadline ≤ s.now →
    exec (.bulkLeaveTimeout q tag) s = .next (((s.dropWork (.tuneRead c.uid)).dropWork (.ptDump c.uid)).fail c.uid ST_NO_LEAVE))) ∧
  (∀ (s : State) (q tag t : Nat) (c : InFlight) (w : WorkFor), s.mbx.inflight.find? (fun c => c.q == q && c.desc.tag == tag && c.phase == .running && (s.islandWaits c).isSome) = some c →
    s.islandWaits c = some (w, t) → t ≤ s.now → exec (.islandLeaveTimeout q tag) s = .next (s.islandLate c w))

/-! ### The ring (chapter 05) -/

/-- R147: the largest distance that each rate allows, in the order of the table: 50, 25, 20, 10, 5, 2 and 1 kHz and 100 Hz. -/
def Obligations.RateDistances : Prop :=
  ∀ d : Nat, (rateFits (rateK 8) d = true ↔ d ≤ 15) ∧ (rateFits (rateK 7) d = true ↔ d ≤ 33) ∧ (rateFits (rateK 6) d = true ↔ d ≤ 43) ∧
    (rateFits (rateK 5) d = true ↔ d ≤ 90) ∧ (rateFits (rateK 4) d = true ↔ d ≤ 183) ∧ (rateFits (rateK 3) d = true ↔ d ≤ 465) ∧
    (rateFits (rateK 2) d = true ↔ d ≤ 933) ∧ (rateFits (rateK 1) d = true ↔ d ≤ 1023) ∧
    ∀ c, 1 ≤ c → c ≤ 8 → (c ≤ rateMax d ↔ rateFits (rateK c) d = true)

/-- R140, R143, R150, R152, R546: a ring cycle advances CYCLE by one and opens two loop windows; an emitting module sends the header of that cycle, under its epoch, on
every cage on which it emits, one that raises its epoch sends RELEASE headers first, and without the RING PLL there is no cycle. The header has 32 bytes, with CRC-32C over
the first 28, and the marker 8, with CRC-16 over the first 6. The cap of an output under a lease falls at once and rises no higher than the cap sent; after the lease
it never rises, stays as it is for the hold, and is zero after the ramp. Model's own readings it rests on: log entries 4, 60, 127, 128. -/
def Obligations.RingCycles : Prop :=
  (∀ s : State, s.sys.locks.getLsbD 2 = false → exec .ringCycle s = .next s) ∧
  (∀ s : State, s.sys.locks.getLsbD 2 = true → s.pair.role ≠ ROLE_RELEASING → s.ring.raiseTo = none → s.lv.slots = [] → s.lv.residue = [] → s.ring.scan = none →
    s.sys.resetDue = none → ∃ t : State, exec .ringCycle s = .next t ∧ t.ring = { s.stampPlan.ring with cycle := s.ring.cycle + 1, winLeft := 2, skew := s.nextSkew } ∧
      t = { s with ring := t.ring, out := t.out } ∧ t.out = (t.emitCages.map fun c => Emit.cycleHeader c (t.header s.ring.epoch false)).reverse ++ s.out) ∧
  (∀ (s : State) (e : Nat), s.ring.raiseTo = some e → 0 < s.ring.raiseLeft →
    (s.headerCycle).ring = { s.ring with raiseLeft := s.ring.raiseLeft - 1 } ∧ (s.headerCycle).out =
      (s.emitCages.map fun c => Emit.cycleHeader c (s.header s.ring.epoch true)).reverse ++ s.out) ∧
  (∀ s : State, s.stampPlan.ring.plan = s.ring.plan + (if s.planNow = s.ring.slotPlan then 0 else 1)) ∧
  (∀ c e t i f p l : Nat, (headerBytes c e t i f p l).length = 32 ∧ (headerBytes c e t i f p l).drop 28 = leBytes 4 (crc32c ((headerBytes c e t i f p l).take 28)) ∧
    (headerBytes c e t i f p l).take 28 = pack [(4, c), (4, e), (8, t), (1, i), (1, f), (2, p), (2, l), (6, 0)]) ∧
  (∀ c e i : Nat, (markerBytes c e i).length = 8 ∧ (markerBytes c e i).drop 6 = leBytes 2 (crc16 ((markerBytes c e i).take 6))) ∧
  (∀ (o : CapOut) (ramp now free : Nat), o.sentKw ≤ o.heldKw → (o.rises ramp now free).heldKw = o.sentKw) ∧
  (∀ (o : CapOut) (ramp now free : Nat), o.heldKw ≤ o.sentKw → o.heldKw ≤ (o.rises ramp now free).heldKw ∧ (o.rises ramp now free).heldKw ≤ o.sentKw) ∧
  (∀ (o : CapOut) (since hold ramp : Nat), (o.lapses since hold ramp).heldKw ≤ o.heldKw ∧ (since < hold → (o.lapses since hold ramp).heldKw = o.heldKw) ∧
    (hold + ramp ≤ since → (o.lapses since hold ramp).heldKw = 0)) ∧
  (∀ s : State, s.sys.locks.getLsbD 2 = true → exec .ringCycle s = .next (if s.cycleBegins.pair.role = ROLE_RELEASING then s.cycleBegins.releaseCycle
    else if s.cycleBegins.emitsCycles then s.cycleBegins.headerCycle else s.cycleBegins).scanDue.appResetDue)

/-- R136, R145, R151, R152, R155: what the events of a node do: silence of 1 ms makes it UNREACHABLE, frames under the module's epoch bring it back, another epoch makes a
lapsed or unreachable one FOREIGN, a claim that it accepts gives it the module's epoch, the side claimed and the issuer and renews the lease, and a claim of a node whose lease
runs, or under an epoch that is not above its own, changes nothing. A report of a lapse or a release makes it LAPSED, one of a port is kept, and one of a heal is noted. Model's own
readings it rests on: log entries 12, 13, 39, 57, 71. -/
def Obligations.NodeEvents : Prop :=
  (∀ (s : State) (n : Nat), (s.node n).state ≠ 0 → (s.node n).state ≠ 5 → s.nodeRing n ≠ 2 → (s.node n).seenAt + ms ≤ s.now → exec (.nodeSilence n) s =
    .next ((((s.updNode n fun x => { x with state := 5, before := x.state, leased := false }).raise 0x04 0x0006 n).report SRC_NODE_LOST n).ringsCheck)) ∧
  (∀ (s : State) (n e : Nat), (s.node n).state = 5 → e = s.ring.epoch → exec (.nodeFramesAgain n e) s =
    .next ((((s.updNode n fun x => { x with state := s.stateBack n, epoch := e, leased := decide (x.before = 2 ∨ x.before = 3 ∨ x.before = 4) }).nodeHeard n).raise 0x04 0x0007 n).ringsCheck)) ∧
  (∀ (s : State) (n : Nat), 2 ≤ (s.node n).before → (s.node n).before ≤ 4 → s.held 2 n 2 = false → s.instsOf n = [] → s.stateBack n = if (s.node n).demoted then 3 else 2) ∧
  (∀ (s : State) (n e : Nat), (s.node n).state = 5 ∨ (s.node n).state = 6 → e ≠ s.ring.epoch → exec (.foreignNodeSeen n e) s =
    .next (((((s.updNode n fun x => { x with state := 7, epoch := e, leased := false }).nodeHeard n).portForeign n).raise 0x04 0x0008 n).ringsCheck.loseActive.ownHeal)) ∧
  (∀ (s : State) (n side hops : Nat), (s.node n).state ≠ 0 → (s.node n).state ≠ 1 → (s.node n).state ≠ 5 → (s.node n).leased = false → (s.node n).epoch < s.ring.epoch →
    s.pair.role ≠ ROLE_STANDBY → s.instsOf n = [] → s.stagesOf n = [] → s.held 2 n 2 = false → ∃ t : State, exec (.claimAccepted n s.ring.epoch side hops) s = .next t ∧
      (t.node n).epoch = s.ring.epoch ∧ (t.node n).side = (s.node n).claimSide.getD side ∧ (t.node n).home = (s.node n).claimSide.getD side ∧ (t.node n).hops = hops ∧
      (t.node n).leased = true ∧ (t.node n).issuer = s.issuer ∧ (t.node n).missed = 0 ∧ (t.node n).state = (if (s.node n).demoted then 3 else 2) ∧
      ∀ m, m ≠ n → t.node m = s.node m) ∧
  (∀ (s : State) (n e side hops : Nat), (s.node n).leased = true → (s.node n).released = false → exec (.claimAccepted n e side hops) s = .next s) ∧
  (∀ (s : State) (n e side hops : Nat), e ≤ (s.node n).epoch → exec (.claimAccepted n e side hops) s = .next s) ∧
  (∀ (s : State) (n : Nat), (s.node n).best = bestSide (s.node n).side (s.node n).west (s.node n).east) ∧
  (∀ p w e : Nat, bestSide p (some w) (some e) = if w < e then 0 else 1) ∧
  (∀ (s : State) (n code e a : Nat), code = 1 ∨ code = 2 → 2 ≤ (s.node n).state → (s.node n).state ≤ 4 → ∃ t : State, exec (.reportRecord n code a e) s = .next t ∧
    (t.node n).state = 6 ∧ (t.node n).leased = false ∧ (t.node n).epoch = e) ∧
  (∀ (s : State) (n e a : Nat), (s.node n).state ≠ 0 → exec (.reportRecord n 6 a e) s =
    .next { s.nodeHeard n with pair := { (s.nodeHeard n).pair with healSeen := true } }) ∧
  (∀ (s : State) (n e a : Nat), (s.node n).state ≠ 0 → exec (.reportRecord n 3 a e) s = .next ((s.nodeHeard n).portReport n a true).ringsCheck ∧
    exec (.reportRecord n 4 a e) s = .next ((s.nodeHeard n).portReport n a false).ringsCheck) ∧
  (∀ (s : State) (n a : Nat), ((s.portReport n a true).node n).portsDown = (s.node n).portsDown ||| BitVec.ofNat 4 (2 ^ (a % 4)) ∧
    ((s.portReport n a false).node n).portsDown = (s.node n).portsDown &&& ~~~ BitVec.ofNat 4 (2 ^ (a % 4))) ∧
  (∀ (s : State) (n side : Nat) (m : PathMeasure), (s.node n).state ≠ 0 → s.instsOf n = [] → (s.node n).missed < 3 → ∃ t : State, exec (.switchedFrame n side m) s = .next t ∧
    (t.node n).side = side ∧ (t.node n).hops = m.spans ∧ (t.node n).path side = (some m.spans, some m.delayNs) ∧
    (t.node n).missed = (s.node n).missed - ((s.node n).missAt.filter fun a => decide (s.now ≤ a + 100 * us)).length ∧
    (t.node n).missedTotal = (s.node n).missedTotal - ((s.node n).missAt.filter fun a => decide (s.now ≤ a + 100 * us)).length ∧ ∀ k, k ≠ n → t.node k = s.node k) ∧
  (∀ (s : State) (n : Nat) (f : Node → Node), (s.updNode n f).ring.nodes.get? n = some (f (s.node n)) ∧ ∀ m, m ≠ n → (s.updNode n f).ring.nodes.get? m = s.ring.nodes.get? m) ∧
  (∀ (s : State) (n side hops : Nat), (s.node n).state ≠ 0 → (s.node n).state ≠ 1 → (s.node n).state ≠ 5 → (s.node n).leased = false ∨ (s.node n).released = true →
    (s.node n).epoch < s.ring.epoch → exec (.claimAccepted n s.ring.epoch side hops) s = .next (s.claimTaken n s.ring.epoch side hops)) ∧
  (∀ (s : State) (n side : Nat) (m : PathMeasure), (s.node n).state ≠ 0 → exec (.switchedFrame n side m) s = .next (s.switchedTo n side m)) ∧
  (∀ (s : State) (n a e : Nat), (s.node n).state ≠ 0 → (s.nodeHeard n).instsOf n = [] → exec (.reportRecord n 5 a e) s =
    .next ((s.nodeHeard n).serveFrom n (1 - (s.node n).side) ((s.node n).path (1 - (s.node n).side)).1 ((s.node n).path (1 - (s.node n).side)).2).ringsCheck)

/-- R156: a ring's state follows its condition: DOWN without block lock on both cages, PARTITIONED with an unreachable, lapsed or foreign planned member, OPEN or CLOSED as
its own headers return; loss of a cage's lock, missing headers and an unsuitable optical module enter that condition. Model's own readings it rests on: log entries 12, 71, 101. -/
def Obligations.RingStates : Prop :=
  (∀ (s : State) (r : Nat), (s.port (2 * r)).lock = false → (s.port (2 * r + 1)).lock = false → s.ringCond r = 3) ∧
  (∀ (s : State) (r n : Nat), (s.port (2 * r)).lock = true → n ∈ s.membersOf r → 5 ≤ (s.node n).state → s.ringCond r = 2) ∧
  (∀ (s : State) (r : Nat), (s.port (2 * r)).lock = true → (∀ n ∈ s.membersOf r, (s.node n).state < 5) → s.ringCond r = if s.ringOpen r then 1 else 0) ∧
  (∀ (s : State) (r : Nat), r < 2 → ((s.ringCheck r).ringState r = s.ringCond r)) ∧
  (∀ (s : State) (cage : Nat) (lock : Bool), exec (.cageLockChange cage lock) s = .next (s.cageLock cage (lock && s.cageLit cage))) ∧
  (∀ (s : State) (cage : Nat) (lock : Bool), cage < 4 → (∃ t : State, s.cageLock cage lock = t ∧ (t.port cage).lock = lock ∧ (t.port cage).los = !lock)) ∧
  (∀ (s : State) (r : Nat), r < 2 → ∃ t : State, exec (.ownHeadersNotReturned r) s = .next t ∧ t.ringOpen r = true ∧ t.ownReturn (2 * r) = false ∧ t.ownReturn (2 * r + 1) = false) ∧
  (∀ (s : State) (cage rate : Nat), cage ≤ 5 → opticFits cage rate = true → exec (.opticalModuleInserted cage true rate) s =
    .next { s with pins := { s.pins with optics := s.pins.optics.set cage { present := true, rate := rate, tx := true } } }) ∧
  (∀ (s : State) (cage rate : Nat), cage < 4 → opticFits cage rate = false → ∃ t : State, exec (.opticalModuleInserted cage true rate) s = .next t ∧ (t.port cage).lock = false) ∧
  (∀ (s t : State) (cage rate : Nat) (p : Bool), cage ≤ 5 → p = false ∨ opticFits cage rate = false →
    t = { s with pins := { s.pins with optics := s.pins.optics.set cage (if p then { present := true, rate := rate, tx := false } else {}) } } →
    exec (.opticalModuleInserted cage p rate) s = .next (if cage = 4 then t.pairLost.updPair (fun x => { x with link := false }) else t.cageLock cage false))

/-- R160, R162 to R165: the scans and the commands of the node table. A scan covers every member of the ring after a cold start, a RING_SCAN those not yet online; RING_SCAN ends
within 1 s with the sums of its scan, and answers ST_BUSY while a scan runs. Model's own readings it rests on: log entries 14, 124. -/
def Obligations.NodeTable : Prop :=
  (∀ (s : State) (ring : Nat) (m : List ScanMember), ∃ t : State, exec (.enumerationScan ring m) s = .next (t.scan true (m.filter fun x => x.ring == ring)).2 ∧
    t = { s with ring := { s.ring with enumWait := t.ring.enumWait, enumRings := t.ring.enumRings } } ∧ ring ∈ t.ring.enumRings ∧ ring ∉ t.ring.enumWait) ∧
  (∀ (s : State) (all : Bool) (m : List ScanMember), (s.scan all m).2.ring.enumDone = true ∧ (s.scan all m).1.found = m.length) ∧
  (∀ (s : State) (q tag : Nat) (c : InFlight) (m : List ScanMember), Starts 0x0402 q tag s c → s.scanning = false → ∃ (t : State) (d : Nat), exec (.ringScan q tag m) s = .next t ∧
    s.now ≤ d ∧ d ≤ s.now + sec ∧ t.ring = { s.ring with scan := some ⟨c.uid, d, m⟩ } ∧ t = { s.start c.uid with ring := t.ring, fresh := t.fresh }) ∧
  (∀ (s : State) (q tag : Nat) (c : InFlight) (m : List ScanMember), Starts 0x0402 q tag s c → s.scanning = true → exec (.ringScan q tag m) s = .next ((s.start c.uid).fail c.uid ST_BUSY)) ∧
  (∀ (s : State) (w : RingScan), s.ring.scan = some w → w.due ≤ s.now → ∃ (t u : State) (x : ScanSum) (missing : Nat), t.scan false w.members = (x, u) ∧ t.now = s.now ∧
    t.ring.scan = none ∧ t.ring.moved = [] ∧ t.ring.plans = s.ring.plans ∧ missing = (u.ring.plans.keys.filter fun n => (u.node n).state == 0).length ∧
    s.scanDue = u.okUid w.uid (pack [(4, x.found), (2, x.unplanned), (2, missing), (2, x.mismatch)])) ∧
  (∀ (s : State) (q tag : Nat) (c : InFlight) (r : Rec), Starts 0x0400 q tag s c → c.record 32 = some r → allZero r = false → 1 ≤ c.desc.object → c.desc.object ≤ 0x0FFF →
    nodeRecOk c.desc.object r = true → s.nodeKindFits c.desc.object r = true → s.nodeRecFits c.desc.object r = true → s.nodeInUse c.desc.object = false →
    ∃ t : State, exec (.ringNodeSet q tag) s = .next (t.ok c []) ∧ t.plan c.desc.object = some r ∧ ∀ a, a ≠ c.desc.object → t.plan a = s.plan a) ∧
  (∀ (s : State) (q tag : Nat) (c : InFlight) (r o : Rec), Starts 0x0400 q tag s c → c.record 32 = some r → allZero r = false → 1 ≤ c.desc.object → c.desc.object ≤ 0x0FFF →
    nodeRecOk c.desc.object r = true → s.nodeKindFits c.desc.object r = true → s.nodeRecFits c.desc.object r = true → s.plan c.desc.object = some o → o.take 16 = r.take 16 →
    ∃ t : State, exec (.ringNodeSet q tag) s = .next (t.ok c []) ∧ t.nodeRing c.desc.object = s.nodeRing c.desc.object) ∧
  (∀ (s : State) (q tag : Nat) (c : InFlight) (r : Rec), Starts 0x0400 q tag s c → c.record 32 = some r → 1 ≤ c.desc.object → c.desc.object ≤ 0x0FFF →
    (s.plan c.desc.object).isSome = true → allZero r = true → s.nodeInUse c.desc.object = true → exec (.ringNodeSet q tag) s = .next ((s.start c.uid).fail c.uid ST_BUSY)) ∧
  (∀ (s : State) (q tag : Nat) (c : InFlight), Starts 0x0401 q tag s c → 1 ≤ c.desc.u 34 2 → c.desc.u 34 2 ≤ 1024 → 32 * c.desc.u 34 2 ≤ c.desc.dataLen → c.desc.u 32 2 + c.desc.u 34 2 ≤ 0xFFFF →
    exec (.ringNodeRead q tag) s = .next ((s.start c.uid).answer c [] ((List.range (c.desc.u 34 2)).flatMap fun j => s.nodeRecord (c.desc.u 32 2 + j)))) ∧
  (∀ (s : State) (q tag : Nat) (c : InFlight), Starts 0x0403 q tag s c → (s.node c.desc.object).state = 3 → 1000 ≤ (s.node c.desc.object).answered → s.instsOf c.desc.object = [] →
    ∃ t : State, exec (.ringNodeRestore q tag) s = .next (t.ok c []) ∧ (t.node c.desc.object).state = 2 ∧ (t.node c.desc.object).demoted = false) ∧
  (∀ (s : State) (q tag : Nat) (c : InFlight), Starts 0x0403 q tag s c → (s.node c.desc.object).state ≠ 3 → exec (.ringNodeRestore q tag) s = .next ((s.start c.uid).fail c.uid ST_BAD_PARAM)) ∧
  (∀ (s : State) (q tag : Nat) (c : InFlight), Starts 0x0403 q tag s c → (s.node c.desc.object).state = 3 → 1000 ≤ (s.node c.desc.object).answered →
    (∀ i ∈ s.halved c.desc.object, s.nodeFits c.desc.object ((s.inst i).k / 2) = true) → exec (.ringNodeRestore q tag) s = .next (((s.start c.uid).restoreNode c.desc.object).ok c []))

/-! ### Basalt (chapter 06) -/

/-- R175, R176: one evaluation forms e, p, the integrator, the derivative, the sum and the command by the steps of the rule, each held to its width; when no cause is
recorded, no step has changed a value by truncation. -/
def Obligations.ControlLaw : Prop :=
  ∀ (c : Law) (iAcc dq xPrev : Int) (first : Bool) (r y f rep rq : Int),
    (evalLaw c iAcc dq xPrev first none r y f rep rq 0 0).e = r - y ∧ (evalLaw c iAcc dq xPrev first none r y f rep rq 0 0).p = c.kp * (r - y) ∧
    (evalLaw c iAcc dq xPrev first none r y f rep rq 0 0).iAcc = wrap40 (iAcc + c.ki * (r - y)) ∧
    (evalLaw c iAcc dq xPrev first none r y f rep rq 0 0).x = (if c.dMeas then -y else r - y) ∧
    (evalLaw c iAcc dq xPrev true none r y f rep rq 0 0).dq = trunc16 (asr (c.dfilt * dq) 15) ∧
    (-(2 ^ 39) ≤ (evalLaw c iAcc dq xPrev first none r y f rep rq 0 0).iAcc ∧ (evalLaw c iAcc dq xPrev first none r y f rep rq 0 0).iAcc < 2 ^ 39) ∧
    (-32768 ≤ (evalLaw c iAcc dq xPrev first none r y f rep rq 0 0).u ∧ (evalLaw c iAcc dq xPrev first none r y f rep rq 0 0).u ≤ 32767) ∧
    ((evalLaw c iAcc dq xPrev first none r y f rep rq 0 0).causes = 0 →
      (evalLaw c iAcc dq xPrev first none r y f rep rq 0 0).iAcc = iAcc + c.ki * (r - y) ∧
      (evalLaw c iAcc dq xPrev first none r y f rep rq 0 0).rep = asr (c.qf * rep + c.kr * (r - y)) 15 ∧
      (evalLaw c iAcc dq xPrev first none r y f rep rq 0 0).u = asr (c.kp * (r - y) + (iAcc + c.ki * (r - y)) +
        (evalLaw c iAcc dq xPrev first none r y f rep rq 0 0).dq * 32768 + c.kff * f + rq * 32768) (15 - c.sh))

/-- R188: at a tracking start that the integrator can hold, the command sent equals the tracked command exactly. -/
def Obligations.TrackingStart : Prop :=
  ∀ (c : Law) (iAcc dq xPrev t : Int) (first : Bool) (r y f rep rq : Int), c.sh ≤ 8 → -32768 ≤ t → t ≤ 32767 →
    (evalLaw c iAcc dq xPrev first (some t) r y f rep rq 0 0).causes.getLsbD 0 = false → (evalLaw c iAcc dq xPrev first (some t) r y f rep rq 0 0).u = t

/-- R180, for an instance with no derivative and no repetitive term: when |Kp| E + I0 + N |Ki| E + |Kff| F stays below 2^-SH, no evaluation of N in a row wraps under any
cause, whatever the references, measurements and feed-forward inputs within E and F. -/
def Obligations.ScalingBound : Prop :=
  ∀ (c : Law) (i0 xPrev : Int) (l : List (Int × Int × Int)) (e f : Nat), c.kd = 0 → c.kr = 0 → c.sh ≤ 8 →
    (∀ v ∈ l, (v.1 - v.2.1).natAbs ≤ e ∧ v.2.2.natAbs ≤ f) →
    c.kp.natAbs * e + i0.natAbs + l.length * (c.ki.natAbs * e) + c.kff.natAbs * f < 2 ^ (30 - c.sh) → ∀ w ∈ lawRun c i0 0 xPrev l, w = 0

/-- R171, R178, R179, R186: the phase that Basalt gives keeps every window of the instance within both budgets, and where there is none, no phase below the period does; when scheduled instances of the node at the same rate have phases that do, it is the phase of one of them. Fencing, the lifting of fence causes, and what an instance sends: only an ARMED or FROZEN instance becomes FENCED, one whose last cause is lifted is LOADED, and a FENCED one sends its last command with CSTATE FENCED in every due window. Model's own readings it rests on: log entry 69. -/
def Obligations.PhasesAndFences : Prop :=
  ((∀ (s : State) (i k p : Nat) (ex : List Nat), s.choosePhase i k ex = some p → s.phaseFits (s.schedule (i :: ex)) i k p = true) ∧
  (∀ (s : State) (i k : Nat) (ex : List Nat), s.choosePhase i k ex = none → ∀ p, p < k → s.phaseFits (s.schedule (i :: ex)) i k p = false) ∧
  (∀ (s : State) (i k : Nat) (ex : List Nat) (e : Nat × Inst), e ∈ s.schedule (i :: ex) → coefNode (s.coef e.1) = coefNode (s.coef i) → e.2.k = k → e.2.state ≠ 4 →
    s.phaseFits (s.schedule (i :: ex)) i k e.2.phase = true → ∃ d ∈ s.schedule (i :: ex), coefNode (s.coef d.1) = coefNode (s.coef i) ∧ d.2.k = k ∧
      s.choosePhase i k ex = some d.2.phase)) ∧
  ((∀ (s : State) (i k : Nat), (s.inst i).state = 2 ∨ (s.inst i).state = 3 → ((s.fenceInst i k).inst i).state = 4 ∧ ((s.fenceInst i k).inst i).lastCmd = (s.inst i).lastCmd) ∧
  (∀ (s : State) (i k : Nat), (s.inst i).state < 2 → s.fenceInst i k = s) ∧
  (∀ (s : State) (i j k : Nat), j ≠ i → (s.fenceInst i k).inst j = s.inst j) ∧
  (∀ (x : Inst) (k : Nat), k < 4 → x.state = 4 → x.fenceCause = BitVec.ofNat 4 (2 ^ k) → (liftFence x k).state = 1 ∧ (liftFence x k).fenceCause = 0) ∧
  (∀ (x : Inst) (k : Nat), x.state = 4 → x.fenceCause &&& ~~~ BitVec.ofNat 4 (2 ^ k) ≠ 0 → (liftFence x k).state = 4) ∧
  (∀ (x : Inst) (was : Nat) (b : Bool), x.state = 4 → cmdWord x was b = some (x.lastCmd, 2)) ∧
  (∀ (x : Inst) (was : Nat) (b : Bool), x.state = 3 → cmdWord x was b = some (x.lastCmd, 1)) ∧
  (∀ (x : Inst) (was : Nat), x.state = 2 → cmdWord x was true = some (x.lastCmd, 0) ∧ cmdWord x was false = none))

/-- R193 to R197, R196, R198, R199: BAS_LOAD stores a record that is in order or removes one; BAS_ARM, BAS_FREEZE, BAS_DISARM and BAS_HANDOVER wait for the instance's next due window; an instance that a session owns answers ST_BUSY (R192). References and memory clears take effect in the next window; BAS_READ returns a record for each instance. Model's own readings it rests on: log entries 68, 74. -/
def Obligations.BasaltCommands : Prop :=
  (∀ (s : State) (q tag : Nat) (c : InFlight),
    (∀ r, Starts 0x0500 q tag s c → c.record 64 = some r → (s.inst c.desc.object).owner = 0 → c.desc.object ≤ 2047 → allZero r = false → s.coefOk r = true →
      scheduled (s.inst c.desc.object) = false → ∃ t : State, exec (.basLoad q tag) s = .next (t.ok c []) ∧ t.coef c.desc.object = r ∧ (t.inst c.desc.object).state = 1 ∧
      (t.inst c.desc.object).refTab = coefRefInit r ∧ t = { s with mbx := t.mbx, bas := t.bas }) ∧
    (∀ r, Starts 0x0500 q tag s c → c.record 64 = some r → (s.inst c.desc.object).owner = 0 → c.desc.object ≤ 2047 → allZero r = true →
      scheduled (s.inst c.desc.object) = false → exec (.basLoad q tag) s = .next (({ (s.start c.uid) with
        bas := { s.bas with coeffs := s.bas.coeffs.del c.desc.object, insts := s.bas.insts.put c.desc.object (if (s.inst c.desc.object).wrap then some (s.inst c.desc.object).emptied else none) } }).ok c [])) ∧
    (∀ k p half, Starts 0x0501 q tag s c → (s.inst c.desc.object).owner = 0 → s.armCheck c.desc.object (c.desc.u 32 1) none = .inr (k, p, half) → exec (.basArm q tag) s =
      .next ((s.start c.uid).acceptStart c.desc.object k p half (.arm (c.desc.u 32 1) (some c.uid) 2))) ∧
    (∀ st, Starts 0x0501 q tag s c → (s.inst c.desc.object).owner = 0 → s.armCheck c.desc.object (c.desc.u 32 1) none = .inl st → exec (.basArm q tag) s =
      .next ((s.start c.uid).fail c.uid st)) ∧
    (Starts 0x0502 q tag s c → (s.inst c.desc.object).owner = 0 → c.desc.object ≤ 2047 →
      (c.desc.u 32 1 = 0 → (s.inst c.desc.object).state = 2 → exec (.basFreeze q tag) s = .next ((s.start c.uid).addWait c.desc.object (.freeze (some c.uid)))) ∧
      (c.desc.u 32 1 = 1 → (s.inst c.desc.object).state = 3 → exec (.basFreeze q tag) s = .next ((s.start c.uid).addWait c.desc.object (.release (some c.uid)))) ∧
      (c.desc.u 32 1 ≤ 1 → (s.inst c.desc.object).state = 4 → exec (.basFreeze q tag) s = .next ((s.start c.uid).fail c.uid ST_FENCED))) ∧
    (Starts 0x0503 q tag s c → (s.inst c.desc.object).owner = 0 → c.desc.object ≤ 2047 →
      ((s.inst c.desc.object).state = 2 ∨ (s.inst c.desc.object).state = 3 → exec (.basDisarm q tag) s = .next ((s.start c.uid).addWait c.desc.object (.disarm (some c.uid)))) ∧
      ((s.inst c.desc.object).state = 1 → exec (.basDisarm q tag) s = .next ((s.start c.uid).ok c [])) ∧
      ((s.inst c.desc.object).state = 4 → exec (.basDisarm q tag) s = .next ((s.start c.uid).fail c.uid ST_FENCED))) ∧
    (∀ t, Starts 0x0505 q tag s c → (s.inst c.desc.object).owner = 0 → (s.inst (c.desc.u 32 2)).owner = 0 →
      (s.start c.uid).handover c.desc.object (c.desc.u 32 2) (some c.uid) = .inr t → exec (.basHandover q tag) s = .next t) ∧
    (Starts 0x0501 q tag s c → (s.inst c.desc.object).owner ≠ 0 → exec (.basArm q tag) s = .next ((s.start c.uid).fail c.uid ST_BUSY)) ∧
    (Starts 0x0503 q tag s c → (s.inst c.desc.object).owner ≠ 0 → exec (.basDisarm q tag) s = .next ((s.start c.uid).fail c.uid ST_BUSY))) ∧
  (∀ (s : State) (q tag : Nat) (c : InFlight),
    (Starts 0x0504 q tag s c → 1 ≤ c.desc.u 32 2 → c.desc.u 32 2 ≤ 256 → c.desc.dataLen = 4 * c.desc.u 32 2 → c.desc.data.length = 4 * c.desc.u 32 2 →
      noDup ((refEntries c).map Prod.fst) = true → (∀ e ∈ refEntries c, (s.inst e.1).owner = 0 ∧ e.1 ≤ 2047 ∧ 1 ≤ (s.inst e.1).state ∧ (s.inst e.1).state ≤ 3 ∧
        coefRefSrc (s.coef e.1) = 0) →
      exec (.basRefSet q tag) s = .next { (s.start c.uid) with bas := { s.bas with refWait := s.bas.refWait ++ [(some c.uid, refEntries c)] } }) ∧
    (Starts 0x0506 q tag s c → 1 ≤ c.desc.u 34 2 → c.desc.u 34 2 ≤ 2048 → 32 * c.desc.u 34 2 ≤ c.desc.dataLen → c.desc.u 32 2 + c.desc.u 34 2 ≤ 2048 →
      exec (.basRead q tag) s = .next ((s.start c.uid).answer c [] ((List.range (c.desc.u 34 2)).flatMap fun j => s.basRecord (c.desc.u 32 2 + j)))) ∧
    (∀ i, Starts 0x0507 q tag s c → c.desc.object ≤ 255 → c.desc.u 32 1 = 0 → s.repUser c.desc.object = some i → (∀ e ∈ s.bas.coeffs, coefRep e.2 = c.desc.object → (s.inst e.1).owner = 0) →
      exec (.basRep q tag) s = .next { (s.start c.uid) with bas := { s.bas with repWait := s.bas.repWait ++ [(c.uid, c.desc.object, 0)] } }))

/-- R144, R146, R154, R172, R174, R188: a valid, timely frame under the module's epoch answers the slot of the last window with its WIN and runs the node's due instances on its words; a frame with a failing CRC is counted;
one with LAPSED ends the lease; a frame of the module has its header, and its words padded to a multiple of four;
a slot that nothing answers is a missed slot; a TRACK arm without a report in two due windows ends with ST_TIMEOUT; and a window follows the last. Model's own readings it rests on: log entries 56, 69. -/
def Obligations.LoopFrames : Prop :=
  (∀ (s : State) (f : LoopFrame), s.holds f.node = true → s.nodeRing f.node ≠ 2 → f.crcOk = true → f.up = true → f.valid = true → f.lapsed = false → f.onTime = true → f.epochLo = s.ring.epoch % 256 →
    (s.node f.node).lastWin ≠ s.frameWindow f + 1 → exec (.upstreamLoopFrame f) s =
      .next (((s.nodeHeard f.node).answerSlot f.node (s.frameWindow f)).runNode f.node (s.frameWindow f) (some f.words))) ∧
  (∀ (s : State) (f : LoopFrame), s.holds f.node = true → s.nodeRing f.node ≠ 2 → f.crcOk = true → f.lapsed = true → exec (.upstreamLoopFrame f) s =
    .next ((s.nodeHeard f.node).leaseReport f.node (s.node f.node).epoch false)) ∧
  (∀ (s : State) (f : LoopFrame), f.win ≤ 255 → s.ring.window ≤ s.frameWindow f + 255 ∧ s.frameWindow f ≤ s.ring.window ∧ (255 ≤ s.ring.window → s.frameWindow f % 256 = f.win)) ∧
  (∀ (node e w fl : Nat) (l : List Nat), (loopFrameBytes node e w fl l).length = 8 + 8 * ceilDiv l.length 4 ∧ (loopFrameBytes node e w fl l).take 6 =
    pack [(2, node), (1, e), (1, w), (1, 4 * ceilDiv l.length 4), (1, fl)]) ∧
  (∀ (s : State) (f : LoopFrame), s.holds f.node = true → s.nodeRing f.node ≠ 2 → f.crcOk = false → ∃ t : State, exec (.upstreamLoopFrame f) s = .next t ∧
    (t.node f.node).crcErr = min ((s.node f.node).crcErr + 1) (2 ^ 32 - 1) ∧ t = { s with ring := t.ring }) ∧
  (∀ (s : State) (f : LoopFrame), s.holds f.node = false → exec (.upstreamLoopFrame f) s = .next s) ∧
  (∀ (s : State) (n w i : Nat), s.holds n = true → s.nodeRing n ≠ 2 → (s.node n).lastWin ≠ w + 1 → i ∈ s.dueOf n w → drives (s.inst i) = true → exec (.slotDeadline n w) s =
    .next ((s.missSlot n).runNode n w none)) ∧
  (∀ (s : State) (i u a : Nat), (s.inst i).wait = [(a, .arm 2 (some u) 0)] → exec (.trackingReportTimeout i) s =
    .next ((s.updInst i fun x => { x with wait := [] }).fail u ST_TIMEOUT)) ∧
  (∀ s : State, s.ring.winLeft = 0 → exec .loopWindow s = .next s) ∧
  (∀ s : State, s.ring.winLeft ≠ 0 → ∃ t : State, exec .loopWindow s = .next t ∧ t.ring.window = 2 * s.ring.cycle.toNat + (2 - s.ring.winLeft) ∧ t.ring.winLeft = s.ring.winLeft - 1 ∧
    t.ring.cycle = s.ring.cycle ∧ t.bas.refWait = []) ∧
  (∀ (s : State) (i : Nat), exec (.trackingReportTimeout i) s = .next (((s.inst i).wait.filter BasWait.tracks).foldl State.startLate
    (s.updInst i fun x => { x with wait := x.wait.filter fun c => !BasWait.tracks c }))) ∧
  (∀ (s : State) (i w u : Nat) (word1 : Bool), (s.inst i).state = 1 → coefNode (s.coef i) ≠ 0 → s.nodeArmable (coefNode (s.coef i)) = 0 → s.startBarred i = false →
    s.armEffect i w 2 (some u) 0 word1 = (s.fail u ST_TIMEOUT, none))

/-! ### Tracing and tuning (chapter 07) -/

/-- R206, R207, R214, R210, R211, R215, R216, R217: a trace buffer is set by a record that is in order, triggered only while it waits, stopped by the entry that set it, and another entry's attempt answers ST_BUSY; a buffer whose pace instance is LOADED or EMPTY has ended; a sample is recorded at the end of a due window, and a filled buffer is DONE. An injection starts on an ARMED instance of a cabinet node whose consumers' leave is granted in full, gives its result at its first evaluation, ends on its length or on command, and read-outs ask BULK work leave; without leave, or above TUNE_INJ_MAX, nothing starts. Model's own readings it rests on: log entries 15, 16, 132, 133. -/
def Obligations.TuneRows : Prop :=
  ((∀ (s : State) (q tag : Nat) (c : InFlight),
    (∀ r, Starts 0x0600 q tag s c → s.Paced → c.record 48 = some r → c.desc.object ≤ 31 → (s.trace c.desc.object).state = 0 → s.traceOk r = true →
      ∃ t : State, exec (.tuneTraceSet q tag) s = .next (t.ok c []) ∧ (t.trace c.desc.object).state = (if tracePre r = 0 then 2 else 1) ∧ (t.trace c.desc.object).cfg = r ∧
        (t.trace c.desc.object).entry = c.entry ∧ (t.trace c.desc.object).samples = [] ∧ t = { s with mbx := t.mbx, tune := t.tune }) ∧
    (Starts 0x0601 q tag s c → s.Paced → c.desc.object ≤ 31 → (s.trace c.desc.object).state = 2 → (s.trace c.desc.object).entry = c.entry → exec (.tuneTraceTrigger q tag) s =
      .next (({ (s.start c.uid) with tune := { s.tune with traces := s.tune.traces.upd c.desc.object fun t => { t with state := 3, post := 0 } } }).ok c [])) ∧
    (Starts 0x0601 q tag s c → s.Paced → c.desc.object ≤ 31 → (s.trace c.desc.object).state = 1 → exec (.tuneTraceTrigger q tag) s = .next ((s.start c.uid).fail c.uid ST_BUSY)) ∧
    (Starts 0x0602 q tag s c → s.Paced → c.desc.object ≤ 31 → (s.trace c.desc.object).entry = c.entry →
      ((s.trace c.desc.object).state = 0 → exec (.tuneTraceStop q tag) s = .next ((s.start c.uid).ok c [])) ∧
      (1 ≤ (s.trace c.desc.object).state → (s.trace c.desc.object).state ≤ 3 → exec (.tuneTraceStop q tag) s = .next (((s.start c.uid).endTrace c.desc.object 1).ok c [])) ∧
      ((s.trace c.desc.object).state = 4 → exec (.tuneTraceStop q tag) s =
        .next (({ (s.start c.uid) with tune := { s.tune with traces := s.tune.traces.del c.desc.object } }).ok c []))) ∧
    (Starts 0x0602 q tag s c → s.Paced → c.desc.object ≤ 31 → (s.trace c.desc.object).state ≠ 0 → (s.trace c.desc.object).entry ≠ c.entry →
      exec (.tuneTraceStop q tag) s = .next ((s.start c.uid).fail c.uid ST_BUSY))) ∧
  (∀ (s : State) (b : Nat) (t : Trace), s.tune.traces.get? b = some t → t.due = true → t.state = 1 ∨ t.state = 2 → s.Paced → t.fires (s.traceValues t.cfg) = false →
    ∃ u : State, exec (.traceSample b) s = .next u ∧ (u.trace b).samples = ((s.ring.window, (s.inst (tracePace t.cfg)).k, s.traceValues t.cfg) :: t.samples).take TRACE_LEN ∧ (u.trace b).due = false ∧
      u = { s with tune := u.tune }) ∧
  (∀ (s : State) (b : Nat) (t : Trace), s.tune.traces = [(b, t)] → 1 ≤ t.state → t.state ≤ 3 → drives (s.inst (tracePace t.cfg)) = false → s.traceGone = s.endTrace b 2) ∧
  (∀ s : State, s.Paced → s.traceGone = s) ∧
  (∀ (s : State) (b : Nat) (t : Trace), s.tune.traces.get? b = some t → t.due = true → t.state = 3 → s.Paced → TRACE_LEN - tracePre t.cfg ≤ t.post + 1 →
    ∃ u : State, exec (.traceSample b) s = .next u ∧ (u.trace b).state = 4 ∧ (u.trace b).endCause = 0)) ∧
  ((∀ (s : State) (q tag : Nat) (c : InFlight),
    (∀ r, Starts 0x0610 q tag s c → c.record 32 = some r → c.desc.object ≤ 15 → genOk r = true → (s.inst (genInst r)).state = 2 → s.nodeKind (coefNode (s.coef (genInst r))) = 1 →
      (s.inst (genInst r)).owner = 0 → (s.tune.gens.getD c.desc.object {}).state ≠ 1 → (∀ e ∈ s.tune.gens, e.2.state = 1 → genInst e.2.cfg ≠ genInst r) →
      (s.node (coefNode (s.coef (genInst r)))).state ≠ 3 → genAmp r ≤ s.pn PAR_TUNE_INJ_MAX →
      ((s.slotsOfNode (coefNode (s.coef (genInst r)))) ≠ [] → (∀ x ∈ s.slotsOfNode (coefNode (s.coef (genInst r))), x.state = 1) → exec (.tuneInjStart q tag) s =
        .next { (s.start c.uid) with
          tune := { s.tune with gens := s.tune.gens.set c.desc.object { state := 1, cfg := r, k := (s.inst (genInst r)).k, lfsr := genSeed r, uid := some c.uid } } }) ∧
      ((s.slotsOfNode (coefNode (s.coef (genInst r)))) = [] → exec (.tuneInjStart q tag) s = .next ((s.start c.uid).fail c.uid ST_NO_LEAVE))) ∧
    (Starts 0x0611 q tag s c → c.desc.object ≤ 15 → (s.tune.gens.getD c.desc.object {}).state = 1 → exec (.tuneInjStop q tag) s =
      .next (((s.start c.uid).endGen c.desc.object 1).ok c [])) ∧
    (Starts 0x0611 q tag s c → c.desc.object ≤ 15 → (s.tune.gens.getD c.desc.object {}).state ≠ 1 → exec (.tuneInjStop q tag) s = .next ((s.start c.uid).ok c [])) ∧
    (Starts 0x0603 q tag s c → s.Paced → c.desc.object ≤ 31 → c.desc.u 32 4 ≤ 64 + 16 * TRACE_LEN → (s.trace c.desc.object).state = 4 → exec (.tuneTraceRead q tag) s =
      .next ((s.start c.uid).askRead c)) ∧
    (Starts 0x0603 q tag s c → s.Paced → c.desc.object ≤ 31 → c.desc.u 32 4 ≤ 64 + 16 * TRACE_LEN → (s.trace c.desc.object).state ≠ 4 → exec (.tuneTraceRead q tag) s =
      .next ((s.start c.uid).fail c.uid ST_BUSY)) ∧
    (Starts 0x0612 q tag s c → c.desc.object ≤ 15 → c.desc.u 32 4 ≤ 64 + 4 * 65536 → (s.tune.gens.getD c.desc.object {}).state ≠ 1 → exec (.tuneCapRead q tag) s =
      .next ((s.start c.uid).askRead c)) ∧
    (Starts 0x0604 q tag s c → s.Paced → exec (.tuneStatus q tag) s = .next ((s.start c.uid).answer c [] (((List.range 32).flatMap fun b => leBytes 1 (s.trace b).state) ++
      (List.range 16).flatMap fun g => leBytes 1 (s.tune.gens.getD g {}).state)))) ∧
  (∀ (s : State) (g : Nat) (x : Gen), s.tune.gens.get? g = some x → x.state = 1 → genTotal x.cfg ≤ x.n → exec (.injectionLengthReached g) s = .next (s.endGen g 0)) ∧
  (∀ (s : State) (g k : Nat) (x : Gen), s.tune.gens = [(g, x)] → (s.endGen g k).tune.gens = [(g, { x with state := 2, endCause := k, uid := none })]) ∧
  (∀ (s : State) (g : Gen) (u k w : Nat), g.uid = some u → s.genStarted g k w = s.okUid u (pack [(1, k), (3, 0), (4, w)])) ∧
  (∀ v : Nat, 1 ≤ v → v < 2 ^ 15 → 1 ≤ lfsrStep v ∧ lfsrStep v < 2 ^ 15) ∧
  (∀ (s : State) (x : Gen), genTotal x.cfg ≤ x.n → s.injAt x = (0, s))) ∧
  (∀ (s u : State) (b : Nat) (t r : Trace), s.traceGone.tune.traces.get? b = some t → t.due = true → 1 ≤ t.state → t.state ≤ 3 → r = s.traceGone.recordTrace t →
    u = { s.traceGone with tune := { s.traceGone.tune with traces := s.traceGone.tune.traces.set b r } } →
    exec (.traceSample b) s = .next (if r.state = 3 ∧ TRACE_LEN - tracePre t.cfg ≤ r.post then u.endTrace b 0 else u))

/-! ### Power stages (chapter 08) -/

/-- R246, R247, R248, R249, R250: the stage commands: a cabinet record that is in order is stored, a check and an enable that nothing refuses are ordered, a disable stops the stage, and a
read returns nine records for each node. A locked stage answers ST_LOCKED_OUT to a check. Model's own readings it rests on: log entries 18, 74. -/
def Obligations.StageCommands : Prop :=
  ∀ (s : State) (q tag : Nat) (c : InFlight),
    (∀ r, Starts 0x0700 q tag s c → c.record 224 = some r → s.nodeKind c.desc.object = 1 → allZero r = false → cabRanges c.desc.object r = true → s.cabRefs c.desc.object r = true →
      (∀ e ∈ s.stg.stages, e.1 % 65536 = c.desc.object → (e.2.state = 0 ∨ e.2.state = 6) ∧ e.2.owner ≠ 1) → exec (.stgConfig q tag) s =
        .next ((({ (s.start c.uid) with stg := { s.stg with cabinets := s.stg.cabinets.set c.desc.object r } }).lockStages).ok c [])) ∧
    (Starts 0x0701 q tag s c → s.checkRefusal c.desc.object 0 = none → exec (.stgCheck q tag) s = .next ((s.start c.uid).checkStage c.desc.object 0 (some c.uid))) ∧
    (Starts 0x0701 q tag s c → s.stageExists c.desc.object = true → (s.stage c.desc.object).state = 6 → exec (.stgCheck q tag) s = .next ((s.start c.uid).fail c.uid ST_LOCKED_OUT)) ∧
    (∀ t, Starts 0x0702 q tag s c → (s.start c.uid).enableRefusal c.desc.object 0 (c.desc.u 32 2) (c.desc.u 34 2) (c.desc.u 36 2) = (none, t) → exec (.stgEnable q tag) s =
      .next (t.enableStage c.desc.object 0 (c.desc.u 32 2) (c.desc.u 34 2) (c.desc.u 36 2) (some c.uid))) ∧
    (∀ st t, Starts 0x0702 q tag s c → (s.start c.uid).enableRefusal c.desc.object 0 (c.desc.u 32 2) (c.desc.u 34 2) (c.desc.u 36 2) = (some st, t) → exec (.stgEnable q tag) s =
      .next (t.fail c.uid st)) ∧
    (Starts 0x0703 q tag s c → s.stageExists c.desc.object = true → (s.stage c.desc.object).state ≠ 0 → (s.stage c.desc.object).state ≠ 6 → exec (.stgDisable q tag) s =
      .next (((s.start c.uid).disableStages c.desc.object).ok c [])) ∧
    (Starts 0x0703 q tag s c → s.stageExists c.desc.object = true → (s.stage c.desc.object).state = 0 ∨ (s.stage c.desc.object).state = 6 → exec (.stgDisable q tag) s =
      .next ((s.start c.uid).ok c [])) ∧
    (Starts 0x0704 q tag s c → 1 ≤ c.desc.u 34 2 → c.desc.u 34 2 ≤ 256 → 288 * c.desc.u 34 2 ≤ c.desc.dataLen → c.desc.u 32 2 + c.desc.u 34 2 ≤ 0x1000 → exec (.stgRead q tag) s =
      .next ((s.start c.uid).answer c [] ((List.range (c.desc.u 34 2)).flatMap fun j => (List.range 9).flatMap fun k => s.stageRecord (c.desc.u 32 2 + j) k)))

/-- R233, R238, R248, R243: no enable is carried out without a valid token of the stage's own current check: a locked stage answers ST_LOCKED_OUT, one that is IDLE or CHECKING ST_NO_TOKEN, one whose token is missing, of another check or epoch, or expired, is refused; and the enable consumes the token. The capability of a stage's output is at most the sum of its converters' ratings, and a fenced phase never raises the sum of a stage's converter capabilities. Model's own readings it rests on: log entry 81. -/
def Obligations.TokenAndCapability : Prop :=
  ((∀ (s t : State) (obj owner v d l : Nat), s.enableRefusal obj owner v d l = (none, t) → (s.stage obj).state = 2 ∧ s.tokenValid obj = true) ∧
  (∀ (s : State) (obj owner v d l : Nat), s.stageExists obj = true → v ≤ 1500 → d ≤ 500 → l ≤ 10000 → ((s.stage obj).owner = 1 → owner ≠ 0) →
    ((s.stage obj).state = 6 → s.enableRefusal obj owner v d l = (some ST_LOCKED_OUT, s)) ∧ ((s.stage obj).state < 2 → s.enableRefusal obj owner v d l = (some ST_NO_TOKEN, s)) ∧
    ((s.stage obj).state = 3 ∨ (s.stage obj).state = 4 ∨ (s.stage obj).state = 5 → s.enableRefusal obj owner v d l = (some ST_BUSY, s))) ∧
  (∀ (s : State) (obj : Nat), s.tokenValid obj = true ↔ ∃ k, (s.stage obj).token = some k ∧ k.seq = (s.stage obj).checkSeq ∧ k.epoch = (s.node (obj % 65536)).epoch ∧
    s.now < k.rxAt + k.validMs * ms) ∧
  (∀ (s : State) (obj owner v d l : Nat) (u : Option Nat), ((s.enableStage obj owner v d l u).stage obj).token = none ∧ ((s.enableStage obj owner v d l u).stage obj).state = 3 ∧
    ∀ o, o ≠ obj → (s.enableStage obj owner v d l u).stage o = s.stage o)) ∧
  ((∀ (s : State) (n o : Nat), (∀ c ∈ convs (s.stg.cabinets.getD n []), c.role ≠ 0 → 1 ≤ c.phases ∧ c.phases ≤ 6) → s.stageKw n (o + 1) ≤ s.stageRating n (o + 1)) ∧
  (∀ (s : State) (n k : Nat) (f : BitVec 96), (s.updStage (stageObj n k) fun x => { x with fenced := x.fenced ||| f }).stageCap60 n k ≤ s.stageCap60 n k))

/-- R231, R235, R236, R238, R239, R242, R247: the events of a stage. A check ends by its result, by the items a status block reports, or after 40 ms with its result; a short locks the stage, also after Granite has locked it, and disables the other enabled stages of its outlets; a loop armed on a stopped stage starts from zero. Model's own readings it rests on: log entries 19, 129, 134. -/
def Obligations.StageEvents : Prop :=
  (∀ (s : State) (node stage seq failed : Nat), exec (.checkResult node stage seq failed) s = .next (s.checkDone node stage (seq % 65536) failed)) ∧
  (∀ (s : State) (node stage seq failed : Nat), s.grnHears node = true → stage ≤ 8 → bit (failed % 32) 2 = false → failed % 32 ≠ 0 → (s.stage (stageObj node stage)).state = 1 →
    s.checkDone node stage seq failed = s.checkFails (stageObj node stage) 0 ST_CHECK_FAIL (failed % 32 + if s.safetyItem node stage then 0 else 32) seq) ∧
  (∀ (s : State) (o : Nat), (s.stage o).state = 1 → (s.stage o).since + 40 * ms ≤ s.now → exec (.checkTimeout o) s =
    .next (((s.stopStage o 0 (s.stage o).stopCause ST_TIMEOUT).raise 0x07 0x0001 o).report SRC_STG_PRESTART o)) ∧
  (∀ (s : State) (o : Nat) (k : Token), (s.stage o).token = some k → (s.stage o).state = 2 → k.rxAt + k.validMs * ms ≤ s.now → exec (.tokenExpiry o) s =
    .next (s.updStage o fun x => { x with state := 0, token := none, owner := 0 })) ∧
  (∀ (s : State) (o t : Nat), (s.stage o).nearSince = some t → (s.stage o).state = 3 → t + ms ≤ s.now → ∃ u : State, exec (.softStartEnd o) s = .next u ∧ (u.stage o).state = 4 ∧
    u.stg.cabinets = s.stg.cabinets ∧ ∀ p, p ≠ o → u.stage p = s.stage p) ∧
  (∀ (s : State) (o : Nat), (s.stage o).state = 3 → (s.stage o).since + s.pms PAR_STG_SS_TIMEOUT_MS ≤ s.now → exec (.softStartTimeout o) s =
    .next ((s.stopStage o 0 3 ST_TIMEOUT).raise 0x07 0x0003 o)) ∧
  (∀ (s t : State) (o : Nat), (s.stage o).state = 3 → t = s.stopStage o 6 2 ST_LOCKED_OUT → exec (.softStartShort o) s =
    .next (((((t.sameOutlets o).foldl State.disableStage t).shortTrip (o % 65536) (o / 65536)).raise 0x07 0x0002 o).report SRC_STG_SHORT o)) ∧
  (∀ (s t : State) (o : Nat), (s.stage o).state = 6 → (s.stage o).cutShort = true → t = s.updStage o (fun x => { x with stopCause := 2, cutShort := false }) → exec (.softStartShort o) s =
    .next (((((t.sameOutlets o).foldl State.disableStage t).shortTrip (o % 65536) (o / 65536)).raise 0x07 0x0002 o).report SRC_STG_SHORT o)) ∧
  (∀ (x : Stage) (now : Nat), (x.state = 1 → x.result now = checkResult 0 x.checkSeq) ∧ (x.state ≠ 1 → x.result now = enableResult x now)) ∧
  (∀ (s : State) (o seq f : Nat), (s.stage o).state = 1 → f ≠ 0 → s.checkSeen o seq f =
    (s.updStage o fun x => { x with checkSeq := seq, lastFail := f }).checkFails o (if bit f 2 then 6 else 0) (if bit f 2 then ST_LOCKED_OUT else ST_CHECK_FAIL) f seq) ∧
  (∀ (s : State) (i w : Nat) (u : Option Nat), (s.inst i).state = 1 → s.nodeArmable (coefNode (s.coef i)) = 0 → s.startBarred i = false → s.stopped i = true →
    ((s.armEffect i w 1 u 2 true).1.inst i).trackFrom = some 0 ∧ ((s.armEffect i w 1 u 2 true).1.inst i).track = true) ∧
  (∀ (s : State) (o : Nat), (s.stage o).state = 5 → exec (.holdRampZero o) s = .next ((s.stopStage o 0 4 ST_ABORTED).raise 0x07 0x0006 o)) ∧
  (∀ (s : State) (o : Nat) (l : List Nat), exec (.phaseFenceReport o l) s = .next (s.phaseFences o l)) ∧
  (∀ (s : State) (n : NodeStatus), (s.node n.node).state ≠ 0 → exec (.nodeStatusBlock n) s =
    .next (n.stages.foldl (State.stageReport n.node) ((s.nodeHeard n.node).updNode n.node fun x => { x with outKw := n.outputKw }))) ∧
  (∀ (s : State) (o seq f : Nat), (s.stage o).state ≠ 1 → (s.stage o).checkSeq = seq → s.checkSeen o seq f =
    s.updStage o fun x => { x with checkSeq := seq, lastFail := f ||| (x.lastFail &&& 32) })

/-! ### Cable cooling (chapter 09) -/

/-- R264, R269, R270, R271: the cooling commands; a BAS command on a loop of a circuit that is not OFF completes with ST_BUSY. Model's own readings it rests on: log entries 26, 61. -/
def Obligations.CoolingCommands : Prop :=
  ∀ (s : State) (q tag : Nat) (c : InFlight),
    (∀ r, Starts 0x0800 q tag s c → c.record 64 = some r → c.desc.object ≤ 255 → allZero r = false → s.circuitOk c.desc.object r = true → (s.circuit c.desc.object).state = 0 →
      exec (.coolConfig q tag) s = .next (({ (s.start c.uid) with cool := { s.cool with recs := s.cool.recs.set c.desc.object r } }).ok c [])) ∧
    (∀ r, Starts 0x0800 q tag s c → c.record 64 = some r → c.desc.object ≤ 255 → allZero r = true → (s.circuit c.desc.object).state = 0 →
      exec (.coolConfig q tag) s = .next (({ (s.start c.uid) with cool := { s.cool with recs := s.cool.recs.del c.desc.object } }).ok c [])) ∧
    (Starts 0x0801 q tag s c → (s.cool.recs.get? c.desc.object).isSome = true → s.ctxOf c.desc.object = none →
      ((s.circuit c.desc.object).state = 0 → exec (.coolStart q tag) s = .next (((s.start c.uid).startCircuit c.desc.object).ok c [])) ∧
      ((s.circuit c.desc.object).state ≠ 0 → exec (.coolStart q tag) s = .next ((s.start c.uid).ok c []))) ∧
    (Starts 0x0802 q tag s c → (s.cool.recs.get? c.desc.object).isSome = true → s.ctxOf c.desc.object = none →
      (1 ≤ (s.circuit c.desc.object).state → (s.circuit c.desc.object).state ≤ 3 → exec (.coolStop q tag) s = .next ((s.start c.uid).updCircuit c.desc.object fun x =>
        { x with endAt := some (x.endAt.getD s.now), stops := x.stops ++ [c.uid] })) ∧
      ((s.circuit c.desc.object).state = 0 → exec (.coolStop q tag) s = .next ((s.start c.uid).ok c []))) ∧
    (Starts 0x0803 q tag s c → (s.cool.recs.get? c.desc.object).isSome = true → s.ctxOf c.desc.object = none → (s.circuit c.desc.object).state = 4 → s.held 5 c.desc.object 2 = false →
      (sInt (coolTTrip (s.circuitRec c.desc.object))).le (s.circuit c.desc.object).tC = false → s.pinOf c.desc.object = none → exec (.coolReset q tag) s =
        .next (((s.start c.uid).startCircuit c.desc.object).ok c [])) ∧
    (Starts 0x0803 q tag s c → (s.cool.recs.get? c.desc.object).isSome = true → s.ctxOf c.desc.object = none → (s.circuit c.desc.object).state ≠ 4 → exec (.coolReset q tag) s =
      .next ((s.start c.uid).fail c.uid ST_BAD_PARAM)) ∧
    (Starts 0x0501 q tag s c → s.coolOwns c.desc.object = true → exec (.basArm q tag) s = .next ((s.start c.uid).fail c.uid ST_BUSY)) ∧
    (Starts 0x0503 q tag s c → s.coolOwns c.desc.object = true → exec (.basDisarm q tag) s = .next ((s.start c.uid).fail c.uid ST_BUSY)) ∧
    (∀ (i : Nat), (s.coolOwns i = true ↔ ∃ e ∈ s.cool.recs, (coolPump e.2 = i ∨ coolValve e.2 = i) ∧ (s.circuit e.1).state ≠ 0)) ∧
    (Starts 0x0804 q tag s c → 1 ≤ c.desc.u 34 2 → c.desc.u 34 2 ≤ 256 → 32 * c.desc.u 34 2 ≤ c.desc.dataLen → c.desc.u 32 1 + c.desc.u 34 2 ≤ 256 → ∃ (t : State) (l : List Byte),
      exec (.coolRead q tag) s = .next (t.answer c [] l) ∧ l.length = 32 * c.desc.u 34 2 ∧ t = { (s.start c.uid) with fresh := t.fresh })

/-- R256, R258, R259, R261, R262, R264, R273: the events of a circuit: samples, an input lost and valid again, the end and the timeout of priming, the run-on, and the observer's cycle. Lost coolant temperatures hold their last values; i_lim that falls below I_MAX_A raises COOL_DERATE; a cooling limit of 0 kW refuses leave. The cap on the current moves toward its target by COOL_LOSS_RAMP_AS and no faster, and it never falls while every input is valid. Model's own readings it rests on: log entries 25, 62, 88, 89. -/
def Obligations.CoolingEvents : Prop :=
  ((∀ (s : State) (n : Nat) (r : Rec) (a b pump p0 p1 : Int) (f : Nat), s.cool.recs.get? n = some r → ∃ t : State, exec (.coolingSample n a b f pump p0 p1) s = .next t ∧
    (t.circuit n).sample = some ⟨s.now, a, b, f, pump, p0, p1⟩ ∧ (t.circuit n).state = (s.circuit n).state ∧ (t.circuit n).lost = (s.circuit n).lost ∧
    ((s.circuit n).lost.getLsbD 0 = true → (t.circuit n).heldIn = (s.circuit n).heldIn ∧ (t.circuit n).heldOut = (s.circuit n).heldOut) ∧ t = { s with cool := t.cool }) ∧
  (∀ (s : State) (n k : Nat), (s.circuit n).state = 2 ∨ (s.circuit n).state = 3 → k < 3 → (s.circuit n).lost.getLsbD k = false → s.coolLoss n k = true → s.isActive = true →
    ∃ t : State, exec (.inputLost n k) s = .next t ∧ (t.circuit n).lost.getLsbD k = true) ∧
  (∀ (s : State) (n k : Nat), (s.circuit n).state = 3 → k < 3 → (s.circuit n).lost.getLsbD k = true → lasted ((s.circuit n).okSince.get? k) (10 * sec) s.now = true → s.isActive = true →
    ∃ t : State, exec (.inputValidAgain n k) s = .next t ∧ (t.circuit n).lost.getLsbD k = false ∧ ((t.circuit n).state = 2 ↔ (t.circuit n).lost = 0) ∧ t = { s with cool := t.cool }) ∧
  (∀ (s : State) (n : Nat), (s.circuit n).state = 1 → s.coolLoss n 0 = false →
    lasted (s.circuit n).primeSince (s.pms PAR_COOL_PRIME_MS) s.now = true → exec (.primingDone n) s = .next (s.updCircuit n fun c => { c with state := 2 })) ∧
  (∀ (s : State) (n : Nat), (s.circuit n).state = 1 → (s.circuit n).enteredAt + s.pms PAR_COOL_PRIME_MAX_MS ≤ s.now → exec (.primingTimeout n) s = .next (s.circuitFails n 1 0x0005)) ∧
  (∀ (s : State) (n : Nat), s.mayOff n = true → exec (.coolRunonExpiry n) s = .next (s.circuitOff n)) ∧
  (∀ s : State, s.isActive = true → exec .coolingObserverCycle s = .next ((s.cool.recs.keys.foldl State.circuitCycle s).handLimits)) ∧
  (∀ (s : State) (n : Nat), s.cool.recs.get? n = none → s.coolLimitKw n = none) ∧
  (∀ (s : State) (n : Nat) (r : Rec), s.cool.recs.get? n = some r → (s.circuit n).state ≠ 2 → (s.circuit n).state ≠ 3 → s.coolLimitKw n = some 0) ∧
  (∀ (s : State) (r : LeaveReq), s.slotOf r.consumer = none → s.allFenced r.consumer = false → s.lv.coolLimit.get? r.consumer = some 0 →
    s.leaveAsk r = s.decided r ST_NO_LEAVE 0 0) ∧
  (∀ (s : State) (n : Nat) (o : ObsOut) (cap : Option Nat), o.trip = 0 → cap ≠ some 0 → o.iLim.eq (sInt (coolIMax (s.circuitRec n))) = false → (s.circuit n).derated = false →
    s.observed n o cap = (s.updCircuit n fun c => { c with tC := o.tC, tS := o.tS, tK := o.tK, iLim := o.iLim, capMa := cap, derated := true }).raise 0x08 0x0001 n)) ∧
  ((∀ (s : State) (n m k : Nat), (s.circuit n).capMa = some m → s.capTarget n = some k → ∃ v, s.nextCap n = some v ∧ (m ≤ v + s.pn PAR_COOL_LOSS_RAMP_AS ∧ v ≤ m + s.pn PAR_COOL_LOSS_RAMP_AS) ∧
    ((k ≤ v ∧ v ≤ m) ∨ (m ≤ v ∧ v ≤ k))) ∧
  (∀ (s : State) (n m : Nat), (s.circuit n).capMa = some m → s.capTarget n = none →
    s.nextCap n = none ∧ 1000 * coolIMax (s.circuitRec n) ≤ m + s.pn PAR_COOL_LOSS_RAMP_AS ∨ s.nextCap n = some (m + s.pn PAR_COOL_LOSS_RAMP_AS)) ∧
  (∀ (s : State) (n : Nat), 2 ≤ lostCount (s.circuit n) → s.held 5 n 1 = false → s.capTarget n = some 0) ∧
  (∀ (s : State) (n : Nat), (s.circuit n).lost = 4 → s.held 5 n 1 = false → s.capTarget n = some (10 * coolIMax (s.circuitRec n) * s.pn PAR_COOL_OPENLOOP_PCT)))

/-! ### Vehicle sessions (chapter 10) -/

/-- R296, R297, R298, R299, R300: the session commands. Model's own readings it rests on: log entry 27. -/
def Obligations.SessionCommands : Prop :=
  ∀ (s : State) (q tag : Nat) (c : InFlight),
    (∀ r, Starts 0x0900 q tag s c → c.record 64 = some r → c.desc.object ≤ 255 → allZero r = false → s.outletOk c.desc.object r = true → s.ctxOf c.desc.object = none →
      exec (.sesOutletConfig q tag) s = .next (({ (s.start c.uid) with ses := { s.ses with recs := s.ses.recs.set c.desc.object r } }).ok c [])) ∧
    (∀ r, Starts 0x0900 q tag s c → c.record 64 = some r → c.desc.object ≤ 255 → allZero r = true → s.ctxOf c.desc.object = none →
      exec (.sesOutletConfig q tag) s = .next (({ (s.start c.uid) with ses := { s.ses with recs := s.ses.recs.del c.desc.object } }).ok c [])) ∧
    (∀ r, Starts 0x0900 q tag s c → c.record 64 = some r → c.desc.object ≤ 255 → s.outletOk c.desc.object r = true → (s.ctxOf c.desc.object).isSome = true →
      exec (.sesOutletConfig q tag) s = .next ((s.start c.uid).fail c.uid ST_BUSY)) ∧
    (Starts 0x0901 q tag s c → (s.ses.recs.get? c.desc.object).isSome = true → c.desc.u 32 1 ≤ 1 →
      exec (.sesOutletState q tag) s = .next (((s.start c.uid).updOutlet c.desc.object fun l => { l with disabled := c.desc.u 32 1 == 1 }).ok c [])) ∧
    (Starts 0x0901 q tag s c → (s.ses.recs.get? c.desc.object).isSome = true → c.desc.u 32 1 = 2 → s.outDv c.desc.object < 600 →
      exec (.sesOutletState q tag) s = .next (((s.start c.uid).updOutlet c.desc.object fun l => { l with weld := false }).ok c [])) ∧
    (Starts 0x0901 q tag s c → (s.ses.recs.get? c.desc.object).isSome = true → c.desc.u 32 1 = 2 → 600 ≤ s.outDv c.desc.object →
      exec (.sesOutletState q tag) s = .next ((s.start c.uid).fail c.uid ST_BUSY)) ∧
    (∀ x, Starts 0x0902 q tag s c → s.ses.ctxs.get? c.desc.object = some x → x.state = 2 → x.auth = 1 → c.desc.u 32 1 = 1 → c.desc.u 34 2 ≤ 4095 →
      exec (.sesAuthorise q tag) s = .next (((s.start c.uid).updCtx c.desc.object fun x => { x with auth := 2, account := c.desc.u 34 2, energyMax := c.desc.u 40 8 }).ok c [])) ∧
    (∀ x, Starts 0x0902 q tag s c → s.ses.ctxs.get? c.desc.object = some x → x.state = 2 → x.auth = 1 → c.desc.u 32 1 = 0 → c.desc.u 34 2 ≤ 4095 →
      exec (.sesAuthorise q tag) s = .next (((s.start c.uid).endSession c.desc.object 6 true).ok c [])) ∧
    (∀ x, Starts 0x0902 q tag s c → s.ses.ctxs.get? c.desc.object = some x → x.state ≠ 2 ∨ x.auth ≠ 1 →
      exec (.sesAuthorise q tag) s = .next ((s.start c.uid).fail c.uid ST_BAD_PARAM)) ∧
    (∀ x, Starts 0x0903 q tag s c → s.ses.ctxs.get? c.desc.object = some x → x.state < 8 → c.desc.u 32 1 ≤ 1 → exec (.sesStop q tag) s =
      .next (((s.start c.uid).updCtx c.desc.object fun x => { x with stops := x.stops ++ [c.uid] }).endSession c.desc.object 2 (c.desc.u 32 1 == 1))) ∧
    (∀ x, Starts 0x0903 q tag s c → s.ses.ctxs.get? c.desc.object = some x → x.state = 9 → c.desc.u 32 1 ≤ 1 → exec (.sesStop q tag) s = .next ((s.start c.uid).ok c [])) ∧
    (Starts 0x0904 q tag s c → 1 ≤ c.desc.u 34 2 → c.desc.u 34 2 ≤ 256 → 64 * c.desc.u 34 2 ≤ c.desc.dataLen → c.desc.u 32 1 + c.desc.u 34 2 ≤ 256 →
      exec (.sesRead q tag) s = .next ((s.start c.uid).answer c [] ((List.range (c.desc.u 34 2)).flatMap fun j => (s.start c.uid).ctxRecord (c.desc.u 32 1 + j))))

/-- R277, R278, R284, R286, R288, R289, R290, R292, R293, R294, R301: the events of a session: the connector and the link, a frame of the vehicle and the TCP segment in it, charge parameters that do not fit the outlet, a start out of tolerance, the site cycle, the timeouts with the cause that each ends the session with, the changes of the leave, the end of the current in a stop, and a welded contactor. The parts of the message handling are the model's own operations. The end of a session. Before PRECHARGE it goes to CLOSING, from PRECHARGE on to STOPPING, an emergency in PRECHARGE and for every cause in TRANSFER but VEHICLE, HOST, CREDIT and ENERGY_LIMIT (the numbers of normalCause); a normal stop becomes an emergency stop where a later cause asks for one; other contexts keep their state; a response to a vehicle waits for an image with a synchronised standby. Model's own readings it rests on: log entries 27, 29, 78, 87, 91, 136, 137, 138. -/
def Obligations.SessionEvents : Prop :=
  ((∀ (s : State) (node con seq o n : Nat) (x : Ctx), s.outletAt node con = some o → s.ctxOf o = none → s.outletFree o = true → s.ses.ctxs.freeFrom 0 256 = some n → ∃ t : State,
    exec (.connectionEvent node con seq .plugged) s = .next t ∧ (t.ses.ctxs.getD n x).state = 1 ∧ (t.ses.ctxs.getD n x).outlet = o ∧ (t.ses.ctxs.getD n x).pluggedAt = s.now ∧
      ∀ m, m ≠ n → t.ses.ctxs.get? m = s.ses.ctxs.get? m) ∧
  (∀ (s : State) (node con seq o : Nat), s.outletAt node con = some o → s.ctxOf o = none → exec (.linkEvent node con seq true) s = .next (s.tunnelSeq o seq) ∧
    exec (.linkEvent node con seq false) s = .next (s.tunnelSeq o seq) ∧ exec (.connectionEvent node con seq .lockOk) s = .next (s.tunnelSeq o seq)) ∧
  (∀ (s : State) (node con seq o n : Nat) (c : Ctx), s.outletAt node con = some o → (s.tunnelSeq o seq).ctxOf o = some (n, c) → (s.tunnelSeq o seq).isActive = true →
    exec (.linkEvent node con seq true) s = .next (((s.tunnelSeq o seq).updCtx n fun c => { c with link := true, mac := none }).maybeComm n) ∧
    exec (.linkEvent node con seq false) s = .next (((s.tunnelSeq o seq).updCtx n fun c => { c with link := false }).endSession n 3 true) ∧
    exec (.connectionEvent node con seq .lockOk) s = .next (((s.tunnelSeq o seq).updCtx n fun c => { c with lock := true }).maybeComm n) ∧
    exec (.connectionEvent node con seq .pilotError) s = .next ((s.tunnelSeq o seq).endSession n 3 true) ∧
    (c.state = 4 → exec (.connectionEvent node con seq (.insulation false)) s = .next ((s.tunnelSeq o seq).endSession n 9 false) ∧
      exec (.connectionEvent node con seq (.insulation true)) s = .next ((s.tunnelSeq o seq).updCtx n fun c => { c with insOk := true }))) ∧
  (∀ (s : State) (node con seq mac o n : Nat) (f : VehicleFrame) (c d : Ctx), s.outletAt node con = some o → (s.tunnelSeq o seq).ctxOf o = some (n, c) → (s.tunnelSeq o seq).isActive = true →
    c.link = true → c.state ≠ 9 → s.now < c.rxStart + sec → 1 ≤ c.rxCount → c.rxCount + 1 ≤ c.par PAR_SES_RX_LIMIT_FPS → (∀ m, c.mac = some m → m = mac) →
    d = { c with rxCount := c.rxCount + 1, mac := some mac } →
    exec (.vehicleFrame node con seq mac f) s = .next (((s.tunnelSeq o seq).updCtx n fun _ => d).sesPacket n d f)) ∧
  (∀ (s : State) (n port q len ip l : Nat) (c d : Ctx) (k : TcpConn) (m : VehicleMsg), c.tcp = some k → k.port = port → k.rcvNxt = q → c.ip = some ip →
    d = { c with tcp := some { k with rcvNxt := (q + len) % 2 ^ 32 }, rxRecord := if c.tls then c.rxRecord + 1 else c.rxRecord } →
    s.sesPacket n c ⟨l, ip, .segment port q len m⟩ = (s.updCtx n fun _ => d).sesMessage n d m) ∧
  (∀ (s : State) (n : Nat) (c : Ctx) (p : ChargeParams), 2 ≤ c.state → c.state ≤ 5 → c.auth = 2 → paramsFit (s.outletRec c.outlet) p = false →
    s.sesMessage n c (.parameters p) = (s.respond n false).endSession n 4 true) ∧
  (∀ (s : State) (n tv : Nat) (c : Ctx), c.evTargetV = some tv → c.step ≠ 3 → tv + 10 * c.par PAR_SES_PRE_TOL_V < s.outDv c.outlet → s.sesStart n c = (s.respond n false).endSession n 13 true) ∧
  (∀ (s : State) (c : Ctx) (ok : Bool), ((s.reply c ok).ongoing = true ↔ c.auth = 1 ∨ c.state = 5) ∧ (s.reply c ok).volt = s.outDv c.outlet ∧ (s.reply c ok).limitA = c.iLimit ∧ (s.reply c ok).ok = ok) ∧
  (∀ (s : State) (o : Nat) (m : TunnelMsg), (s.tunnel o m).out = .tunnel o (s.outletLive o).txSeq m :: s.out ∧ ((s.tunnel o m).outletLive o).txSeq = ((s.outletLive o).txSeq + 1) % 65536) ∧
  (∀ (s : State) (node con seq mac : Nat) (m : VehicleFrame) (o : Nat), s.outletAt node con = some o → s.ctxOf o = none → exec (.vehicleFrame node con seq mac m) s = .next (s.tunnelSeq o seq)) ∧
  (∀ (s : State) (node con seq mac : Nat) (m : VehicleFrame), s.outletAt node con = none → exec (.vehicleFrame node con seq mac m) s = .next s) ∧
  (∀ (s : State) (o t : Nat), (s.outletLive o).retryAt = some t → t ≤ s.now → (s.outletLive o).plugged = true → exec (.noContextRetry o) s = .next (s.plug o)) ∧
  (∀ (s : State) (n : Nat) (c : Ctx), s.ses.ctxs.get? n = some c → s.isActive = true →
    (c.state = 1 → c.pluggedAt + c.par PAR_SES_LINK_S * sec ≤ s.now → exec (.sesLinkTimeout n) s = .next (s.endSession n 4 true)) ∧
    (c.state = 2 → c.auth = 1 → c.authAt + c.par PAR_SES_AUTH_TIMEOUT_MS * ms ≤ s.now → exec (.authTimeout n) s = .next (s.endSession n 6 true)) ∧
    (c.state = 4 → c.insOk = false ∨ 600 ≤ s.outDv c.outlet → c.cableAt + c.par PAR_SES_CABLE_MAX_S * sec ≤ s.now → exec (.cableCheckTimeout n) s = .next (s.endSession n 9 true)) ∧
    (c.state = 7 → c.demandAt + c.par PAR_SES_DEMAND_TIMEOUT_MS * ms ≤ s.now → exec (.demandTimeout n) s = .next (s.endSession n 5 true)) ∧
    (2 ≤ c.state → c.state ≤ 7 → exec (.protocolTimeout n) s = .next (s.endSession n 5 true)) ∧
    (∀ t, 4 ≤ c.state → c.state ≤ 8 → c.overSince = some t → t + ms ≤ s.now → exec (.overvoltageDetected n) s = .next (s.endSession n 14 true)) ∧
    (∀ t, 4 ≤ c.state → c.state ≤ 8 → c.reverseSince = some t → t + 10 * ms ≤ s.now → exec (.reverseCurrentDetected n) s = .next (s.endSession n 15 true)) ∧
    (c.state = 8 → ampsBelow (s.outAmps c.outlet) 5 = true → c.emergency = true ∨ lasted c.smallSince (10 * ms) s.now = true → exec (.stopCurrentLow n) s = .next (s.stagesOff n)) ∧
    (c.state = 8 → c.emergency = true → c.stopAt + c.par PAR_SES_ESTOP_MS * ms ≤ s.now → exec (.estopTimeout n) s = .next (s.stagesOff n)) ∧
    (∀ t, c.state = 7 → c.asking = false → c.lowSince = some t → t + c.par PAR_SES_SHRINK_S * sec ≤ s.now → s.mayAsk c = true →
      max (outMinKw (s.outletRec c.outlet)) (ceilDiv ((100 + c.par PAR_SES_SHRINK_PCT) * c.targetP) 10000000) < s.grantKw c.outlet → exec (.shrinkTimer n) s =
        .next (s.sesChange n c (max (outMinKw (s.outletRec c.outlet)) (ceilDiv ((100 + c.par PAR_SES_SHRINK_PCT) * c.targetP) 10000000)) false)) ∧
    (∀ t, c.state = 7 → c.asking = false → c.highSince = some t → t + c.par PAR_SES_REGRANT_S * sec ≤ s.now → s.mayAsk c = true → s.grantKw c.outlet < s.sesKw c →
      exec (.regrantTimer n) s = .next (s.sesChange n c (s.sesKw c) true))) ∧
  (∀ (s : State) (n : Nat) (c : Ctx), s.ses.ctxs.get? n = some c → 9 ≤ c.state ∨ (c.state = 8 ∧ c.emergency = true) → ∀ k e, s.endSession n k e = s) ∧
  (∀ (s : State) (n k : Nat) (c : Ctx), s.ses.ctxs.get? n = some c → c.state = 8 → c.emergency = false →
    s.endSession n k true = s.makeEmergency n c ∧ s.endSession n k false = (if normalCause k then s else s.makeEmergency n c) ∧
    ∃ x, (s.makeEmergency n c).ses.ctxs.get? n = some x ∧ x = { c with emergency := true, stopAt := s.now, iRef := 0 }) ∧
  (∀ (s t : State), s.isActive = true → t = s.ses.ctxs.keys.foldl State.sesCycle s → exec .sessionLimitsCycle s =
    .next (t.ses.outlets.keys.foldl (fun (u : State) o => u.updOutlet o fun l => if u.outDv o < 600 then { l with contactorsAt := none } else l) t)) ∧
  (∀ (s : State) (o t : Nat), (s.outletLive o).contactorsAt = some t → t + 2 * sec ≤ s.now → 600 ≤ s.outDv o → exec (.weldCheckTimeout o) s =
    .next (((s.updOutlet o fun l => { l with weld := true, contactorsAt := none }).raise 0x09 0x0006 o).report SRC_SES_WELD o))) ∧
  ((∀ (s : State) (n k : Nat) (e : Bool) (c : Ctx), s.ses.ctxs.get? n = some c → c.state < 6 →
    ∃ x, (s.endSession n k e).ses.ctxs.get? n = some x ∧ x.state = 9 ∧ x.cause = k ∧ x.stops = []) ∧
  (∀ (s : State) (n k : Nat) (e : Bool) (c : Ctx), s.ses.ctxs.get? n = some c → 6 ≤ c.state → c.state < 8 →
    ∃ x, (s.endSession n k e).ses.ctxs.get? n = some x ∧ x.state = 8 ∧ x.cause = k ∧ x.stopAt = s.now ∧ x.stops = c.stops ∧
      (x.emergency = true ↔ e = true ∨ c.state = 6 ∨ normalCause k = false) ∧ (x.emergency = true → x.iRef = 0)) ∧
  (∀ (s : State) (n k m : Nat) (e : Bool), m ≠ n → (s.endSession n k e).ses.ctxs.get? m = s.ses.ctxs.get? m) ∧
  (∀ (s : State) (n : Nat) (c : Ctx) (k : TcpConn) (ok : Bool), s.ses.ctxs.get? n = some c → c.tcp = some k → s.isPaired = true →
    (s.respond n ok).out = s.out ∧ (s.respond n ok).ses.txWait.length = s.ses.txWait.length + 1))

/-! ### Metrology (chapter 11) -/

/-- R308, R333, R334, R335, R336, R337: the metrology commands. A sealed record needs the open seal and no open reading of its channel, and goes to the store; the rest is as each rule says. Model's own readings it rests on: log entries 32, 61. -/
def Obligations.MetrologyCommands : Prop :=
  ∀ (s : State) (q tag : Nat) (c : InFlight),
    (∀ r, Starts 0x0A00 q tag s c → c.record 64 = some r → c.desc.object ≤ 263 → allZero r = true ∨ s.chanRecOk c.desc.object r = true →
      (s.sealOpen = true → s.readingOpen c.desc.object = false → exec (.metChanConfig q tag) s = .next ((s.start c.uid).jasperStore c (.chan c.desc.object r))) ∧
      (s.sealOpen = true → s.readingOpen c.desc.object = true → exec (.metChanConfig q tag) s = .next ((s.start c.uid).fail c.uid ST_BUSY)) ∧
      (s.sealOpen = false → exec (.metChanConfig q tag) s = .next ((s.start c.uid).fail c.uid ST_LOCKED))) ∧
    (∀ r, Starts 0x0A01 q tag s c → c.record 176 = some r → s.calOk c.desc.object r = true →
      (s.sealOpen = true → s.readingOpen c.desc.object = false → exec (.metCalSet q tag) s = .next ((s.start c.uid).jasperStore c (.cal c.desc.object r))) ∧
      (s.sealOpen = false → exec (.metCalSet q tag) s = .next ((s.start c.uid).fail c.uid ST_LOCKED))) ∧
    (Starts 0x0A02 q tag s c → c.desc.u 32 1 = 0 → c.desc.dataLen = 0 →
      (s.sealOpen = true → exec (.metSeal q tag) s = .next ((s.start c.uid).jasperStore c (.seal none []))) ∧
      (s.sealOpen = false → exec (.metSeal q tag) s = .next ((s.start c.uid).metOk c.uid (pack [(4, s.met.sealCount)])))) ∧
    (Starts 0x0A02 q tag s c → c.desc.u 32 1 = 1 → c.desc.dataLen = 0 → s.sys.metOption = 0 →
      exec (.metSeal q tag) s = .next ((s.start c.uid).jasperStore c (.seal (some (s.islN PAR_MET_SEAL_MAX_MIN)) []))) ∧
    (Starts 0x0A02 q tag s c → c.desc.u 32 1 = 1 → s.sys.metOption ≠ 0 → c.desc.dataLen = 128 → c.desc.data.length = 128 → c.desc.data.take 4 = [0x53, 0x45, 0x41, 0x4C] →
      fld c.desc.data 24 1 = 1 → 1 ≤ fld c.desc.data 26 2 → fld c.desc.data 26 2 ≤ s.islN PAR_MET_SEAL_MAX_MIN → zeros c.desc.data 25 1 = true → zeros c.desc.data 30 2 = true →
      s.slotAllows (fld c.desc.data 28 2) 9 M_JASPER = true → s.slotAllows (fld c.desc.data 28 2) 1 M_JASPER = true →
      Config.verifies (fld c.desc.data 28 2) (c.desc.data.take 64) (c.desc.data.drop 64) = true →
      ((c.desc.data.drop 4).take 16 = padTo 16 s.sys.identity → fld c.desc.data 20 4 = s.met.sealCount + 1 → exec (.metSeal q tag) s =
        .next ((s.start c.uid).jasperStore c (.seal (some (fld c.desc.data 26 2)) ((c.desc.data.drop 32).take 32)))) ∧
      (fld c.desc.data 20 4 ≠ s.met.sealCount + 1 → exec (.metSeal q tag) s = .next ((s.start c.uid).fail c.uid ST_DENIED))) ∧
    (Starts 0x0A03 q tag s c → 1 ≤ c.desc.u 34 2 → c.desc.u 34 2 ≤ 264 → 64 * c.desc.u 34 2 ≤ c.desc.dataLen → c.desc.u 32 2 + c.desc.u 34 2 ≤ 264 → ∃ (t : State) (l : List Byte),
      exec (.metRead q tag) s = .next (t.answer c [] l) ∧ l.length = 64 * c.desc.u 34 2 ∧ t = { (s.start c.uid) with fresh := t.fresh }) ∧
    (∀ h, Starts 0x0A04 q tag s c → 256 ≤ c.desc.object → c.desc.object ≤ 263 → (s.chan c.desc.object).state = 2 → (s.chan c.desc.object).harm = some h → exec (.metHarmRead q tag) s =
      .next ((s.start c.uid).answer c [] (pack [(2, c.desc.object), (1, h.blocks.length), (1, 0), (8, h.endMs), (4, h.freq)] ++ h.blocks.flatMap harmBlock))) ∧
    (Starts 0x0A04 q tag s c → c.desc.object < 256 ∨ 263 < c.desc.object ∨ (s.chan c.desc.object).state ≠ 2 →
      exec (.metHarmRead q tag) s = .next ((s.start c.uid).fail c.uid ST_BAD_PARAM)) ∧
    (Starts 0x0A05 q tag s c → c.desc.object ≤ 263 → exec (.metCalRead q tag) s =
      .next ((s.start c.uid).answer c [] (padTo 64 (s.chanRec c.desc.object) ++ padTo 176 (s.calRec c.desc.object)))) ∧
    (∀ r, Starts 0x0A06 q tag s c → c.record 16 = some r → 2 ≤ c.desc.object → c.desc.object ≤ 7 → pulseQty r ≤ 7 → fld r 3 1 ≤ 1 → 1 ≤ pulseConst r → pulseConst r ≤ 1000000 →
      1 ≤ pulseWidth r → pulseWidth r ≤ 1000 → zeros r 10 6 = true → pulseChan r = 0xFFFF ∨ (pulseChan r ≤ 263 ∧ pulseQty r ∈ qtysOf (pulseChan r)) →
      exec (.metPulseSet q tag) s = .next ((s.start c.uid).jasperStore c (.pulse c.desc.object r))) ∧
    (Starts 0x0A07 q tag s c → c.desc.object ≤ 1 → c.desc.u 32 2 = 0xFFFF ∨ ((s.met.recs.get? (c.desc.u 32 2)).isSome = true ∧ c.desc.u 34 1 ∈ qtysOf (c.desc.u 32 2)) →
      exec (.metLegSelect q tag) s = .next ((s.start c.uid).jasperStore c (.leg c.desc.object (c.desc.u 32 2) (c.desc.u 34 1)))) ∧
    (∀ w, (s.jasperStore c w).met = { s.met with stores := s.met.stores ++ [(c.uid, w)] } ∧ (s.jasperStore c w).bil = s.bil)

/-- R308, R309, R311, R312, R314, R324, R325, R327: the events of metrology. A block that fails its checks is counted and changes nothing else, a second copy is dropped, and
an accepted one gives the channel its sequence number and ends its gap, whose missing blocks are filled up to GAP_MAX_MS; a channel starts after 100 accepted in succession, returns after 1,000, and is lost when its gap
or its overrange has lasted. Model's own readings it rests on: log entries 61, 62, 141. -/
def Obligations.MetrologyEvents : Prop :=
  (∀ (s : State) (b : SampleBlock), s.met.ready = false ∨ s.met.clock = false → exec (.sampleBlock b) s = .next s) ∧
  (∀ (s : State) (b : SampleBlock) (ch : Nat) (r : Rec), s.met.ready = true → s.met.clock = true → s.met.recs.find? (fun e => metSource e.2 == 1 && metHead e.2 == b.head) = some (ch, r) →
    (s.tagOk b = true → (s.chan ch).seq = some b.seq → exec (.sampleBlock b) s = .next s) ∧
    (s.tagOk b = false ∨ (b.hkind ≠ metKind r ∧ (s.chan ch).seq ≠ some b.seq) → exec (.sampleBlock b) s = .next (s.updChan ch fun c => { c with dropped := c.dropped + 1 })) ∧
    (s.tagOk b = true → b.hkind = metKind r → b.overrange = false →
      (∀ k, (s.chan ch).seq = some k → 1 ≤ (b.seq + 2 ^ 32 - k) % 2 ^ 32 ∧ (b.seq + 2 ^ 32 - k) % 2 ^ 32 < 2 ^ 31 ∧ k ≠ b.seq) →
      (b.sensorFault = true → exec (.sampleBlock b) s = .next s) ∧
      (b.sensorFault = false → ∃ t : State, exec (.sampleBlock b) s = .next t ∧ (t.chan ch).seq = some b.seq ∧ (t.chan ch).got = true ∧ (t.chan ch).gap = 0 ∧ (t.chan ch).filled = 0 ∧
        (t.chan ch).overSince = none ∧ (t.chan ch).state = (s.chan ch).state ∧
        (∀ k, (s.chan ch).seq = some k → ((t.chan ch).run = (s.chan ch).run + 1 ∨ (t.chan ch).run = 1) ∧ ((b.seq + 2 ^ 32 - k) % 2 ^ 32 = 1 → (t.chan ch).run = (s.chan ch).run + 1)) ∧
        (∀ k, (s.chan ch).seq = some k → (s.chan ch).state = 2 → (t.chan ch).gapMs = min (2 ^ 32 - 1)
          (((s.chan ch).gapMs : Int) + (min ((b.seq + 2 ^ 32 - k) % 2 ^ 32 - 1) (metGapMax r) : Nat) - ((s.chan ch).filled : Int)).toNat) ∧
        (∀ d, d ≠ ch → t.chan d = s.chan d) ∧
        ((∀ k, (s.chan ch).seq = some k → (b.seq + 2 ^ 32 - k) % 2 ^ 32 = 1) → t = { s with met := { s.met with chans := t.met.chans }, fresh := t.fresh })))) ∧
  (∀ (s : State) (k : Nat), k < 8 → s.met.steps.getD k 0 < 3 → 800 ≤ s.met.calm.getD k 0 → exec (.gainStepUp k) s =
    .next { s with met := { s.met with steps := s.met.steps.set k (s.met.steps.getD k 0 + 1), calm := s.met.calm.set k 0 } }) ∧
  (∀ (s : State) (ch : Nat), (s.chan ch).state = 2 → metGapMax (s.chanRec ch) < (s.chan ch).gap → exec (.gapExceeded ch) s = .next ((s.chanLost ch).noteFullStore)) ∧
  (∀ (s : State) (ch t : Nat), (s.chan ch).state = 2 → (s.chan ch).overSince = some t → t + sec ≤ s.now → exec (.overrangePersisted ch) s = .next ((s.chanLost ch).noteFullStore)) ∧
  (∀ (s : State) (ch : Nat), s.held 6 ch 2 = false → s.bil.full = false → s.bil.checkOk = true →
    ((s.chan ch).state = 1 → 100 ≤ (s.chan ch).run → exec (.channelStarted ch) s = .next (s.updChan ch fun c => { c with state := 2, gap := 0 })) ∧
    ((s.chan ch).state = 1 → (s.chan ch).run < 100 → exec (.channelStarted ch) s = .next s) ∧
    ((s.chan ch).state = 3 → 1000 ≤ (s.chan ch).run → exec (.channelBack ch) s =
      .next (((s.updChan ch fun c => { c with state := 2, gap := 0 }).raise 0x0A 0x0002 ch).legalLog 8 ch (leBytes 8 ((s.now - (s.chan ch).lostAt) / ms))))) ∧
  (∀ (s : State) (ch f : Nat) (l : List HarmBlock), 256 ≤ ch → (s.met.recs.get? ch).isSome = true → exec (.harmonicWindowEnd ch f l) s =
    .next (s.updChan ch fun c => { c with harm := some ⟨s.bil.live.legal, f, l⟩ })) ∧
  (∀ (s : State) (o t : Nat), 2 ≤ o → (s.met.pulses.getD o {}).since = some t → t + sec ≤ s.now → exec (.pulseBacklogPersisted o) s = .next (s.raise 0x0A 0x0007 o)) ∧
  (∀ (s : State) (t : Nat), s.met.sealEnd = some t → t ≤ s.now → exec .sealExpiry s =
    .next ((({ s with met := { s.met with sealCount := (s.met.sealCount + 1) % 2 ^ 32, sealEnd := none } }).legalLog 5 0xFFFF
      (leBytes 4 ((s.met.sealCount + 1) % 2 ^ 32))).raise 0x0A 0x0006 ((s.met.sealCount + 1) % 2 ^ 32))) ∧
  (∀ (s : State) (t : Nat), s.met.sealEnd = some t → s.now < t → exec .sealExpiry s = .next s)

/-! ### Legal registers, tariffs and readings (chapter 12) -/

/-- R343, R356, R357, R366, R373, R374: the billing commands. Model's own readings it rests on: log entries 61, 74. -/
def Obligations.BillingCommands : Prop :=
  ∀ (s : State) (q tag : Nat) (c : InFlight),
    (∀ r, Starts 0x0B00 q tag s c → c.record 256 = some r → tariffOk c.desc.object r = true →
      ((s.table c.desc.object).newest < fld r 16 4 → exec (.bilTariffSet q tag) s = .next ((s.start c.uid).jasperStore c (.tariff c.desc.object r))) ∧
      (fld r 16 4 ≤ (s.table c.desc.object).newest → exec (.bilTariffSet q tag) s = .next ((s.start c.uid).fail c.uid ST_BAD_PARAM))) ∧
    (∀ r, Starts 0x0B01 q tag s c → c.record 264 = some r → c.desc.object = 0 → (∀ b ∈ r, b.toNat < 16 ∨ b.toNat = 255) →
      exec (.bilTariffAssign q tag) s = .next ((s.start c.uid).jasperStore c (.assign r))) ∧
    (∀ r, Starts 0x0B02 q tag s c → c.record 32 = some r → c.desc.object ≤ 4095 → fld r 0 2 = c.desc.object → accKind r ≤ 2 → accState r ≤ 1 → accTable r ≤ 15 → fld r 5 1 ≤ 1 →
      zeros r 6 2 = true → zeros r 28 4 = true →
      (s.accountInUse c.desc.object = false → exec (.bilAccountSet q tag) s = .next ((s.start c.uid).jasperStore c (.account c.desc.object r))) ∧
      (s.accountInUse c.desc.object = true → accKind r = 0 → exec (.bilAccountSet q tag) s = .next ((s.start c.uid).fail c.uid ST_BUSY))) ∧
    (Starts 0x0B03 q tag s c → (s.bil.accounts.get? c.desc.object).isSome = true → c.desc.u 36 4 = 0 →
      (c.desc.u 32 4 < s.bil.live.txn.getD c.desc.object 0 → exec (.bilAccountCredit q tag) s = .next ((s.start c.uid).fail c.uid ST_BAD_PARAM)) ∧
      (c.desc.u 32 4 = s.bil.live.txn.getD c.desc.object 0 → exec (.bilAccountCredit q tag) s =
        .next ((s.start c.uid).okMirrored c (leInt 8 (s.balance c.desc.object) ++ [1]) 31 (2 * ms))) ∧
      (s.bil.live.txn.getD c.desc.object 0 < c.desc.u 32 4 → exec (.bilAccountCredit q tag) s =
        .next ((((s.start c.uid).updBil fun l => { l with balance := l.balance.set c.desc.object (s.balance c.desc.object + c.desc.i 40 8), txn := l.txn.set c.desc.object (c.desc.u 32 4) }).legalLog 11
          c.desc.object (leBytes 4 (c.desc.u 32 4) ++ leInt 8 (c.desc.i 40 8) ++ leInt 8 (s.balance c.desc.object + c.desc.i 40 8))).okMirrored c
            (leInt 8 (s.balance c.desc.object + c.desc.i 40 8) ++ [0]) 31 (2 * ms)))) ∧
    (Starts 0x0B04 q tag s c → c.desc.object = 0 → 1 ≤ c.desc.u 34 2 → c.desc.u 34 2 ≤ 4096 → 32 * c.desc.u 34 2 ≤ c.desc.dataLen → c.desc.u 32 2 + c.desc.u 34 2 ≤ 4096 →
      exec (.bilAccountRead q tag) s = .next ((s.start c.uid).answer c [] ((List.range (c.desc.u 34 2)).flatMap fun j => s.accountRecord (c.desc.u 32 2 + j)))) ∧
    (Starts 0x0B05 q tag s c → c.desc.object = 0 → exec (.bilClockSet q tag) s =
      .next { (s.start c.uid) with bil := { s.bil with clockSets := s.bil.clockSets ++ [(c.uid, c.desc.u 40 8)] } }) ∧
    (Starts 0x0B06 q tag s c → c.desc.object = 0 → 1 ≤ c.desc.u 36 2 → c.desc.u 36 2 ≤ 64 → 432 * c.desc.u 36 2 ≤ c.desc.dataLen → exec (.bilReadingGet q tag) s =
      .next ((s.start c.uid).answer c [] ((List.range (c.desc.u 36 2)).flatMap fun j => padTo 432 (s.bil.live.readings.getD (c.desc.u 32 4 + j) [])))) ∧
    (Starts 0x0B07 q tag s c → (s.met.recs.get? c.desc.object).isSome = true → 432 ≤ c.desc.dataLen →
      (s.canSign = true → ∃ (t : State) (l : List Byte), exec (.bilRegisterSnap q tag) s = .next (t.answer c [] l) ∧ t = { (s.start c.uid) with fresh := t.fresh }) ∧
      (s.canSign = false → exec (.bilRegisterSnap q tag) s = .next ((s.start c.uid).fail c.uid ST_DENIED))) ∧
    (Starts 0x0B08 q tag s c → c.desc.object = 0 → 1 ≤ c.desc.u 36 2 → c.desc.u 36 2 ≤ 1024 → 64 * c.desc.u 36 2 ≤ c.desc.dataLen → exec (.bilLogRead q tag) s =
      .next ((s.start c.uid).answer c [] ((List.range (c.desc.u 36 2)).flatMap fun j => padTo 64 (s.bil.live.log.getD (c.desc.u 32 4 + j) [])))) ∧
    (Starts 0x0B09 q tag s c → c.desc.object = 0 → c.desc.u 32 4 ≤ s.bil.live.logHead → s.bil.live.waiting = [] → s.bil.live.log = [] → s.bil.low = false → s.bil.quarter = false →
      16384 ≤ 4 * (16384 - (s.bil.live.logHead - max s.bil.live.acked (c.desc.u 32 4))) → 4096 ≤ 4 * (4096 - s.bil.live.readings.length) → ∃ t : State,
      exec (.bilLogAck q tag) s = .next (t.answer c (leBytes 4 t.logFree) []) ∧ t.bil.live.acked = max s.bil.live.acked (c.desc.u 32 4) ∧ t.bil.full = false) ∧
    (Starts 0x0B09 q tag s c → s.bil.live.logHead < c.desc.u 32 4 → exec (.bilLogAck q tag) s = .next ((s.start c.uid).fail c.uid ST_BAD_PARAM)) ∧
    (Starts 0x0B0A q tag s c → c.desc.object = 0 → exec (.bilStatus q tag) s =
      .next ((s.start c.uid).answer c (pack [(4, s.bil.check), (2, s.logFree), (2, s.slotsFree), (8, s.bil.live.legal)]) [])) ∧
    exec .bilClockLoRead s = .next { s with bil := { s.bil with clockHi := s.bil.live.legal / 2 ^ 32 % 2 ^ 32 } } ∧
  (∀ t : State, Starts 0x0B09 q tag s c → c.desc.object = 0 → c.desc.u 32 4 ≤ s.bil.live.logHead → t = (s.start c.uid).ackLog (c.desc.u 32 4) →
    exec (.bilLogAck q tag) s = .next (t.answer c (leBytes 4 t.logFree) []))

/-- R341, R342, R353, R355, R358, R362, R363, R368, R369, R370: Jasper's own events. A legal tick takes the steps of R353 in their order and advances the legal clock by 1 ms; without
the MET clock nothing ticks. Model's own readings it rests on: log entries 31, 34, 59. -/
def Obligations.LegalClock : Prop :=
  (∀ (s : State) (l : List J2Sample), s.met.ready = false ∨ s.met.clock = false → exec (.legalTick l) s = .next s) ∧
  (∀ (s : State) (l : List J2Sample), s.met.ready = true → s.met.clock = true → s.met.recs = [] → s.met.pulses = [] → s.met.legs = [] → s.met.apply = [] → s.ses.ctxs = [] → s.bil.live.opened = [] →
    s.bil.clockSets = [] → l = [] → s.sys.pfw = true → s.bil.warnTick ≠ none → s.bil.live.apartAt ≠ none → s.bil.full = true → exec (.legalTick l) s =
      .next { s with met := { s.met with ticks := s.met.ticks + 1 }, bil := { s.bil with live := { s.bil.live with legal := s.bil.live.legal + 1 } } }) ∧
  (∀ (s t u v : State) (l : List J2Sample), s.met.ready = true → s.met.clock = true → t = s.tickEnergy l →
    u = ({ t with met := { t.met with ticks := t.met.ticks + 1 }, bil := { t.bil with live := { t.bil.live with legal := t.bil.live.legal + 1 } } }) →
    v = (fun x : State => (x.met.apply.foldl State.applyStored { x with met := { x.met with apply := [] } }).sessionReadings.clockRequests) (if u.sys.pfw then
      (if u.bil.live.apartAt = none ∧ u.boundaryDue = true then u.updBil fun b => { b with apartAt := some b.legal } else u) else u.fireAll) → exec (.legalTick l) s =
      .next (if v.sys.pfw = true ∧ v.bil.warnTick = none then
        ({ v with bil := { v.bil with warnTick := some t.bil.live.legal } }).powerCommit 1 t.bil.live.legal else v).noteFullStore) ∧
  (∀ (s : State) (n : Nat), s.met.ready = true → n % 2 ^ 32 = s.bil.check → exec (.checkValueRecompute n) s = .next s) ∧
  (∀ (s : State) (n : Nat), s.met.ready = true → n % 2 ^ 32 ≠ s.bil.check → exec (.checkValueRecompute n) s =
    .next (((({ s with bil := { s.bil with registers := false, checkOk := false } }).legalLog 14 0xFFFF (pack [(4, s.bil.check), (4, n)])).allLost).report SRC_MET_CHECK 0)) ∧
  (∀ s : State, s.met.ready = true → (∀ e ∈ s.ses.recs, s.obs.enrolled.get? (outNode e.2) = none) → exec .displayFrame s = .next s) ∧
  (∀ (s : State) (o : Nat) (r : Rec) (k : Enrolment), s.met.ready = true → s.ses.recs = [(o, r)] → s.obs.enrolled.get? (outNode r) = some k → s.slotAllows k.slot 4 M_JASPER = true →
    ∃ f m, exec .displayFrame s = .next (s.emit (.display o f m)) ∧ m = (Config.cmac k.slot (outNode r) f).take 8 ∧ fld f 2 4 = s.bil.check % 2 ^ 32) ∧
  (∀ s : State, s.met.ready = true → s.bil.registers = true → exec .journalWrite s =
    .next { s with bil := { s.bil with journal := some ⟨((s.bil.journal.map Journal.seq).getD 0) + 1, 0, s.bil.live⟩ } }) ∧
  (∀ s : State, s.met.ready = true → exec .rtcWrite s = .next { s with bil := { s.bil with rtc := some (s.bil.live.legal, s.now) } }) ∧
  (∀ s : State, s.met.ready = true → s.bil.live.opened = [] → exec .creditDeduction s = .next s) ∧
  (∀ (s : State) (n k : Nat) (a : RdAcc), s.met.ready = true → s.bil.live.opened = [(n, a)] → a.account = some k → accKind (s.account k) ≠ 2 →
    accLow (s.account k) = 0 → 0 ≤ s.balance k - ((a.fee + (a.cost.map Prod.snd).sum / 1000000 : Nat) - a.deducted) → exec .creditDeduction s = .next (s.updBil fun l => { l with
      balance := l.balance.set k (s.balance k - ((a.fee + (a.cost.map Prod.snd).sum / 1000000 : Nat) - a.deducted)),
      opened := [(n, { a with deducted := (a.fee + (a.cost.map Prod.snd).sum / 1000000 : Nat) })] })) ∧
  (∀ s : State, s.met.ready = true → s.bil.live.copied < s.bil.live.logHead → s.awaits .storeCopy = false → s.hasGrant .storeCopy = false → exec .storeCopy s = .next (s.askHoldup true .storeCopy)) ∧
  (∀ (s : State) (w : Nat), s.bil.warnTick = some w → w + 30 ≤ s.bil.live.legal → s.bil.registers = true → exec .finalCommit s = .next (s.finalCommit w) ∧ (s.finalCommit w).bil.registers = false) ∧
  (∀ (s : State) (w : Nat), s.bil.warnTick = some w → s.bil.live.legal < w + 30 → exec .finalCommit s = .next s) ∧
  (∀ s : State, s.met.ready = true → exec .creditDeduction s = .next (s.bil.live.opened.foldl State.deductOpened s)) ∧
  (∀ s : State, s.met.ready = true → exec .displayFrame s = .next (s.ses.recs.foldl State.displayOf s))

/-- R2, R323, R327, R346, R347, R349, R360, R364: no energy is lost or counted twice. A pulse output keeps its constant times the energy it takes up as whole pulses in its backlog or lost beyond 65,535, and a remainder below one pulse; a register keeps what it is given as whole mWh and a remainder below one, and its rate registers take the same whole mWh. What readings, registers and the log show. Entries take consecutive indices; a display shows whole Wh below 10^10 with its rollovers; the local time of a legal time is off by the offset; a price of a reading is rounded once for each rate; on an M0 module every entry and reading is marked not for trade. Model's own readings it rests on: log entries 55, 62, 99, 139. -/
def Obligations.EnergyAndRecords : Prop :=
  ((∀ (p : MetPulse) (ch now e : Nat), pulseChan p.cfg = ch → p.fresh = false → (p.feed ch [(pulseQty p.cfg, e)] now).acc < kwhNwh ∧ (p.feed ch [(pulseQty p.cfg, e)] now).backlog ≤ 65535 ∧
    kwhNwh * ((p.feed ch [(pulseQty p.cfg, e)] now).backlog + (p.feed ch [(pulseQty p.cfg, e)] now).lost) + (p.feed ch [(pulseQty p.cfg, e)] now).acc =
      kwhNwh * (p.backlog + p.lost) + p.acc + e * pulseConst p.cfg) ∧
  (∀ (p : MetPulse) (ch now : Nat) (l : List (Nat × Nat)), pulseChan p.cfg ≠ ch ∨ p.fresh = true → p.feed ch l now = p) ∧
  (∀ (p : MetPulse), p.tick.1.fresh = false ∧ p.tick.1.lost = p.lost ∧ p.tick.1.acc = p.acc ∧ p.tick.1.backlog + (if p.tick.2 then 1 else 0) = p.backlog ∧ (p.tick.2 = true → p.high ≤ 1 ∧ p.rest ≤ 1)) ∧
  (∀ (g : ChanReg) (k e rate : Nat), ((g.addQty k e rate).1.nwh.getD k 0) < 1000000 ∧
    1000000 * (g.addQty k e rate).1.total.getD k 0 + (g.addQty k e rate).1.nwh.getD k 0 = 1000000 * g.total.getD k 0 + g.nwh.getD k 0 + e ∧
    (g.addQty k e rate).1.rates.getD (8 * k + rate) 0 + g.total.getD k 0 = g.rates.getD (8 * k + rate) 0 + (g.addQty k e rate).1.total.getD k 0 ∧
    ∀ j, j ≠ k → (g.addQty k e rate).1.total.getD j 0 = g.total.getD j 0 ∧ (g.addQty k e rate).1.nwh.getD j 0 = g.nwh.getD j 0)) ∧
  ((∀ (s : State) (e : Nat × Nat × Nat × List Byte), (s.logWrite e).bil.live.logHead = s.bil.live.logHead + 1 ∧
    (s.logWrite e).bil.live.log.get? (s.bil.live.logHead + 1) = some (s.logWrite e).bil.live.lastEntry ∧
    (s.logWrite e).bil.live.lastEntry.drop 48 = (Config.sha256 s.bil.live.lastEntry).take 16 ∧ fld (s.logWrite e).bil.live.lastEntry 0 4 = (s.bil.live.logHead + 1) % 2 ^ 32 ∧
    (∀ k, k ≠ s.bil.live.logHead + 1 → (s.logWrite e).bil.live.log.get? k = s.bil.live.log.get? k) ∧ (s.logWrite e).bil.live.readings = s.bil.live.readings ∧
    (s.logWrite e).bil.live.notTrade.get? (s.bil.live.logHead + 1) = some (s.sys.metOption == 0)) ∧
  (∀ (s : State) (a : RdAcc), s.sys.metOption = 0 → (s.rflagsOf a).getLsbD 0 = true) ∧
  (∀ n : Nat, dispWh n < 10000000000 ∧ 1000 * (10000000000 * rollCount n + dispWh n) ≤ n ∧ n < 1000 * (10000000000 * rollCount n + dispWh n + 1)) ∧
  (∀ (s : State), s.logFree ≤ 16384 ∧ s.slotsFree ≤ 4096) ∧
  (∀ (r : Rec) (l a b : Nat), lastSwitch r l = some (a, b) → a ≤ l ∧ ∃ n < fld r 1 1, b = (switchOf r n).2.2 ∧ a % 86400000 = (switchOf r n).1 * 60000 % 86400000) ∧
  (∀ (s : State) (ch t : Nat), 0 ≤ s.offsetMs → s.demandBoundary ch t ≤ t))

/-! ### Buffer battery gauge (chapter 13) -/

/-- R383, R384, R385, R389: counting and learning. A count moves Q by dq, an excess of a discharge below 0 into the deficit, a charge takes the deficit back first and stops at Q_L; a learning step changes
Q_L by no more than its bound, and leaves it within 50 % to 110 % of the rated capacity; the available charge is 0 with no string that counts. Model's own readings it rests on: log entry 62. -/
def Obligations.GaugeCounting : Prop :=
  (∀ (x : GStr) (dq : Nat), 1 ≤ dq → (x.count dq).q + (x.d + dq) = x.q + (x.count dq).d ∧ (x.count dq).q ≤ x.q ∧ x.d ≤ (x.count dq).d ∧ (x.count dq).qL = x.qL ∧
    (x.count dq).q = x.q - dq) ∧
  (∀ (x : GStr) (c : Nat), x.q ≤ x.qL → (x.count (-(c : Int))).q ≤ x.qL ∧ (x.count (-(c : Int))).d = x.d - c ∧ x.q ≤ (x.count (-(c : Int))).q ∧
    (x.count (-(c : Int))).q = min x.qL (x.q + (c - x.d))) ∧
  (∀ x : GStr, x.fullAnchor.q = x.qL ∧ x.fullAnchor.d = 0 ∧ x.fullAnchor.qL = x.qL ∧ x.fullAnchor.pairOpen = true) ∧
  (∀ (x : GStr) (pct : Nat), (x.emptyAnchor pct).q = 0 ∧ (x.emptyAnchor pct).d = 0 ∧ (x.emptyAnchor pct).pairOpen = false ∧ (x.pairOpen = false → (x.emptyAnchor pct).qL = x.qL)) ∧
  (∀ (x : GStr) (pct : Nat), x.pairOpen = true → strCapAh x.cfg * mAsPerAh * 50 / 100 ≤ (x.emptyAnchor pct).qL ∧ (x.emptyAnchor pct).qL ≤ strCapAh x.cfg * mAsPerAh * 110 / 100) ∧
  (∀ (x : GStr) (pct : Nat), x.pairOpen = true → strCapAh x.cfg * mAsPerAh * 50 / 100 ≤ x.qL → x.qL ≤ strCapAh x.cfg * mAsPerAh * 110 / 100 →
    (x.emptyAnchor pct).qL ≤ x.qL + strCapAh x.cfg * mAsPerAh * pct / 100 ∧ x.qL ≤ (x.emptyAnchor pct).qL + strCapAh x.cfg * mAsPerAh * pct / 100 ∧
    (0 < x.d → x.qL ≤ (x.emptyAnchor pct).qL) ∧ (x.d = 0 → (x.emptyAnchor pct).qL ≤ x.qL)) ∧
  (∀ s : State, (∀ e ∈ s.gau.strings, e.2.state ≠ 2 ∨ s.holds (strCabinet e.2.cfg) = false ∨ (s.node (strCabinet e.2.cfg)).state = 4) → s.gauAvail = 0)

/-- R376, R378, R379, R380, R381, R386, R388, R389, R391, R392: the gauge's commands and events. Model's own readings it rests on: log entries 4, 75. -/
def Obligations.GaugeRows : Prop :=
  (∀ (s : State) (q tag : Nat) (c : InFlight),
    (∀ r, Starts 0x0C00 q tag s c → c.record 32 = some r → c.desc.object ≤ 31 → allZero r = true ∨ s.strRecOk c.desc.object r = true →
      exec (.gauStringConfig q tag) s = .next ((s.start c.uid).askGauge c)) ∧
    (∀ r, Starts 0x0C00 q tag s c → c.record 32 = some r → allZero r = false → s.strRecOk c.desc.object r = false →
      exec (.gauStringConfig q tag) s = .next ((s.start c.uid).fail c.uid ST_BAD_PARAM)) ∧
    (∀ t : State, Starts 0x0C01 q tag s c → 1 ≤ c.desc.u 33 1 → 32 * c.desc.u 33 1 ≤ c.desc.dataLen → c.desc.u 32 1 + c.desc.u 33 1 ≤ 32 → t = (s.start c.uid).gauWake →
      exec (.gauRead q tag) s = .next (t.answer c (pack [(4, t.gauAvail), (1, (t.gau.strings.vals.filter t.strCounts).length)])
        ((List.range (c.desc.u 33 1)).flatMap fun j => t.gauRecord (c.desc.u 32 1 + j)))) ∧
    (∀ x, Starts 0x0C02 q tag s c → s.gstr c.desc.object = some x →
      (5 * strCapAh x.cfg ≤ c.desc.u 32 4 → c.desc.u 32 4 ≤ 11 * strCapAh x.cfg → exec (.gauLearnSet q tag) s = .next ((s.start c.uid).askGauge c)) ∧
      (c.desc.u 32 4 < 5 * strCapAh x.cfg ∨ 11 * strCapAh x.cfg < c.desc.u 32 4 → exec (.gauLearnSet q tag) s = .next ((s.start c.uid).fail c.uid ST_BAD_PARAM)))) ∧
  (∀ s : State, s.gau.hibernating = false → s.gauWake = s) ∧
  (∀ s : State, s.gauAwake = false → (∀ id l, exec (.stringFrame id l) s = .next s) ∧ (∀ i v, exec (.shuntSample i v) s = .next s) ∧ exec .gaugeReport s = .next s ∧
    (∀ k, exec (.anchorHoldExpiry k) s = .next s ∧ exec (.stringFrameTimeout k) s = .next s) ∧ exec .gaugeJournalPeriodic s = .next s ∧ exec .hibernationEntry s = .next s) ∧
  (∀ (s : State) (i k : Nat) (v : Int) (x : GStr), s.gauAwake = true → s.strOfShunt i = some (k, x) → s.gstr k = some x → x.q ≠ 0 → x.q ≤ x.qL → x.deficit = false →
    (10 * v) % (max 1 (strShuntR x.cfg) : Nat) = 0 → (10 * v / (max 1 (strShuntR x.cfg) : Nat) * ms) % (sec : Int) = 0 → 10 * v / (max 1 (strShuntR x.cfg) : Nat) * ms / sec < x.q →
    wakes x.cfg (10 * v / (max 1 (strShuntR x.cfg) : Nat)) = true → ∃ t : State, exec (.shuntSample i v) s = .next t ∧ t.gau.shuntAt = s.now ∧
      (t.gstr k).map GStr.q = some (x.count (10 * v / (max 1 (strShuntR x.cfg) : Nat) * ms / sec)).q ∧ (t.gstr k).map GStr.iMa = some (10 * v / (max 1 (strShuntR x.cfg) : Nat)) ∧
      (∀ j, j ≠ k → t.gstr j = s.gstr j) ∧ t = { s with gau := t.gau }) ∧
  (∀ (s : State) (id k : Nat) (l : List Byte) (x : GStr), s.gauAwake = true → s.gau.strings.find? (fun e => strCanId e.2.cfg == id) = some (k, x) → s.gstr k = some x →
    (l.length ≠ 16 ∨ fld l 14 2 ≠ crc16 (l.take 14) ∨ x.seq = some (fld l 12 1) → exec (.stringFrame id l) s = .next { s with gau := { s.gau with lastFrame := s.now } }) ∧
    (l.length = 16 → fld l 14 2 = crc16 (l.take 14) → x.seq ≠ some (fld l 12 1) → strSource x.cfg = 1 → ∃ t : State, exec (.stringFrame id l) s = .next t ∧
      t.gstr k = some (({ x with vMv := fld l 4 4, cellMin := fld l 8 2, cellMax := fld l 10 2, seq := some (fld l 12 1), frameAt := some s.now, noVoltage := false } : GStr).conditions s.now) ∧
      (∀ j, j ≠ k → t.gstr j = s.gstr j) ∧ t = { s with gau := t.gau })) ∧
  (∀ (s : State) (k t : Nat) (x : GStr), s.gauAwake = true → s.gstr k = some x → x.anchored = false →
    (x.fullSince = some t → t + s.islN PAR_GAU_FULL_HOLD_S * sec ≤ s.now → exec (.anchorHoldExpiry k) s = .next ((s.updStr k GStr.fullAnchor).raise 0x0C 0x0001 k)) ∧
    (x.fullSince = none → x.emptySince = some t → t + s.islN PAR_GAU_EMPTY_HOLD_S * sec ≤ s.now → x.pairOpen = false → exec (.anchorHoldExpiry k) s =
      .next ((s.updStr k fun x => x.emptyAnchor (s.islN PAR_GAU_LEARN_MAX_PCT)).raise 0x0C 0x0002 k))) ∧
  (∀ (s : State) (k t : Nat) (x : GStr), s.gauAwake = true → s.gstr k = some x → x.frameAt = some t → t + s.islN PAR_GAU_FRAME_TIMEOUT_MS * ms ≤ s.now → x.state = 2 →
    (strSource x.cfg = 1 → exec (.stringFrameTimeout k) s = .next (s.updStr k fun x => { x with noVoltage := true, fullSince := none, emptySince := none, anchored := false })) ∧
    (strSource x.cfg = 2 → ∃ u : State, exec (.stringFrameTimeout k) s = .next u ∧ (u.gstr k).map GStr.state = some 1 ∧ (u.gstr k).map GStr.pairOpen = some false ∧ ∀ j, j ≠ k → u.gstr j = s.gstr j)) ∧
  (∀ s : State, s.gauAwake = true → s.gau.journalAt + s.islN PAR_GAU_JOURNAL_S * sec ≤ s.now → exec .gaugeJournalPeriodic s = .next (s.gauJournal 0 true)) ∧
  (∀ (s : State) (r : Nat) (d : Bool), ∃ g : Gau, s.gauJournal r d = { s with gau := g } ∧ g.strings = s.gau.strings ∧ g.journalAt = s.now ∧ (if s.gau.nextIsB then g.jA = s.gau.jA else g.jB = s.gau.jB) ∧
    (if s.gau.nextIsB then g.jB else g.jA).valid = d ∧ (if s.gau.nextIsB then g.jB else g.jA).erased = false ∧ (if s.gau.nextIsB then g.jB else g.jA).entries = s.gauEntries ∧
    (if s.gau.nextIsB then g.jB else g.jA).reason = r) ∧
  (∀ s : State, s.gauAwake = true → exec .gaugeReport s = .next { s with
    gau := { s.gau with reportAt := some s.now, terms := s.gau.strings.mapV fun _ x => kwhOf (s.strTermRaw x) }, lv := { s.lv with availKwh := s.gauAvail } }) ∧
  (∀ (s : State) (t : Nat), s.gau.reportAt = some t → t + 100 * ms ≤ s.now → exec .gaugeDataStale s =
    .next (({ s with lv := { s.lv with availKwh := 0 }, gau := { s.gau with reportAt := none } }).report SRC_GAU_SILENT 0)) ∧
  (∀ (s : State) (d : Bool), s.gau.on = true → ∃ t : State, exec (.batauxLow d) s = .next t ∧ t.gau.on = false ∧ t.gau.hibernating = false ∧ t.gau.strings = s.gau.strings ∧ t = { s with gau := t.gau }) ∧
  (∀ s : State, s.gau.on = true → exec .gaugeRestart s = .next s) ∧
  (∀ (s : State) (j : GSlot), s.gau.on = false → s.gau.validSlot = (some j, false) → s.gau.strings.wf = true → ∃ t : State, exec .gaugeRestart s = .next t ∧ t.gau.on = true ∧ t.gau.hibernating = false ∧
    ∀ k x e, s.gstr k = some x → j.entries.get? k = some e → ∃ y, t.gstr k = some y ∧ y.q = e.q ∧ y.qL = e.qL ∧ y.d = e.d ∧ y.state = 1 ∧ y.pairOpen = false ∧ y.cfg = x.cfg) ∧
  (∀ s : State, s.gauAwake = true → s.sys.pg = false → s.gau.shuntAt + s.islN PAR_GAU_IDLE_S * sec ≤ s.now → s.gau.lastFrame + s.islN PAR_GAU_IDLE_S * sec ≤ s.now → ∃ t : State,
    exec .hibernationEntry s = .next t ∧ t.gau.hibernating = true ∧ t.gau.strings = s.gau.strings ∧ t = { s with gau := t.gau }) ∧
  (∀ (s : State), s.gau.on = true → s.gau.hibernating = true → exec (.hibernationTick []) s = .next s.selfDischarge ∧ s.gauWake = { s.selfDischarge with
    gau := { s.selfDischarge.gau with hibernating := false, shuntAt := s.selfDischarge.now, lastFrame := s.selfDischarge.now } }) ∧
  (∀ (s : State) (ns : Nat), exec (.gaugeWake .request) s = .next s.gauWake ∧ (1000 ≤ ns → exec (.gaugeWake (.dominant ns)) s = .next s.gauWake) ∧
    (ns < 1000 → exec (.gaugeWake (.dominant ns)) s = .next s)) ∧
  (∀ (s t : State) (k a : Nat) (x : GStr), s.gauAwake = true → s.gstr k = some x → x.anchored = false → x.fullSince = none → x.emptySince = some a →
    a + s.islN PAR_GAU_EMPTY_HOLD_S * sec ≤ s.now → x.pairOpen = true →
    t = ((s.updStr k fun x => x.emptyAnchor (s.islN PAR_GAU_LEARN_MAX_PCT)).raise 0x0C 0x0002 k).raise 0x0C 0x0003 k → exec (.anchorHoldExpiry k) s =
    .next ((if (x.learn (s.islN PAR_GAU_LEARN_MAX_PCT)).2 then t.raise 0x0C 0x0004 k else t).gauJournal 1 true)) ∧
  (∀ (s : State) (i k : Nat) (v : Int) (x : GStr), s.gauAwake = true → s.strOfShunt i = some (k, x) → exec (.shuntSample i v) s = .next (s.shuntIn k x v)) ∧
  (∀ (s t : State) (id k a : Nat) (l : List Byte) (x : GStr), s.gauAwake = true → s.gau.strings.find? (fun e => strCanId e.2.cfg == id) = some (k, x) → l.length = 16 →
    fld l 14 2 = crc16 (l.take 14) → x.seq ≠ some (fld l 12 1) → strSource x.cfg = 2 → x.frameAt = some a →
    t = ({ s with gau := { s.gau with lastFrame := s.now } } : State).countStr k (sfld l 0 4) (s.now - a) → exec (.stringFrame id l) s =
    .next (t.updStr k fun x => ({ x with iMa := sfld l 0 4, vMv := fld l 4 4, cellMin := fld l 8 2, cellMax := fld l 10 2, seq := some (fld l 12 1), frameAt := some s.now,
                                         noVoltage := false }).conditions s.now)) ∧
  (∀ (s : State) (l : List (Nat × Int)), s.gau.on = true → s.gau.hibernating = true → exec (.hibernationTick l) s =
    .next (if (s.hibernateTick l).1 then (s.hibernateTick l).2.gauWake else (s.hibernateTick l).2))

/-! ### Point directory (chapter 14) -/

/-- R396, R399, R408, R410, R411, R412, R413, R414, R415, R416: the point commands. Model's own readings it rests on: log entry 38. -/
def Obligations.PointCommands : Prop :=
  ∀ (s : State) (q tag : Nat) (c : InFlight),
    (Starts 0x0D00 q tag s c → 1 ≤ c.desc.u 36 2 → c.desc.u 36 2 ≤ 64 → 32 * c.desc.u 36 2 ≤ c.desc.dataLen → c.desc.u 32 4 + c.desc.u 36 2 ≤ PT_END → exec (.ptRead q tag) s =
      .next ((s.start c.uid).answer c [] ((List.range (c.desc.u 36 2)).flatMap fun j => s.ptRecord (c.desc.u 32 4 + j)))) ∧
    (Starts 0x0D01 q tag s c → 1 ≤ c.desc.u 36 4 → c.desc.u 32 4 + c.desc.u 36 4 ≤ PT_END → 32 ≤ c.desc.dataLen → c.desc.u 40 1 ≤ 1 → exec (.ptDump q tag) s =
      .next (((s.start c.uid).askWork 1 false (s.pn PAR_PT_DUMP_MBS) (.ptDump c.uid)).setDeadline c.uid (s.now + s.pms PAR_PT_LEAVE_WAIT_MS))) ∧
    (∀ r, Starts 0x0D02 q tag s c → c.record 16 = some r → s.overrideOk r = true → fld r 7 1 = 0 → exec (.ptPointSet q tag) s =
      .next ((({ (s.start c.uid) with pt := { s.pt with overrides := s.pt.overrides.del (fld r 0 4) } }).sendPointConfig (ptNode (fld r 0 4))).notePtLoad.ok c [])) ∧
    (∀ r, Starts 0x0D02 q tag s c → c.record 16 = some r → s.overrideOk r = true → fld r 7 1 ≠ 0 →
      ((s.pt.overrides.get? (fld r 0 4)).isSome = true ∨ s.pt.overrides.length < 8192 → exec (.ptPointSet q tag) s =
        .next ((({ (s.start c.uid) with pt := { s.pt with overrides := s.pt.overrides.set (fld r 0 4) r } }).sendPointConfig (ptNode (fld r 0 4))).notePtLoad.ok c [])) ∧
      (s.pt.overrides.get? (fld r 0 4) = none → 8192 ≤ s.pt.overrides.length → exec (.ptPointSet q tag) s = .next ((s.start c.uid).fail c.uid ST_BUSY))) ∧
    (Starts 0x0D03 q tag s c → c.desc.object ≤ 511 → exec (.ptWrite q tag) s =
      .next (({ (s.start c.uid) with pt := { s.pt with hostWait := s.pt.hostWait ++ [(c.desc.object, c.desc.u 40 8, s.sysTime)] } }).ok c [])) ∧
    (Starts 0x0D03 q tag s c → 511 < c.desc.object → exec (.ptWrite q tag) s = .next ((s.start c.uid).fail c.uid ST_BAD_PARAM)) ∧
    (Starts 0x0D04 q tag s c → c.desc.object ≤ 15 → c.desc.u 36 4 ≤ 4194304 → c.desc.u 32 4 + c.desc.u 36 4 ≤ PT_END →
      (c.desc.u 36 4 = 0 → exec (.ptSubscribe q tag) s = .next (({ (s.start c.uid) with pt := { s.pt with subs := s.pt.subs.del (16 * c.entry + c.desc.object) } }).ok c [])) ∧
      (1 ≤ c.desc.u 36 4 → 4194304 < ((s.pt.subs.del (16 * c.entry + c.desc.object)).vals.map PtSub.count).sum + c.desc.u 36 4 →
        exec (.ptSubscribe q tag) s = .next ((s.start c.uid).fail c.uid ST_BUSY)) ∧
      (1 ≤ c.desc.u 36 4 → ((s.pt.subs.del (16 * c.entry + c.desc.object)).vals.map PtSub.count).sum + c.desc.u 36 4 ≤ 4194304 → exec (.ptSubscribe q tag) s =
        .next (({ (s.start c.uid) with pt := { s.pt with subs := s.pt.subs.set (16 * c.entry + c.desc.object) ⟨c.desc.u 32 4, c.desc.u 36 4,
          (s.definedIn (c.desc.u 32 4) (c.desc.u 32 4 + c.desc.u 36 4)).map fun a => (a, ())⟩ } }).serveFetches.ok c []))) ∧
    (∀ x, Starts 0x0D05 q tag s c → c.desc.object ≤ 15 → c.desc.u 32 2 ≤ 60000 → s.pt.subs.get? (16 * c.entry + c.desc.object) = some x →
      (∀ d ∈ (s.start c.uid).mbx.inflight, isFetchOf c.entry c.desc.object d = true → d.uid = c.uid) →
      (x.bits ≠ [] ∨ c.desc.u 32 2 = 0 → exec (.ptFetch q tag) s = .next ((s.start c.uid).fetchNow c)) ∧
      (x.bits = [] → 1 ≤ c.desc.u 32 2 → exec (.ptFetch q tag) s = .next ((s.start c.uid).setDeadline c.uid (s.now + c.desc.u 32 2 * ms)))) ∧
    (s.mbx.inflight.find? (fun c => c.q == q && c.desc.tag == tag && c.desc.opcode == 0x0D05 && c.phase == .running) = some c → c.deadline ≤ s.now →
      exec (.fetchWaitExpiry q tag) s = .next (s.fetchNow c)) ∧
    (Starts 0x0D06 q tag s c → exec (.ptStatus q tag) s =
      .next ((s.start c.uid).answer c (pack [(4, s.pt.points.length + 512), (4, s.ptPlanned), (4, s.pt.appliedSec), (4, s.pt.discardedSec)]) [])) ∧
    (∀ k, PT_HOST ≤ k → k < PT_END → (s.point? k).isSome = true) ∧
    (∀ x, s.pt.subs.get? (16 * c.entry + c.desc.object) = some x → (s.fetchNow c).pt.points = s.pt.points ∧ ((s.fetchNow c).pt.subs.get? (16 * c.entry + c.desc.object)).map PtSub.bits =
      some (x.bits.drop (min (c.desc.dataLen / 32) 2048)))

/-- R395, R398, R400, R403, R404, R405, R406, R407, R408: what catalogues, batches and cycles do to points. An accepted catalogue defines exactly its indices and leaves other nodes' points; a bad one changes no point; a
cycle applies at most 40,000 updates and sets OVERRUN past them; an accepted update writes value, time and validity and counts SEQ up; the quality of a node's points follows its state; a module that gives up control defines no node point. Model's own readings it rests on: log entry 4. -/
def Obligations.PointUpdates : Prop :=
  (∀ (s : State) (n v : Nat) (l : List CatRecord), s.ptAccepts n = false → exec (.catalogue n v l) s = .next s) ∧
  (∀ (s : State) (n v : Nat) (l : List CatRecord), s.ptAccepts n = true → catalogueOk l = false → exec (.catalogue n v l) s = .next (s.raise 0x0D 0x0002 n)) ∧
  (∀ (s : State) (n v : Nat) (l : List CatRecord), s.ptAccepts n = true → catalogueOk l = true → ∃ t : State, exec (.catalogue n v l) s = .next t ∧
    (∀ k, ptNode k = n → ((t.pt.points.get? k).isSome = true ↔ ∃ r ∈ l, k = ptAddr n r.index)) ∧ (∀ k, ptNode k ≠ n → t.pt.points.get? k = s.pt.points.get? k) ∧
    (∀ r ∈ l, s.pt.points.get? (ptAddr n r.index) = none → ∃ p, t.pt.points.get? (ptAddr n r.index) = some p ∧ p.value = 0 ∧ p.time = 0 ∧ p.seq = 0 ∧ p.type = r.type ∧
      p.unit = r.unit ∧ p.scale = r.scale ∧ p.cls = r.cls ∧ p.quality = Q_DEFINED + ptNodeFlags (s.node n).state) ∧ t.pt.host = s.pt.host ∧
    ∀ j x, s.pt.subs.get? j = some x → ∃ y, t.pt.subs.get? j = some y ∧ ∀ a, (y.bits.get? a).isSome = true ↔ (x.bits.get? a).isSome = true ∨
      (x.first ≤ a ∧ a < x.first + x.count ∧ (t.pt.points.get? a).map Point.quality ≠ (s.pt.points.get? a).map Point.quality)) ∧
  (∀ s : State, s.dropPoints.pt.updates = [] ∧ s.dropPoints.pt.host = s.pt.host ∧ (∀ a, 512 ≤ a → s.dropPoints.pt.points.get? a = none) ∧
    ∀ a, a < 512 → s.dropPoints.pt.points.get? a = s.pt.points.get? a) ∧
  (∀ (s : State) (n cyc : Nat) (l : List PointRecord), s.ptAccepts n = true → exec (.pointBatch n cyc l) s = 
    .next { s with pt := { s.pt with updates := s.pt.updates ++ l.map fun r => (ptAddr n r.index, r, (s.taiNs - 20000 * (s.ring.cycle - BitVec.ofNat 32 cyc).toNat) + r.offsetNs) } }) ∧
  (∀ (s : State) (n cyc : Nat) (l : List PointRecord), s.ptAccepts n = false → exec (.pointBatch n cyc l) s = .next s) ∧
  (∀ s : State, exec .pointSiteCycle s = .next ((s.ptNodeStates.writeModuleBlock.writeHostPoints.pt.updates.foldl State.nodeUpdate
    (40000 - (s.ptNodeStates.writeModuleBlock.writeHostPoints.pt.applied - s.ptNodeStates.pt.applied), { s.ptNodeStates.writeModuleBlock.writeHostPoints with
      pt := { s.ptNodeStates.writeModuleBlock.writeHostPoints.pt with updates := [] } })).2.serveFetches.notePtLoad)) ∧
  (∀ (s : State) (l : List (Nat × PointRecord × Nat)) (n : Nat), (l.foldl State.nodeUpdate (n, s)).2.pt.applied ≤ s.pt.applied + n ∧
    (l.foldl State.nodeUpdate (n, s)).2.pt.applied + (l.foldl State.nodeUpdate (n, s)).2.pt.discarded ≤ s.pt.applied + s.pt.discarded + l.length) ∧
  (∀ (s : State) (u : Nat × PointRecord × Nat) (p : Point) (n : Nat), s.pt.points.get? u.1 = some p → ∃ x, (State.nodeUpdate (n + 1, s) u).2.pt.points.get? u.1 = some x ∧
    x.value = u.2.1.value % 2 ^ 64 ∧ x.time = u.2.2 ∧ x.seq = (p.seq + 1) % 2 ^ 32 ∧ x.lastAt = s.now ∧ bit x.quality 1 = true ∧ bit x.quality 2 = false ∧ bit x.quality 6 = false ∧
    bit x.quality 7 = u.2.1.bad ∧ bit x.quality 0 = bit p.quality 0 ∧ x.type = p.type ∧ x.unit = p.unit ∧ x.scale = p.scale ∧
    ∀ k, k ≠ u.1 → (State.nodeUpdate (n + 1, s) u).2.pt.points.get? k = s.pt.points.get? k) ∧
  (∀ (s : State) (u : Nat × PointRecord × Nat) (n : Nat), s.pt.points.get? u.1 = none → State.nodeUpdate (n, s) u = (n, s)) ∧
  (∀ (s : State) (k : Nat) (x : PtSub) (j : Nat), s.pt.subs.get? j = some x → x.first ≤ k → k < x.first + x.count → ∃ y, (s.ptMark k).pt.subs.get? j = some y ∧ (y.bits.get? k).isSome = true) ∧
  (∀ s : State, s.pt.points = [] → s.pt.discarded = 0 → s.mbx.inflight = [] → exec .staleCheck s =
    .next { s with pt := { s.pt with appliedSec := s.pt.applied, discardedSec := 0, applied := 0, discarded := 0 } }) ∧
  (∀ s : State, s.pt.points = [] → 0 < s.pt.discarded → exec .staleCheck s = .next (((({ s with pt := { s.pt with appliedSec := s.pt.applied, discardedSec := s.pt.discarded, applied := 0, discarded := 0 } }).raise 0x0D 0x0003 s.pt.discarded).report SRC_PT_OVERRUN 0).serveFetches)) ∧
  (∀ s : State, exec .staleCheck s = .next s.markStale.ptSecond.serveFetches)

/-! ### Busbar link (chapter 15) -/

/-- R420, R422, R423, R436, R437, R438: the busbar commands, and the building of a tone map: each carrier takes the highest modulation that its SNR allows at a rate, and the rate is the one with the most
information bits, the lowest of several. -/
def Obligations.BusbarMaps : Prop :=
  (∀ (s : State) (q tag : Nat) (c : InFlight),
    (Starts 0x0E00 q tag s c → 1 ≤ c.desc.u 34 2 → c.desc.u 34 2 ≤ 128 → 32 * c.desc.u 34 2 ≤ c.desc.dataLen → exec (.plcNodeRead q tag) s =
      .next ((s.start c.uid).answer c [] (((s.busbarNodes.filter fun a => decide (c.desc.u 32 2 ≤ a)).take (c.desc.u 34 2)).flatMap s.plcRecord))) ∧
    (∀ m, Starts 0x0E01 q tag s c → (c.desc.u 32 1 = 0 ∧ (s.plcNode c.desc.object).dn = some m) ∨ (c.desc.u 32 1 = 1 ∧ (s.plcNode c.desc.object).up = some m) → exec (.plcTmapRead q tag) s =
      .next ((s.start c.uid).answer c [] (pack [(2, c.desc.object), (1, m.gen), (1, m.rate), (2, m.bytes)] ++ leInt 2 m.margin ++ pack [(4, (s.now - m.since) / sec), (4, 0)] ++
        packNibbles m.codes ++ List.replicate 7 0))) ∧
    (Starts 0x0E01 q tag s c → c.desc.u 32 1 = 0 → (s.plcNode c.desc.object).dn = none → exec (.plcTmapRead q tag) s = .next ((s.start c.uid).fail c.uid ST_BAD_PARAM)) ∧
    (∀ t : State, Starts 0x0E02 q tag s c → (s.plcNode c.desc.object).joined = true → t = (s.start c.uid).refreshNow c.desc.object → exec (.plcTmapRefresh q tag) s =
      .next { t with plc := { t.plc with waits := t.plc.waits ++ [(c.uid, c.desc.object, 10)] } }) ∧
    (Starts 0x0E02 q tag s c → (s.plcNode c.desc.object).joined = false → exec (.plcTmapRefresh q tag) s = .next ((s.start c.uid).fail c.uid ST_BAD_PARAM)) ∧
    (∀ r, Starts 0x0E03 q tag s c → c.record 136 = some r → c.desc.object = 0 → leNat r < 2 ^ 1074 → 300 ≤ unmaskedOf (BitVec.ofNat 1088 (leNat r)) → exec (.plcMaskSet q tag) s =
      .next (({ (s.start c.uid) with plc := { s.plc with maskNext := some (BitVec.ofNat 1088 (leNat r)) } }).ok c [])) ∧
    (∀ r, Starts 0x0E03 q tag s c → c.record 136 = some r → unmaskedOf (BitVec.ofNat 1088 (leNat r)) < 300 → exec (.plcMaskSet q tag) s = .next ((s.start c.uid).fail c.uid ST_BAD_PARAM))) ∧
  (∀ (rate : Nat) (m v : Int), modFor rate m v ≤ 6 ∧ (modFor rate m v ≠ 0 → modT (modFor rate m v) + rateO rate + m ≤ v) ∧ ∀ k, modFor rate m v < k → k ≤ 6 → v < modT k + rateO rate + m) ∧
  (∀ (s : State) (snr : List Int), s.bestRate snr < 4 ∧ (∀ r < 4, mapBits r (s.rawCodes r snr) ≤ mapBits (s.bestRate snr) (s.rawCodes (s.bestRate snr) snr)) ∧
    ∀ r < s.bestRate snr, mapBits r (s.rawCodes r snr) < mapBits (s.bestRate snr) (s.rawCodes (s.bestRate snr) snr)) ∧
  (∀ (s : State) (g : Nat) (snr : List Int), (s.buildMap g snr).gen = g ∧ (s.buildMap g snr).codes.length = CARRIERS ∧ ∀ k < CARRIERS, s.masked k = true → (s.buildMap g snr).codes.getD k 0 = 0) ∧
  (∀ (s : State) (m : BitVec 1088), s.plc.maskNext = some m → s.applyMask.plc.mask = m ∧ s.applyMask.plc.maskNext = none ∧ ∀ e ∈ s.applyMask.plc.nodes, e.2.dn = none ∧ e.2.up = none)

/-- R424, R425, R427, R430, R431, R433, R434: the events of the link: the poll cycle's beacon, a release in one beacon, responses, failed exchanges and their re-poll, the steps of a refresh, the discovery window,
the bulk period, and the segment. Model's own readings it rests on: log entries 40, 60, 154. -/
def Obligations.BusbarEvents : Prop :=
  (∀ s : State, s.plc.master = false ∨ s.now < s.plc.nextAt → exec .pollCycle s = .next s) ∧
  (∀ s : State, s.plc.master = true → s.plc.nextAt ≤ s.now → s.isActive = false → s.plc.led = true → ∃ t : State, exec .pollCycle s = .next t ∧ t.plc.master = false ∧
    t.out = Emit.beacon (s.beacon s.plc.epoch 1 0) :: s.out ∧ t = { s with plc := t.plc, out := t.out }) ∧
  (∀ s : State, s.plc.master = true → s.plc.nextAt ≤ s.now → s.isActive = true → s.plc.nodes = [] → s.plc.waits = [] → s.plc.maskNext = none → s.plc.second = s.now / sec →
    (s.plc.epoch = 0 ∨ s.plc.epoch = s.ring.epoch → ∃ t : State, exec .pollCycle s = .next t ∧ t.plc.nextAt = s.now + s.pms PAR_PLC_CYCLE_MS ∧ t.plc.cycles = s.plc.cycles + 1 ∧
      t.plc.epoch = s.ring.epoch ∧ t.plc.discovery = (s.plc.cycles % 100 == 0) ∧ t.out = Emit.beacon (s.beacon s.ring.epoch (if s.plc.cycles % 100 = 0 then 2 else 0) 0) :: s.out ∧ t = { s with plc := t.plc, out := t.out }) ∧
    (s.plc.epoch ≠ 0 → s.plc.epoch ≠ s.ring.epoch → ∃ t : State, exec .pollCycle s = .next t ∧ t.plc.epoch = s.ring.epoch ∧
      t.out = Emit.beacon (s.beacon s.plc.epoch 1 0) :: s.out ∧ t = { s with plc := t.plc, out := t.out })) ∧
  (∀ (s : State) (a : PollAnswer), s.plc.master = false ∨ ((s.plcNode a.node).slot ≠ 1 ∧ (s.plcNode a.node).slot ≠ 3) → exec (.pollResponse a) s = .next s) ∧
  (∀ (s t : State) (a : PollAnswer), s.plc.master = true → (s.plcNode a.node).slot = 1 → (s.plcNode a.node).joined = true → (s.plcNode a.node).mapped = false → a.lapsed = false →
    s.plc.second = s.now / sec → t = (s.updPlc a.node fun y => { y with bulk := a.bulk, slot := 0, exchanges := (y.exchanges + 1) % 2 ^ 32, dn := y.dn.map fun m => m.heard a.dnMargin, up := y.up.map fun m => m.heard a.upMargin }).nodeHeard a.node →
    (t.holds a.node = false → exec (.pollResponse a) s = .next t) ∧ (t.holds a.node = true → exec (.pollResponse a) s = .next ((t.answerSlot a.node t.ring.window).runPlc a.node (some a.words)))) ∧
  (∀ (s : State) (n : Nat), s.plc.master = true → s.plc.second = s.now / sec →
    ((s.plcNode n).slot = 3 → exec (.exchangeFailed n) s = .next (s.plcMiss n)) ∧
    ((s.plcNode n).slot = 1 → (s.plcNode n).mapped = false → s.plc.used < s.pn PAR_PLC_RETRY_RESERVE → ∃ t : State, exec (.exchangeFailed n) s = .next t ∧ (t.plcNode n).slot = 2 ∧
      (t.plcNode n).exchanges = ((s.plcNode n).exchanges + 1) % 2 ^ 32 ∧ (t.plcNode n).failed = ((s.plcNode n).failed + 1) % 2 ^ 32 ∧ t.plc.used = s.plc.used + 1 ∧
      (∀ m, m ≠ n → t.plcNode m = s.plcNode m) ∧ t = { s with plc := t.plc }) ∧
    ((s.plcNode n).slot = 2 → ∃ t : State, exec (.repoll n) s = .next t ∧ (t.plcNode n).slot = 3 ∧ t.plc.repolls = s.plc.repolls + 1 ∧ t.out = s.pollOf n true :: s.out ∧
      t = { s with plc := t.plc, out := t.out })) ∧
  (∀ (s : State) (n : Nat), (s.plcNode n).joined = true → s.plc.master = true → (s.plcNode n).refresh = 0 → (s.plcNode n).refreshAt + s.pn PAR_PLC_TMAP_S * sec ≤ s.now →
    exec (.tmapRefreshDue n) s = .next (s.updPlc n fun x => { x with refresh := 1 })) ∧
  (∀ (s : State) (x : TmapStep), (s.plcNode x.node).joined = true → s.plc.master = true →
    ((s.plcNode x.node).refresh = 1 → x.ok = false → exec (.tmapRefreshStep x) s = .next s) ∧
    ((s.plcNode x.node).refresh = 1 → x.ok = true → ∃ t : State, exec (.tmapRefreshStep x) s = .next t ∧ (t.plcNode x.node).refresh = 2 ∧
      (t.plcNode x.node).newDn = some (s.buildMap (t.plcNode x.node).gen x.snrDn) ∧ (t.plcNode x.node).newUp = some (s.buildMap (t.plcNode x.node).gen x.snrUp) ∧
      (t.plcNode x.node).dn = (s.plcNode x.node).dn ∧ (t.plcNode x.node).up = (s.plcNode x.node).up ∧
      ((s.plcNode x.node).genOpen = false → (t.plcNode x.node).gen = ((s.plcNode x.node).gen + 1) % 16) ∧ ((s.plcNode x.node).genOpen = true → (t.plcNode x.node).gen = (s.plcNode x.node).gen) ∧
      t = { s with plc := t.plc }) ∧
    ((s.plcNode x.node).refresh = 2 → exec (.tmapRefreshStep x) s = .next (s.updPlc x.node fun y => { y with refresh := if x.ok then 3 else 1 })) ∧
    ((s.plcNode x.node).refresh = 3 → exec (.tmapRefreshStep x) s = .next (s.mapsInForce x.node))) ∧
  (∀ (s : State) (l : List PlcJoin), s.plc.master = true → s.plc.discovery = true → exec (.discoveryWindow l) s =
    .next (l.foldl State.plcJoin { s with plc := { s.plc with discovery := false } })) ∧
  (∀ (s : State) (l : List PlcJoin), s.plc.master = false ∨ s.plc.discovery = false → exec (.discoveryWindow l) s = .next s) ∧
  (∀ (s : State) (e : Nat) (r : Bool), exec (.foreignBeacon e r) s =
    .next { s with plc := { s.plc with master := false, led := false, discovery := false, foreignAt := some s.now, heardAt := if r then none else some s.now } }) ∧
  (∀ s : State, s.isActive = true ∨ s.pair.role = ROLE_STANDBY → s.plc.master = false → (∀ t, s.plc.heardAt = some t → t + 3 * s.pms PAR_PLC_CYCLE_MS ≤ s.now) → ∃ t : State, exec .segmentSilence s = .next t ∧
    t.plc.master = true ∧ t.plc.nextAt = s.now ∧ t.plc.epoch = s.ring.epoch ∧ t = { s with plc := t.plc }) ∧
  (∀ s : State, (s.isActive = false ∧ s.pair.role ≠ ROLE_STANDBY) ∨ s.plc.master = true → exec .segmentSilence s = .next s) ∧
  (∀ (s : State) (e f n : Nat), s.beacon e f n = beaconBytes s.ring.cycle.toNat e s.issuer f (s.pn PAR_PAIR_LEASE_MS) n) ∧
  (∀ (y e i f m n : Nat), (beaconBytes y e i f m n).length = 25 ∧ (beaconBytes y e i f m n).take 17 = pack [(4, y), (4, e), (1, i), (1, f), (2, m), (2, n), (3, 0)] ∧
    (beaconBytes y e i f m n).drop 17 = leBytes 4 (crc32c ((beaconBytes y e i f m n).take 17)) ++ leBytes 4 (crc32 ((beaconBytes y e i f m n).take 21))) ∧
  (∀ s : State, s.plc.master = true → s.plc.nextAt ≤ s.now → s.isActive = true ∨ (s.plc.led = false ∧ s.pair.role = ROLE_STANDBY) → exec .pollCycle s = .next s.cycleStart.pollSend) ∧
  (∀ s : State, s.plc.epoch = 0 ∨ s.plc.epoch = s.ring.epoch → s.pollSend =
    ((s.sendBeacon s.ring.epoch (if s.plc.discovery then 2 else 0) (s.polledIn (s.plc.cycles % 2)).length).pollAll s.polledNow).bulkPeriod) ∧
  (∀ (s : State) (n : Nat), s.bulkNodes = [n] → 0 < s.bulkRoom → s.bulkPeriod = { s with plc := { s.plc with bulkLast := n }, out := List.replicate s.bulkRoom (Emit.bulk n (s.pn PAR_PLC_BULK_SYM)) ++ s.out }) ∧
  (∀ s : State, s.bulkNodes = [] ∨ s.bulkRoom = 0 → s.bulkPeriod = s) ∧
  (∀ s : State, s.cycleStart.plc.nextAt = s.now + s.pms PAR_PLC_CYCLE_MS ∧ s.cycleStart.plc.used = 0 ∧ s.cycleStart.plc.led = s.isActive) ∧
  (∀ (s : State) (n : Nat), (s.pollAll [n]).plcNode n = { (s.plcNode n) with slot := 1, mapped := (s.plcNode n).runsMapped && (s.plcNode n).refresh != 1, polledBefore := (s.plcNode n).polledAt, polledAt := s.ring.window } ∧ s.pollOf n (!(s.plcNode n).runsMapped || (s.plcNode n).refresh == 1) ∈ (s.pollAll [n]).out) ∧
  (∀ (s : State) (a : PollAnswer), s.plc.master = true → (s.plcNode a.node).slot = 1 ∨ (s.plcNode a.node).slot = 3 →
    ((s.plcSecond.pollAnswered a).holds a.node = false → exec (.pollResponse a) s = .next (s.plcSecond.pollAnswered a)) ∧
    ((s.plcSecond.pollAnswered a).holds a.node = true → exec (.pollResponse a) s =
      .next (((s.plcSecond.pollAnswered a).answerSlot a.node (s.plcSecond.pollAnswered a).ring.window).runPlc a.node (some a.words)))) ∧
  (∀ (s t : State) (n : Nat), s.plc.master = true → (s.plcNode n).slot = 2 → t = s.plcSecond.updPlc n (fun y => { y with slot := 3 }) → exec (.repoll n) s =
    .next (({ t with plc := { t.plc with repolls := t.plc.repolls + 1 } } : State).emit (s.plcSecond.pollOf n true)))

/-! ### CAN FD controllers (chapter 16) -/

/-- R443, R446, R447, R450, R451, R455, R456, R459: the CAN commands. Model's own readings it rests on: log entries 41, 77. -/
def Obligations.CanCommands : Prop :=
  ∀ (s : State) (q tag : Nat) (c : InFlight),
    (∀ r, Starts 0x0F00 q tag s c → c.record 512 = some r → c.desc.object ≤ 3 → s.canRecOk r = true → (s.canCtl c.desc.object).detect = none → (s.canCtl c.desc.object).cmds = [] →
      exec (.canConfig q tag) s = .next ((((s.start c.uid).updCan c.desc.object fun x => { x with cfg := r, tx := [] }).canGauge c.desc.object (s.canCtl c.desc.object).cfg).endCmd c.uid ST_OK [] [] 512 0)) ∧
    (∀ r, Starts 0x0F00 q tag s c → c.record 512 = some r → c.desc.object ≤ 3 → s.canRecOk r = true → (s.canCtl c.desc.object).detect.isSome = true →
      exec (.canConfig q tag) s = .next ((s.start c.uid).fail c.uid ST_BUSY)) ∧
    (∀ n l, Starts 0x0F01 q tag s c → c.desc.object ≤ 3 → 100 ≤ c.desc.u 32 4 → c.desc.u 32 4 ≤ 600000 → c.desc.u 36 1 ≤ 1 → usedCands (s.canCtl c.desc.object).cfg = n :: l →
      (∀ k ∈ n :: l, timingOk (canCand (s.canCtl c.desc.object).cfg k) = true) → (s.canCtl c.desc.object).detect = none → (s.start c.uid).canTx c.desc.object = [] →
      exec (.canDetect q tag) s = .next ((s.start c.uid).updCan c.desc.object fun x =>
        { x with detect := some { uid := c.uid, apply := c.desc.u 36 1 == 1, start := s.now, deadline := s.now + c.desc.u 32 4 * ms, cand := n, since := s.now } })) ∧
    (Starts 0x0F02 q tag s c → c.desc.object ≤ 3 → 1 ≤ c.desc.u 32 1 → c.desc.u 32 1 ≤ 28 → c.desc.data.length = 80 * c.desc.u 32 1 →
      (∀ f ∈ chunks 80 (c.desc.u 32 1) c.desc.data, frameOk (s.canCtl c.desc.object).cfg f = true) →
      (((s.start c.uid).canFree c.desc.object).length < c.desc.u 32 1 → exec (.canTx q tag) s = .next ((s.start c.uid).fail c.uid ST_BUSY)) ∧
      (c.desc.u 32 1 ≤ ((s.start c.uid).canFree c.desc.object).length → s.canModeNow c.desc.object ≠ 1 → s.canModeNow c.desc.object ≠ 3 →
        exec (.canTx q tag) s = .next ((s.start c.uid).fail c.uid ST_DENIED)) ∧
      (c.desc.u 32 1 ≤ ((s.start c.uid).canFree c.desc.object).length → s.canModeNow c.desc.object = 1 ∨ s.canModeNow c.desc.object = 3 → exec (.canTx q tag) s =
        .next (((s.start c.uid).updCan c.desc.object fun x => { x with cmds := x.cmds.set c.uid ⟨c.desc.u 32 1, 0, 0⟩, tx := (((s.start c.uid).canFree c.desc.object).zip (chunks 80 (c.desc.u 32 1) c.desc.data)).foldl (fun (t : Tab CanTxEntry) e => t.set e.1 ⟨e.2, some c.uid⟩) ((s.start c.uid).canTx c.desc.object) }).setDeadline c.uid (if c.desc.u 36 4 = 0 then 0 else s.now + c.desc.u 36 4 * ms)))) ∧
    (Starts 0x0F03 q tag s c → c.desc.object ≤ 3 → canRxHost (s.canCtl c.desc.object).cfg = c.entry → 1 ≤ c.desc.u 32 1 → c.desc.u 32 1 ≤ 64 → 80 * c.desc.u 32 1 ≤ c.desc.dataLen →
      exec (.canRxRead q tag) s = .next ((s.start c.uid).answer c (pack [(1, ((s.canCtl c.desc.object).rx.take (c.desc.u 32 1)).length)])
        ((s.canCtl c.desc.object).rx.take (c.desc.u 32 1)).flatten)) ∧
    (Starts 0x0F03 q tag s c → c.desc.object ≤ 3 → canRxHost (s.canCtl c.desc.object).cfg ≠ c.entry → exec (.canRxRead q tag) s = .next ((s.start c.uid).fail c.uid ST_DENIED)) ∧
    (∀ l r k, Starts 0x0F04 q tag s c → c.desc.object ≤ 3 → canRxHost (s.canCtl c.desc.object).cfg = c.entry → (s.canCtl c.desc.object).rx = l ++ r :: k → fld r 6 2 = c.desc.u 32 2 →
      (∀ e ∈ l, fld e 6 2 ≠ c.desc.u 32 2) → exec (.canRxAck q tag) s =
        .next (((s.start c.uid).updCan c.desc.object fun x => { x with rx := k }).endCmd c.uid ST_OK (pack [(1, k.length)]) [] 0 0)) ∧
    (Starts 0x0F04 q tag s c → c.desc.object ≤ 3 → canRxHost (s.canCtl c.desc.object).cfg = c.entry → (∀ e ∈ (s.canCtl c.desc.object).rx, fld e 6 2 ≠ c.desc.u 32 2) →
      exec (.canRxAck q tag) s = .next ((s.start c.uid).fail c.uid ST_BAD_PARAM)) ∧
    (Starts 0x0F05 q tag s c → c.desc.object ≤ 3 → (s.canCtl c.desc.object).busoff = true → exec (.canRecover q tag) s =
      .next ((s.start c.uid).updCan c.desc.object fun x => { x with lock := false, recovering := true, recover := x.recover ++ [c.uid] })) ∧
    (Starts 0x0F05 q tag s c → c.desc.object ≤ 3 → (s.canCtl c.desc.object).busoff = false → exec (.canRecover q tag) s = .next ((s.start c.uid).endCmd c.uid ST_OK [] [] 0 0)) ∧
    (Starts 0x0F06 q tag s c → c.desc.object ≤ 3 → exec (.canStatus q tag) s = .next ((s.start c.uid).answer c (pack [(4, (s.start c.uid).canStat c.desc.object), (4, s.canErrCnt c.desc.object),
      (4, s.can.latch), (1, s.can.latchWrap), (3, s.can.latchAt / us)]) [])) ∧
    (∀ x, s.mbx.inflight.find? (fun c => c.q == q && c.desc.tag == tag && c.desc.opcode == 0x0F02 && c.phase == .running) = some x → x.deadline ≠ 0 → x.deadline ≤ s.now →
      exec (.canTxTimeout q tag) s = .next (s.canTxEnd x.desc.object x.uid ST_TIMEOUT)) ∧
    (∀ r t, Starts 0x0F00 q tag s c → c.record 512 = some r → c.desc.object ≤ 3 → s.canRecOk r = true → (s.canCtl c.desc.object).detect = none →
      t = (s.canCtl c.desc.object).cmds.keys.foldl (fun (u : State) j => u.canTxEnd c.desc.object j ST_ABORTED) (s.start c.uid) →
      exec (.canConfig q tag) s = .next (((t.updCan c.desc.object fun x => { x with cfg := r, tx := [] }).canGauge c.desc.object (t.canCtl c.desc.object).cfg).endCmd c.uid ST_OK [] [] 512 0)) ∧
    (∀ r old : Rec, canTiming (s.canCtl 3).cfg = r → r ≠ canTiming old → (s.canGauge 3 old).can.gaugeWanted = some (r, s.now) ∧
      ((s.canGauge 3 old).awaits .canTiming = true ∨ (s.canGauge 3 old).hasGrant .canTiming = true)) ∧
    (∀ (r : Rec) (a : Nat), s.can.gaugeWanted = some (r, a) → canTimingDone s = { s with can := { s.can with gaugeTiming := r, gaugeWanted := none } } ∧
      (s.awaits .canTiming = true → a + 2 * sec ≤ s.now → s.canTimingLate = ({ s with can := { s.can with gaugeWanted := none } }.dropWork .canTiming).report SRC_CAN_TIMING 0))

/-- R445, R447, R448, R449, R450, R451, R452: what the bus does to a controller. A frame that no filter takes or whose queue is full leaves the queue as it is, a taken one goes to its end under the next sequence
number; a controller sends the pending frame of the lowest arbitration value; the error counts of R451, bus-off and its recovery; the detection's candidates. Model's own readings it rests on: log entries 42, 43. -/
def Obligations.CanEvents : Prop :=
  (∀ (s : State) (k : Nat) (x : CanRx), 3 < k ∨ s.canModeNow k = 0 ∨ s.canModeNow k = 3 ∨ (s.canCtl k).offBus = true → exec (.canFrameReceived k x) s = .next s) ∧
  (∀ (s : State) (k : Nat) (x : CanRx), k ≤ 3 → s.canModeNow k = 1 ∨ s.canModeNow k = 2 → (s.canCtl k).offBus = false →
    (∀ id fl dlc l a, s.canSees k x = .frame id fl dlc l a → exec (.canFrameReceived k x) s = .next (s.canFrameIn k id fl dlc l a)) ∧
    (∀ n, s.canSees k x = .error n → exec (.canFrameReceived k x) s = .next (s.canErrorIn k n)) ∧
    (s.canSees k x = .exception → exec (.canFrameReceived k x) s = .next (if (s.canCtl k).detect.isSome then s.canNext k else s))) ∧
  (∀ (s : State) (k id fl dlc a : Nat) (l : List Byte), (s.canCtl k).detect = none → bit fl 1 = false ∨ (canFd (s.canCtl k).cfg = true ∧ (bit fl 2 = false ∨ hasData (canTiming (s.canCtl k).cfg) = true)) →
    s.canSees k (.frame id fl dlc l a) = .frame id fl dlc l a) ∧
  (∀ (s : State) (k id fl dlc a : Nat) (l : List Byte), (s.canCtl k).detect = none → s.canModeNow k = 1 → s.canFrameIn k id fl dlc l a =
    ((s.canStore k id fl dlc l a).updCan k fun x => { x with recCount := if 127 < x.recCount then 127 else x.recCount - 1 }).emit (.canAck k)) ∧
  (∀ (s : State) (k id fl dlc n a : Nat) (l : List Byte), canMatch (s.canCtl k).cfg id (bit fl 0) = some n → fld (canFilter (s.canCtl k).cfg n) 9 1 = 1 →
    s.canStore k id fl dlc l a = s.safetyIn (.can k id) l) ∧
  (∀ (s : State) (k id fl dlc n a : Nat) (l : List Byte), k ≤ 3 → s.canModeNow k = 2 → (s.canCtl k).offBus = false → (s.canCtl k).detect = none → bit fl 1 = false →
    canMatch (s.canCtl k).cfg id (bit fl 0) = some n → fld (canFilter (s.canCtl k).cfg n) 9 1 = 0 → canRxHost (s.canCtl k).cfg ≠ 0xFF →
    ((s.canCtl k).rx.length < 64 → ∃ t : State, exec (.canFrameReceived k (.frame id fl dlc l a)) s = .next t ∧ (∃ e, (t.canCtl k).rx = (s.canCtl k).rx ++ [e] ∧ e.length = 80 ∧
      fld e 0 4 = id % 2 ^ 32 ∧ fld e 6 2 = (s.canCtl k).seq % 65536 ∧ fld e 8 4 = s.canTicksAt a % 2 ^ 32) ∧ (t.canCtl k).seq = ((s.canCtl k).seq + 1) % 65536 ∧ (∀ j, j ≠ k → t.canCtl j = s.canCtl j) ∧
      t = { s with can := { s.can with ctls := t.can.ctls } }) ∧
    (64 ≤ (s.canCtl k).rx.length → ∃ t : State, exec (.canFrameReceived k (.frame id fl dlc l a)) s = .next t ∧ (t.canCtl k).rx = (s.canCtl k).rx ∧ (t.canCtl k).overrun = true ∧
      (t.canCtl k).dropped = ((s.canCtl k).dropped + 1) % 65536 ∧ ∀ j, j ≠ k → t.canCtl j = s.canCtl j)) ∧
  (∀ (s : State) (k id fl dlc a : Nat) (l : List Byte), k ≤ 3 → s.canModeNow k = 2 → (s.canCtl k).offBus = false → (s.canCtl k).detect = none → bit fl 1 = false →
    canMatch (s.canCtl k).cfg id (bit fl 0) = none → exec (.canFrameReceived k (.frame id fl dlc l a)) s = .next s) ∧
  (∀ (r : Rec) (id n : Nat) (e : Bool), canMatch r id e = some n → n < 32 ∧ filterOn (canFilter r n) = true ∧ bit (fld (canFilter r n) 8 1) 0 = e ∧
    id &&& fld (canFilter r n) 4 4 = fld (canFilter r n) 0 4 &&& fld (canFilter r n) 4 4) ∧
  (∀ (s : State) (k n : Nat), k ≤ 3 → s.canModeNow k = 1 → (s.canCtl k).offBus = false → (s.canCtl k).detect = none → exec (.canFrameReceived k (.error n)) s =
    .next ((s.canErr k fun x => { x with recCount := min 255 (x.recCount + n) }).emit (.canError k ((s.canCtl k).errState == 1)))) ∧
  (∀ (s : State) (k : Nat), k ≤ 3 → s.canModeNow k = 1 → (s.canCtl k).offBus = false → s.canFirst k = none → ∀ e, exec (.canFrameSent k e) s = .next s) ∧
  (∀ (s : State) (k n : Nat) (e : CanTxEntry), k ≤ 3 → s.canModeNow k = 1 → (s.canCtl k).offBus = false → s.canFirst k = some (n, e) →
    exec (.canFrameSent k .sent) s = .next (((s.canDone k n e true).updCan k fun x => { x with tec := x.tec - 1 }).emit (.canFrame k e.frame)) ∧
    (canNoRetx (s.canCtl k).cfg = false → bit (fld e.frame 4 1) 5 = false → exec (.canFrameSent k .lost) s = .next s ∧
      ∀ b, exec (.canFrameSent k (.error b)) s = .next ((s.canErr k fun x => { x with tec := min 511 (x.tec + b) }).emit (.canError k ((s.canCtl k).errState == 1)))) ∧
    (canNoRetx (s.canCtl k).cfg = true ∨ bit (fld e.frame 4 1) 5 = true → exec (.canFrameSent k .lost) s = .next (s.canDone k n e false))) ∧
  (∀ (s : State) (k n : Nat) (e : CanTxEntry), k ≤ 3 → s.canModeNow k = 3 → (s.canCtl k).offBus = false → s.canFirst k = some (n, e) → exec (.canFrameSent k .sent) s =
    .next (((s.canDone k n e true).updCan k fun x => { x with tec := x.tec - 1 }).canStore k (fld e.frame 0 4) (fld e.frame 4 1) (fld e.frame 5 1) (e.frame.drop 16) 0)) ∧
  (∀ (s : State) (k n : Nat) (e : CanTxEntry), s.canFirst k = some (n, e) → (n, e) ∈ s.canTx k ∧ (s.isActive = true ∨ e.uid = none) ∧
    ∀ f ∈ s.canTx k, s.isActive = true ∨ f.2.uid = none → arbValue e.frame ≤ arbValue f.2.frame) ∧
  (∀ (s : State) (k : Nat), k ≤ 3 → (s.canCtl k).busoff = false → 256 ≤ (s.canCtl k).tec → ∃ t : State, exec (.canBusoff k) s = .next t ∧ (t.canCtl k).busoff = true ∧
    (t.canCtl k).recovering = false ∧ (t.canCtl k).offAt = s.now ∧ (t.canCtl k).busoffs = ((s.canCtl k).busoffs + 1) % 65536 ∧
    (t.canCtl k).offs = s.now :: (s.canCtl k).offs.filter (fun u => decide (s.now < u + 60 * sec)) ∧ ∀ j, j ≠ k → t.canCtl j = s.canCtl j) ∧
  (∀ (s : State) (k : Nat), (s.canCtl k).busoff = false → (s.canCtl k).tec ≤ 255 → exec (.canBusoff k) s = .next s) ∧
  (∀ (s : State) (k : Nat), (s.canCtl k).busoff = true → (s.canCtl k).recovering = false → canManual (s.canCtl k).cfg = false → (s.canCtl k).lock = false →
    (s.canCtl k).offAt + s.pms PAR_CAN_BUSOFF_HOLD_MS ≤ s.now → exec (.busoffHoldExpiry k) s = .next (s.updCan k fun x => { x with recovering := true })) ∧
  (∀ (s : State) (k : Nat), (s.canCtl k).lock = true ∨ canManual (s.canCtl k).cfg = true → exec (.busoffHoldExpiry k) s = .next s) ∧
  (∀ (s : State) (k : Nat), (s.canCtl k).busoff = true → (s.canCtl k).recovering = true → ∃ t : State, exec (.canRecovered k) s = .next t ∧ (t.canCtl k).busoff = false ∧ (t.canCtl k).tec = 0 ∧
    (t.canCtl k).recCount = 0 ∧ (t.canCtl k).recover = [] ∧ (t.canCtl k).rx = (s.canCtl k).rx ∧ ∀ j, j ≠ k → t.canCtl j = s.canCtl j) ∧
  (∀ (s : State) (k : Nat) (d : CanDetect), (s.canCtl k).detect = some d →
    (d.since + s.pms PAR_CAN_DETECT_DWELL_MS ≤ s.now → ∃ t : State, exec (.detectDwellExpiry k) s = .next t ∧
      (t.canCtl k).detect = some { d with cand := nextCand (s.canCtl k).cfg d.cand, good := 0, brs := false, since := s.now } ∧ (t.canCtl k).cfg = (s.canCtl k).cfg ∧ t = { s with can := t.can }) ∧
    (d.deadline ≤ s.now → exec (.detectTimeout k) s = .next ((s.updCan k fun x => { x with detect := none }).fail d.uid ST_TIMEOUT))) ∧
  (∀ (r : Rec) (n k : Nat) (l : List Nat), usedCands r = k :: l → nextCand r n ∈ usedCands r ∧ ((∃ m ∈ usedCands r, n < m) → n < nextCand r n ∧ ∀ m ∈ usedCands r, n < m → nextCand r n ≤ m) ∧
    ((∀ m ∈ usedCands r, m ≤ n) → nextCand r n = k)) ∧
  (∀ s : State, s.can.wraps < s.canTicks / 2 ^ 32 → exec .canTsWrap s = .next { s with can := { s.can with wraps := s.can.wraps + 1, wrap := (s.can.wrap + 1) % 256 } }) ∧
  (∀ s : State, s.canTicks / 2 ^ 32 ≤ s.can.wraps → exec .canTsWrap s = .next s)

/-! ### Key store and tamper (chapter 17) -/

/-- R467, R471, R473, R474, R475, R477, R478, R481, R482, R483, R484: Obsidian's commands and events. The checks of a key update come in the order of R471; a new mask keeps every key; a tamper zeroises the
slots; an enrolment is acknowledged or ends after its time. Model's own readings it rests on: log entries 36, 61, 99. -/
def Obligations.KeyStore : Prop :=
  (∀ (s : State) (q tag : Nat) (c : InFlight),
    (Starts 0x1000 q tag s c → exec (.obsStatus q tag) s = .next ((s.start c.uid).answer c (pack [(1, s.obs.lifecycle), (1, s.tamperCause), (1, s.armed.toNat), (1, s.obs.live.toNat),
      (4, s.obs.count), (2, s.obs.bkbat)]) (if 128 ≤ c.desc.dataLen then padTo 128 (s.obs.records.flatMap tamperBytes) else []))) ∧
    (Starts 0x1001 q tag s c → 1 ≤ c.desc.u 34 2 → 32 * c.desc.u 34 2 ≤ c.desc.dataLen → c.desc.u 32 2 + c.desc.u 34 2 ≤ 1280 → exec (.obsSlotRead q tag) s =
      .next ((s.start c.uid).answer c [] ((List.range (c.desc.u 34 2)).flatMap fun j => s.slotRecord (c.desc.u 32 2 + j)))) ∧
    (∀ b, Starts 0x1002 q tag s c → b = s.obs.chain.flatMap (fun x => leBytes 2 x.length ++ x) →
      (b.length ≤ c.desc.dataLen → exec (.obsChainRead q tag) s = .next ((s.start c.uid).answer c (leBytes 4 b.length) b)) ∧
      (c.desc.dataLen < b.length → exec (.obsChainRead q tag) s = .next ((s.start c.uid).fail c.uid ST_BAD_PARAM))) ∧
    (Starts 0x1003 q tag s c → c.desc.object ≠ 0 ∨ c.desc.dataLen ≠ c.desc.data.length ∨ updFormOk c.desc.data = false →
      exec (.obsUpdate q tag) s = .next ((s.start c.uid).fail c.uid ST_BAD_PARAM)) ∧
    (Starts 0x1003 q tag s c → c.desc.object = 0 → c.desc.dataLen = c.desc.data.length → updFormOk c.desc.data = true →
      (updOp c.desc.data = 8 → s.isStandby = true → exec (.obsUpdate q tag) s = .next ((s.start c.uid).fail c.uid ST_NOT_ACTIVE)) ∧
      (updOp c.desc.data ≠ 8 ∨ s.isStandby = false →
        (updAllowed (updOp c.desc.data) s.obs.lifecycle (fld (updBody c.desc.data) 0 1) = false → exec (.obsUpdate q tag) s = .next ((s.start c.uid).fail c.uid ST_LOCKED)) ∧
        (updAllowed (updOp c.desc.data) s.obs.lifecycle (fld (updBody c.desc.data) 0 1) = true →
          (s.updSigned c c.desc.data = false → exec (.obsUpdate q tag) s = .next ((s.start c.uid).fail c.uid ST_AUTH_FAIL)) ∧
          (s.updSigned c c.desc.data = true → fld c.desc.data 24 4 ≠ s.obs.count + 1 → exec (.obsUpdate q tag) s = .next ((s.start c.uid).fail c.uid ST_DENIED)) ∧
          (s.updSigned c c.desc.data = true → fld c.desc.data 24 4 = s.obs.count + 1 → (c.desc.data.drop 8).take 16 = padTo 16 s.sys.identity →
            (∀ st, s.updBlocked c.desc.data = some st → exec (.obsUpdate q tag) s = .next ((s.start c.uid).fail c.uid st)) ∧
            (s.updBlocked c.desc.data = none → exec (.obsUpdate q tag) s = .next ((s.start c.uid).obsAsk c { uid := c.uid, op := updOp c.desc.data, slot := updSlot c.desc.data, header := c.desc.data.take 64, body := updBody c.desc.data })))))) ∧
    (Starts 0x1004 q tag s c → s.obs.lifecycle = 4 ∨ s.obs.lifecycle = 5 → exec (.obsAttest q tag) s = .next ((s.start c.uid).fail c.uid ST_LOCKED)) ∧
    (∀ k, Starts 0x1004 q tag s c → s.obs.lifecycle ≠ 4 → s.obs.lifecycle ≠ 5 → s.obs.slots.get? c.desc.object = some k → k.type ≤ 5 →
      (s.slotAllows 0 0 M_OBS = true → ∃ (t : State) (l : List Byte), exec (.obsAttest q tag) s = .next (t.answer c (leBytes 4 l.length) l) ∧ t = { (s.start c.uid) with fresh := t.fresh }) ∧
      (s.slotAllows 0 0 M_OBS = false → exec (.obsAttest q tag) s = .next ((s.start c.uid).fail c.uid ST_DENIED))) ∧
    (Starts 0x1005 q tag s c → s.obs.lifecycle = 4 → (s.host c.entry).transport = 1 → exec (.obsDecommission q tag) s =
      .next ((s.start c.uid).obsAsk c { uid := c.uid, op := 0, slot := 0, header := [], body := [] })) ∧
    (Starts 0x1005 q tag s c → s.obs.lifecycle ≠ 4 → exec (.obsDecommission q tag) s = .next ((s.start c.uid).fail c.uid ST_LOCKED))) ∧
  (∀ s : State, s.obs.ready = true → s.obs.maskedAt + s.islN PAR_OBS_REMASK_MS * ms ≤ s.now → ∃ t : State, exec .remask s = .next t ∧
    t.obs.slots.map (fun e => (e.1, e.2.key, e.2.type, e.2.flags, e.2.uses, e.2.masters, e.2.worlds, e.2.lifecycles, e.2.keyId, e.2.cert)) =
      s.obs.slots.map (fun e => (e.1, e.2.key, e.2.type, e.2.flags, e.2.uses, e.2.masters, e.2.worlds, e.2.lifecycles, e.2.keyId, e.2.cert)) ∧
    t = { s with obs := { s.obs with slots := t.obs.slots, maskedAt := s.now }, fresh := t.fresh }) ∧
  (∀ (s : State) (n : Nat) (k : KeySlot) (key : Nat), ((s.putSlot n k key).obs.slots.get? n).map KeySlot.key = some key ∧ ∀ m, m ≠ n → (s.putSlot n k key).obs.slots.get? m = s.obs.slots.get? m) ∧
  (∀ s : State, s.zeroise.obs.slots = [] ∧ s.zeroise.obs.zeroised = true ∧ s.zeroise.obs.pairKeyed = false ∧ ∀ n u m, s.zeroise.slotAllows n u m = false) ∧
  (∀ (s : State) (b : BitVec 6), s.tamperSources b &&& s.armed = 0 →
    ∃ t : State, exec (.tamperDetected b) s = .next t ∧ t.obs.slots = s.obs.slots ∧ t.obs.lifecycle = s.obs.lifecycle ∧ t.obs.live = s.tamperSources b ∧ t = { s with obs := t.obs }) ∧
  (∀ (s : State) (b : BitVec 6), s.tamperSources b &&& s.armed ≠ 0 → s.obs.ready = false → ∃ t : State, exec (.tamperDetected b) s = .next t ∧ t.obs.slots = [] ∧
    t.obs.lifecycle = 4 ∧ t.obs.zeroised = true ∧ t.obs.latch = some (s.obs.latch.getD 0 ||| (s.tamperSources b &&& s.armed)) ∧ t = { s with obs := t.obs }) ∧
  (∀ (s : State) (b : BitVec 6), s.tamperSources b &&& s.armed ≠ 0 → s.obs.ready = true → s.sys.powered.getLsbD 2 = true → exec (.tamperDetected b) s =
    .next (({ s with obs := { s.obs with live := s.tamperSources b, meshOpen := (s.tamperSources b).getLsbD 0 } }).tamper
      (s.tamperSources b &&& s.armed))) ∧
  (∀ (s : State) (t : Nat), s.obs.serviceEnd = some t → t ≤ s.now → s.obs.lifecycle = 3 → exec .serviceExpiry s = .next s.rearm) ∧
  (∀ (s : State) (mv : Nat), s.islN PAR_OBS_BKBAT_WARN_MV ≤ mv → exec (.obsBkbatLow mv) s = .next { s with obs := { s.obs with bkbat := mv, bkbatWarn := false } }) ∧
  (∀ (s : State) (mv : Nat), mv < s.islN PAR_OBS_BKBAT_WARN_MV → s.sys.pg = true → s.obs.bkbatWarn = false → exec (.obsBkbatLow mv) s =
    .next ((({ s with obs := { s.obs with bkbat := mv, bkbatWarn := true } }).raise 0x10 0x0004 mv).report SRC_OBS_BKBAT 0)) ∧
  (∀ (s : State) (n a : Nat), s.enrolling n = none → exec (.enrolAck n a) s = .next s ∧ exec (.enrolAckTimeout n) s = .next s) ∧
  (∀ (s t : State) (n a : Nat) (w : ObsWork) (id : List Byte), id = ((s.plan n).map fun (r : Rec) => r.take 16).getD [] → s.enrolling n = some w →
    t = ({ s with obs := { s.obs with work := s.obs.work.filter fun x => x.uid != w.uid, count := s.obs.count + 1 } }).deriveNode n ⟨fld w.body 2 2, fld w.body 4 4, id, s.enrolSlot n, a⟩ →
    exec (.enrolAck n a) s = .next (((if s.pairShare (fld w.body 2 2) then t.shareSlots else t).raise 0x10 0x0003 (s.enrolSlot n)).obsOk w.uid)) ∧
  (∀ (s : State) (n : Nat) (e : Enrolment), s.obs.enrolled.get? n = some e → s.enrolSlot n = e.slot) ∧
  (∀ (s : State) (n k : Nat), s.obs.enrolled.get? n = none → s.obs.slots.freeFrom 800 400 = some k → s.enrolSlot n = k) ∧
  (∀ (s : State) (n t : Nat) (w : ObsWork), s.enrolling n = some w → w.ackBy = some t → t ≤ s.now → exec (.enrolAckTimeout n) s =
    .next (({ s with obs := { s.obs with work := s.obs.work.filter fun x => x.uid != w.uid } }).fail w.uid ST_TIMEOUT)) ∧
  (∀ (s t : State) (o : PairOffer) (l : List (Nat × KeySlot)) (k : List (Nat × Enrolment)), s.agrees o = false → t = s.dropPairKey →
    exec (.pairKeyAgreement o l k) s = .next (if t.pair.sync = SYNC_FORMING then t.pairChecks true else t)) ∧
  (∀ (s t : State) (o : PairOffer) (l : List (Nat × KeySlot)) (k : List (Nat × Enrolment)), s.agrees o = true →
    t = (((s.pairKeyIn o).takeShared l k).shareSlots).raise 0x10 0x0005 0 → exec (.pairKeyAgreement o l k) s = .next (if t.pair.sync = SYNC_FORMING then t.pairChecks false else t)) ∧
  (∀ (s : State) (o : PairOffer), (s.pairKeyIn o).obs.pairKeyed = true ∧ ∃ n, (s.pairKeyIn o).obs.pairSlot = some n ∧ (s.obs.slots.get? n = none ∨ s.obs.pairSlot = some n ∨ n = 1200) ∧
    ((s.pairKeyIn o).obs.slots.get? n).isSome = true) ∧
  (∀ s : State, s.dropPairKey.obs.pairKeyed = false ∧ s.dropPairKey.obs.pairSlot = none) ∧
  (∀ (s t : State) (u : Nat) (w : ObsWork), s.obs.work.find? (fun x => x.uid == u) = some w → (1 ≤ w.op ∧ w.op ≤ 5) ∨ w.op = 7 →
    t = { s with obs := { s.obs with work := s.obs.work.filter fun x => x.uid != u } }.updApply w → ∃ r : State, obsStoreDone u s = r.obsOk u ∧ r.obs.count = s.obs.count + 1 ∧
      r.obs.slots = t.obs.slots ∧ r.obs.lidEn = t.obs.lidEn ∧ r.obs.lifecycle = t.obs.lifecycle) ∧
  (∀ (s : State) (w : ObsWork), w.op = 2 → ((s.updApply w).obs.slots.get? w.slot).map (fun (k : KeySlot) => (k.type, k.uses, k.masters, k.worlds, k.lifecycles, k.cert, k.key)) =
    some (fld w.body 2 1, fld w.body 4 2, fld w.body 6 1, fld w.body 7 1, fld w.body 8 1, w.body.drop 32, 0))

/-! ### Safety island (chapter 18) -/

/-- R514, R517, R519: the safety commands and the reset. A pulse outside 200 ms to 2 s resets nothing; a trip locks its outlets; an arm and a commit end after their times. Model's own readings it rests on: log entries 23, 24, 79, 80, 85. -/
def Obligations.SafetyCommands : Prop :=
  (∀ (s : State) (q tag : Nat) (c : InFlight),
    (∀ i, Starts 0x1100 q tag s c → c.desc.dataLen = c.desc.data.length → c.desc.object = 0 → grnImageOf c.desc.data = some i → exec (.grnConfigLoad q tag) s =
      .next (({ (s.start c.uid) with grn := { s.grn with pendingImg := some i } }).answer c (pack [(4, imgCrc i)]) [])) ∧
    (Starts 0x1100 q tag s c → grnImageOf c.desc.data = none → exec (.grnConfigLoad q tag) s = .next ((s.start c.uid).fail c.uid ST_BAD_PARAM)) ∧
    (∀ i, Starts 0x1101 q tag s c → s.grn.pendingImg = some i → c.desc.object = 0 → imgCrc i = c.desc.u 32 4 →
      (s.gatesOn s.grn.image = false → s.gatesOn i = false → s.anyPrecharge = false → s.grn.commit = none → exec (.grnConfigCommit q tag) s =
        .next { (s.start c.uid) with grn := { s.grn with commit := some (c.uid, s.now + 60 * sec) } }) ∧
      (s.gatesOn s.grn.image = true ∨ s.gatesOn i = true ∨ s.anyPrecharge = true → exec (.grnConfigCommit q tag) s = .next ((s.start c.uid).fail c.uid ST_BUSY))) ∧
    (Starts 0x1102 q tag s c → 352 ≤ c.desc.dataLen → c.desc.object = 0 → ∃ l, exec (.grnRead q tag) s = .next ((s.start c.uid).answer c [] l) ∧ l.length = 352 ∧
      (∀ o < 256, bit (byteAt l (o / 8)) (o % 8) = s.outletLocked o ∧ bit (byteAt l (32 + o / 8)) (o % 8) = s.grn.present.contains o ∧ byteAt l (96 + o) = s.grn.locks.getD o 0 % 256) ∧
      fld l 88 4 = imgCrc s.grn.image % 2 ^ 32) ∧
    (∀ b, Starts 0x1103 q tag s c → c.record 32 = some b → c.desc.object = 0 → exec (.grnResetArm q tag) s = .next (({ (s.start c.uid) with grn := { s.grn with arm := some ⟨c.desc.u 32 1, c.desc.u 34 2, maskOutlets b, s.now + imgResetWindowS s.grn.image * sec⟩ } }).answer c [] [])) ∧
    (∀ b, Starts 0x1104 q tag s c → c.record 32 = some b → c.desc.object = 0 → exec (.grnTrip q tag) s =
      .next ((((List.range 8).filter (bit (c.desc.u 32 1))).foldl (fun (u : State) n => u.lockOutput 7 n) ((s.start c.uid).trip 7 (maskOutlets b))).answer c
        (pack [(2, ((maskOutlets b).filter fun o => !s.outletLocked o).length)]) [])) ∧
    (Starts 0x1105 q tag s c → c.desc.object = 0 → 1 ≤ c.desc.u 34 2 → 16 * c.desc.u 34 2 ≤ c.desc.dataLen → c.desc.u 32 2 + c.desc.u 34 2 ≤ 512 → exec (.grnConnRead q tag) s =
      .next ((s.start c.uid).answer c [] ((List.range (c.desc.u 34 2)).flatMap fun j => s.connRecord (c.desc.u 32 2 + j))))) ∧
  (∀ (s : State) (u t : Nat), s.grn.commit = some (u, t) → t ≤ s.now → exec .commitPulseTimeout s = .next (({ s with grn := { s.grn with commit := none } }).fail u ST_TIMEOUT)) ∧
  (∀ (s : State) (a : GrnArm), s.grn.arm = some a → (a.expiry ≤ s.now → exec .resetArmExpiry s = .next { s with grn := { s.grn with arm := none } }) ∧
    (s.now < a.expiry → exec .resetArmExpiry s = .next s)) ∧
  (∀ (s : State) (hi lo : Nat), hi < 200000 ∨ 2000000 < hi ∨ s.grn.halted = true → exec (.sresetPulse hi lo) s = .next s) ∧
  (∀ (s : State) (hi lo : Nat), s.grn.halted = false → 200000 ≤ hi → hi ≤ 2000000 → s.grn.tooLong = false ∨ 1000000 ≤ lo → exec (.sresetPulse hi lo) s =
    .next (({ s with grn := { s.grn with tooLong := false } }).resetPulse.fwPulse)) ∧
  (∀ s : State, s.grn.halted = false → s.grn.tooLong = false → ∃ t : State, exec .sresetTooLong s = .next t ∧ t.grn = { s.grn with tooLong := true } ∧ t = { s with grn := t.grn, mbx := t.mbx, fresh := t.fresh }) ∧
  (∀ (s : State) (o : Nat), (State.lockOutlet s 7 o).outletLocked o = true ∧ (∀ m, m ≠ o → (State.lockOutlet s 7 o).outletLocked m = s.outletLocked m) ∧
    ∀ k, s.grn.locks.get? o = some k → (State.lockOutlet s 7 o) = s)

/-- R488, R492, R493, R497, R498, R499, R503, R504, R506, R512, R513: Granite's events. A telegram is accepted only with its checks passed in their order; the third accepted in a row brings a connection to RUN;
the watchdog makes it FAULTY; the outputs open on a demand and stay open with a cause; safe state and halt. Model's own readings it rests on: log entries 17, 20, 21, 22, 82, 86. -/
def Obligations.SafetyEvents : Prop :=
  (∀ s : State, s.grn.halted = true → (∀ l r h, exec (.graniteCycle l r h) s = .next s) ∧ (∀ x l, exec (.safetyTelegram x l) s = .next s) ∧ exec .graniteHalt s = .next s ∧
    (∀ n a b, exec (.testPulse n a b) s = .next s) ∧ ∀ l, exec (.lockSetReceived l) s = .next s) ∧
  (∀ (s t u : State) (l : List (BitVec 32)) (r h : Nat), s.grn.halted = false → t = ((List.range 16).foldl (State.inputCycle l) s).clockCheck r h → u = (if t.flt.request then t.enterSafe else t) →
    exec (.graniteCycle l r h) s = .next (((List.range 8).foldl State.outputCycle (((({ u with flt := { u.flt with tripReq := [] } }).trip 8 u.flt.tripReq.eraseDups).tripPresent (List.range 256)).siteVoid s)).sendChanged)) ∧
  (∀ (s : State) (r h : Nat), (24750 ≤ r ∧ r ≤ 25250) → (s.emitsCycles = false ∨ (49 ≤ h ∧ h ≤ 51)) → (s.clockCheck r h).grn = { s.grn with clockFails := 0 } ∧ (s.clockCheck r h).sys.safeCheck = true) ∧
  (∀ (s : State) (r h : Nat), (r < 24750 ∨ 25250 < r) → s.grn.clockFails = 0 → (s.clockCheck r h).grn = { s.grn with clockFails := 1 } ∧ (s.clockCheck r h).sys.safeCheck = false) ∧
  (∀ (c : GrnChan) (t hold : Nat), (c.sample c.raw t hold).edges = c.edges ∧ (c.sample (!c.raw) t hold).raw = !c.raw ∧ (c.sample (!c.raw) t hold).since = t ∧
    (c.level ≠ c.raw → t < c.since + hold → (c.sample c.raw t hold).level = c.level) ∧ (c.level ≠ c.raw → c.since + hold ≤ t → (c.sample c.raw t hold).level = c.raw)) ∧
  (∀ (s : State) (n t : Nat), (s.grnIn n).discSince = some t → s.grn.halted = false → inMode (s.inRec n) = 1 ∨ inMode (s.inRec n) = 2 → (t + inDiscMs (s.inRec n) * ms < s.now → exec (.inputDiscrepancy n) s = .next (s.inputFault n)) ∧
    (s.now ≤ t + inDiscMs (s.inRec n) * ms → exec (.inputDiscrepancy n) s = .next s)) ∧
  (∀ (s : State) (n : Nat), outUsed (s.outRec n) = true → (s.grnOut n).cause ≠ 0 → (s.grnOut n).closed = false → ((s.outputCycle n).grnOut n).closed = false ∧ ((s.outputCycle n).grnOut n).cause = (s.grnOut n).cause) ∧
  (∀ (s : State) (n : Nat), outUsed (s.outRec n) = true → (∃ i < 16, bit (outInMask (s.outRec n)) i = true ∧ s.inTrips i = true) → ((s.outputCycle n).grnOut n).closed = false) ∧
  (∀ (s : State) (n a b : Nat), s.grn.halted = false → outUsed (s.outRec n) = true →
    ((s.grnOut n).closed = false → a < 5000 → exec (.testPulse n a b) s = .next s) ∧
    ((s.grnOut n).closed = false → 5000 ≤ a → exec (.testPulse n a b) s = .next (s.outputFault 12 n fun x => { x with highFail := true })) ∧
    ((s.grnOut n).closed = true → s.now < (s.grnOut n).testedAt + imgTpPeriodMs s.grn.image * ms → exec (.testPulse n a b) s = .next s) ∧
    ((s.grnOut n).closed = true → (s.grnOut n).testedAt + imgTpPeriodMs s.grn.image * ms ≤ s.now → exec (.testPulse n a b) s =
      .next (((s.updOut n fun x => { x with testedAt := s.now }).emit (.testPulse n (imgTpUs s.grn.image))).switchCheck n a b))) ∧
  (∀ (s : State) (n a b : Nat), (s.grnOut n).closed = true → (a < 5000 → 15000 < b → s.switchCheck n a b = s) ∧ (5000 ≤ a ∨ b ≤ 15000 →
    ((s.switchCheck n a b).grnOut n).closed = false ∧ ((s.switchCheck n a b).grnOut n).cause ≠ 0)) ∧
  (∀ (s : State) (n t : Nat), (s.grnOut n).changedAt = some t → s.grn.halted = false → outUsed (s.outRec n) = true → outFb (s.outRec n) ≠ 0xFF → t + outFbMs (s.outRec n) * ms ≤ s.now →
    ((s.grnOut n).closed = true ↔ s.fbReleased n = false) → exec (.feedbackTimeout n) s = .next (s.updOut n fun x => { x with changedAt := none })) ∧
  (∀ (s : State) (n t : Nat), (s.grnOut n).changedAt = some t → s.grn.halted = false → outUsed (s.outRec n) = true → outFb (s.outRec n) ≠ 0xFF → t + outFbMs (s.outRec n) * ms ≤ s.now → (s.grnOut n).closed = false →
    s.fbReleased n = false → exec (.feedbackTimeout n) s = .next ((s.updOut n fun x => { x with changedAt := none }).outputFault 13 n fun x => { x with weld := true })) ∧
  (∀ (s : State) (n : Nat), ((s.grnOut n).closed = true → exec (.outputCurrentLimit n) s = .next (s.lockOutput 12 n)) ∧ ((s.lockOutput 12 n).grnOut n).closed = false ∧ ((s.lockOutput 12 n).grnOut n).cause ≠ 0) ∧
  (∀ (s : State) (n t : Nat) (r : Rec), (s.grnConn n).lastAt = some t → s.grn.image.conns.get? n = some r → (s.grnConn n).state = 2 → s.grn.halted = false →
    (t + connWdMs r * ms ≤ s.now → exec (.connectionWatchdogExpiry n) s = .next (s.connFault n)) ∧ (s.now < t + connWdMs r * ms → exec (.connectionWatchdogExpiry n) s = .next s)) ∧
  (∀ (s : State) (n : Nat), (s.grn.image.conns.get? n).isSome = true → (s.grnConn n).state = 1 → (s.grnConn n).lastAt = none → (s.grnConn n).startAt + 10 * sec ≤ s.now → s.grn.halted = false →
    exec (.connectionStartTimeout n) s = .next (s.connFault n)) ∧
  (∀ (s : State) (n : Nat) (r : Rec), s.grn.image.conns.get? n = some r → (s.grnConn n).sentAt + connPeriodMs r * ms ≤ s.now → exec (.stateTelegramDue n) s = .next (s.sendState n)) ∧
  (∀ (s : State) (l : List Byte), s.grn.halted = false → (s.grn.image.conns.any fun e => connKind e.2 == 5 && (s.grnConn e.1).state == 2) = true → exec (.lockSetReceived l) s = .next (s.lockSetIn l)) ∧
  (∀ (s : State) (x : SafetySource) (b : List Byte) (n len : Nat) (r : Rec), n = fld b 0 2 → len = fld b 2 1 → s.grn.halted = false → s.connFor x n = some r →
    (telegramOk (connKind r) (fld b 3 1) len = false ∨ b.length < 12 + len → exec (.safetyTelegram x b) s = .next (s.updConn n GrnConn.discard)) ∧
    (telegramOk (connKind r) (fld b 3 1) len = true → 12 + len ≤ b.length →
      (scrc (connIdentity r) (b.take (8 + len)) ≠ fld b (8 + len) 4 → exec (.safetyTelegram x b) s = .next (s.crcError n)) ∧
      (scrc (connIdentity r) (b.take (8 + len)) = fld b (8 + len) 4 → fld b (6 + len) 2 ≠ connWdMs r → exec (.safetyTelegram x b) s = .next ((s.updConn n GrnConn.discard).connFault n)) ∧
      (∀ k, scrc (connIdentity r) (b.take (8 + len)) = fld b (8 + len) 4 → fld b (6 + len) 2 = connWdMs r → (s.grnConn n).seqIn = some k →
        ((fld b (4 + len) 2 + 65536 - k) % 65536 = 0 ∨ 32 < (fld b (4 + len) 2 + 65536 - k) % 65536 → exec (.safetyTelegram x b) s = .next (s.updConn n GrnConn.discard)) ∧
        (1 ≤ (fld b (4 + len) 2 + 65536 - k) % 65536 → (fld b (4 + len) 2 + 65536 - k) % 65536 ≤ 32 → exec (.safetyTelegram x b) s =
          .next (((s.connAccept n (fld b (4 + len) 2)).telegramIn n r (fld b 3 1) ((b.drop 4).take len)).sendChanged))) ∧
      (scrc (connIdentity r) (b.take (8 + len)) = fld b (8 + len) 4 → fld b (6 + len) 2 = connWdMs r → (s.grnConn n).seqIn = none → exec (.safetyTelegram x b) s =
        .next (((s.connAccept n (fld b (4 + len) 2)).telegramIn n r (fld b 3 1) ((b.drop 4).take len)).sendChanged)))) ∧
  (∀ (s : State) (x : SafetySource) (b : List Byte), s.connFor x (fld b 0 2) = none → exec (.safetyTelegram x b) s = .next s) ∧
  (∀ (s : State) (n q : Nat), ((s.connAccept n q).grnConn n).lastAt = some s.now ∧ ((s.connAccept n q).grnConn n).seqIn = some q ∧
    (((s.connAccept n q).grnConn n).state = if (s.grnConn n).state ≠ 2 ∧ 2 ≤ (s.grnConn n).run then 2 else (s.grnConn n).state)) ∧
  (∀ s : State, exec (.moduleSafeState true) s = .next s.enterSafe ∧ (s.grn.safeState = true → s.enterSafe = s)) ∧
  (∀ s : State, s.grn.halted = false → exec .graniteHalt s = .next ((({ s with grn := { s.grn with halted := true, outputs := s.grn.outputs.mapV fun _ x => { x with closed := false } } }).report
    SRC_GRN_SAFE_STATE 0).giveUp 3))

/-! ### Fault collector (chapter 19) -/

/-- R522, R523, R524, R527, R529, R531, R533, R534, R536: the fault commands and events. A report sets its source's bit and counts, a hold is strengthened and never weakened; once the collector has asserted its own
line nothing is set. Model's own readings it rests on: log entries 44, 65, 148, 149. -/
def Obligations.FaultCollector : Prop :=
  (∀ (s : State) (q tag : Nat) (c : InFlight),
    (Starts 0x1200 q tag s c → 1 ≤ c.desc.u 34 2 → 32 * c.desc.u 34 2 ≤ c.desc.dataLen → c.desc.u 32 2 + c.desc.u 34 2 ≤ 512 → exec (.fltRead q tag) s =
      .next ((s.start c.uid).answer c [] ((List.range (c.desc.u 34 2)).flatMap fun j => s.fltRecord (c.desc.u 32 2 + j)))) ∧
    (∀ r, Starts 0x1201 q tag s c → sourceRow (c.desc.u 32 2) = some r → c.desc.u 34 1 ≤ 3 → bit r.allowed (c.desc.u 34 1) = true → ∃ t : State,
      exec (.fltReactSet q tag) s = .next (t.ok c []) ∧ (c.desc.u 34 1 ≠ r.dflt → t.flt.reactions.get? (c.desc.u 32 2) = some (c.desc.u 34 1)) ∧
      (c.desc.u 34 1 = r.dflt → t.flt.reactions = s.flt.reactions.del (c.desc.u 32 2)) ∧ (∀ k, k ≠ c.desc.u 32 2 → t.flt.reactions.get? k = s.flt.reactions.get? k) ∧
      t = { (s.start c.uid) with flt := { s.flt with reactions := t.flt.reactions } }) ∧
    (∀ r, Starts 0x1201 q tag s c → sourceRow (c.desc.u 32 2) = some r → bit r.allowed (c.desc.u 34 1) = false → exec (.fltReactSet q tag) s = .next ((s.start c.uid).fail c.uid ST_BAD_PARAM)) ∧
    (∀ (r : SourceRow) (l : List Nat) (t : State), Starts 0x1202 q tag s c → sourceRow (c.desc.u 32 2) = some r → s.isStandby = false ∨ c.desc.u 32 2 < 64 ∨ 288 ≤ c.desc.u 32 2 →
      c.desc.object = 0xFFFFFFFF ∨ s.clearRefused r.kind c.desc.object = false → l = (s.clearTargets (c.desc.u 32 2) c.desc.object).filter (fun o => !s.clearRefused r.kind o) →
      t = ((l.foldl (fun (u : State) o => u.releaseHold (c.desc.u 32 2) r.kind o) (s.start c.uid)).clearBit (c.desc.u 32 2)).noteDegraded → exec (.fltClear q tag) s =
        .next (t.ok c (pack [(4, l.length), (4, (t.flt.holds.filter fun h => h.source == c.desc.u 32 2).length), (1, if (t.flt.src.getD (c.desc.u 32 2) {}).set then 1 else 0)]))) ∧
    (∀ r, Starts 0x1202 q tag s c → sourceRow (c.desc.u 32 2) = some r → s.isStandby = false → c.desc.object ≠ 0xFFFFFFFF → s.clearRefused r.kind c.desc.object = true →
      exec (.fltClear q tag) s = .next ((s.start c.uid).fail c.uid ST_BUSY)) ∧
    (Starts 0x1202 q tag s c → s.isStandby = true → 64 ≤ c.desc.u 32 2 → c.desc.u 32 2 < 288 → exec (.fltClear q tag) s = .next ((s.start c.uid).fail c.uid ST_NOT_ACTIVE)) ∧
    (Starts 0x1202 q tag s c → s.isStandby = false ∨ c.desc.u 32 2 < 64 ∨ 288 ≤ c.desc.u 32 2 → sourceRow (c.desc.u 32 2) = none → exec (.fltClear q tag) s = .next ((s.start c.uid).fail c.uid ST_BAD_PARAM)) ∧
    (Starts 0x1203 q tag s c → 480 ≤ c.desc.u 32 2 → c.desc.u 32 2 ≤ 511 → exec (.fltTest q tag) s = .next (((s.start c.uid).report (c.desc.u 32 2) 0).ok c [])) ∧
    (Starts 0x1203 q tag s c → c.desc.u 32 2 < 480 ∨ 511 < c.desc.u 32 2 → exec (.fltTest q tag) s = .next ((s.start c.uid).fail c.uid ST_BAD_PARAM))) ∧
  (∀ (s : State) (k o : Nat) (r : SourceRow), sourceRow k = some r → r.kind ≠ 4 → exec (.faultReport k o) s = .next (s.report k o)) ∧
  (∀ (s : State) (k o : Nat) (r : SourceRow), sourceRow k = some r → r.kind = 4 → exec (.faultReport k o) s =
    .next ((s.report k o).capsChanged (phaseNode o) (s.nodeCaps (phaseNode o)))) ∧
  (∀ (s : State) (k o : Nat), s.flt.request = true → s.report k o = s) ∧
  (∀ (s : State) (k o : Nat), sourceRow k = none → exec (.faultReport k o) s = .next s) ∧
  (∀ (s : State) (k o : Nat) (r : SourceRow), sourceRow k = some r → r.kind = 0 → s.flt.request = false → s.reaction r = 0 → ((s.report k o).flt.src.getD k {}).set = true ∧
    ((s.report k o).flt.src.getD k {}).count = (s.flt.src.getD k {}).count + 1 ∧ ((s.report k o).flt.src.getD k {}).lastObject = o ∧ (s.report k o).flt.last = some k ∧
    (s.report k o).flt.holds = s.flt.holds ∧ (s.report k o).flt.tripReq = s.flt.tripReq ∧ ∀ j, j ≠ k → (s.report k o).flt.src.get? j = s.flt.src.get? j) ∧
  (∀ (s : State) (k o : Nat) (r : SourceRow), sourceRow k = some r → 3 ≤ r.kind → s.flt.request = false → s.reaction r ≠ 0 →
    (s.report k o).flt.holds = placeHold s.flt.holds k o (s.reaction r) ∧ ((s.report k o).flt.src.getD k {}).set = true ∧ (s.report k o).flt.last = some k ∧
    (s.reaction r ≤ 2 → (s.report k o).flt.tripReq = s.flt.tripReq)) ∧
  (∀ (l : List Hold) (k o r : Nat), (∃ h ∈ placeHold l k o r, h.source = k ∧ h.object = o ∧ r ≤ h.reaction) ∧
    (∀ h ∈ l, h.source ≠ k ∨ h.object ≠ o → h ∈ placeHold l k o r) ∧ ∀ h ∈ l, ∃ g ∈ placeHold l k o r, g.source = h.source ∧ g.object = h.object ∧ h.reaction ≤ g.reaction) ∧
  (∀ (s : State) (q t : Nat), (s.qp q).fullSince = some t → (s.qp q).stalled = false → t + s.pms PAR_FLT_QSTALL_MS ≤ s.now → exec (.queueStall q) s =
    .next ((s.updQp q fun p => { p with stalled := true }).report SRC_QUEUE_STALL q)) ∧
  (∀ (s : State) (q : Nat), (s.qp q).fullSince = none → exec (.queueStall q) s = .next s) ∧
  (∀ (s : State) (a b : List (Nat × Nat)), s.flt.request = true → exec (.collectorSelfCheck a b) s = .next s) ∧
  (∀ (s : State) (a b : List (Nat × Nat)), parityFails a = false → copiesDiffer a b = false → exec (.collectorSelfCheck a b) s = .next s) ∧
  (∀ (s : State) (a b : List (Nat × Nat)), s.flt.request = false → parityFails a = true ∨ copiesDiffer a b = true → ∃ t : State, exec (.collectorSelfCheck a b) s = .next t ∧
    t.flt.request = true ∧ t.flt.parity = (s.flt.parity || parityFails a) ∧ t.flt.mismatch = (s.flt.mismatch || copiesDiffer a b) ∧ t.flt.degraded = true ∧ t.flt.holds = s.flt.holds ∧
    t = { s with flt := t.flt, mbx := t.mbx })

/-! ### Redundant pair (chapter 20) -/

/-- R540, R542, R545, R546, R549, R551, R552, R563, R564: the pair's commands, status and images: what a STATUS, the image exchange and their timeouts do, and who keeps control. Model's own readings it rests on: log entries 47, 48, 93, 96. -/
def Obligations.PairRows : Prop :=
  (∀ (s : State) (q tag : Nat) (c : InFlight),
    (Starts 0x1300 q tag s c → ∃ d, exec (.pairStatus q tag) s = .next ((s.start c.uid).answer c (pack [(4, s.pairStat), (4, s.pairHeld), (4, s.ownEpoch), (4, (s.pair.partner.getD {}).epoch)]) d) ∧
      (32 ≤ c.desc.dataLen → d = partnerRecord (s.pair.partner.getD {})) ∧ (c.desc.dataLen < 32 → d = [])) ∧
    (Starts 0x1301 q tag s c → s.partnerReady = false → exec (.pairSwitchover q tag) s = .next ((s.start c.uid).fail c.uid ST_NO_PARTNER)) ∧
    (∀ p, Starts 0x1301 q tag s c → s.partnerReady = true → s.partnerSeen = some p → p.selfTest = true →
      (s.pair.split = true ∨ s.pair.healing = true → exec (.pairSwitchover q tag) s = .next ((s.start c.uid).fail c.uid ST_BUSY)) ∧
      (s.pair.split = false → s.pair.healing = false → exec (.pairSwitchover q tag) s = .next (((s.start c.uid).beginFinal 7).updPair fun x =>
        { x with switchCmd := some (c.uid, s.heldCount, s.now + 10 * ms + (if s.plc.master then 3 * s.pms PAR_PLC_CYCLE_MS else 0)) })))) ∧
  (∀ (s : State) (r : Nat), (s.beginFinal r).pair.role = ROLE_RELEASING ∧ (s.beginFinal r).pair.roleAfter = ROLE_STANDBY ∧ (s.beginFinal r).pair.releaseLeft = 3 ∧ (s.beginFinal r).pair.finalWanted = true) ∧
  (∀ (s : State) (u h t : Nat), s.pair.switchCmd = some (u, h, t) → t ≤ s.now → exec .switchoverTimeout s = .next ((s.fail u ST_TIMEOUT).updPair fun x => { x with switchCmd := none })) ∧
  (∀ (s : State) (p : PartnerStatus), s.pair.link = false ∨ s.partnerConfigured = false → exec (.pairStatusMessage p) s = .next s) ∧
  (∀ (s : State) (p : PartnerStatus), s.pair.link = true → s.partnerConfigured = true → s.pair.sync = SYNC_DOWN → exec (.pairStatusMessage p) s = .next (s.formPair p)) ∧
  (∀ (s : State) (p : PartnerStatus), s.pair.link = true → s.partnerConfigured = true → s.pair.sync ≠ SYNC_DOWN → s.isPaired = false → exec (.pairStatusMessage p) s =
    .next (((((s.updPair fun x => { x with partner := some p, statusAt := s.now }).noteSplit).switchDone p).claimLapsed))) ∧
  (∀ (s : State) (p : PartnerStatus), s.cageLit 4 = true → s.partnerConfigured = false → exec (.pairLinkLock p) s = .next (s.updPair fun x => { x with link := true })) ∧
  (∀ (s : State) (p : PartnerStatus), s.cageLit 4 = false → exec (.pairLinkLock p) s = .next s) ∧
  (∀ (s : State) (p : PartnerStatus), s.cageLit 4 = true → s.partnerConfigured = true → s.pair.sync = SYNC_DOWN → exec (.pairLinkLock p) s =
    .next ((s.updPair fun x => { x with link := true }).formPair p)) ∧
  (∀ s : State, exec (.pairLinkLost true) s = .next (s.pairLost.updPair fun x => { x with link := false }) ∧ (s.pair.statusAt + 3 * ms ≤ s.now → exec (.pairLinkLost false) s = .next s.pairLost) ∧
    (s.now < s.pair.statusAt + 3 * ms → exec (.pairLinkLost false) s = .next s)) ∧
  (∀ s : State, s.pair.sync = SYNC_DOWN → s.pairLost = s) ∧
  (∀ s : State, s.pair.mismatch ≠ 0 → s.pair.checkedAt + 10 * sec ≤ s.now → exec .mismatchRecheck s = .next (s.pairChecks (s.pair.mismatch == 6 && !s.obs.pairKeyed))) ∧
  (∀ (s : State) (p : PartnerStatus) (k : Bool), (s.pairCause p k = 0 ↔ p.metOption = s.sys.metOption.toNat ∧ p.position ≠ s.pn PAR_PAIR_POSITION ∧ p.mode = s.pn PAR_PAIR_MODE ∧
    p.proto = s.proto ∧ p.namesUs = true ∧ p.named = true ∧ k = false)) ∧
  (∀ s : State, s.pair.sync < SYNC_SYNCING ∨ s.hasLease = false ∨ s.pair.sentCycle = some s.pair.siteCycle → exec .imageSend s = .next s) ∧
  (∀ s : State, SYNC_SYNCING < s.pair.sync → s.hasLease = true → s.pair.sentCycle ≠ some s.pair.siteCycle → exec .imageSend s = .next (s.sendImage (if s.pair.finalWanted then 2 else 0) 0 0)) ∧
  (∀ (s : State) (k a b : Nat), ∃ m, s.buildImage k a b = m ∧ (s.sendImage k a b).out = Emit.pairImage k m.iflags m.siteCycle m.epoch a b :: s.out ∧ (s.sendImage k a b).pair.imgSent = s.pair.imgSent + 1 ∧
    (s.sendImage k a b).pair.outst = s.pair.outst ++ [(s.pair.imgSent + 1, m.siteCycle, s.now)] ∧ (s.sendImage k a b).pair.sentCycle = some m.siteCycle) ∧
  (∀ (s : State) (m : PairImage), s.pair.link = false ∨ s.pair.sync < SYNC_SYNCING → exec (.imageReceived m) s = .next s) ∧
  (∀ (s : State) (m : PairImage), s.pair.link = true → s.isPaired = true → s.isActive = true → m.kind = 0 → (∀ k, s.pair.imageCycle = some k → m.siteCycle = (k + 1) % 2 ^ 32) → ∃ t : State,
    exec (.imageReceived m) s = .next t ∧ t.out = Emit.pairAck m.siteCycle :: s.out ∧ t.pair.imageCycle = some m.siteCycle ∧ t.pair.image = some m ∧ t.pair.imageAt = some s.now ∧
    t = { s with pair := t.pair, out := t.out }) ∧
  (∀ (s : State) (k : Nat), s.pair.outst.find? (fun e => e.2.1 == k) = none → exec (.imageAck k) s = .next s) ∧
  (∀ (s : State) (k n a : Nat), s.pair.outst.find? (fun e => e.2.1 == k) = some (n, k, a) → s.pair.sync ≠ SYNC_SYNCING → s.pair.finalImage = none → ∃ t : State, exec (.imageAck k) s = .next t ∧
    t.pair.imgAcked = max s.pair.imgAcked n ∧ t.pair.ackedCycle = k ∧ t.pair.outst = s.pair.outst.filter (fun e => e.1 != n) ∧
    t.ses.txWait = s.ses.txWait.filter (fun e => !decide (e.1 ≤ max s.pair.imgAcked n)) ∧ t = { s with pair := t.pair, ses := { s.ses with txWait := t.ses.txWait }, out := t.out }) ∧
  (∀ (s : State) (n k a : Nat) (l : List (Nat × Nat × Nat)), s.pair.outst = (n, k, a) :: l → (s.now < a + 2 * ms → exec .imageAckTimeout s = .next s) ∧
    (a + 2 * ms ≤ s.now → SYNC_SYNCING ≤ s.pair.sync → exec .imageAckTimeout s = .next ((s.setSync SYNC_SYNCING).updPair fun x =>
      { x with outst := [], finalWanted := x.finalWanted || x.finalImage.isSome, finalImage := none }))) ∧
  (∀ s : State, s.isActive = true → s.partnerConfigured = true → s.pn PAR_PAIR_SWITCH_DAYS ≤ (s.now - s.pair.switchAt) / (24 * hour) → s.pair.switchDue = false → exec .switchDue s =
    .next ((s.updPair fun x => { x with switchDue := true, switchDueAt := s.now }).raise 0x13 0x000A ((s.now - s.pair.switchAt) / (24 * hour)))) ∧
  (∀ (s : State) (q tag st : Nat), s.forwarded q tag = none → exec (.partnerReply q tag st) s = .next s ∧ exec (.partnerReplyTimeout q tag) s = .next s) ∧
  (∀ (s : State) (q tag st : Nat) (c : InFlight), s.forwarded q tag = some c → exec (.partnerReply q tag st) s = .next (s.partnerDone c (st % 256)) ∧
    (c.deadline ≠ 0 → c.deadline ≤ s.now → exec (.partnerReplyTimeout q tag) s = .next (s.partnerDone c 0xFF))) ∧
  (∀ (s : State) (d : Desc) (m : Option MirrorStore), mirroredBody d.opcode m = none ∨ s.isActive = true ∨ s.isPaired = false → exec (.partnerRequest ⟨d, m⟩) s = .next s) ∧
  (∀ (s : State) (d : Desc) (m : Option MirrorStore) (f : InFlight → State → State) (c : InFlight), mirroredBody d.opcode m = some f → s.isActive = false → s.isPaired = true →
    c = { uid := s.mbx.nextUid, q := PARTNER_Q, entry := 0, desc := d, phase := .running } → exec (.partnerRequest ⟨d, m⟩) s =
      .next (f c { s with mbx := { s.mbx with inflight := s.mbx.inflight ++ [c], nextUid := s.mbx.nextUid + 1 } })) ∧
  (∀ (s : State) (k n a : Nat), s.pair.outst.find? (fun e => e.2.1 == k) = some (n, k, a) → exec (.imageAck k) s = .next (s.imageAcked n a k)) ∧
  (∀ (s : State) (m : PairImage), s.pair.link = true → SYNC_SYNCING ≤ s.pair.sync → exec (.imageReceived m) s = .next (s.imageIn m)) ∧
  (∀ (s t : State) (p : PartnerStatus), s.pair.link = true → s.partnerConfigured = true → s.pair.sync ≠ SYNC_DOWN → t = s.updPair (fun x => { x with partner := some p, statusAt := s.now }) →
    exec (.pairStatusMessage p) s = .next ((((if s.isPaired && s.hasLease && !p.synchronised && (s.pair.partner.map PartnerStatus.synchronised) == some true then t.setSync SYNC_SYNCING
      else t).noteSplit).switchDone p).claimLapsed))

/-- R64, R543, R544, R545, R546, R553, R555, R556, R559, R560: control passes in order: the triggers, the release and its message, the wait at a start, split and heal, and lockstep, whose INPUTS an active module sends of each window that ends. Model's own readings it rests on: log entries 45, 46, 95, 155. -/
def Obligations.ControlPasses : Prop :=
  (∀ (s : State) (r : Nat), s.givesUp r = true → s.pair.outCause ≠ r → s.pair.role ≠ ROLE_OUT → s.pair.role ≠ ROLE_RELEASING ∨ r ≤ 4 → r ≠ 2 → exec (.giveUp r) s = .next (s.giveUp r)) ∧
  (∀ (s : State) (r : Nat), s.givesUp r = false → exec (.giveUp r) s = .next s) ∧
  (∀ (s : State) (r : Nat), s.pair.role = ROLE_ACTIVE → (s.giveUp r).pair.role = ROLE_RELEASING ∧ (s.giveUp r).pair.roleAfter = (if r ≤ 4 then ROLE_OUT else ROLE_STANDBY) ∧
    ∀ c ∈ (s.giveUp r).mbx.inflight, c.phase ≠ .waiting) ∧
  (∀ (s : State) (r : Nat), s.pair.role = ROLE_STANDBY → r ≤ 4 → (s.giveUp r).pair.role = ROLE_OUT) ∧
  (∀ (c : InFlight) (n : Nat), c.phase = .waiting → (giveUpCmd n c).phase = .done ∧ (giveUpCmd n c).status = ST_NOT_ACTIVE) ∧
  (∀ (c : InFlight) (n : Nat), c.phase = .running → (c.desc.opcode = 0x1301 ∨ c.desc.opcode ∈ readOnlyOps → giveUpCmd n c = c) ∧
    (c.desc.opcode ≠ 0x1301 → c.desc.opcode ∉ readOnlyOps → (giveUpCmd n c).phase = .done ∧ (giveUpCmd n c).status = ST_ABORTED)) ∧
  (∀ (s : State) (t : Nat), s.pair.firstScan = some t → t + s.pms PAR_PAIR_START_WAIT_MS ≤ s.now → s.pair.waitDone = false → exec .startWaitExpiry s =
    .next ((s.updPair fun x => { x with waitDone := true }).claimLapsed)) ∧
  (∀ (s : State) (t : Nat), s.pair.firstScan = some t → s.now < t + s.pms PAR_PAIR_START_WAIT_MS → exec .startWaitExpiry s = .next s) ∧
  (∀ (s : State) (e k : Nat), s.pair.link = false → exec (.releaseMessage e k) s = .next s) ∧
  (∀ (s t : State) (e k : Nat), s.pair.link = true → t = s.portsOwn.updPair (fun x => { x with released := some e }) → t.pair.healing = false → t.pair.role = ROLE_STANDBY →
    exec (.releaseMessage e k) s = .next ({ t with ring := { t.ring with epoch := max t.ring.epoch (e + 1) } }.claimLapsed)) ∧
  (∀ (s t : State) (e k : Nat), s.pair.link = true → t = s.portsOwn.updPair (fun x => { x with released := some e }) → t.pair.healing = true → t.isActive = true →
    exec (.releaseMessage e k) s = .next { t.healMerge with ring := { t.ring with raiseTo := some (max t.ring.epoch e + 1), raiseLeft := 3 } }) ∧
  (∀ s : State, s.partnerSeen = none → exec .heal s = .next s) ∧
  (∀ (s : State) (p : PartnerStatus), s.partnerSeen = some p → s.isActive = true → p.role = ROLE_ACTIVE → s.isPaired = true → p.synchronised = true → s.pair.healSeen = true → p.healSeen = true →
    s.pair.healing = false → (s.keeps p = true → exec .heal s = .next (s.updPair fun x => { x with healing := true })) ∧
      (s.keeps p = false → exec .heal s = .next ((s.beginFinal 8).updPair fun x => { x with healSeen := false }))) ∧
  (∀ (s : State) (p : PartnerStatus), (s.holdsAnchor = true → s.keeps p = true) ∧ (s.holdsAnchor = false → p.anchor = true → s.keeps p = false) ∧
    (s.holdsAnchor = false → p.anchor = false → s.lvH ≠ p.heldShare → (s.keeps p = true ↔ p.heldShare < s.lvH)) ∧
    (s.holdsAnchor = false → p.anchor = false → s.lvH = p.heldShare → (s.keeps p = true ↔ s.pn PAR_PAIR_POSITION = 0))) ∧
  (∀ (s : State) (x : LockInputs), s.pair.role ≠ ROLE_STANDBY ∨ s.pair.lockstep = false ∨ s.pair.ownEngines = false → exec (.lockstepInputs x) s = .next s) ∧
  (∀ (s : State) (x : LockInputs), s.pair.role = ROLE_STANDBY → s.pair.lockstep = true → s.pair.ownEngines = true →
    (x.digest = s.ownDigest x → exec (.lockstepInputs x) s = .next (s.lockstep x)) ∧ (x.digest ≠ s.ownDigest x → exec (.lockstepInputs x) s = .next ((((s.lockstep x).setSync SYNC_SYNCING).updPair fun y =>
      { y with diverged := y.diverged + 1, ownEngines := false, image := none, imageAt := none }).raise 0x13 0x0009 x.window)) ∧
    (s.lockstep x).out = s.out ∧ (s.lockstep x).mbx = s.mbx ∧ (s.lockstep x).pair = s.pair ∧ (s.lockstep x).ses = s.ses) ∧
  (∀ s : State, s.isActive = true → s.pair.lockstep = true → ∃ t : State, s.sendInputs = t ∧ t.bas.fwdFrames = [] ∧ t.bas.fwdMissed = [] ∧ t.bas.fwdSent = [] ∧ t.bas.fwdSite = s.bas.site ∧
    t.lv.fwdEvents = [] ∧ t.cool.fwdSamples = [] ∧ t.plc.fwdPolls = [] ∧ t.pair.fwdOpen = true ∧
    (s.pair.fwdOpen = true → t.out = Emit.pairInputs s.ring.window (s.lockDigest s.bas.fwdSent) :: s.out ∧ t.pair.lastInputs = some s.gathered) ∧ (s.pair.fwdOpen = false → t.out = s.out)) ∧
  (∀ (s : State) (n w : Nat) (ws : List (Int × Int)), s.isActive = true → s.pair.lockstep = true →
    (s.noteFrame n w (some ws)).bas.fwdFrames = s.bas.fwdFrames ++ [(n, w, ws)] ∧ (s.noteFrame n w none).bas.fwdMissed = s.bas.fwdMissed ++ [(n, w)])

/-! ### Supply, resets and firmware (chapter 21), connectors (chapter 22) -/

/-- R569, R570, R571, R574, R575, R576, R577, R581, R584, R585, R586, R587, R588: the system commands and events. A bundle is refused while the active slot is on trial, and otherwise when a check fails; a supply below 16.5 V
warns once; a reset takes effect when it is due; a phase ends once. Model's own readings it rests on: log entries 52, 53, 54, 97, 98, 150. -/
def Obligations.SystemRows : Prop :=
  (∀ (s : State) (q tag : Nat) (c : InFlight),
    (Starts 0x0100 q tag s c → c.desc.u 32 1 ≤ 1 → c.desc.u 33 1 ≤ 1 →
      (s.isActive = false ∨ s.isPaired = false ∨ c.desc.u 33 1 = 1 → exec (.sysReset q tag) s = .next ((s.start c.uid).endCmd c.uid ST_OK [] [] 0 0)) ∧
      (s.isActive = true → s.isPaired = true → c.desc.u 33 1 = 0 → exec (.sysReset q tag) s = .next ((s.start c.uid).fail c.uid ST_BUSY))) ∧
    (Starts 0x0100 q tag s c → 1 < c.desc.u 32 1 ∨ 1 < c.desc.u 33 1 → exec (.sysReset q tag) s = .next ((s.start c.uid).fail c.uid ST_BAD_PARAM)) ∧
    (∀ n, Starts 0x0101 q tag s c → s.sys.fwActive = some n → (s.fw n).state = 0x7F ∨ (s.fw n).state = 0x3F → exec (.sysFwLoad q tag) s = .next ((s.start c.uid).fail c.uid ST_BUSY)) ∧
    (∀ b, Starts 0x0101 q tag s c → s.sys.activate = none → (∀ n, s.sys.fwActive = some n → (s.fw n).state ≠ 0x7F ∧ (s.fw n).state ≠ 0x3F) →
      b = (if c.desc.u 32 4 = 0 then [] else (s.fw s.fwOther).bytes) ++ c.desc.data → c.desc.u 32 4 + c.desc.data.length = b.length → c.desc.u 32 4 = 0 ∨ (s.fw s.fwOther).verified = false →
      b.length ≤ 192 * 1048576 →
      (c.desc.u 36 1 = 0 → exec (.sysFwLoad q tag) s = .next (((s.start c.uid).setFw s.fwOther { bytes := b }).endCmd c.uid ST_OK [] [] c.desc.data.length 0)) ∧
      (c.desc.u 36 1 = 1 → bundleForm b = true → bundleAuthentic b = true → s.sys.fuse ≤ fwbSec b → exec (.sysFwLoad q tag) s =
        .next (((s.start c.uid).setFw s.fwOther (fwSlotOf b)).endCmd c.uid ST_OK [] [] c.desc.data.length 0)) ∧
      (c.desc.u 36 1 = 1 → bundleForm b = true → bundleAuthentic b = true → fwbSec b < s.sys.fuse → exec (.sysFwLoad q tag) s = .next (((s.start c.uid).setFw s.fwOther {}).fail c.uid ST_LOCKED)) ∧
      (c.desc.u 36 1 = 1 → bundleForm b = true → bundleAuthentic b = false → exec (.sysFwLoad q tag) s = .next (((s.start c.uid).setFw s.fwOther {}).fail c.uid ST_AUTH_FAIL))) ∧
    (Starts 0x0102 q tag s c → s.sys.activate = none → (s.fw s.fwOther).verified = true → (s.fw s.fwOther).state = 0xFF → (s.fw s.fwOther).version = c.desc.u 32 4 →
      (s.copyFits (s.fw s.fwOther) 3 = false → s.sealOpen = false → exec (.sysFwActivate q tag) s = .next ((s.start c.uid).fail c.uid ST_LOCKED)) ∧
      (s.copyFits (s.fw s.fwOther) 3 = true ∨ s.sealOpen = true →
        (s.copyFits (s.fw s.fwOther) 2 = false → exec (.sysFwActivate q tag) s = .next ((s.start c.uid).updSys fun y => { y with activate := some (c.uid, true, s.now + 60 * sec) })) ∧
        (s.copyFits (s.fw s.fwOther) 2 = true → exec (.sysFwActivate q tag) s = .next ((s.start c.uid).fwAsk c.uid)))) ∧
    (Starts 0x0102 q tag s c → s.sys.activate = none → (s.fw s.fwOther).verified = false ∨ (s.fw s.fwOther).version ≠ c.desc.u 32 4 → exec (.sysFwActivate q tag) s = .next ((s.start c.uid).fail c.uid ST_BAD_PARAM)) ∧
    (∀ n, Starts 0x0103 q tag s c → s.sys.fwActive = some n → (s.fw n).state = 0x7F ∨ (s.fw n).state = 0x3F → exec (.sysFwCommit q tag) s =
      .next ((((s.start c.uid).setFw n { s.fw n with state := 0x1F }).updSys fun y => { y with fuse := max y.fuse (s.fw n).secVersion }).endCmd c.uid ST_OK [] [] 0 0)) ∧
    (Starts 0x0103 q tag s c → s.sys.fwActive = none → exec (.sysFwCommit q tag) s = .next ((s.start c.uid).endCmd c.uid ST_OK [] [] 0 0)) ∧
    (Starts 0x0104 q tag s c → ∃ r, exec (.sysFwStatus q tag) s = .next ((s.start c.uid).answer c r []) ∧ byteAt r 0 = s.sys.fwActive.getD 0xFF % 256 ∧ byteAt r 1 = s.sys.f0.state % 256 ∧
      byteAt r 2 = s.sys.f1.state % 256 ∧ byteAt r 3 = s.sys.fuse % 256 ∧ byteAt r 12 = s.sys.cause % 256)) ∧
  (∀ (s : State) (u t : Nat), s.sys.activate = some (u, true, t) → t ≤ s.now → exec .fwActivatePulseTimeout s = .next ((s.updSys fun x => { x with activate := none }).fail u ST_TIMEOUT)) ∧
  (∀ (s : State) (v : Nat), s.sys.pg = true ∨ v ≤ 18000 → exec (.powerGood v) s = .next s) ∧
  (∀ (s : State) (v : Nat), s.sys.pg = false → s.sys.pfw = false ∨ s.sys.powered = 0 → 18000 < v → ∃ t : State, exec (.powerGood v) s = .next t ∧ t.sys.pg = true ∧ t.sys.pfw = false ∧ t.sys.cause = 1 ∧
    t.sys.ended = 0 ∧ t.sys.phase = 1 ∧ t.sys.supplyMv = v ∧ t.sys.minMv = v ∧ t.sys.starts = 0 ∧ t.grn.locks = s.grn.locks ∧ t.grn.image = s.grn.image ∧ t.bas = {} ∧ t.stg = {} ∧ t.cool = {} ∧ t.plc.master = false) ∧
  (∀ (s : State) (v : Nat), s.sys.pg = false ∨ s.sys.pfw = true ∨ 16500 ≤ v → exec (.powerFailWarning v) s = .next s) ∧
  (∀ (s : State) (v : Nat), s.sys.pg = true → s.sys.pfw = false → v < 16500 → s.par.op = none → exec (.powerFailWarning v) s =
    .next { s with sys := { s.sys with pfw := true, pfwAt := s.now, pg := false, supplyMv := v, minMv := min s.sys.minMv v }, lv := { s.lv with workHold := true } }) ∧
  (∀ (s u : State) (v : Nat) (op : NvOp), s.sys.pg = true → s.sys.pfw = false → v < 16500 → s.par.op = some op → op.kind = 1 ∨ op.kind = 4 →
    u = { s with sys := { s.sys with pfw := true, pfwAt := s.now, pg := false, supplyMv := v, minMv := min s.sys.minMv v }, lv := { s.lv with workHold := true } } →
    exec (.powerFailWarning v) s = .next (u.failNv op ST_ABORTED)) ∧
  (∀ (s : State) (d : Nat), s.sys.pfw = false ∨ 3 < d ∨ s.now < s.sys.pfwAt + 10 * ms ∨ (d = 3 ∧ s.now < s.sys.pfwAt + 40 * ms) → exec (.holdupEnd d) s = .next s) ∧
  (∀ s : State, s.sys.pfw = true → s.sys.powered = 0xF → s.sys.pfwAt + 10 * ms ≤ s.now → ∃ t : State, exec (.holdupEnd 1) s = .next t ∧ t.sys.powered = 0xD ∧ t.grn.locks = s.grn.locks ∧
    (∀ e ∈ t.grn.outputs, e.2.closed = false) ∧ t = { s with grn := t.grn, sys := t.sys }) ∧
  (∀ (s : State) (d : Nat), s.sys.pfw = true → d ≤ 3 → s.sys.powered.getLsbD d = true → s.sys.pfwAt + (if d = 3 then 40 * ms else 10 * ms) ≤ s.now → exec (.holdupEnd d) s =
    .next ((if d = 0 then s.appOff else if d = 1 then s.graniteOff else if d = 2 then s.obsidianOff else s.jasperOff).updSys fun x =>
      { x with powered := x.powered &&& ~~~ (1#4 <<< d), ended := 0, phase := 1, ready := false, resetDue := none })) ∧
  (∀ (s : State) (n : Nat), n < 10 ∨ s.sys.powered = 0 → exec (.hrstN n) s = .next s) ∧
  (∀ (s : State) (n : Nat), 10 ≤ n → s.sys.powered ≠ 0 → s.sys.resetDue = none → exec (.hrstN n) s =
    .next (s.releaseForReset.updSys fun x => { x with resetDue := some (0, 2, s.now - n * us + 5 * ms) })) ∧
  (∀ (s : State) (n k t : Nat), 10 ≤ n → s.sys.powered ≠ 0 → s.sys.resetDue = some (0, k, t) → t ≤ s.now - n * us + 5 * ms → exec (.hrstN n) s = .next s.releaseForReset) ∧
  (∀ (s : State) (k t : Nat), s.sys.resetDue = some (0, k, t) → (t ≤ s.now → exec .coldResetEffect s = .next (s.coldReset k)) ∧ (s.now < t → exec .coldResetEffect s = .next s)) ∧
  (∀ (s : State) (k t : Nat), s.sys.resetDue = some (1, k, t) → t ≤ s.now → s.isActive = false → s.pair.role ≠ ROLE_RELEASING → exec .coldResetEffect s = .next (s.appReset k)) ∧
  (∀ s : State, s.sys.servedAt + s.pms PAR_SYS_WDOG_MS ≤ s.now → s.sys.ended.getLsbD 4 = true → s.sys.resetDue = none → exec .watchdogExpiry s =
    .next ((((s.report SRC_APP_WDOG 0).giveUp 1).updSys fun x => { x with resetDue := some (1, 4, s.now) }).appResetDue)) ∧
  (∀ s : State, s.now < s.sys.servedAt + s.pms PAR_SYS_WDOG_MS → exec .watchdogExpiry s = .next s) ∧
  (∀ (s : State) (n : Nat), 5 < n ∨ s.sys.locks.getLsbD n = false → exec (.pllUnlock n) s = .next s) ∧
  (∀ s : State, s.sys.locks.getLsbD 2 = true → s.sys.resetDue = none → exec (.pllUnlock 2) s =
    .next (((s.updSys fun x => { x with locks := x.locks &&& ~~~ (1#6 <<< 2), unlocks := min (x.unlocks + 1) (2 ^ 24 - 1) }).report SRC_PLL_UNLOCK 0).appReset 6)) ∧
  (∀ (s u : State) (n : Nat), n ≤ 5 → n ≠ 2 → s.sys.locks.getLsbD n = true →
    u = (s.updSys fun x => { x with locks := x.locks &&& ~~~ (1#6 <<< n), unlocks := min (x.unlocks + 1) (2 ^ 24 - 1) }).report SRC_PLL_UNLOCK 0 →
    exec (.pllUnlock n) s = .next (if n = 3 then (if u.met.ready && u.met.clock then u.metStop else u) else (u.resetAt 1 6 s.now).appResetDue)) ∧
  (∀ (s : State) (e : Nat), s.sys.locks.getLsbD 3 = true → exec (.metPllRelock e) s = .next s) ∧
  (∀ (s : State) (e : Nat), s.sys.locks.getLsbD 3 = false → s.met.ready = true → s.met.clock = false → exec (.metPllRelock e) s =
    .next ((s.updSys fun x => { x with locks := x.locks ||| 8#6 }).metResume e)) ∧
  (∀ (s : State) (p : PhaseEnd), s.sys.pg = false ∨ s.sys.pfw = true ∨ s.sys.ended.getLsbD p.num = true ∨ s.phaseFree p.num = false → exec (.startupPhaseDone p) s = .next s) ∧
  (∀ (s : State) (p : PhaseEnd), s.sys.pg = true → s.sys.pfw = false → s.sys.ended.getLsbD p.num = false → s.phaseFree p.num = true →
    (p.num ≠ 4 → (p.num = 6 → s.bootWaits = false) → (p.num = 8 → s.leaseSettled = true) → exec (.startupPhaseDone p) s =
      .next (((s.phaseEffect p).updSys fun x => { x with ended := x.ended ||| (1#10 <<< p.num) }).updSys fun x => { x with phase := phaseOf x.ended })) ∧
    (p.num = 4 → exec (.startupPhaseDone p) s = .next (s.loader.updSys fun x => { x with phase := phaseOf x.ended }))) ∧
  (∀ (s : State), s.sys.pg = true → s.sys.pfw = false → s.sys.ended.getLsbD 8 = true → s.sys.ended.getLsbD 9 = false → exec (.startupPhaseDone .ready) s =
    .next ((((s.updSys fun x => { x with ready := true }).raise 0x01 0x0003 ((s.now - s.sys.pgAt) / ms)).updSys fun x => { x with ended := x.ended ||| (1#10 <<< 9) }).updSys fun x =>
      { x with phase := phaseOf x.ended })) ∧
  (∀ s : State, s.sys.powered = 0xF → s.sys.pg = true → (s.j1Pin 77 = .low ↔ s.sys.ready = true) ∧ (s.j1Pin 78 = .low ↔ s.isActive = true) ∧ (s.j1Pin 79 = .low ↔ s.isDegraded = true) ∧
    (s.j1Pin 80 = .low ↔ s.obs.lifecycle = 4 ∨ s.grn.safeState = true ∨ s.sys.recovery = true) ∧ (s.j1Pin 59 = .low ↔ s.sys.pfw = true) ∧ s.j1Pin 58 = .high ∧
    (s.j1Pin 56 = .high ↔ s.pins.ppsOut = true)) ∧
  (∀ (s : State) (b : Bool), exec (.ppsSecond b) s = .next (if decide (s.sysTime % sec < 100 * ms) = b then { s with pins := { s.pins with ppsOut := b && s.mbx.timeLocked } } else s))

/-! ### The machine -/

/-- A step runs the command at the front of the queue, on the state with the queue's rest; with no command waiting the block idles (the model's own choice, log entry 2). -/
def Obligations.StepRuns : Prop :=
  (∀ (i : Instr) (l : List Instr) (s : State), s.pending = i :: l → step s = exec i { s with pending := l }) ∧ (∀ s : State, s.pending = [] → step s = .next s)

/-- R2: "They are fixed at manufacture and cannot be changed in the field": no step changes part number, issue, grade or metrology option, and a module as issued stays one (R6). -/
def Obligations.IssuedKept : Prop :=
  (∀ s t : State, step s = .next t → t.options = s.options) ∧ (∀ s t : State, s.issued → step s = .next t → t.issued)

/-- R6: the module after reset is one as issued (which issue, grade and option is the model's own choice, log entry 1). -/
def Obligations.IssuedAtReset : Prop := State.reset.issued ∧ State.reset.pending = []
end

