-- ==== Sys2Proof/Laws/State.lean ====
section
/-!
SUPPORT. What an update of one part of the state leaves as it was: one lemma per field and update. A proof reads a field
through an update by these and never unfolds the record.
-/
namespace Sys2Proof.Machine

/-! `State.start` -/
@[simp] theorem State.start_pending (s : State) (u : Nat) : (s.start u).pending = s.pending := rfl
@[simp] theorem State.start_now (s : State) (u : Nat) : (s.start u).now = s.now := rfl
@[simp] theorem State.start_fresh (s : State) (u : Nat) : (s.start u).fresh = s.fresh := rfl
@[simp] theorem State.start_out (s : State) (u : Nat) : (s.start u).out = s.out := rfl
@[simp] theorem State.start_par (s : State) (u : Nat) : (s.start u).par = s.par := rfl
@[simp] theorem State.start_lv (s : State) (u : Nat) : (s.start u).lv = s.lv := rfl
@[simp] theorem State.start_ring (s : State) (u : Nat) : (s.start u).ring = s.ring := rfl
@[simp] theorem State.start_bas (s : State) (u : Nat) : (s.start u).bas = s.bas := rfl
@[simp] theorem State.start_tune (s : State) (u : Nat) : (s.start u).tune = s.tune := rfl
@[simp] theorem State.start_stg (s : State) (u : Nat) : (s.start u).stg = s.stg := rfl
@[simp] theorem State.start_cool (s : State) (u : Nat) : (s.start u).cool = s.cool := rfl
@[simp] theorem State.start_ses (s : State) (u : Nat) : (s.start u).ses = s.ses := rfl
@[simp] theorem State.start_met (s : State) (u : Nat) : (s.start u).met = s.met := rfl
@[simp] theorem State.start_bil (s : State) (u : Nat) : (s.start u).bil = s.bil := rfl
@[simp] theorem State.start_gau (s : State) (u : Nat) : (s.start u).gau = s.gau := rfl
@[simp] theorem State.start_pt (s : State) (u : Nat) : (s.start u).pt = s.pt := rfl
@[simp] theorem State.start_plc (s : State) (u : Nat) : (s.start u).plc = s.plc := rfl
@[simp] theorem State.start_can (s : State) (u : Nat) : (s.start u).can = s.can := rfl
@[simp] theorem State.start_obs (s : State) (u : Nat) : (s.start u).obs = s.obs := rfl
@[simp] theorem State.start_grn (s : State) (u : Nat) : (s.start u).grn = s.grn := rfl
@[simp] theorem State.start_flt (s : State) (u : Nat) : (s.start u).flt = s.flt := rfl
@[simp] theorem State.start_pair (s : State) (u : Nat) : (s.start u).pair = s.pair := rfl
@[simp] theorem State.start_sys (s : State) (u : Nat) : (s.start u).sys = s.sys := rfl
@[simp] theorem State.start_pins (s : State) (u : Nat) : (s.start u).pins = s.pins := rfl
@[simp] theorem State.start_mbx_hosts (s : State) (u : Nat) : (s.start u).mbx.hosts = s.mbx.hosts := rfl
@[simp] theorem State.start_mbx_live (s : State) (u : Nat) : (s.start u).mbx.live = s.mbx.live := rfl
@[simp] theorem State.start_mbx_qp (s : State) (u : Nat) : (s.start u).mbx.qp = s.mbx.qp := rfl
@[simp] theorem State.start_mbx_nextUid (s : State) (u : Nat) : (s.start u).mbx.nextUid = s.mbx.nextUid := rfl
@[simp] theorem State.start_mbx_ptrNormal (s : State) (u : Nat) : (s.start u).mbx.ptrNormal = s.mbx.ptrNormal := rfl
@[simp] theorem State.start_mbx_ptrHigh (s : State) (u : Nat) : (s.start u).mbx.ptrHigh = s.mbx.ptrHigh := rfl
@[simp] theorem State.start_mbx_highRun (s : State) (u : Nat) : (s.start u).mbx.highRun = s.mbx.highRun := rfl
@[simp] theorem State.start_mbx_pcieUp (s : State) (u : Nat) : (s.start u).mbx.pcieUp = s.mbx.pcieUp := rfl
@[simp] theorem State.start_mbx_masters (s : State) (u : Nat) : (s.start u).mbx.masters = s.mbx.masters := rfl
@[simp] theorem State.start_mbx_master (s : State) (u : Nat) : (s.start u).mbx.master = s.mbx.master := rfl
@[simp] theorem State.start_mbx_ptpSync (s : State) (u : Nat) : (s.start u).mbx.ptpSync = s.mbx.ptpSync := rfl
@[simp] theorem State.start_mbx_ptpSeq (s : State) (u : Nat) : (s.start u).mbx.ptpSeq = s.mbx.ptpSeq := rfl
@[simp] theorem State.start_mbx_ptpReq (s : State) (u : Nat) : (s.start u).mbx.ptpReq = s.mbx.ptpReq := rfl
@[simp] theorem State.start_mbx_pathDelay (s : State) (u : Nat) : (s.start u).mbx.pathDelay = s.mbx.pathDelay := rfl
@[simp] theorem State.start_mbx_sysOffset (s : State) (u : Nat) : (s.start u).mbx.sysOffset = s.mbx.sysOffset := rfl
@[simp] theorem State.start_mbx_holdover (s : State) (u : Nat) : (s.start u).mbx.holdover = s.mbx.holdover := rfl
@[simp] theorem State.start_mbx_timeLocked (s : State) (u : Nat) : (s.start u).mbx.timeLocked = s.mbx.timeLocked := rfl

/-! `State.setDeadline` -/
@[simp] theorem State.setDeadline_pending (s : State) (u t : Nat) : (s.setDeadline u t).pending = s.pending := rfl
@[simp] theorem State.setDeadline_now (s : State) (u t : Nat) : (s.setDeadline u t).now = s.now := rfl
@[simp] theorem State.setDeadline_fresh (s : State) (u t : Nat) : (s.setDeadline u t).fresh = s.fresh := rfl
@[simp] theorem State.setDeadline_out (s : State) (u t : Nat) : (s.setDeadline u t).out = s.out := rfl
@[simp] theorem State.setDeadline_par (s : State) (u t : Nat) : (s.setDeadline u t).par = s.par := rfl
@[simp] theorem State.setDeadline_lv (s : State) (u t : Nat) : (s.setDeadline u t).lv = s.lv := rfl
@[simp] theorem State.setDeadline_ring (s : State) (u t : Nat) : (s.setDeadline u t).ring = s.ring := rfl
@[simp] theorem State.setDeadline_bas (s : State) (u t : Nat) : (s.setDeadline u t).bas = s.bas := rfl
@[simp] theorem State.setDeadline_tune (s : State) (u t : Nat) : (s.setDeadline u t).tune = s.tune := rfl
@[simp] theorem State.setDeadline_stg (s : State) (u t : Nat) : (s.setDeadline u t).stg = s.stg := rfl
@[simp] theorem State.setDeadline_cool (s : State) (u t : Nat) : (s.setDeadline u t).cool = s.cool := rfl
@[simp] theorem State.setDeadline_ses (s : State) (u t : Nat) : (s.setDeadline u t).ses = s.ses := rfl
@[simp] theorem State.setDeadline_met (s : State) (u t : Nat) : (s.setDeadline u t).met = s.met := rfl
@[simp] theorem State.setDeadline_bil (s : State) (u t : Nat) : (s.setDeadline u t).bil = s.bil := rfl
@[simp] theorem State.setDeadline_gau (s : State) (u t : Nat) : (s.setDeadline u t).gau = s.gau := rfl
@[simp] theorem State.setDeadline_pt (s : State) (u t : Nat) : (s.setDeadline u t).pt = s.pt := rfl
@[simp] theorem State.setDeadline_plc (s : State) (u t : Nat) : (s.setDeadline u t).plc = s.plc := rfl
@[simp] theorem State.setDeadline_can (s : State) (u t : Nat) : (s.setDeadline u t).can = s.can := rfl
@[simp] theorem State.setDeadline_obs (s : State) (u t : Nat) : (s.setDeadline u t).obs = s.obs := rfl
@[simp] theorem State.setDeadline_grn (s : State) (u t : Nat) : (s.setDeadline u t).grn = s.grn := rfl
@[simp] theorem State.setDeadline_flt (s : State) (u t : Nat) : (s.setDeadline u t).flt = s.flt := rfl
@[simp] theorem State.setDeadline_pair (s : State) (u t : Nat) : (s.setDeadline u t).pair = s.pair := rfl
@[simp] theorem State.setDeadline_sys (s : State) (u t : Nat) : (s.setDeadline u t).sys = s.sys := rfl
@[simp] theorem State.setDeadline_pins (s : State) (u t : Nat) : (s.setDeadline u t).pins = s.pins := rfl
@[simp] theorem State.setDeadline_mbx_hosts (s : State) (u t : Nat) : (s.setDeadline u t).mbx.hosts = s.mbx.hosts := rfl
@[simp] theorem State.setDeadline_mbx_live (s : State) (u t : Nat) : (s.setDeadline u t).mbx.live = s.mbx.live := rfl
@[simp] theorem State.setDeadline_mbx_qp (s : State) (u t : Nat) : (s.setDeadline u t).mbx.qp = s.mbx.qp := rfl
@[simp] theorem State.setDeadline_mbx_nextUid (s : State) (u t : Nat) : (s.setDeadline u t).mbx.nextUid = s.mbx.nextUid := rfl
@[simp] theorem State.setDeadline_mbx_ptrNormal (s : State) (u t : Nat) : (s.setDeadline u t).mbx.ptrNormal = s.mbx.ptrNormal := rfl
@[simp] theorem State.setDeadline_mbx_ptrHigh (s : State) (u t : Nat) : (s.setDeadline u t).mbx.ptrHigh = s.mbx.ptrHigh := rfl
@[simp] theorem State.setDeadline_mbx_highRun (s : State) (u t : Nat) : (s.setDeadline u t).mbx.highRun = s.mbx.highRun := rfl
@[simp] theorem State.setDeadline_mbx_pcieUp (s : State) (u t : Nat) : (s.setDeadline u t).mbx.pcieUp = s.mbx.pcieUp := rfl
@[simp] theorem State.setDeadline_mbx_masters (s : State) (u t : Nat) : (s.setDeadline u t).mbx.masters = s.mbx.masters := rfl
@[simp] theorem State.setDeadline_mbx_master (s : State) (u t : Nat) : (s.setDeadline u t).mbx.master = s.mbx.master := rfl
@[simp] theorem State.setDeadline_mbx_ptpSync (s : State) (u t : Nat) : (s.setDeadline u t).mbx.ptpSync = s.mbx.ptpSync := rfl
@[simp] theorem State.setDeadline_mbx_ptpSeq (s : State) (u t : Nat) : (s.setDeadline u t).mbx.ptpSeq = s.mbx.ptpSeq := rfl
@[simp] theorem State.setDeadline_mbx_ptpReq (s : State) (u t : Nat) : (s.setDeadline u t).mbx.ptpReq = s.mbx.ptpReq := rfl
@[simp] theorem State.setDeadline_mbx_pathDelay (s : State) (u t : Nat) : (s.setDeadline u t).mbx.pathDelay = s.mbx.pathDelay := rfl
@[simp] theorem State.setDeadline_mbx_sysOffset (s : State) (u t : Nat) : (s.setDeadline u t).mbx.sysOffset = s.mbx.sysOffset := rfl
@[simp] theorem State.setDeadline_mbx_holdover (s : State) (u t : Nat) : (s.setDeadline u t).mbx.holdover = s.mbx.holdover := rfl
@[simp] theorem State.setDeadline_mbx_timeLocked (s : State) (u t : Nat) : (s.setDeadline u t).mbx.timeLocked = s.mbx.timeLocked := rfl

/-! `State.endCmd` -/
@[simp] theorem State.endCmd_pending (s : State) (u st : Nat) (r d : List Byte) (n i : Nat) : (s.endCmd u st r d n i).pending = s.pending := rfl
@[simp] theorem State.endCmd_now (s : State) (u st : Nat) (r d : List Byte) (n i : Nat) : (s.endCmd u st r d n i).now = s.now := rfl
@[simp] theorem State.endCmd_fresh (s : State) (u st : Nat) (r d : List Byte) (n i : Nat) : (s.endCmd u st r d n i).fresh = s.fresh := rfl
@[simp] theorem State.endCmd_out (s : State) (u st : Nat) (r d : List Byte) (n i : Nat) : (s.endCmd u st r d n i).out = s.out := rfl
@[simp] theorem State.endCmd_par (s : State) (u st : Nat) (r d : List Byte) (n i : Nat) : (s.endCmd u st r d n i).par = s.par := rfl
@[simp] theorem State.endCmd_lv (s : State) (u st : Nat) (r d : List Byte) (n i : Nat) : (s.endCmd u st r d n i).lv = s.lv := rfl
@[simp] theorem State.endCmd_ring (s : State) (u st : Nat) (r d : List Byte) (n i : Nat) : (s.endCmd u st r d n i).ring = s.ring := rfl
@[simp] theorem State.endCmd_bas (s : State) (u st : Nat) (r d : List Byte) (n i : Nat) : (s.endCmd u st r d n i).bas = s.bas := rfl
@[simp] theorem State.endCmd_tune (s : State) (u st : Nat) (r d : List Byte) (n i : Nat) : (s.endCmd u st r d n i).tune = s.tune := rfl
@[simp] theorem State.endCmd_stg (s : State) (u st : Nat) (r d : List Byte) (n i : Nat) : (s.endCmd u st r d n i).stg = s.stg := rfl
@[simp] theorem State.endCmd_cool (s : State) (u st : Nat) (r d : List Byte) (n i : Nat) : (s.endCmd u st r d n i).cool = s.cool := rfl
@[simp] theorem State.endCmd_ses (s : State) (u st : Nat) (r d : List Byte) (n i : Nat) : (s.endCmd u st r d n i).ses = s.ses := rfl
@[simp] theorem State.endCmd_met (s : State) (u st : Nat) (r d : List Byte) (n i : Nat) : (s.endCmd u st r d n i).met = s.met := rfl
@[simp] theorem State.endCmd_bil (s : State) (u st : Nat) (r d : List Byte) (n i : Nat) : (s.endCmd u st r d n i).bil = s.bil := rfl
@[simp] theorem State.endCmd_gau (s : State) (u st : Nat) (r d : List Byte) (n i : Nat) : (s.endCmd u st r d n i).gau = s.gau := rfl
@[simp] theorem State.endCmd_pt (s : State) (u st : Nat) (r d : List Byte) (n i : Nat) : (s.endCmd u st r d n i).pt = s.pt := rfl
@[simp] theorem State.endCmd_plc (s : State) (u st : Nat) (r d : List Byte) (n i : Nat) : (s.endCmd u st r d n i).plc = s.plc := rfl
@[simp] theorem State.endCmd_can (s : State) (u st : Nat) (r d : List Byte) (n i : Nat) : (s.endCmd u st r d n i).can = s.can := rfl
@[simp] theorem State.endCmd_obs (s : State) (u st : Nat) (r d : List Byte) (n i : Nat) : (s.endCmd u st r d n i).obs = s.obs := rfl
@[simp] theorem State.endCmd_grn (s : State) (u st : Nat) (r d : List Byte) (n i : Nat) : (s.endCmd u st r d n i).grn = s.grn := rfl
@[simp] theorem State.endCmd_flt (s : State) (u st : Nat) (r d : List Byte) (n i : Nat) : (s.endCmd u st r d n i).flt = s.flt := rfl
@[simp] theorem State.endCmd_pair (s : State) (u st : Nat) (r d : List Byte) (n i : Nat) : (s.endCmd u st r d n i).pair = s.pair := rfl
@[simp] theorem State.endCmd_sys (s : State) (u st : Nat) (r d : List Byte) (n i : Nat) : (s.endCmd u st r d n i).sys = s.sys := rfl
@[simp] theorem State.endCmd_pins (s : State) (u st : Nat) (r d : List Byte) (n i : Nat) : (s.endCmd u st r d n i).pins = s.pins := rfl
@[simp] theorem State.endCmd_mbx_hosts (s : State) (u st : Nat) (r d : List Byte) (n i : Nat) : (s.endCmd u st r d n i).mbx.hosts = s.mbx.hosts := rfl
@[simp] theorem State.endCmd_mbx_live (s : State) (u st : Nat) (r d : List Byte) (n i : Nat) : (s.endCmd u st r d n i).mbx.live = s.mbx.live := rfl
@[simp] theorem State.endCmd_mbx_qp (s : State) (u st : Nat) (r d : List Byte) (n i : Nat) : (s.endCmd u st r d n i).mbx.qp = s.mbx.qp := rfl
@[simp] theorem State.endCmd_mbx_nextUid (s : State) (u st : Nat) (r d : List Byte) (n i : Nat) : (s.endCmd u st r d n i).mbx.nextUid = s.mbx.nextUid := rfl
@[simp] theorem State.endCmd_mbx_ptrNormal (s : State) (u st : Nat) (r d : List Byte) (n i : Nat) : (s.endCmd u st r d n i).mbx.ptrNormal = s.mbx.ptrNormal := rfl
@[simp] theorem State.endCmd_mbx_ptrHigh (s : State) (u st : Nat) (r d : List Byte) (n i : Nat) : (s.endCmd u st r d n i).mbx.ptrHigh = s.mbx.ptrHigh := rfl
@[simp] theorem State.endCmd_mbx_highRun (s : State) (u st : Nat) (r d : List Byte) (n i : Nat) : (s.endCmd u st r d n i).mbx.highRun = s.mbx.highRun := rfl
@[simp] theorem State.endCmd_mbx_pcieUp (s : State) (u st : Nat) (r d : List Byte) (n i : Nat) : (s.endCmd u st r d n i).mbx.pcieUp = s.mbx.pcieUp := rfl
@[simp] theorem State.endCmd_mbx_masters (s : State) (u st : Nat) (r d : List Byte) (n i : Nat) : (s.endCmd u st r d n i).mbx.masters = s.mbx.masters := rfl
@[simp] theorem State.endCmd_mbx_master (s : State) (u st : Nat) (r d : List Byte) (n i : Nat) : (s.endCmd u st r d n i).mbx.master = s.mbx.master := rfl
@[simp] theorem State.endCmd_mbx_ptpSync (s : State) (u st : Nat) (r d : List Byte) (n i : Nat) : (s.endCmd u st r d n i).mbx.ptpSync = s.mbx.ptpSync := rfl
@[simp] theorem State.endCmd_mbx_ptpSeq (s : State) (u st : Nat) (r d : List Byte) (n i : Nat) : (s.endCmd u st r d n i).mbx.ptpSeq = s.mbx.ptpSeq := rfl
@[simp] theorem State.endCmd_mbx_ptpReq (s : State) (u st : Nat) (r d : List Byte) (n i : Nat) : (s.endCmd u st r d n i).mbx.ptpReq = s.mbx.ptpReq := rfl
@[simp] theorem State.endCmd_mbx_pathDelay (s : State) (u st : Nat) (r d : List Byte) (n i : Nat) : (s.endCmd u st r d n i).mbx.pathDelay = s.mbx.pathDelay := rfl
@[simp] theorem State.endCmd_mbx_sysOffset (s : State) (u st : Nat) (r d : List Byte) (n i : Nat) : (s.endCmd u st r d n i).mbx.sysOffset = s.mbx.sysOffset := rfl
@[simp] theorem State.endCmd_mbx_holdover (s : State) (u st : Nat) (r d : List Byte) (n i : Nat) : (s.endCmd u st r d n i).mbx.holdover = s.mbx.holdover := rfl
@[simp] theorem State.endCmd_mbx_timeLocked (s : State) (u st : Nat) (r d : List Byte) (n i : Nat) : (s.endCmd u st r d n i).mbx.timeLocked = s.mbx.timeLocked := rfl

/-! `State.fail` -/
@[simp] theorem State.fail_pending (s : State) (u st : Nat) : (s.fail u st).pending = s.pending := rfl
@[simp] theorem State.fail_now (s : State) (u st : Nat) : (s.fail u st).now = s.now := rfl
@[simp] theorem State.fail_fresh (s : State) (u st : Nat) : (s.fail u st).fresh = s.fresh := rfl
@[simp] theorem State.fail_out (s : State) (u st : Nat) : (s.fail u st).out = s.out := rfl
@[simp] theorem State.fail_par (s : State) (u st : Nat) : (s.fail u st).par = s.par := rfl
@[simp] theorem State.fail_lv (s : State) (u st : Nat) : (s.fail u st).lv = s.lv := rfl
@[simp] theorem State.fail_ring (s : State) (u st : Nat) : (s.fail u st).ring = s.ring := rfl
@[simp] theorem State.fail_bas (s : State) (u st : Nat) : (s.fail u st).bas = s.bas := rfl
@[simp] theorem State.fail_tune (s : State) (u st : Nat) : (s.fail u st).tune = s.tune := rfl
@[simp] theorem State.fail_stg (s : State) (u st : Nat) : (s.fail u st).stg = s.stg := rfl
@[simp] theorem State.fail_cool (s : State) (u st : Nat) : (s.fail u st).cool = s.cool := rfl
@[simp] theorem State.fail_ses (s : State) (u st : Nat) : (s.fail u st).ses = s.ses := rfl
@[simp] theorem State.fail_met (s : State) (u st : Nat) : (s.fail u st).met = s.met := rfl
@[simp] theorem State.fail_bil (s : State) (u st : Nat) : (s.fail u st).bil = s.bil := rfl
@[simp] theorem State.fail_gau (s : State) (u st : Nat) : (s.fail u st).gau = s.gau := rfl
@[simp] theorem State.fail_pt (s : State) (u st : Nat) : (s.fail u st).pt = s.pt := rfl
@[simp] theorem State.fail_plc (s : State) (u st : Nat) : (s.fail u st).plc = s.plc := rfl
@[simp] theorem State.fail_can (s : State) (u st : Nat) : (s.fail u st).can = s.can := rfl
@[simp] theorem State.fail_obs (s : State) (u st : Nat) : (s.fail u st).obs = s.obs := rfl
@[simp] theorem State.fail_grn (s : State) (u st : Nat) : (s.fail u st).grn = s.grn := rfl
@[simp] theorem State.fail_flt (s : State) (u st : Nat) : (s.fail u st).flt = s.flt := rfl
@[simp] theorem State.fail_pair (s : State) (u st : Nat) : (s.fail u st).pair = s.pair := rfl
@[simp] theorem State.fail_sys (s : State) (u st : Nat) : (s.fail u st).sys = s.sys := rfl
@[simp] theorem State.fail_pins (s : State) (u st : Nat) : (s.fail u st).pins = s.pins := rfl
@[simp] theorem State.fail_mbx_hosts (s : State) (u st : Nat) : (s.fail u st).mbx.hosts = s.mbx.hosts := rfl
@[simp] theorem State.fail_mbx_live (s : State) (u st : Nat) : (s.fail u st).mbx.live = s.mbx.live := rfl
@[simp] theorem State.fail_mbx_qp (s : State) (u st : Nat) : (s.fail u st).mbx.qp = s.mbx.qp := rfl
@[simp] theorem State.fail_mbx_nextUid (s : State) (u st : Nat) : (s.fail u st).mbx.nextUid = s.mbx.nextUid := rfl
@[simp] theorem State.fail_mbx_ptrNormal (s : State) (u st : Nat) : (s.fail u st).mbx.ptrNormal = s.mbx.ptrNormal := rfl
@[simp] theorem State.fail_mbx_ptrHigh (s : State) (u st : Nat) : (s.fail u st).mbx.ptrHigh = s.mbx.ptrHigh := rfl
@[simp] theorem State.fail_mbx_highRun (s : State) (u st : Nat) : (s.fail u st).mbx.highRun = s.mbx.highRun := rfl
@[simp] theorem State.fail_mbx_pcieUp (s : State) (u st : Nat) : (s.fail u st).mbx.pcieUp = s.mbx.pcieUp := rfl
@[simp] theorem State.fail_mbx_masters (s : State) (u st : Nat) : (s.fail u st).mbx.masters = s.mbx.masters := rfl
@[simp] theorem State.fail_mbx_master (s : State) (u st : Nat) : (s.fail u st).mbx.master = s.mbx.master := rfl
@[simp] theorem State.fail_mbx_ptpSync (s : State) (u st : Nat) : (s.fail u st).mbx.ptpSync = s.mbx.ptpSync := rfl
@[simp] theorem State.fail_mbx_ptpSeq (s : State) (u st : Nat) : (s.fail u st).mbx.ptpSeq = s.mbx.ptpSeq := rfl
@[simp] theorem State.fail_mbx_ptpReq (s : State) (u st : Nat) : (s.fail u st).mbx.ptpReq = s.mbx.ptpReq := rfl
@[simp] theorem State.fail_mbx_pathDelay (s : State) (u st : Nat) : (s.fail u st).mbx.pathDelay = s.mbx.pathDelay := rfl
@[simp] theorem State.fail_mbx_sysOffset (s : State) (u st : Nat) : (s.fail u st).mbx.sysOffset = s.mbx.sysOffset := rfl
@[simp] theorem State.fail_mbx_holdover (s : State) (u st : Nat) : (s.fail u st).mbx.holdover = s.mbx.holdover := rfl
@[simp] theorem State.fail_mbx_timeLocked (s : State) (u st : Nat) : (s.fail u st).mbx.timeLocked = s.mbx.timeLocked := rfl

/-! `State.answer` -/
@[simp] theorem State.answer_pending (s : State) (c : InFlight) (r d : List Byte) : (s.answer c r d).pending = s.pending := rfl
@[simp] theorem State.answer_now (s : State) (c : InFlight) (r d : List Byte) : (s.answer c r d).now = s.now := rfl
@[simp] theorem State.answer_fresh (s : State) (c : InFlight) (r d : List Byte) : (s.answer c r d).fresh = s.fresh := rfl
@[simp] theorem State.answer_out (s : State) (c : InFlight) (r d : List Byte) : (s.answer c r d).out = s.out := rfl
@[simp] theorem State.answer_par (s : State) (c : InFlight) (r d : List Byte) : (s.answer c r d).par = s.par := rfl
@[simp] theorem State.answer_lv (s : State) (c : InFlight) (r d : List Byte) : (s.answer c r d).lv = s.lv := rfl
@[simp] theorem State.answer_ring (s : State) (c : InFlight) (r d : List Byte) : (s.answer c r d).ring = s.ring := rfl
@[simp] theorem State.answer_bas (s : State) (c : InFlight) (r d : List Byte) : (s.answer c r d).bas = s.bas := rfl
@[simp] theorem State.answer_tune (s : State) (c : InFlight) (r d : List Byte) : (s.answer c r d).tune = s.tune := rfl
@[simp] theorem State.answer_stg (s : State) (c : InFlight) (r d : List Byte) : (s.answer c r d).stg = s.stg := rfl
@[simp] theorem State.answer_cool (s : State) (c : InFlight) (r d : List Byte) : (s.answer c r d).cool = s.cool := rfl
@[simp] theorem State.answer_ses (s : State) (c : InFlight) (r d : List Byte) : (s.answer c r d).ses = s.ses := rfl
@[simp] theorem State.answer_met (s : State) (c : InFlight) (r d : List Byte) : (s.answer c r d).met = s.met := rfl
@[simp] theorem State.answer_bil (s : State) (c : InFlight) (r d : List Byte) : (s.answer c r d).bil = s.bil := rfl
@[simp] theorem State.answer_gau (s : State) (c : InFlight) (r d : List Byte) : (s.answer c r d).gau = s.gau := rfl
@[simp] theorem State.answer_pt (s : State) (c : InFlight) (r d : List Byte) : (s.answer c r d).pt = s.pt := rfl
@[simp] theorem State.answer_plc (s : State) (c : InFlight) (r d : List Byte) : (s.answer c r d).plc = s.plc := rfl
@[simp] theorem State.answer_can (s : State) (c : InFlight) (r d : List Byte) : (s.answer c r d).can = s.can := rfl
@[simp] theorem State.answer_obs (s : State) (c : InFlight) (r d : List Byte) : (s.answer c r d).obs = s.obs := rfl
@[simp] theorem State.answer_grn (s : State) (c : InFlight) (r d : List Byte) : (s.answer c r d).grn = s.grn := rfl
@[simp] theorem State.answer_flt (s : State) (c : InFlight) (r d : List Byte) : (s.answer c r d).flt = s.flt := rfl
@[simp] theorem State.answer_pair (s : State) (c : InFlight) (r d : List Byte) : (s.answer c r d).pair = s.pair := rfl
@[simp] theorem State.answer_sys (s : State) (c : InFlight) (r d : List Byte) : (s.answer c r d).sys = s.sys := rfl
@[simp] theorem State.answer_pins (s : State) (c : InFlight) (r d : List Byte) : (s.answer c r d).pins = s.pins := rfl
@[simp] theorem State.answer_mbx_hosts (s : State) (c : InFlight) (r d : List Byte) : (s.answer c r d).mbx.hosts = s.mbx.hosts := rfl
@[simp] theorem State.answer_mbx_live (s : State) (c : InFlight) (r d : List Byte) : (s.answer c r d).mbx.live = s.mbx.live := rfl
@[simp] theorem State.answer_mbx_qp (s : State) (c : InFlight) (r d : List Byte) : (s.answer c r d).mbx.qp = s.mbx.qp := rfl
@[simp] theorem State.answer_mbx_nextUid (s : State) (c : InFlight) (r d : List Byte) : (s.answer c r d).mbx.nextUid = s.mbx.nextUid := rfl
@[simp] theorem State.answer_mbx_ptrNormal (s : State) (c : InFlight) (r d : List Byte) : (s.answer c r d).mbx.ptrNormal = s.mbx.ptrNormal := rfl
@[simp] theorem State.answer_mbx_ptrHigh (s : State) (c : InFlight) (r d : List Byte) : (s.answer c r d).mbx.ptrHigh = s.mbx.ptrHigh := rfl
@[simp] theorem State.answer_mbx_highRun (s : State) (c : InFlight) (r d : List Byte) : (s.answer c r d).mbx.highRun = s.mbx.highRun := rfl
@[simp] theorem State.answer_mbx_pcieUp (s : State) (c : InFlight) (r d : List Byte) : (s.answer c r d).mbx.pcieUp = s.mbx.pcieUp := rfl
@[simp] theorem State.answer_mbx_masters (s : State) (c : InFlight) (r d : List Byte) : (s.answer c r d).mbx.masters = s.mbx.masters := rfl
@[simp] theorem State.answer_mbx_master (s : State) (c : InFlight) (r d : List Byte) : (s.answer c r d).mbx.master = s.mbx.master := rfl
@[simp] theorem State.answer_mbx_ptpSync (s : State) (c : InFlight) (r d : List Byte) : (s.answer c r d).mbx.ptpSync = s.mbx.ptpSync := rfl
@[simp] theorem State.answer_mbx_ptpSeq (s : State) (c : InFlight) (r d : List Byte) : (s.answer c r d).mbx.ptpSeq = s.mbx.ptpSeq := rfl
@[simp] theorem State.answer_mbx_ptpReq (s : State) (c : InFlight) (r d : List Byte) : (s.answer c r d).mbx.ptpReq = s.mbx.ptpReq := rfl
@[simp] theorem State.answer_mbx_pathDelay (s : State) (c : InFlight) (r d : List Byte) : (s.answer c r d).mbx.pathDelay = s.mbx.pathDelay := rfl
@[simp] theorem State.answer_mbx_sysOffset (s : State) (c : InFlight) (r d : List Byte) : (s.answer c r d).mbx.sysOffset = s.mbx.sysOffset := rfl
@[simp] theorem State.answer_mbx_holdover (s : State) (c : InFlight) (r d : List Byte) : (s.answer c r d).mbx.holdover = s.mbx.holdover := rfl
@[simp] theorem State.answer_mbx_timeLocked (s : State) (c : InFlight) (r d : List Byte) : (s.answer c r d).mbx.timeLocked = s.mbx.timeLocked := rfl

/-! `State.ok` -/
@[simp] theorem State.ok_pending (s : State) (c : InFlight) (r : List Byte) : (s.ok c r).pending = s.pending := rfl
@[simp] theorem State.ok_now (s : State) (c : InFlight) (r : List Byte) : (s.ok c r).now = s.now := rfl
@[simp] theorem State.ok_fresh (s : State) (c : InFlight) (r : List Byte) : (s.ok c r).fresh = s.fresh := rfl
@[simp] theorem State.ok_out (s : State) (c : InFlight) (r : List Byte) : (s.ok c r).out = s.out := rfl
@[simp] theorem State.ok_par (s : State) (c : InFlight) (r : List Byte) : (s.ok c r).par = s.par := rfl
@[simp] theorem State.ok_lv (s : State) (c : InFlight) (r : List Byte) : (s.ok c r).lv = s.lv := rfl
@[simp] theorem State.ok_ring (s : State) (c : InFlight) (r : List Byte) : (s.ok c r).ring = s.ring := rfl
@[simp] theorem State.ok_bas (s : State) (c : InFlight) (r : List Byte) : (s.ok c r).bas = s.bas := rfl
@[simp] theorem State.ok_tune (s : State) (c : InFlight) (r : List Byte) : (s.ok c r).tune = s.tune := rfl
@[simp] theorem State.ok_stg (s : State) (c : InFlight) (r : List Byte) : (s.ok c r).stg = s.stg := rfl
@[simp] theorem State.ok_cool (s : State) (c : InFlight) (r : List Byte) : (s.ok c r).cool = s.cool := rfl
@[simp] theorem State.ok_ses (s : State) (c : InFlight) (r : List Byte) : (s.ok c r).ses = s.ses := rfl
@[simp] theorem State.ok_met (s : State) (c : InFlight) (r : List Byte) : (s.ok c r).met = s.met := rfl
@[simp] theorem State.ok_bil (s : State) (c : InFlight) (r : List Byte) : (s.ok c r).bil = s.bil := rfl
@[simp] theorem State.ok_gau (s : State) (c : InFlight) (r : List Byte) : (s.ok c r).gau = s.gau := rfl
@[simp] theorem State.ok_pt (s : State) (c : InFlight) (r : List Byte) : (s.ok c r).pt = s.pt := rfl
@[simp] theorem State.ok_plc (s : State) (c : InFlight) (r : List Byte) : (s.ok c r).plc = s.plc := rfl
@[simp] theorem State.ok_can (s : State) (c : InFlight) (r : List Byte) : (s.ok c r).can = s.can := rfl
@[simp] theorem State.ok_obs (s : State) (c : InFlight) (r : List Byte) : (s.ok c r).obs = s.obs := rfl
@[simp] theorem State.ok_grn (s : State) (c : InFlight) (r : List Byte) : (s.ok c r).grn = s.grn := rfl
@[simp] theorem State.ok_flt (s : State) (c : InFlight) (r : List Byte) : (s.ok c r).flt = s.flt := rfl
@[simp] theorem State.ok_pair (s : State) (c : InFlight) (r : List Byte) : (s.ok c r).pair = s.pair := rfl
@[simp] theorem State.ok_sys (s : State) (c : InFlight) (r : List Byte) : (s.ok c r).sys = s.sys := rfl
@[simp] theorem State.ok_pins (s : State) (c : InFlight) (r : List Byte) : (s.ok c r).pins = s.pins := rfl
@[simp] theorem State.ok_mbx_hosts (s : State) (c : InFlight) (r : List Byte) : (s.ok c r).mbx.hosts = s.mbx.hosts := rfl
@[simp] theorem State.ok_mbx_live (s : State) (c : InFlight) (r : List Byte) : (s.ok c r).mbx.live = s.mbx.live := rfl
@[simp] theorem State.ok_mbx_qp (s : State) (c : InFlight) (r : List Byte) : (s.ok c r).mbx.qp = s.mbx.qp := rfl
@[simp] theorem State.ok_mbx_nextUid (s : State) (c : InFlight) (r : List Byte) : (s.ok c r).mbx.nextUid = s.mbx.nextUid := rfl
@[simp] theorem State.ok_mbx_ptrNormal (s : State) (c : InFlight) (r : List Byte) : (s.ok c r).mbx.ptrNormal = s.mbx.ptrNormal := rfl
@[simp] theorem State.ok_mbx_ptrHigh (s : State) (c : InFlight) (r : List Byte) : (s.ok c r).mbx.ptrHigh = s.mbx.ptrHigh := rfl
@[simp] theorem State.ok_mbx_highRun (s : State) (c : InFlight) (r : List Byte) : (s.ok c r).mbx.highRun = s.mbx.highRun := rfl
@[simp] theorem State.ok_mbx_pcieUp (s : State) (c : InFlight) (r : List Byte) : (s.ok c r).mbx.pcieUp = s.mbx.pcieUp := rfl
@[simp] theorem State.ok_mbx_masters (s : State) (c : InFlight) (r : List Byte) : (s.ok c r).mbx.masters = s.mbx.masters := rfl
@[simp] theorem State.ok_mbx_master (s : State) (c : InFlight) (r : List Byte) : (s.ok c r).mbx.master = s.mbx.master := rfl
@[simp] theorem State.ok_mbx_ptpSync (s : State) (c : InFlight) (r : List Byte) : (s.ok c r).mbx.ptpSync = s.mbx.ptpSync := rfl
@[simp] theorem State.ok_mbx_ptpSeq (s : State) (c : InFlight) (r : List Byte) : (s.ok c r).mbx.ptpSeq = s.mbx.ptpSeq := rfl
@[simp] theorem State.ok_mbx_ptpReq (s : State) (c : InFlight) (r : List Byte) : (s.ok c r).mbx.ptpReq = s.mbx.ptpReq := rfl
@[simp] theorem State.ok_mbx_pathDelay (s : State) (c : InFlight) (r : List Byte) : (s.ok c r).mbx.pathDelay = s.mbx.pathDelay := rfl
@[simp] theorem State.ok_mbx_sysOffset (s : State) (c : InFlight) (r : List Byte) : (s.ok c r).mbx.sysOffset = s.mbx.sysOffset := rfl
@[simp] theorem State.ok_mbx_holdover (s : State) (c : InFlight) (r : List Byte) : (s.ok c r).mbx.holdover = s.mbx.holdover := rfl
@[simp] theorem State.ok_mbx_timeLocked (s : State) (c : InFlight) (r : List Byte) : (s.ok c r).mbx.timeLocked = s.mbx.timeLocked := rfl

/-! `State.okUid` -/
@[simp] theorem State.okUid_pending (s : State) (u : Nat) (r : List Byte) : (s.okUid u r).pending = s.pending := rfl
@[simp] theorem State.okUid_now (s : State) (u : Nat) (r : List Byte) : (s.okUid u r).now = s.now := rfl
@[simp] theorem State.okUid_fresh (s : State) (u : Nat) (r : List Byte) : (s.okUid u r).fresh = s.fresh := rfl
@[simp] theorem State.okUid_out (s : State) (u : Nat) (r : List Byte) : (s.okUid u r).out = s.out := rfl
@[simp] theorem State.okUid_par (s : State) (u : Nat) (r : List Byte) : (s.okUid u r).par = s.par := rfl
@[simp] theorem State.okUid_lv (s : State) (u : Nat) (r : List Byte) : (s.okUid u r).lv = s.lv := rfl
@[simp] theorem State.okUid_ring (s : State) (u : Nat) (r : List Byte) : (s.okUid u r).ring = s.ring := rfl
@[simp] theorem State.okUid_bas (s : State) (u : Nat) (r : List Byte) : (s.okUid u r).bas = s.bas := rfl
@[simp] theorem State.okUid_tune (s : State) (u : Nat) (r : List Byte) : (s.okUid u r).tune = s.tune := rfl
@[simp] theorem State.okUid_stg (s : State) (u : Nat) (r : List Byte) : (s.okUid u r).stg = s.stg := rfl
@[simp] theorem State.okUid_cool (s : State) (u : Nat) (r : List Byte) : (s.okUid u r).cool = s.cool := rfl
@[simp] theorem State.okUid_ses (s : State) (u : Nat) (r : List Byte) : (s.okUid u r).ses = s.ses := rfl
@[simp] theorem State.okUid_met (s : State) (u : Nat) (r : List Byte) : (s.okUid u r).met = s.met := rfl
@[simp] theorem State.okUid_bil (s : State) (u : Nat) (r : List Byte) : (s.okUid u r).bil = s.bil := rfl
@[simp] theorem State.okUid_gau (s : State) (u : Nat) (r : List Byte) : (s.okUid u r).gau = s.gau := rfl
@[simp] theorem State.okUid_pt (s : State) (u : Nat) (r : List Byte) : (s.okUid u r).pt = s.pt := rfl
@[simp] theorem State.okUid_plc (s : State) (u : Nat) (r : List Byte) : (s.okUid u r).plc = s.plc := rfl
@[simp] theorem State.okUid_can (s : State) (u : Nat) (r : List Byte) : (s.okUid u r).can = s.can := rfl
@[simp] theorem State.okUid_obs (s : State) (u : Nat) (r : List Byte) : (s.okUid u r).obs = s.obs := rfl
@[simp] theorem State.okUid_grn (s : State) (u : Nat) (r : List Byte) : (s.okUid u r).grn = s.grn := rfl
@[simp] theorem State.okUid_flt (s : State) (u : Nat) (r : List Byte) : (s.okUid u r).flt = s.flt := rfl
@[simp] theorem State.okUid_pair (s : State) (u : Nat) (r : List Byte) : (s.okUid u r).pair = s.pair := rfl
@[simp] theorem State.okUid_sys (s : State) (u : Nat) (r : List Byte) : (s.okUid u r).sys = s.sys := rfl
@[simp] theorem State.okUid_pins (s : State) (u : Nat) (r : List Byte) : (s.okUid u r).pins = s.pins := rfl
@[simp] theorem State.okUid_mbx_hosts (s : State) (u : Nat) (r : List Byte) : (s.okUid u r).mbx.hosts = s.mbx.hosts := rfl
@[simp] theorem State.okUid_mbx_live (s : State) (u : Nat) (r : List Byte) : (s.okUid u r).mbx.live = s.mbx.live := rfl
@[simp] theorem State.okUid_mbx_qp (s : State) (u : Nat) (r : List Byte) : (s.okUid u r).mbx.qp = s.mbx.qp := rfl
@[simp] theorem State.okUid_mbx_nextUid (s : State) (u : Nat) (r : List Byte) : (s.okUid u r).mbx.nextUid = s.mbx.nextUid := rfl
@[simp] theorem State.okUid_mbx_ptrNormal (s : State) (u : Nat) (r : List Byte) : (s.okUid u r).mbx.ptrNormal = s.mbx.ptrNormal := rfl
@[simp] theorem State.okUid_mbx_ptrHigh (s : State) (u : Nat) (r : List Byte) : (s.okUid u r).mbx.ptrHigh = s.mbx.ptrHigh := rfl
@[simp] theorem State.okUid_mbx_highRun (s : State) (u : Nat) (r : List Byte) : (s.okUid u r).mbx.highRun = s.mbx.highRun := rfl
@[simp] theorem State.okUid_mbx_pcieUp (s : State) (u : Nat) (r : List Byte) : (s.okUid u r).mbx.pcieUp = s.mbx.pcieUp := rfl
@[simp] theorem State.okUid_mbx_masters (s : State) (u : Nat) (r : List Byte) : (s.okUid u r).mbx.masters = s.mbx.masters := rfl
@[simp] theorem State.okUid_mbx_master (s : State) (u : Nat) (r : List Byte) : (s.okUid u r).mbx.master = s.mbx.master := rfl
@[simp] theorem State.okUid_mbx_ptpSync (s : State) (u : Nat) (r : List Byte) : (s.okUid u r).mbx.ptpSync = s.mbx.ptpSync := rfl
@[simp] theorem State.okUid_mbx_ptpSeq (s : State) (u : Nat) (r : List Byte) : (s.okUid u r).mbx.ptpSeq = s.mbx.ptpSeq := rfl
@[simp] theorem State.okUid_mbx_ptpReq (s : State) (u : Nat) (r : List Byte) : (s.okUid u r).mbx.ptpReq = s.mbx.ptpReq := rfl
@[simp] theorem State.okUid_mbx_pathDelay (s : State) (u : Nat) (r : List Byte) : (s.okUid u r).mbx.pathDelay = s.mbx.pathDelay := rfl
@[simp] theorem State.okUid_mbx_sysOffset (s : State) (u : Nat) (r : List Byte) : (s.okUid u r).mbx.sysOffset = s.mbx.sysOffset := rfl
@[simp] theorem State.okUid_mbx_holdover (s : State) (u : Nat) (r : List Byte) : (s.okUid u r).mbx.holdover = s.mbx.holdover := rfl
@[simp] theorem State.okUid_mbx_timeLocked (s : State) (u : Nat) (r : List Byte) : (s.okUid u r).mbx.timeLocked = s.mbx.timeLocked := rfl

/-! `State.giveUpCmds` -/
@[simp] theorem State.giveUpCmds_pending (s : State) : (s.giveUpCmds).pending = s.pending := rfl
@[simp] theorem State.giveUpCmds_now (s : State) : (s.giveUpCmds).now = s.now := rfl
@[simp] theorem State.giveUpCmds_fresh (s : State) : (s.giveUpCmds).fresh = s.fresh := rfl
@[simp] theorem State.giveUpCmds_out (s : State) : (s.giveUpCmds).out = s.out := rfl
@[simp] theorem State.giveUpCmds_par (s : State) : (s.giveUpCmds).par = s.par := rfl
@[simp] theorem State.giveUpCmds_lv (s : State) : (s.giveUpCmds).lv = s.lv := rfl
@[simp] theorem State.giveUpCmds_ring (s : State) : (s.giveUpCmds).ring = s.ring := rfl
@[simp] theorem State.giveUpCmds_bas (s : State) : (s.giveUpCmds).bas = s.bas := rfl
@[simp] theorem State.giveUpCmds_tune (s : State) : (s.giveUpCmds).tune = s.tune := rfl
@[simp] theorem State.giveUpCmds_stg (s : State) : (s.giveUpCmds).stg = s.stg := rfl
@[simp] theorem State.giveUpCmds_cool (s : State) : (s.giveUpCmds).cool = s.cool := rfl
@[simp] theorem State.giveUpCmds_ses (s : State) : (s.giveUpCmds).ses = s.ses := rfl
@[simp] theorem State.giveUpCmds_met (s : State) : (s.giveUpCmds).met = s.met := rfl
@[simp] theorem State.giveUpCmds_bil (s : State) : (s.giveUpCmds).bil = s.bil := rfl
@[simp] theorem State.giveUpCmds_gau (s : State) : (s.giveUpCmds).gau = s.gau := rfl
@[simp] theorem State.giveUpCmds_pt (s : State) : (s.giveUpCmds).pt = s.pt := rfl
@[simp] theorem State.giveUpCmds_plc (s : State) : (s.giveUpCmds).plc = s.plc := rfl
@[simp] theorem State.giveUpCmds_can (s : State) : (s.giveUpCmds).can = s.can := rfl
@[simp] theorem State.giveUpCmds_obs (s : State) : (s.giveUpCmds).obs = s.obs := rfl
@[simp] theorem State.giveUpCmds_grn (s : State) : (s.giveUpCmds).grn = s.grn := rfl
@[simp] theorem State.giveUpCmds_flt (s : State) : (s.giveUpCmds).flt = s.flt := rfl
@[simp] theorem State.giveUpCmds_pair (s : State) : (s.giveUpCmds).pair = s.pair := rfl
@[simp] theorem State.giveUpCmds_sys (s : State) : (s.giveUpCmds).sys = s.sys := rfl
@[simp] theorem State.giveUpCmds_pins (s : State) : (s.giveUpCmds).pins = s.pins := rfl
@[simp] theorem State.giveUpCmds_mbx_hosts (s : State) : (s.giveUpCmds).mbx.hosts = s.mbx.hosts := rfl
@[simp] theorem State.giveUpCmds_mbx_live (s : State) : (s.giveUpCmds).mbx.live = s.mbx.live := rfl
@[simp] theorem State.giveUpCmds_mbx_qp (s : State) : (s.giveUpCmds).mbx.qp = s.mbx.qp := rfl
@[simp] theorem State.giveUpCmds_mbx_nextUid (s : State) : (s.giveUpCmds).mbx.nextUid = s.mbx.nextUid := rfl
@[simp] theorem State.giveUpCmds_mbx_ptrNormal (s : State) : (s.giveUpCmds).mbx.ptrNormal = s.mbx.ptrNormal := rfl
@[simp] theorem State.giveUpCmds_mbx_ptrHigh (s : State) : (s.giveUpCmds).mbx.ptrHigh = s.mbx.ptrHigh := rfl
@[simp] theorem State.giveUpCmds_mbx_highRun (s : State) : (s.giveUpCmds).mbx.highRun = s.mbx.highRun := rfl
@[simp] theorem State.giveUpCmds_mbx_pcieUp (s : State) : (s.giveUpCmds).mbx.pcieUp = s.mbx.pcieUp := rfl
@[simp] theorem State.giveUpCmds_mbx_masters (s : State) : (s.giveUpCmds).mbx.masters = s.mbx.masters := rfl
@[simp] theorem State.giveUpCmds_mbx_master (s : State) : (s.giveUpCmds).mbx.master = s.mbx.master := rfl
@[simp] theorem State.giveUpCmds_mbx_ptpSync (s : State) : (s.giveUpCmds).mbx.ptpSync = s.mbx.ptpSync := rfl
@[simp] theorem State.giveUpCmds_mbx_ptpSeq (s : State) : (s.giveUpCmds).mbx.ptpSeq = s.mbx.ptpSeq := rfl
@[simp] theorem State.giveUpCmds_mbx_ptpReq (s : State) : (s.giveUpCmds).mbx.ptpReq = s.mbx.ptpReq := rfl
@[simp] theorem State.giveUpCmds_mbx_pathDelay (s : State) : (s.giveUpCmds).mbx.pathDelay = s.mbx.pathDelay := rfl
@[simp] theorem State.giveUpCmds_mbx_sysOffset (s : State) : (s.giveUpCmds).mbx.sysOffset = s.mbx.sysOffset := rfl
@[simp] theorem State.giveUpCmds_mbx_holdover (s : State) : (s.giveUpCmds).mbx.holdover = s.mbx.holdover := rfl
@[simp] theorem State.giveUpCmds_mbx_timeLocked (s : State) : (s.giveUpCmds).mbx.timeLocked = s.mbx.timeLocked := rfl

/-! `State.updQp` -/
@[simp] theorem State.updQp_pending (s : State) (q : Nat) (f : QPair → QPair) : (s.updQp q f).pending = s.pending := rfl
@[simp] theorem State.updQp_now (s : State) (q : Nat) (f : QPair → QPair) : (s.updQp q f).now = s.now := rfl
@[simp] theorem State.updQp_fresh (s : State) (q : Nat) (f : QPair → QPair) : (s.updQp q f).fresh = s.fresh := rfl
@[simp] theorem State.updQp_out (s : State) (q : Nat) (f : QPair → QPair) : (s.updQp q f).out = s.out := rfl
@[simp] theorem State.updQp_par (s : State) (q : Nat) (f : QPair → QPair) : (s.updQp q f).par = s.par := rfl
@[simp] theorem State.updQp_lv (s : State) (q : Nat) (f : QPair → QPair) : (s.updQp q f).lv = s.lv := rfl
@[simp] theorem State.updQp_ring (s : State) (q : Nat) (f : QPair → QPair) : (s.updQp q f).ring = s.ring := rfl
@[simp] theorem State.updQp_bas (s : State) (q : Nat) (f : QPair → QPair) : (s.updQp q f).bas = s.bas := rfl
@[simp] theorem State.updQp_tune (s : State) (q : Nat) (f : QPair → QPair) : (s.updQp q f).tune = s.tune := rfl
@[simp] theorem State.updQp_stg (s : State) (q : Nat) (f : QPair → QPair) : (s.updQp q f).stg = s.stg := rfl
@[simp] theorem State.updQp_cool (s : State) (q : Nat) (f : QPair → QPair) : (s.updQp q f).cool = s.cool := rfl
@[simp] theorem State.updQp_ses (s : State) (q : Nat) (f : QPair → QPair) : (s.updQp q f).ses = s.ses := rfl
@[simp] theorem State.updQp_met (s : State) (q : Nat) (f : QPair → QPair) : (s.updQp q f).met = s.met := rfl
@[simp] theorem State.updQp_bil (s : State) (q : Nat) (f : QPair → QPair) : (s.updQp q f).bil = s.bil := rfl
@[simp] theorem State.updQp_gau (s : State) (q : Nat) (f : QPair → QPair) : (s.updQp q f).gau = s.gau := rfl
@[simp] theorem State.updQp_pt (s : State) (q : Nat) (f : QPair → QPair) : (s.updQp q f).pt = s.pt := rfl
@[simp] theorem State.updQp_plc (s : State) (q : Nat) (f : QPair → QPair) : (s.updQp q f).plc = s.plc := rfl
@[simp] theorem State.updQp_can (s : State) (q : Nat) (f : QPair → QPair) : (s.updQp q f).can = s.can := rfl
@[simp] theorem State.updQp_obs (s : State) (q : Nat) (f : QPair → QPair) : (s.updQp q f).obs = s.obs := rfl
@[simp] theorem State.updQp_grn (s : State) (q : Nat) (f : QPair → QPair) : (s.updQp q f).grn = s.grn := rfl
@[simp] theorem State.updQp_flt (s : State) (q : Nat) (f : QPair → QPair) : (s.updQp q f).flt = s.flt := rfl
@[simp] theorem State.updQp_pair (s : State) (q : Nat) (f : QPair → QPair) : (s.updQp q f).pair = s.pair := rfl
@[simp] theorem State.updQp_sys (s : State) (q : Nat) (f : QPair → QPair) : (s.updQp q f).sys = s.sys := rfl
@[simp] theorem State.updQp_pins (s : State) (q : Nat) (f : QPair → QPair) : (s.updQp q f).pins = s.pins := rfl
@[simp] theorem State.updQp_mbx_hosts (s : State) (q : Nat) (f : QPair → QPair) : (s.updQp q f).mbx.hosts = s.mbx.hosts := rfl
@[simp] theorem State.updQp_mbx_live (s : State) (q : Nat) (f : QPair → QPair) : (s.updQp q f).mbx.live = s.mbx.live := rfl
@[simp] theorem State.updQp_mbx_inflight (s : State) (q : Nat) (f : QPair → QPair) : (s.updQp q f).mbx.inflight = s.mbx.inflight := rfl
@[simp] theorem State.updQp_mbx_nextUid (s : State) (q : Nat) (f : QPair → QPair) : (s.updQp q f).mbx.nextUid = s.mbx.nextUid := rfl
@[simp] theorem State.updQp_mbx_ptrNormal (s : State) (q : Nat) (f : QPair → QPair) : (s.updQp q f).mbx.ptrNormal = s.mbx.ptrNormal := rfl
@[simp] theorem State.updQp_mbx_ptrHigh (s : State) (q : Nat) (f : QPair → QPair) : (s.updQp q f).mbx.ptrHigh = s.mbx.ptrHigh := rfl
@[simp] theorem State.updQp_mbx_highRun (s : State) (q : Nat) (f : QPair → QPair) : (s.updQp q f).mbx.highRun = s.mbx.highRun := rfl
@[simp] theorem State.updQp_mbx_pcieUp (s : State) (q : Nat) (f : QPair → QPair) : (s.updQp q f).mbx.pcieUp = s.mbx.pcieUp := rfl
@[simp] theorem State.updQp_mbx_masters (s : State) (q : Nat) (f : QPair → QPair) : (s.updQp q f).mbx.masters = s.mbx.masters := rfl
@[simp] theorem State.updQp_mbx_master (s : State) (q : Nat) (f : QPair → QPair) : (s.updQp q f).mbx.master = s.mbx.master := rfl
@[simp] theorem State.updQp_mbx_ptpSync (s : State) (q : Nat) (f : QPair → QPair) : (s.updQp q f).mbx.ptpSync = s.mbx.ptpSync := rfl
@[simp] theorem State.updQp_mbx_ptpSeq (s : State) (q : Nat) (f : QPair → QPair) : (s.updQp q f).mbx.ptpSeq = s.mbx.ptpSeq := rfl
@[simp] theorem State.updQp_mbx_ptpReq (s : State) (q : Nat) (f : QPair → QPair) : (s.updQp q f).mbx.ptpReq = s.mbx.ptpReq := rfl
@[simp] theorem State.updQp_mbx_pathDelay (s : State) (q : Nat) (f : QPair → QPair) : (s.updQp q f).mbx.pathDelay = s.mbx.pathDelay := rfl
@[simp] theorem State.updQp_mbx_sysOffset (s : State) (q : Nat) (f : QPair → QPair) : (s.updQp q f).mbx.sysOffset = s.mbx.sysOffset := rfl
@[simp] theorem State.updQp_mbx_holdover (s : State) (q : Nat) (f : QPair → QPair) : (s.updQp q f).mbx.holdover = s.mbx.holdover := rfl
@[simp] theorem State.updQp_mbx_timeLocked (s : State) (q : Nat) (f : QPair → QPair) : (s.updQp q f).mbx.timeLocked = s.mbx.timeLocked := rfl

/-! `State.updLive` -/
@[simp] theorem State.updLive_pending (s : State) (e : Nat) (f : HostLive → HostLive) : (s.updLive e f).pending = s.pending := rfl
@[simp] theorem State.updLive_now (s : State) (e : Nat) (f : HostLive → HostLive) : (s.updLive e f).now = s.now := rfl
@[simp] theorem State.updLive_fresh (s : State) (e : Nat) (f : HostLive → HostLive) : (s.updLive e f).fresh = s.fresh := rfl
@[simp] theorem State.updLive_out (s : State) (e : Nat) (f : HostLive → HostLive) : (s.updLive e f).out = s.out := rfl
@[simp] theorem State.updLive_par (s : State) (e : Nat) (f : HostLive → HostLive) : (s.updLive e f).par = s.par := rfl
@[simp] theorem State.updLive_lv (s : State) (e : Nat) (f : HostLive → HostLive) : (s.updLive e f).lv = s.lv := rfl
@[simp] theorem State.updLive_ring (s : State) (e : Nat) (f : HostLive → HostLive) : (s.updLive e f).ring = s.ring := rfl
@[simp] theorem State.updLive_bas (s : State) (e : Nat) (f : HostLive → HostLive) : (s.updLive e f).bas = s.bas := rfl
@[simp] theorem State.updLive_tune (s : State) (e : Nat) (f : HostLive → HostLive) : (s.updLive e f).tune = s.tune := rfl
@[simp] theorem State.updLive_stg (s : State) (e : Nat) (f : HostLive → HostLive) : (s.updLive e f).stg = s.stg := rfl
@[simp] theorem State.updLive_cool (s : State) (e : Nat) (f : HostLive → HostLive) : (s.updLive e f).cool = s.cool := rfl
@[simp] theorem State.updLive_ses (s : State) (e : Nat) (f : HostLive → HostLive) : (s.updLive e f).ses = s.ses := rfl
@[simp] theorem State.updLive_met (s : State) (e : Nat) (f : HostLive → HostLive) : (s.updLive e f).met = s.met := rfl
@[simp] theorem State.updLive_bil (s : State) (e : Nat) (f : HostLive → HostLive) : (s.updLive e f).bil = s.bil := rfl
@[simp] theorem State.updLive_gau (s : State) (e : Nat) (f : HostLive → HostLive) : (s.updLive e f).gau = s.gau := rfl
@[simp] theorem State.updLive_pt (s : State) (e : Nat) (f : HostLive → HostLive) : (s.updLive e f).pt = s.pt := rfl
@[simp] theorem State.updLive_plc (s : State) (e : Nat) (f : HostLive → HostLive) : (s.updLive e f).plc = s.plc := rfl
@[simp] theorem State.updLive_can (s : State) (e : Nat) (f : HostLive → HostLive) : (s.updLive e f).can = s.can := rfl
@[simp] theorem State.updLive_obs (s : State) (e : Nat) (f : HostLive → HostLive) : (s.updLive e f).obs = s.obs := rfl
@[simp] theorem State.updLive_grn (s : State) (e : Nat) (f : HostLive → HostLive) : (s.updLive e f).grn = s.grn := rfl
@[simp] theorem State.updLive_flt (s : State) (e : Nat) (f : HostLive → HostLive) : (s.updLive e f).flt = s.flt := rfl
@[simp] theorem State.updLive_pair (s : State) (e : Nat) (f : HostLive → HostLive) : (s.updLive e f).pair = s.pair := rfl
@[simp] theorem State.updLive_sys (s : State) (e : Nat) (f : HostLive → HostLive) : (s.updLive e f).sys = s.sys := rfl
@[simp] theorem State.updLive_pins (s : State) (e : Nat) (f : HostLive → HostLive) : (s.updLive e f).pins = s.pins := rfl
@[simp] theorem State.updLive_mbx_hosts (s : State) (e : Nat) (f : HostLive → HostLive) : (s.updLive e f).mbx.hosts = s.mbx.hosts := rfl
@[simp] theorem State.updLive_mbx_qp (s : State) (e : Nat) (f : HostLive → HostLive) : (s.updLive e f).mbx.qp = s.mbx.qp := rfl
@[simp] theorem State.updLive_mbx_inflight (s : State) (e : Nat) (f : HostLive → HostLive) : (s.updLive e f).mbx.inflight = s.mbx.inflight := rfl
@[simp] theorem State.updLive_mbx_nextUid (s : State) (e : Nat) (f : HostLive → HostLive) : (s.updLive e f).mbx.nextUid = s.mbx.nextUid := rfl
@[simp] theorem State.updLive_mbx_ptrNormal (s : State) (e : Nat) (f : HostLive → HostLive) : (s.updLive e f).mbx.ptrNormal = s.mbx.ptrNormal := rfl
@[simp] theorem State.updLive_mbx_ptrHigh (s : State) (e : Nat) (f : HostLive → HostLive) : (s.updLive e f).mbx.ptrHigh = s.mbx.ptrHigh := rfl
@[simp] theorem State.updLive_mbx_highRun (s : State) (e : Nat) (f : HostLive → HostLive) : (s.updLive e f).mbx.highRun = s.mbx.highRun := rfl
@[simp] theorem State.updLive_mbx_pcieUp (s : State) (e : Nat) (f : HostLive → HostLive) : (s.updLive e f).mbx.pcieUp = s.mbx.pcieUp := rfl
@[simp] theorem State.updLive_mbx_masters (s : State) (e : Nat) (f : HostLive → HostLive) : (s.updLive e f).mbx.masters = s.mbx.masters := rfl
@[simp] theorem State.updLive_mbx_master (s : State) (e : Nat) (f : HostLive → HostLive) : (s.updLive e f).mbx.master = s.mbx.master := rfl
@[simp] theorem State.updLive_mbx_ptpSync (s : State) (e : Nat) (f : HostLive → HostLive) : (s.updLive e f).mbx.ptpSync = s.mbx.ptpSync := rfl
@[simp] theorem State.updLive_mbx_ptpSeq (s : State) (e : Nat) (f : HostLive → HostLive) : (s.updLive e f).mbx.ptpSeq = s.mbx.ptpSeq := rfl
@[simp] theorem State.updLive_mbx_ptpReq (s : State) (e : Nat) (f : HostLive → HostLive) : (s.updLive e f).mbx.ptpReq = s.mbx.ptpReq := rfl
@[simp] theorem State.updLive_mbx_pathDelay (s : State) (e : Nat) (f : HostLive → HostLive) : (s.updLive e f).mbx.pathDelay = s.mbx.pathDelay := rfl
@[simp] theorem State.updLive_mbx_sysOffset (s : State) (e : Nat) (f : HostLive → HostLive) : (s.updLive e f).mbx.sysOffset = s.mbx.sysOffset := rfl
@[simp] theorem State.updLive_mbx_holdover (s : State) (e : Nat) (f : HostLive → HostLive) : (s.updLive e f).mbx.holdover = s.mbx.holdover := rfl
@[simp] theorem State.updLive_mbx_timeLocked (s : State) (e : Nat) (f : HostLive → HostLive) : (s.updLive e f).mbx.timeLocked = s.mbx.timeLocked := rfl

/-! `State.deliver` -/
@[simp] theorem State.deliver_pending (s : State) (e : Nat) : (s.deliver e).pending = s.pending := rfl
@[simp] theorem State.deliver_now (s : State) (e : Nat) : (s.deliver e).now = s.now := rfl
@[simp] theorem State.deliver_fresh (s : State) (e : Nat) : (s.deliver e).fresh = s.fresh := rfl
@[simp] theorem State.deliver_out (s : State) (e : Nat) : (s.deliver e).out = s.out := rfl
@[simp] theorem State.deliver_par (s : State) (e : Nat) : (s.deliver e).par = s.par := rfl
@[simp] theorem State.deliver_lv (s : State) (e : Nat) : (s.deliver e).lv = s.lv := rfl
@[simp] theorem State.deliver_ring (s : State) (e : Nat) : (s.deliver e).ring = s.ring := rfl
@[simp] theorem State.deliver_bas (s : State) (e : Nat) : (s.deliver e).bas = s.bas := rfl
@[simp] theorem State.deliver_tune (s : State) (e : Nat) : (s.deliver e).tune = s.tune := rfl
@[simp] theorem State.deliver_stg (s : State) (e : Nat) : (s.deliver e).stg = s.stg := rfl
@[simp] theorem State.deliver_cool (s : State) (e : Nat) : (s.deliver e).cool = s.cool := rfl
@[simp] theorem State.deliver_ses (s : State) (e : Nat) : (s.deliver e).ses = s.ses := rfl
@[simp] theorem State.deliver_met (s : State) (e : Nat) : (s.deliver e).met = s.met := rfl
@[simp] theorem State.deliver_bil (s : State) (e : Nat) : (s.deliver e).bil = s.bil := rfl
@[simp] theorem State.deliver_gau (s : State) (e : Nat) : (s.deliver e).gau = s.gau := rfl
@[simp] theorem State.deliver_pt (s : State) (e : Nat) : (s.deliver e).pt = s.pt := rfl
@[simp] theorem State.deliver_plc (s : State) (e : Nat) : (s.deliver e).plc = s.plc := rfl
@[simp] theorem State.deliver_can (s : State) (e : Nat) : (s.deliver e).can = s.can := rfl
@[simp] theorem State.deliver_obs (s : State) (e : Nat) : (s.deliver e).obs = s.obs := rfl
@[simp] theorem State.deliver_grn (s : State) (e : Nat) : (s.deliver e).grn = s.grn := rfl
@[simp] theorem State.deliver_flt (s : State) (e : Nat) : (s.deliver e).flt = s.flt := rfl
@[simp] theorem State.deliver_pair (s : State) (e : Nat) : (s.deliver e).pair = s.pair := rfl
@[simp] theorem State.deliver_sys (s : State) (e : Nat) : (s.deliver e).sys = s.sys := rfl
@[simp] theorem State.deliver_pins (s : State) (e : Nat) : (s.deliver e).pins = s.pins := rfl
@[simp] theorem State.deliver_mbx_hosts (s : State) (e : Nat) : (s.deliver e).mbx.hosts = s.mbx.hosts := rfl
@[simp] theorem State.deliver_mbx_qp (s : State) (e : Nat) : (s.deliver e).mbx.qp = s.mbx.qp := rfl
@[simp] theorem State.deliver_mbx_nextUid (s : State) (e : Nat) : (s.deliver e).mbx.nextUid = s.mbx.nextUid := rfl
@[simp] theorem State.deliver_mbx_ptrNormal (s : State) (e : Nat) : (s.deliver e).mbx.ptrNormal = s.mbx.ptrNormal := rfl
@[simp] theorem State.deliver_mbx_ptrHigh (s : State) (e : Nat) : (s.deliver e).mbx.ptrHigh = s.mbx.ptrHigh := rfl
@[simp] theorem State.deliver_mbx_highRun (s : State) (e : Nat) : (s.deliver e).mbx.highRun = s.mbx.highRun := rfl
@[simp] theorem State.deliver_mbx_pcieUp (s : State) (e : Nat) : (s.deliver e).mbx.pcieUp = s.mbx.pcieUp := rfl
@[simp] theorem State.deliver_mbx_masters (s : State) (e : Nat) : (s.deliver e).mbx.masters = s.mbx.masters := rfl
@[simp] theorem State.deliver_mbx_master (s : State) (e : Nat) : (s.deliver e).mbx.master = s.mbx.master := rfl
@[simp] theorem State.deliver_mbx_ptpSync (s : State) (e : Nat) : (s.deliver e).mbx.ptpSync = s.mbx.ptpSync := rfl
@[simp] theorem State.deliver_mbx_ptpSeq (s : State) (e : Nat) : (s.deliver e).mbx.ptpSeq = s.mbx.ptpSeq := rfl
@[simp] theorem State.deliver_mbx_ptpReq (s : State) (e : Nat) : (s.deliver e).mbx.ptpReq = s.mbx.ptpReq := rfl
@[simp] theorem State.deliver_mbx_pathDelay (s : State) (e : Nat) : (s.deliver e).mbx.pathDelay = s.mbx.pathDelay := rfl
@[simp] theorem State.deliver_mbx_sysOffset (s : State) (e : Nat) : (s.deliver e).mbx.sysOffset = s.mbx.sysOffset := rfl
@[simp] theorem State.deliver_mbx_holdover (s : State) (e : Nat) : (s.deliver e).mbx.holdover = s.mbx.holdover := rfl
@[simp] theorem State.deliver_mbx_timeLocked (s : State) (e : Nat) : (s.deliver e).mbx.timeLocked = s.mbx.timeLocked := rfl

/-! `State.emit` -/
@[simp] theorem State.emit_pending (s : State) (e : Emit) : (s.emit e).pending = s.pending := rfl
@[simp] theorem State.emit_now (s : State) (e : Emit) : (s.emit e).now = s.now := rfl
@[simp] theorem State.emit_fresh (s : State) (e : Emit) : (s.emit e).fresh = s.fresh := rfl
@[simp] theorem State.emit_mbx (s : State) (e : Emit) : (s.emit e).mbx = s.mbx := rfl
@[simp] theorem State.emit_par (s : State) (e : Emit) : (s.emit e).par = s.par := rfl
@[simp] theorem State.emit_lv (s : State) (e : Emit) : (s.emit e).lv = s.lv := rfl
@[simp] theorem State.emit_ring (s : State) (e : Emit) : (s.emit e).ring = s.ring := rfl
@[simp] theorem State.emit_bas (s : State) (e : Emit) : (s.emit e).bas = s.bas := rfl
@[simp] theorem State.emit_tune (s : State) (e : Emit) : (s.emit e).tune = s.tune := rfl
@[simp] theorem State.emit_stg (s : State) (e : Emit) : (s.emit e).stg = s.stg := rfl
@[simp] theorem State.emit_cool (s : State) (e : Emit) : (s.emit e).cool = s.cool := rfl
@[simp] theorem State.emit_ses (s : State) (e : Emit) : (s.emit e).ses = s.ses := rfl
@[simp] theorem State.emit_met (s : State) (e : Emit) : (s.emit e).met = s.met := rfl
@[simp] theorem State.emit_bil (s : State) (e : Emit) : (s.emit e).bil = s.bil := rfl
@[simp] theorem State.emit_gau (s : State) (e : Emit) : (s.emit e).gau = s.gau := rfl
@[simp] theorem State.emit_pt (s : State) (e : Emit) : (s.emit e).pt = s.pt := rfl
@[simp] theorem State.emit_plc (s : State) (e : Emit) : (s.emit e).plc = s.plc := rfl
@[simp] theorem State.emit_can (s : State) (e : Emit) : (s.emit e).can = s.can := rfl
@[simp] theorem State.emit_obs (s : State) (e : Emit) : (s.emit e).obs = s.obs := rfl
@[simp] theorem State.emit_grn (s : State) (e : Emit) : (s.emit e).grn = s.grn := rfl
@[simp] theorem State.emit_flt (s : State) (e : Emit) : (s.emit e).flt = s.flt := rfl
@[simp] theorem State.emit_pair (s : State) (e : Emit) : (s.emit e).pair = s.pair := rfl
@[simp] theorem State.emit_sys (s : State) (e : Emit) : (s.emit e).sys = s.sys := rfl
@[simp] theorem State.emit_pins (s : State) (e : Emit) : (s.emit e).pins = s.pins := rfl

/-! `State.updInst` -/
@[simp] theorem State.updInst_pending (s : State) (i : Nat) (f : Inst → Inst) : (s.updInst i f).pending = s.pending := rfl
@[simp] theorem State.updInst_now (s : State) (i : Nat) (f : Inst → Inst) : (s.updInst i f).now = s.now := rfl
@[simp] theorem State.updInst_fresh (s : State) (i : Nat) (f : Inst → Inst) : (s.updInst i f).fresh = s.fresh := rfl
@[simp] theorem State.updInst_out (s : State) (i : Nat) (f : Inst → Inst) : (s.updInst i f).out = s.out := rfl
@[simp] theorem State.updInst_mbx (s : State) (i : Nat) (f : Inst → Inst) : (s.updInst i f).mbx = s.mbx := rfl
@[simp] theorem State.updInst_par (s : State) (i : Nat) (f : Inst → Inst) : (s.updInst i f).par = s.par := rfl
@[simp] theorem State.updInst_lv (s : State) (i : Nat) (f : Inst → Inst) : (s.updInst i f).lv = s.lv := rfl
@[simp] theorem State.updInst_ring (s : State) (i : Nat) (f : Inst → Inst) : (s.updInst i f).ring = s.ring := rfl
@[simp] theorem State.updInst_tune (s : State) (i : Nat) (f : Inst → Inst) : (s.updInst i f).tune = s.tune := rfl
@[simp] theorem State.updInst_stg (s : State) (i : Nat) (f : Inst → Inst) : (s.updInst i f).stg = s.stg := rfl
@[simp] theorem State.updInst_cool (s : State) (i : Nat) (f : Inst → Inst) : (s.updInst i f).cool = s.cool := rfl
@[simp] theorem State.updInst_ses (s : State) (i : Nat) (f : Inst → Inst) : (s.updInst i f).ses = s.ses := rfl
@[simp] theorem State.updInst_met (s : State) (i : Nat) (f : Inst → Inst) : (s.updInst i f).met = s.met := rfl
@[simp] theorem State.updInst_bil (s : State) (i : Nat) (f : Inst → Inst) : (s.updInst i f).bil = s.bil := rfl
@[simp] theorem State.updInst_gau (s : State) (i : Nat) (f : Inst → Inst) : (s.updInst i f).gau = s.gau := rfl
@[simp] theorem State.updInst_pt (s : State) (i : Nat) (f : Inst → Inst) : (s.updInst i f).pt = s.pt := rfl
@[simp] theorem State.updInst_plc (s : State) (i : Nat) (f : Inst → Inst) : (s.updInst i f).plc = s.plc := rfl
@[simp] theorem State.updInst_can (s : State) (i : Nat) (f : Inst → Inst) : (s.updInst i f).can = s.can := rfl
@[simp] theorem State.updInst_obs (s : State) (i : Nat) (f : Inst → Inst) : (s.updInst i f).obs = s.obs := rfl
@[simp] theorem State.updInst_grn (s : State) (i : Nat) (f : Inst → Inst) : (s.updInst i f).grn = s.grn := rfl
@[simp] theorem State.updInst_flt (s : State) (i : Nat) (f : Inst → Inst) : (s.updInst i f).flt = s.flt := rfl
@[simp] theorem State.updInst_pair (s : State) (i : Nat) (f : Inst → Inst) : (s.updInst i f).pair = s.pair := rfl
@[simp] theorem State.updInst_sys (s : State) (i : Nat) (f : Inst → Inst) : (s.updInst i f).sys = s.sys := rfl
@[simp] theorem State.updInst_pins (s : State) (i : Nat) (f : Inst → Inst) : (s.updInst i f).pins = s.pins := rfl
@[simp] theorem State.updInst_bas_coeffs (s : State) (i : Nat) (f : Inst → Inst) : (s.updInst i f).bas.coeffs = s.bas.coeffs := rfl
@[simp] theorem State.updInst_bas_reps (s : State) (i : Nat) (f : Inst → Inst) : (s.updInst i f).bas.reps = s.bas.reps := rfl
@[simp] theorem State.updInst_bas_site (s : State) (i : Nat) (f : Inst → Inst) : (s.updInst i f).bas.site = s.bas.site := rfl
@[simp] theorem State.updInst_bas_refWait (s : State) (i : Nat) (f : Inst → Inst) : (s.updInst i f).bas.refWait = s.bas.refWait := rfl
@[simp] theorem State.updInst_bas_sentRun (s : State) (i : Nat) (f : Inst → Inst) : (s.updInst i f).bas.sentRun = s.bas.sentRun := rfl
@[simp] theorem State.updInst_bas_repWait (s : State) (i : Nat) (f : Inst → Inst) : (s.updInst i f).bas.repWait = s.bas.repWait := rfl
@[simp] theorem State.updInst_bas_fwdFrames (s : State) (i : Nat) (f : Inst → Inst) : (s.updInst i f).bas.fwdFrames = s.bas.fwdFrames := rfl
@[simp] theorem State.updInst_bas_fwdMissed (s : State) (i : Nat) (f : Inst → Inst) : (s.updInst i f).bas.fwdMissed = s.bas.fwdMissed := rfl
@[simp] theorem State.updInst_bas_fwdSite (s : State) (i : Nat) (f : Inst → Inst) : (s.updInst i f).bas.fwdSite = s.bas.fwdSite := rfl
@[simp] theorem State.updInst_bas_fwdSent (s : State) (i : Nat) (f : Inst → Inst) : (s.updInst i f).bas.fwdSent = s.bas.fwdSent := rfl

/-! `State.latchMeans` -/
@[simp] theorem State.latchMeans_pending (s : State) : (s.latchMeans).pending = s.pending := rfl
@[simp] theorem State.latchMeans_now (s : State) : (s.latchMeans).now = s.now := rfl
@[simp] theorem State.latchMeans_fresh (s : State) : (s.latchMeans).fresh = s.fresh := rfl
@[simp] theorem State.latchMeans_out (s : State) : (s.latchMeans).out = s.out := rfl
@[simp] theorem State.latchMeans_mbx (s : State) : (s.latchMeans).mbx = s.mbx := rfl
@[simp] theorem State.latchMeans_par (s : State) : (s.latchMeans).par = s.par := rfl
@[simp] theorem State.latchMeans_lv (s : State) : (s.latchMeans).lv = s.lv := rfl
@[simp] theorem State.latchMeans_ring (s : State) : (s.latchMeans).ring = s.ring := rfl
@[simp] theorem State.latchMeans_tune (s : State) : (s.latchMeans).tune = s.tune := rfl
@[simp] theorem State.latchMeans_stg (s : State) : (s.latchMeans).stg = s.stg := rfl
@[simp] theorem State.latchMeans_cool (s : State) : (s.latchMeans).cool = s.cool := rfl
@[simp] theorem State.latchMeans_ses (s : State) : (s.latchMeans).ses = s.ses := rfl
@[simp] theorem State.latchMeans_met (s : State) : (s.latchMeans).met = s.met := rfl
@[simp] theorem State.latchMeans_bil (s : State) : (s.latchMeans).bil = s.bil := rfl
@[simp] theorem State.latchMeans_gau (s : State) : (s.latchMeans).gau = s.gau := rfl
@[simp] theorem State.latchMeans_pt (s : State) : (s.latchMeans).pt = s.pt := rfl
@[simp] theorem State.latchMeans_plc (s : State) : (s.latchMeans).plc = s.plc := rfl
@[simp] theorem State.latchMeans_can (s : State) : (s.latchMeans).can = s.can := rfl
@[simp] theorem State.latchMeans_obs (s : State) : (s.latchMeans).obs = s.obs := rfl
@[simp] theorem State.latchMeans_grn (s : State) : (s.latchMeans).grn = s.grn := rfl
@[simp] theorem State.latchMeans_flt (s : State) : (s.latchMeans).flt = s.flt := rfl
@[simp] theorem State.latchMeans_pair (s : State) : (s.latchMeans).pair = s.pair := rfl
@[simp] theorem State.latchMeans_sys (s : State) : (s.latchMeans).sys = s.sys := rfl
@[simp] theorem State.latchMeans_pins (s : State) : (s.latchMeans).pins = s.pins := rfl
@[simp] theorem State.latchMeans_bas_coeffs (s : State) : (s.latchMeans).bas.coeffs = s.bas.coeffs := rfl
@[simp] theorem State.latchMeans_bas_reps (s : State) : (s.latchMeans).bas.reps = s.bas.reps := rfl
@[simp] theorem State.latchMeans_bas_site (s : State) : (s.latchMeans).bas.site = s.bas.site := rfl
@[simp] theorem State.latchMeans_bas_refWait (s : State) : (s.latchMeans).bas.refWait = s.bas.refWait := rfl
@[simp] theorem State.latchMeans_bas_sentRun (s : State) : (s.latchMeans).bas.sentRun = s.bas.sentRun := rfl
@[simp] theorem State.latchMeans_bas_repWait (s : State) : (s.latchMeans).bas.repWait = s.bas.repWait := rfl
@[simp] theorem State.latchMeans_bas_fwdFrames (s : State) : (s.latchMeans).bas.fwdFrames = s.bas.fwdFrames := rfl
@[simp] theorem State.latchMeans_bas_fwdMissed (s : State) : (s.latchMeans).bas.fwdMissed = s.bas.fwdMissed := rfl
@[simp] theorem State.latchMeans_bas_fwdSite (s : State) : (s.latchMeans).bas.fwdSite = s.bas.fwdSite := rfl
@[simp] theorem State.latchMeans_bas_fwdSent (s : State) : (s.latchMeans).bas.fwdSent = s.bas.fwdSent := rfl

/-! `State.updStage` -/
@[simp] theorem State.updStage_pending (s : State) (o : Nat) (f : Stage → Stage) : (s.updStage o f).pending = s.pending := rfl
@[simp] theorem State.updStage_now (s : State) (o : Nat) (f : Stage → Stage) : (s.updStage o f).now = s.now := rfl
@[simp] theorem State.updStage_fresh (s : State) (o : Nat) (f : Stage → Stage) : (s.updStage o f).fresh = s.fresh := rfl
@[simp] theorem State.updStage_out (s : State) (o : Nat) (f : Stage → Stage) : (s.updStage o f).out = s.out := rfl
@[simp] theorem State.updStage_mbx (s : State) (o : Nat) (f : Stage → Stage) : (s.updStage o f).mbx = s.mbx := rfl
@[simp] theorem State.updStage_par (s : State) (o : Nat) (f : Stage → Stage) : (s.updStage o f).par = s.par := rfl
@[simp] theorem State.updStage_lv (s : State) (o : Nat) (f : Stage → Stage) : (s.updStage o f).lv = s.lv := rfl
@[simp] theorem State.updStage_ring (s : State) (o : Nat) (f : Stage → Stage) : (s.updStage o f).ring = s.ring := rfl
@[simp] theorem State.updStage_bas (s : State) (o : Nat) (f : Stage → Stage) : (s.updStage o f).bas = s.bas := rfl
@[simp] theorem State.updStage_tune (s : State) (o : Nat) (f : Stage → Stage) : (s.updStage o f).tune = s.tune := rfl
@[simp] theorem State.updStage_cool (s : State) (o : Nat) (f : Stage → Stage) : (s.updStage o f).cool = s.cool := rfl
@[simp] theorem State.updStage_ses (s : State) (o : Nat) (f : Stage → Stage) : (s.updStage o f).ses = s.ses := rfl
@[simp] theorem State.updStage_met (s : State) (o : Nat) (f : Stage → Stage) : (s.updStage o f).met = s.met := rfl
@[simp] theorem State.updStage_bil (s : State) (o : Nat) (f : Stage → Stage) : (s.updStage o f).bil = s.bil := rfl
@[simp] theorem State.updStage_gau (s : State) (o : Nat) (f : Stage → Stage) : (s.updStage o f).gau = s.gau := rfl
@[simp] theorem State.updStage_pt (s : State) (o : Nat) (f : Stage → Stage) : (s.updStage o f).pt = s.pt := rfl
@[simp] theorem State.updStage_plc (s : State) (o : Nat) (f : Stage → Stage) : (s.updStage o f).plc = s.plc := rfl
@[simp] theorem State.updStage_can (s : State) (o : Nat) (f : Stage → Stage) : (s.updStage o f).can = s.can := rfl
@[simp] theorem State.updStage_obs (s : State) (o : Nat) (f : Stage → Stage) : (s.updStage o f).obs = s.obs := rfl
@[simp] theorem State.updStage_grn (s : State) (o : Nat) (f : Stage → Stage) : (s.updStage o f).grn = s.grn := rfl
@[simp] theorem State.updStage_flt (s : State) (o : Nat) (f : Stage → Stage) : (s.updStage o f).flt = s.flt := rfl
@[simp] theorem State.updStage_pair (s : State) (o : Nat) (f : Stage → Stage) : (s.updStage o f).pair = s.pair := rfl
@[simp] theorem State.updStage_sys (s : State) (o : Nat) (f : Stage → Stage) : (s.updStage o f).sys = s.sys := rfl
@[simp] theorem State.updStage_pins (s : State) (o : Nat) (f : Stage → Stage) : (s.updStage o f).pins = s.pins := rfl
@[simp] theorem State.updStage_stg_cabinets (s : State) (o : Nat) (f : Stage → Stage) : (s.updStage o f).stg.cabinets = s.stg.cabinets := rfl

/-! `State.updNode` -/
@[simp] theorem State.updNode_pending (s : State) (n : Nat) (f : Node → Node) : (s.updNode n f).pending = s.pending := rfl
@[simp] theorem State.updNode_now (s : State) (n : Nat) (f : Node → Node) : (s.updNode n f).now = s.now := rfl
@[simp] theorem State.updNode_fresh (s : State) (n : Nat) (f : Node → Node) : (s.updNode n f).fresh = s.fresh := rfl
@[simp] theorem State.updNode_out (s : State) (n : Nat) (f : Node → Node) : (s.updNode n f).out = s.out := rfl
@[simp] theorem State.updNode_mbx (s : State) (n : Nat) (f : Node → Node) : (s.updNode n f).mbx = s.mbx := rfl
@[simp] theorem State.updNode_par (s : State) (n : Nat) (f : Node → Node) : (s.updNode n f).par = s.par := rfl
@[simp] theorem State.updNode_lv (s : State) (n : Nat) (f : Node → Node) : (s.updNode n f).lv = s.lv := rfl
@[simp] theorem State.updNode_bas (s : State) (n : Nat) (f : Node → Node) : (s.updNode n f).bas = s.bas := rfl
@[simp] theorem State.updNode_tune (s : State) (n : Nat) (f : Node → Node) : (s.updNode n f).tune = s.tune := rfl
@[simp] theorem State.updNode_stg (s : State) (n : Nat) (f : Node → Node) : (s.updNode n f).stg = s.stg := rfl
@[simp] theorem State.updNode_cool (s : State) (n : Nat) (f : Node → Node) : (s.updNode n f).cool = s.cool := rfl
@[simp] theorem State.updNode_ses (s : State) (n : Nat) (f : Node → Node) : (s.updNode n f).ses = s.ses := rfl
@[simp] theorem State.updNode_met (s : State) (n : Nat) (f : Node → Node) : (s.updNode n f).met = s.met := rfl
@[simp] theorem State.updNode_bil (s : State) (n : Nat) (f : Node → Node) : (s.updNode n f).bil = s.bil := rfl
@[simp] theorem State.updNode_gau (s : State) (n : Nat) (f : Node → Node) : (s.updNode n f).gau = s.gau := rfl
@[simp] theorem State.updNode_pt (s : State) (n : Nat) (f : Node → Node) : (s.updNode n f).pt = s.pt := rfl
@[simp] theorem State.updNode_plc (s : State) (n : Nat) (f : Node → Node) : (s.updNode n f).plc = s.plc := rfl
@[simp] theorem State.updNode_can (s : State) (n : Nat) (f : Node → Node) : (s.updNode n f).can = s.can := rfl
@[simp] theorem State.updNode_obs (s : State) (n : Nat) (f : Node → Node) : (s.updNode n f).obs = s.obs := rfl
@[simp] theorem State.updNode_grn (s : State) (n : Nat) (f : Node → Node) : (s.updNode n f).grn = s.grn := rfl
@[simp] theorem State.updNode_flt (s : State) (n : Nat) (f : Node → Node) : (s.updNode n f).flt = s.flt := rfl
@[simp] theorem State.updNode_pair (s : State) (n : Nat) (f : Node → Node) : (s.updNode n f).pair = s.pair := rfl
@[simp] theorem State.updNode_sys (s : State) (n : Nat) (f : Node → Node) : (s.updNode n f).sys = s.sys := rfl
@[simp] theorem State.updNode_pins (s : State) (n : Nat) (f : Node → Node) : (s.updNode n f).pins = s.pins := rfl
@[simp] theorem State.updNode_ring_cycle (s : State) (n : Nat) (f : Node → Node) : (s.updNode n f).ring.cycle = s.ring.cycle := rfl
@[simp] theorem State.updNode_ring_window (s : State) (n : Nat) (f : Node → Node) : (s.updNode n f).ring.window = s.ring.window := rfl
@[simp] theorem State.updNode_ring_winLeft (s : State) (n : Nat) (f : Node → Node) : (s.updNode n f).ring.winLeft = s.ring.winLeft := rfl
@[simp] theorem State.updNode_ring_epoch (s : State) (n : Nat) (f : Node → Node) : (s.updNode n f).ring.epoch = s.ring.epoch := rfl
@[simp] theorem State.updNode_ring_raiseTo (s : State) (n : Nat) (f : Node → Node) : (s.updNode n f).ring.raiseTo = s.ring.raiseTo := rfl
@[simp] theorem State.updNode_ring_raiseLeft (s : State) (n : Nat) (f : Node → Node) : (s.updNode n f).ring.raiseLeft = s.ring.raiseLeft := rfl
@[simp] theorem State.updNode_ring_plan (s : State) (n : Nat) (f : Node → Node) : (s.updNode n f).ring.plan = s.ring.plan := rfl
@[simp] theorem State.updNode_ring_slotPlan (s : State) (n : Nat) (f : Node → Node) : (s.updNode n f).ring.slotPlan = s.ring.slotPlan := rfl
@[simp] theorem State.updNode_ring_skew (s : State) (n : Nat) (f : Node → Node) : (s.updNode n f).ring.skew = s.ring.skew := rfl
@[simp] theorem State.updNode_ring_moved (s : State) (n : Nat) (f : Node → Node) : (s.updNode n f).ring.moved = s.ring.moved := rfl
@[simp] theorem State.updNode_ring_scan (s : State) (n : Nat) (f : Node → Node) : (s.updNode n f).ring.scan = s.ring.scan := rfl
@[simp] theorem State.updNode_ring_enumWait (s : State) (n : Nat) (f : Node → Node) : (s.updNode n f).ring.enumWait = s.ring.enumWait := rfl
@[simp] theorem State.updNode_ring_enumRings (s : State) (n : Nat) (f : Node → Node) : (s.updNode n f).ring.enumRings = s.ring.enumRings := rfl
@[simp] theorem State.updNode_ring_queues (s : State) (n : Nat) (f : Node → Node) : (s.updNode n f).ring.queues = s.ring.queues := rfl
@[simp] theorem State.updNode_ring_enumDone (s : State) (n : Nat) (f : Node → Node) : (s.updNode n f).ring.enumDone = s.ring.enumDone := rfl
@[simp] theorem State.updNode_ring_stateA (s : State) (n : Nat) (f : Node → Node) : (s.updNode n f).ring.stateA = s.ring.stateA := rfl
@[simp] theorem State.updNode_ring_stateB (s : State) (n : Nat) (f : Node → Node) : (s.updNode n f).ring.stateB = s.ring.stateB := rfl
@[simp] theorem State.updNode_ring_openA (s : State) (n : Nat) (f : Node → Node) : (s.updNode n f).ring.openA = s.ring.openA := rfl
@[simp] theorem State.updNode_ring_openB (s : State) (n : Nat) (f : Node → Node) : (s.updNode n f).ring.openB = s.ring.openB := rfl
@[simp] theorem State.updNode_ring_ports (s : State) (n : Nat) (f : Node → Node) : (s.updNode n f).ring.ports = s.ring.ports := rfl
@[simp] theorem State.updNode_ring_plans (s : State) (n : Nat) (f : Node → Node) : (s.updNode n f).ring.plans = s.ring.plans := rfl

/-! `State.updCircuit` -/
@[simp] theorem State.updCircuit_pending (s : State) (n : Nat) (f : Circuit → Circuit) : (s.updCircuit n f).pending = s.pending := rfl
@[simp] theorem State.updCircuit_now (s : State) (n : Nat) (f : Circuit → Circuit) : (s.updCircuit n f).now = s.now := rfl
@[simp] theorem State.updCircuit_fresh (s : State) (n : Nat) (f : Circuit → Circuit) : (s.updCircuit n f).fresh = s.fresh := rfl
@[simp] theorem State.updCircuit_out (s : State) (n : Nat) (f : Circuit → Circuit) : (s.updCircuit n f).out = s.out := rfl
@[simp] theorem State.updCircuit_mbx (s : State) (n : Nat) (f : Circuit → Circuit) : (s.updCircuit n f).mbx = s.mbx := rfl
@[simp] theorem State.updCircuit_par (s : State) (n : Nat) (f : Circuit → Circuit) : (s.updCircuit n f).par = s.par := rfl
@[simp] theorem State.updCircuit_lv (s : State) (n : Nat) (f : Circuit → Circuit) : (s.updCircuit n f).lv = s.lv := rfl
@[simp] theorem State.updCircuit_ring (s : State) (n : Nat) (f : Circuit → Circuit) : (s.updCircuit n f).ring = s.ring := rfl
@[simp] theorem State.updCircuit_bas (s : State) (n : Nat) (f : Circuit → Circuit) : (s.updCircuit n f).bas = s.bas := rfl
@[simp] theorem State.updCircuit_tune (s : State) (n : Nat) (f : Circuit → Circuit) : (s.updCircuit n f).tune = s.tune := rfl
@[simp] theorem State.updCircuit_stg (s : State) (n : Nat) (f : Circuit → Circuit) : (s.updCircuit n f).stg = s.stg := rfl
@[simp] theorem State.updCircuit_ses (s : State) (n : Nat) (f : Circuit → Circuit) : (s.updCircuit n f).ses = s.ses := rfl
@[simp] theorem State.updCircuit_met (s : State) (n : Nat) (f : Circuit → Circuit) : (s.updCircuit n f).met = s.met := rfl
@[simp] theorem State.updCircuit_bil (s : State) (n : Nat) (f : Circuit → Circuit) : (s.updCircuit n f).bil = s.bil := rfl
@[simp] theorem State.updCircuit_gau (s : State) (n : Nat) (f : Circuit → Circuit) : (s.updCircuit n f).gau = s.gau := rfl
@[simp] theorem State.updCircuit_pt (s : State) (n : Nat) (f : Circuit → Circuit) : (s.updCircuit n f).pt = s.pt := rfl
@[simp] theorem State.updCircuit_plc (s : State) (n : Nat) (f : Circuit → Circuit) : (s.updCircuit n f).plc = s.plc := rfl
@[simp] theorem State.updCircuit_can (s : State) (n : Nat) (f : Circuit → Circuit) : (s.updCircuit n f).can = s.can := rfl
@[simp] theorem State.updCircuit_obs (s : State) (n : Nat) (f : Circuit → Circuit) : (s.updCircuit n f).obs = s.obs := rfl
@[simp] theorem State.updCircuit_grn (s : State) (n : Nat) (f : Circuit → Circuit) : (s.updCircuit n f).grn = s.grn := rfl
@[simp] theorem State.updCircuit_flt (s : State) (n : Nat) (f : Circuit → Circuit) : (s.updCircuit n f).flt = s.flt := rfl
@[simp] theorem State.updCircuit_pair (s : State) (n : Nat) (f : Circuit → Circuit) : (s.updCircuit n f).pair = s.pair := rfl
@[simp] theorem State.updCircuit_sys (s : State) (n : Nat) (f : Circuit → Circuit) : (s.updCircuit n f).sys = s.sys := rfl
@[simp] theorem State.updCircuit_pins (s : State) (n : Nat) (f : Circuit → Circuit) : (s.updCircuit n f).pins = s.pins := rfl
@[simp] theorem State.updCircuit_cool_recs (s : State) (n : Nat) (f : Circuit → Circuit) : (s.updCircuit n f).cool.recs = s.cool.recs := rfl
@[simp] theorem State.updCircuit_cool_fwdSamples (s : State) (n : Nat) (f : Circuit → Circuit) : (s.updCircuit n f).cool.fwdSamples = s.cool.fwdSamples := rfl
@[simp] theorem State.updCircuit_cool_fwdObserver (s : State) (n : Nat) (f : Circuit → Circuit) : (s.updCircuit n f).cool.fwdObserver = s.cool.fwdObserver := rfl

/-! `State.updLv` -/
@[simp] theorem State.updLv_pending (s : State) (n : Nat) (f : LvSlot → LvSlot) : (s.updLv n f).pending = s.pending := rfl
@[simp] theorem State.updLv_now (s : State) (n : Nat) (f : LvSlot → LvSlot) : (s.updLv n f).now = s.now := rfl
@[simp] theorem State.updLv_fresh (s : State) (n : Nat) (f : LvSlot → LvSlot) : (s.updLv n f).fresh = s.fresh := rfl
@[simp] theorem State.updLv_out (s : State) (n : Nat) (f : LvSlot → LvSlot) : (s.updLv n f).out = s.out := rfl
@[simp] theorem State.updLv_mbx (s : State) (n : Nat) (f : LvSlot → LvSlot) : (s.updLv n f).mbx = s.mbx := rfl
@[simp] theorem State.updLv_par (s : State) (n : Nat) (f : LvSlot → LvSlot) : (s.updLv n f).par = s.par := rfl
@[simp] theorem State.updLv_ring (s : State) (n : Nat) (f : LvSlot → LvSlot) : (s.updLv n f).ring = s.ring := rfl
@[simp] theorem State.updLv_bas (s : State) (n : Nat) (f : LvSlot → LvSlot) : (s.updLv n f).bas = s.bas := rfl
@[simp] theorem State.updLv_tune (s : State) (n : Nat) (f : LvSlot → LvSlot) : (s.updLv n f).tune = s.tune := rfl
@[simp] theorem State.updLv_stg (s : State) (n : Nat) (f : LvSlot → LvSlot) : (s.updLv n f).stg = s.stg := rfl
@[simp] theorem State.updLv_cool (s : State) (n : Nat) (f : LvSlot → LvSlot) : (s.updLv n f).cool = s.cool := rfl
@[simp] theorem State.updLv_ses (s : State) (n : Nat) (f : LvSlot → LvSlot) : (s.updLv n f).ses = s.ses := rfl
@[simp] theorem State.updLv_met (s : State) (n : Nat) (f : LvSlot → LvSlot) : (s.updLv n f).met = s.met := rfl
@[simp] theorem State.updLv_bil (s : State) (n : Nat) (f : LvSlot → LvSlot) : (s.updLv n f).bil = s.bil := rfl
@[simp] theorem State.updLv_gau (s : State) (n : Nat) (f : LvSlot → LvSlot) : (s.updLv n f).gau = s.gau := rfl
@[simp] theorem State.updLv_pt (s : State) (n : Nat) (f : LvSlot → LvSlot) : (s.updLv n f).pt = s.pt := rfl
@[simp] theorem State.updLv_plc (s : State) (n : Nat) (f : LvSlot → LvSlot) : (s.updLv n f).plc = s.plc := rfl
@[simp] theorem State.updLv_can (s : State) (n : Nat) (f : LvSlot → LvSlot) : (s.updLv n f).can = s.can := rfl
@[simp] theorem State.updLv_obs (s : State) (n : Nat) (f : LvSlot → LvSlot) : (s.updLv n f).obs = s.obs := rfl
@[simp] theorem State.updLv_grn (s : State) (n : Nat) (f : LvSlot → LvSlot) : (s.updLv n f).grn = s.grn := rfl
@[simp] theorem State.updLv_flt (s : State) (n : Nat) (f : LvSlot → LvSlot) : (s.updLv n f).flt = s.flt := rfl
@[simp] theorem State.updLv_pair (s : State) (n : Nat) (f : LvSlot → LvSlot) : (s.updLv n f).pair = s.pair := rfl
@[simp] theorem State.updLv_sys (s : State) (n : Nat) (f : LvSlot → LvSlot) : (s.updLv n f).sys = s.sys := rfl
@[simp] theorem State.updLv_pins (s : State) (n : Nat) (f : LvSlot → LvSlot) : (s.updLv n f).pins = s.pins := rfl
@[simp] theorem State.updLv_lv_setpoint (s : State) (n : Nat) (f : LvSlot → LvSlot) : (s.updLv n f).lv.setpoint = s.lv.setpoint := rfl
@[simp] theorem State.updLv_lv_setExpiry (s : State) (n : Nat) (f : LvSlot → LvSlot) : (s.updLv n f).lv.setExpiry = s.lv.setExpiry := rfl
@[simp] theorem State.updLv_lv_gridIn (s : State) (n : Nat) (f : LvSlot → LvSlot) : (s.updLv n f).lv.gridIn = s.lv.gridIn := rfl
@[simp] theorem State.updLv_lv_importE (s : State) (n : Nat) (f : LvSlot → LvSlot) : (s.updLv n f).lv.importE = s.lv.importE := rfl
@[simp] theorem State.updLv_lv_importKw (s : State) (n : Nat) (f : LvSlot → LvSlot) : (s.updLv n f).lv.importKw = s.lv.importKw := rfl
@[simp] theorem State.updLv_lv_bufKw (s : State) (n : Nat) (f : LvSlot → LvSlot) : (s.updLv n f).lv.bufKw = s.lv.bufKw := rfl
@[simp] theorem State.updLv_lv_overSince (s : State) (n : Nat) (f : LvSlot → LvSlot) : (s.updLv n f).lv.overSince = s.lv.overSince := rfl
@[simp] theorem State.updLv_lv_restoreSince (s : State) (n : Nat) (f : LvSlot → LvSlot) : (s.updLv n f).lv.restoreSince = s.lv.restoreSince := rfl
@[simp] theorem State.updLv_lv_pBound (s : State) (n : Nat) (f : LvSlot → LvSlot) : (s.updLv n f).lv.pBound = s.lv.pBound := rfl
@[simp] theorem State.updLv_lv_importExcess (s : State) (n : Nat) (f : LvSlot → LvSlot) : (s.updLv n f).lv.importExcess = s.lv.importExcess := rfl
@[simp] theorem State.updLv_lv_bufLimited (s : State) (n : Nat) (f : LvSlot → LvSlot) : (s.updLv n f).lv.bufLimited = s.lv.bufLimited := rfl
@[simp] theorem State.updLv_lv_availKwh (s : State) (n : Nat) (f : LvSlot → LvSlot) : (s.updLv n f).lv.availKwh = s.lv.availKwh := rfl
@[simp] theorem State.updLv_lv_d (s : State) (n : Nat) (f : LvSlot → LvSlot) : (s.updLv n f).lv.d = s.lv.d := rfl
@[simp] theorem State.updLv_lv_h (s : State) (n : Nat) (f : LvSlot → LvSlot) : (s.updLv n f).lv.h = s.lv.h := rfl
@[simp] theorem State.updLv_lv_g (s : State) (n : Nat) (f : LvSlot → LvSlot) : (s.updLv n f).lv.g = s.lv.g := rfl
@[simp] theorem State.updLv_lv_p (s : State) (n : Nat) (f : LvSlot → LvSlot) : (s.updLv n f).lv.p = s.lv.p := rfl
@[simp] theorem State.updLv_lv_b (s : State) (n : Nat) (f : LvSlot → LvSlot) : (s.updLv n f).lv.b = s.lv.b := rfl
@[simp] theorem State.updLv_lv_e (s : State) (n : Nat) (f : LvSlot → LvSlot) : (s.updLv n f).lv.e = s.lv.e := rfl
@[simp] theorem State.updLv_lv_sum (s : State) (n : Nat) (f : LvSlot → LvSlot) : (s.updLv n f).lv.sum = s.lv.sum := rfl
@[simp] theorem State.updLv_lv_residue (s : State) (n : Nat) (f : LvSlot → LvSlot) : (s.updLv n f).lv.residue = s.lv.residue := rfl
@[simp] theorem State.updLv_lv_answers (s : State) (n : Nat) (f : LvSlot → LvSlot) : (s.updLv n f).lv.answers = s.lv.answers := rfl
@[simp] theorem State.updLv_lv_arrivals (s : State) (n : Nat) (f : LvSlot → LvSlot) : (s.updLv n f).lv.arrivals = s.lv.arrivals := rfl
@[simp] theorem State.updLv_lv_coolLimit (s : State) (n : Nat) (f : LvSlot → LvSlot) : (s.updLv n f).lv.coolLimit = s.lv.coolLimit := rfl
@[simp] theorem State.updLv_lv_nextArrival (s : State) (n : Nat) (f : LvSlot → LvSlot) : (s.updLv n f).lv.nextArrival = s.lv.nextArrival := rfl
@[simp] theorem State.updLv_lv_cancelled (s : State) (n : Nat) (f : LvSlot → LvSlot) : (s.updLv n f).lv.cancelled = s.lv.cancelled := rfl
@[simp] theorem State.updLv_lv_published (s : State) (n : Nat) (f : LvSlot → LvSlot) : (s.updLv n f).lv.published = s.lv.published := rfl
@[simp] theorem State.updLv_lv_capmaps (s : State) (n : Nat) (f : LvSlot → LvSlot) : (s.updLv n f).lv.capmaps = s.lv.capmaps := rfl
@[simp] theorem State.updLv_lv_shares (s : State) (n : Nat) (f : LvSlot → LvSlot) : (s.updLv n f).lv.shares = s.lv.shares := rfl
@[simp] theorem State.updLv_lv_shareVersion (s : State) (n : Nat) (f : LvSlot → LvSlot) : (s.updLv n f).lv.shareVersion = s.lv.shareVersion := rfl
@[simp] theorem State.updLv_lv_sharePending (s : State) (n : Nat) (f : LvSlot → LvSlot) : (s.updLv n f).lv.sharePending = s.lv.sharePending := rfl
@[simp] theorem State.updLv_lv_workWait (s : State) (n : Nat) (f : LvSlot → LvSlot) : (s.updLv n f).lv.workWait = s.lv.workWait := rfl
@[simp] theorem State.updLv_lv_workGrant (s : State) (n : Nat) (f : LvSlot → LvSlot) : (s.updLv n f).lv.workGrant = s.lv.workGrant := rfl
@[simp] theorem State.updLv_lv_nextWork (s : State) (n : Nat) (f : LvSlot → LvSlot) : (s.updLv n f).lv.nextWork = s.lv.nextWork := rfl
@[simp] theorem State.updLv_lv_workHold (s : State) (n : Nat) (f : LvSlot → LvSlot) : (s.updLv n f).lv.workHold = s.lv.workHold := rfl
@[simp] theorem State.updLv_lv_fwdEvents (s : State) (n : Nat) (f : LvSlot → LvSlot) : (s.updLv n f).lv.fwdEvents = s.lv.fwdEvents := rfl

/-! `State.arrive` -/
@[simp] theorem State.arrive_pending (s : State) (r : LeaveReq) : (s.arrive r).pending = s.pending := rfl
@[simp] theorem State.arrive_now (s : State) (r : LeaveReq) : (s.arrive r).now = s.now := rfl
@[simp] theorem State.arrive_fresh (s : State) (r : LeaveReq) : (s.arrive r).fresh = s.fresh := rfl
@[simp] theorem State.arrive_out (s : State) (r : LeaveReq) : (s.arrive r).out = s.out := rfl
@[simp] theorem State.arrive_mbx (s : State) (r : LeaveReq) : (s.arrive r).mbx = s.mbx := rfl
@[simp] theorem State.arrive_par (s : State) (r : LeaveReq) : (s.arrive r).par = s.par := rfl
@[simp] theorem State.arrive_ring (s : State) (r : LeaveReq) : (s.arrive r).ring = s.ring := rfl
@[simp] theorem State.arrive_bas (s : State) (r : LeaveReq) : (s.arrive r).bas = s.bas := rfl
@[simp] theorem State.arrive_tune (s : State) (r : LeaveReq) : (s.arrive r).tune = s.tune := rfl
@[simp] theorem State.arrive_stg (s : State) (r : LeaveReq) : (s.arrive r).stg = s.stg := rfl
@[simp] theorem State.arrive_cool (s : State) (r : LeaveReq) : (s.arrive r).cool = s.cool := rfl
@[simp] theorem State.arrive_ses (s : State) (r : LeaveReq) : (s.arrive r).ses = s.ses := rfl
@[simp] theorem State.arrive_met (s : State) (r : LeaveReq) : (s.arrive r).met = s.met := rfl
@[simp] theorem State.arrive_bil (s : State) (r : LeaveReq) : (s.arrive r).bil = s.bil := rfl
@[simp] theorem State.arrive_gau (s : State) (r : LeaveReq) : (s.arrive r).gau = s.gau := rfl
@[simp] theorem State.arrive_pt (s : State) (r : LeaveReq) : (s.arrive r).pt = s.pt := rfl
@[simp] theorem State.arrive_plc (s : State) (r : LeaveReq) : (s.arrive r).plc = s.plc := rfl
@[simp] theorem State.arrive_can (s : State) (r : LeaveReq) : (s.arrive r).can = s.can := rfl
@[simp] theorem State.arrive_obs (s : State) (r : LeaveReq) : (s.arrive r).obs = s.obs := rfl
@[simp] theorem State.arrive_grn (s : State) (r : LeaveReq) : (s.arrive r).grn = s.grn := rfl
@[simp] theorem State.arrive_flt (s : State) (r : LeaveReq) : (s.arrive r).flt = s.flt := rfl
@[simp] theorem State.arrive_pair (s : State) (r : LeaveReq) : (s.arrive r).pair = s.pair := rfl
@[simp] theorem State.arrive_sys (s : State) (r : LeaveReq) : (s.arrive r).sys = s.sys := rfl
@[simp] theorem State.arrive_pins (s : State) (r : LeaveReq) : (s.arrive r).pins = s.pins := rfl
@[simp] theorem State.arrive_lv_setpoint (s : State) (r : LeaveReq) : (s.arrive r).lv.setpoint = s.lv.setpoint := rfl
@[simp] theorem State.arrive_lv_setExpiry (s : State) (r : LeaveReq) : (s.arrive r).lv.setExpiry = s.lv.setExpiry := rfl
@[simp] theorem State.arrive_lv_gridIn (s : State) (r : LeaveReq) : (s.arrive r).lv.gridIn = s.lv.gridIn := rfl
@[simp] theorem State.arrive_lv_importE (s : State) (r : LeaveReq) : (s.arrive r).lv.importE = s.lv.importE := rfl
@[simp] theorem State.arrive_lv_importKw (s : State) (r : LeaveReq) : (s.arrive r).lv.importKw = s.lv.importKw := rfl
@[simp] theorem State.arrive_lv_bufKw (s : State) (r : LeaveReq) : (s.arrive r).lv.bufKw = s.lv.bufKw := rfl
@[simp] theorem State.arrive_lv_overSince (s : State) (r : LeaveReq) : (s.arrive r).lv.overSince = s.lv.overSince := rfl
@[simp] theorem State.arrive_lv_restoreSince (s : State) (r : LeaveReq) : (s.arrive r).lv.restoreSince = s.lv.restoreSince := rfl
@[simp] theorem State.arrive_lv_pBound (s : State) (r : LeaveReq) : (s.arrive r).lv.pBound = s.lv.pBound := rfl
@[simp] theorem State.arrive_lv_importExcess (s : State) (r : LeaveReq) : (s.arrive r).lv.importExcess = s.lv.importExcess := rfl
@[simp] theorem State.arrive_lv_bufLimited (s : State) (r : LeaveReq) : (s.arrive r).lv.bufLimited = s.lv.bufLimited := rfl
@[simp] theorem State.arrive_lv_availKwh (s : State) (r : LeaveReq) : (s.arrive r).lv.availKwh = s.lv.availKwh := rfl
@[simp] theorem State.arrive_lv_d (s : State) (r : LeaveReq) : (s.arrive r).lv.d = s.lv.d := rfl
@[simp] theorem State.arrive_lv_h (s : State) (r : LeaveReq) : (s.arrive r).lv.h = s.lv.h := rfl
@[simp] theorem State.arrive_lv_g (s : State) (r : LeaveReq) : (s.arrive r).lv.g = s.lv.g := rfl
@[simp] theorem State.arrive_lv_p (s : State) (r : LeaveReq) : (s.arrive r).lv.p = s.lv.p := rfl
@[simp] theorem State.arrive_lv_b (s : State) (r : LeaveReq) : (s.arrive r).lv.b = s.lv.b := rfl
@[simp] theorem State.arrive_lv_e (s : State) (r : LeaveReq) : (s.arrive r).lv.e = s.lv.e := rfl
@[simp] theorem State.arrive_lv_sum (s : State) (r : LeaveReq) : (s.arrive r).lv.sum = s.lv.sum := rfl
@[simp] theorem State.arrive_lv_slots (s : State) (r : LeaveReq) : (s.arrive r).lv.slots = s.lv.slots := rfl
@[simp] theorem State.arrive_lv_residue (s : State) (r : LeaveReq) : (s.arrive r).lv.residue = s.lv.residue := rfl
@[simp] theorem State.arrive_lv_answers (s : State) (r : LeaveReq) : (s.arrive r).lv.answers = s.lv.answers := rfl
@[simp] theorem State.arrive_lv_coolLimit (s : State) (r : LeaveReq) : (s.arrive r).lv.coolLimit = s.lv.coolLimit := rfl
@[simp] theorem State.arrive_lv_nextArrival (s : State) (r : LeaveReq) : (s.arrive r).lv.nextArrival = s.lv.nextArrival := rfl
@[simp] theorem State.arrive_lv_cancelled (s : State) (r : LeaveReq) : (s.arrive r).lv.cancelled = s.lv.cancelled := rfl
@[simp] theorem State.arrive_lv_published (s : State) (r : LeaveReq) : (s.arrive r).lv.published = s.lv.published := rfl
@[simp] theorem State.arrive_lv_capmaps (s : State) (r : LeaveReq) : (s.arrive r).lv.capmaps = s.lv.capmaps := rfl
@[simp] theorem State.arrive_lv_shares (s : State) (r : LeaveReq) : (s.arrive r).lv.shares = s.lv.shares := rfl
@[simp] theorem State.arrive_lv_shareVersion (s : State) (r : LeaveReq) : (s.arrive r).lv.shareVersion = s.lv.shareVersion := rfl
@[simp] theorem State.arrive_lv_sharePending (s : State) (r : LeaveReq) : (s.arrive r).lv.sharePending = s.lv.sharePending := rfl
@[simp] theorem State.arrive_lv_workWait (s : State) (r : LeaveReq) : (s.arrive r).lv.workWait = s.lv.workWait := rfl
@[simp] theorem State.arrive_lv_workGrant (s : State) (r : LeaveReq) : (s.arrive r).lv.workGrant = s.lv.workGrant := rfl
@[simp] theorem State.arrive_lv_nextWork (s : State) (r : LeaveReq) : (s.arrive r).lv.nextWork = s.lv.nextWork := rfl
@[simp] theorem State.arrive_lv_workHold (s : State) (r : LeaveReq) : (s.arrive r).lv.workHold = s.lv.workHold := rfl
@[simp] theorem State.arrive_lv_fwdEvents (s : State) (r : LeaveReq) : (s.arrive r).lv.fwdEvents = s.lv.fwdEvents := rfl

/-! `State.askWork` -/
@[simp] theorem State.askWork_pending (s : State) (k : Nat) (i : Bool) (a : Nat) (w : WorkFor) : (s.askWork k i a w).pending = s.pending := rfl
@[simp] theorem State.askWork_now (s : State) (k : Nat) (i : Bool) (a : Nat) (w : WorkFor) : (s.askWork k i a w).now = s.now := rfl
@[simp] theorem State.askWork_fresh (s : State) (k : Nat) (i : Bool) (a : Nat) (w : WorkFor) : (s.askWork k i a w).fresh = s.fresh := rfl
@[simp] theorem State.askWork_out (s : State) (k : Nat) (i : Bool) (a : Nat) (w : WorkFor) : (s.askWork k i a w).out = s.out := rfl
@[simp] theorem State.askWork_mbx (s : State) (k : Nat) (i : Bool) (a : Nat) (w : WorkFor) : (s.askWork k i a w).mbx = s.mbx := rfl
@[simp] theorem State.askWork_par (s : State) (k : Nat) (i : Bool) (a : Nat) (w : WorkFor) : (s.askWork k i a w).par = s.par := rfl
@[simp] theorem State.askWork_ring (s : State) (k : Nat) (i : Bool) (a : Nat) (w : WorkFor) : (s.askWork k i a w).ring = s.ring := rfl
@[simp] theorem State.askWork_bas (s : State) (k : Nat) (i : Bool) (a : Nat) (w : WorkFor) : (s.askWork k i a w).bas = s.bas := rfl
@[simp] theorem State.askWork_tune (s : State) (k : Nat) (i : Bool) (a : Nat) (w : WorkFor) : (s.askWork k i a w).tune = s.tune := rfl
@[simp] theorem State.askWork_stg (s : State) (k : Nat) (i : Bool) (a : Nat) (w : WorkFor) : (s.askWork k i a w).stg = s.stg := rfl
@[simp] theorem State.askWork_cool (s : State) (k : Nat) (i : Bool) (a : Nat) (w : WorkFor) : (s.askWork k i a w).cool = s.cool := rfl
@[simp] theorem State.askWork_ses (s : State) (k : Nat) (i : Bool) (a : Nat) (w : WorkFor) : (s.askWork k i a w).ses = s.ses := rfl
@[simp] theorem State.askWork_met (s : State) (k : Nat) (i : Bool) (a : Nat) (w : WorkFor) : (s.askWork k i a w).met = s.met := rfl
@[simp] theorem State.askWork_bil (s : State) (k : Nat) (i : Bool) (a : Nat) (w : WorkFor) : (s.askWork k i a w).bil = s.bil := rfl
@[simp] theorem State.askWork_gau (s : State) (k : Nat) (i : Bool) (a : Nat) (w : WorkFor) : (s.askWork k i a w).gau = s.gau := rfl
@[simp] theorem State.askWork_pt (s : State) (k : Nat) (i : Bool) (a : Nat) (w : WorkFor) : (s.askWork k i a w).pt = s.pt := rfl
@[simp] theorem State.askWork_plc (s : State) (k : Nat) (i : Bool) (a : Nat) (w : WorkFor) : (s.askWork k i a w).plc = s.plc := rfl
@[simp] theorem State.askWork_can (s : State) (k : Nat) (i : Bool) (a : Nat) (w : WorkFor) : (s.askWork k i a w).can = s.can := rfl
@[simp] theorem State.askWork_obs (s : State) (k : Nat) (i : Bool) (a : Nat) (w : WorkFor) : (s.askWork k i a w).obs = s.obs := rfl
@[simp] theorem State.askWork_grn (s : State) (k : Nat) (i : Bool) (a : Nat) (w : WorkFor) : (s.askWork k i a w).grn = s.grn := rfl
@[simp] theorem State.askWork_flt (s : State) (k : Nat) (i : Bool) (a : Nat) (w : WorkFor) : (s.askWork k i a w).flt = s.flt := rfl
@[simp] theorem State.askWork_pair (s : State) (k : Nat) (i : Bool) (a : Nat) (w : WorkFor) : (s.askWork k i a w).pair = s.pair := rfl
@[simp] theorem State.askWork_sys (s : State) (k : Nat) (i : Bool) (a : Nat) (w : WorkFor) : (s.askWork k i a w).sys = s.sys := rfl
@[simp] theorem State.askWork_pins (s : State) (k : Nat) (i : Bool) (a : Nat) (w : WorkFor) : (s.askWork k i a w).pins = s.pins := rfl
@[simp] theorem State.askWork_lv_setpoint (s : State) (k : Nat) (i : Bool) (a : Nat) (w : WorkFor) : (s.askWork k i a w).lv.setpoint = s.lv.setpoint := rfl
@[simp] theorem State.askWork_lv_setExpiry (s : State) (k : Nat) (i : Bool) (a : Nat) (w : WorkFor) : (s.askWork k i a w).lv.setExpiry = s.lv.setExpiry := rfl
@[simp] theorem State.askWork_lv_gridIn (s : State) (k : Nat) (i : Bool) (a : Nat) (w : WorkFor) : (s.askWork k i a w).lv.gridIn = s.lv.gridIn := rfl
@[simp] theorem State.askWork_lv_importE (s : State) (k : Nat) (i : Bool) (a : Nat) (w : WorkFor) : (s.askWork k i a w).lv.importE = s.lv.importE := rfl
@[simp] theorem State.askWork_lv_importKw (s : State) (k : Nat) (i : Bool) (a : Nat) (w : WorkFor) : (s.askWork k i a w).lv.importKw = s.lv.importKw := rfl
@[simp] theorem State.askWork_lv_bufKw (s : State) (k : Nat) (i : Bool) (a : Nat) (w : WorkFor) : (s.askWork k i a w).lv.bufKw = s.lv.bufKw := rfl
@[simp] theorem State.askWork_lv_overSince (s : State) (k : Nat) (i : Bool) (a : Nat) (w : WorkFor) : (s.askWork k i a w).lv.overSince = s.lv.overSince := rfl
@[simp] theorem State.askWork_lv_restoreSince (s : State) (k : Nat) (i : Bool) (a : Nat) (w : WorkFor) : (s.askWork k i a w).lv.restoreSince = s.lv.restoreSince := rfl
@[simp] theorem State.askWork_lv_pBound (s : State) (k : Nat) (i : Bool) (a : Nat) (w : WorkFor) : (s.askWork k i a w).lv.pBound = s.lv.pBound := rfl
@[simp] theorem State.askWork_lv_importExcess (s : State) (k : Nat) (i : Bool) (a : Nat) (w : WorkFor) : (s.askWork k i a w).lv.importExcess = s.lv.importExcess := rfl
@[simp] theorem State.askWork_lv_bufLimited (s : State) (k : Nat) (i : Bool) (a : Nat) (w : WorkFor) : (s.askWork k i a w).lv.bufLimited = s.lv.bufLimited := rfl
@[simp] theorem State.askWork_lv_availKwh (s : State) (k : Nat) (i : Bool) (a : Nat) (w : WorkFor) : (s.askWork k i a w).lv.availKwh = s.lv.availKwh := rfl
@[simp] theorem State.askWork_lv_d (s : State) (k : Nat) (i : Bool) (a : Nat) (w : WorkFor) : (s.askWork k i a w).lv.d = s.lv.d := rfl
@[simp] theorem State.askWork_lv_h (s : State) (k : Nat) (i : Bool) (a : Nat) (w : WorkFor) : (s.askWork k i a w).lv.h = s.lv.h := rfl
@[simp] theorem State.askWork_lv_g (s : State) (k : Nat) (i : Bool) (a : Nat) (w : WorkFor) : (s.askWork k i a w).lv.g = s.lv.g := rfl
@[simp] theorem State.askWork_lv_p (s : State) (k : Nat) (i : Bool) (a : Nat) (w : WorkFor) : (s.askWork k i a w).lv.p = s.lv.p := rfl
@[simp] theorem State.askWork_lv_b (s : State) (k : Nat) (i : Bool) (a : Nat) (w : WorkFor) : (s.askWork k i a w).lv.b = s.lv.b := rfl
@[simp] theorem State.askWork_lv_e (s : State) (k : Nat) (i : Bool) (a : Nat) (w : WorkFor) : (s.askWork k i a w).lv.e = s.lv.e := rfl
@[simp] theorem State.askWork_lv_sum (s : State) (k : Nat) (i : Bool) (a : Nat) (w : WorkFor) : (s.askWork k i a w).lv.sum = s.lv.sum := rfl
@[simp] theorem State.askWork_lv_slots (s : State) (k : Nat) (i : Bool) (a : Nat) (w : WorkFor) : (s.askWork k i a w).lv.slots = s.lv.slots := rfl
@[simp] theorem State.askWork_lv_residue (s : State) (k : Nat) (i : Bool) (a : Nat) (w : WorkFor) : (s.askWork k i a w).lv.residue = s.lv.residue := rfl
@[simp] theorem State.askWork_lv_answers (s : State) (k : Nat) (i : Bool) (a : Nat) (w : WorkFor) : (s.askWork k i a w).lv.answers = s.lv.answers := rfl
@[simp] theorem State.askWork_lv_arrivals (s : State) (k : Nat) (i : Bool) (a : Nat) (w : WorkFor) : (s.askWork k i a w).lv.arrivals = s.lv.arrivals := rfl
@[simp] theorem State.askWork_lv_coolLimit (s : State) (k : Nat) (i : Bool) (a : Nat) (w : WorkFor) : (s.askWork k i a w).lv.coolLimit = s.lv.coolLimit := rfl
@[simp] theorem State.askWork_lv_nextArrival (s : State) (k : Nat) (i : Bool) (a : Nat) (w : WorkFor) : (s.askWork k i a w).lv.nextArrival = s.lv.nextArrival := rfl
@[simp] theorem State.askWork_lv_cancelled (s : State) (k : Nat) (i : Bool) (a : Nat) (w : WorkFor) : (s.askWork k i a w).lv.cancelled = s.lv.cancelled := rfl
@[simp] theorem State.askWork_lv_published (s : State) (k : Nat) (i : Bool) (a : Nat) (w : WorkFor) : (s.askWork k i a w).lv.published = s.lv.published := rfl
@[simp] theorem State.askWork_lv_capmaps (s : State) (k : Nat) (i : Bool) (a : Nat) (w : WorkFor) : (s.askWork k i a w).lv.capmaps = s.lv.capmaps := rfl
@[simp] theorem State.askWork_lv_shares (s : State) (k : Nat) (i : Bool) (a : Nat) (w : WorkFor) : (s.askWork k i a w).lv.shares = s.lv.shares := rfl
@[simp] theorem State.askWork_lv_shareVersion (s : State) (k : Nat) (i : Bool) (a : Nat) (w : WorkFor) : (s.askWork k i a w).lv.shareVersion = s.lv.shareVersion := rfl
@[simp] theorem State.askWork_lv_sharePending (s : State) (k : Nat) (i : Bool) (a : Nat) (w : WorkFor) : (s.askWork k i a w).lv.sharePending = s.lv.sharePending := rfl
@[simp] theorem State.askWork_lv_workGrant (s : State) (k : Nat) (i : Bool) (a : Nat) (w : WorkFor) : (s.askWork k i a w).lv.workGrant = s.lv.workGrant := rfl
@[simp] theorem State.askWork_lv_workHold (s : State) (k : Nat) (i : Bool) (a : Nat) (w : WorkFor) : (s.askWork k i a w).lv.workHold = s.lv.workHold := rfl
@[simp] theorem State.askWork_lv_fwdEvents (s : State) (k : Nat) (i : Bool) (a : Nat) (w : WorkFor) : (s.askWork k i a w).lv.fwdEvents = s.lv.fwdEvents := rfl

/-! `State.askHoldup` -/
@[simp] theorem State.askHoldup_pending (s : State) (i : Bool) (w : WorkFor) : (s.askHoldup i w).pending = s.pending := rfl
@[simp] theorem State.askHoldup_now (s : State) (i : Bool) (w : WorkFor) : (s.askHoldup i w).now = s.now := rfl
@[simp] theorem State.askHoldup_fresh (s : State) (i : Bool) (w : WorkFor) : (s.askHoldup i w).fresh = s.fresh := rfl
@[simp] theorem State.askHoldup_out (s : State) (i : Bool) (w : WorkFor) : (s.askHoldup i w).out = s.out := rfl
@[simp] theorem State.askHoldup_mbx (s : State) (i : Bool) (w : WorkFor) : (s.askHoldup i w).mbx = s.mbx := rfl
@[simp] theorem State.askHoldup_par (s : State) (i : Bool) (w : WorkFor) : (s.askHoldup i w).par = s.par := rfl
@[simp] theorem State.askHoldup_ring (s : State) (i : Bool) (w : WorkFor) : (s.askHoldup i w).ring = s.ring := rfl
@[simp] theorem State.askHoldup_bas (s : State) (i : Bool) (w : WorkFor) : (s.askHoldup i w).bas = s.bas := rfl
@[simp] theorem State.askHoldup_tune (s : State) (i : Bool) (w : WorkFor) : (s.askHoldup i w).tune = s.tune := rfl
@[simp] theorem State.askHoldup_stg (s : State) (i : Bool) (w : WorkFor) : (s.askHoldup i w).stg = s.stg := rfl
@[simp] theorem State.askHoldup_cool (s : State) (i : Bool) (w : WorkFor) : (s.askHoldup i w).cool = s.cool := rfl
@[simp] theorem State.askHoldup_ses (s : State) (i : Bool) (w : WorkFor) : (s.askHoldup i w).ses = s.ses := rfl
@[simp] theorem State.askHoldup_met (s : State) (i : Bool) (w : WorkFor) : (s.askHoldup i w).met = s.met := rfl
@[simp] theorem State.askHoldup_bil (s : State) (i : Bool) (w : WorkFor) : (s.askHoldup i w).bil = s.bil := rfl
@[simp] theorem State.askHoldup_gau (s : State) (i : Bool) (w : WorkFor) : (s.askHoldup i w).gau = s.gau := rfl
@[simp] theorem State.askHoldup_pt (s : State) (i : Bool) (w : WorkFor) : (s.askHoldup i w).pt = s.pt := rfl
@[simp] theorem State.askHoldup_plc (s : State) (i : Bool) (w : WorkFor) : (s.askHoldup i w).plc = s.plc := rfl
@[simp] theorem State.askHoldup_can (s : State) (i : Bool) (w : WorkFor) : (s.askHoldup i w).can = s.can := rfl
@[simp] theorem State.askHoldup_obs (s : State) (i : Bool) (w : WorkFor) : (s.askHoldup i w).obs = s.obs := rfl
@[simp] theorem State.askHoldup_grn (s : State) (i : Bool) (w : WorkFor) : (s.askHoldup i w).grn = s.grn := rfl
@[simp] theorem State.askHoldup_flt (s : State) (i : Bool) (w : WorkFor) : (s.askHoldup i w).flt = s.flt := rfl
@[simp] theorem State.askHoldup_pair (s : State) (i : Bool) (w : WorkFor) : (s.askHoldup i w).pair = s.pair := rfl
@[simp] theorem State.askHoldup_sys (s : State) (i : Bool) (w : WorkFor) : (s.askHoldup i w).sys = s.sys := rfl
@[simp] theorem State.askHoldup_pins (s : State) (i : Bool) (w : WorkFor) : (s.askHoldup i w).pins = s.pins := rfl
@[simp] theorem State.askHoldup_lv_setpoint (s : State) (i : Bool) (w : WorkFor) : (s.askHoldup i w).lv.setpoint = s.lv.setpoint := rfl
@[simp] theorem State.askHoldup_lv_setExpiry (s : State) (i : Bool) (w : WorkFor) : (s.askHoldup i w).lv.setExpiry = s.lv.setExpiry := rfl
@[simp] theorem State.askHoldup_lv_gridIn (s : State) (i : Bool) (w : WorkFor) : (s.askHoldup i w).lv.gridIn = s.lv.gridIn := rfl
@[simp] theorem State.askHoldup_lv_importE (s : State) (i : Bool) (w : WorkFor) : (s.askHoldup i w).lv.importE = s.lv.importE := rfl
@[simp] theorem State.askHoldup_lv_importKw (s : State) (i : Bool) (w : WorkFor) : (s.askHoldup i w).lv.importKw = s.lv.importKw := rfl
@[simp] theorem State.askHoldup_lv_bufKw (s : State) (i : Bool) (w : WorkFor) : (s.askHoldup i w).lv.bufKw = s.lv.bufKw := rfl
@[simp] theorem State.askHoldup_lv_overSince (s : State) (i : Bool) (w : WorkFor) : (s.askHoldup i w).lv.overSince = s.lv.overSince := rfl
@[simp] theorem State.askHoldup_lv_restoreSince (s : State) (i : Bool) (w : WorkFor) : (s.askHoldup i w).lv.restoreSince = s.lv.restoreSince := rfl
@[simp] theorem State.askHoldup_lv_pBound (s : State) (i : Bool) (w : WorkFor) : (s.askHoldup i w).lv.pBound = s.lv.pBound := rfl
@[simp] theorem State.askHoldup_lv_importExcess (s : State) (i : Bool) (w : WorkFor) : (s.askHoldup i w).lv.importExcess = s.lv.importExcess := rfl
@[simp] theorem State.askHoldup_lv_bufLimited (s : State) (i : Bool) (w : WorkFor) : (s.askHoldup i w).lv.bufLimited = s.lv.bufLimited := rfl
@[simp] theorem State.askHoldup_lv_availKwh (s : State) (i : Bool) (w : WorkFor) : (s.askHoldup i w).lv.availKwh = s.lv.availKwh := rfl
@[simp] theorem State.askHoldup_lv_d (s : State) (i : Bool) (w : WorkFor) : (s.askHoldup i w).lv.d = s.lv.d := rfl
@[simp] theorem State.askHoldup_lv_h (s : State) (i : Bool) (w : WorkFor) : (s.askHoldup i w).lv.h = s.lv.h := rfl
@[simp] theorem State.askHoldup_lv_g (s : State) (i : Bool) (w : WorkFor) : (s.askHoldup i w).lv.g = s.lv.g := rfl
@[simp] theorem State.askHoldup_lv_p (s : State) (i : Bool) (w : WorkFor) : (s.askHoldup i w).lv.p = s.lv.p := rfl
@[simp] theorem State.askHoldup_lv_b (s : State) (i : Bool) (w : WorkFor) : (s.askHoldup i w).lv.b = s.lv.b := rfl
@[simp] theorem State.askHoldup_lv_e (s : State) (i : Bool) (w : WorkFor) : (s.askHoldup i w).lv.e = s.lv.e := rfl
@[simp] theorem State.askHoldup_lv_sum (s : State) (i : Bool) (w : WorkFor) : (s.askHoldup i w).lv.sum = s.lv.sum := rfl
@[simp] theorem State.askHoldup_lv_slots (s : State) (i : Bool) (w : WorkFor) : (s.askHoldup i w).lv.slots = s.lv.slots := rfl
@[simp] theorem State.askHoldup_lv_residue (s : State) (i : Bool) (w : WorkFor) : (s.askHoldup i w).lv.residue = s.lv.residue := rfl
@[simp] theorem State.askHoldup_lv_answers (s : State) (i : Bool) (w : WorkFor) : (s.askHoldup i w).lv.answers = s.lv.answers := rfl
@[simp] theorem State.askHoldup_lv_arrivals (s : State) (i : Bool) (w : WorkFor) : (s.askHoldup i w).lv.arrivals = s.lv.arrivals := rfl
@[simp] theorem State.askHoldup_lv_coolLimit (s : State) (i : Bool) (w : WorkFor) : (s.askHoldup i w).lv.coolLimit = s.lv.coolLimit := rfl
@[simp] theorem State.askHoldup_lv_nextArrival (s : State) (i : Bool) (w : WorkFor) : (s.askHoldup i w).lv.nextArrival = s.lv.nextArrival := rfl
@[simp] theorem State.askHoldup_lv_cancelled (s : State) (i : Bool) (w : WorkFor) : (s.askHoldup i w).lv.cancelled = s.lv.cancelled := rfl
@[simp] theorem State.askHoldup_lv_published (s : State) (i : Bool) (w : WorkFor) : (s.askHoldup i w).lv.published = s.lv.published := rfl
@[simp] theorem State.askHoldup_lv_capmaps (s : State) (i : Bool) (w : WorkFor) : (s.askHoldup i w).lv.capmaps = s.lv.capmaps := rfl
@[simp] theorem State.askHoldup_lv_shares (s : State) (i : Bool) (w : WorkFor) : (s.askHoldup i w).lv.shares = s.lv.shares := rfl
@[simp] theorem State.askHoldup_lv_shareVersion (s : State) (i : Bool) (w : WorkFor) : (s.askHoldup i w).lv.shareVersion = s.lv.shareVersion := rfl
@[simp] theorem State.askHoldup_lv_sharePending (s : State) (i : Bool) (w : WorkFor) : (s.askHoldup i w).lv.sharePending = s.lv.sharePending := rfl
@[simp] theorem State.askHoldup_lv_workGrant (s : State) (i : Bool) (w : WorkFor) : (s.askHoldup i w).lv.workGrant = s.lv.workGrant := rfl
@[simp] theorem State.askHoldup_lv_workHold (s : State) (i : Bool) (w : WorkFor) : (s.askHoldup i w).lv.workHold = s.lv.workHold := rfl
@[simp] theorem State.askHoldup_lv_fwdEvents (s : State) (i : Bool) (w : WorkFor) : (s.askHoldup i w).lv.fwdEvents = s.lv.fwdEvents := rfl

/-! `State.dropWork` -/
@[simp] theorem State.dropWork_pending (s : State) (w : WorkFor) : (s.dropWork w).pending = s.pending := rfl
@[simp] theorem State.dropWork_now (s : State) (w : WorkFor) : (s.dropWork w).now = s.now := rfl
@[simp] theorem State.dropWork_fresh (s : State) (w : WorkFor) : (s.dropWork w).fresh = s.fresh := rfl
@[simp] theorem State.dropWork_out (s : State) (w : WorkFor) : (s.dropWork w).out = s.out := rfl
@[simp] theorem State.dropWork_mbx (s : State) (w : WorkFor) : (s.dropWork w).mbx = s.mbx := rfl
@[simp] theorem State.dropWork_par (s : State) (w : WorkFor) : (s.dropWork w).par = s.par := rfl
@[simp] theorem State.dropWork_ring (s : State) (w : WorkFor) : (s.dropWork w).ring = s.ring := rfl
@[simp] theorem State.dropWork_bas (s : State) (w : WorkFor) : (s.dropWork w).bas = s.bas := rfl
@[simp] theorem State.dropWork_tune (s : State) (w : WorkFor) : (s.dropWork w).tune = s.tune := rfl
@[simp] theorem State.dropWork_stg (s : State) (w : WorkFor) : (s.dropWork w).stg = s.stg := rfl
@[simp] theorem State.dropWork_cool (s : State) (w : WorkFor) : (s.dropWork w).cool = s.cool := rfl
@[simp] theorem State.dropWork_ses (s : State) (w : WorkFor) : (s.dropWork w).ses = s.ses := rfl
@[simp] theorem State.dropWork_met (s : State) (w : WorkFor) : (s.dropWork w).met = s.met := rfl
@[simp] theorem State.dropWork_bil (s : State) (w : WorkFor) : (s.dropWork w).bil = s.bil := rfl
@[simp] theorem State.dropWork_gau (s : State) (w : WorkFor) : (s.dropWork w).gau = s.gau := rfl
@[simp] theorem State.dropWork_pt (s : State) (w : WorkFor) : (s.dropWork w).pt = s.pt := rfl
@[simp] theorem State.dropWork_plc (s : State) (w : WorkFor) : (s.dropWork w).plc = s.plc := rfl
@[simp] theorem State.dropWork_can (s : State) (w : WorkFor) : (s.dropWork w).can = s.can := rfl
@[simp] theorem State.dropWork_obs (s : State) (w : WorkFor) : (s.dropWork w).obs = s.obs := rfl
@[simp] theorem State.dropWork_grn (s : State) (w : WorkFor) : (s.dropWork w).grn = s.grn := rfl
@[simp] theorem State.dropWork_flt (s : State) (w : WorkFor) : (s.dropWork w).flt = s.flt := rfl
@[simp] theorem State.dropWork_pair (s : State) (w : WorkFor) : (s.dropWork w).pair = s.pair := rfl
@[simp] theorem State.dropWork_sys (s : State) (w : WorkFor) : (s.dropWork w).sys = s.sys := rfl
@[simp] theorem State.dropWork_pins (s : State) (w : WorkFor) : (s.dropWork w).pins = s.pins := rfl
@[simp] theorem State.dropWork_lv_setpoint (s : State) (w : WorkFor) : (s.dropWork w).lv.setpoint = s.lv.setpoint := rfl
@[simp] theorem State.dropWork_lv_setExpiry (s : State) (w : WorkFor) : (s.dropWork w).lv.setExpiry = s.lv.setExpiry := rfl
@[simp] theorem State.dropWork_lv_gridIn (s : State) (w : WorkFor) : (s.dropWork w).lv.gridIn = s.lv.gridIn := rfl
@[simp] theorem State.dropWork_lv_importE (s : State) (w : WorkFor) : (s.dropWork w).lv.importE = s.lv.importE := rfl
@[simp] theorem State.dropWork_lv_importKw (s : State) (w : WorkFor) : (s.dropWork w).lv.importKw = s.lv.importKw := rfl
@[simp] theorem State.dropWork_lv_bufKw (s : State) (w : WorkFor) : (s.dropWork w).lv.bufKw = s.lv.bufKw := rfl
@[simp] theorem State.dropWork_lv_overSince (s : State) (w : WorkFor) : (s.dropWork w).lv.overSince = s.lv.overSince := rfl
@[simp] theorem State.dropWork_lv_restoreSince (s : State) (w : WorkFor) : (s.dropWork w).lv.restoreSince = s.lv.restoreSince := rfl
@[simp] theorem State.dropWork_lv_pBound (s : State) (w : WorkFor) : (s.dropWork w).lv.pBound = s.lv.pBound := rfl
@[simp] theorem State.dropWork_lv_importExcess (s : State) (w : WorkFor) : (s.dropWork w).lv.importExcess = s.lv.importExcess := rfl
@[simp] theorem State.dropWork_lv_bufLimited (s : State) (w : WorkFor) : (s.dropWork w).lv.bufLimited = s.lv.bufLimited := rfl
@[simp] theorem State.dropWork_lv_availKwh (s : State) (w : WorkFor) : (s.dropWork w).lv.availKwh = s.lv.availKwh := rfl
@[simp] theorem State.dropWork_lv_d (s : State) (w : WorkFor) : (s.dropWork w).lv.d = s.lv.d := rfl
@[simp] theorem State.dropWork_lv_h (s : State) (w : WorkFor) : (s.dropWork w).lv.h = s.lv.h := rfl
@[simp] theorem State.dropWork_lv_g (s : State) (w : WorkFor) : (s.dropWork w).lv.g = s.lv.g := rfl
@[simp] theorem State.dropWork_lv_p (s : State) (w : WorkFor) : (s.dropWork w).lv.p = s.lv.p := rfl
@[simp] theorem State.dropWork_lv_b (s : State) (w : WorkFor) : (s.dropWork w).lv.b = s.lv.b := rfl
@[simp] theorem State.dropWork_lv_e (s : State) (w : WorkFor) : (s.dropWork w).lv.e = s.lv.e := rfl
@[simp] theorem State.dropWork_lv_sum (s : State) (w : WorkFor) : (s.dropWork w).lv.sum = s.lv.sum := rfl
@[simp] theorem State.dropWork_lv_slots (s : State) (w : WorkFor) : (s.dropWork w).lv.slots = s.lv.slots := rfl
@[simp] theorem State.dropWork_lv_residue (s : State) (w : WorkFor) : (s.dropWork w).lv.residue = s.lv.residue := rfl
@[simp] theorem State.dropWork_lv_answers (s : State) (w : WorkFor) : (s.dropWork w).lv.answers = s.lv.answers := rfl
@[simp] theorem State.dropWork_lv_arrivals (s : State) (w : WorkFor) : (s.dropWork w).lv.arrivals = s.lv.arrivals := rfl
@[simp] theorem State.dropWork_lv_coolLimit (s : State) (w : WorkFor) : (s.dropWork w).lv.coolLimit = s.lv.coolLimit := rfl
@[simp] theorem State.dropWork_lv_nextArrival (s : State) (w : WorkFor) : (s.dropWork w).lv.nextArrival = s.lv.nextArrival := rfl
@[simp] theorem State.dropWork_lv_cancelled (s : State) (w : WorkFor) : (s.dropWork w).lv.cancelled = s.lv.cancelled := rfl
@[simp] theorem State.dropWork_lv_published (s : State) (w : WorkFor) : (s.dropWork w).lv.published = s.lv.published := rfl
@[simp] theorem State.dropWork_lv_capmaps (s : State) (w : WorkFor) : (s.dropWork w).lv.capmaps = s.lv.capmaps := rfl
@[simp] theorem State.dropWork_lv_shares (s : State) (w : WorkFor) : (s.dropWork w).lv.shares = s.lv.shares := rfl
@[simp] theorem State.dropWork_lv_shareVersion (s : State) (w : WorkFor) : (s.dropWork w).lv.shareVersion = s.lv.shareVersion := rfl
@[simp] theorem State.dropWork_lv_sharePending (s : State) (w : WorkFor) : (s.dropWork w).lv.sharePending = s.lv.sharePending := rfl
@[simp] theorem State.dropWork_lv_workGrant (s : State) (w : WorkFor) : (s.dropWork w).lv.workGrant = s.lv.workGrant := rfl
@[simp] theorem State.dropWork_lv_nextWork (s : State) (w : WorkFor) : (s.dropWork w).lv.nextWork = s.lv.nextWork := rfl
@[simp] theorem State.dropWork_lv_workHold (s : State) (w : WorkFor) : (s.dropWork w).lv.workHold = s.lv.workHold := rfl
@[simp] theorem State.dropWork_lv_fwdEvents (s : State) (w : WorkFor) : (s.dropWork w).lv.fwdEvents = s.lv.fwdEvents := rfl

/-! `State.endWork` -/
@[simp] theorem State.endWork_pending (s : State) (w : WorkFor) : (s.endWork w).pending = s.pending := rfl
@[simp] theorem State.endWork_now (s : State) (w : WorkFor) : (s.endWork w).now = s.now := rfl
@[simp] theorem State.endWork_fresh (s : State) (w : WorkFor) : (s.endWork w).fresh = s.fresh := rfl
@[simp] theorem State.endWork_out (s : State) (w : WorkFor) : (s.endWork w).out = s.out := rfl
@[simp] theorem State.endWork_mbx (s : State) (w : WorkFor) : (s.endWork w).mbx = s.mbx := rfl
@[simp] theorem State.endWork_par (s : State) (w : WorkFor) : (s.endWork w).par = s.par := rfl
@[simp] theorem State.endWork_ring (s : State) (w : WorkFor) : (s.endWork w).ring = s.ring := rfl
@[simp] theorem State.endWork_bas (s : State) (w : WorkFor) : (s.endWork w).bas = s.bas := rfl
@[simp] theorem State.endWork_tune (s : State) (w : WorkFor) : (s.endWork w).tune = s.tune := rfl
@[simp] theorem State.endWork_stg (s : State) (w : WorkFor) : (s.endWork w).stg = s.stg := rfl
@[simp] theorem State.endWork_cool (s : State) (w : WorkFor) : (s.endWork w).cool = s.cool := rfl
@[simp] theorem State.endWork_ses (s : State) (w : WorkFor) : (s.endWork w).ses = s.ses := rfl
@[simp] theorem State.endWork_met (s : State) (w : WorkFor) : (s.endWork w).met = s.met := rfl
@[simp] theorem State.endWork_bil (s : State) (w : WorkFor) : (s.endWork w).bil = s.bil := rfl
@[simp] theorem State.endWork_gau (s : State) (w : WorkFor) : (s.endWork w).gau = s.gau := rfl
@[simp] theorem State.endWork_pt (s : State) (w : WorkFor) : (s.endWork w).pt = s.pt := rfl
@[simp] theorem State.endWork_plc (s : State) (w : WorkFor) : (s.endWork w).plc = s.plc := rfl
@[simp] theorem State.endWork_can (s : State) (w : WorkFor) : (s.endWork w).can = s.can := rfl
@[simp] theorem State.endWork_obs (s : State) (w : WorkFor) : (s.endWork w).obs = s.obs := rfl
@[simp] theorem State.endWork_grn (s : State) (w : WorkFor) : (s.endWork w).grn = s.grn := rfl
@[simp] theorem State.endWork_flt (s : State) (w : WorkFor) : (s.endWork w).flt = s.flt := rfl
@[simp] theorem State.endWork_pair (s : State) (w : WorkFor) : (s.endWork w).pair = s.pair := rfl
@[simp] theorem State.endWork_sys (s : State) (w : WorkFor) : (s.endWork w).sys = s.sys := rfl
@[simp] theorem State.endWork_pins (s : State) (w : WorkFor) : (s.endWork w).pins = s.pins := rfl
@[simp] theorem State.endWork_lv_setpoint (s : State) (w : WorkFor) : (s.endWork w).lv.setpoint = s.lv.setpoint := rfl
@[simp] theorem State.endWork_lv_setExpiry (s : State) (w : WorkFor) : (s.endWork w).lv.setExpiry = s.lv.setExpiry := rfl
@[simp] theorem State.endWork_lv_gridIn (s : State) (w : WorkFor) : (s.endWork w).lv.gridIn = s.lv.gridIn := rfl
@[simp] theorem State.endWork_lv_importE (s : State) (w : WorkFor) : (s.endWork w).lv.importE = s.lv.importE := rfl
@[simp] theorem State.endWork_lv_importKw (s : State) (w : WorkFor) : (s.endWork w).lv.importKw = s.lv.importKw := rfl
@[simp] theorem State.endWork_lv_bufKw (s : State) (w : WorkFor) : (s.endWork w).lv.bufKw = s.lv.bufKw := rfl
@[simp] theorem State.endWork_lv_overSince (s : State) (w : WorkFor) : (s.endWork w).lv.overSince = s.lv.overSince := rfl
@[simp] theorem State.endWork_lv_restoreSince (s : State) (w : WorkFor) : (s.endWork w).lv.restoreSince = s.lv.restoreSince := rfl
@[simp] theorem State.endWork_lv_pBound (s : State) (w : WorkFor) : (s.endWork w).lv.pBound = s.lv.pBound := rfl
@[simp] theorem State.endWork_lv_importExcess (s : State) (w : WorkFor) : (s.endWork w).lv.importExcess = s.lv.importExcess := rfl
@[simp] theorem State.endWork_lv_bufLimited (s : State) (w : WorkFor) : (s.endWork w).lv.bufLimited = s.lv.bufLimited := rfl
@[simp] theorem State.endWork_lv_availKwh (s : State) (w : WorkFor) : (s.endWork w).lv.availKwh = s.lv.availKwh := rfl
@[simp] theorem State.endWork_lv_d (s : State) (w : WorkFor) : (s.endWork w).lv.d = s.lv.d := rfl
@[simp] theorem State.endWork_lv_h (s : State) (w : WorkFor) : (s.endWork w).lv.h = s.lv.h := rfl
@[simp] theorem State.endWork_lv_g (s : State) (w : WorkFor) : (s.endWork w).lv.g = s.lv.g := rfl
@[simp] theorem State.endWork_lv_p (s : State) (w : WorkFor) : (s.endWork w).lv.p = s.lv.p := rfl
@[simp] theorem State.endWork_lv_b (s : State) (w : WorkFor) : (s.endWork w).lv.b = s.lv.b := rfl
@[simp] theorem State.endWork_lv_e (s : State) (w : WorkFor) : (s.endWork w).lv.e = s.lv.e := rfl
@[simp] theorem State.endWork_lv_sum (s : State) (w : WorkFor) : (s.endWork w).lv.sum = s.lv.sum := rfl
@[simp] theorem State.endWork_lv_slots (s : State) (w : WorkFor) : (s.endWork w).lv.slots = s.lv.slots := rfl
@[simp] theorem State.endWork_lv_residue (s : State) (w : WorkFor) : (s.endWork w).lv.residue = s.lv.residue := rfl
@[simp] theorem State.endWork_lv_answers (s : State) (w : WorkFor) : (s.endWork w).lv.answers = s.lv.answers := rfl
@[simp] theorem State.endWork_lv_arrivals (s : State) (w : WorkFor) : (s.endWork w).lv.arrivals = s.lv.arrivals := rfl
@[simp] theorem State.endWork_lv_coolLimit (s : State) (w : WorkFor) : (s.endWork w).lv.coolLimit = s.lv.coolLimit := rfl
@[simp] theorem State.endWork_lv_nextArrival (s : State) (w : WorkFor) : (s.endWork w).lv.nextArrival = s.lv.nextArrival := rfl
@[simp] theorem State.endWork_lv_cancelled (s : State) (w : WorkFor) : (s.endWork w).lv.cancelled = s.lv.cancelled := rfl
@[simp] theorem State.endWork_lv_published (s : State) (w : WorkFor) : (s.endWork w).lv.published = s.lv.published := rfl
@[simp] theorem State.endWork_lv_capmaps (s : State) (w : WorkFor) : (s.endWork w).lv.capmaps = s.lv.capmaps := rfl
@[simp] theorem State.endWork_lv_shares (s : State) (w : WorkFor) : (s.endWork w).lv.shares = s.lv.shares := rfl
@[simp] theorem State.endWork_lv_shareVersion (s : State) (w : WorkFor) : (s.endWork w).lv.shareVersion = s.lv.shareVersion := rfl
@[simp] theorem State.endWork_lv_sharePending (s : State) (w : WorkFor) : (s.endWork w).lv.sharePending = s.lv.sharePending := rfl
@[simp] theorem State.endWork_lv_workWait (s : State) (w : WorkFor) : (s.endWork w).lv.workWait = s.lv.workWait := rfl
@[simp] theorem State.endWork_lv_nextWork (s : State) (w : WorkFor) : (s.endWork w).lv.nextWork = s.lv.nextWork := rfl
@[simp] theorem State.endWork_lv_workHold (s : State) (w : WorkFor) : (s.endWork w).lv.workHold = s.lv.workHold := rfl
@[simp] theorem State.endWork_lv_fwdEvents (s : State) (w : WorkFor) : (s.endWork w).lv.fwdEvents = s.lv.fwdEvents := rfl

/-! `State.setIsland` -/
@[simp] theorem State.setIsland_pending (s : State) (i : Nat) (v : Int) : (s.setIsland i v).pending = s.pending := rfl
@[simp] theorem State.setIsland_now (s : State) (i : Nat) (v : Int) : (s.setIsland i v).now = s.now := rfl
@[simp] theorem State.setIsland_fresh (s : State) (i : Nat) (v : Int) : (s.setIsland i v).fresh = s.fresh := rfl
@[simp] theorem State.setIsland_out (s : State) (i : Nat) (v : Int) : (s.setIsland i v).out = s.out := rfl
@[simp] theorem State.setIsland_mbx (s : State) (i : Nat) (v : Int) : (s.setIsland i v).mbx = s.mbx := rfl
@[simp] theorem State.setIsland_lv (s : State) (i : Nat) (v : Int) : (s.setIsland i v).lv = s.lv := rfl
@[simp] theorem State.setIsland_ring (s : State) (i : Nat) (v : Int) : (s.setIsland i v).ring = s.ring := rfl
@[simp] theorem State.setIsland_bas (s : State) (i : Nat) (v : Int) : (s.setIsland i v).bas = s.bas := rfl
@[simp] theorem State.setIsland_tune (s : State) (i : Nat) (v : Int) : (s.setIsland i v).tune = s.tune := rfl
@[simp] theorem State.setIsland_stg (s : State) (i : Nat) (v : Int) : (s.setIsland i v).stg = s.stg := rfl
@[simp] theorem State.setIsland_cool (s : State) (i : Nat) (v : Int) : (s.setIsland i v).cool = s.cool := rfl
@[simp] theorem State.setIsland_ses (s : State) (i : Nat) (v : Int) : (s.setIsland i v).ses = s.ses := rfl
@[simp] theorem State.setIsland_met (s : State) (i : Nat) (v : Int) : (s.setIsland i v).met = s.met := rfl
@[simp] theorem State.setIsland_bil (s : State) (i : Nat) (v : Int) : (s.setIsland i v).bil = s.bil := rfl
@[simp] theorem State.setIsland_gau (s : State) (i : Nat) (v : Int) : (s.setIsland i v).gau = s.gau := rfl
@[simp] theorem State.setIsland_pt (s : State) (i : Nat) (v : Int) : (s.setIsland i v).pt = s.pt := rfl
@[simp] theorem State.setIsland_plc (s : State) (i : Nat) (v : Int) : (s.setIsland i v).plc = s.plc := rfl
@[simp] theorem State.setIsland_can (s : State) (i : Nat) (v : Int) : (s.setIsland i v).can = s.can := rfl
@[simp] theorem State.setIsland_obs (s : State) (i : Nat) (v : Int) : (s.setIsland i v).obs = s.obs := rfl
@[simp] theorem State.setIsland_grn (s : State) (i : Nat) (v : Int) : (s.setIsland i v).grn = s.grn := rfl
@[simp] theorem State.setIsland_flt (s : State) (i : Nat) (v : Int) : (s.setIsland i v).flt = s.flt := rfl
@[simp] theorem State.setIsland_pair (s : State) (i : Nat) (v : Int) : (s.setIsland i v).pair = s.pair := rfl
@[simp] theorem State.setIsland_sys (s : State) (i : Nat) (v : Int) : (s.setIsland i v).sys = s.sys := rfl
@[simp] theorem State.setIsland_pins (s : State) (i : Nat) (v : Int) : (s.setIsland i v).pins = s.pins := rfl
@[simp] theorem State.setIsland_par_live (s : State) (i : Nat) (v : Int) : (s.setIsland i v).par.live = s.par.live := rfl
@[simp] theorem State.setIsland_par_running (s : State) (i : Nat) (v : Int) : (s.setIsland i v).par.running = s.par.running := rfl
@[simp] theorem State.setIsland_par_runSrc (s : State) (i : Nat) (v : Int) : (s.setIsland i v).par.runSrc = s.par.runSrc := rfl
@[simp] theorem State.setIsland_par_slotA (s : State) (i : Nat) (v : Int) : (s.setIsland i v).par.slotA = s.par.slotA := rfl
@[simp] theorem State.setIsland_par_slotB (s : State) (i : Nat) (v : Int) : (s.setIsland i v).par.slotB = s.par.slotB := rfl
@[simp] theorem State.setIsland_par_active (s : State) (i : Nat) (v : Int) : (s.setIsland i v).par.active = s.par.active := rfl
@[simp] theorem State.setIsland_par_op (s : State) (i : Nat) (v : Int) : (s.setIsland i v).par.op = s.par.op := rfl
@[simp] theorem State.setIsland_par_exportBuf (s : State) (i : Nat) (v : Int) : (s.setIsland i v).par.exportBuf = s.par.exportBuf := rfl
@[simp] theorem State.setIsland_par_importBuf (s : State) (i : Nat) (v : Int) : (s.setIsland i v).par.importBuf = s.par.importBuf := rfl
@[simp] theorem State.setIsland_par_serials (s : State) (i : Nat) (v : Int) : (s.setIsland i v).par.serials = s.par.serials := rfl
@[simp] theorem State.setIsland_par_logDram (s : State) (i : Nat) (v : Int) : (s.setIsland i v).par.logDram = s.par.logDram := rfl
@[simp] theorem State.setIsland_par_logDropped (s : State) (i : Nat) (v : Int) : (s.setIsland i v).par.logDropped = s.par.logDropped := rfl
@[simp] theorem State.setIsland_par_logNvm (s : State) (i : Nat) (v : Int) : (s.setIsland i v).par.logNvm = s.par.logNvm := rfl
@[simp] theorem State.setIsland_par_islandWait (s : State) (i : Nat) (v : Int) : (s.setIsland i v).par.islandWait = s.par.islandWait := rfl

/-! `State.setRunning` -/
@[simp] theorem State.setRunning_pending (s : State) (i : Nat) (v : Int) : (s.setRunning i v).pending = s.pending := rfl
@[simp] theorem State.setRunning_now (s : State) (i : Nat) (v : Int) : (s.setRunning i v).now = s.now := rfl
@[simp] theorem State.setRunning_fresh (s : State) (i : Nat) (v : Int) : (s.setRunning i v).fresh = s.fresh := rfl
@[simp] theorem State.setRunning_out (s : State) (i : Nat) (v : Int) : (s.setRunning i v).out = s.out := rfl
@[simp] theorem State.setRunning_mbx (s : State) (i : Nat) (v : Int) : (s.setRunning i v).mbx = s.mbx := rfl
@[simp] theorem State.setRunning_lv (s : State) (i : Nat) (v : Int) : (s.setRunning i v).lv = s.lv := rfl
@[simp] theorem State.setRunning_ring (s : State) (i : Nat) (v : Int) : (s.setRunning i v).ring = s.ring := rfl
@[simp] theorem State.setRunning_bas (s : State) (i : Nat) (v : Int) : (s.setRunning i v).bas = s.bas := rfl
@[simp] theorem State.setRunning_tune (s : State) (i : Nat) (v : Int) : (s.setRunning i v).tune = s.tune := rfl
@[simp] theorem State.setRunning_stg (s : State) (i : Nat) (v : Int) : (s.setRunning i v).stg = s.stg := rfl
@[simp] theorem State.setRunning_cool (s : State) (i : Nat) (v : Int) : (s.setRunning i v).cool = s.cool := rfl
@[simp] theorem State.setRunning_ses (s : State) (i : Nat) (v : Int) : (s.setRunning i v).ses = s.ses := rfl
@[simp] theorem State.setRunning_met (s : State) (i : Nat) (v : Int) : (s.setRunning i v).met = s.met := rfl
@[simp] theorem State.setRunning_bil (s : State) (i : Nat) (v : Int) : (s.setRunning i v).bil = s.bil := rfl
@[simp] theorem State.setRunning_gau (s : State) (i : Nat) (v : Int) : (s.setRunning i v).gau = s.gau := rfl
@[simp] theorem State.setRunning_pt (s : State) (i : Nat) (v : Int) : (s.setRunning i v).pt = s.pt := rfl
@[simp] theorem State.setRunning_plc (s : State) (i : Nat) (v : Int) : (s.setRunning i v).plc = s.plc := rfl
@[simp] theorem State.setRunning_can (s : State) (i : Nat) (v : Int) : (s.setRunning i v).can = s.can := rfl
@[simp] theorem State.setRunning_obs (s : State) (i : Nat) (v : Int) : (s.setRunning i v).obs = s.obs := rfl
@[simp] theorem State.setRunning_grn (s : State) (i : Nat) (v : Int) : (s.setRunning i v).grn = s.grn := rfl
@[simp] theorem State.setRunning_flt (s : State) (i : Nat) (v : Int) : (s.setRunning i v).flt = s.flt := rfl
@[simp] theorem State.setRunning_pair (s : State) (i : Nat) (v : Int) : (s.setRunning i v).pair = s.pair := rfl
@[simp] theorem State.setRunning_sys (s : State) (i : Nat) (v : Int) : (s.setRunning i v).sys = s.sys := rfl
@[simp] theorem State.setRunning_pins (s : State) (i : Nat) (v : Int) : (s.setRunning i v).pins = s.pins := rfl
@[simp] theorem State.setRunning_par_live (s : State) (i : Nat) (v : Int) : (s.setRunning i v).par.live = s.par.live := rfl
@[simp] theorem State.setRunning_par_runSrc (s : State) (i : Nat) (v : Int) : (s.setRunning i v).par.runSrc = s.par.runSrc := rfl
@[simp] theorem State.setRunning_par_island (s : State) (i : Nat) (v : Int) : (s.setRunning i v).par.island = s.par.island := rfl
@[simp] theorem State.setRunning_par_slotA (s : State) (i : Nat) (v : Int) : (s.setRunning i v).par.slotA = s.par.slotA := rfl
@[simp] theorem State.setRunning_par_slotB (s : State) (i : Nat) (v : Int) : (s.setRunning i v).par.slotB = s.par.slotB := rfl
@[simp] theorem State.setRunning_par_active (s : State) (i : Nat) (v : Int) : (s.setRunning i v).par.active = s.par.active := rfl
@[simp] theorem State.setRunning_par_op (s : State) (i : Nat) (v : Int) : (s.setRunning i v).par.op = s.par.op := rfl
@[simp] theorem State.setRunning_par_exportBuf (s : State) (i : Nat) (v : Int) : (s.setRunning i v).par.exportBuf = s.par.exportBuf := rfl
@[simp] theorem State.setRunning_par_importBuf (s : State) (i : Nat) (v : Int) : (s.setRunning i v).par.importBuf = s.par.importBuf := rfl
@[simp] theorem State.setRunning_par_serials (s : State) (i : Nat) (v : Int) : (s.setRunning i v).par.serials = s.par.serials := rfl
@[simp] theorem State.setRunning_par_logDram (s : State) (i : Nat) (v : Int) : (s.setRunning i v).par.logDram = s.par.logDram := rfl
@[simp] theorem State.setRunning_par_logDropped (s : State) (i : Nat) (v : Int) : (s.setRunning i v).par.logDropped = s.par.logDropped := rfl
@[simp] theorem State.setRunning_par_logNvm (s : State) (i : Nat) (v : Int) : (s.setRunning i v).par.logNvm = s.par.logNvm := rfl
@[simp] theorem State.setRunning_par_islandWait (s : State) (i : Nat) (v : Int) : (s.setRunning i v).par.islandWait = s.par.islandWait := rfl

/-! `State.dropKeys` -/
@[simp] theorem State.dropKeys_pending (s : State) (b : Nat) : (s.dropKeys b).pending = s.pending := rfl
@[simp] theorem State.dropKeys_now (s : State) (b : Nat) : (s.dropKeys b).now = s.now := rfl
@[simp] theorem State.dropKeys_fresh (s : State) (b : Nat) : (s.dropKeys b).fresh = s.fresh := rfl
@[simp] theorem State.dropKeys_out (s : State) (b : Nat) : (s.dropKeys b).out = s.out := rfl
@[simp] theorem State.dropKeys_mbx (s : State) (b : Nat) : (s.dropKeys b).mbx = s.mbx := rfl
@[simp] theorem State.dropKeys_par (s : State) (b : Nat) : (s.dropKeys b).par = s.par := rfl
@[simp] theorem State.dropKeys_lv (s : State) (b : Nat) : (s.dropKeys b).lv = s.lv := rfl
@[simp] theorem State.dropKeys_ring (s : State) (b : Nat) : (s.dropKeys b).ring = s.ring := rfl
@[simp] theorem State.dropKeys_bas (s : State) (b : Nat) : (s.dropKeys b).bas = s.bas := rfl
@[simp] theorem State.dropKeys_tune (s : State) (b : Nat) : (s.dropKeys b).tune = s.tune := rfl
@[simp] theorem State.dropKeys_stg (s : State) (b : Nat) : (s.dropKeys b).stg = s.stg := rfl
@[simp] theorem State.dropKeys_cool (s : State) (b : Nat) : (s.dropKeys b).cool = s.cool := rfl
@[simp] theorem State.dropKeys_ses (s : State) (b : Nat) : (s.dropKeys b).ses = s.ses := rfl
@[simp] theorem State.dropKeys_met (s : State) (b : Nat) : (s.dropKeys b).met = s.met := rfl
@[simp] theorem State.dropKeys_bil (s : State) (b : Nat) : (s.dropKeys b).bil = s.bil := rfl
@[simp] theorem State.dropKeys_gau (s : State) (b : Nat) : (s.dropKeys b).gau = s.gau := rfl
@[simp] theorem State.dropKeys_pt (s : State) (b : Nat) : (s.dropKeys b).pt = s.pt := rfl
@[simp] theorem State.dropKeys_plc (s : State) (b : Nat) : (s.dropKeys b).plc = s.plc := rfl
@[simp] theorem State.dropKeys_can (s : State) (b : Nat) : (s.dropKeys b).can = s.can := rfl
@[simp] theorem State.dropKeys_grn (s : State) (b : Nat) : (s.dropKeys b).grn = s.grn := rfl
@[simp] theorem State.dropKeys_flt (s : State) (b : Nat) : (s.dropKeys b).flt = s.flt := rfl
@[simp] theorem State.dropKeys_pair (s : State) (b : Nat) : (s.dropKeys b).pair = s.pair := rfl
@[simp] theorem State.dropKeys_sys (s : State) (b : Nat) : (s.dropKeys b).sys = s.sys := rfl
@[simp] theorem State.dropKeys_pins (s : State) (b : Nat) : (s.dropKeys b).pins = s.pins := rfl
@[simp] theorem State.dropKeys_obs_chain (s : State) (b : Nat) : (s.dropKeys b).obs.chain = s.obs.chain := rfl
@[simp] theorem State.dropKeys_obs_count (s : State) (b : Nat) : (s.dropKeys b).obs.count = s.obs.count := rfl
@[simp] theorem State.dropKeys_obs_lifecycle (s : State) (b : Nat) : (s.dropKeys b).obs.lifecycle = s.obs.lifecycle := rfl
@[simp] theorem State.dropKeys_obs_serviceEnd (s : State) (b : Nat) : (s.dropKeys b).obs.serviceEnd = s.obs.serviceEnd := rfl
@[simp] theorem State.dropKeys_obs_lidEn (s : State) (b : Nat) : (s.dropKeys b).obs.lidEn = s.obs.lidEn := rfl
@[simp] theorem State.dropKeys_obs_live (s : State) (b : Nat) : (s.dropKeys b).obs.live = s.obs.live := rfl
@[simp] theorem State.dropKeys_obs_meshOpen (s : State) (b : Nat) : (s.dropKeys b).obs.meshOpen = s.obs.meshOpen := rfl
@[simp] theorem State.dropKeys_obs_meshLearnt (s : State) (b : Nat) : (s.dropKeys b).obs.meshLearnt = s.obs.meshLearnt := rfl
@[simp] theorem State.dropKeys_obs_bkbat (s : State) (b : Nat) : (s.dropKeys b).obs.bkbat = s.obs.bkbat := rfl
@[simp] theorem State.dropKeys_obs_bkbatWarn (s : State) (b : Nat) : (s.dropKeys b).obs.bkbatWarn = s.obs.bkbatWarn := rfl
@[simp] theorem State.dropKeys_obs_kekCoin (s : State) (b : Nat) : (s.dropKeys b).obs.kekCoin = s.obs.kekCoin := rfl
@[simp] theorem State.dropKeys_obs_zeroised (s : State) (b : Nat) : (s.dropKeys b).obs.zeroised = s.obs.zeroised := rfl
@[simp] theorem State.dropKeys_obs_latch (s : State) (b : Nat) : (s.dropKeys b).obs.latch = s.obs.latch := rfl
@[simp] theorem State.dropKeys_obs_records (s : State) (b : Nat) : (s.dropKeys b).obs.records = s.obs.records := rfl
@[simp] theorem State.dropKeys_obs_eraseDue (s : State) (b : Nat) : (s.dropKeys b).obs.eraseDue = s.obs.eraseDue := rfl
@[simp] theorem State.dropKeys_obs_enrolled (s : State) (b : Nat) : (s.dropKeys b).obs.enrolled = s.obs.enrolled := rfl
@[simp] theorem State.dropKeys_obs_ready (s : State) (b : Nat) : (s.dropKeys b).obs.ready = s.obs.ready := rfl
@[simp] theorem State.dropKeys_obs_pairKeyed (s : State) (b : Nat) : (s.dropKeys b).obs.pairKeyed = s.obs.pairKeyed := rfl
@[simp] theorem State.dropKeys_obs_pairSlot (s : State) (b : Nat) : (s.dropKeys b).obs.pairSlot = s.obs.pairSlot := rfl
@[simp] theorem State.dropKeys_obs_work (s : State) (b : Nat) : (s.dropKeys b).obs.work = s.obs.work := rfl
@[simp] theorem State.dropKeys_obs_maskedAt (s : State) (b : Nat) : (s.dropKeys b).obs.maskedAt = s.obs.maskedAt := rfl

/-! `State.updChan` -/
@[simp] theorem State.updChan_pending (s : State) (n : Nat) (f : MetChan → MetChan) : (s.updChan n f).pending = s.pending := rfl
@[simp] theorem State.updChan_now (s : State) (n : Nat) (f : MetChan → MetChan) : (s.updChan n f).now = s.now := rfl
@[simp] theorem State.updChan_fresh (s : State) (n : Nat) (f : MetChan → MetChan) : (s.updChan n f).fresh = s.fresh := rfl
@[simp] theorem State.updChan_out (s : State) (n : Nat) (f : MetChan → MetChan) : (s.updChan n f).out = s.out := rfl
@[simp] theorem State.updChan_mbx (s : State) (n : Nat) (f : MetChan → MetChan) : (s.updChan n f).mbx = s.mbx := rfl
@[simp] theorem State.updChan_par (s : State) (n : Nat) (f : MetChan → MetChan) : (s.updChan n f).par = s.par := rfl
@[simp] theorem State.updChan_lv (s : State) (n : Nat) (f : MetChan → MetChan) : (s.updChan n f).lv = s.lv := rfl
@[simp] theorem State.updChan_ring (s : State) (n : Nat) (f : MetChan → MetChan) : (s.updChan n f).ring = s.ring := rfl
@[simp] theorem State.updChan_bas (s : State) (n : Nat) (f : MetChan → MetChan) : (s.updChan n f).bas = s.bas := rfl
@[simp] theorem State.updChan_tune (s : State) (n : Nat) (f : MetChan → MetChan) : (s.updChan n f).tune = s.tune := rfl
@[simp] theorem State.updChan_stg (s : State) (n : Nat) (f : MetChan → MetChan) : (s.updChan n f).stg = s.stg := rfl
@[simp] theorem State.updChan_cool (s : State) (n : Nat) (f : MetChan → MetChan) : (s.updChan n f).cool = s.cool := rfl
@[simp] theorem State.updChan_ses (s : State) (n : Nat) (f : MetChan → MetChan) : (s.updChan n f).ses = s.ses := rfl
@[simp] theorem State.updChan_bil (s : State) (n : Nat) (f : MetChan → MetChan) : (s.updChan n f).bil = s.bil := rfl
@[simp] theorem State.updChan_gau (s : State) (n : Nat) (f : MetChan → MetChan) : (s.updChan n f).gau = s.gau := rfl
@[simp] theorem State.updChan_pt (s : State) (n : Nat) (f : MetChan → MetChan) : (s.updChan n f).pt = s.pt := rfl
@[simp] theorem State.updChan_plc (s : State) (n : Nat) (f : MetChan → MetChan) : (s.updChan n f).plc = s.plc := rfl
@[simp] theorem State.updChan_can (s : State) (n : Nat) (f : MetChan → MetChan) : (s.updChan n f).can = s.can := rfl
@[simp] theorem State.updChan_obs (s : State) (n : Nat) (f : MetChan → MetChan) : (s.updChan n f).obs = s.obs := rfl
@[simp] theorem State.updChan_grn (s : State) (n : Nat) (f : MetChan → MetChan) : (s.updChan n f).grn = s.grn := rfl
@[simp] theorem State.updChan_flt (s : State) (n : Nat) (f : MetChan → MetChan) : (s.updChan n f).flt = s.flt := rfl
@[simp] theorem State.updChan_pair (s : State) (n : Nat) (f : MetChan → MetChan) : (s.updChan n f).pair = s.pair := rfl
@[simp] theorem State.updChan_sys (s : State) (n : Nat) (f : MetChan → MetChan) : (s.updChan n f).sys = s.sys := rfl
@[simp] theorem State.updChan_pins (s : State) (n : Nat) (f : MetChan → MetChan) : (s.updChan n f).pins = s.pins := rfl
@[simp] theorem State.updChan_met_recs (s : State) (n : Nat) (f : MetChan → MetChan) : (s.updChan n f).met.recs = s.met.recs := rfl
@[simp] theorem State.updChan_met_cals (s : State) (n : Nat) (f : MetChan → MetChan) : (s.updChan n f).met.cals = s.met.cals := rfl
@[simp] theorem State.updChan_met_calSeq (s : State) (n : Nat) (f : MetChan → MetChan) : (s.updChan n f).met.calSeq = s.met.calSeq := rfl
@[simp] theorem State.updChan_met_sealCount (s : State) (n : Nat) (f : MetChan → MetChan) : (s.updChan n f).met.sealCount = s.met.sealCount := rfl
@[simp] theorem State.updChan_met_sealEnd (s : State) (n : Nat) (f : MetChan → MetChan) : (s.updChan n f).met.sealEnd = s.met.sealEnd := rfl
@[simp] theorem State.updChan_met_stores (s : State) (n : Nat) (f : MetChan → MetChan) : (s.updChan n f).met.stores = s.met.stores := rfl
@[simp] theorem State.updChan_met_apply (s : State) (n : Nat) (f : MetChan → MetChan) : (s.updChan n f).met.apply = s.met.apply := rfl
@[simp] theorem State.updChan_met_pulses (s : State) (n : Nat) (f : MetChan → MetChan) : (s.updChan n f).met.pulses = s.met.pulses := rfl
@[simp] theorem State.updChan_met_legs (s : State) (n : Nat) (f : MetChan → MetChan) : (s.updChan n f).met.legs = s.met.legs := rfl
@[simp] theorem State.updChan_met_steps (s : State) (n : Nat) (f : MetChan → MetChan) : (s.updChan n f).met.steps = s.met.steps := rfl
@[simp] theorem State.updChan_met_calm (s : State) (n : Nat) (f : MetChan → MetChan) : (s.updChan n f).met.calm = s.met.calm := rfl
@[simp] theorem State.updChan_met_ticks (s : State) (n : Nat) (f : MetChan → MetChan) : (s.updChan n f).met.ticks = s.met.ticks := rfl
@[simp] theorem State.updChan_met_ready (s : State) (n : Nat) (f : MetChan → MetChan) : (s.updChan n f).met.ready = s.met.ready := rfl
@[simp] theorem State.updChan_met_clock (s : State) (n : Nat) (f : MetChan → MetChan) : (s.updChan n f).met.clock = s.met.clock := rfl

/-! `State.updBil` -/
@[simp] theorem State.updBil_pending (s : State) (f : BilLive → BilLive) : (s.updBil f).pending = s.pending := rfl
@[simp] theorem State.updBil_now (s : State) (f : BilLive → BilLive) : (s.updBil f).now = s.now := rfl
@[simp] theorem State.updBil_fresh (s : State) (f : BilLive → BilLive) : (s.updBil f).fresh = s.fresh := rfl
@[simp] theorem State.updBil_out (s : State) (f : BilLive → BilLive) : (s.updBil f).out = s.out := rfl
@[simp] theorem State.updBil_mbx (s : State) (f : BilLive → BilLive) : (s.updBil f).mbx = s.mbx := rfl
@[simp] theorem State.updBil_par (s : State) (f : BilLive → BilLive) : (s.updBil f).par = s.par := rfl
@[simp] theorem State.updBil_lv (s : State) (f : BilLive → BilLive) : (s.updBil f).lv = s.lv := rfl
@[simp] theorem State.updBil_ring (s : State) (f : BilLive → BilLive) : (s.updBil f).ring = s.ring := rfl
@[simp] theorem State.updBil_bas (s : State) (f : BilLive → BilLive) : (s.updBil f).bas = s.bas := rfl
@[simp] theorem State.updBil_tune (s : State) (f : BilLive → BilLive) : (s.updBil f).tune = s.tune := rfl
@[simp] theorem State.updBil_stg (s : State) (f : BilLive → BilLive) : (s.updBil f).stg = s.stg := rfl
@[simp] theorem State.updBil_cool (s : State) (f : BilLive → BilLive) : (s.updBil f).cool = s.cool := rfl
@[simp] theorem State.updBil_ses (s : State) (f : BilLive → BilLive) : (s.updBil f).ses = s.ses := rfl
@[simp] theorem State.updBil_met (s : State) (f : BilLive → BilLive) : (s.updBil f).met = s.met := rfl
@[simp] theorem State.updBil_gau (s : State) (f : BilLive → BilLive) : (s.updBil f).gau = s.gau := rfl
@[simp] theorem State.updBil_pt (s : State) (f : BilLive → BilLive) : (s.updBil f).pt = s.pt := rfl
@[simp] theorem State.updBil_plc (s : State) (f : BilLive → BilLive) : (s.updBil f).plc = s.plc := rfl
@[simp] theorem State.updBil_can (s : State) (f : BilLive → BilLive) : (s.updBil f).can = s.can := rfl
@[simp] theorem State.updBil_obs (s : State) (f : BilLive → BilLive) : (s.updBil f).obs = s.obs := rfl
@[simp] theorem State.updBil_grn (s : State) (f : BilLive → BilLive) : (s.updBil f).grn = s.grn := rfl
@[simp] theorem State.updBil_flt (s : State) (f : BilLive → BilLive) : (s.updBil f).flt = s.flt := rfl
@[simp] theorem State.updBil_pair (s : State) (f : BilLive → BilLive) : (s.updBil f).pair = s.pair := rfl
@[simp] theorem State.updBil_sys (s : State) (f : BilLive → BilLive) : (s.updBil f).sys = s.sys := rfl
@[simp] theorem State.updBil_pins (s : State) (f : BilLive → BilLive) : (s.updBil f).pins = s.pins := rfl
@[simp] theorem State.updBil_bil_journal (s : State) (f : BilLive → BilLive) : (s.updBil f).bil.journal = s.bil.journal := rfl
@[simp] theorem State.updBil_bil_tables (s : State) (f : BilLive → BilLive) : (s.updBil f).bil.tables = s.bil.tables := rfl
@[simp] theorem State.updBil_bil_assign (s : State) (f : BilLive → BilLive) : (s.updBil f).bil.assign = s.bil.assign := rfl
@[simp] theorem State.updBil_bil_assignPend (s : State) (f : BilLive → BilLive) : (s.updBil f).bil.assignPend = s.bil.assignPend := rfl
@[simp] theorem State.updBil_bil_accounts (s : State) (f : BilLive → BilLive) : (s.updBil f).bil.accounts = s.bil.accounts := rfl
@[simp] theorem State.updBil_bil_clockSets (s : State) (f : BilLive → BilLive) : (s.updBil f).bil.clockSets = s.bil.clockSets := rfl
@[simp] theorem State.updBil_bil_rtc (s : State) (f : BilLive → BilLive) : (s.updBil f).bil.rtc = s.bil.rtc := rfl
@[simp] theorem State.updBil_bil_stopped (s : State) (f : BilLive → BilLive) : (s.updBil f).bil.stopped = s.bil.stopped := rfl
@[simp] theorem State.updBil_bil_check (s : State) (f : BilLive → BilLive) : (s.updBil f).bil.check = s.bil.check := rfl
@[simp] theorem State.updBil_bil_checkOk (s : State) (f : BilLive → BilLive) : (s.updBil f).bil.checkOk = s.bil.checkOk := rfl
@[simp] theorem State.updBil_bil_warnTick (s : State) (f : BilLive → BilLive) : (s.updBil f).bil.warnTick = s.bil.warnTick := rfl
@[simp] theorem State.updBil_bil_registers (s : State) (f : BilLive → BilLive) : (s.updBil f).bil.registers = s.bil.registers := rfl
@[simp] theorem State.updBil_bil_recovered (s : State) (f : BilLive → BilLive) : (s.updBil f).bil.recovered = s.bil.recovered := rfl
@[simp] theorem State.updBil_bil_full (s : State) (f : BilLive → BilLive) : (s.updBil f).bil.full = s.bil.full := rfl
@[simp] theorem State.updBil_bil_quarter (s : State) (f : BilLive → BilLive) : (s.updBil f).bil.quarter = s.bil.quarter := rfl
@[simp] theorem State.updBil_bil_low (s : State) (f : BilLive → BilLive) : (s.updBil f).bil.low = s.bil.low := rfl
@[simp] theorem State.updBil_bil_clockHi (s : State) (f : BilLive → BilLive) : (s.updBil f).bil.clockHi = s.bil.clockHi := rfl

/-! `State.updReg` -/
@[simp] theorem State.updReg_pending (s : State) (n : Nat) (f : ChanReg → ChanReg) : (s.updReg n f).pending = s.pending := rfl
@[simp] theorem State.updReg_now (s : State) (n : Nat) (f : ChanReg → ChanReg) : (s.updReg n f).now = s.now := rfl
@[simp] theorem State.updReg_fresh (s : State) (n : Nat) (f : ChanReg → ChanReg) : (s.updReg n f).fresh = s.fresh := rfl
@[simp] theorem State.updReg_out (s : State) (n : Nat) (f : ChanReg → ChanReg) : (s.updReg n f).out = s.out := rfl
@[simp] theorem State.updReg_mbx (s : State) (n : Nat) (f : ChanReg → ChanReg) : (s.updReg n f).mbx = s.mbx := rfl
@[simp] theorem State.updReg_par (s : State) (n : Nat) (f : ChanReg → ChanReg) : (s.updReg n f).par = s.par := rfl
@[simp] theorem State.updReg_lv (s : State) (n : Nat) (f : ChanReg → ChanReg) : (s.updReg n f).lv = s.lv := rfl
@[simp] theorem State.updReg_ring (s : State) (n : Nat) (f : ChanReg → ChanReg) : (s.updReg n f).ring = s.ring := rfl
@[simp] theorem State.updReg_bas (s : State) (n : Nat) (f : ChanReg → ChanReg) : (s.updReg n f).bas = s.bas := rfl
@[simp] theorem State.updReg_tune (s : State) (n : Nat) (f : ChanReg → ChanReg) : (s.updReg n f).tune = s.tune := rfl
@[simp] theorem State.updReg_stg (s : State) (n : Nat) (f : ChanReg → ChanReg) : (s.updReg n f).stg = s.stg := rfl
@[simp] theorem State.updReg_cool (s : State) (n : Nat) (f : ChanReg → ChanReg) : (s.updReg n f).cool = s.cool := rfl
@[simp] theorem State.updReg_ses (s : State) (n : Nat) (f : ChanReg → ChanReg) : (s.updReg n f).ses = s.ses := rfl
@[simp] theorem State.updReg_met (s : State) (n : Nat) (f : ChanReg → ChanReg) : (s.updReg n f).met = s.met := rfl
@[simp] theorem State.updReg_gau (s : State) (n : Nat) (f : ChanReg → ChanReg) : (s.updReg n f).gau = s.gau := rfl
@[simp] theorem State.updReg_pt (s : State) (n : Nat) (f : ChanReg → ChanReg) : (s.updReg n f).pt = s.pt := rfl
@[simp] theorem State.updReg_plc (s : State) (n : Nat) (f : ChanReg → ChanReg) : (s.updReg n f).plc = s.plc := rfl
@[simp] theorem State.updReg_can (s : State) (n : Nat) (f : ChanReg → ChanReg) : (s.updReg n f).can = s.can := rfl
@[simp] theorem State.updReg_obs (s : State) (n : Nat) (f : ChanReg → ChanReg) : (s.updReg n f).obs = s.obs := rfl
@[simp] theorem State.updReg_grn (s : State) (n : Nat) (f : ChanReg → ChanReg) : (s.updReg n f).grn = s.grn := rfl
@[simp] theorem State.updReg_flt (s : State) (n : Nat) (f : ChanReg → ChanReg) : (s.updReg n f).flt = s.flt := rfl
@[simp] theorem State.updReg_pair (s : State) (n : Nat) (f : ChanReg → ChanReg) : (s.updReg n f).pair = s.pair := rfl
@[simp] theorem State.updReg_sys (s : State) (n : Nat) (f : ChanReg → ChanReg) : (s.updReg n f).sys = s.sys := rfl
@[simp] theorem State.updReg_pins (s : State) (n : Nat) (f : ChanReg → ChanReg) : (s.updReg n f).pins = s.pins := rfl
@[simp] theorem State.updReg_bil_journal (s : State) (n : Nat) (f : ChanReg → ChanReg) : (s.updReg n f).bil.journal = s.bil.journal := rfl
@[simp] theorem State.updReg_bil_tables (s : State) (n : Nat) (f : ChanReg → ChanReg) : (s.updReg n f).bil.tables = s.bil.tables := rfl
@[simp] theorem State.updReg_bil_assign (s : State) (n : Nat) (f : ChanReg → ChanReg) : (s.updReg n f).bil.assign = s.bil.assign := rfl
@[simp] theorem State.updReg_bil_assignPend (s : State) (n : Nat) (f : ChanReg → ChanReg) : (s.updReg n f).bil.assignPend = s.bil.assignPend := rfl
@[simp] theorem State.updReg_bil_accounts (s : State) (n : Nat) (f : ChanReg → ChanReg) : (s.updReg n f).bil.accounts = s.bil.accounts := rfl
@[simp] theorem State.updReg_bil_clockSets (s : State) (n : Nat) (f : ChanReg → ChanReg) : (s.updReg n f).bil.clockSets = s.bil.clockSets := rfl
@[simp] theorem State.updReg_bil_rtc (s : State) (n : Nat) (f : ChanReg → ChanReg) : (s.updReg n f).bil.rtc = s.bil.rtc := rfl
@[simp] theorem State.updReg_bil_stopped (s : State) (n : Nat) (f : ChanReg → ChanReg) : (s.updReg n f).bil.stopped = s.bil.stopped := rfl
@[simp] theorem State.updReg_bil_check (s : State) (n : Nat) (f : ChanReg → ChanReg) : (s.updReg n f).bil.check = s.bil.check := rfl
@[simp] theorem State.updReg_bil_checkOk (s : State) (n : Nat) (f : ChanReg → ChanReg) : (s.updReg n f).bil.checkOk = s.bil.checkOk := rfl
@[simp] theorem State.updReg_bil_warnTick (s : State) (n : Nat) (f : ChanReg → ChanReg) : (s.updReg n f).bil.warnTick = s.bil.warnTick := rfl
@[simp] theorem State.updReg_bil_registers (s : State) (n : Nat) (f : ChanReg → ChanReg) : (s.updReg n f).bil.registers = s.bil.registers := rfl
@[simp] theorem State.updReg_bil_recovered (s : State) (n : Nat) (f : ChanReg → ChanReg) : (s.updReg n f).bil.recovered = s.bil.recovered := rfl
@[simp] theorem State.updReg_bil_full (s : State) (n : Nat) (f : ChanReg → ChanReg) : (s.updReg n f).bil.full = s.bil.full := rfl
@[simp] theorem State.updReg_bil_quarter (s : State) (n : Nat) (f : ChanReg → ChanReg) : (s.updReg n f).bil.quarter = s.bil.quarter := rfl
@[simp] theorem State.updReg_bil_low (s : State) (n : Nat) (f : ChanReg → ChanReg) : (s.updReg n f).bil.low = s.bil.low := rfl
@[simp] theorem State.updReg_bil_clockHi (s : State) (n : Nat) (f : ChanReg → ChanReg) : (s.updReg n f).bil.clockHi = s.bil.clockHi := rfl

/-! `State.updCan` -/
@[simp] theorem State.updCan_pending (s : State) (n : Nat) (f : CanCtl → CanCtl) : (s.updCan n f).pending = s.pending := rfl
@[simp] theorem State.updCan_now (s : State) (n : Nat) (f : CanCtl → CanCtl) : (s.updCan n f).now = s.now := rfl
@[simp] theorem State.updCan_fresh (s : State) (n : Nat) (f : CanCtl → CanCtl) : (s.updCan n f).fresh = s.fresh := rfl
@[simp] theorem State.updCan_out (s : State) (n : Nat) (f : CanCtl → CanCtl) : (s.updCan n f).out = s.out := rfl
@[simp] theorem State.updCan_mbx (s : State) (n : Nat) (f : CanCtl → CanCtl) : (s.updCan n f).mbx = s.mbx := rfl
@[simp] theorem State.updCan_par (s : State) (n : Nat) (f : CanCtl → CanCtl) : (s.updCan n f).par = s.par := rfl
@[simp] theorem State.updCan_lv (s : State) (n : Nat) (f : CanCtl → CanCtl) : (s.updCan n f).lv = s.lv := rfl
@[simp] theorem State.updCan_ring (s : State) (n : Nat) (f : CanCtl → CanCtl) : (s.updCan n f).ring = s.ring := rfl
@[simp] theorem State.updCan_bas (s : State) (n : Nat) (f : CanCtl → CanCtl) : (s.updCan n f).bas = s.bas := rfl
@[simp] theorem State.updCan_tune (s : State) (n : Nat) (f : CanCtl → CanCtl) : (s.updCan n f).tune = s.tune := rfl
@[simp] theorem State.updCan_stg (s : State) (n : Nat) (f : CanCtl → CanCtl) : (s.updCan n f).stg = s.stg := rfl
@[simp] theorem State.updCan_cool (s : State) (n : Nat) (f : CanCtl → CanCtl) : (s.updCan n f).cool = s.cool := rfl
@[simp] theorem State.updCan_ses (s : State) (n : Nat) (f : CanCtl → CanCtl) : (s.updCan n f).ses = s.ses := rfl
@[simp] theorem State.updCan_met (s : State) (n : Nat) (f : CanCtl → CanCtl) : (s.updCan n f).met = s.met := rfl
@[simp] theorem State.updCan_bil (s : State) (n : Nat) (f : CanCtl → CanCtl) : (s.updCan n f).bil = s.bil := rfl
@[simp] theorem State.updCan_gau (s : State) (n : Nat) (f : CanCtl → CanCtl) : (s.updCan n f).gau = s.gau := rfl
@[simp] theorem State.updCan_pt (s : State) (n : Nat) (f : CanCtl → CanCtl) : (s.updCan n f).pt = s.pt := rfl
@[simp] theorem State.updCan_plc (s : State) (n : Nat) (f : CanCtl → CanCtl) : (s.updCan n f).plc = s.plc := rfl
@[simp] theorem State.updCan_obs (s : State) (n : Nat) (f : CanCtl → CanCtl) : (s.updCan n f).obs = s.obs := rfl
@[simp] theorem State.updCan_grn (s : State) (n : Nat) (f : CanCtl → CanCtl) : (s.updCan n f).grn = s.grn := rfl
@[simp] theorem State.updCan_flt (s : State) (n : Nat) (f : CanCtl → CanCtl) : (s.updCan n f).flt = s.flt := rfl
@[simp] theorem State.updCan_pair (s : State) (n : Nat) (f : CanCtl → CanCtl) : (s.updCan n f).pair = s.pair := rfl
@[simp] theorem State.updCan_sys (s : State) (n : Nat) (f : CanCtl → CanCtl) : (s.updCan n f).sys = s.sys := rfl
@[simp] theorem State.updCan_pins (s : State) (n : Nat) (f : CanCtl → CanCtl) : (s.updCan n f).pins = s.pins := rfl
@[simp] theorem State.updCan_can_start (s : State) (n : Nat) (f : CanCtl → CanCtl) : (s.updCan n f).can.start = s.can.start := rfl
@[simp] theorem State.updCan_can_wrap (s : State) (n : Nat) (f : CanCtl → CanCtl) : (s.updCan n f).can.wrap = s.can.wrap := rfl
@[simp] theorem State.updCan_can_wraps (s : State) (n : Nat) (f : CanCtl → CanCtl) : (s.updCan n f).can.wraps = s.can.wraps := rfl
@[simp] theorem State.updCan_can_latch (s : State) (n : Nat) (f : CanCtl → CanCtl) : (s.updCan n f).can.latch = s.can.latch := rfl
@[simp] theorem State.updCan_can_latchWrap (s : State) (n : Nat) (f : CanCtl → CanCtl) : (s.updCan n f).can.latchWrap = s.can.latchWrap := rfl
@[simp] theorem State.updCan_can_latchAt (s : State) (n : Nat) (f : CanCtl → CanCtl) : (s.updCan n f).can.latchAt = s.can.latchAt := rfl
@[simp] theorem State.updCan_can_gaugeTiming (s : State) (n : Nat) (f : CanCtl → CanCtl) : (s.updCan n f).can.gaugeTiming = s.can.gaugeTiming := rfl
@[simp] theorem State.updCan_can_gaugeWanted (s : State) (n : Nat) (f : CanCtl → CanCtl) : (s.updCan n f).can.gaugeWanted = s.can.gaugeWanted := rfl

/-! `State.updIn` -/
@[simp] theorem State.updIn_pending (s : State) (n : Nat) (f : GrnIn → GrnIn) : (s.updIn n f).pending = s.pending := rfl
@[simp] theorem State.updIn_now (s : State) (n : Nat) (f : GrnIn → GrnIn) : (s.updIn n f).now = s.now := rfl
@[simp] theorem State.updIn_fresh (s : State) (n : Nat) (f : GrnIn → GrnIn) : (s.updIn n f).fresh = s.fresh := rfl
@[simp] theorem State.updIn_out (s : State) (n : Nat) (f : GrnIn → GrnIn) : (s.updIn n f).out = s.out := rfl
@[simp] theorem State.updIn_mbx (s : State) (n : Nat) (f : GrnIn → GrnIn) : (s.updIn n f).mbx = s.mbx := rfl
@[simp] theorem State.updIn_par (s : State) (n : Nat) (f : GrnIn → GrnIn) : (s.updIn n f).par = s.par := rfl
@[simp] theorem State.updIn_lv (s : State) (n : Nat) (f : GrnIn → GrnIn) : (s.updIn n f).lv = s.lv := rfl
@[simp] theorem State.updIn_ring (s : State) (n : Nat) (f : GrnIn → GrnIn) : (s.updIn n f).ring = s.ring := rfl
@[simp] theorem State.updIn_bas (s : State) (n : Nat) (f : GrnIn → GrnIn) : (s.updIn n f).bas = s.bas := rfl
@[simp] theorem State.updIn_tune (s : State) (n : Nat) (f : GrnIn → GrnIn) : (s.updIn n f).tune = s.tune := rfl
@[simp] theorem State.updIn_stg (s : State) (n : Nat) (f : GrnIn → GrnIn) : (s.updIn n f).stg = s.stg := rfl
@[simp] theorem State.updIn_cool (s : State) (n : Nat) (f : GrnIn → GrnIn) : (s.updIn n f).cool = s.cool := rfl
@[simp] theorem State.updIn_ses (s : State) (n : Nat) (f : GrnIn → GrnIn) : (s.updIn n f).ses = s.ses := rfl
@[simp] theorem State.updIn_met (s : State) (n : Nat) (f : GrnIn → GrnIn) : (s.updIn n f).met = s.met := rfl
@[simp] theorem State.updIn_bil (s : State) (n : Nat) (f : GrnIn → GrnIn) : (s.updIn n f).bil = s.bil := rfl
@[simp] theorem State.updIn_gau (s : State) (n : Nat) (f : GrnIn → GrnIn) : (s.updIn n f).gau = s.gau := rfl
@[simp] theorem State.updIn_pt (s : State) (n : Nat) (f : GrnIn → GrnIn) : (s.updIn n f).pt = s.pt := rfl
@[simp] theorem State.updIn_plc (s : State) (n : Nat) (f : GrnIn → GrnIn) : (s.updIn n f).plc = s.plc := rfl
@[simp] theorem State.updIn_can (s : State) (n : Nat) (f : GrnIn → GrnIn) : (s.updIn n f).can = s.can := rfl
@[simp] theorem State.updIn_obs (s : State) (n : Nat) (f : GrnIn → GrnIn) : (s.updIn n f).obs = s.obs := rfl
@[simp] theorem State.updIn_flt (s : State) (n : Nat) (f : GrnIn → GrnIn) : (s.updIn n f).flt = s.flt := rfl
@[simp] theorem State.updIn_pair (s : State) (n : Nat) (f : GrnIn → GrnIn) : (s.updIn n f).pair = s.pair := rfl
@[simp] theorem State.updIn_sys (s : State) (n : Nat) (f : GrnIn → GrnIn) : (s.updIn n f).sys = s.sys := rfl
@[simp] theorem State.updIn_pins (s : State) (n : Nat) (f : GrnIn → GrnIn) : (s.updIn n f).pins = s.pins := rfl
@[simp] theorem State.updIn_grn_image (s : State) (n : Nat) (f : GrnIn → GrnIn) : (s.updIn n f).grn.image = s.grn.image := rfl
@[simp] theorem State.updIn_grn_pendingImg (s : State) (n : Nat) (f : GrnIn → GrnIn) : (s.updIn n f).grn.pendingImg = s.grn.pendingImg := rfl
@[simp] theorem State.updIn_grn_outputs (s : State) (n : Nat) (f : GrnIn → GrnIn) : (s.updIn n f).grn.outputs = s.grn.outputs := rfl
@[simp] theorem State.updIn_grn_locks (s : State) (n : Nat) (f : GrnIn → GrnIn) : (s.updIn n f).grn.locks = s.grn.locks := rfl
@[simp] theorem State.updIn_grn_present (s : State) (n : Nat) (f : GrnIn → GrnIn) : (s.updIn n f).grn.present = s.grn.present := rfl
@[simp] theorem State.updIn_grn_conns (s : State) (n : Nat) (f : GrnIn → GrnIn) : (s.updIn n f).grn.conns = s.grn.conns := rfl
@[simp] theorem State.updIn_grn_arm (s : State) (n : Nat) (f : GrnIn → GrnIn) : (s.updIn n f).grn.arm = s.grn.arm := rfl
@[simp] theorem State.updIn_grn_commit (s : State) (n : Nat) (f : GrnIn → GrnIn) : (s.updIn n f).grn.commit = s.grn.commit := rfl
@[simp] theorem State.updIn_grn_safeState (s : State) (n : Nat) (f : GrnIn → GrnIn) : (s.updIn n f).grn.safeState = s.grn.safeState := rfl
@[simp] theorem State.updIn_grn_halted (s : State) (n : Nat) (f : GrnIn → GrnIn) : (s.updIn n f).grn.halted = s.grn.halted := rfl
@[simp] theorem State.updIn_grn_clockFails (s : State) (n : Nat) (f : GrnIn → GrnIn) : (s.updIn n f).grn.clockFails = s.grn.clockFails := rfl
@[simp] theorem State.updIn_grn_tooLong (s : State) (n : Nat) (f : GrnIn → GrnIn) : (s.updIn n f).grn.tooLong = s.grn.tooLong := rfl
@[simp] theorem State.updIn_grn_cleared (s : State) (n : Nat) (f : GrnIn → GrnIn) : (s.updIn n f).grn.cleared = s.grn.cleared := rfl
@[simp] theorem State.updIn_grn_ready (s : State) (n : Nat) (f : GrnIn → GrnIn) : (s.updIn n f).grn.ready = s.grn.ready := rfl

/-! `State.updOut` -/
@[simp] theorem State.updOut_pending (s : State) (n : Nat) (f : GrnOut → GrnOut) : (s.updOut n f).pending = s.pending := rfl
@[simp] theorem State.updOut_now (s : State) (n : Nat) (f : GrnOut → GrnOut) : (s.updOut n f).now = s.now := rfl
@[simp] theorem State.updOut_fresh (s : State) (n : Nat) (f : GrnOut → GrnOut) : (s.updOut n f).fresh = s.fresh := rfl
@[simp] theorem State.updOut_out (s : State) (n : Nat) (f : GrnOut → GrnOut) : (s.updOut n f).out = s.out := rfl
@[simp] theorem State.updOut_mbx (s : State) (n : Nat) (f : GrnOut → GrnOut) : (s.updOut n f).mbx = s.mbx := rfl
@[simp] theorem State.updOut_par (s : State) (n : Nat) (f : GrnOut → GrnOut) : (s.updOut n f).par = s.par := rfl
@[simp] theorem State.updOut_lv (s : State) (n : Nat) (f : GrnOut → GrnOut) : (s.updOut n f).lv = s.lv := rfl
@[simp] theorem State.updOut_ring (s : State) (n : Nat) (f : GrnOut → GrnOut) : (s.updOut n f).ring = s.ring := rfl
@[simp] theorem State.updOut_bas (s : State) (n : Nat) (f : GrnOut → GrnOut) : (s.updOut n f).bas = s.bas := rfl
@[simp] theorem State.updOut_tune (s : State) (n : Nat) (f : GrnOut → GrnOut) : (s.updOut n f).tune = s.tune := rfl
@[simp] theorem State.updOut_stg (s : State) (n : Nat) (f : GrnOut → GrnOut) : (s.updOut n f).stg = s.stg := rfl
@[simp] theorem State.updOut_cool (s : State) (n : Nat) (f : GrnOut → GrnOut) : (s.updOut n f).cool = s.cool := rfl
@[simp] theorem State.updOut_ses (s : State) (n : Nat) (f : GrnOut → GrnOut) : (s.updOut n f).ses = s.ses := rfl
@[simp] theorem State.updOut_met (s : State) (n : Nat) (f : GrnOut → GrnOut) : (s.updOut n f).met = s.met := rfl
@[simp] theorem State.updOut_bil (s : State) (n : Nat) (f : GrnOut → GrnOut) : (s.updOut n f).bil = s.bil := rfl
@[simp] theorem State.updOut_gau (s : State) (n : Nat) (f : GrnOut → GrnOut) : (s.updOut n f).gau = s.gau := rfl
@[simp] theorem State.updOut_pt (s : State) (n : Nat) (f : GrnOut → GrnOut) : (s.updOut n f).pt = s.pt := rfl
@[simp] theorem State.updOut_plc (s : State) (n : Nat) (f : GrnOut → GrnOut) : (s.updOut n f).plc = s.plc := rfl
@[simp] theorem State.updOut_can (s : State) (n : Nat) (f : GrnOut → GrnOut) : (s.updOut n f).can = s.can := rfl
@[simp] theorem State.updOut_obs (s : State) (n : Nat) (f : GrnOut → GrnOut) : (s.updOut n f).obs = s.obs := rfl
@[simp] theorem State.updOut_flt (s : State) (n : Nat) (f : GrnOut → GrnOut) : (s.updOut n f).flt = s.flt := rfl
@[simp] theorem State.updOut_pair (s : State) (n : Nat) (f : GrnOut → GrnOut) : (s.updOut n f).pair = s.pair := rfl
@[simp] theorem State.updOut_sys (s : State) (n : Nat) (f : GrnOut → GrnOut) : (s.updOut n f).sys = s.sys := rfl
@[simp] theorem State.updOut_pins (s : State) (n : Nat) (f : GrnOut → GrnOut) : (s.updOut n f).pins = s.pins := rfl
@[simp] theorem State.updOut_grn_image (s : State) (n : Nat) (f : GrnOut → GrnOut) : (s.updOut n f).grn.image = s.grn.image := rfl
@[simp] theorem State.updOut_grn_pendingImg (s : State) (n : Nat) (f : GrnOut → GrnOut) : (s.updOut n f).grn.pendingImg = s.grn.pendingImg := rfl
@[simp] theorem State.updOut_grn_inputs (s : State) (n : Nat) (f : GrnOut → GrnOut) : (s.updOut n f).grn.inputs = s.grn.inputs := rfl
@[simp] theorem State.updOut_grn_locks (s : State) (n : Nat) (f : GrnOut → GrnOut) : (s.updOut n f).grn.locks = s.grn.locks := rfl
@[simp] theorem State.updOut_grn_present (s : State) (n : Nat) (f : GrnOut → GrnOut) : (s.updOut n f).grn.present = s.grn.present := rfl
@[simp] theorem State.updOut_grn_conns (s : State) (n : Nat) (f : GrnOut → GrnOut) : (s.updOut n f).grn.conns = s.grn.conns := rfl
@[simp] theorem State.updOut_grn_arm (s : State) (n : Nat) (f : GrnOut → GrnOut) : (s.updOut n f).grn.arm = s.grn.arm := rfl
@[simp] theorem State.updOut_grn_commit (s : State) (n : Nat) (f : GrnOut → GrnOut) : (s.updOut n f).grn.commit = s.grn.commit := rfl
@[simp] theorem State.updOut_grn_safeState (s : State) (n : Nat) (f : GrnOut → GrnOut) : (s.updOut n f).grn.safeState = s.grn.safeState := rfl
@[simp] theorem State.updOut_grn_halted (s : State) (n : Nat) (f : GrnOut → GrnOut) : (s.updOut n f).grn.halted = s.grn.halted := rfl
@[simp] theorem State.updOut_grn_clockFails (s : State) (n : Nat) (f : GrnOut → GrnOut) : (s.updOut n f).grn.clockFails = s.grn.clockFails := rfl
@[simp] theorem State.updOut_grn_tooLong (s : State) (n : Nat) (f : GrnOut → GrnOut) : (s.updOut n f).grn.tooLong = s.grn.tooLong := rfl
@[simp] theorem State.updOut_grn_cleared (s : State) (n : Nat) (f : GrnOut → GrnOut) : (s.updOut n f).grn.cleared = s.grn.cleared := rfl
@[simp] theorem State.updOut_grn_ready (s : State) (n : Nat) (f : GrnOut → GrnOut) : (s.updOut n f).grn.ready = s.grn.ready := rfl

/-! `State.updConn` -/
@[simp] theorem State.updConn_pending (s : State) (n : Nat) (f : GrnConn → GrnConn) : (s.updConn n f).pending = s.pending := rfl
@[simp] theorem State.updConn_now (s : State) (n : Nat) (f : GrnConn → GrnConn) : (s.updConn n f).now = s.now := rfl
@[simp] theorem State.updConn_fresh (s : State) (n : Nat) (f : GrnConn → GrnConn) : (s.updConn n f).fresh = s.fresh := rfl
@[simp] theorem State.updConn_out (s : State) (n : Nat) (f : GrnConn → GrnConn) : (s.updConn n f).out = s.out := rfl
@[simp] theorem State.updConn_mbx (s : State) (n : Nat) (f : GrnConn → GrnConn) : (s.updConn n f).mbx = s.mbx := rfl
@[simp] theorem State.updConn_par (s : State) (n : Nat) (f : GrnConn → GrnConn) : (s.updConn n f).par = s.par := rfl
@[simp] theorem State.updConn_lv (s : State) (n : Nat) (f : GrnConn → GrnConn) : (s.updConn n f).lv = s.lv := rfl
@[simp] theorem State.updConn_ring (s : State) (n : Nat) (f : GrnConn → GrnConn) : (s.updConn n f).ring = s.ring := rfl
@[simp] theorem State.updConn_bas (s : State) (n : Nat) (f : GrnConn → GrnConn) : (s.updConn n f).bas = s.bas := rfl
@[simp] theorem State.updConn_tune (s : State) (n : Nat) (f : GrnConn → GrnConn) : (s.updConn n f).tune = s.tune := rfl
@[simp] theorem State.updConn_stg (s : State) (n : Nat) (f : GrnConn → GrnConn) : (s.updConn n f).stg = s.stg := rfl
@[simp] theorem State.updConn_cool (s : State) (n : Nat) (f : GrnConn → GrnConn) : (s.updConn n f).cool = s.cool := rfl
@[simp] theorem State.updConn_ses (s : State) (n : Nat) (f : GrnConn → GrnConn) : (s.updConn n f).ses = s.ses := rfl
@[simp] theorem State.updConn_met (s : State) (n : Nat) (f : GrnConn → GrnConn) : (s.updConn n f).met = s.met := rfl
@[simp] theorem State.updConn_bil (s : State) (n : Nat) (f : GrnConn → GrnConn) : (s.updConn n f).bil = s.bil := rfl
@[simp] theorem State.updConn_gau (s : State) (n : Nat) (f : GrnConn → GrnConn) : (s.updConn n f).gau = s.gau := rfl
@[simp] theorem State.updConn_pt (s : State) (n : Nat) (f : GrnConn → GrnConn) : (s.updConn n f).pt = s.pt := rfl
@[simp] theorem State.updConn_plc (s : State) (n : Nat) (f : GrnConn → GrnConn) : (s.updConn n f).plc = s.plc := rfl
@[simp] theorem State.updConn_can (s : State) (n : Nat) (f : GrnConn → GrnConn) : (s.updConn n f).can = s.can := rfl
@[simp] theorem State.updConn_obs (s : State) (n : Nat) (f : GrnConn → GrnConn) : (s.updConn n f).obs = s.obs := rfl
@[simp] theorem State.updConn_flt (s : State) (n : Nat) (f : GrnConn → GrnConn) : (s.updConn n f).flt = s.flt := rfl
@[simp] theorem State.updConn_pair (s : State) (n : Nat) (f : GrnConn → GrnConn) : (s.updConn n f).pair = s.pair := rfl
@[simp] theorem State.updConn_sys (s : State) (n : Nat) (f : GrnConn → GrnConn) : (s.updConn n f).sys = s.sys := rfl
@[simp] theorem State.updConn_pins (s : State) (n : Nat) (f : GrnConn → GrnConn) : (s.updConn n f).pins = s.pins := rfl
@[simp] theorem State.updConn_grn_image (s : State) (n : Nat) (f : GrnConn → GrnConn) : (s.updConn n f).grn.image = s.grn.image := rfl
@[simp] theorem State.updConn_grn_pendingImg (s : State) (n : Nat) (f : GrnConn → GrnConn) : (s.updConn n f).grn.pendingImg = s.grn.pendingImg := rfl
@[simp] theorem State.updConn_grn_inputs (s : State) (n : Nat) (f : GrnConn → GrnConn) : (s.updConn n f).grn.inputs = s.grn.inputs := rfl
@[simp] theorem State.updConn_grn_outputs (s : State) (n : Nat) (f : GrnConn → GrnConn) : (s.updConn n f).grn.outputs = s.grn.outputs := rfl
@[simp] theorem State.updConn_grn_locks (s : State) (n : Nat) (f : GrnConn → GrnConn) : (s.updConn n f).grn.locks = s.grn.locks := rfl
@[simp] theorem State.updConn_grn_present (s : State) (n : Nat) (f : GrnConn → GrnConn) : (s.updConn n f).grn.present = s.grn.present := rfl
@[simp] theorem State.updConn_grn_arm (s : State) (n : Nat) (f : GrnConn → GrnConn) : (s.updConn n f).grn.arm = s.grn.arm := rfl
@[simp] theorem State.updConn_grn_commit (s : State) (n : Nat) (f : GrnConn → GrnConn) : (s.updConn n f).grn.commit = s.grn.commit := rfl
@[simp] theorem State.updConn_grn_safeState (s : State) (n : Nat) (f : GrnConn → GrnConn) : (s.updConn n f).grn.safeState = s.grn.safeState := rfl
@[simp] theorem State.updConn_grn_halted (s : State) (n : Nat) (f : GrnConn → GrnConn) : (s.updConn n f).grn.halted = s.grn.halted := rfl
@[simp] theorem State.updConn_grn_clockFails (s : State) (n : Nat) (f : GrnConn → GrnConn) : (s.updConn n f).grn.clockFails = s.grn.clockFails := rfl
@[simp] theorem State.updConn_grn_tooLong (s : State) (n : Nat) (f : GrnConn → GrnConn) : (s.updConn n f).grn.tooLong = s.grn.tooLong := rfl
@[simp] theorem State.updConn_grn_cleared (s : State) (n : Nat) (f : GrnConn → GrnConn) : (s.updConn n f).grn.cleared = s.grn.cleared := rfl
@[simp] theorem State.updConn_grn_ready (s : State) (n : Nat) (f : GrnConn → GrnConn) : (s.updConn n f).grn.ready = s.grn.ready := rfl

/-! `State.updPair` -/
@[simp] theorem State.updPair_pending (s : State) (f : Pair → Pair) : (s.updPair f).pending = s.pending := rfl
@[simp] theorem State.updPair_now (s : State) (f : Pair → Pair) : (s.updPair f).now = s.now := rfl
@[simp] theorem State.updPair_fresh (s : State) (f : Pair → Pair) : (s.updPair f).fresh = s.fresh := rfl
@[simp] theorem State.updPair_out (s : State) (f : Pair → Pair) : (s.updPair f).out = s.out := rfl
@[simp] theorem State.updPair_mbx (s : State) (f : Pair → Pair) : (s.updPair f).mbx = s.mbx := rfl
@[simp] theorem State.updPair_par (s : State) (f : Pair → Pair) : (s.updPair f).par = s.par := rfl
@[simp] theorem State.updPair_lv (s : State) (f : Pair → Pair) : (s.updPair f).lv = s.lv := rfl
@[simp] theorem State.updPair_ring (s : State) (f : Pair → Pair) : (s.updPair f).ring = s.ring := rfl
@[simp] theorem State.updPair_bas (s : State) (f : Pair → Pair) : (s.updPair f).bas = s.bas := rfl
@[simp] theorem State.updPair_tune (s : State) (f : Pair → Pair) : (s.updPair f).tune = s.tune := rfl
@[simp] theorem State.updPair_stg (s : State) (f : Pair → Pair) : (s.updPair f).stg = s.stg := rfl
@[simp] theorem State.updPair_cool (s : State) (f : Pair → Pair) : (s.updPair f).cool = s.cool := rfl
@[simp] theorem State.updPair_ses (s : State) (f : Pair → Pair) : (s.updPair f).ses = s.ses := rfl
@[simp] theorem State.updPair_met (s : State) (f : Pair → Pair) : (s.updPair f).met = s.met := rfl
@[simp] theorem State.updPair_bil (s : State) (f : Pair → Pair) : (s.updPair f).bil = s.bil := rfl
@[simp] theorem State.updPair_gau (s : State) (f : Pair → Pair) : (s.updPair f).gau = s.gau := rfl
@[simp] theorem State.updPair_pt (s : State) (f : Pair → Pair) : (s.updPair f).pt = s.pt := rfl
@[simp] theorem State.updPair_plc (s : State) (f : Pair → Pair) : (s.updPair f).plc = s.plc := rfl
@[simp] theorem State.updPair_can (s : State) (f : Pair → Pair) : (s.updPair f).can = s.can := rfl
@[simp] theorem State.updPair_obs (s : State) (f : Pair → Pair) : (s.updPair f).obs = s.obs := rfl
@[simp] theorem State.updPair_grn (s : State) (f : Pair → Pair) : (s.updPair f).grn = s.grn := rfl
@[simp] theorem State.updPair_flt (s : State) (f : Pair → Pair) : (s.updPair f).flt = s.flt := rfl
@[simp] theorem State.updPair_sys (s : State) (f : Pair → Pair) : (s.updPair f).sys = s.sys := rfl
@[simp] theorem State.updPair_pins (s : State) (f : Pair → Pair) : (s.updPair f).pins = s.pins := rfl

/-! `State.updStr` -/
@[simp] theorem State.updStr_pending (s : State) (k : Nat) (f : GStr → GStr) : (s.updStr k f).pending = s.pending := rfl
@[simp] theorem State.updStr_now (s : State) (k : Nat) (f : GStr → GStr) : (s.updStr k f).now = s.now := rfl
@[simp] theorem State.updStr_fresh (s : State) (k : Nat) (f : GStr → GStr) : (s.updStr k f).fresh = s.fresh := rfl
@[simp] theorem State.updStr_out (s : State) (k : Nat) (f : GStr → GStr) : (s.updStr k f).out = s.out := rfl
@[simp] theorem State.updStr_mbx (s : State) (k : Nat) (f : GStr → GStr) : (s.updStr k f).mbx = s.mbx := rfl
@[simp] theorem State.updStr_par (s : State) (k : Nat) (f : GStr → GStr) : (s.updStr k f).par = s.par := rfl
@[simp] theorem State.updStr_lv (s : State) (k : Nat) (f : GStr → GStr) : (s.updStr k f).lv = s.lv := rfl
@[simp] theorem State.updStr_ring (s : State) (k : Nat) (f : GStr → GStr) : (s.updStr k f).ring = s.ring := rfl
@[simp] theorem State.updStr_bas (s : State) (k : Nat) (f : GStr → GStr) : (s.updStr k f).bas = s.bas := rfl
@[simp] theorem State.updStr_tune (s : State) (k : Nat) (f : GStr → GStr) : (s.updStr k f).tune = s.tune := rfl
@[simp] theorem State.updStr_stg (s : State) (k : Nat) (f : GStr → GStr) : (s.updStr k f).stg = s.stg := rfl
@[simp] theorem State.updStr_cool (s : State) (k : Nat) (f : GStr → GStr) : (s.updStr k f).cool = s.cool := rfl
@[simp] theorem State.updStr_ses (s : State) (k : Nat) (f : GStr → GStr) : (s.updStr k f).ses = s.ses := rfl
@[simp] theorem State.updStr_met (s : State) (k : Nat) (f : GStr → GStr) : (s.updStr k f).met = s.met := rfl
@[simp] theorem State.updStr_bil (s : State) (k : Nat) (f : GStr → GStr) : (s.updStr k f).bil = s.bil := rfl
@[simp] theorem State.updStr_pt (s : State) (k : Nat) (f : GStr → GStr) : (s.updStr k f).pt = s.pt := rfl
@[simp] theorem State.updStr_plc (s : State) (k : Nat) (f : GStr → GStr) : (s.updStr k f).plc = s.plc := rfl
@[simp] theorem State.updStr_can (s : State) (k : Nat) (f : GStr → GStr) : (s.updStr k f).can = s.can := rfl
@[simp] theorem State.updStr_obs (s : State) (k : Nat) (f : GStr → GStr) : (s.updStr k f).obs = s.obs := rfl
@[simp] theorem State.updStr_grn (s : State) (k : Nat) (f : GStr → GStr) : (s.updStr k f).grn = s.grn := rfl
@[simp] theorem State.updStr_flt (s : State) (k : Nat) (f : GStr → GStr) : (s.updStr k f).flt = s.flt := rfl
@[simp] theorem State.updStr_pair (s : State) (k : Nat) (f : GStr → GStr) : (s.updStr k f).pair = s.pair := rfl
@[simp] theorem State.updStr_sys (s : State) (k : Nat) (f : GStr → GStr) : (s.updStr k f).sys = s.sys := rfl
@[simp] theorem State.updStr_pins (s : State) (k : Nat) (f : GStr → GStr) : (s.updStr k f).pins = s.pins := rfl
@[simp] theorem State.updStr_gau_on (s : State) (k : Nat) (f : GStr → GStr) : (s.updStr k f).gau.on = s.gau.on := rfl
@[simp] theorem State.updStr_gau_hibernating (s : State) (k : Nat) (f : GStr → GStr) : (s.updStr k f).gau.hibernating = s.gau.hibernating := rfl
@[simp] theorem State.updStr_gau_hibAt (s : State) (k : Nat) (f : GStr → GStr) : (s.updStr k f).gau.hibAt = s.gau.hibAt := rfl
@[simp] theorem State.updStr_gau_jA (s : State) (k : Nat) (f : GStr → GStr) : (s.updStr k f).gau.jA = s.gau.jA := rfl
@[simp] theorem State.updStr_gau_jB (s : State) (k : Nat) (f : GStr → GStr) : (s.updStr k f).gau.jB = s.gau.jB := rfl
@[simp] theorem State.updStr_gau_journalAt (s : State) (k : Nat) (f : GStr → GStr) : (s.updStr k f).gau.journalAt = s.gau.journalAt := rfl
@[simp] theorem State.updStr_gau_shuntAt (s : State) (k : Nat) (f : GStr → GStr) : (s.updStr k f).gau.shuntAt = s.gau.shuntAt := rfl
@[simp] theorem State.updStr_gau_lastFrame (s : State) (k : Nat) (f : GStr → GStr) : (s.updStr k f).gau.lastFrame = s.gau.lastFrame := rfl
@[simp] theorem State.updStr_gau_reportAt (s : State) (k : Nat) (f : GStr → GStr) : (s.updStr k f).gau.reportAt = s.gau.reportAt := rfl
@[simp] theorem State.updStr_gau_terms (s : State) (k : Nat) (f : GStr → GStr) : (s.updStr k f).gau.terms = s.gau.terms := rfl

/-! `State.updPlc` -/
@[simp] theorem State.updPlc_pending (s : State) (n : Nat) (f : PlcNode → PlcNode) : (s.updPlc n f).pending = s.pending := rfl
@[simp] theorem State.updPlc_now (s : State) (n : Nat) (f : PlcNode → PlcNode) : (s.updPlc n f).now = s.now := rfl
@[simp] theorem State.updPlc_fresh (s : State) (n : Nat) (f : PlcNode → PlcNode) : (s.updPlc n f).fresh = s.fresh := rfl
@[simp] theorem State.updPlc_out (s : State) (n : Nat) (f : PlcNode → PlcNode) : (s.updPlc n f).out = s.out := rfl
@[simp] theorem State.updPlc_mbx (s : State) (n : Nat) (f : PlcNode → PlcNode) : (s.updPlc n f).mbx = s.mbx := rfl
@[simp] theorem State.updPlc_par (s : State) (n : Nat) (f : PlcNode → PlcNode) : (s.updPlc n f).par = s.par := rfl
@[simp] theorem State.updPlc_lv (s : State) (n : Nat) (f : PlcNode → PlcNode) : (s.updPlc n f).lv = s.lv := rfl
@[simp] theorem State.updPlc_ring (s : State) (n : Nat) (f : PlcNode → PlcNode) : (s.updPlc n f).ring = s.ring := rfl
@[simp] theorem State.updPlc_bas (s : State) (n : Nat) (f : PlcNode → PlcNode) : (s.updPlc n f).bas = s.bas := rfl
@[simp] theorem State.updPlc_tune (s : State) (n : Nat) (f : PlcNode → PlcNode) : (s.updPlc n f).tune = s.tune := rfl
@[simp] theorem State.updPlc_stg (s : State) (n : Nat) (f : PlcNode → PlcNode) : (s.updPlc n f).stg = s.stg := rfl
@[simp] theorem State.updPlc_cool (s : State) (n : Nat) (f : PlcNode → PlcNode) : (s.updPlc n f).cool = s.cool := rfl
@[simp] theorem State.updPlc_ses (s : State) (n : Nat) (f : PlcNode → PlcNode) : (s.updPlc n f).ses = s.ses := rfl
@[simp] theorem State.updPlc_met (s : State) (n : Nat) (f : PlcNode → PlcNode) : (s.updPlc n f).met = s.met := rfl
@[simp] theorem State.updPlc_bil (s : State) (n : Nat) (f : PlcNode → PlcNode) : (s.updPlc n f).bil = s.bil := rfl
@[simp] theorem State.updPlc_gau (s : State) (n : Nat) (f : PlcNode → PlcNode) : (s.updPlc n f).gau = s.gau := rfl
@[simp] theorem State.updPlc_pt (s : State) (n : Nat) (f : PlcNode → PlcNode) : (s.updPlc n f).pt = s.pt := rfl
@[simp] theorem State.updPlc_can (s : State) (n : Nat) (f : PlcNode → PlcNode) : (s.updPlc n f).can = s.can := rfl
@[simp] theorem State.updPlc_obs (s : State) (n : Nat) (f : PlcNode → PlcNode) : (s.updPlc n f).obs = s.obs := rfl
@[simp] theorem State.updPlc_grn (s : State) (n : Nat) (f : PlcNode → PlcNode) : (s.updPlc n f).grn = s.grn := rfl
@[simp] theorem State.updPlc_flt (s : State) (n : Nat) (f : PlcNode → PlcNode) : (s.updPlc n f).flt = s.flt := rfl
@[simp] theorem State.updPlc_pair (s : State) (n : Nat) (f : PlcNode → PlcNode) : (s.updPlc n f).pair = s.pair := rfl
@[simp] theorem State.updPlc_sys (s : State) (n : Nat) (f : PlcNode → PlcNode) : (s.updPlc n f).sys = s.sys := rfl
@[simp] theorem State.updPlc_pins (s : State) (n : Nat) (f : PlcNode → PlcNode) : (s.updPlc n f).pins = s.pins := rfl
@[simp] theorem State.updPlc_plc_master (s : State) (n : Nat) (f : PlcNode → PlcNode) : (s.updPlc n f).plc.master = s.plc.master := rfl
@[simp] theorem State.updPlc_plc_heardAt (s : State) (n : Nat) (f : PlcNode → PlcNode) : (s.updPlc n f).plc.heardAt = s.plc.heardAt := rfl
@[simp] theorem State.updPlc_plc_foreignAt (s : State) (n : Nat) (f : PlcNode → PlcNode) : (s.updPlc n f).plc.foreignAt = s.plc.foreignAt := rfl
@[simp] theorem State.updPlc_plc_nextAt (s : State) (n : Nat) (f : PlcNode → PlcNode) : (s.updPlc n f).plc.nextAt = s.plc.nextAt := rfl
@[simp] theorem State.updPlc_plc_cycles (s : State) (n : Nat) (f : PlcNode → PlcNode) : (s.updPlc n f).plc.cycles = s.plc.cycles := rfl
@[simp] theorem State.updPlc_plc_discovery (s : State) (n : Nat) (f : PlcNode → PlcNode) : (s.updPlc n f).plc.discovery = s.plc.discovery := rfl
@[simp] theorem State.updPlc_plc_used (s : State) (n : Nat) (f : PlcNode → PlcNode) : (s.updPlc n f).plc.used = s.plc.used := rfl
@[simp] theorem State.updPlc_plc_bulkLast (s : State) (n : Nat) (f : PlcNode → PlcNode) : (s.updPlc n f).plc.bulkLast = s.plc.bulkLast := rfl
@[simp] theorem State.updPlc_plc_led (s : State) (n : Nat) (f : PlcNode → PlcNode) : (s.updPlc n f).plc.led = s.plc.led := rfl
@[simp] theorem State.updPlc_plc_epoch (s : State) (n : Nat) (f : PlcNode → PlcNode) : (s.updPlc n f).plc.epoch = s.plc.epoch := rfl
@[simp] theorem State.updPlc_plc_beacons (s : State) (n : Nat) (f : PlcNode → PlcNode) : (s.updPlc n f).plc.beacons = s.plc.beacons := rfl
@[simp] theorem State.updPlc_plc_mask (s : State) (n : Nat) (f : PlcNode → PlcNode) : (s.updPlc n f).plc.mask = s.plc.mask := rfl
@[simp] theorem State.updPlc_plc_maskNext (s : State) (n : Nat) (f : PlcNode → PlcNode) : (s.updPlc n f).plc.maskNext = s.plc.maskNext := rfl
@[simp] theorem State.updPlc_plc_waits (s : State) (n : Nat) (f : PlcNode → PlcNode) : (s.updPlc n f).plc.waits = s.plc.waits := rfl
@[simp] theorem State.updPlc_plc_second (s : State) (n : Nat) (f : PlcNode → PlcNode) : (s.updPlc n f).plc.second = s.plc.second := rfl
@[simp] theorem State.updPlc_plc_repolls (s : State) (n : Nat) (f : PlcNode → PlcNode) : (s.updPlc n f).plc.repolls = s.plc.repolls := rfl
@[simp] theorem State.updPlc_plc_missed (s : State) (n : Nat) (f : PlcNode → PlcNode) : (s.updPlc n f).plc.missed = s.plc.missed := rfl
@[simp] theorem State.updPlc_plc_lastRepolls (s : State) (n : Nat) (f : PlcNode → PlcNode) : (s.updPlc n f).plc.lastRepolls = s.plc.lastRepolls := rfl
@[simp] theorem State.updPlc_plc_lastMissed (s : State) (n : Nat) (f : PlcNode → PlcNode) : (s.updPlc n f).plc.lastMissed = s.plc.lastMissed := rfl
@[simp] theorem State.updPlc_plc_fwdPolls (s : State) (n : Nat) (f : PlcNode → PlcNode) : (s.updPlc n f).plc.fwdPolls = s.plc.fwdPolls := rfl

/-! `State.updOutlet` -/
@[simp] theorem State.updOutlet_pending (s : State) (n : Nat) (f : OutletLive → OutletLive) : (s.updOutlet n f).pending = s.pending := rfl
@[simp] theorem State.updOutlet_now (s : State) (n : Nat) (f : OutletLive → OutletLive) : (s.updOutlet n f).now = s.now := rfl
@[simp] theorem State.updOutlet_fresh (s : State) (n : Nat) (f : OutletLive → OutletLive) : (s.updOutlet n f).fresh = s.fresh := rfl
@[simp] theorem State.updOutlet_out (s : State) (n : Nat) (f : OutletLive → OutletLive) : (s.updOutlet n f).out = s.out := rfl
@[simp] theorem State.updOutlet_mbx (s : State) (n : Nat) (f : OutletLive → OutletLive) : (s.updOutlet n f).mbx = s.mbx := rfl
@[simp] theorem State.updOutlet_par (s : State) (n : Nat) (f : OutletLive → OutletLive) : (s.updOutlet n f).par = s.par := rfl
@[simp] theorem State.updOutlet_lv (s : State) (n : Nat) (f : OutletLive → OutletLive) : (s.updOutlet n f).lv = s.lv := rfl
@[simp] theorem State.updOutlet_ring (s : State) (n : Nat) (f : OutletLive → OutletLive) : (s.updOutlet n f).ring = s.ring := rfl
@[simp] theorem State.updOutlet_bas (s : State) (n : Nat) (f : OutletLive → OutletLive) : (s.updOutlet n f).bas = s.bas := rfl
@[simp] theorem State.updOutlet_tune (s : State) (n : Nat) (f : OutletLive → OutletLive) : (s.updOutlet n f).tune = s.tune := rfl
@[simp] theorem State.updOutlet_stg (s : State) (n : Nat) (f : OutletLive → OutletLive) : (s.updOutlet n f).stg = s.stg := rfl
@[simp] theorem State.updOutlet_cool (s : State) (n : Nat) (f : OutletLive → OutletLive) : (s.updOutlet n f).cool = s.cool := rfl
@[simp] theorem State.updOutlet_met (s : State) (n : Nat) (f : OutletLive → OutletLive) : (s.updOutlet n f).met = s.met := rfl
@[simp] theorem State.updOutlet_bil (s : State) (n : Nat) (f : OutletLive → OutletLive) : (s.updOutlet n f).bil = s.bil := rfl
@[simp] theorem State.updOutlet_gau (s : State) (n : Nat) (f : OutletLive → OutletLive) : (s.updOutlet n f).gau = s.gau := rfl
@[simp] theorem State.updOutlet_pt (s : State) (n : Nat) (f : OutletLive → OutletLive) : (s.updOutlet n f).pt = s.pt := rfl
@[simp] theorem State.updOutlet_plc (s : State) (n : Nat) (f : OutletLive → OutletLive) : (s.updOutlet n f).plc = s.plc := rfl
@[simp] theorem State.updOutlet_can (s : State) (n : Nat) (f : OutletLive → OutletLive) : (s.updOutlet n f).can = s.can := rfl
@[simp] theorem State.updOutlet_obs (s : State) (n : Nat) (f : OutletLive → OutletLive) : (s.updOutlet n f).obs = s.obs := rfl
@[simp] theorem State.updOutlet_grn (s : State) (n : Nat) (f : OutletLive → OutletLive) : (s.updOutlet n f).grn = s.grn := rfl
@[simp] theorem State.updOutlet_flt (s : State) (n : Nat) (f : OutletLive → OutletLive) : (s.updOutlet n f).flt = s.flt := rfl
@[simp] theorem State.updOutlet_pair (s : State) (n : Nat) (f : OutletLive → OutletLive) : (s.updOutlet n f).pair = s.pair := rfl
@[simp] theorem State.updOutlet_sys (s : State) (n : Nat) (f : OutletLive → OutletLive) : (s.updOutlet n f).sys = s.sys := rfl
@[simp] theorem State.updOutlet_pins (s : State) (n : Nat) (f : OutletLive → OutletLive) : (s.updOutlet n f).pins = s.pins := rfl
@[simp] theorem State.updOutlet_ses_recs (s : State) (n : Nat) (f : OutletLive → OutletLive) : (s.updOutlet n f).ses.recs = s.ses.recs := rfl
@[simp] theorem State.updOutlet_ses_ctxs (s : State) (n : Nat) (f : OutletLive → OutletLive) : (s.updOutlet n f).ses.ctxs = s.ses.ctxs := rfl
@[simp] theorem State.updOutlet_ses_txWait (s : State) (n : Nat) (f : OutletLive → OutletLive) : (s.updOutlet n f).ses.txWait = s.ses.txWait := rfl

/-! `State.updCtx` -/
@[simp] theorem State.updCtx_pending (s : State) (n : Nat) (f : Ctx → Ctx) : (s.updCtx n f).pending = s.pending := rfl
@[simp] theorem State.updCtx_now (s : State) (n : Nat) (f : Ctx → Ctx) : (s.updCtx n f).now = s.now := rfl
@[simp] theorem State.updCtx_fresh (s : State) (n : Nat) (f : Ctx → Ctx) : (s.updCtx n f).fresh = s.fresh := rfl
@[simp] theorem State.updCtx_out (s : State) (n : Nat) (f : Ctx → Ctx) : (s.updCtx n f).out = s.out := rfl
@[simp] theorem State.updCtx_mbx (s : State) (n : Nat) (f : Ctx → Ctx) : (s.updCtx n f).mbx = s.mbx := rfl
@[simp] theorem State.updCtx_par (s : State) (n : Nat) (f : Ctx → Ctx) : (s.updCtx n f).par = s.par := rfl
@[simp] theorem State.updCtx_lv (s : State) (n : Nat) (f : Ctx → Ctx) : (s.updCtx n f).lv = s.lv := rfl
@[simp] theorem State.updCtx_ring (s : State) (n : Nat) (f : Ctx → Ctx) : (s.updCtx n f).ring = s.ring := rfl
@[simp] theorem State.updCtx_bas (s : State) (n : Nat) (f : Ctx → Ctx) : (s.updCtx n f).bas = s.bas := rfl
@[simp] theorem State.updCtx_tune (s : State) (n : Nat) (f : Ctx → Ctx) : (s.updCtx n f).tune = s.tune := rfl
@[simp] theorem State.updCtx_stg (s : State) (n : Nat) (f : Ctx → Ctx) : (s.updCtx n f).stg = s.stg := rfl
@[simp] theorem State.updCtx_cool (s : State) (n : Nat) (f : Ctx → Ctx) : (s.updCtx n f).cool = s.cool := rfl
@[simp] theorem State.updCtx_met (s : State) (n : Nat) (f : Ctx → Ctx) : (s.updCtx n f).met = s.met := rfl
@[simp] theorem State.updCtx_bil (s : State) (n : Nat) (f : Ctx → Ctx) : (s.updCtx n f).bil = s.bil := rfl
@[simp] theorem State.updCtx_gau (s : State) (n : Nat) (f : Ctx → Ctx) : (s.updCtx n f).gau = s.gau := rfl
@[simp] theorem State.updCtx_pt (s : State) (n : Nat) (f : Ctx → Ctx) : (s.updCtx n f).pt = s.pt := rfl
@[simp] theorem State.updCtx_plc (s : State) (n : Nat) (f : Ctx → Ctx) : (s.updCtx n f).plc = s.plc := rfl
@[simp] theorem State.updCtx_can (s : State) (n : Nat) (f : Ctx → Ctx) : (s.updCtx n f).can = s.can := rfl
@[simp] theorem State.updCtx_obs (s : State) (n : Nat) (f : Ctx → Ctx) : (s.updCtx n f).obs = s.obs := rfl
@[simp] theorem State.updCtx_grn (s : State) (n : Nat) (f : Ctx → Ctx) : (s.updCtx n f).grn = s.grn := rfl
@[simp] theorem State.updCtx_flt (s : State) (n : Nat) (f : Ctx → Ctx) : (s.updCtx n f).flt = s.flt := rfl
@[simp] theorem State.updCtx_pair (s : State) (n : Nat) (f : Ctx → Ctx) : (s.updCtx n f).pair = s.pair := rfl
@[simp] theorem State.updCtx_sys (s : State) (n : Nat) (f : Ctx → Ctx) : (s.updCtx n f).sys = s.sys := rfl
@[simp] theorem State.updCtx_pins (s : State) (n : Nat) (f : Ctx → Ctx) : (s.updCtx n f).pins = s.pins := rfl
@[simp] theorem State.updCtx_ses_recs (s : State) (n : Nat) (f : Ctx → Ctx) : (s.updCtx n f).ses.recs = s.ses.recs := rfl
@[simp] theorem State.updCtx_ses_outlets (s : State) (n : Nat) (f : Ctx → Ctx) : (s.updCtx n f).ses.outlets = s.ses.outlets := rfl
@[simp] theorem State.updCtx_ses_txWait (s : State) (n : Nat) (f : Ctx → Ctx) : (s.updCtx n f).ses.txWait = s.ses.txWait := rfl

/-! `State.updSys` -/
@[simp] theorem State.updSys_pending (s : State) (f : Sys → Sys) : (s.updSys f).pending = s.pending := rfl
@[simp] theorem State.updSys_now (s : State) (f : Sys → Sys) : (s.updSys f).now = s.now := rfl
@[simp] theorem State.updSys_fresh (s : State) (f : Sys → Sys) : (s.updSys f).fresh = s.fresh := rfl
@[simp] theorem State.updSys_out (s : State) (f : Sys → Sys) : (s.updSys f).out = s.out := rfl
@[simp] theorem State.updSys_mbx (s : State) (f : Sys → Sys) : (s.updSys f).mbx = s.mbx := rfl
@[simp] theorem State.updSys_par (s : State) (f : Sys → Sys) : (s.updSys f).par = s.par := rfl
@[simp] theorem State.updSys_lv (s : State) (f : Sys → Sys) : (s.updSys f).lv = s.lv := rfl
@[simp] theorem State.updSys_ring (s : State) (f : Sys → Sys) : (s.updSys f).ring = s.ring := rfl
@[simp] theorem State.updSys_bas (s : State) (f : Sys → Sys) : (s.updSys f).bas = s.bas := rfl
@[simp] theorem State.updSys_tune (s : State) (f : Sys → Sys) : (s.updSys f).tune = s.tune := rfl
@[simp] theorem State.updSys_stg (s : State) (f : Sys → Sys) : (s.updSys f).stg = s.stg := rfl
@[simp] theorem State.updSys_cool (s : State) (f : Sys → Sys) : (s.updSys f).cool = s.cool := rfl
@[simp] theorem State.updSys_ses (s : State) (f : Sys → Sys) : (s.updSys f).ses = s.ses := rfl
@[simp] theorem State.updSys_met (s : State) (f : Sys → Sys) : (s.updSys f).met = s.met := rfl
@[simp] theorem State.updSys_bil (s : State) (f : Sys → Sys) : (s.updSys f).bil = s.bil := rfl
@[simp] theorem State.updSys_gau (s : State) (f : Sys → Sys) : (s.updSys f).gau = s.gau := rfl
@[simp] theorem State.updSys_pt (s : State) (f : Sys → Sys) : (s.updSys f).pt = s.pt := rfl
@[simp] theorem State.updSys_plc (s : State) (f : Sys → Sys) : (s.updSys f).plc = s.plc := rfl
@[simp] theorem State.updSys_can (s : State) (f : Sys → Sys) : (s.updSys f).can = s.can := rfl
@[simp] theorem State.updSys_obs (s : State) (f : Sys → Sys) : (s.updSys f).obs = s.obs := rfl
@[simp] theorem State.updSys_grn (s : State) (f : Sys → Sys) : (s.updSys f).grn = s.grn := rfl
@[simp] theorem State.updSys_flt (s : State) (f : Sys → Sys) : (s.updSys f).flt = s.flt := rfl
@[simp] theorem State.updSys_pair (s : State) (f : Sys → Sys) : (s.updSys f).pair = s.pair := rfl
@[simp] theorem State.updSys_pins (s : State) (f : Sys → Sys) : (s.updSys f).pins = s.pins := rfl

end Sys2Proof.Machine
end

