-- ==== Sys2Proof/Laws/Tab.lean ====
section
/-!
SUPPORT. The laws of the sparse table: what reading gives after each operation, and that every operation keeps the canonical
form.
-/
namespace Sys2Proof

variable {α β : Type}

@[simp] theorem Tab.get?_nil (k : Nat) : Tab.get? ([] : Tab α) k = none := rfl

/-- Reading the key that was written gives what was written. -/
@[simp] theorem Tab.get?_set_self (t : Tab α) (k : Nat) (v : α) : (t.set k v).get? k = some v := by
  induction t with
  | nil => simp [Tab.set, Tab.get?]
  | cons e t ih =>
    obtain ⟨j, w⟩ := e
    simp only [Tab.set]
    split
    · simp [Tab.get?]
    · split
      · simp [Tab.get?]
      · rename_i _ h
        simp [Tab.get?, h, ih]

/-- Writing one key leaves every other as it was. -/
theorem Tab.get?_set_of_ne (t : Tab α) {k l : Nat} (v : α) (h : l ≠ k) : (t.set k v).get? l = t.get? l := by
  induction t with
  | nil => simp [Tab.set, Tab.get?, h]
  | cons e t ih =>
    obtain ⟨j, w⟩ := e
    simp only [Tab.set]
    split
    · simp [Tab.get?, h]
    · split
      · rename_i _ hk
        subst hk
        simp [Tab.get?, h]
      · simp only [Tab.get?, ih]

theorem Tab.get?_set (t : Tab α) (k l : Nat) (v : α) : (t.set k v).get? l = if l = k then some v else t.get? l := by
  by_cases h : l = k
  · subst h; simp
  · simp [h, Tab.get?_set_of_ne t v h]

@[simp] theorem Tab.getD_set_self (t : Tab α) (k : Nat) (v d : α) : (t.set k v).getD k d = v := by simp [Tab.getD]

theorem Tab.getD_set_of_ne (t : Tab α) {k l : Nat} (v d : α) (h : l ≠ k) : (t.set k v).getD l d = t.getD l d := by
  simp [Tab.getD, Tab.get?_set_of_ne t v h]

theorem Tab.getD_set (t : Tab α) (k l : Nat) (v d : α) : (t.set k v).getD l d = if l = k then v else t.getD l d := by
  by_cases h : l = k
  · subst h; simp
  · simp [h, Tab.getD_set_of_ne t v d h]

/-- Changing every entry changes what each key reads as. -/
@[simp] theorem Tab.get?_mapV (t : Tab α) (f : Nat → α → β) (k : Nat) : (t.mapV f).get? k = (t.get? k).map (f k) := by
  induction t with
  | nil => rfl
  | cons e t ih =>
    obtain ⟨j, w⟩ := e
    by_cases h : k = j
    · subst h; simp [Tab.mapV, Tab.get?]
    · simpa [Tab.mapV, Tab.get?, h] using ih

/-- Changing an existing entry. -/
theorem Tab.get?_upd (t : Tab α) (k l : Nat) (f : α → α) :
    (t.upd k f).get? l = if l = k then (t.get? l).map f else t.get? l := by
  induction t with
  | nil => by_cases h : l = k <;> simp [Tab.upd, Tab.get?, h]
  | cons e t ih =>
    obtain ⟨j, w⟩ := e
    simp only [Tab.upd, List.map_cons] at ih ⊢
    by_cases hl : l = j
    · subst hl
      by_cases hk : l = k <;> simp [Tab.get?, hk]
    · by_cases hj : j = k
      · subst hj
        have : Tab.get? ((j, f w) :: List.map (fun e => if e.1 = j then (e.1, f e.2) else e) t) l
            = Tab.get? (List.map (fun e => if e.1 = j then (e.1, f e.2) else e) t) l := by simp [Tab.get?, hl]
        simpa [Tab.get?, hl] using ih
      · simpa [Tab.get?, hl, hj] using ih

@[simp] theorem Tab.get?_upd_self (t : Tab α) (k : Nat) (f : α → α) : (t.upd k f).get? k = (t.get? k).map f := by
  simp [Tab.get?_upd]

theorem Tab.get?_upd_of_ne (t : Tab α) {k l : Nat} (f : α → α) (h : l ≠ k) : (t.upd k f).get? l = t.get? l := by
  simp [Tab.get?_upd, h]

/-- Every key of a table in canonical form lies above a bound below its first. -/
def Tab.above (n : Nat) (t : Tab α) : Prop := ∀ e ∈ t, n < e.1

theorem Tab.wf_cons {j : Nat} {w : α} {t : Tab α} : Tab.wf ((j, w) :: t) = true ↔ Tab.above j t ∧ Tab.wf t = true := by
  induction t generalizing j w with
  | nil => simp [Tab.wf, Tab.above]
  | cons e t ih =>
    obtain ⟨k, v⟩ := e
    simp only [Tab.wf, Bool.and_eq_true, decide_eq_true_eq]
    constructor
    · rintro ⟨h, hw⟩
      refine ⟨?_, hw⟩
      intro x hx
      rcases List.mem_cons.mp hx with rfl | hx
      · exact h
      · exact Nat.lt_trans h ((ih.mp hw).1 x hx)
    · rintro ⟨h, hw⟩
      exact ⟨h _ (List.mem_cons_self ..), hw⟩

theorem Tab.above_set {n k : Nat} {v : α} {t : Tab α} (h : Tab.above n t) (hk : n < k) : Tab.above n (t.set k v) := by
  induction t with
  | nil => intro x hx; simp [Tab.set] at hx; subst hx; exact hk
  | cons e t ih =>
    obtain ⟨j, w⟩ := e
    have hj : n < j := h _ (List.mem_cons_self ..)
    have ht : Tab.above n t := fun x hx => h x (List.mem_cons_of_mem _ hx)
    simp only [Tab.set]
    split
    · intro x hx
      rcases List.mem_cons.mp hx with rfl | hx
      · exact hk
      · exact h x hx
    · split
      · intro x hx
        rcases List.mem_cons.mp hx with rfl | hx
        · exact hk
        · exact ht x hx
      · intro x hx
        rcases List.mem_cons.mp hx with rfl | hx
        · exact hj
        · exact ih ht x hx

/-- A write keeps the canonical form. -/
theorem Tab.wf_set {t : Tab α} (k : Nat) (v : α) (h : Tab.wf t = true) : Tab.wf (t.set k v) = true := by
  induction t with
  | nil => rfl
  | cons e t ih =>
    obtain ⟨j, w⟩ := e
    obtain ⟨ha, ht⟩ := Tab.wf_cons.mp h
    simp only [Tab.set]
    split
    · rename_i hk
      refine Tab.wf_cons.mpr ⟨?_, h⟩
      intro x hx
      rcases List.mem_cons.mp hx with rfl | hx
      · exact hk
      · exact Nat.lt_trans hk (ha x hx)
    · split
      · rename_i _ hk
        subst hk
        exact Tab.wf_cons.mpr ⟨ha, ht⟩
      · rename_i h1 h2
        exact Tab.wf_cons.mpr ⟨Tab.above_set ha (by omega), ih ht⟩

theorem Tab.above_del {n k : Nat} {t : Tab α} (h : Tab.above n t) : Tab.above n (t.del k) := by
  induction t with
  | nil => exact h
  | cons e t ih =>
    obtain ⟨j, w⟩ := e
    have ht : Tab.above n t := fun x hx => h x (List.mem_cons_of_mem _ hx)
    simp only [Tab.del]
    split
    · exact ht
    · intro x hx
      rcases List.mem_cons.mp hx with rfl | hx
      · exact h _ (List.mem_cons_self ..)
      · exact ih ht x hx

/-- A removal keeps the canonical form. -/
theorem Tab.wf_del {t : Tab α} (k : Nat) (h : Tab.wf t = true) : Tab.wf (t.del k) = true := by
  induction t with
  | nil => rfl
  | cons e t ih =>
    obtain ⟨j, w⟩ := e
    obtain ⟨ha, ht⟩ := Tab.wf_cons.mp h
    simp only [Tab.del]
    split
    · exact ht
    · exact Tab.wf_cons.mpr ⟨Tab.above_del ha, ih ht⟩

theorem Tab.get?_of_above {n : Nat} {t : Tab α} (h : Tab.above n t) : t.get? n = none := by
  induction t with
  | nil => rfl
  | cons e t ih =>
    obtain ⟨j, w⟩ := e
    have hj : n < j := h _ (List.mem_cons_self ..)
    have : n ≠ j := by omega
    simp [Tab.get?, this, ih fun x hx => h x (List.mem_cons_of_mem _ hx)]

/-- In a table in canonical form a removed key reads as no entry. -/
theorem Tab.get?_del_self {t : Tab α} (k : Nat) (h : Tab.wf t = true) : (t.del k).get? k = none := by
  induction t with
  | nil => rfl
  | cons e t ih =>
    obtain ⟨j, w⟩ := e
    obtain ⟨ha, ht⟩ := Tab.wf_cons.mp h
    simp only [Tab.del]
    split
    · rename_i hk
      subst hk
      exact Tab.get?_of_above ha
    · rename_i hk
      simp [Tab.get?, hk, ih ht]

theorem Tab.get?_del_of_ne (t : Tab α) {k l : Nat} (h : l ≠ k) : (t.del k).get? l = t.get? l := by
  induction t with
  | nil => rfl
  | cons e t ih =>
    obtain ⟨j, w⟩ := e
    simp only [Tab.del]
    split
    · rename_i hk
      subst hk
      simp [Tab.get?, h]
    · simp only [Tab.get?, ih]

theorem Tab.above_mapV {n : Nat} {t : Tab α} (f : Nat → α → β) (h : Tab.above n t) : Tab.above n (t.mapV f) := by
  intro x hx
  obtain ⟨y, hy, rfl⟩ := List.mem_map.mp hx
  exact h y hy

/-- Changing the entries keeps the canonical form. -/
theorem Tab.wf_mapV {t : Tab α} (f : Nat → α → β) (h : Tab.wf t = true) : Tab.wf (t.mapV f) = true := by
  induction t with
  | nil => rfl
  | cons e t ih =>
    obtain ⟨j, w⟩ := e
    obtain ⟨ha, ht⟩ := Tab.wf_cons.mp h
    exact Tab.wf_cons.mpr ⟨Tab.above_mapV f ha, ih ht⟩

theorem Tab.upd_eq_mapV (t : Tab α) (k : Nat) (f : α → α) : t.upd k f = t.mapV fun j v => if j = k then f v else v := by
  refine List.map_congr_left fun e _ => ?_
  obtain ⟨j, w⟩ := e
  by_cases h : j = k <;> simp [h]

/-- Changing one entry keeps the canonical form. -/
theorem Tab.wf_upd {t : Tab α} (k : Nat) (f : α → α) (h : Tab.wf t = true) : Tab.wf (t.upd k f) = true := by
  rw [Tab.upd_eq_mapV]
  exact Tab.wf_mapV _ h

/-- Dropping entries keeps the canonical form. -/
theorem Tab.wf_keep {t : Tab α} (f : Nat → α → Bool) (h : Tab.wf t = true) : Tab.wf (t.keep f) = true := by
  induction t with
  | nil => rfl
  | cons e t ih =>
    obtain ⟨j, w⟩ := e
    obtain ⟨ha, ht⟩ := Tab.wf_cons.mp h
    simp only [Tab.keep, List.filter_cons]
    split
    · exact Tab.wf_cons.mpr ⟨fun x hx => ha x ((List.mem_filter.mp hx).1), ih ht⟩
    · exact ih ht

/-- Writing or removing keeps the canonical form. -/
theorem Tab.wf_put {t : Tab α} (k : Nat) (v : Option α) (h : Tab.wf t = true) : Tab.wf (t.put k v) = true := by
  cases v with
  | none => exact Tab.wf_del k h
  | some v => exact Tab.wf_set k v h

end Sys2Proof
end

