-- ==== Sys2Proof/Laws/Ops.lean ====
section
/-!
SUPPORT. What each shared operation can do, said once: the start of a command, its end, the parts that an update reaches, the
raising of an event and the report of a fault.
-/
namespace Sys2Proof.Machine

/-! ### The start of a command -/

/-- A row whose command may start runs its meaning on the state in which the command has started. -/
theorem startCommand_of_starts {op q tag : Nat} {s : State} {c : InFlight} (f : InFlight → State → State)
    (h : Starts op q tag s c) : startCommand op q tag s f = .next (f c (s.start c.uid)) := by
  obtain ⟨h1, h2, h3⟩ := h
  unfold startCommand
  rw [h1]
  simp [h2, h3]

/-- Everything a command row can do: nothing, the end with ST_ABORTED behind a failed LINK (R58), or its meaning. -/
theorem startCommand_cases (op q tag : Nat) (s : State) (f : InFlight → State → State) :
    startCommand op q tag s f = .next s ∨
    (∃ c, s.named op q tag = some c ∧ s.mayStart c = true ∧ c.linkFailed = true ∧
      startCommand op q tag s f = .next (s.fail c.uid ST_ABORTED)) ∨
    ∃ c, Starts op q tag s c ∧ startCommand op q tag s f = .next (f c (s.start c.uid)) := by
  unfold startCommand
  split
  · exact .inl rfl
  · rename_i c hc
    split
    · rename_i hm
      split
      · rename_i hl
        exact .inr (.inl ⟨c, hc, hm, hl, rfl⟩)
      · rename_i hl
        exact .inr (.inr ⟨c, ⟨hc, hm, by simpa using hl⟩, rfl⟩)
    · exact .inl rfl

/-- A command row always answers a next state. -/
theorem startCommand_completes (op q tag : Nat) (s : State) (f : InFlight → State → State) :
    ∃ t, startCommand op q tag s f = .next t := by
  rcases startCommand_cases op q tag s f with h | ⟨_, _, _, _, h⟩ | ⟨_, _, h⟩ <;> exact ⟨_, h⟩

/-- The command that a row names waits under its queue pair, tag and opcode. -/
theorem named_spec {op q tag : Nat} {s : State} {c : InFlight} (h : s.named op q tag = some c) :
    c ∈ s.mbx.inflight ∧ c.q = q ∧ c.desc.tag = tag ∧ c.desc.opcode = op ∧ c.phase = .waiting := by
  have hm := List.mem_of_find?_eq_some h
  have hp := List.find?_some h
  simp only [Bool.and_eq_true, beq_iff_eq] at hp
  exact ⟨hm, hp.1.1.1, hp.1.1.2, hp.1.2, hp.2⟩

/-! ### The end of a command -/

@[simp] theorem updCmds_length (l : List InFlight) (u : Nat) (f : InFlight → InFlight) : (updCmds l u f).length = l.length := by
  simp [updCmds]

/-- Changing one command leaves every other as it was. -/
theorem mem_updCmds_of_ne {l : List InFlight} {u : Nat} {f : InFlight → InFlight} {c : InFlight} (hc : c ∈ l) (h : c.uid ≠ u) :
    c ∈ updCmds l u f := List.mem_map.mpr ⟨c, hc, by simp [h]⟩

theorem mem_updCmds {l : List InFlight} {u : Nat} {f : InFlight → InFlight} {c : InFlight} (hc : c ∈ l) (h : c.uid = u) :
    f c ∈ updCmds l u f := List.mem_map.mpr ⟨c, hc, by simp [h]⟩

/-- The command changed, where the change keeps its serial number. -/
theorem find?_updCmds (l : List InFlight) (u : Nat) (f : InFlight → InFlight) (hf : ∀ c, c.uid = u → (f c).uid = u) :
    (updCmds l u f).find? (fun c => c.uid == u) = (l.find? (fun c => c.uid == u)).map f := by
  induction l with
  | nil => rfl
  | cons c l ih =>
    simp only [updCmds, List.map_cons] at ih ⊢
    by_cases h : c.uid = u
    · simp [h, hf c h]
    · simp [h, ih]

/-- A running command that ends holds its status, result and data (R56, R60). -/
theorem State.cmd?_endCmd {s : State} {u st n i : Nat} {r d : List Byte} {c : InFlight} (h : s.cmd? u = some c) (hp : c.phase ≠ .done) :
    (s.endCmd u st r d n i).cmd? u =
      some { c with phase := .done, status := st, result := padTo 16 r, data := d, dataDone := n, image := i } := by
  unfold State.cmd? at h ⊢
  unfold State.endCmd
  simp only
  rw [find?_updCmds]
  · rw [h]; simp [hp]
  · intro c hc
    split <;> exact hc

theorem State.cmd?_start {s : State} {u : Nat} {c : InFlight} (h : s.cmd? u = some c) :
    (s.start u).cmd? u = some { c with phase := .running } := by
  unfold State.cmd? at h ⊢
  unfold State.start
  simp only
  rw [find?_updCmds]
  · rw [h]; rfl
  · exact fun _ hc => hc

/-! ### What an update writes -/

@[simp] theorem State.qp_updQp (s : State) (q : Nat) (f : QPair → QPair) : (s.updQp q f).qp q = f (s.qp q) := by simp [State.updQp, State.qp]
@[simp] theorem State.hostLive_updLive (s : State) (e : Nat) (f : HostLive → HostLive) : (s.updLive e f).hostLive e = f (s.hostLive e) := by
  simp [State.updLive, State.hostLive]
@[simp] theorem State.inst_updInst (s : State) (i : Nat) (f : Inst → Inst) : (s.updInst i f).inst i = f (s.inst i) := by simp [State.updInst, State.inst]
@[simp] theorem State.stage_updStage (s : State) (o : Nat) (f : Stage → Stage) : (s.updStage o f).stage o = f (s.stage o) := by
  simp [State.updStage, State.stage]
@[simp] theorem State.node_updNode (s : State) (n : Nat) (f : Node → Node) : (s.updNode n f).node n = f (s.node n) := by simp [State.updNode, State.node]
@[simp] theorem State.circuit_updCircuit (s : State) (n : Nat) (f : Circuit → Circuit) : (s.updCircuit n f).circuit n = f (s.circuit n) := by
  simp [State.updCircuit, State.circuit]
@[simp] theorem State.chan_updChan (s : State) (n : Nat) (f : MetChan → MetChan) : (s.updChan n f).chan n = f (s.chan n) := by simp [State.updChan, State.chan]
@[simp] theorem State.reg_updReg (s : State) (n : Nat) (f : ChanReg → ChanReg) : (s.updReg n f).reg n = f (s.reg n) := by
  simp [State.updReg, State.updBil, State.reg]
@[simp] theorem State.canCtl_updCan (s : State) (n : Nat) (f : CanCtl → CanCtl) : (s.updCan n f).canCtl n = f (s.canCtl n) := by simp [State.updCan, State.canCtl]
@[simp] theorem State.grnIn_updIn (s : State) (n : Nat) (f : GrnIn → GrnIn) : (s.updIn n f).grnIn n = f (s.grnIn n) := by simp [State.updIn, State.grnIn]
@[simp] theorem State.grnOut_updOut (s : State) (n : Nat) (f : GrnOut → GrnOut) : (s.updOut n f).grnOut n = f (s.grnOut n) := by
  simp [State.updOut, State.grnOut]
@[simp] theorem State.grnConn_updConn (s : State) (n : Nat) (f : GrnConn → GrnConn) : (s.updConn n f).grnConn n = f (s.grnConn n) := by
  simp [State.updConn, State.grnConn]
@[simp] theorem State.plcNode_updPlc (s : State) (n : Nat) (f : PlcNode → PlcNode) : (s.updPlc n f).plcNode n = f (s.plcNode n) := by
  simp [State.updPlc, State.plcNode]
@[simp] theorem State.outletLive_updOutlet (s : State) (o : Nat) (f : OutletLive → OutletLive) : (s.updOutlet o f).outletLive o = f (s.outletLive o) := by
  simp [State.updOutlet, State.outletLive]

/-! Another entry stays as it was. -/

theorem State.inst_updInst_of_ne (s : State) {i j : Nat} (f : Inst → Inst) (h : j ≠ i) : (s.updInst i f).inst j = s.inst j := by
  simp [State.updInst, State.inst, Tab.getD_set_of_ne _ _ _ h]
theorem State.stage_updStage_of_ne (s : State) {o p : Nat} (f : Stage → Stage) (h : p ≠ o) : (s.updStage o f).stage p = s.stage p := by
  simp [State.updStage, State.stage, Tab.getD_set_of_ne _ _ _ h]
theorem State.node_updNode_of_ne (s : State) {n m : Nat} (f : Node → Node) (h : m ≠ n) : (s.updNode n f).node m = s.node m := by
  simp [State.updNode, State.node, Tab.getD_set_of_ne _ _ _ h]
theorem State.qp_updQp_of_ne (s : State) {q p : Nat} (f : QPair → QPair) (h : p ≠ q) : (s.updQp q f).qp p = s.qp p := by
  simp [State.updQp, State.qp, Tab.getD_set_of_ne _ _ _ h]

/-! ### Events and reports -/


/-- What raising an event leaves as it was: all but the commands in flight and the queued events (R69). -/
structure RaiseFrame (s t : State) : Prop where
  pending : t.pending = s.pending
  now : t.now = s.now
  fresh : t.fresh = s.fresh
  out : t.out = s.out
  par : t.par = s.par
  lv : t.lv = s.lv
  ring : t.ring = s.ring
  bas : t.bas = s.bas
  tune : t.tune = s.tune
  stg : t.stg = s.stg
  cool : t.cool = s.cool
  ses : t.ses = s.ses
  met : t.met = s.met
  bil : t.bil = s.bil
  gau : t.gau = s.gau
  pt : t.pt = s.pt
  plc : t.plc = s.plc
  can : t.can = s.can
  obs : t.obs = s.obs
  grn : t.grn = s.grn
  flt : t.flt = s.flt
  pair : t.pair = s.pair
  sys : t.sys = s.sys
  pins : t.pins = s.pins
  mbx_hosts : t.mbx.hosts = s.mbx.hosts
  mbx_qp : t.mbx.qp = s.mbx.qp
  mbx_nextUid : t.mbx.nextUid = s.mbx.nextUid
  mbx_ptrNormal : t.mbx.ptrNormal = s.mbx.ptrNormal
  mbx_ptrHigh : t.mbx.ptrHigh = s.mbx.ptrHigh
  mbx_highRun : t.mbx.highRun = s.mbx.highRun
  mbx_pcieUp : t.mbx.pcieUp = s.mbx.pcieUp
  mbx_masters : t.mbx.masters = s.mbx.masters
  mbx_master : t.mbx.master = s.mbx.master
  mbx_ptpSync : t.mbx.ptpSync = s.mbx.ptpSync
  mbx_ptpSeq : t.mbx.ptpSeq = s.mbx.ptpSeq
  mbx_ptpReq : t.mbx.ptpReq = s.mbx.ptpReq
  mbx_pathDelay : t.mbx.pathDelay = s.mbx.pathDelay
  mbx_sysOffset : t.mbx.sysOffset = s.mbx.sysOffset
  mbx_holdover : t.mbx.holdover = s.mbx.holdover
  mbx_timeLocked : t.mbx.timeLocked = s.mbx.timeLocked

theorem RaiseFrame.refl (s : State) : RaiseFrame s s := by constructor <;> rfl

theorem RaiseFrame.trans {s t u : State} (h : RaiseFrame s t) (k : RaiseFrame t u) : RaiseFrame s u where
  pending := k.pending.trans h.pending
  now := k.now.trans h.now
  fresh := k.fresh.trans h.fresh
  out := k.out.trans h.out
  par := k.par.trans h.par
  lv := k.lv.trans h.lv
  ring := k.ring.trans h.ring
  bas := k.bas.trans h.bas
  tune := k.tune.trans h.tune
  stg := k.stg.trans h.stg
  cool := k.cool.trans h.cool
  ses := k.ses.trans h.ses
  met := k.met.trans h.met
  bil := k.bil.trans h.bil
  gau := k.gau.trans h.gau
  pt := k.pt.trans h.pt
  plc := k.plc.trans h.plc
  can := k.can.trans h.can
  obs := k.obs.trans h.obs
  grn := k.grn.trans h.grn
  flt := k.flt.trans h.flt
  pair := k.pair.trans h.pair
  sys := k.sys.trans h.sys
  pins := k.pins.trans h.pins
  mbx_hosts := k.mbx_hosts.trans h.mbx_hosts
  mbx_qp := k.mbx_qp.trans h.mbx_qp
  mbx_nextUid := k.mbx_nextUid.trans h.mbx_nextUid
  mbx_ptrNormal := k.mbx_ptrNormal.trans h.mbx_ptrNormal
  mbx_ptrHigh := k.mbx_ptrHigh.trans h.mbx_ptrHigh
  mbx_highRun := k.mbx_highRun.trans h.mbx_highRun
  mbx_pcieUp := k.mbx_pcieUp.trans h.mbx_pcieUp
  mbx_masters := k.mbx_masters.trans h.mbx_masters
  mbx_master := k.mbx_master.trans h.mbx_master
  mbx_ptpSync := k.mbx_ptpSync.trans h.mbx_ptpSync
  mbx_ptpSeq := k.mbx_ptpSeq.trans h.mbx_ptpSeq
  mbx_ptpReq := k.mbx_ptpReq.trans h.mbx_ptpReq
  mbx_pathDelay := k.mbx_pathDelay.trans h.mbx_pathDelay
  mbx_sysOffset := k.mbx_sysOffset.trans h.mbx_sysOffset
  mbx_holdover := k.mbx_holdover.trans h.mbx_holdover
  mbx_timeLocked := k.mbx_timeLocked.trans h.mbx_timeLocked

theorem RaiseFrame.foldl {α : Type} (g : State → α → State) (hg : ∀ s a, RaiseFrame s (g s a)) (l : List α) (s : State) :
    RaiseFrame s (l.foldl g s) := by
  induction l generalizing s with
  | nil => exact RaiseFrame.refl s
  | cons a l ih => exact (hg s a).trans (ih _)

/-- Raising an event queues and delivers it and changes nothing else (R69). -/
theorem State.raise_frame (s : State) (a c o : Nat) : RaiseFrame s (s.raise a c o) :=
  RaiseFrame.foldl _ (fun _ _ => by constructor <;> rfl) _ s


@[simp] theorem State.raise_pending (s : State) (a c o : Nat) : (s.raise a c o).pending = s.pending := (State.raise_frame s a c o).pending
@[simp] theorem State.raise_now (s : State) (a c o : Nat) : (s.raise a c o).now = s.now := (State.raise_frame s a c o).now
@[simp] theorem State.raise_fresh (s : State) (a c o : Nat) : (s.raise a c o).fresh = s.fresh := (State.raise_frame s a c o).fresh
@[simp] theorem State.raise_out (s : State) (a c o : Nat) : (s.raise a c o).out = s.out := (State.raise_frame s a c o).out
@[simp] theorem State.raise_par (s : State) (a c o : Nat) : (s.raise a c o).par = s.par := (State.raise_frame s a c o).par
@[simp] theorem State.raise_lv (s : State) (a c o : Nat) : (s.raise a c o).lv = s.lv := (State.raise_frame s a c o).lv
@[simp] theorem State.raise_ring (s : State) (a c o : Nat) : (s.raise a c o).ring = s.ring := (State.raise_frame s a c o).ring
@[simp] theorem State.raise_bas (s : State) (a c o : Nat) : (s.raise a c o).bas = s.bas := (State.raise_frame s a c o).bas
@[simp] theorem State.raise_tune (s : State) (a c o : Nat) : (s.raise a c o).tune = s.tune := (State.raise_frame s a c o).tune
@[simp] theorem State.raise_stg (s : State) (a c o : Nat) : (s.raise a c o).stg = s.stg := (State.raise_frame s a c o).stg
@[simp] theorem State.raise_cool (s : State) (a c o : Nat) : (s.raise a c o).cool = s.cool := (State.raise_frame s a c o).cool
@[simp] theorem State.raise_ses (s : State) (a c o : Nat) : (s.raise a c o).ses = s.ses := (State.raise_frame s a c o).ses
@[simp] theorem State.raise_met (s : State) (a c o : Nat) : (s.raise a c o).met = s.met := (State.raise_frame s a c o).met
@[simp] theorem State.raise_bil (s : State) (a c o : Nat) : (s.raise a c o).bil = s.bil := (State.raise_frame s a c o).bil
@[simp] theorem State.raise_gau (s : State) (a c o : Nat) : (s.raise a c o).gau = s.gau := (State.raise_frame s a c o).gau
@[simp] theorem State.raise_pt (s : State) (a c o : Nat) : (s.raise a c o).pt = s.pt := (State.raise_frame s a c o).pt
@[simp] theorem State.raise_plc (s : State) (a c o : Nat) : (s.raise a c o).plc = s.plc := (State.raise_frame s a c o).plc
@[simp] theorem State.raise_can (s : State) (a c o : Nat) : (s.raise a c o).can = s.can := (State.raise_frame s a c o).can
@[simp] theorem State.raise_obs (s : State) (a c o : Nat) : (s.raise a c o).obs = s.obs := (State.raise_frame s a c o).obs
@[simp] theorem State.raise_grn (s : State) (a c o : Nat) : (s.raise a c o).grn = s.grn := (State.raise_frame s a c o).grn
@[simp] theorem State.raise_flt (s : State) (a c o : Nat) : (s.raise a c o).flt = s.flt := (State.raise_frame s a c o).flt
@[simp] theorem State.raise_pair (s : State) (a c o : Nat) : (s.raise a c o).pair = s.pair := (State.raise_frame s a c o).pair
@[simp] theorem State.raise_sys (s : State) (a c o : Nat) : (s.raise a c o).sys = s.sys := (State.raise_frame s a c o).sys
@[simp] theorem State.raise_pins (s : State) (a c o : Nat) : (s.raise a c o).pins = s.pins := (State.raise_frame s a c o).pins
@[simp] theorem State.raise_mbx_hosts (s : State) (a c o : Nat) : (s.raise a c o).mbx.hosts = s.mbx.hosts := (State.raise_frame s a c o).mbx_hosts
@[simp] theorem State.raise_mbx_qp (s : State) (a c o : Nat) : (s.raise a c o).mbx.qp = s.mbx.qp := (State.raise_frame s a c o).mbx_qp
@[simp] theorem State.raise_mbx_nextUid (s : State) (a c o : Nat) : (s.raise a c o).mbx.nextUid = s.mbx.nextUid := (State.raise_frame s a c o).mbx_nextUid
@[simp] theorem State.raise_mbx_ptrNormal (s : State) (a c o : Nat) : (s.raise a c o).mbx.ptrNormal = s.mbx.ptrNormal := (State.raise_frame s a c o).mbx_ptrNormal
@[simp] theorem State.raise_mbx_ptrHigh (s : State) (a c o : Nat) : (s.raise a c o).mbx.ptrHigh = s.mbx.ptrHigh := (State.raise_frame s a c o).mbx_ptrHigh
@[simp] theorem State.raise_mbx_highRun (s : State) (a c o : Nat) : (s.raise a c o).mbx.highRun = s.mbx.highRun := (State.raise_frame s a c o).mbx_highRun
@[simp] theorem State.raise_mbx_pcieUp (s : State) (a c o : Nat) : (s.raise a c o).mbx.pcieUp = s.mbx.pcieUp := (State.raise_frame s a c o).mbx_pcieUp
@[simp] theorem State.raise_mbx_masters (s : State) (a c o : Nat) : (s.raise a c o).mbx.masters = s.mbx.masters := (State.raise_frame s a c o).mbx_masters
@[simp] theorem State.raise_mbx_master (s : State) (a c o : Nat) : (s.raise a c o).mbx.master = s.mbx.master := (State.raise_frame s a c o).mbx_master
@[simp] theorem State.raise_mbx_ptpSync (s : State) (a c o : Nat) : (s.raise a c o).mbx.ptpSync = s.mbx.ptpSync := (State.raise_frame s a c o).mbx_ptpSync
@[simp] theorem State.raise_mbx_ptpSeq (s : State) (a c o : Nat) : (s.raise a c o).mbx.ptpSeq = s.mbx.ptpSeq := (State.raise_frame s a c o).mbx_ptpSeq
@[simp] theorem State.raise_mbx_ptpReq (s : State) (a c o : Nat) : (s.raise a c o).mbx.ptpReq = s.mbx.ptpReq := (State.raise_frame s a c o).mbx_ptpReq
@[simp] theorem State.raise_mbx_pathDelay (s : State) (a c o : Nat) : (s.raise a c o).mbx.pathDelay = s.mbx.pathDelay := (State.raise_frame s a c o).mbx_pathDelay
@[simp] theorem State.raise_mbx_sysOffset (s : State) (a c o : Nat) : (s.raise a c o).mbx.sysOffset = s.mbx.sysOffset := (State.raise_frame s a c o).mbx_sysOffset
@[simp] theorem State.raise_mbx_holdover (s : State) (a c o : Nat) : (s.raise a c o).mbx.holdover = s.mbx.holdover := (State.raise_frame s a c o).mbx_holdover
@[simp] theorem State.raise_mbx_timeLocked (s : State) (a c o : Nat) : (s.raise a c o).mbx.timeLocked = s.mbx.timeLocked := (State.raise_frame s a c o).mbx_timeLocked

/-- What the report of a fault leaves as it was: it changes the collector, the objects its reaction reaches, events, the commands it ends and what it sends (R522 to R528). -/
structure ReportFrame (s t : State) : Prop where
  pending : t.pending = s.pending
  now : t.now = s.now
  par : t.par = s.par
  lv : t.lv = s.lv
  ses : t.ses = s.ses
  bil : t.bil = s.bil
  gau : t.gau = s.gau
  pt : t.pt = s.pt
  plc : t.plc = s.plc
  can : t.can = s.can
  obs : t.obs = s.obs
  grn : t.grn = s.grn
  pair : t.pair = s.pair
  sys : t.sys = s.sys
  pins : t.pins = s.pins
  mbx_hosts : t.mbx.hosts = s.mbx.hosts
  mbx_qp : t.mbx.qp = s.mbx.qp
  mbx_nextUid : t.mbx.nextUid = s.mbx.nextUid
  mbx_ptrNormal : t.mbx.ptrNormal = s.mbx.ptrNormal
  mbx_ptrHigh : t.mbx.ptrHigh = s.mbx.ptrHigh
  mbx_highRun : t.mbx.highRun = s.mbx.highRun
  mbx_pcieUp : t.mbx.pcieUp = s.mbx.pcieUp
  mbx_masters : t.mbx.masters = s.mbx.masters
  mbx_master : t.mbx.master = s.mbx.master
  mbx_ptpSync : t.mbx.ptpSync = s.mbx.ptpSync
  mbx_ptpSeq : t.mbx.ptpSeq = s.mbx.ptpSeq
  mbx_ptpReq : t.mbx.ptpReq = s.mbx.ptpReq
  mbx_pathDelay : t.mbx.pathDelay = s.mbx.pathDelay
  mbx_sysOffset : t.mbx.sysOffset = s.mbx.sysOffset
  mbx_holdover : t.mbx.holdover = s.mbx.holdover
  mbx_timeLocked : t.mbx.timeLocked = s.mbx.timeLocked
  bas_coeffs : t.bas.coeffs = s.bas.coeffs
  bas_reps : t.bas.reps = s.bas.reps
  bas_site : t.bas.site = s.bas.site
  bas_refWait : t.bas.refWait = s.bas.refWait
  bas_sentRun : t.bas.sentRun = s.bas.sentRun
  bas_repWait : t.bas.repWait = s.bas.repWait
  bas_fwdFrames : t.bas.fwdFrames = s.bas.fwdFrames
  bas_fwdMissed : t.bas.fwdMissed = s.bas.fwdMissed
  bas_fwdSite : t.bas.fwdSite = s.bas.fwdSite
  bas_fwdSent : t.bas.fwdSent = s.bas.fwdSent
  ring_cycle : t.ring.cycle = s.ring.cycle
  ring_window : t.ring.window = s.ring.window
  ring_winLeft : t.ring.winLeft = s.ring.winLeft
  ring_epoch : t.ring.epoch = s.ring.epoch
  ring_raiseTo : t.ring.raiseTo = s.ring.raiseTo
  ring_raiseLeft : t.ring.raiseLeft = s.ring.raiseLeft
  ring_plan : t.ring.plan = s.ring.plan
  ring_slotPlan : t.ring.slotPlan = s.ring.slotPlan
  ring_skew : t.ring.skew = s.ring.skew
  ring_moved : t.ring.moved = s.ring.moved
  ring_scan : t.ring.scan = s.ring.scan
  ring_enumWait : t.ring.enumWait = s.ring.enumWait
  ring_enumRings : t.ring.enumRings = s.ring.enumRings
  ring_queues : t.ring.queues = s.ring.queues
  ring_enumDone : t.ring.enumDone = s.ring.enumDone
  ring_stateA : t.ring.stateA = s.ring.stateA
  ring_stateB : t.ring.stateB = s.ring.stateB
  ring_openA : t.ring.openA = s.ring.openA
  ring_openB : t.ring.openB = s.ring.openB
  ring_ports : t.ring.ports = s.ring.ports
  ring_plans : t.ring.plans = s.ring.plans
  stg_cabinets : t.stg.cabinets = s.stg.cabinets
  cool_recs : t.cool.recs = s.cool.recs
  cool_fwdSamples : t.cool.fwdSamples = s.cool.fwdSamples
  cool_fwdObserver : t.cool.fwdObserver = s.cool.fwdObserver
  met_recs : t.met.recs = s.met.recs
  met_cals : t.met.cals = s.met.cals
  met_calSeq : t.met.calSeq = s.met.calSeq
  met_sealCount : t.met.sealCount = s.met.sealCount
  met_sealEnd : t.met.sealEnd = s.met.sealEnd
  met_stores : t.met.stores = s.met.stores
  met_apply : t.met.apply = s.met.apply
  met_pulses : t.met.pulses = s.met.pulses
  met_legs : t.met.legs = s.met.legs
  met_steps : t.met.steps = s.met.steps
  met_calm : t.met.calm = s.met.calm
  met_ticks : t.met.ticks = s.met.ticks
  met_ready : t.met.ready = s.met.ready
  met_clock : t.met.clock = s.met.clock
  tune_gens : t.tune.gens = s.tune.gens
  flt_reactions : t.flt.reactions = s.flt.reactions
  flt_request : t.flt.request = s.flt.request

theorem ReportFrame.refl (s : State) : ReportFrame s s := by constructor <;> rfl

theorem ReportFrame.trans {s t u : State} (h : ReportFrame s t) (k : ReportFrame t u) : ReportFrame s u where
  pending := k.pending.trans h.pending
  now := k.now.trans h.now
  par := k.par.trans h.par
  lv := k.lv.trans h.lv
  ses := k.ses.trans h.ses
  bil := k.bil.trans h.bil
  gau := k.gau.trans h.gau
  pt := k.pt.trans h.pt
  plc := k.plc.trans h.plc
  can := k.can.trans h.can
  obs := k.obs.trans h.obs
  grn := k.grn.trans h.grn
  pair := k.pair.trans h.pair
  sys := k.sys.trans h.sys
  pins := k.pins.trans h.pins
  mbx_hosts := k.mbx_hosts.trans h.mbx_hosts
  mbx_qp := k.mbx_qp.trans h.mbx_qp
  mbx_nextUid := k.mbx_nextUid.trans h.mbx_nextUid
  mbx_ptrNormal := k.mbx_ptrNormal.trans h.mbx_ptrNormal
  mbx_ptrHigh := k.mbx_ptrHigh.trans h.mbx_ptrHigh
  mbx_highRun := k.mbx_highRun.trans h.mbx_highRun
  mbx_pcieUp := k.mbx_pcieUp.trans h.mbx_pcieUp
  mbx_masters := k.mbx_masters.trans h.mbx_masters
  mbx_master := k.mbx_master.trans h.mbx_master
  mbx_ptpSync := k.mbx_ptpSync.trans h.mbx_ptpSync
  mbx_ptpSeq := k.mbx_ptpSeq.trans h.mbx_ptpSeq
  mbx_ptpReq := k.mbx_ptpReq.trans h.mbx_ptpReq
  mbx_pathDelay := k.mbx_pathDelay.trans h.mbx_pathDelay
  mbx_sysOffset := k.mbx_sysOffset.trans h.mbx_sysOffset
  mbx_holdover := k.mbx_holdover.trans h.mbx_holdover
  mbx_timeLocked := k.mbx_timeLocked.trans h.mbx_timeLocked
  bas_coeffs := k.bas_coeffs.trans h.bas_coeffs
  bas_reps := k.bas_reps.trans h.bas_reps
  bas_site := k.bas_site.trans h.bas_site
  bas_refWait := k.bas_refWait.trans h.bas_refWait
  bas_sentRun := k.bas_sentRun.trans h.bas_sentRun
  bas_repWait := k.bas_repWait.trans h.bas_repWait
  bas_fwdFrames := k.bas_fwdFrames.trans h.bas_fwdFrames
  bas_fwdMissed := k.bas_fwdMissed.trans h.bas_fwdMissed
  bas_fwdSite := k.bas_fwdSite.trans h.bas_fwdSite
  bas_fwdSent := k.bas_fwdSent.trans h.bas_fwdSent
  ring_cycle := k.ring_cycle.trans h.ring_cycle
  ring_window := k.ring_window.trans h.ring_window
  ring_winLeft := k.ring_winLeft.trans h.ring_winLeft
  ring_epoch := k.ring_epoch.trans h.ring_epoch
  ring_raiseTo := k.ring_raiseTo.trans h.ring_raiseTo
  ring_raiseLeft := k.ring_raiseLeft.trans h.ring_raiseLeft
  ring_plan := k.ring_plan.trans h.ring_plan
  ring_slotPlan := k.ring_slotPlan.trans h.ring_slotPlan
  ring_skew := k.ring_skew.trans h.ring_skew
  ring_moved := k.ring_moved.trans h.ring_moved
  ring_scan := k.ring_scan.trans h.ring_scan
  ring_enumWait := k.ring_enumWait.trans h.ring_enumWait
  ring_enumRings := k.ring_enumRings.trans h.ring_enumRings
  ring_queues := k.ring_queues.trans h.ring_queues
  ring_enumDone := k.ring_enumDone.trans h.ring_enumDone
  ring_stateA := k.ring_stateA.trans h.ring_stateA
  ring_stateB := k.ring_stateB.trans h.ring_stateB
  ring_openA := k.ring_openA.trans h.ring_openA
  ring_openB := k.ring_openB.trans h.ring_openB
  ring_ports := k.ring_ports.trans h.ring_ports
  ring_plans := k.ring_plans.trans h.ring_plans
  stg_cabinets := k.stg_cabinets.trans h.stg_cabinets
  cool_recs := k.cool_recs.trans h.cool_recs
  cool_fwdSamples := k.cool_fwdSamples.trans h.cool_fwdSamples
  cool_fwdObserver := k.cool_fwdObserver.trans h.cool_fwdObserver
  met_recs := k.met_recs.trans h.met_recs
  met_cals := k.met_cals.trans h.met_cals
  met_calSeq := k.met_calSeq.trans h.met_calSeq
  met_sealCount := k.met_sealCount.trans h.met_sealCount
  met_sealEnd := k.met_sealEnd.trans h.met_sealEnd
  met_stores := k.met_stores.trans h.met_stores
  met_apply := k.met_apply.trans h.met_apply
  met_pulses := k.met_pulses.trans h.met_pulses
  met_legs := k.met_legs.trans h.met_legs
  met_steps := k.met_steps.trans h.met_steps
  met_calm := k.met_calm.trans h.met_calm
  met_ticks := k.met_ticks.trans h.met_ticks
  met_ready := k.met_ready.trans h.met_ready
  met_clock := k.met_clock.trans h.met_clock
  tune_gens := k.tune_gens.trans h.tune_gens
  flt_reactions := k.flt_reactions.trans h.flt_reactions
  flt_request := k.flt_request.trans h.flt_request

theorem ReportFrame.foldl {α : Type} (g : State → α → State) (hg : ∀ s a, ReportFrame s (g s a)) (l : List α) (s : State) :
    ReportFrame s (l.foldl g s) := by
  induction l generalizing s with
  | nil => exact ReportFrame.refl s
  | cons a l ih => exact (hg s a).trans (ih _)

theorem RaiseFrame.report {s t : State} (h : RaiseFrame s t) : ReportFrame s t := by
  obtain ⟨⟩ := h
  constructor <;> first | assumption | simp_all

theorem State.report_raise (s : State) (a c o : Nat) : ReportFrame s (s.raise a c o) := (State.raise_frame s a c o).report

theorem State.report_fenceInst (s : State) (i cause : Nat) : ReportFrame s (s.fenceInst i cause) := by
  unfold State.fenceInst
  dsimp only
  split
  · split
    · constructor <;> rfl
    · exact ReportFrame.trans (by constructor <;> rfl) (State.report_raise _ _ _ _)
  · split
    · constructor <;> rfl
    · exact .refl s

theorem State.report_halveInst (s : State) (i : Nat) : ReportFrame s (s.halveInst i) := by
  unfold State.halveInst
  split
  · constructor <;> rfl
  · exact ReportFrame.trans (by constructor <;> rfl) (State.report_raise _ _ _ _)

theorem State.report_noteDegraded (s : State) : ReportFrame s s.noteDegraded := by
  unfold State.noteDegraded
  dsimp only
  split
  · exact .refl s
  · exact ReportFrame.trans (by constructor <;> rfl) (State.report_raise _ _ _ _)

theorem State.report_endCmd (s : State) (uid st : Nat) (r d : List Byte) (n i : Nat) : ReportFrame s (s.endCmd uid st r d n i) := by
  unfold State.endCmd
  repeat' split
  all_goals first | exact .refl s | (constructor <;> rfl)

theorem State.report_stopStage (s : State) (o state cause st : Nat) : ReportFrame s (s.stopStage o state cause st) := by
  unfold State.stopStage
  dsimp only
  repeat' split
  all_goals first
    | exact ReportFrame.trans (by constructor <;> rfl) (State.report_endCmd ..)
    | (constructor <;> rfl)

theorem State.report_fenceStage (s : State) (o : Nat) : ReportFrame s (s.fenceStage o) := by
  unfold State.fenceStage
  dsimp only
  split
  · exact ReportFrame.trans (by constructor <;> rfl) (State.report_stopStage ..)
  · exact .refl s

theorem State.report_fenceCircuit (s : State) (n : Nat) : ReportFrame s (s.fenceCircuit n) :=
  ReportFrame.trans (by constructor <;> rfl) (ReportFrame.foldl _ (fun _ _ => State.report_endCmd ..) _ _)

theorem State.report_applyHold0 (s : State) (kind object r source : Nat) : ReportFrame s (s.applyHold0 kind object r source) := by
  unfold State.applyHold0
  split
  · exact .refl s
  · split
    · unfold State.holdInst
      repeat' split
      all_goals first | exact .refl s | exact State.report_fenceInst .. | (constructor <;> rfl)
    · exact ReportFrame.trans (by constructor <;> rfl) (ReportFrame.foldl _ (fun _ _ => State.report_fenceInst ..) _ _)
    · exact State.report_fenceStage s object
    · constructor <;> rfl
    · split
      · exact State.report_fenceCircuit s object
      · exact .refl s
    · split
      · constructor <;> rfl
      · exact .refl s
    · exact .refl s

/-- A report whose reaction keeps the frame keeps it. -/
theorem State.report_reportWith (apply : State → Nat → Nat → Nat → Nat → State) (h : ∀ s k o r n, ReportFrame s (apply s k o r n))
    (s : State) (source object : Nat) : ReportFrame s (State.reportWith apply s source object) := by
  unfold State.reportWith
  split
  · exact .refl s
  · split
    · exact .refl s
    · dsimp only
      refine ReportFrame.trans ?_ (State.report_noteDegraded _)
      have h1 : ∀ (b : Bool) (u : State) (c o : Nat), ReportFrame u (if b = true then u.raise 0x12 c o else u) := by
        intro b u c o
        split
        · exact State.report_raise ..
        · exact .refl u
      have h2 : ∀ (p : Prop) [Decidable p] (u : State) (hs : List Hold),
          ReportFrame u (if p then u else { u with flt := { u.flt with holds := hs } }) := by
        intro p _ u hs
        split
        · exact .refl u
        · constructor <;> rfl
      have h3 : ∀ (p : Prop) [Decidable p] (u : State) (l : List Nat),
          ReportFrame u (if p then { u with flt := { u.flt with tripReq := l } } else u) := by
        intro p _ u l
        split
        · constructor <;> rfl
        · exact .refl u
      refine ReportFrame.trans ?_ (h3 _ _ _)
      refine ReportFrame.trans ?_ (h _ _ _ _ _)
      refine ReportFrame.trans ?_ (h2 _ _ _)
      refine ReportFrame.trans ?_ (h1 _ _ _ _)
      constructor <;> rfl

theorem State.report_report0 (s : State) (source object : Nat) : ReportFrame s (s.report0 source object) :=
  State.report_reportWith _ State.report_applyHold0 s source object

theorem State.report_demoteNode (s : State) (node : Nat) : ReportFrame s (s.demoteNode node) := by
  unfold State.demoteNode
  refine ReportFrame.trans (by constructor <;> rfl) (ReportFrame.foldl _ (fun u i => ?_) _ _)
  repeat' split
  · constructor <;> rfl
  · exact State.report_halveInst u i
  · exact State.report_report0 ..
  · exact .refl u

/-- A report of a fault changes the collector and what its reaction reaches, and nothing else (R522 to R528). -/
theorem State.report_frame (s : State) (source object : Nat) : ReportFrame s (s.report source object) := by
  refine State.report_reportWith _ (fun u k o r n => ?_) s source object
  unfold State.applyHold
  split
  · exact State.report_demoteNode u o
  · exact State.report_applyHold0 ..


@[simp] theorem State.report_pending (s : State) (a o : Nat) : (s.report a o).pending = s.pending := (State.report_frame s a o).pending
@[simp] theorem State.report_now (s : State) (a o : Nat) : (s.report a o).now = s.now := (State.report_frame s a o).now
@[simp] theorem State.report_par (s : State) (a o : Nat) : (s.report a o).par = s.par := (State.report_frame s a o).par
@[simp] theorem State.report_lv (s : State) (a o : Nat) : (s.report a o).lv = s.lv := (State.report_frame s a o).lv
@[simp] theorem State.report_ses (s : State) (a o : Nat) : (s.report a o).ses = s.ses := (State.report_frame s a o).ses
@[simp] theorem State.report_bil (s : State) (a o : Nat) : (s.report a o).bil = s.bil := (State.report_frame s a o).bil
@[simp] theorem State.report_gau (s : State) (a o : Nat) : (s.report a o).gau = s.gau := (State.report_frame s a o).gau
@[simp] theorem State.report_pt (s : State) (a o : Nat) : (s.report a o).pt = s.pt := (State.report_frame s a o).pt
@[simp] theorem State.report_plc (s : State) (a o : Nat) : (s.report a o).plc = s.plc := (State.report_frame s a o).plc
@[simp] theorem State.report_can (s : State) (a o : Nat) : (s.report a o).can = s.can := (State.report_frame s a o).can
@[simp] theorem State.report_obs (s : State) (a o : Nat) : (s.report a o).obs = s.obs := (State.report_frame s a o).obs
@[simp] theorem State.report_grn (s : State) (a o : Nat) : (s.report a o).grn = s.grn := (State.report_frame s a o).grn
@[simp] theorem State.report_pair (s : State) (a o : Nat) : (s.report a o).pair = s.pair := (State.report_frame s a o).pair
@[simp] theorem State.report_sys (s : State) (a o : Nat) : (s.report a o).sys = s.sys := (State.report_frame s a o).sys
@[simp] theorem State.report_pins (s : State) (a o : Nat) : (s.report a o).pins = s.pins := (State.report_frame s a o).pins
@[simp] theorem State.report_mbx_hosts (s : State) (a o : Nat) : (s.report a o).mbx.hosts = s.mbx.hosts := (State.report_frame s a o).mbx_hosts
@[simp] theorem State.report_mbx_qp (s : State) (a o : Nat) : (s.report a o).mbx.qp = s.mbx.qp := (State.report_frame s a o).mbx_qp
@[simp] theorem State.report_mbx_nextUid (s : State) (a o : Nat) : (s.report a o).mbx.nextUid = s.mbx.nextUid := (State.report_frame s a o).mbx_nextUid
@[simp] theorem State.report_mbx_ptrNormal (s : State) (a o : Nat) : (s.report a o).mbx.ptrNormal = s.mbx.ptrNormal := (State.report_frame s a o).mbx_ptrNormal
@[simp] theorem State.report_mbx_ptrHigh (s : State) (a o : Nat) : (s.report a o).mbx.ptrHigh = s.mbx.ptrHigh := (State.report_frame s a o).mbx_ptrHigh
@[simp] theorem State.report_mbx_highRun (s : State) (a o : Nat) : (s.report a o).mbx.highRun = s.mbx.highRun := (State.report_frame s a o).mbx_highRun
@[simp] theorem State.report_mbx_pcieUp (s : State) (a o : Nat) : (s.report a o).mbx.pcieUp = s.mbx.pcieUp := (State.report_frame s a o).mbx_pcieUp
@[simp] theorem State.report_mbx_masters (s : State) (a o : Nat) : (s.report a o).mbx.masters = s.mbx.masters := (State.report_frame s a o).mbx_masters
@[simp] theorem State.report_mbx_master (s : State) (a o : Nat) : (s.report a o).mbx.master = s.mbx.master := (State.report_frame s a o).mbx_master
@[simp] theorem State.report_mbx_ptpSync (s : State) (a o : Nat) : (s.report a o).mbx.ptpSync = s.mbx.ptpSync := (State.report_frame s a o).mbx_ptpSync
@[simp] theorem State.report_mbx_ptpSeq (s : State) (a o : Nat) : (s.report a o).mbx.ptpSeq = s.mbx.ptpSeq := (State.report_frame s a o).mbx_ptpSeq
@[simp] theorem State.report_mbx_ptpReq (s : State) (a o : Nat) : (s.report a o).mbx.ptpReq = s.mbx.ptpReq := (State.report_frame s a o).mbx_ptpReq
@[simp] theorem State.report_mbx_pathDelay (s : State) (a o : Nat) : (s.report a o).mbx.pathDelay = s.mbx.pathDelay := (State.report_frame s a o).mbx_pathDelay
@[simp] theorem State.report_mbx_sysOffset (s : State) (a o : Nat) : (s.report a o).mbx.sysOffset = s.mbx.sysOffset := (State.report_frame s a o).mbx_sysOffset
@[simp] theorem State.report_mbx_holdover (s : State) (a o : Nat) : (s.report a o).mbx.holdover = s.mbx.holdover := (State.report_frame s a o).mbx_holdover
@[simp] theorem State.report_mbx_timeLocked (s : State) (a o : Nat) : (s.report a o).mbx.timeLocked = s.mbx.timeLocked := (State.report_frame s a o).mbx_timeLocked
@[simp] theorem State.report_bas_coeffs (s : State) (a o : Nat) : (s.report a o).bas.coeffs = s.bas.coeffs := (State.report_frame s a o).bas_coeffs
@[simp] theorem State.report_bas_reps (s : State) (a o : Nat) : (s.report a o).bas.reps = s.bas.reps := (State.report_frame s a o).bas_reps
@[simp] theorem State.report_bas_site (s : State) (a o : Nat) : (s.report a o).bas.site = s.bas.site := (State.report_frame s a o).bas_site
@[simp] theorem State.report_bas_refWait (s : State) (a o : Nat) : (s.report a o).bas.refWait = s.bas.refWait := (State.report_frame s a o).bas_refWait
@[simp] theorem State.report_bas_sentRun (s : State) (a o : Nat) : (s.report a o).bas.sentRun = s.bas.sentRun := (State.report_frame s a o).bas_sentRun
@[simp] theorem State.report_bas_repWait (s : State) (a o : Nat) : (s.report a o).bas.repWait = s.bas.repWait := (State.report_frame s a o).bas_repWait
@[simp] theorem State.report_bas_fwdFrames (s : State) (a o : Nat) : (s.report a o).bas.fwdFrames = s.bas.fwdFrames := (State.report_frame s a o).bas_fwdFrames
@[simp] theorem State.report_bas_fwdMissed (s : State) (a o : Nat) : (s.report a o).bas.fwdMissed = s.bas.fwdMissed := (State.report_frame s a o).bas_fwdMissed
@[simp] theorem State.report_bas_fwdSite (s : State) (a o : Nat) : (s.report a o).bas.fwdSite = s.bas.fwdSite := (State.report_frame s a o).bas_fwdSite
@[simp] theorem State.report_bas_fwdSent (s : State) (a o : Nat) : (s.report a o).bas.fwdSent = s.bas.fwdSent := (State.report_frame s a o).bas_fwdSent
@[simp] theorem State.report_ring_cycle (s : State) (a o : Nat) : (s.report a o).ring.cycle = s.ring.cycle := (State.report_frame s a o).ring_cycle
@[simp] theorem State.report_ring_window (s : State) (a o : Nat) : (s.report a o).ring.window = s.ring.window := (State.report_frame s a o).ring_window
@[simp] theorem State.report_ring_winLeft (s : State) (a o : Nat) : (s.report a o).ring.winLeft = s.ring.winLeft := (State.report_frame s a o).ring_winLeft
@[simp] theorem State.report_ring_epoch (s : State) (a o : Nat) : (s.report a o).ring.epoch = s.ring.epoch := (State.report_frame s a o).ring_epoch
@[simp] theorem State.report_ring_raiseTo (s : State) (a o : Nat) : (s.report a o).ring.raiseTo = s.ring.raiseTo := (State.report_frame s a o).ring_raiseTo
@[simp] theorem State.report_ring_raiseLeft (s : State) (a o : Nat) : (s.report a o).ring.raiseLeft = s.ring.raiseLeft := (State.report_frame s a o).ring_raiseLeft
@[simp] theorem State.report_ring_plan (s : State) (a o : Nat) : (s.report a o).ring.plan = s.ring.plan := (State.report_frame s a o).ring_plan
@[simp] theorem State.report_ring_slotPlan (s : State) (a o : Nat) : (s.report a o).ring.slotPlan = s.ring.slotPlan := (State.report_frame s a o).ring_slotPlan
@[simp] theorem State.report_ring_skew (s : State) (a o : Nat) : (s.report a o).ring.skew = s.ring.skew := (State.report_frame s a o).ring_skew
@[simp] theorem State.report_ring_moved (s : State) (a o : Nat) : (s.report a o).ring.moved = s.ring.moved := (State.report_frame s a o).ring_moved
@[simp] theorem State.report_ring_scan (s : State) (a o : Nat) : (s.report a o).ring.scan = s.ring.scan := (State.report_frame s a o).ring_scan
@[simp] theorem State.report_ring_enumWait (s : State) (a o : Nat) : (s.report a o).ring.enumWait = s.ring.enumWait := (State.report_frame s a o).ring_enumWait
@[simp] theorem State.report_ring_enumRings (s : State) (a o : Nat) : (s.report a o).ring.enumRings = s.ring.enumRings := (State.report_frame s a o).ring_enumRings
@[simp] theorem State.report_ring_queues (s : State) (a o : Nat) : (s.report a o).ring.queues = s.ring.queues := (State.report_frame s a o).ring_queues
@[simp] theorem State.report_ring_enumDone (s : State) (a o : Nat) : (s.report a o).ring.enumDone = s.ring.enumDone := (State.report_frame s a o).ring_enumDone
@[simp] theorem State.report_ring_stateA (s : State) (a o : Nat) : (s.report a o).ring.stateA = s.ring.stateA := (State.report_frame s a o).ring_stateA
@[simp] theorem State.report_ring_stateB (s : State) (a o : Nat) : (s.report a o).ring.stateB = s.ring.stateB := (State.report_frame s a o).ring_stateB
@[simp] theorem State.report_ring_openA (s : State) (a o : Nat) : (s.report a o).ring.openA = s.ring.openA := (State.report_frame s a o).ring_openA
@[simp] theorem State.report_ring_openB (s : State) (a o : Nat) : (s.report a o).ring.openB = s.ring.openB := (State.report_frame s a o).ring_openB
@[simp] theorem State.report_ring_ports (s : State) (a o : Nat) : (s.report a o).ring.ports = s.ring.ports := (State.report_frame s a o).ring_ports
@[simp] theorem State.report_ring_plans (s : State) (a o : Nat) : (s.report a o).ring.plans = s.ring.plans := (State.report_frame s a o).ring_plans
@[simp] theorem State.report_stg_cabinets (s : State) (a o : Nat) : (s.report a o).stg.cabinets = s.stg.cabinets := (State.report_frame s a o).stg_cabinets
@[simp] theorem State.report_cool_recs (s : State) (a o : Nat) : (s.report a o).cool.recs = s.cool.recs := (State.report_frame s a o).cool_recs
@[simp] theorem State.report_cool_fwdSamples (s : State) (a o : Nat) : (s.report a o).cool.fwdSamples = s.cool.fwdSamples := (State.report_frame s a o).cool_fwdSamples
@[simp] theorem State.report_cool_fwdObserver (s : State) (a o : Nat) : (s.report a o).cool.fwdObserver = s.cool.fwdObserver := (State.report_frame s a o).cool_fwdObserver
@[simp] theorem State.report_met_recs (s : State) (a o : Nat) : (s.report a o).met.recs = s.met.recs := (State.report_frame s a o).met_recs
@[simp] theorem State.report_met_cals (s : State) (a o : Nat) : (s.report a o).met.cals = s.met.cals := (State.report_frame s a o).met_cals
@[simp] theorem State.report_met_calSeq (s : State) (a o : Nat) : (s.report a o).met.calSeq = s.met.calSeq := (State.report_frame s a o).met_calSeq
@[simp] theorem State.report_met_sealCount (s : State) (a o : Nat) : (s.report a o).met.sealCount = s.met.sealCount := (State.report_frame s a o).met_sealCount
@[simp] theorem State.report_met_sealEnd (s : State) (a o : Nat) : (s.report a o).met.sealEnd = s.met.sealEnd := (State.report_frame s a o).met_sealEnd
@[simp] theorem State.report_met_stores (s : State) (a o : Nat) : (s.report a o).met.stores = s.met.stores := (State.report_frame s a o).met_stores
@[simp] theorem State.report_met_apply (s : State) (a o : Nat) : (s.report a o).met.apply = s.met.apply := (State.report_frame s a o).met_apply
@[simp] theorem State.report_met_pulses (s : State) (a o : Nat) : (s.report a o).met.pulses = s.met.pulses := (State.report_frame s a o).met_pulses
@[simp] theorem State.report_met_legs (s : State) (a o : Nat) : (s.report a o).met.legs = s.met.legs := (State.report_frame s a o).met_legs
@[simp] theorem State.report_met_steps (s : State) (a o : Nat) : (s.report a o).met.steps = s.met.steps := (State.report_frame s a o).met_steps
@[simp] theorem State.report_met_calm (s : State) (a o : Nat) : (s.report a o).met.calm = s.met.calm := (State.report_frame s a o).met_calm
@[simp] theorem State.report_met_ticks (s : State) (a o : Nat) : (s.report a o).met.ticks = s.met.ticks := (State.report_frame s a o).met_ticks
@[simp] theorem State.report_met_ready (s : State) (a o : Nat) : (s.report a o).met.ready = s.met.ready := (State.report_frame s a o).met_ready
@[simp] theorem State.report_met_clock (s : State) (a o : Nat) : (s.report a o).met.clock = s.met.clock := (State.report_frame s a o).met_clock
@[simp] theorem State.report_tune_gens (s : State) (a o : Nat) : (s.report a o).tune.gens = s.tune.gens := (State.report_frame s a o).tune_gens
@[simp] theorem State.report_flt_reactions (s : State) (a o : Nat) : (s.report a o).flt.reactions = s.flt.reactions := (State.report_frame s a o).flt_reactions
@[simp] theorem State.report_flt_request (s : State) (a o : Nat) : (s.report a o).flt.request = s.flt.request := (State.report_frame s a o).flt_request

/-- What makes a reset due (R576): the record of the reset due alone changes; it is the new one, or a cold reset that was due stands. -/
theorem State.resetAt_spec (s : State) (k c t : Nat) :
    s.resetAt k c t = { s with sys := { s.sys with resetDue := some (k, c, t) } } ∨
      (s.resetAt k c t = s ∧ ∃ c' t', s.sys.resetDue = some (0, c', t') ∧ (k = 1 ∨ t' ≤ t)) := by
  unfold State.resetAt
  split
  · rename_i c' t' hd
    by_cases h : k = 1 ∨ t' ≤ t
    · exact .inr ⟨by simp [h], c', t', hd, h⟩
    · exact .inl (by simp [h])
  · exact .inl (by simp)

end Sys2Proof.Machine
end

