-- ==== Sys2Proof/WellFormed.lean ====
section
/-!
DEFINITION. Well-formed commands: every operand within the range that the spec gives its field or object. The meanings are total and take any
operand; an ill-formed command names nothing that exists.
-/
namespace Sys2Proof

/-- A descriptor of 64 bytes with at most 64 KiB of data (R55). -/
def descOk (d : Machine.Desc) : Bool := decide (d.bytes.length = 64) && decide (d.data.length ≤ 65536)

/-- A member that answers a scan: an identity of 16 bytes, a ring, distances below 1,024 spans (R147), a 16-bit parent, a branch port and a 32-bit epoch. -/
def memberOk (m : Machine.ScanMember) : Bool :=
  decide (m.identity.length = 16) && decide (m.ring < 2) && m.west.all (fun d => decide (d < 1024)) && m.east.all (fun d => decide (d < 1024)) &&
  decide (m.parent < 65536) && decide (m.port < 2) && decide (m.epoch < 2 ^ 32)

/-- The operands of a command lie in the ranges of the spec: 16 queue pairs (R48), 16-bit tags (R55), a 1 MiB window (R37), 16 host-table entries (R31),
16-bit node addresses (R158), 1,023 hops (R147), 256 outlets, contexts and circuits (R30), 2,048 instances (R30), 512 ledger slots (R106), 264 channels
(R30), 32 strings (R30), 4 CAN controllers (R443), 512 connections (R509), 512 sources (R522), and so on. -/
def wellFormed : Instr → Bool
  | .mbxHostSet q tag => decide (q < 16) && decide (tag < 65536)
  | .mbxEventWait q tag => decide (q < 16) && decide (tag < 65536)
  | .mbxAbort q tag => decide (q < 16) && decide (tag < 65536)
  | .mbxSqTailDb q tail => decide (q < 16) && decide (tail < 128)
  | .mbxCqHeadDb q head => decide (q < 16) && decide (head < 128)
  | .queueEnable q => decide (q < 16)
  | .queueDisable q => decide (q < 16)
  | .queueDrained q => decide (q < 16)
  | .registerWrite offset _value => decide (offset < 2 ^ 20)
  | .tlsHandshake port keyHash _offer => decide (2 ≤ port ∧ port ≤ 4) && decide (keyHash.length = 32)
  | .submit entry q descs => decide (entry < 16) && decide (q < 16) && descs.all descOk
  | .cqAck entry q _count => decide (entry < 16) && decide (q < 16)
  | .keepalive entry => decide (entry < 16)
  | .badHostMessage entry => decide (entry < 16)
  | .tlsSessionClosed entry => decide (entry < 16)
  | .hostKeepaliveTimeout entry => decide (entry < 16)
  | .keepaliveSendDue entry => decide (entry < 16)
  | .tlsKeyUpdateDue entry => decide (entry < 16)
  | .pcieLinkDown => true
  | .pcieFunctionReset => true
  | .perstN _high => true
  | .descriptorFetch dma => descOk dma
  | .completionPost q tag => decide (q < 16) && decide (tag < 65536)
  | .irqCoalesceExpiry q => decide (q < 16)
  | .ptpMessage port _msg => decide (2 ≤ port ∧ port ≤ 4)
  | .ptpMasterLost => true
  | .parGet q tag => decide (q < 16) && decide (tag < 65536)
  | .parDescribe q tag => decide (q < 16) && decide (tag < 65536)
  | .parSet q tag => decide (q < 16) && decide (tag < 65536)
  | .nvStore q tag => decide (q < 16) && decide (tag < 65536)
  | .nvStoreSegment _verified => true
  | .nvLeaveWaitExpiry => true
  | .nvSelect q tag => decide (q < 16) && decide (tag < 65536)
  | .nvCommit q tag => decide (q < 16) && decide (tag < 65536)
  | .nvStatus q tag => decide (q < 16) && decide (tag < 65536)
  | .nvExport q tag => decide (q < 16) && decide (tag < 65536)
  | .exportBufferTimeout => true
  | .nvImport q tag => decide (q < 16) && decide (tag < 65536)
  | .importBufferTimeout => true
  | .systemLogAppend entries => (entries.all fun e => decide (e.length ≤ 65536))
  | .workLeaveGrant kind => decide (kind < 2)
  | .workOperationEnd _id => true
  | .leaveRequest q tag => decide (q < 16) && decide (tag < 65536)
  | .leaveChange q tag => decide (q < 16) && decide (tag < 65536)
  | .leaveRelease q tag => decide (q < 16) && decide (tag < 65536)
  | .leaveRead q tag => decide (q < 16) && decide (tag < 65536)
  | .lvGridSet q tag => decide (q < 16) && decide (tag < 65536)
  | .lvCapmapSet q tag => decide (q < 16) && decide (tag < 65536)
  | .lvShareSet q tag => decide (q < 16) && decide (tag < 65536)
  | .shareVersionCommit => true
  | .shareStoreTimeout => true
  | .arbiterMicrosecond => true
  | .setpointExpiry => true
  | .reclaimNoticeEnd slot => decide (slot < 512)
  | .leaveWaitExpiry slot => decide (slot < 512)
  | .ledgerPublication => true
  | .importExcessDetected _importKw _deliveredKw => true
  | .bufferDeliveryRestored _deliveredKw => true
  | .ringCycle => true
  | .loopWindow => true
  | .upstreamLoopFrame frame => decide (frame.bytes.length ≤ 512)
  | .slotDeadline node window => decide (node < 65536) && decide (window < 2 ^ 33)
  | .reportRecord node code arg epoch => decide (node < 65536) && decide (code < 256) && decide (arg < 256) && decide (epoch < 2 ^ 32)
  | .switchedFrame node side hops => decide (node < 65536) && decide (side < 2) && decide (hops.spans < 1024)
  | .nodeStatusBlock _status => true
  | .nodeSilence node => decide (node < 65536)
  | .nodeFramesAgain node epoch => decide (node < 65536) && decide (epoch < 2 ^ 32)
  | .foreignNodeSeen node epoch => decide (node < 65536) && decide (epoch < 2 ^ 32)
  | .claimAccepted node epoch side hops => decide (node < 65536) && decide (epoch < 2 ^ 32) && decide (side < 2) && decide (hops < 1024)
  | .ownHeadersNotReturned ring => decide (ring < 2)
  | .cageLockChange cage _lock => decide (cage < 6)
  | .enumerationScan ring members => decide (ring < 2) && members.all memberOk
  | .ringNodeSet q tag => decide (q < 16) && decide (tag < 65536)
  | .ringNodeRead q tag => decide (q < 16) && decide (tag < 65536)
  | .ringScan q tag members => decide (q < 16) && decide (tag < 65536) && members.all memberOk
  | .ringNodeRestore q tag => decide (q < 16) && decide (tag < 65536)
  | .opticalModuleInserted cage _present _rateMbit => decide (cage < 6)
  | .basLoad q tag => decide (q < 16) && decide (tag < 65536)
  | .basArm q tag => decide (q < 16) && decide (tag < 65536)
  | .trackingReportTimeout inst => decide (inst < 2048)
  | .basFreeze q tag => decide (q < 16) && decide (tag < 65536)
  | .basDisarm q tag => decide (q < 16) && decide (tag < 65536)
  | .basRefSet q tag => decide (q < 16) && decide (tag < 65536)
  | .basHandover q tag => decide (q < 16) && decide (tag < 65536)
  | .basRead q tag => decide (q < 16) && decide (tag < 65536)
  | .basRep q tag => decide (q < 16) && decide (tag < 65536)
  | .tuneTraceSet q tag => decide (q < 16) && decide (tag < 65536)
  | .tuneTraceTrigger q tag => decide (q < 16) && decide (tag < 65536)
  | .tuneTraceStop q tag => decide (q < 16) && decide (tag < 65536)
  | .tuneTraceRead q tag => decide (q < 16) && decide (tag < 65536)
  | .tuneStatus q tag => decide (q < 16) && decide (tag < 65536)
  | .traceSample buffer => decide (buffer < 32)
  | .tuneInjStart q tag => decide (q < 16) && decide (tag < 65536)
  | .tuneInjStop q tag => decide (q < 16) && decide (tag < 65536)
  | .injectionLengthReached gen => decide (gen < 16)
  | .tuneCapRead q tag => decide (q < 16) && decide (tag < 65536)
  | .stgConfig q tag => decide (q < 16) && decide (tag < 65536)
  | .stgCheck q tag => decide (q < 16) && decide (tag < 65536)
  | .checkResult node stage seq _failed => decide (node < 65536) && decide (stage < 2 ^ 19) && decide (seq < 65536)
  | .checkTimeout stage => decide (stage < 2 ^ 19)
  | .tokenExpiry stage => decide (stage < 2 ^ 19)
  | .stgEnable q tag => decide (q < 16) && decide (tag < 65536)
  | .softStartEnd stage => decide (stage < 2 ^ 19)
  | .softStartTimeout stage => decide (stage < 2 ^ 19)
  | .softStartShort stage => decide (stage < 2 ^ 19)
  | .stgDisable q tag => decide (q < 16) && decide (tag < 65536)
  | .stgRead q tag => decide (q < 16) && decide (tag < 65536)
  | .phaseFenceReport stage _fenced => decide (stage < 2 ^ 19)
  | .holdRampZero stage => decide (stage < 2 ^ 19)
  | .coolConfig q tag => decide (q < 16) && decide (tag < 65536)
  | .coolStart q tag => decide (q < 16) && decide (tag < 65536)
  | .coolStop q tag => decide (q < 16) && decide (tag < 65536)
  | .coolReset q tag => decide (q < 16) && decide (tag < 65536)
  | .coolRead q tag => decide (q < 16) && decide (tag < 65536)
  | .coolingSample circuit _tIn _tOut _flow _pump _pin0 _pin1 => decide (circuit < 256)
  | .coolingObserverCycle => true
  | .inputLost circuit input => decide (circuit < 256) && decide (input < 3)
  | .inputValidAgain circuit input => decide (circuit < 256) && decide (input < 3)
  | .primingDone circuit => decide (circuit < 256)
  | .primingTimeout circuit => decide (circuit < 256)
  | .coolRunonExpiry circuit => decide (circuit < 256)
  | .sesOutletConfig q tag => decide (q < 16) && decide (tag < 65536)
  | .sesOutletState q tag => decide (q < 16) && decide (tag < 65536)
  | .sesAuthorise q tag => decide (q < 16) && decide (tag < 65536)
  | .sesStop q tag => decide (q < 16) && decide (tag < 65536)
  | .sesRead q tag => decide (q < 16) && decide (tag < 65536)
  | .connectionEvent node connector seq _event => decide (node < 65536) && decide (connector < 4) && decide (seq < 2 ^ 32)
  | .linkEvent node connector seq _up => decide (node < 65536) && decide (connector < 4) && decide (seq < 2 ^ 32)
  | .vehicleFrame node connector seq mac frame => decide (node < 65536) && decide (connector < 4) && decide (seq < 2 ^ 32) && decide (mac < 2 ^ 48) && decide (60 ≤ frame.length ∧ frame.length ≤ 1518 ∧ frame.ip < 2 ^ 128)
  | .sessionLimitsCycle => true
  | .noContextRetry outlet => decide (outlet < 256)
  | .sesLinkTimeout context => decide (context < 256)
  | .authTimeout context => decide (context < 256)
  | .cableCheckTimeout context => decide (context < 256)
  | .demandTimeout context => decide (context < 256)
  | .shrinkTimer context => decide (context < 256)
  | .regrantTimer context => decide (context < 256)
  | .stopCurrentLow context => decide (context < 256)
  | .estopTimeout context => decide (context < 256)
  | .overvoltageDetected context => decide (context < 256)
  | .reverseCurrentDetected context => decide (context < 256)
  | .weldCheckTimeout outlet => decide (outlet < 256)
  | .metChanConfig q tag => decide (q < 16) && decide (tag < 65536)
  | .metCalSet q tag => decide (q < 16) && decide (tag < 65536)
  | .metSeal q tag => decide (q < 16) && decide (tag < 65536)
  | .sealExpiry => true
  | .metRead q tag => decide (q < 16) && decide (tag < 65536)
  | .metHarmRead q tag => decide (q < 16) && decide (tag < 65536)
  | .metCalRead q tag => decide (q < 16) && decide (tag < 65536)
  | .metPulseSet q tag => decide (q < 16) && decide (tag < 65536)
  | .metLegSelect q tag => decide (q < 16) && decide (tag < 65536)
  | .sampleBlock _block => true
  | .legalTick _j2 => true
  | .gapExceeded channel => decide (channel < 264)
  | .overrangePersisted channel => decide (channel < 264)
  | .channelStarted channel => decide (channel < 264)
  | .channelBack channel => decide (channel < 264)
  | .gainStepUp input => decide (input < 8)
  | .harmonicWindowEnd channel freq _blocks => decide (channel < 264) && decide (freq < 65536)
  | .pulseBacklogPersisted output => decide (output < 8)
  | .checkValueRecompute _value => true
  | .displayFrame => true
  | .journalWrite => true
  | .rtcWrite => true
  | .creditDeduction => true
  | .storeCopy => true
  | .finalCommit => true
  | .bilTariffSet q tag => decide (q < 16) && decide (tag < 65536)
  | .bilTariffAssign q tag => decide (q < 16) && decide (tag < 65536)
  | .bilAccountSet q tag => decide (q < 16) && decide (tag < 65536)
  | .bilAccountCredit q tag => decide (q < 16) && decide (tag < 65536)
  | .bilAccountRead q tag => decide (q < 16) && decide (tag < 65536)
  | .bilClockSet q tag => decide (q < 16) && decide (tag < 65536)
  | .bilReadingGet q tag => decide (q < 16) && decide (tag < 65536)
  | .bilRegisterSnap q tag => decide (q < 16) && decide (tag < 65536)
  | .bilLogRead q tag => decide (q < 16) && decide (tag < 65536)
  | .bilLogAck q tag => decide (q < 16) && decide (tag < 65536)
  | .bilStatus q tag => decide (q < 16) && decide (tag < 65536)
  | .gauStringConfig q tag => decide (q < 16) && decide (tag < 65536)
  | .gauRead q tag => decide (q < 16) && decide (tag < 65536)
  | .gauLearnSet q tag => decide (q < 16) && decide (tag < 65536)
  | .stringFrame canId data => decide (canId < 2 ^ 29) && decide (data.length ≤ 64)
  | .anchorHoldExpiry string => decide (string < 32)
  | .stringFrameTimeout string => decide (string < 32)
  | .gaugeJournalPeriodic => true
  | .gaugeReport => true
  | .gaugeDataStale => true
  | .batauxLow _written => true
  | .gaugeRestart => true
  | .hibernationEntry => true
  | .hibernationTick _shunts => true
  | .gaugeWake _cause => true
  | .ptRead q tag => decide (q < 16) && decide (tag < 65536)
  | .ptDump q tag => decide (q < 16) && decide (tag < 65536)
  | .ptPointSet q tag => decide (q < 16) && decide (tag < 65536)
  | .ptWrite q tag => decide (q < 16) && decide (tag < 65536)
  | .ptSubscribe q tag => decide (q < 16) && decide (tag < 65536)
  | .ptFetch q tag => decide (q < 16) && decide (tag < 65536)
  | .fetchWaitExpiry q tag => decide (q < 16) && decide (tag < 65536)
  | .ptStatus q tag => decide (q < 16) && decide (tag < 65536)
  | .catalogue node version _records => decide (node < 65536) && decide (version < 2 ^ 32)
  | .pointBatch node cycle _records => decide (node < 65536) && decide (cycle < 2 ^ 32)
  | .pointSiteCycle => true
  | .staleCheck => true
  | .plcNodeRead q tag => decide (q < 16) && decide (tag < 65536)
  | .plcTmapRead q tag => decide (q < 16) && decide (tag < 65536)
  | .plcTmapRefresh q tag => decide (q < 16) && decide (tag < 65536)
  | .plcMaskSet q tag => decide (q < 16) && decide (tag < 65536)
  | .pollCycle => true
  | .pollResponse _answer => true
  | .exchangeFailed node => decide (node < 65536)
  | .repoll node => decide (node < 65536)
  | .tmapRefreshDue node => decide (node < 65536)
  | .tmapRefreshStep _step => true
  | .discoveryWindow _answers => true
  | .foreignBeacon epoch _release => decide (epoch < 2 ^ 32)
  | .segmentSilence => true
  | .canConfig q tag => decide (q < 16) && decide (tag < 65536)
  | .canDetect q tag => decide (q < 16) && decide (tag < 65536)
  | .detectDwellExpiry controller => decide (controller < 4)
  | .detectTimeout controller => decide (controller < 4)
  | .canTx q tag => decide (q < 16) && decide (tag < 65536)
  | .canTxTimeout q tag => decide (q < 16) && decide (tag < 65536)
  | .canFrameSent controller _outcome => decide (controller < 4)
  | .canFrameReceived controller _rx => decide (controller < 4)
  | .canRxRead q tag => decide (q < 16) && decide (tag < 65536)
  | .canRxAck q tag => decide (q < 16) && decide (tag < 65536)
  | .canRecover q tag => decide (q < 16) && decide (tag < 65536)
  | .canStatus q tag => decide (q < 16) && decide (tag < 65536)
  | .canBusoff controller => decide (controller < 4)
  | .busoffHoldExpiry controller => decide (controller < 4)
  | .canRecovered controller => decide (controller < 4)
  | .canTsWrap => true
  | .obsStatus q tag => decide (q < 16) && decide (tag < 65536)
  | .obsSlotRead q tag => decide (q < 16) && decide (tag < 65536)
  | .obsChainRead q tag => decide (q < 16) && decide (tag < 65536)
  | .obsUpdate q tag => decide (q < 16) && decide (tag < 65536)
  | .enrolAckTimeout node => decide (node < 65536)
  | .obsAttest q tag => decide (q < 16) && decide (tag < 65536)
  | .obsDecommission q tag => decide (q < 16) && decide (tag < 65536)
  | .tamperDetected _sources => true
  | .remask => true
  | .serviceExpiry => true
  | .pairKeyAgreement _offer _shared _enrolments => true
  | .grnConfigLoad q tag => decide (q < 16) && decide (tag < 65536)
  | .grnConfigCommit q tag => decide (q < 16) && decide (tag < 65536)
  | .commitPulseTimeout => true
  | .grnRead q tag => decide (q < 16) && decide (tag < 65536)
  | .grnResetArm q tag => decide (q < 16) && decide (tag < 65536)
  | .resetArmExpiry => true
  | .grnTrip q tag => decide (q < 16) && decide (tag < 65536)
  | .grnConnRead q tag => decide (q < 16) && decide (tag < 65536)
  | .graniteCycle samples _refCount _headers => decide (samples.length ≤ 32)
  | .safetyTelegram _source _telegram => true
  | .connectionWatchdogExpiry conn => decide (conn < 512)
  | .connectionStartTimeout conn => decide (conn < 512)
  | .stateTelegramDue conn => decide (conn < 512)
  | .lockSetReceived _payload => true
  | .inputDiscrepancy input => decide (input < 16)
  | .sresetPulse _highUs _lowUs => true
  | .sresetTooLong => true
  | .testPulse output _highMv _lowMv => decide (output < 8)
  | .feedbackTimeout output => decide (output < 8)
  | .outputCurrentLimit output => decide (output < 8)
  | .moduleSafeState _configurationCheck => true
  | .graniteHalt => true
  | .fltRead q tag => decide (q < 16) && decide (tag < 65536)
  | .fltReactSet q tag => decide (q < 16) && decide (tag < 65536)
  | .fltClear q tag => decide (q < 16) && decide (tag < 65536)
  | .fltTest q tag => decide (q < 16) && decide (tag < 65536)
  | .faultReport source object => decide (source < 512) && decide (object < 2 ^ 32)
  | .queueStall q => decide (q < 16)
  | .collectorSelfCheck _live _shadow => true
  | .pairStatus q tag => decide (q < 16) && decide (tag < 65536)
  | .pairSwitchover q tag => decide (q < 16) && decide (tag < 65536)
  | .pairStatusMessage _status => true
  | .pairLinkLost _lock => true
  | .pairLinkLock _status => true
  | .mismatchRecheck => true
  | .imageSend => true
  | .imageReceived _image => true
  | .imageAck siteCycle => decide (siteCycle < 2 ^ 32)
  | .imageAckTimeout => true
  | .releaseMessage epoch siteCycle => decide (epoch < 2 ^ 32) && decide (siteCycle < 2 ^ 32)
  | .giveUp row => decide (row < 9)
  | .startWaitExpiry => true
  | .heal => true
  | .lockstepInputs _inputs => true
  | .switchDue => true
  | .sysReset q tag => decide (q < 16) && decide (tag < 65536)
  | .sysFwLoad q tag => decide (q < 16) && decide (tag < 65536)
  | .sysFwActivate q tag => decide (q < 16) && decide (tag < 65536)
  | .sysFwCommit q tag => decide (q < 16) && decide (tag < 65536)
  | .sysFwStatus q tag => decide (q < 16) && decide (tag < 65536)
  | .powerGood _mv => true
  | .powerFailWarning _mv => true
  | .holdupEnd domain => decide (domain < 4)
  | .hrstN _lowUs => true
  | .coldResetEffect => true
  | .watchdogExpiry => true
  | .pllUnlock pll => decide (pll < 6)
  | .metPllRelock _elapsedMs => true
  | .startupPhaseDone _phase => true
  | .bilClockLoRead => true
  | .islandLeaveTimeout q tag => decide (q < 16) && decide (tag < 65536)
  | .bulkLeaveTimeout q tag => decide (q < 16) && decide (tag < 65536)
  | .shuntSample input _nanovolts => decide (input < 8)
  | .enrolAck node startMa => decide (node < 65536) && decide (startMa < 65536)
  | .obsBkbatLow _mv => true
  | .switchoverTimeout => true
  | .fwActivatePulseTimeout => true
  | .protocolTimeout context => decide (context < 256)
  | .partnerRequest desc => descOk desc.desc
  | .partnerReply q tag status => decide (q < 16) && decide (tag < 65536) && decide (status < 256)
  | .partnerReplyTimeout q tag => decide (q < 16) && decide (tag < 65536)
  | .ppsSecond _rising => true

/-- A command is well-formed. -/
abbrev WellFormed (i : Instr) : Prop := wellFormed i = true

end Sys2Proof
end

