-- ==== Sys2Proof/Tests/Slice0.lean ====
section
/-!
SUPPORT. Tests: ill-formed commands that each check of WellFormed refuses, and for every statement small states and operands that meet the hypotheses
of each of its clauses, at boundary values where a clause has a range. The states are those that the hypotheses ask for; nothing is run.
-/
set_option maxRecDepth 20000


namespace Sys2Proof

/-! ### Ill-formed commands -/

/-- Mailbox commands as functions of the queue pair and tag (part 0). -/
theorem test_mailbox_forms_0 : (([
  Instr.mbxHostSet, Instr.mbxEventWait, Instr.mbxAbort, Instr.completionPost, Instr.parGet, Instr.parDescribe, Instr.parSet, Instr.nvStore,
  Instr.nvSelect, Instr.nvCommit, Instr.nvStatus, Instr.nvExport, Instr.nvImport, Instr.leaveRequest, Instr.leaveChange, Instr.leaveRelease,
  Instr.leaveRead, Instr.lvGridSet, Instr.lvCapmapSet, Instr.lvShareSet, Instr.ringNodeSet, Instr.ringNodeRead, Instr.ringNodeRestore, Instr.basLoad] : List (Nat → Nat → Instr)).all
  fun e => wellFormed (e 15 65535) && !wellFormed (e 16 0) && !wellFormed (e 0 65536)) = true := by decide

/-- Mailbox commands as functions of the queue pair and tag (part 1). -/
theorem test_mailbox_forms_1 : (([
  Instr.basArm, Instr.basFreeze, Instr.basDisarm, Instr.basRefSet, Instr.basHandover, Instr.basRead, Instr.basRep, Instr.tuneTraceSet,
  Instr.tuneTraceTrigger, Instr.tuneTraceStop, Instr.tuneTraceRead, Instr.tuneStatus, Instr.tuneInjStart, Instr.tuneInjStop, Instr.tuneCapRead,
  Instr.stgConfig, Instr.stgCheck, Instr.stgEnable, Instr.stgDisable, Instr.stgRead, Instr.coolConfig, Instr.coolStart, Instr.coolStop,
  Instr.coolReset] : List (Nat → Nat → Instr)).all
  fun e => wellFormed (e 15 65535) && !wellFormed (e 16 0) && !wellFormed (e 0 65536)) = true := by decide

/-- Mailbox commands as functions of the queue pair and tag (part 2). -/
theorem test_mailbox_forms_2 : (([
  Instr.coolRead, Instr.sesOutletConfig, Instr.sesOutletState, Instr.sesAuthorise, Instr.sesStop, Instr.sesRead, Instr.metChanConfig, Instr.metCalSet,
  Instr.metSeal, Instr.metRead, Instr.metHarmRead, Instr.metCalRead, Instr.metPulseSet, Instr.metLegSelect, Instr.bilTariffSet, Instr.bilTariffAssign,
  Instr.bilAccountSet, Instr.bilAccountCredit, Instr.bilAccountRead, Instr.bilClockSet, Instr.bilReadingGet, Instr.bilRegisterSnap, Instr.bilLogRead,
  Instr.bilLogAck] : List (Nat → Nat → Instr)).all
  fun e => wellFormed (e 15 65535) && !wellFormed (e 16 0) && !wellFormed (e 0 65536)) = true := by decide

/-- Mailbox commands as functions of the queue pair and tag (part 3). -/
theorem test_mailbox_forms_3 : (([
  Instr.bilStatus, Instr.gauStringConfig, Instr.gauRead, Instr.gauLearnSet, Instr.ptRead, Instr.ptDump, Instr.ptPointSet, Instr.ptWrite,
  Instr.ptSubscribe, Instr.ptFetch, Instr.fetchWaitExpiry, Instr.ptStatus, Instr.plcNodeRead, Instr.plcTmapRead, Instr.plcTmapRefresh,
  Instr.plcMaskSet, Instr.canConfig, Instr.canDetect, Instr.canTx, Instr.canTxTimeout, Instr.canRxRead, Instr.canRxAck, Instr.canRecover,
  Instr.canStatus] : List (Nat → Nat → Instr)).all
  fun e => wellFormed (e 15 65535) && !wellFormed (e 16 0) && !wellFormed (e 0 65536)) = true := by decide

/-- Mailbox commands as functions of the queue pair and tag (part 4). -/
theorem test_mailbox_forms_4 : (([
  Instr.obsStatus, Instr.obsSlotRead, Instr.obsChainRead, Instr.obsUpdate, Instr.obsAttest, Instr.obsDecommission, Instr.grnConfigLoad,
  Instr.grnConfigCommit, Instr.grnRead, Instr.grnResetArm, Instr.grnTrip, Instr.grnConnRead, Instr.fltRead, Instr.fltReactSet, Instr.fltClear,
  Instr.fltTest, Instr.pairStatus, Instr.pairSwitchover, Instr.sysReset, Instr.sysFwLoad, Instr.sysFwActivate, Instr.sysFwCommit, Instr.sysFwStatus,
  Instr.islandLeaveTimeout] : List (Nat → Nat → Instr)).all
  fun e => wellFormed (e 15 65535) && !wellFormed (e 16 0) && !wellFormed (e 0 65536)) = true := by decide

/-- Mailbox commands as functions of the queue pair and tag (part 5). -/
theorem test_mailbox_forms_5 : (([
  Instr.bulkLeaveTimeout, Instr.partnerReplyTimeout] : List (Nat → Nat → Instr)).all
  fun e => wellFormed (e 15 65535) && !wellFormed (e 16 0) && !wellFormed (e 0 65536)) = true := by decide

/-- Commands as functions of one operand, with its bound (part 0). -/
theorem test_bounded_forms_0 : (([
  (fun v => .mbxSqTailDb v 0, 16), (fun v => .mbxSqTailDb 0 v, 128), (fun v => .mbxCqHeadDb v 0, 16), (fun v => .mbxCqHeadDb 0 v, 128),
  (Instr.queueEnable, 16), (Instr.queueDisable, 16), (Instr.queueDrained, 16), (fun v => .registerWrite v 0, 2 ^ 20), (fun v => .submit v 0 [], 16),
  (fun v => .submit 0 v [], 16), (fun v => .cqAck v 0 0, 16), (fun v => .cqAck 0 v 0, 16), (Instr.keepalive, 16), (Instr.badHostMessage, 16),
  (Instr.tlsSessionClosed, 16), (Instr.hostKeepaliveTimeout, 16), (Instr.keepaliveSendDue, 16), (Instr.tlsKeyUpdateDue, 16),
  (Instr.irqCoalesceExpiry, 16), (Instr.workLeaveGrant, 2), (Instr.reclaimNoticeEnd, 512), (Instr.leaveWaitExpiry, 512),
  (fun v => .slotDeadline v 0, 65536), (fun v => .slotDeadline 0 v, 2 ^ 33)] : List ((Nat → Instr) × Nat)).all
  fun e => wellFormed (e.1 (e.2 - 1)) && !wellFormed (e.1 e.2)) = true := by decide

/-- Commands as functions of one operand, with its bound (part 1). -/
theorem test_bounded_forms_1 : (([
  (fun v => .reportRecord v 0 0 0, 65536), (fun v => .reportRecord 0 v 0 0, 256), (fun v => .reportRecord 0 0 v 0, 256),
  (fun v => .reportRecord 0 0 0 v, 2 ^ 32), (fun v => .switchedFrame v 0 ⟨0, 0⟩, 65536), (fun v => .switchedFrame 0 v ⟨0, 0⟩, 2),
  (Instr.nodeSilence, 65536), (fun v => .nodeFramesAgain v 0, 65536), (fun v => .nodeFramesAgain 0 v, 2 ^ 32), (fun v => .foreignNodeSeen v 0, 65536),
  (fun v => .foreignNodeSeen 0 v, 2 ^ 32), (fun v => .claimAccepted v 0 0 0, 65536), (fun v => .claimAccepted 0 v 0 0, 2 ^ 32),
  (fun v => .claimAccepted 0 0 v 0, 2), (fun v => .claimAccepted 0 0 0 v, 1024), (Instr.ownHeadersNotReturned, 2),
  (fun v => .cageLockChange v false, 6), (fun v => .enumerationScan v [], 2), (fun v => .ringScan v 0 [], 16), (fun v => .ringScan 0 v [], 65536),
  (fun v => .opticalModuleInserted v false 0, 6), (Instr.trackingReportTimeout, 2048), (Instr.traceSample, 32), (Instr.injectionLengthReached, 16)] : List ((Nat → Instr) × Nat)).all
  fun e => wellFormed (e.1 (e.2 - 1)) && !wellFormed (e.1 e.2)) = true := by decide

/-- Commands as functions of one operand, with its bound (part 2). -/
theorem test_bounded_forms_2 : (([
  (fun v => .checkResult v 0 0 0, 65536), (fun v => .checkResult 0 v 0 0, 2 ^ 19), (fun v => .checkResult 0 0 v 0, 65536),
  (Instr.checkTimeout, 2 ^ 19), (Instr.tokenExpiry, 2 ^ 19), (Instr.softStartEnd, 2 ^ 19), (Instr.softStartTimeout, 2 ^ 19),
  (Instr.softStartShort, 2 ^ 19), (fun v => .phaseFenceReport v [], 2 ^ 19), (Instr.holdRampZero, 2 ^ 19),
  (fun v => .coolingSample v 0 0 0 0 0 0, 256), (fun v => .inputLost v 0, 256), (fun v => .inputLost 0 v, 3), (fun v => .inputValidAgain v 0, 256),
  (fun v => .inputValidAgain 0 v, 3), (Instr.primingDone, 256), (Instr.primingTimeout, 256), (Instr.coolRunonExpiry, 256),
  (fun v => .connectionEvent v 0 0 .plugged, 65536), (fun v => .connectionEvent 0 v 0 .plugged, 4), (fun v => .connectionEvent 0 0 v .plugged, 2 ^ 32),
  (fun v => .linkEvent v 0 0 false, 65536), (fun v => .linkEvent 0 v 0 false, 4), (fun v => .linkEvent 0 0 v false, 2 ^ 32)] : List ((Nat → Instr) × Nat)).all
  fun e => wellFormed (e.1 (e.2 - 1)) && !wellFormed (e.1 e.2)) = true := by decide

/-- Commands as functions of one operand, with its bound (part 3). -/
theorem test_bounded_forms_3 : (([
  (fun v => .vehicleFrame v 0 0 0 ⟨60, 0, .other⟩, 65536), (fun v => .vehicleFrame 0 v 0 0 ⟨60, 0, .other⟩, 4),
  (fun v => .vehicleFrame 0 0 v 0 ⟨60, 0, .other⟩, 2 ^ 32), (fun v => .vehicleFrame 0 0 0 v ⟨60, 0, .other⟩, 2 ^ 48), (Instr.noContextRetry, 256),
  (Instr.sesLinkTimeout, 256), (Instr.authTimeout, 256), (Instr.cableCheckTimeout, 256), (Instr.demandTimeout, 256), (Instr.shrinkTimer, 256),
  (Instr.regrantTimer, 256), (Instr.stopCurrentLow, 256), (Instr.estopTimeout, 256), (Instr.overvoltageDetected, 256),
  (Instr.reverseCurrentDetected, 256), (Instr.weldCheckTimeout, 256), (Instr.gapExceeded, 264), (Instr.overrangePersisted, 264),
  (Instr.channelStarted, 264), (Instr.channelBack, 264), (Instr.gainStepUp, 8), (fun v => .harmonicWindowEnd v 0 [], 264),
  (fun v => .harmonicWindowEnd 0 v [], 65536), (Instr.pulseBacklogPersisted, 8)] : List ((Nat → Instr) × Nat)).all
  fun e => wellFormed (e.1 (e.2 - 1)) && !wellFormed (e.1 e.2)) = true := by decide

/-- Commands as functions of one operand, with its bound (part 4). -/
theorem test_bounded_forms_4 : (([
  (fun v => .stringFrame v [], 2 ^ 29), (Instr.anchorHoldExpiry, 32), (Instr.stringFrameTimeout, 32), (fun v => .catalogue v 0 [], 65536),
  (fun v => .catalogue 0 v [], 2 ^ 32), (fun v => .pointBatch v 0 [], 65536), (fun v => .pointBatch 0 v [], 2 ^ 32), (Instr.exchangeFailed, 65536),
  (Instr.repoll, 65536), (Instr.tmapRefreshDue, 65536), (fun v => .foreignBeacon v false, 2 ^ 32), (Instr.detectDwellExpiry, 4),
  (Instr.detectTimeout, 4), (fun v => .canFrameSent v .sent, 4), (fun v => .canFrameReceived v .exception, 4), (Instr.canBusoff, 4),
  (Instr.busoffHoldExpiry, 4), (Instr.canRecovered, 4), (Instr.enrolAckTimeout, 65536), (Instr.connectionWatchdogExpiry, 512),
  (Instr.connectionStartTimeout, 512), (Instr.stateTelegramDue, 512), (Instr.inputDiscrepancy, 16), (fun v => .testPulse v 0 0, 8)] : List ((Nat → Instr) × Nat)).all
  fun e => wellFormed (e.1 (e.2 - 1)) && !wellFormed (e.1 e.2)) = true := by decide

/-- Commands as functions of one operand, with its bound (part 5). -/
theorem test_bounded_forms_5 : (([
  (Instr.feedbackTimeout, 8), (Instr.outputCurrentLimit, 8), (fun v => .faultReport v 0, 512), (fun v => .faultReport 0 v, 2 ^ 32),
  (Instr.queueStall, 16), (Instr.imageAck, 2 ^ 32), (fun v => .releaseMessage v 0, 2 ^ 32), (fun v => .releaseMessage 0 v, 2 ^ 32), (Instr.giveUp, 9),
  (Instr.holdupEnd, 4), (Instr.pllUnlock, 6), (fun v => .shuntSample v 0, 8), (fun v => .enrolAck v 0, 65536), (fun v => .enrolAck 0 v, 65536),
  (Instr.protocolTimeout, 256), (fun v => .partnerReply v 0 0, 16), (fun v => .partnerReply 0 v 0, 65536), (fun v => .partnerReply 0 0 v, 256)] : List ((Nat → Instr) × Nat)).all
  fun e => wellFormed (e.1 (e.2 - 1)) && !wellFormed (e.1 e.2)) = true := by decide

/-- Descriptors of 64 bytes and of 63. -/
def goodDesc : Machine.Desc := { bytes := List.replicate 64 0, data := [] }
def badDesc : Machine.Desc := { bytes := List.replicate 63 0, data := [] }

theorem test_desc_forms : wellFormed (.descriptorFetch goodDesc) = true ∧ wellFormed (.descriptorFetch badDesc) = false ∧ wellFormed (.partnerRequest ⟨goodDesc, none⟩) = true ∧
    wellFormed (.partnerRequest ⟨badDesc, none⟩) = false ∧ wellFormed (.submit 0 0 [goodDesc]) = true ∧ wellFormed (.submit 0 0 [goodDesc, badDesc]) = false := by decide

theorem test_port_forms : wellFormed (.ptpMessage 1 (.delayResp 0 0 0 0 0 0)) = false ∧ wellFormed (.ptpMessage 5 (.delayResp 0 0 0 0 0 0)) = false ∧ wellFormed (.ptpMessage 2 (.delayResp 0 0 0 0 0 0)) = true ∧
    wellFormed (.tlsHandshake 1 (List.replicate 32 0) ⟨true, [], [], [], true, false, false, 4871⟩) = false ∧ wellFormed (.tlsHandshake 5 (List.replicate 32 0) ⟨true, [], [], [], true, false, false, 4871⟩) = false ∧
    wellFormed (.tlsHandshake 4 (List.replicate 31 0) ⟨true, [], [], [], true, false, false, 4871⟩) = false ∧ wellFormed (.tlsHandshake 4 (List.replicate 32 0) ⟨true, [], [], [], true, false, false, 4871⟩) = true := by decide

theorem test_length_forms : wellFormed (.stringFrame 0 (List.replicate 65 0)) = false ∧ wellFormed (.stringFrame 0 (List.replicate 64 0)) = true ∧
    wellFormed (.graniteCycle (List.replicate 33 0) 0 0) = false ∧ wellFormed (.graniteCycle (List.replicate 32 0) 0 0) = true := by decide

theorem test_vehicle_forms : wellFormed (.vehicleFrame 8 3 0 0 ⟨1518, 0, .other⟩) = true ∧ wellFormed (.vehicleFrame 8 0 0 0 ⟨59, 0, .other⟩) = false ∧
    wellFormed (.vehicleFrame 8 4 0 0 ⟨60, 0, .other⟩) = false := by decide
theorem test_ring_forms : wellFormed (.upstreamLoopFrame ⟨List.replicate 512 0, true⟩) = true ∧ wellFormed (.upstreamLoopFrame ⟨List.replicate 513 0, true⟩) = false ∧
    wellFormed (.switchedFrame 7 1 ⟨1023, 0⟩) = true ∧ wellFormed (.switchedFrame 7 1 ⟨1024, 0⟩) = false ∧
    wellFormed (.enumerationScan 0 [⟨List.replicate 16 0, 0, some 3, none, none, none, 0, 0, 0, 0, false⟩]) = true ∧
    wellFormed (.enumerationScan 0 [⟨List.replicate 16 0, 2, some 3, none, none, none, 0, 0, 0, 0, false⟩]) = false := by decide

theorem test_log_entry_form (e : List Byte) (h : 65536 < e.length) : wellFormed (.systemLogAppend [e]) = false := by
  simp [wellFormed]; omega

/-- No row of the opcode table has bits. -/
theorem test_no_table_word : decodeTableWord 0 0 = none ∧ decodeTableWord 16 0 = none := ⟨rfl, rfl⟩

end Sys2Proof

namespace Sys2Proof.Machine

/-! ### Small states for the tests -/

/-- A descriptor of an opcode with tag 1, an object, further fields (offset, length, value) and data. -/
def desc (op obj : Nat) (fields : List (Nat × Nat × Nat)) (data : List Byte) : Desc :=
  { bytes := fields.foldl (fun b f => putFld b f.1 f.2.1 f.2.2) (padTo 64 (pack [(2, op), (2, 1), (4, 0), (4, obj), (4, data.length)])), data := data }

/-- The descriptor as a command fetched on queue pair 0 by the host of entry 0. -/
def cmd (d : Desc) : InFlight := { uid := 7, q := 0, entry := 0, desc := d }

/-- A state in which the command waits. -/
def waits (s : State) (d : Desc) : State := { s with mbx := { s.mbx with inflight := [cmd d] } }

/-- A record of a length with fields (offset, length, value). -/
def recOf (n : Nat) (fields : List (Nat × Nat × Nat)) : Rec := fields.foldl (fun b f => putFld b f.1 f.2.1 f.2.2) (List.replicate n 0)

/-- The factory host table with an Ethernet host in entry 1, connected on ETH0, that owns queue pair 1 of depth 4, at a time after its start. -/
def eth : State :=
  { now := 10 * hour, mbx := { hosts := [(0, { transport := 1, roles := 0x0009, queueMask := 1, depth := 32, reserve := 16, sharedCap := 64 }),
                                         (1, { transport := 2, roles := 0x0009, queueMask := 2, depth := 4, reserve := 1, sharedCap := 4 })],
                               live := [(1, { connected := true, port := 2 })], qp := [(1, QPair.started {})] } }

/-- The PCIe function runs and its queue pair 0 is started. -/
def pcie : State := { mbx := { pcieUp := true, qp := [(0, QPair.started {})], live := [(0, { connected := true })] } }

/-- A cap map of kind 1 for at most 500 kW on output 0 of node 7, alone. -/
def mapRec : Rec := recOf 72 [(0, 1, 1), (1, 1, 1), (4, 4, 500), (8, 2, 7), (12, 2, 1000)]

/-- Node 7 is planned. -/
def planned : State := { ring := { plans := [(7, recOf 32 [(16, 2, 7), (18, 1, 1)])] } }

/-- A cabinet record of node 7 with one grid converter of 6 phases and 100 kW on instance 4. -/
def cabRec : Rec := recOf 224 [(0, 2, 7), (2, 1, 1), (4, 2, 0xFFFF), (6, 2, 100), (32, 1, 1), (34, 1, 6), (36, 2, 4), (38, 2, 100), (40, 2, 100)]

/-- Node 7 is an online cabinet with its grid stage as given, and its safety connection is in RUN. -/
def staged (now : Nat) (x : Stage) : State :=
  { now := now, ring := { plans := planned.ring.plans, nodes := [(7, { state := 2 })] },
    bas := { coeffs := [(4, recOf 64 [(0, 2, 7)])] }, stg := { cabinets := [(7, cabRec)], stages := [(7, x)] },
    grn := { image := { conns := [(0, recOf 32 [(2, 1, 1), (4, 2, 7), (14, 2, 0xFFFE)])] }, conns := [(0, { state := 2 })] } }

theorem get?_replicate_zero {α : Type} (n : Nat) (v : α) {k : Nat} (h : k ≠ 0) : Tab.get? (List.replicate n (0, v)) k = none := by
  induction n with
  | zero => rfl
  | succ n ih => simp [List.replicate_succ, Tab.get?, h, ih]

/-- The override table of n empty records, for a record of node 1. -/
theorem full_overrideOk (n : Nat) :
    State.overrideOk { pt := { overrides := List.replicate n (0, []) } } (recOf 16 [(0, 4, 512), (4, 2, 512), (7, 1, 2)]) = true := by
  have h : (List.replicate n ((0 : Nat), ([] : Rec))).any (fun e => decide (e.1 < 512 + 512 ∧ 512 < e.1 + fld e.2 4 2) &&
      !(e.1 == 512 && fld e.2 4 2 == 512)) = false := by
    rw [List.any_eq_false]
    intro e he
    rw [(List.mem_replicate.mp he).2]
    decide
  have h1 : fld (recOf 16 [(0, 4, 512), (4, 2, 512), (7, 1, 2)]) 0 4 = 512 := by decide
  have h2 : fld (recOf 16 [(0, 4, 512), (4, 2, 512), (7, 1, 2)]) 4 2 = 512 := by decide
  unfold State.overrideOk
  simp only [h1, h2]
  rw [h]
  decide

theorem sealed_intact (x : Slot) : x.sealed.intact = true := by
  simp [Slot.sealed, Slot.intact, Slot.resealed, Slot.header, Slot.body]


/-- A block whose TAG is the CMAC of its bytes under the head's stream key. -/
theorem State.tagOk_of (s : State) (b : SampleBlock) (k : Enrolment) (h : s.obs.enrolled.get? b.head = some k)
    (ha : s.slotAllows k.slot 4 M_JASPER = true) (hb : b.tag = Config.cmac k.slot b.head b.bytes) : s.tagOk b = true := by
  simp [State.tagOk, h, ha, hb]

/-- With slot 0 erased and slot 1 closed under the magic, slot 1 is the valid one. -/
theorem Gau.validSlot_of (g : Gau) (j : GSlot) (ha : g.jA = {}) (hb : g.jB = j.closed) (hm : j.magic = gaugeMagic) : g.validSlot = (some j.closed, false) := by
  have h0 : GSlot.valid {} = false := by simp [GSlot.valid, gaugeMagic]
  have h1 : GSlot.erased {} = true := rfl
  simp [Gau.validSlot, ha, hb, GSlot.closed_valid j hm, h0, h1]
/-- Operands and states that meet the hypotheses of CommandCompletion. -/
theorem test_witness_CommandCompletion :
    (∃ op : Nat, ∃ q : Nat, ∃ tag : Nat, ∃ s : State, ∃ c : InFlight, (Starts op q tag s c)) ∧
    (∃ op : Nat, ∃ q : Nat, ∃ tag : Nat, ∃ s : State, ∃ c : InFlight, (s.named op q tag = some c) ∧ (s.mayStart c = true) ∧ (c.linkFailed = true)) ∧
    (∃ op : Nat, ∃ q : Nat, ∃ tag : Nat, ∃ s : State, (s.named op q tag = none)) ∧
    (∃ s : State, ∃ uid : Nat, ∃ c, (c ∈ s.mbx.inflight) ∧ (c.uid ≠ uid ∨ c.phase = .done)) ∧
    (∃ s : State, ∃ uid : Nat, ∃ c, (c ∈ s.mbx.inflight) ∧ (c.uid = uid) ∧ (c.phase ≠ .done)) :=
  ⟨⟨0x0121, 0, 1, waits {} (desc 0x0121 0 [] []), cmd (desc 0x0121 0 [] []), by decide⟩,
   ⟨0x0121, 0, 1, { mbx := { inflight := [{ uid := 7, q := 0, entry := 0, desc := desc 0x0121 0 [] [], linked := some 6, linkFailed := true }] } }, { uid := 7, q := 0, entry := 0, desc := desc 0x0121 0 [] [], linked := some 6, linkFailed := true }, by decide⟩,
   ⟨0, 0, 0, {}, by decide⟩,
   ⟨{ mbx := { inflight := [{ uid := 7, q := 0, entry := 0, desc := desc 0x0121 0 [] [], phase := .running }] } }, 8, { uid := 7, q := 0, entry := 0, desc := desc 0x0121 0 [] [], phase := .running }, by decide⟩,
   ⟨{ mbx := { inflight := [{ uid := 7, q := 0, entry := 0, desc := desc 0x0121 0 [] [], phase := .running }] } }, 7, { uid := 7, q := 0, entry := 0, desc := desc 0x0121 0 [] [], phase := .running }, by decide⟩⟩

/-- Operands and states that meet the hypotheses of MailboxCommands. -/
theorem test_witness_MailboxCommands :
    (∃ s : State, ∃ q : Nat, ∃ tag : Nat, ∃ c : InFlight, ∃ t : Tab HostEntry, (Starts 0x0120 q tag s c) ∧ (hostTableAfter c.desc s.mbx.hosts = some t) ∧ (hostTableOk t = true) ∧ (s.mbx.hosts.get? (c.desc.u 32 1) = t.get? (c.desc.u 32 1) ∨ (s.hostLive (c.desc.u 32 1)).connected = false)) ∧
    (∃ s : State, ∃ q : Nat, ∃ tag : Nat, ∃ c : InFlight, ∃ t : Tab HostEntry, (Starts 0x0120 q tag s c) ∧ (hostTableAfter c.desc s.mbx.hosts = some t) ∧ (hostTableOk t = true) ∧ (s.mbx.hosts.get? (c.desc.u 32 1) ≠ t.get? (c.desc.u 32 1)) ∧ ((s.hostLive (c.desc.u 32 1)).connected = true)) ∧
    (∃ s : State, ∃ q : Nat, ∃ tag : Nat, ∃ c : InFlight, ∃ t : Tab HostEntry, (Starts 0x0120 q tag s c) ∧ (hostTableAfter c.desc s.mbx.hosts = some t) ∧ (hostTableOk t = false)) ∧
    (∃ s : State, ∃ q : Nat, ∃ tag : Nat, ∃ c : InFlight, (Starts 0x0120 q tag s c) ∧ (hostTableAfter c.desc s.mbx.hosts = none)) ∧
    (∃ s : State, ∃ q : Nat, ∃ tag : Nat, ∃ c : InFlight, (Starts 0x0121 q tag s c) ∧ (waitMask c &&& ~~~(0x000FFFFE#32) = 0) ∧ (((s.start c.uid).mbx.inflight.filter (isWaitOf c.entry)).length ≤ 4)) ∧
    (∃ s : State, ∃ q : Nat, ∃ tag : Nat, ∃ c : InFlight, (Starts 0x0121 q tag s c) ∧ (waitMask c &&& ~~~(0x000FFFFE#32) = 0) ∧ (4 < ((s.start c.uid).mbx.inflight.filter (isWaitOf c.entry)).length)) ∧
    (∃ s : State, ∃ q : Nat, ∃ tag : Nat, ∃ c : InFlight, (Starts 0x0121 q tag s c) ∧ (waitMask c &&& ~~~(0x000FFFFE#32) ≠ 0)) ∧
    (∃ s : State, ∃ q : Nat, ∃ tag : Nat, ∃ c : InFlight, (Starts 0x0122 q tag s c) ∧ ((s.host c.entry).queueMask.getLsbD (c.desc.u 32 1) = false)) ∧
    (∃ s : State, ∃ q : Nat, ∃ tag : Nat, ∃ c : InFlight, (Starts 0x0122 q tag s c) ∧ ((s.host c.entry).queueMask.getLsbD (c.desc.u 32 1) = true) ∧ ((s.start c.uid).abortTarget c = none)) ∧
    (∃ s : State, ∃ q : Nat, ∃ tag : Nat, ∃ c : InFlight, ∃ d, (Starts 0x0122 q tag s c) ∧ ((s.host c.entry).queueMask.getLsbD (c.desc.u 32 1) = true) ∧ ((s.start c.uid).abortTarget c = some d) ∧ (abortable d = true)) ∧
    (∃ s : State, ∃ q : Nat, ∃ tag : Nat, ∃ c : InFlight, ∃ d, (Starts 0x0122 q tag s c) ∧ ((s.host c.entry).queueMask.getLsbD (c.desc.u 32 1) = true) ∧ ((s.start c.uid).abortTarget c = some d) ∧ (abortable d = false)) :=
  ⟨⟨waits {} (desc 0x0120 0 [(32, 1, 3), (33, 1, 1)] []), 0, 1, cmd (desc 0x0120 0 [(32, 1, 3), (33, 1, 1)] []), (State.reset.mbx.hosts), by decide⟩,
   ⟨waits eth (desc 0x0120 0 [(32, 1, 1), (33, 1, 1)] []), 0, 1, cmd (desc 0x0120 0 [(32, 1, 1), (33, 1, 1)] []), [eth.mbx.hosts.head (by decide)], by decide⟩,
   ⟨waits {} (desc 0x0120 0 [(33, 1, 1)] []), 0, 1, cmd (desc 0x0120 0 [(33, 1, 1)] []), [], by decide⟩,
   ⟨waits {} (desc 0x0120 0 [(32, 1, 16)] []), 0, 1, cmd (desc 0x0120 0 [(32, 1, 16)] []), by decide⟩,
   ⟨waits {} (desc 0x0121 0 [(32, 4, 2)] []), 0, 1, cmd (desc 0x0121 0 [(32, 4, 2)] []), by decide⟩,
   ⟨{ mbx := { inflight := [{ uid := 3, q := 0, entry := 0, desc := desc 0x0121 0 [] [], phase := .running }, { uid := 3, q := 0, entry := 0, desc := desc 0x0121 0 [] [], phase := .running }, { uid := 3, q := 0, entry := 0, desc := desc 0x0121 0 [] [], phase := .running }, { uid := 3, q := 0, entry := 0, desc := desc 0x0121 0 [] [], phase := .running }, cmd (desc 0x0121 0 [] [])] } }, 0, 1, cmd (desc 0x0121 0 [] []), by decide⟩,
   ⟨waits {} (desc 0x0121 0 [(32, 4, 1)] []), 0, 1, cmd (desc 0x0121 0 [(32, 4, 1)] []), by decide⟩,
   ⟨waits {} (desc 0x0122 0 [(32, 1, 2)] []), 0, 1, cmd (desc 0x0122 0 [(32, 1, 2)] []), by decide⟩,
   ⟨waits {} (desc 0x0122 0 [(34, 2, 9)] []), 0, 1, cmd (desc 0x0122 0 [(34, 2, 9)] []), by decide⟩,
   ⟨{ mbx := { inflight := [{ uid := 3, q := 0, entry := 0, desc := desc 0x0121 0 [(2, 2, 9)] [], phase := .running }, cmd (desc 0x0122 0 [(34, 2, 9)] [])] } }, 0, 1, cmd (desc 0x0122 0 [(34, 2, 9)] []), { uid := 3, q := 0, entry := 0, desc := desc 0x0121 0 [(2, 2, 9)] [], phase := .running }, by decide⟩,
   ⟨{ mbx := { inflight := [{ uid := 3, q := 0, entry := 0, desc := desc 0x0200 0 [(2, 2, 9)] [], phase := .running }, cmd (desc 0x0122 0 [(34, 2, 9)] [])] } }, 0, 1, cmd (desc 0x0122 0 [(34, 2, 9)] []), { uid := 3, q := 0, entry := 0, desc := desc 0x0200 0 [(2, 2, 9)] [], phase := .running }, by decide⟩⟩

/-- Operands and states that meet the hypotheses of EventDelivery. -/
theorem test_witness_EventDelivery :
    (∃ s : State, ∃ e : Nat, ∃ w, ∃ v, (w ∈ (s.deliver e).mbx.inflight) ∧ (v ∈ ((s.deliver e).hostLive e).events) ∧ (isWaitOf e w = true)) :=
  ⟨{ mbx := { inflight := [{ uid := 7, q := 0, entry := 0, desc := desc 0x0121 0 [(32, 4, 4)] [], phase := .running }], live := [(0, { events := [⟨1, 2, 3, 4⟩] })] } }, 0, { uid := 7, q := 0, entry := 0, desc := desc 0x0121 0 [(32, 4, 4)] [], phase := .running }, ⟨1, 2, 3, 4⟩, by decide⟩

/-- Operands and states that meet the hypotheses of QueueRegisters. -/
theorem test_witness_QueueRegisters :
    (∃ s : State, ∃ q : Nat, ∃ tail : Nat, (s.isPcieQ q = true) ∧ ((s.qp q).ready = true) ∧ (tail < s.depthOf q) ∧ (((s.qp q).sqTail + s.depthOf q - (s.qp q).sqHead) % s.depthOf q + (tail + s.depthOf q - (s.qp q).sqTail) % s.depthOf q ≤ s.depthOf q - 1)) ∧
    (∃ s : State, ∃ q : Nat, ∃ head : Nat, ∃ n : Nat, (s.isPcieQ q = true) ∧ ((s.qp q).ready = true) ∧ (head < s.depthOf q) ∧ ((head + s.depthOf q - ((s.qp q).cqTail + s.depthOf q - (s.qp q).unconsumed % max 1 (s.depthOf q)) % max 1 (s.depthOf q)) % s.depthOf q = n) ∧ (n ≤ (s.qp q).unconsumed)) ∧
    (∃ s : State, ∃ q : Nat, (s.isPcieQ q = true) ∧ ((s.qp q).ready = false)) ∧
    (∃ s : State, ∃ q : Nat, ∃ e : Nat, (s.ownerOf q = some e) ∧ ((s.host e).transport = 1) ∧ (s.mbx.pcieUp = true) ∧ ((s.qp q).ready = false)) ∧
    (∃ s : State, ∃ q : Nat, (s.isPcieQ q = true) ∧ ((s.qp q).enable = false) ∧ ((s.qp q).ready = true) ∧ (s.inflightOf q = 0)) :=
  ⟨⟨pcie, 0, 31, by decide⟩,
   ⟨{ pcie with mbx := { pcie.mbx with qp := [(0, { QPair.started {} with cqTail := 2, unconsumed := 2 })] } }, 0, 2, 2, by decide⟩,
   ⟨{}, 0, by decide⟩,
   ⟨{ mbx := { pcieUp := true } }, 0, 0, by decide⟩,
   ⟨{ mbx := { qp := [(0, { ready := true })] } }, 0, by decide⟩⟩

/-- Operands and states that meet the hypotheses of RegisterAccess. -/
theorem test_witness_RegisterAccess :
    (∃ s : State, ∃ q : Nat, (s.mbx.pcieUp = true) ∧ (q < 16) ∧ (s.isPcieQ q = true) ∧ ((s.qp q).ready = false)) ∧
    (∃ s : State, ∃ q : Nat, (q < 16) ∧ (s.isPcieQ q = false ∨ (s.qp q).ready = true)) ∧
    (∃ s : State, ∃ q : Nat, ∃ v : BitVec 32, (s.mbx.pcieUp = true) ∧ (q < 16) ∧ (s.isPcieQ q = true) ∧ (v.getLsbD 0 = (s.qp q).enable)) ∧
    (∃ s : State, ∃ q : Nat, (q < 16) ∧ (s.isPcieQ q = false)) ∧
    (∃ s : State, ∃ q : Nat, ∃ v : BitVec 32, (s.mbx.pcieUp = true) ∧ (q < 16) ∧ (v.getLsbD 25 = true)) ∧
    (∃ s : State, ∃ v : BitVec 32, (s.mbx.pcieUp = true) ∧ (v.getLsbD 4 = true)) ∧
    (∃ s : State, ∃ n : Nat, ∃ v : BitVec 32, (s.mbx.pcieUp = true) ∧ (n < 4) ∧ (v.getLsbD 7 = true)) ∧
    (∃ s : State, ∃ off : Nat, (s.mbx.pcieUp = false ∨ 0x80000 ≤ off)) ∧
    (∃ off : Nat, (0xB0000 ≤ off)) :=
  ⟨⟨{ mbx := { pcieUp := true } }, 1, by decide⟩,
   ⟨pcie, 0, by decide⟩,
   ⟨{ mbx := { pcieUp := true } }, 1, 2, by decide⟩,
   ⟨{}, 15, by decide⟩,
   ⟨pcie, 15, 0x2000000, by decide⟩,
   ⟨pcie, 16, by decide⟩,
   ⟨pcie, 3, 128, by decide⟩,
   ⟨{}, 0x80000, by decide⟩,
   ⟨0xB0000, by decide⟩⟩

/-- Operands and states that meet the hypotheses of EthernetHosts. -/
theorem test_witness_EthernetHosts :
    (∃ s : State, ∃ port : Nat, ∃ e : Nat, ∃ hash : List Byte, ∃ o : TlsOffer, ∃ a : TlsSuite, ∃ b : TlsGroup, ∃ g : TlsSig, (s.listens port = true) ∧ (o.tcpPort = s.pn PAR_HOST_TLS_PORT) ∧ (o.chosen = some (a, b, g)) ∧ (s.admits port hash = some e)) ∧
    (∃ s : State, ∃ port : Nat, ∃ hash : List Byte, ∃ o : TlsOffer, (s.listens port = false ∨ o.tcpPort ≠ s.pn PAR_HOST_TLS_PORT ∨ o.chosen = none ∨ s.admits port hash = none)) ∧
    (∃ o : TlsOffer, ∃ a : TlsSuite, ∃ b : TlsGroup, ∃ g : TlsSig, (o.chosen = some (a, b, g))) ∧
    (∃ s : State, ∃ e : Nat, ∃ q : Nat, ∃ k : Nat, (s.ethHost e = true) ∧ (s.ownerOf q = some e) ∧ ((s.heard e).depthOf q - ((s.heard e).qp q).sq.length = k)) ∧
    (∃ s : State, ∃ e : Nat, ∃ q : Nat, ∃ n : Nat, (s.ethHost e = true) ∧ (s.ownerOf q = some e) ∧ (n ≤ (s.qp q).unconsumed)) ∧
    (∃ s : State, ∃ e : Nat, ∃ q : Nat, ∃ n : Nat, (s.ethHost e = true) ∧ (s.ownerOf q = some e) ∧ ((s.qp q).unconsumed < n)) ∧
    (∃ s : State, ∃ e : Nat, (s.ethHost e = true) ∧ ((s.hostLive e).lastRx + s.pms PAR_HOST_KEEPALIVE_MS ≤ s.now)) ∧
    (∃ s : State, ∃ e : Nat, (s.ethHost e = true) ∧ ((s.hostLive e).lastTx + s.pms PAR_HOST_KEEPALIVE_MS / 2 ≤ s.now)) ∧
    (∃ s : State, ∃ e : Nat, (s.ethHost e = true) ∧ (16777216 ≤ (s.hostLive e).records ∨ (s.hostLive e).keyAt + hour ≤ s.now)) ∧
    (∃ s : State, ∃ e : Nat, ∃ q, (q < 16) ∧ ((s.host e).queueMask.getLsbD q = true)) ∧
    (∃ s : State, ∃ e : Nat, ∃ c, (c ∈ (s.loseHost e).mbx.inflight) ∧ (c.entry = e)) :=
  ⟨⟨{ eth with par := { eth.par with running := [(PAR_ETH0_IP, 1)] }, sys := { eth.sys with ended := 64 } }, 2, 1, [], ⟨true, [.chacha20Poly1305Sha256, .aes256GcmSha384], [.x25519, .x448], [.ed25519, .ecdsaP384Sha384], true, true, true, 4871⟩, .aes256GcmSha384, .x448, .ecdsaP384Sha384, by decide⟩,
   ⟨{ eth with par := { eth.par with running := [(PAR_ETH0_IP, 1)] }, sys := { eth.sys with ended := 64 } }, 2, [], ⟨true, [.chacha20Poly1305Sha256], [.x448], [.ecdsaP384Sha384], true, false, false, 4871⟩, by decide⟩,
   ⟨⟨true, [.chacha20Poly1305Sha256, .aes256GcmSha384], [.x25519, .x448], [.ed25519, .ecdsaP384Sha384], true, true, true, 4871⟩, .aes256GcmSha384, .x448, .ecdsaP384Sha384, by decide⟩,
   ⟨eth, 1, 1, 4, by decide⟩,
   ⟨{ eth with mbx := { eth.mbx with qp := [(1, { unconsumed := 3 })] } }, 1, 1, 3, by decide⟩,
   ⟨eth, 1, 1, 1, by decide⟩,
   ⟨eth, 1, by decide⟩,
   ⟨eth, 1, by decide⟩,
   ⟨eth, 1, by decide⟩,
   ⟨eth, 1, 1, by decide⟩,
   ⟨{ eth with mbx := { eth.mbx with inflight := [{ uid := 7, q := 1, entry := 1, desc := desc 0x0200 0 [] [], phase := .running, discard := true }] } }, 1, { uid := 7, q := 1, entry := 1, desc := desc 0x0200 0 [] [], phase := .running, discard := true }, by decide⟩⟩

/-- Operands and states that meet the hypotheses of PcieAndTime. -/
theorem test_witness_PcieAndTime :
    (∃ s : State, ∃ e : Nat, (s.pcieEntry = some e) ∧ ((s.hostLive e).connected = true)) ∧
    (∃ s : State, ∃ e : Nat, (s.pcieEntry = some e) ∧ ((s.hostLive e).connected = false)) ∧
    (∃ s : State, ∃ q : Nat, ∃ cls : Nat, ∃ e : Nat, (s.nextTurn = some (q, cls)) ∧ (s.ownerOf q = some e)) ∧
    (∃ s : State, (s.nextTurn = none)) ∧
    (∃ s : State, ∃ q : Nat, ∃ tag : Nat, ∃ c : InFlight, ((s.mbx.inflight.find? fun c => c.q == q && c.desc.tag == tag && s.mayPost c) = some c)) ∧
    (∃ s : State, ∃ q : Nat, ∃ t : Nat, ((s.qp q).irqSince = some t) ∧ (t + s.pn PAR_HOST_IRQ_COALESCE_US * us ≤ s.now) ∧ ((s.qp q).irqEn = true)) ∧
    (∃ s : State, ∃ q : Nat, ∃ t : Nat, ((s.qp q).irqSince = some t) ∧ (t + s.pn PAR_HOST_IRQ_COALESCE_US * us ≤ s.now) ∧ ((s.qp q).irqEn = false)) ∧
    (∃ s : State, ∃ port : Nat, ∃ c : Nat, ∃ p : Nat, ∃ d : Int, (port = 2 ∨ port = 3) ∧ (s.mbx.master = some (c, p, port)) ∧ (s.pv PAR_PTP_DOMAIN = 0) ∧ (s.pv PAR_PTP_TRANSPORT = 0) ∧ (s.mbx.pathDelay = some d)) ∧
    (∃ s : State, ∃ port : Nat, ∃ c : Nat, ∃ p : Nat, (port = 2 ∨ port = 3) ∧ (s.mbx.master = some (c, p, port)) ∧ (s.pv PAR_PTP_DOMAIN = 0) ∧ (s.pv PAR_PTP_TRANSPORT = 0)) ∧
    (∃ s : State, ∃ port : Nat, ∃ c : Nat, ∃ p : Nat, ∃ n : Nat, ∃ t2 : Int, (port = 2 ∨ port = 3) ∧ (s.mbx.master = some (c, p, port)) ∧ (s.pv PAR_PTP_DOMAIN = 0) ∧ (s.pv PAR_PTP_TRANSPORT = 0) ∧ (s.mbx.ptpSync = some (n, t2))) ∧
    (∃ s : State, ∃ port : Nat, ∃ c : Nat, ∃ p : Nat, ∃ n : Nat, ∃ t3 : Int, ∃ d : Int, (port = 2 ∨ port = 3) ∧ (s.mbx.master = some (c, p, port)) ∧ (s.pv PAR_PTP_DOMAIN = 0) ∧ (s.pv PAR_PTP_TRANSPORT = 0) ∧ (s.mbx.ptpReq = some (n, d, t3))) ∧
    (∃ port : Nat, (port ≠ 2) ∧ (port ≠ 3)) :=
  ⟨⟨pcie, 0, by decide⟩,
   ⟨{}, 0, by decide⟩,
   ⟨{ pcie with mbx := { pcie.mbx with qp := [(0, { QPair.started {} with sqTail := 1 })] }, sys := { pcie.sys with ended := 64 } }, 0, 0, 0, by decide⟩,
   ⟨{}, by decide⟩,
   ⟨{ mbx := { inflight := [{ uid := 7, q := 0, entry := 0, desc := desc 0x0121 0 [] [], phase := .done }] } }, 0, 1, { uid := 7, q := 0, entry := 0, desc := desc 0x0121 0 [] [], phase := .done }, by decide⟩,
   ⟨{ now := sec, mbx := { qp := [(0, { irqSince := some 0, irqEn := true })] } }, 0, 0, by decide⟩,
   ⟨{ now := sec, mbx := { qp := [(0, { irqSince := some 0 })] } }, 0, 0, by decide⟩,
   ⟨{ par := { running := [(PAR_PTP_DOMAIN, 0), (PAR_PTP_TRANSPORT, 0)] }, mbx := { master := some (5, 1, 2), pathDelay := some 40 } }, 2, 5, 1, 40, by decide⟩,
   ⟨{ par := { running := [(PAR_PTP_DOMAIN, 0), (PAR_PTP_TRANSPORT, 0)] }, mbx := { master := some (5, 1, 2), pathDelay := none } }, 2, 5, 1, by decide⟩,
   ⟨{ par := { running := [(PAR_PTP_DOMAIN, 0), (PAR_PTP_TRANSPORT, 0)] }, mbx := { master := some (5, 1, 2), ptpSync := some (3, 100) } }, 2, 5, 1, 3, 100, by decide⟩,
   ⟨{ par := { running := [(PAR_PTP_DOMAIN, 0), (PAR_PTP_TRANSPORT, 0)] }, mbx := { master := some (5, 1, 2), ptpReq := some (3, 40, 100) } }, 2, 5, 1, 3, 100, 40, by decide⟩,
   ⟨4, by decide⟩⟩

/-- Operands and states that meet the hypotheses of ParameterReads. -/
theorem test_witness_ParameterReads :
    (∃ s : State, ∃ q : Nat, ∃ tag : Nat, ∃ c : InFlight, (Starts 0x0200 q tag s c) ∧ (1 ≤ c.desc.u 34 2) ∧ (c.desc.u 34 2 ≤ 4096) ∧ (c.desc.u 36 1 ≤ 3) ∧ (16 * c.desc.u 34 2 ≤ c.desc.dataLen) ∧ (c.desc.u 32 2 + c.desc.u 34 2 ≤ 0x1800)) ∧
    (∃ s : State, ∃ q : Nat, ∃ tag : Nat, ∃ c : InFlight, (Starts 0x0202 q tag s c) ∧ (1 ≤ c.desc.u 34 2) ∧ (c.desc.u 34 2 ≤ 1024) ∧ (64 * c.desc.u 34 2 ≤ c.desc.dataLen) ∧ (c.desc.u 32 2 + c.desc.u 34 2 ≤ 0x1800)) ∧
    (∃ id : Nat, (parEntry id = none)) ∧
    (∃ id : Nat, ∃ e : ParEntry, (parEntry id = some e)) ∧
    (∃ s : State, ∃ id : Nat, ∃ e : ParEntry, ∃ v : Int, (parEntry id = some e) ∧ (s.par.live.get? id = some v) ∧ (e.isIsland = false) ∧ (e.apply ≠ 1)) :=
  ⟨⟨waits {} (desc 0x0200 0 [(32, 2, 0x17FF), (34, 2, 1), (12, 4, 16)] []), 0, 1, cmd (desc 0x0200 0 [(32, 2, 0x17FF), (34, 2, 1), (12, 4, 16)] []), by decide⟩,
   ⟨waits {} (desc 0x0202 0 [(32, 2, 0x17FF), (34, 2, 1), (12, 4, 64)] []), 0, 1, cmd (desc 0x0202 0 [(32, 2, 0x17FF), (34, 2, 1), (12, 4, 64)] []), by decide⟩,
   ⟨0x17FF, by decide⟩,
   ⟨0x0100, (parEntry 0x0100).get (by decide), by decide⟩,
   ⟨{ par := { live := [(0x0100, 600)] } }, 0x0100, (parEntry 0x0100).get (by decide), 600, by decide⟩⟩

/-- Operands and states that meet the hypotheses of ParameterSet. -/
theorem test_witness_ParameterSet :
    (∃ s : State, ∃ q : Nat, ∃ tag : Nat, ∃ c : InFlight, (Starts 0x0201 q tag s c) ∧ (parEntry (c.desc.u 32 2) = none)) ∧
    (∃ s : State, ∃ q : Nat, ∃ tag : Nat, ∃ c : InFlight, ∃ e, (Starts 0x0201 q tag s c) ∧ (parEntry (c.desc.u 32 2) = some e) ∧ (c.desc.u 34 1 ≤ 1) ∧ ((e.readOnly || e.legal || e.safety) = true)) ∧
    (∃ s : State, ∃ q : Nat, ∃ tag : Nat, ∃ c : InFlight, ∃ e, (Starts 0x0201 q tag s c) ∧ (parEntry (c.desc.u 32 2) = some e) ∧ (c.desc.u 34 1 ≤ 1) ∧ ((e.readOnly || e.legal || e.safety) = false) ∧ (c.q ≠ PARTNER_Q) ∧ (e.roles &&& (s.host c.entry).roles = 0)) ∧
    (∃ s : State, ∃ q : Nat, ∃ tag : Nat, ∃ c : InFlight, ∃ e, (Starts 0x0201 q tag s c) ∧ (parEntry (c.desc.u 32 2) = some e) ∧ (c.desc.u 34 1 ≤ 1) ∧ ((e.readOnly || e.legal || e.safety) = false) ∧ (e.roles &&& (s.host c.entry).roles ≠ 0) ∧ ((s.isStandby = true → e.pairLocal = true)) ∧ ((c.desc.u 34 1 = 0 → e.min ≤ containerVal e.type c.desc ∧ containerVal e.type c.desc ≤ e.max)) ∧ (e.isIsland = false) ∧ (e.apply ≠ 2)) ∧
    (∃ s : State, ∃ q : Nat, ∃ tag : Nat, ∃ c : InFlight, ∃ e, (Starts 0x0201 q tag s c) ∧ (parEntry (c.desc.u 32 2) = some e) ∧ (c.desc.u 34 1 ≤ 1) ∧ ((e.readOnly || e.legal || e.safety) = false) ∧ (e.roles &&& (s.host c.entry).roles ≠ 0) ∧ (s.isStandby = true) ∧ (e.pairLocal = false) ∧ (e.isIsland = false)) ∧
    (∃ s : State, ∃ q : Nat, ∃ tag : Nat, ∃ c : InFlight, ∃ e, (Starts 0x0201 q tag s c) ∧ (parEntry (c.desc.u 32 2) = some e) ∧ (c.desc.u 34 1 ≤ 1) ∧ ((e.readOnly || e.legal || e.safety) = false) ∧ (e.roles &&& (s.host c.entry).roles ≠ 0) ∧ (s.isStandby = false) ∧ (c.desc.u 34 1 = 0) ∧ (containerVal e.type c.desc < e.min ∨ e.max < containerVal e.type c.desc)) ∧
    (∃ s : State, ∃ q : Nat, ∃ tag : Nat, ∃ c : InFlight, ∃ e, (Starts 0x0201 q tag s c) ∧ (parEntry (c.desc.u 32 2) = some e) ∧ (c.desc.u 34 1 ≤ 1) ∧ ((e.readOnly || e.legal || e.safety) = false) ∧ (e.roles &&& (s.host c.entry).roles ≠ 0) ∧ (s.isStandby = false) ∧ (c.desc.u 34 1 = 1) ∧ (e.isIsland = false) ∧ (e.apply = 2) ∧ (s.unitRuns (c.desc.u 32 2) = true)) ∧
    (∃ s : State, ∃ q : Nat, ∃ tag : Nat, ∃ c : InFlight, ∃ e, (Starts 0x0201 q tag s c) ∧ (parEntry (c.desc.u 32 2) = some e) ∧ (c.desc.u 34 1 ≤ 1) ∧ ((e.readOnly || e.legal || e.safety) = false) ∧ (e.roles &&& (s.host c.entry).roles ≠ 0) ∧ (c.desc.u 34 1 = 0) ∧ (e.isIsland = true) ∧ (e.apply ≠ 2) ∧ (e.min ≤ containerVal e.type c.desc) ∧ (containerVal e.type c.desc ≤ e.max) ∧ (s.islandRefuses (c.desc.u 32 2) = none)) :=
  ⟨⟨waits {} (desc 0x0201 0 [(32, 2, 0x17FF)] []), 0, 1, cmd (desc 0x0201 0 [(32, 2, 0x17FF)] []), by decide⟩,
   ⟨waits {} (desc 0x0201 0 [(32, 2, 0x0c00)] []), 0, 1, cmd (desc 0x0201 0 [(32, 2, 0x0c00)] []), (parEntry 0x0c00).get (by decide), by decide⟩,
   ⟨waits { mbx := { hosts := [] } } (desc 0x0201 0 [(32, 2, 0x0100), (40, 8, 500)] []), 0, 1, cmd (desc 0x0201 0 [(32, 2, 0x0100), (40, 8, 500)] []), (parEntry 0x0100).get (by decide), by decide⟩,
   ⟨waits { pair := { role := ROLE_ACTIVE } } (desc 0x0201 0 [(32, 2, 0x0100), (40, 8, 500)] []), 0, 1, cmd (desc 0x0201 0 [(32, 2, 0x0100), (40, 8, 500)] []), (parEntry 0x0100).get (by decide), by decide⟩,
   ⟨waits { pair := { role := 1 } } (desc 0x0201 0 [(32, 2, 0x0100), (40, 8, 60000)] []), 0, 1, cmd (desc 0x0201 0 [(32, 2, 0x0100), (40, 8, 60000)] []), (parEntry 0x0100).get (by decide), by decide⟩,
   ⟨waits { pair := { role := ROLE_ACTIVE } } (desc 0x0201 0 [(32, 2, 0x0100), (40, 8, 4294967295)] []), 0, 1, cmd (desc 0x0201 0 [(32, 2, 0x0100), (40, 8, 4294967295)] []), (parEntry 0x0100).get (by decide), by decide⟩,
   ⟨waits { pair := { role := ROLE_ACTIVE }, bas := { insts := [(4, { state := 2 })] } } (desc 0x0201 0 [(32, 2, 0x0501), (34, 1, 1)] []), 0, 1, cmd (desc 0x0201 0 [(32, 2, 0x0501), (34, 1, 1)] []), (parEntry 0x0501).get (by decide), by decide⟩,
   ⟨waits {} (desc 0x0201 0 [(32, 2, 0x0b00), (40, 8, 1440)] []), 0, 1, cmd (desc 0x0201 0 [(32, 2, 0x0b00), (40, 8, 1440)] []), (parEntry 0x0b00).get (by decide), by decide⟩⟩

/-- Operands and states that meet the hypotheses of ImageCommands. -/
theorem test_witness_ImageCommands :
    (∃ s : State, ∃ q : Nat, ∃ tag : Nat, ∃ c : InFlight, (Starts 0x0210 q tag s c) ∧ (s.par.op = none)) ∧
    (∃ s : State, ∃ q : Nat, ∃ tag : Nat, ∃ c : InFlight, (Starts 0x0210 q tag s c) ∧ (s.par.op.isSome = true)) ∧
    (∃ s : State, ∃ q : Nat, ∃ tag : Nat, ∃ c : InFlight, (Starts 0x0211 q tag s c) ∧ (s.par.op = none) ∧ (c.desc.u 32 1 ≤ 1) ∧ (s.par.active ≠ some (c.desc.u 32 1)) ∧ ((s.slot (c.desc.u 32 1)).state = IMG_COMMITTED)) ∧
    (∃ s : State, ∃ q : Nat, ∃ tag : Nat, ∃ c : InFlight, (Starts 0x0211 q tag s c) ∧ (s.par.op = none) ∧ (c.desc.u 32 1 ≤ 1) ∧ (s.par.active = some (c.desc.u 32 1))) ∧
    (∃ s : State, ∃ q : Nat, ∃ tag : Nat, ∃ c : InFlight, ∃ n, (Starts 0x0212 q tag s c) ∧ (s.par.op = none) ∧ (s.par.active = some n) ∧ ((s.slot n).state ≠ IMG_COMMITTED)) ∧
    (∃ s : State, ∃ q : Nat, ∃ tag : Nat, ∃ c : InFlight, (Starts 0x0211 q tag s c) ∧ (s.par.op.isSome = true)) ∧
    (∃ s : State, ∃ q : Nat, ∃ tag : Nat, ∃ c : InFlight, (Starts 0x0211 q tag s c) ∧ (s.par.op = none) ∧ (s.par.active ≠ some (c.desc.u 32 1)) ∧ (1 < c.desc.u 32 1 ∨ (s.slot (c.desc.u 32 1)).state ≠ IMG_COMMITTED)) ∧
    (∃ s : State, ∃ q : Nat, ∃ tag : Nat, ∃ c : InFlight, (Starts 0x0212 q tag s c) ∧ (s.par.op.isSome = true)) ∧
    (∃ s : State, ∃ q : Nat, ∃ tag : Nat, ∃ c : InFlight, ∃ n, (Starts 0x0212 q tag s c) ∧ (s.par.op = none) ∧ (s.par.active = some n) ∧ ((s.slot n).state = IMG_COMMITTED)) ∧
    (∃ s : State, ∃ q : Nat, ∃ tag : Nat, ∃ c : InFlight, (Starts 0x0212 q tag s c) ∧ (s.par.op = none) ∧ (s.par.active = none)) ∧
    (∃ s : State, ∃ q : Nat, ∃ tag : Nat, ∃ c : InFlight, (Starts 0x0213 q tag s c)) :=
  ⟨⟨waits {} (desc 0x0210 0 [] []), 0, 1, cmd (desc 0x0210 0 [] []), by decide⟩,
   ⟨waits { par := { op := some { kind := 1, uid := 3, target := 0, wasActive := none, askAt := 0 } } } (desc 0x0210 0 [] []), 0, 1, cmd (desc 0x0210 0 [] []), by decide⟩,
   ⟨waits { par := { active := some 0, slotB := { state := IMG_COMMITTED } } } (desc 0x0211 0 [(32, 1, 1)] []), 0, 1, cmd (desc 0x0211 0 [(32, 1, 1)] []), by decide⟩,
   ⟨waits { par := { active := some 1 } } (desc 0x0211 0 [(32, 1, 1)] []), 0, 1, cmd (desc 0x0211 0 [(32, 1, 1)] []), by decide⟩,
   ⟨waits { par := { active := some 1, slotB := { state := IMG_TRIAL } } } (desc 0x0212 0 [] []), 0, 1, cmd (desc 0x0212 0 [] []), 1, by decide⟩,
   ⟨waits { par := { op := some { kind := 1, uid := 3, target := 0, wasActive := none, askAt := 0 } } } (desc 0x0211 0 [] []), 0, 1, cmd (desc 0x0211 0 [] []), by decide⟩,
   ⟨waits {} (desc 0x0211 0 [(32, 1, 2)] []), 0, 1, cmd (desc 0x0211 0 [(32, 1, 2)] []), by decide⟩,
   ⟨waits { par := { op := some { kind := 1, uid := 3, target := 0, wasActive := none, askAt := 0 } } } (desc 0x0212 0 [] []), 0, 1, cmd (desc 0x0212 0 [] []), by decide⟩,
   ⟨waits { par := { active := some 1, slotB := { state := IMG_COMMITTED } } } (desc 0x0212 0 [] []), 0, 1, cmd (desc 0x0212 0 [] []), 1, by decide⟩,
   ⟨waits {} (desc 0x0212 0 [] []), 0, 1, cmd (desc 0x0212 0 [] []), by decide⟩,
   ⟨waits {} (desc 0x0213 0 [] []), 0, 1, cmd (desc 0x0213 0 [] []), by decide⟩⟩

/-- Operands and states that meet the hypotheses of StoreAndSlots. -/
theorem test_witness_StoreAndSlots :
    (∃ s : State, ∃ op : NvOp, (s.par.op = some op) ∧ (op.kind = 1 ∨ op.kind = 4) ∧ (s.hasGrant .nvOp = true) ∧ (op.begun = false) ∧ (op.target ≤ 1) ∧ (2 ≤ segmentsOf (s.takeImage op).records s.currentTables)) ∧
    (∃ s : State, ∃ op : NvOp, (s.par.op = some op) ∧ (op.kind = 1 ∨ op.kind = 4) ∧ (s.hasGrant .nvOp = true) ∧ (op.begun = true) ∧ (2 ≤ op.left)) ∧
    (∃ s : State, ∃ op : NvOp, (s.par.op = some op) ∧ (op.kind = 1 ∨ op.kind = 4) ∧ (s.hasGrant .nvOp = true) ∧ (op.begun = true) ∧ (op.left = 1)) ∧
    (∃ s : State, ∃ op : NvOp, ∃ o : NvOp, (s.par.op = some op) ∧ (op.kind = 1 ∨ op.kind = 4) ∧ (s.hasGrant .nvOp = true) ∧ (op.begun = true) ∧ (o = { op with left := op.left - 1 })) ∧
    (∃ s : State, ∃ op : NvOp, (s.par.op = some op) ∧ (s.awaits .nvOp = true) ∧ (s.pms PAR_NV_LEAVE_WAIT_MS ≤ op.waited + (s.now - op.askAt))) ∧
    (∃ op : NvOp, (op.begun = false)) ∧
    (∃ op : NvOp, (op.begun = true) ∧ (op.target ≤ 1)) ∧
    (∃ s : State, ∃ n : Nat, ((s.slot n).intact = true)) ∧
    (∃ x : Slot, (x.intact = false)) ∧
    (∃ x : Slot, (x.intact = true)) ∧
    (∃ s : State, ∃ n : Nat, ∃ was : Option Nat, ∃ m, (n ≤ 1) ∧ (was ≠ some n) ∧ ((∀ m, was = some m → m ≤ 1)) ∧ (was = some m) ∧ ((s.slot m).state = IMG_TRIAL ∨ (s.slot m).state = IMG_BOOTED)) ∧
    (∃ s : State, ∃ n : Nat, (n ≤ 1) ∧ ((s.slot n).state = IMG_TRIAL)) ∧
    (∃ s : State, ∃ n : Nat, (n ≤ 1) ∧ ((s.slot n).state = IMG_BOOTED)) :=
  ⟨⟨{ now := 4 * sec, par := { op := some { kind := 4, uid := 3, target := 1, wasActive := none, askAt := 0, begun := false } }, lv := { workGrant := [⟨0, 0, false, 30, .nvOp⟩] } }, { kind := 4, uid := 3, target := 1, wasActive := none, askAt := 0, begun := false }, by decide⟩,
   ⟨{ now := 4 * sec, par := { op := some { kind := 4, uid := 3, target := 1, wasActive := none, askAt := 0, begun := true, left := 2 } }, lv := { workGrant := [⟨0, 0, false, 30, .nvOp⟩] } }, { kind := 4, uid := 3, target := 1, wasActive := none, askAt := 0, begun := true, left := 2 }, by decide⟩,
   ⟨{ now := 4 * sec, par := { op := some { kind := 4, uid := 3, target := 1, wasActive := none, askAt := 0, begun := true, left := 1 } }, lv := { workGrant := [⟨0, 0, false, 30, .nvOp⟩] } }, { kind := 4, uid := 3, target := 1, wasActive := none, askAt := 0, begun := true, left := 1 }, by decide⟩,
   ⟨{ now := 4 * sec, par := { op := some { kind := 4, uid := 3, target := 1, wasActive := none, askAt := 0, begun := true, left := 1 } }, lv := { workGrant := [⟨0, 0, false, 30, .nvOp⟩] } }, { kind := 4, uid := 3, target := 1, wasActive := none, askAt := 0, begun := true, left := 1 }, { ({ kind := 4, uid := 3, target := 1, wasActive := none, askAt := 0, begun := true, left := 1 } : NvOp) with left := 0 }, rfl, by decide, by decide, rfl, rfl⟩,
   ⟨{ now := 4 * sec, par := { op := some { kind := 4, uid := 3, target := 1, wasActive := none, askAt := 0, begun := false } }, lv := { workWait := [⟨0, 0, false, 30, .nvOp⟩] } }, { kind := 4, uid := 3, target := 1, wasActive := none, askAt := 0, begun := false }, by decide⟩,
   ⟨{ kind := 4, uid := 3, target := 1, wasActive := none, askAt := 0, begun := false }, by decide⟩,
   ⟨{ kind := 4, uid := 3, target := 1, wasActive := none, askAt := 0, begun := true }, by decide⟩,
   ⟨{ par := { slotA := ({} : Slot).sealed } }, 0, sealed_intact {}⟩,
   ⟨{}, by decide⟩,
   ⟨({} : Slot).sealed, sealed_intact {}⟩,
   ⟨{ par := { slotA := { state := IMG_TRIAL } } }, 1, some 0, 0, by decide, by decide, by simp, rfl, by decide⟩,
   ⟨{ par := { slotB := { state := IMG_TRIAL } } }, 1, by decide⟩,
   ⟨{ par := { slotB := { state := IMG_BOOTED } } }, 1, by decide⟩⟩

/-- Operands and states that meet the hypotheses of SettingsImages. -/
theorem test_witness_SettingsImages :
    (∃ s : State, ∃ q : Nat, ∃ tag : Nat, ∃ c : InFlight, ∃ e, ∃ b, ∃ t, (Starts 0x0214 q tag s c) ∧ (0 < c.desc.u 32 4) ∧ (s.par.exportBuf = some (e, b, t)) ∧ (c.desc.u 32 4 ≤ b.length)) ∧
    (∃ s : State, ∃ q : Nat, ∃ tag : Nat, ∃ c : InFlight, (Starts 0x0214 q tag s c) ∧ (c.desc.u 32 4 = 0) ∧ (s.par.exportBuf = none) ∧ (s.slotAllows 0 0 M_APP = true)) ∧
    (∃ s : State, ∃ q : Nat, ∃ tag : Nat, ∃ c : InFlight, (Starts 0x0214 q tag s c) ∧ (c.desc.u 32 4 = 0) ∧ (s.par.exportBuf = none) ∧ (s.slotAllows 0 0 M_APP = false)) ∧
    (∃ s : State, ∃ q : Nat, ∃ tag : Nat, ∃ c : InFlight, ∃ e, ∃ b, ∃ t, (Starts 0x0214 q tag s c) ∧ (c.desc.u 32 4 = 0) ∧ (s.par.exportBuf = some (e, b, t)) ∧ (e ≠ c.entry)) ∧
    (∃ s : State, ∃ q : Nat, ∃ tag : Nat, ∃ c : InFlight, ∃ b, ∃ u, (Starts 0x0215 q tag s c) ∧ (c.desc.u 32 4 = 0) ∧ (c.desc.u 36 1 = 1) ∧ (s.par.importBuf = none) ∧ (c.desc.data = b) ∧ (b.length ≤ 131072) ∧ (s.par.op = none) ∧ (u = s.start c.uid)) ∧
    (∃ s : State, ∃ q : Nat, ∃ tag : Nat, ∃ c : InFlight, (Starts 0x0215 q tag s c) ∧ (c.desc.u 32 4 = 0) ∧ (c.desc.u 36 1 = 0) ∧ (s.par.importBuf = none) ∧ (c.desc.data.length ≤ 131072)) ∧
    (∃ s : State, ∃ q : Nat, ∃ tag : Nat, ∃ c : InFlight, ∃ b, ∃ t, (Starts 0x0215 q tag s c) ∧ (0 < c.desc.u 32 4) ∧ (c.desc.u 36 1 = 0) ∧ (s.par.importBuf = some (c.entry, b, t)) ∧ (c.desc.u 32 4 = b.length) ∧ (b.length + c.desc.data.length ≤ 131072)) ∧
    (∃ s : State, ∃ e, ∃ b, ∃ t, (s.par.exportBuf = some (e, b, t)) ∧ (t + 60 * sec ≤ s.now)) ∧
    (∃ s : State, ∃ e, ∃ b, ∃ t, (s.par.importBuf = some (e, b, t)) ∧ (t + 60 * sec ≤ s.now)) ∧
    (∃ s : State, (s.hasGrant .sysLog = true) ∧ (s.par.logDropped = 0)) ∧
    (∃ s : State, ∃ l, (s.hasGrant .sysLog = false) ∧ (logBytes (s.par.logDram ++ l) ≤ 65536)) ∧
    (∃ s : State, (s.hasGrant .sysLog = true)) :=
  ⟨⟨waits { par := { exportBuf := some (0, [1, 2, 3], 0) } } (desc 0x0214 0 [(32, 4, 3)] []), 0, 1, cmd (desc 0x0214 0 [(32, 4, 3)] []), 0, [1, 2, 3], 0, by decide⟩,
   ⟨waits {} (desc 0x0214 0 [] []), 0, 1, cmd (desc 0x0214 0 [] []), by decide⟩,
   ⟨waits { obs := { slots := [] } } (desc 0x0214 0 [] []), 0, 1, cmd (desc 0x0214 0 [] []), by decide⟩,
   ⟨waits { par := { exportBuf := some (1, [1, 2, 3], 0) } } (desc 0x0214 0 [] []), 0, 1, cmd (desc 0x0214 0 [] []), 1, [1, 2, 3], 0, by decide⟩,
   ⟨waits {} (desc 0x0215 0 [(36, 1, 1)] [7]), 0, 1, cmd (desc 0x0215 0 [(36, 1, 1)] [7]), [7], (waits {} (desc 0x0215 0 [(36, 1, 1)] [7])).start 7, by decide, by decide, by decide, by decide, by decide, by decide, by decide, rfl⟩,
   ⟨waits {} (desc 0x0215 0 [] []), 0, 1, cmd (desc 0x0215 0 [] []), by decide⟩,
   ⟨waits { par := { importBuf := some (0, [1, 2, 3], 0) } } (desc 0x0215 0 [(32, 4, 3)] [4]), 0, 1, cmd (desc 0x0215 0 [(32, 4, 3)] [4]), [1, 2, 3], 0, by decide⟩,
   ⟨{ now := minute, par := { exportBuf := some (0, [1, 2, 3], 0) } }, 0, [1, 2, 3], 0, by decide⟩,
   ⟨{ now := minute, par := { importBuf := some (0, [1, 2, 3], 0) } }, 0, [1, 2, 3], 0, by decide⟩,
   ⟨{ lv := { workGrant := [⟨0, 0, false, 30, .sysLog⟩] } }, by decide⟩,
   ⟨{}, ([[1]] : List Rec), by decide⟩,
   ⟨{ lv := { workGrant := [⟨0, 0, false, 30, .sysLog⟩] }, par := { logDropped := 3 } }, by decide⟩⟩

/-- Operands and states that meet the hypotheses of LeaveDecisions. -/
theorem test_witness_LeaveDecisions :
    (∃ s : State, ∃ r : LeaveReq, (s.pendingKw = 0) ∧ (s.limitOf r.consumer = none) ∧ (r.minKw ≤ r.kw) ∧ (s.lv.sum + r.kw ≤ s.lv.e)) ∧
    (∃ s : State, ∃ r : LeaveReq, ∃ g : Nat, ∃ l : Nat, (s.pendingKw = 0) ∧ (s.limitOf r.consumer = some l) ∧ (g < min r.kw l) ∧ (s.lv.sum + (min r.kw l - g) ≤ s.lv.e)) ∧
    (∃ s : State, ∃ r : LeaveReq, (s.pendingKw = 0) ∧ (s.limitOf r.consumer = none) ∧ (r.minKw ≤ r.kw) ∧ (r.partialOk = true) ∧ (s.lv.sum ≤ s.lv.e) ∧ (s.lv.e < s.lv.sum + r.kw) ∧ (r.minKw ≤ s.lv.e - s.lv.sum)) ∧
    (∃ s : State, (s.pendingKw ≠ 0)) ∧
    (∃ s : State, ∃ r : LeaveReq, ∃ h : Option Nat, ∃ d : Nat, ∃ l, (s.decideLeave r h = some d) ∧ (s.limitOf r.consumer = some l)) :=
  ⟨⟨{ lv := { sum := 100, e := 300 } }, { kind := 0, consumer := 300, kw := 200, minKw := 200 }, by decide⟩,
   ⟨{ lv := { sum := 100, e := 200, coolLimit := [(3, 150)] } }, { kind := 1, consumer := 3, kw := 200 }, 50, 150, by decide⟩,
   ⟨{ lv := { sum := 100, e := 200 } }, { kind := 0, consumer := 300, kw := 200, minKw := 100, partialOk := true }, by decide⟩,
   ⟨{ lv := { slots := [(0, { consumer := 300, state := 3, grantKw := 200, pending := [{ kw := 50, noticeMs := 200, endAt := some 1000 }] })] } }, by decide⟩,
   ⟨{ lv := { e := 200, coolLimit := [(3, 150)] } }, { kind := 0, consumer := 3, kw := 200 }, none, 150, 150, by decide⟩⟩

/-- Operands and states that meet the hypotheses of CapsWithinLedger. -/
theorem test_witness_CapsWithinLedger :
    (∃ s : State, ∃ l : List (Nat × Nat), ((∀ k, ((capEntries (s.capmap k)).map fun e => e.2.2).sum ≤ 1000)) ∧ (l.Nodup)) :=
  ⟨{ lv := { capmaps := [(300, mapRec)] } }, [(300, 100), (301, 0)], by
    intro k
    by_cases h : k = 300
    · subst h; decide
    · have : State.capmap { lv := { capmaps := [(300, mapRec)] } } k = [] := by simp [State.capmap, Tab.getD, Tab.get?, h]
      rw [this]; decide, by decide⟩

/-- Operands and states that meet the hypotheses of LeaveCommands. -/
theorem test_witness_LeaveCommands :
    (∃ s : State, ∃ q : Nat, ∃ tag : Nat, ∃ c : InFlight, ∃ m, (Starts 0x0300 q tag s c) ∧ (256 ≤ c.desc.object) ∧ (c.desc.object ≤ 511) ∧ (s.lv.capmaps.get? c.desc.object = some m) ∧ (c.desc.u 32 4 ≤ capMaxKw m) ∧ (1 ≤ c.desc.u 32 4) ∧ (c.desc.u 32 4 ≤ 200000) ∧ (c.desc.u 36 4 ≤ c.desc.u 32 4) ∧ (c.desc.u 40 4 ≤ 1000000) ∧ (c.desc.u 44 1 ≤ 7) ∧ (c.desc.u 45 1 ≤ 3) ∧ ((bit (c.desc.u 45 1) 1 = true → 1 ≤ c.desc.u 46 2 ∧ c.desc.u 46 2 ≤ 60000)) ∧ ((bit (c.desc.u 45 1) 1 = false → c.desc.u 46 2 = 0))) ∧
    (∃ s : State, ∃ q : Nat, ∃ tag : Nat, ∃ c : InFlight, (Starts 0x0301 q tag s c) ∧ (256 ≤ c.desc.object) ∧ (c.desc.object ≤ 511) ∧ (c.desc.u 32 4 ≤ ((s.lv.capmaps.get? c.desc.object).map capMaxKw).getD (2 ^ 32)) ∧ (1 ≤ c.desc.u 32 4) ∧ (c.desc.u 32 4 ≤ 200000) ∧ (c.desc.u 36 4 ≤ c.desc.u 32 4) ∧ (c.desc.u 40 4 ≤ 1000000) ∧ (c.desc.u 45 1 ≤ 1)) ∧
    (∃ s : State, ∃ q : Nat, ∃ tag : Nat, ∃ c : InFlight, (Starts 0x0302 q tag s c) ∧ (256 ≤ c.desc.object) ∧ (c.desc.object ≤ 511)) ∧
    (∃ s : State, ∃ q : Nat, ∃ tag : Nat, ∃ c : InFlight, (c.desc.object < 256) ∧ (Starts 0x0300 q tag s c)) ∧
    (∃ s : State, ∃ q : Nat, ∃ tag : Nat, ∃ c : InFlight, (c.desc.object < 256) ∧ (Starts 0x0301 q tag s c)) ∧
    (∃ s : State, ∃ q : Nat, ∃ tag : Nat, ∃ c : InFlight, (c.desc.object < 256) ∧ (Starts 0x0302 q tag s c)) ∧
    (∃ s : State, ∃ q : Nat, ∃ tag : Nat, ∃ c : InFlight, (Starts 0x0310 q tag s c) ∧ (c.desc.u 32 4 ≤ 200000)) ∧
    (∃ s : State, ∃ q : Nat, ∃ tag : Nat, ∃ c : InFlight, (Starts 0x0310 q tag s c) ∧ (c.desc.u 32 4 = 0xFFFFFFFF)) ∧
    (∃ s : State, ∃ q : Nat, ∃ tag : Nat, ∃ c : InFlight, (Starts 0x0303 q tag s c) ∧ (c.desc.u 34 2 ≤ 512) ∧ (64 + 32 * c.desc.u 34 2 ≤ c.desc.dataLen) ∧ (c.desc.u 32 2 + c.desc.u 34 2 ≤ 512)) :=
  ⟨⟨waits { lv := { capmaps := [(256, mapRec)] } } (desc 0x0300 256 [(32, 4, 500), (36, 4, 500), (40, 4, 1000000), (44, 1, 7), (45, 1, 3), (46, 2, 60000)] []), 0, 1, cmd (desc 0x0300 256 [(32, 4, 500), (36, 4, 500), (40, 4, 1000000), (44, 1, 7), (45, 1, 3), (46, 2, 60000)] []), mapRec, by decide⟩,
   ⟨waits { lv := { capmaps := [(256, mapRec)] } } (desc 0x0301 256 [(32, 4, 500), (36, 4, 500), (45, 1, 1)] []), 0, 1, cmd (desc 0x0301 256 [(32, 4, 500), (36, 4, 500), (45, 1, 1)] []), by decide⟩,
   ⟨waits {} (desc 0x0302 511 [] []), 0, 1, cmd (desc 0x0302 511 [] []), by decide⟩,
   ⟨waits {} (desc 0x0300 255 [] []), 0, 1, cmd (desc 0x0300 255 [] []), by decide⟩,
   ⟨waits {} (desc 0x0301 255 [] []), 0, 1, cmd (desc 0x0301 255 [] []), by decide⟩,
   ⟨waits {} (desc 0x0302 255 [] []), 0, 1, cmd (desc 0x0302 255 [] []), by decide⟩,
   ⟨waits {} (desc 0x0310 0 [(32, 4, 200000)] []), 0, 1, cmd (desc 0x0310 0 [(32, 4, 200000)] []), by decide⟩,
   ⟨waits {} (desc 0x0310 0 [(32, 4, 0xFFFFFFFF)] []), 0, 1, cmd (desc 0x0310 0 [(32, 4, 0xFFFFFFFF)] []), by decide⟩,
   ⟨waits {} (desc 0x0303 0 [(32, 2, 511), (34, 2, 1), (12, 4, 96)] []), 0, 1, cmd (desc 0x0303 0 [(32, 2, 511), (34, 2, 1), (12, 4, 96)] []), by decide⟩⟩

/-- Operands and states that meet the hypotheses of CapmapsAndShares. -/
theorem test_witness_CapmapsAndShares :
    (∃ s : State, ∃ q : Nat, ∃ tag : Nat, ∃ c : InFlight, ∃ r : Rec, (Starts 0x0311 q tag s c) ∧ (c.record 72 = some r) ∧ (c.desc.object ≤ 511) ∧ (s.slotOf c.desc.object = none) ∧ (allZero r = false) ∧ (s.capmapOk c.desc.object r = true)) ∧
    (∃ s : State, ∃ q : Nat, ∃ tag : Nat, ∃ c : InFlight, ∃ r : Rec, (Starts 0x0311 q tag s c) ∧ (c.record 72 = some r) ∧ (c.desc.object ≤ 511) ∧ (s.slotOf c.desc.object = none) ∧ (allZero r = true)) ∧
    (∃ s : State, ∃ q : Nat, ∃ tag : Nat, ∃ c : InFlight, ∃ r : Rec, (Starts 0x0311 q tag s c) ∧ (c.record 72 = some r) ∧ (c.desc.object ≤ 511) ∧ ((s.slotOf c.desc.object).isSome = true)) ∧
    (∃ s : State, ∃ q : Nat, ∃ tag : Nat, ∃ c : InFlight, (Starts 0x0312 q tag s c) ∧ (s.lv.sharePending = none) ∧ (1 ≤ c.desc.u 32 4) ∧ (c.desc.u 32 4 ≤ 4096) ∧ (c.desc.dataLen = 4 * c.desc.u 32 4) ∧ (c.desc.data.length = 4 * c.desc.u 32 4) ∧ (((shareEntries c).map Prod.snd).sum = 1000) ∧ ((∀ e ∈ shareEntries c, (s.plan e.1).isSome = true)) ∧ (noDup ((shareEntries c).map Prod.fst) = true)) ∧
    (∃ s : State, ∃ p : ShareSet, (s.lv.sharePending = some p) ∧ ((∀ k ∈ s.ring.plans.keys, k ∈ p.sent ∧ s.holds k = true)) ∧ (s.now < p.deadline)) ∧
    (∃ s : State, ∃ p : ShareSet, ∃ k : Nat, (s.lv.sharePending = some p) ∧ (k ∈ s.ring.plans.keys) ∧ (k ∉ p.sent ∨ s.holds k = false)) ∧
    (∃ s : State, ∃ p : ShareSet, (s.lv.sharePending = some p) ∧ (p.deadline ≤ s.now)) :=
  ⟨⟨waits planned (desc 0x0311 511 [] mapRec), 0, 1, cmd (desc 0x0311 511 [] mapRec), mapRec, by decide⟩,
   ⟨waits {} (desc 0x0311 511 [] (recOf 72 [])), 0, 1, cmd (desc 0x0311 511 [] (recOf 72 [])), recOf 72 [], by decide⟩,
   ⟨waits { lv := { slots := [(0, { consumer := 511, state := 1 })] } } (desc 0x0311 511 [] mapRec), 0, 1, cmd (desc 0x0311 511 [] mapRec), mapRec, by decide⟩,
   ⟨waits planned (desc 0x0312 0 [(32, 4, 1)] (pack [(2, 7), (2, 1000)])), 0, 1, cmd (desc 0x0312 0 [(32, 4, 1)] (pack [(2, 7), (2, 1000)])), by decide⟩,
   ⟨{ now := 5, ring := { plans := planned.ring.plans, nodes := [(7, { leased := true })] }, lv := { sharePending := some { version := 1, shares := [(7, 1000)], uid := 7, deadline := 6, sent := [7] } } }, { version := 1, shares := [(7, 1000)], uid := 7, deadline := 6, sent := [7] }, by decide⟩,
   ⟨{ now := 5, ring := { plans := planned.ring.plans, nodes := [(7, { leased := true })] }, lv := { sharePending := some { version := 1, shares := [(7, 1000)], uid := 7, deadline := 6, sent := [] } } }, { version := 1, shares := [(7, 1000)], uid := 7, deadline := 6, sent := [] }, 7, by decide⟩,
   ⟨{ now := 5, ring := { plans := planned.ring.plans, nodes := [(7, { leased := true })] }, lv := { sharePending := some { version := 1, shares := [(7, 1000)], uid := 7, deadline := 5, sent := [7] } } }, { version := 1, shares := [(7, 1000)], uid := 7, deadline := 5, sent := [7] }, by decide⟩⟩

/-- Operands and states that meet the hypotheses of ArbiterAndWorkLeave. -/
theorem test_witness_ArbiterAndWorkLeave :
    (∃ s : State, (s.isActive = true)) ∧
    (∃ s : State, (s.isActive = false)) ∧
    (∃ s : State, ∃ e : Nat, (s.lv.setExpiry = some e) ∧ (e ≤ s.now)) ∧
    (∃ s : State, ∃ k : Nat, ∃ x : LvSlot, ∃ r : Reduction, ∃ t : Nat, (s.lv.slots = [(k, x)]) ∧ (x.pending = [r]) ∧ (r.endAt = some t) ∧ (t ≤ s.now) ∧ (0 < r.kw) ∧ (s.isActive = true)) ∧
    (∃ s : State, (s.isActive = false)) ∧
    (∃ s : State, ∃ k : Nat, ∃ x : LvSlot, ∃ r : LeaveReq, (s.lv.slots.get? k = some x) ∧ (x.waiting = some r) ∧ (x.deadline ≤ s.now)) ∧
    (∃ s : State, ∃ n : Nat, ∃ o : Nat, (n ∈ s.ring.plans.keys) ∧ (o < 8)) ∧
    (∃ s : State, ∃ kw : Int, ∃ t : Nat, (s.publishes = true) ∧ ((s.lv.g : Int) + s.pendingKw + s.pn PAR_LV_OVER_TOL_KW < kw) ∧ (s.lv.overSince = some t) ∧ (t + s.pn PAR_LV_OVER_MS * ms ≤ s.now)) ∧
    (∃ s : State, ∃ kw : Int, (s.publishes = false ∨ kw ≤ s.lv.g + s.pendingKw + s.pn PAR_LV_OVER_TOL_KW ∨ s.lv.overSince = none)) ∧
    (∃ s : State, ∃ kw : Nat, ∃ t : Nat, (s.publishes = true) ∧ (s.lv.pBound.isSome = true) ∧ (s.lvB s.lv.g s.lvPRaw ≤ kw) ∧ (s.lv.restoreSince = some t) ∧ (t + 10 * sec ≤ s.now)) ∧
    (∃ s : State, ∃ kind : Nat, ∃ w : Work, (s.nextWorkReq kind = some w)) ∧
    (∃ s : State, ∃ t : State, ∃ kind : Nat, (((s.lv.workGrant.filter fun w => w.kind == kind).map Work.amount).sum ≤ (if kind = 0 then 120 else s.pn PAR_LV_WORK_BULK_MBS)) ∧ (exec (.workLeaveGrant kind) s = .next t)) ∧
    (∃ s : State, (s.lv.workHold = true)) ∧
    (∃ s : State, ∃ kind : Nat, ∃ w : Work, ∃ v : Work, (s.nextWorkReq kind = some w) ∧ (v ∈ s.lv.workWait) ∧ (v.kind = kind) ∧ (v.island = true)) ∧
    (∃ s : State, ∃ id : Nat, ∃ w : Work, (s.lv.workGrant.find? (fun x => x.id == id) = some w) ∧ (s.endsItself w.what = false)) ∧
    (∃ s : State, ∃ q : Nat, ∃ tag : Nat, ∃ c : InFlight, ∃ id : Nat, ∃ v : Int, ∃ t : Nat, (s.mbx.inflight = [c]) ∧ (c.q = q) ∧ (c.desc.tag = tag) ∧ (c.phase = .running) ∧ (s.par.islandWait = [(c.uid, id, v, t)]) ∧ (s.awaits (.parIsland c.uid) = true) ∧ (t ≤ s.now)) ∧
    (∃ s : State, ∃ q : Nat, ∃ tag : Nat, ∃ c : InFlight, (s.mbx.inflight = [c]) ∧ (c.q = q) ∧ (c.desc.tag = tag) ∧ (c.phase = .running) ∧ (s.awaits (.tuneRead c.uid) = true ∨ s.awaits (.ptDump c.uid) = true) ∧ (c.deadline ≤ s.now)) ∧
    (∃ s : State, ∃ q : Nat, ∃ tag : Nat, ∃ t : Nat, ∃ c : InFlight, ∃ w : WorkFor, (s.mbx.inflight.find? (fun c => c.q == q && c.desc.tag == tag && c.phase == .running && (s.islandWaits c).isSome) = some c) ∧ (s.islandWaits c = some (w, t)) ∧ (t ≤ s.now)) :=
  ⟨⟨{ pair := { role := ROLE_ACTIVE } }, by decide⟩,
   ⟨{}, by decide⟩,
   ⟨{ now := 5, lv := { setExpiry := some 5 } }, 5, by decide⟩,
   ⟨{ now := 1000, pair := { role := ROLE_ACTIVE }, lv := { slots := [(0, { consumer := 300, state := 3, grantKw := 200, pending := [{ kw := 50, noticeMs := 200, endAt := some 1000 }] })] } }, 0, { consumer := 300, state := 3, grantKw := 200, pending := [{ kw := 50, noticeMs := 200, endAt := some 1000 }] }, { kw := 50, noticeMs := 200, endAt := some 1000 }, 1000, by decide⟩,
   ⟨{}, by decide⟩,
   ⟨{ now := 1000, lv := { slots := [(0, { consumer := 300, state := 2, waiting := some { kind := 0, consumer := 300, kw := 200, wait := true, waitMs := 1 }, deadline := 1000 })] } }, 0, { consumer := 300, state := 2, waiting := some { kind := 0, consumer := 300, kw := 200, wait := true, waitMs := 1 }, deadline := 1000 }, { kind := 0, consumer := 300, kw := 200, wait := true, waitMs := 1 }, by decide⟩,
   ⟨planned, 7, 7, by decide⟩,
   ⟨{ now := 10 * sec, pair := { role := ROLE_ACTIVE }, ring := { nodes := [(7, { leased := true })] }, lv := { g := 1, overSince := some 0 } }, 202, 0, by decide⟩,
   ⟨{}, 201, by decide⟩,
   ⟨{ now := 10 * sec, pair := { role := ROLE_ACTIVE }, ring := { nodes := [(7, { leased := true })] }, lv := { pBound := some 5, restoreSince := some 0 } }, 0, 0, by decide⟩,
   ⟨{ lv := { workWait := [⟨4, 0, false, 30, .sysLog⟩] } }, 0, ⟨4, 0, false, 30, .sysLog⟩, by decide⟩,
   ⟨{}, {}, 0, by decide, rfl⟩,
   ⟨{ lv := { workHold := true, workWait := [⟨4, 0, false, 30, .sysLog⟩] } }, by decide⟩,
   ⟨{ lv := { workWait := [⟨4, 0, false, 30, .sysLog⟩, ⟨5, 0, true, 30, .metStore 7⟩] } }, 0, ⟨5, 0, true, 30, .metStore 7⟩, ⟨5, 0, true, 30, .metStore 7⟩, by decide⟩,
   ⟨{ lv := { workGrant := [⟨5, 0, true, 30, .metStore 7⟩] } }, 5, ⟨5, 0, true, 30, .metStore 7⟩, by decide⟩,
   ⟨{ now := 5, mbx := { inflight := [{ uid := 7, q := 0, entry := 0, desc := desc 0x0201 0 [] [], phase := .running }] }, par := { islandWait := [(7, 0x0B00, 1, 5)] }, lv := { workWait := [⟨4, 0, true, 30, .parIsland 7⟩] } }, 0, 1, { uid := 7, q := 0, entry := 0, desc := desc 0x0201 0 [] [], phase := .running }, 0x0B00, 1, 5, by decide⟩,
   ⟨{ now := 5, mbx := { inflight := [{ uid := 7, q := 0, entry := 0, desc := desc 0x0603 0 [] [], phase := .running, deadline := 5 }] }, lv := { workWait := [⟨4, 1, false, 128, .tuneRead 7⟩] } }, 0, 1, { uid := 7, q := 0, entry := 0, desc := desc 0x0603 0 [] [], phase := .running, deadline := 5 }, by decide⟩,
   ⟨{ now := 5, mbx := { inflight := [{ uid := 7, q := 0, entry := 0, desc := desc 0x0201 0 [] [], phase := .running }] }, par := { islandWait := [(7, 0x0B00, 1, 5)] }, lv := { workWait := [⟨4, 0, true, 30, .parIsland 7⟩] } }, 0, 1, 5, { uid := 7, q := 0, entry := 0, desc := desc 0x0201 0 [] [], phase := .running }, .parIsland 7, by decide⟩⟩

/-- Operands and states that meet the hypotheses of RingCycles. -/
theorem test_witness_RingCycles :
    (∃ s : State, (s.sys.locks.getLsbD 2 = false)) ∧
    (∃ s : State, (s.sys.locks.getLsbD 2 = true) ∧ (s.pair.role ≠ ROLE_RELEASING) ∧ (s.ring.raiseTo = none) ∧ (s.lv.slots = []) ∧ (s.lv.residue = []) ∧ (s.ring.scan = none) ∧ (s.sys.resetDue = none)) ∧
    (∃ s : State, ∃ e : Nat, (s.ring.raiseTo = some e) ∧ (0 < s.ring.raiseLeft)) ∧
    (∃ o : CapOut, (o.sentKw ≤ o.heldKw)) ∧
    (∃ o : CapOut, (o.heldKw ≤ o.sentKw)) ∧
    (∃ since : Nat, ∃ hold : Nat, (since < hold)) ∧
    (∃ since : Nat, ∃ hold : Nat, ∃ ramp : Nat, (hold + ramp ≤ since)) :=
  ⟨⟨{}, by decide⟩,
   ⟨{ sys := { locks := 4 }, pair := { role := ROLE_ACTIVE } }, by decide⟩,
   ⟨{ ring := { raiseTo := some 5, raiseLeft := 3 } }, 5, by decide⟩,
   ⟨{ node := 7, output := 0, heldKw := 100, sentKw := 80 }, by decide⟩,
   ⟨{ node := 7, output := 0, heldKw := 80, sentKw := 100 }, by decide⟩,
   ⟨4, 5, by decide⟩,
   ⟨7, 5, 2, by decide⟩⟩

/-- Operands and states that meet the hypotheses of NodeEvents. -/
theorem test_witness_NodeEvents :
    (∃ s : State, ∃ n : Nat, ((s.node n).state ≠ 0) ∧ ((s.node n).state ≠ 5) ∧ (s.nodeRing n ≠ 2) ∧ ((s.node n).seenAt + ms ≤ s.now)) ∧
    (∃ s : State, ∃ n : Nat, ∃ e : Nat, ((s.node n).state = 5) ∧ (e = s.ring.epoch)) ∧
    (∃ s : State, ∃ n : Nat, (2 ≤ (s.node n).before) ∧ ((s.node n).before ≤ 4) ∧ (s.held 2 n 2 = false) ∧ (s.instsOf n = [])) ∧
    (∃ s : State, ∃ n : Nat, ∃ e : Nat, ((s.node n).state = 5 ∨ (s.node n).state = 6) ∧ (e ≠ s.ring.epoch)) ∧
    (∃ s : State, ∃ n : Nat, ((s.node n).state ≠ 0) ∧ ((s.node n).state ≠ 1) ∧ ((s.node n).state ≠ 5) ∧ ((s.node n).leased = false) ∧ ((s.node n).epoch < s.ring.epoch) ∧ (s.pair.role ≠ ROLE_STANDBY) ∧ (s.instsOf n = []) ∧ (s.stagesOf n = []) ∧ (s.held 2 n 2 = false)) ∧
    (∃ s : State, ∃ n : Nat, ((s.node n).leased = true) ∧ ((s.node n).released = false)) ∧
    (∃ s : State, ∃ n : Nat, ∃ e : Nat, (e ≤ (s.node n).epoch)) ∧
    (∃ s : State, ∃ n : Nat, ∃ code : Nat, (code = 1 ∨ code = 2) ∧ (2 ≤ (s.node n).state) ∧ ((s.node n).state ≤ 4)) ∧
    (∃ s : State, ∃ n : Nat, ((s.node n).state ≠ 0)) ∧
    (∃ s : State, ∃ n : Nat, ((s.node n).state ≠ 0) ∧ (s.instsOf n = []) ∧ ((s.node n).missed < 3)) ∧
    (∃ n : Nat, ∃ m, (m ≠ n)) ∧
    (∃ s : State, ∃ n : Nat, ((s.node n).state ≠ 0) ∧ ((s.node n).state ≠ 1) ∧ ((s.node n).state ≠ 5) ∧ ((s.node n).leased = false ∨ (s.node n).released = true) ∧ ((s.node n).epoch < s.ring.epoch)) ∧
    (∃ s : State, ∃ n : Nat, ((s.node n).state ≠ 0) ∧ ((s.nodeHeard n).instsOf n = [])) :=
  ⟨⟨{ now := 5 + ms, ring := { epoch := 9, plans := planned.ring.plans, nodes := [(7, { state := 2, seenAt := 5 })] } }, 7, by decide⟩,
   ⟨{ ring := { epoch := 9, plans := planned.ring.plans, nodes := [(7, { state := 5 })] } }, 7, 9, by decide⟩,
   ⟨{ ring := { epoch := 9, plans := planned.ring.plans, nodes := [(7, { state := 5, before := 4 })] } }, 7, by decide⟩,
   ⟨{ ring := { epoch := 9, plans := planned.ring.plans, nodes := [(7, { state := 6 })] } }, 7, 8, by decide⟩,
   ⟨{ pair := { role := ROLE_ACTIVE }, ring := { epoch := 9, plans := planned.ring.plans, nodes := [(7, { state := 6, epoch := 8 })] } }, 7, by decide⟩,
   ⟨{ ring := { epoch := 9, plans := planned.ring.plans, nodes := [(7, { state := 2, leased := true, epoch := 9 })] } }, 7, by decide⟩,
   ⟨{ ring := { epoch := 9, plans := planned.ring.plans, nodes := [(7, { state := 6, epoch := 9 })] } }, 7, 9, by decide⟩,
   ⟨{ ring := { epoch := 9, plans := planned.ring.plans, nodes := [(7, { state := 4 })] } }, 7, 2, by decide⟩,
   ⟨{ ring := { epoch := 9, plans := planned.ring.plans, nodes := [(7, { state := 2 })] } }, 7, by decide⟩,
   ⟨{ ring := { epoch := 9, plans := planned.ring.plans, nodes := [(7, { state := 2, missed := 2 })] } }, 7, by decide⟩,
   ⟨7, 8, by decide⟩,
   ⟨{ pair := { role := ROLE_STANDBY }, bas := { coeffs := [(4, recOf 64 [(0, 2, 7)])], insts := [(4, { state := 2 })] }, ring := { epoch := 9, plans := planned.ring.plans, nodes := [(7, { state := 6, epoch := 8 })] } }, 7, by decide⟩,
   ⟨{ ring := { epoch := 9, plans := planned.ring.plans, nodes := [(7, { state := 2 })] } }, 7, by decide⟩⟩

/-- Operands and states that meet the hypotheses of RingStates. -/
theorem test_witness_RingStates :
    (∃ s : State, ∃ r : Nat, ((s.port (2 * r)).lock = false) ∧ ((s.port (2 * r + 1)).lock = false)) ∧
    (∃ s : State, ∃ r : Nat, ∃ n : Nat, ((s.port (2 * r)).lock = true) ∧ (n ∈ s.membersOf r) ∧ (5 ≤ (s.node n).state)) ∧
    (∃ s : State, ∃ r : Nat, ((s.port (2 * r)).lock = true) ∧ ((∀ n ∈ s.membersOf r, (s.node n).state < 5))) ∧
    (∃ r : Nat, (r < 2)) ∧
    (∃ cage : Nat, (cage < 4)) ∧
    (∃ cage : Nat, ∃ rate : Nat, (cage ≤ 5) ∧ (opticFits cage rate = true)) ∧
    (∃ cage : Nat, ∃ rate : Nat, (cage < 4) ∧ (opticFits cage rate = false)) ∧
    (∃ s : State, ∃ t : State, ∃ cage : Nat, ∃ rate : Nat, ∃ p : Bool, (cage ≤ 5) ∧ (p = false ∨ opticFits cage rate = false) ∧ (t = { s with pins := { s.pins with optics := s.pins.optics.set cage (if p then { present := true, rate := rate, tx := false } else {}) } })) :=
  ⟨⟨{}, 0, by decide⟩,
   ⟨{ ring := { ports := [(0, { lock := true })], plans := planned.ring.plans, nodes := [(7, { state := 5 })] } }, 0, 7, by decide⟩,
   ⟨{ ring := { ports := [(0, { lock := true })], plans := planned.ring.plans, nodes := [(7, { state := 4 })] } }, 0, by decide⟩,
   ⟨1, by decide⟩,
   ⟨3, by decide⟩,
   ⟨5, 10312, by decide⟩,
   ⟨3, 10312, by decide⟩,
   ⟨{}, { pins := { optics := Tab.set [] 5 {} } }, 5, 0, false, by decide⟩⟩

/-- Operands and states that meet the hypotheses of NodeTable. -/
theorem test_witness_NodeTable :
    (∃ s : State, ∃ q : Nat, ∃ tag : Nat, ∃ c : InFlight, (Starts 0x0402 q tag s c) ∧ (s.scanning = false)) ∧
    (∃ s : State, ∃ q : Nat, ∃ tag : Nat, ∃ c : InFlight, (Starts 0x0402 q tag s c) ∧ (s.scanning = true)) ∧
    (∃ s : State, ∃ w : RingScan, (s.ring.scan = some w) ∧ (w.due ≤ s.now)) ∧
    (∃ s : State, ∃ q : Nat, ∃ tag : Nat, ∃ c : InFlight, ∃ r : Rec, (Starts 0x0400 q tag s c) ∧ (c.record 32 = some r) ∧ (allZero r = false) ∧ (1 ≤ c.desc.object) ∧ (c.desc.object ≤ 0x0FFF) ∧ (nodeRecOk c.desc.object r = true) ∧ (s.nodeKindFits c.desc.object r = true) ∧ (s.nodeRecFits c.desc.object r = true) ∧ (s.nodeInUse c.desc.object = false)) ∧
    (∃ s : State, ∃ q : Nat, ∃ tag : Nat, ∃ c : InFlight, ∃ r : Rec, ∃ o : Rec, (Starts 0x0400 q tag s c) ∧ (c.record 32 = some r) ∧ (allZero r = false) ∧ (1 ≤ c.desc.object) ∧ (c.desc.object ≤ 0x0FFF) ∧ (nodeRecOk c.desc.object r = true) ∧ (s.nodeKindFits c.desc.object r = true) ∧ (s.nodeRecFits c.desc.object r = true) ∧ (s.plan c.desc.object = some o) ∧ (o.take 16 = r.take 16)) ∧
    (∃ s : State, ∃ q : Nat, ∃ tag : Nat, ∃ c : InFlight, ∃ r : Rec, (Starts 0x0400 q tag s c) ∧ (c.record 32 = some r) ∧ (1 ≤ c.desc.object) ∧ (c.desc.object ≤ 0x0FFF) ∧ ((s.plan c.desc.object).isSome = true) ∧ (allZero r = true) ∧ (s.nodeInUse c.desc.object = true)) ∧
    (∃ s : State, ∃ q : Nat, ∃ tag : Nat, ∃ c : InFlight, (Starts 0x0401 q tag s c) ∧ (1 ≤ c.desc.u 34 2) ∧ (c.desc.u 34 2 ≤ 1024) ∧ (32 * c.desc.u 34 2 ≤ c.desc.dataLen) ∧ (c.desc.u 32 2 + c.desc.u 34 2 ≤ 0xFFFF)) ∧
    (∃ s : State, ∃ q : Nat, ∃ tag : Nat, ∃ c : InFlight, (Starts 0x0403 q tag s c) ∧ ((s.node c.desc.object).state = 3) ∧ (1000 ≤ (s.node c.desc.object).answered) ∧ (s.instsOf c.desc.object = [])) ∧
    (∃ s : State, ∃ q : Nat, ∃ tag : Nat, ∃ c : InFlight, (Starts 0x0403 q tag s c) ∧ ((s.node c.desc.object).state ≠ 3)) ∧
    (∃ s : State, ∃ q : Nat, ∃ tag : Nat, ∃ c : InFlight, (Starts 0x0403 q tag s c) ∧ ((s.node c.desc.object).state = 3) ∧ (1000 ≤ (s.node c.desc.object).answered) ∧ ((∀ i ∈ s.halved c.desc.object, s.nodeFits c.desc.object ((s.inst i).k / 2) = true))) :=
  ⟨⟨waits {} (desc 0x0402 0 [] []), 0, 1, cmd (desc 0x0402 0 [] []), by decide⟩,
   ⟨waits { ring := { enumWait := [1] } } (desc 0x0402 0 [] []), 0, 1, cmd (desc 0x0402 0 [] []), by decide⟩,
   ⟨{ now := 5, ring := { scan := some ⟨7, 5, []⟩ } }, ⟨7, 5, []⟩, by decide⟩,
   ⟨waits {} (desc 0x0400 0x0FFF [] (recOf 32 [(16, 2, 0x0FFF), (18, 1, 3), (23, 1, 1)])), 0, 1, cmd (desc 0x0400 0x0FFF [] (recOf 32 [(16, 2, 0x0FFF), (18, 1, 3), (23, 1, 1)])), recOf 32 [(16, 2, 0x0FFF), (18, 1, 3), (23, 1, 1)], by decide⟩,
   ⟨waits { ring := planned.ring } (desc 0x0400 7 [] (recOf 32 [(16, 2, 7), (18, 1, 1), (19, 1, 1)])), 0, 1, cmd (desc 0x0400 7 [] (recOf 32 [(16, 2, 7), (18, 1, 1), (19, 1, 1)])), recOf 32 [(16, 2, 7), (18, 1, 1), (19, 1, 1)], recOf 32 [(16, 2, 7), (18, 1, 1)], by decide⟩,
   ⟨waits { ring := planned.ring, lv := { capmaps := [(300, mapRec)] } } (desc 0x0400 7 [] (recOf 32 [])), 0, 1, cmd (desc 0x0400 7 [] (recOf 32 [])), recOf 32 [], by decide⟩,
   ⟨waits {} (desc 0x0401 0 [(32, 2, 0xFFFE), (34, 2, 1), (12, 4, 32)] []), 0, 1, cmd (desc 0x0401 0 [(32, 2, 0xFFFE), (34, 2, 1), (12, 4, 32)] []), by decide⟩,
   ⟨waits { ring := { epoch := 9, plans := planned.ring.plans, nodes := [(7, { state := 3, answered := 1000 })] } } (desc 0x0403 7 [] []), 0, 1, cmd (desc 0x0403 7 [] []), by decide⟩,
   ⟨waits { ring := { epoch := 9, plans := planned.ring.plans, nodes := [(7, { state := 2 })] } } (desc 0x0403 7 [] []), 0, 1, cmd (desc 0x0403 7 [] []), by decide⟩,
   ⟨waits { ring := { epoch := 9, plans := planned.ring.plans, nodes := [(7, { state := 3, answered := 1000 })] } } (desc 0x0403 7 [] []), 0, 1, cmd (desc 0x0403 7 [] []), by decide⟩⟩

/-- Operands and states that meet the hypotheses of ControlLaw. -/
theorem test_witness_ControlLaw :
    (∃ c : Law, ∃ iAcc : Int, ∃ dq : Int, ∃ xPrev : Int, ∃ first : Bool, ∃ r : Int, ∃ y : Int, ∃ f : Int, ∃ rep : Int, ∃ rq : Int, ((evalLaw c iAcc dq xPrev first none r y f rep rq 0 0).causes = 0)) :=
  ⟨{ kp := 1, ki := 1, kd := 0, kff := 0, dfilt := 0, kr := 0, qf := 0, sh := 8, dMeas := false }, 0, 0, 0, true, 5, 0, 0, 0, 0, by decide⟩

/-- Operands and states that meet the hypotheses of TrackingStart. -/
theorem test_witness_TrackingStart :
    (∃ c : Law, ∃ iAcc : Int, ∃ dq : Int, ∃ xPrev : Int, ∃ t : Int, ∃ first : Bool, ∃ r : Int, ∃ y : Int, ∃ f : Int, ∃ rep : Int, ∃ rq : Int, (c.sh ≤ 8) ∧ (-32768 ≤ t) ∧ (t ≤ 32767) ∧ ((evalLaw c iAcc dq xPrev first (some t) r y f rep rq 0 0).causes.getLsbD 0 = false)) :=
  ⟨{ kp := 1, ki := 1, kd := 0, kff := 0, dfilt := 0, kr := 0, qf := 0, sh := 8, dMeas := false }, 0, 0, 0, -32768, true, 5, 0, 0, 0, 0, by decide⟩

/-- Operands and states that meet the hypotheses of ScalingBound. -/
theorem test_witness_ScalingBound :
    (∃ c : Law, ∃ i0 : Int, ∃ xPrev : Int, ∃ l : List (Int × Int × Int), ∃ e : Nat, ∃ f : Nat, ∃ w, (w ∈ lawRun c i0 0 xPrev l) ∧ (c.kd = 0) ∧ (c.kr = 0) ∧ (c.sh ≤ 8) ∧ ((∀ v ∈ l, (v.1 - v.2.1).natAbs ≤ e ∧ v.2.2.natAbs ≤ f)) ∧ (c.kp.natAbs * e + i0.natAbs + l.length * (c.ki.natAbs * e) + c.kff.natAbs * f < 2 ^ (30 - c.sh))) :=
  ⟨{ kp := 1, ki := 1, kd := 0, kff := 0, dfilt := 0, kr := 0, qf := 0, sh := 8, dMeas := false }, 0, 0, [(5, 3, 0)], 2, 0, 0, by decide⟩

/-- Operands and states that meet the hypotheses of PhasesAndFences. -/
theorem test_witness_PhasesAndFences :
    (∃ s : State, ∃ i : Nat, ∃ k : Nat, ∃ p : Nat, ∃ ex : List Nat, (s.choosePhase i k ex = some p)) ∧
    (∃ s : State, ∃ i : Nat, ∃ k : Nat, ∃ ex : List Nat, ∃ p, (s.choosePhase i k ex = none) ∧ (p < k)) ∧
    (∃ s : State, ∃ i : Nat, ∃ k : Nat, ∃ ex : List Nat, ∃ e : Nat × Inst, (e ∈ s.schedule (i :: ex)) ∧ (coefNode (s.coef e.1) = coefNode (s.coef i)) ∧ (e.2.k = k) ∧ (e.2.state ≠ 4) ∧ (s.phaseFits (s.schedule (i :: ex)) i k e.2.phase = true)) ∧
    (∃ s : State, ∃ i : Nat, ((s.inst i).state = 2 ∨ (s.inst i).state = 3)) ∧
    (∃ s : State, ∃ i : Nat, ((s.inst i).state < 2)) ∧
    (∃ i : Nat, ∃ j : Nat, (j ≠ i)) ∧
    (∃ x : Inst, ∃ k : Nat, (k < 4) ∧ (x.state = 4) ∧ (x.fenceCause = BitVec.ofNat 4 (2 ^ k))) ∧
    (∃ x : Inst, ∃ k : Nat, (x.state = 4) ∧ (x.fenceCause &&& ~~~ BitVec.ofNat 4 (2 ^ k) ≠ 0)) ∧
    (∃ x : Inst, (x.state = 4)) ∧
    (∃ x : Inst, (x.state = 3)) ∧
    (∃ x : Inst, (x.state = 2)) :=
  ⟨⟨{ bas := { coeffs := [(0, recOf 64 [(3, 1, 1), (28, 2, 0xFFFF)])], insts := [(0, { state := 1 }), (5, { state := 2, k := 1000, phase := 3 }), (6, { state := 2, k := 1000, phase := 3 })] } }, 0, 1000, 3, [], by decide⟩,
   ⟨{ par := { running := [(PAR_BAS_EVAL_LIMIT, 0)] } }, 0, 1, [], 0, by decide⟩,
   ⟨{ bas := { coeffs := [(0, recOf 64 [(3, 1, 1), (28, 2, 0xFFFF)])], insts := [(0, { state := 1 }), (5, { state := 2, k := 1000, phase := 3 }), (6, { state := 2, k := 1000, phase := 3 })] } }, 0, 1000, [], (5, { state := 2, k := 1000, phase := 3 }), by decide⟩,
   ⟨{ bas := { coeffs := [(0, recOf 64 [(3, 1, 1), (28, 2, 0xFFFF)])], insts := [(0, { state := 1 }), (5, { state := 2, k := 1000, phase := 3 }), (6, { state := 2, k := 1000, phase := 3 })] } }, 5, by decide⟩,
   ⟨{ bas := { coeffs := [(0, recOf 64 [(3, 1, 1), (28, 2, 0xFFFF)])], insts := [(0, { state := 1 }), (5, { state := 2, k := 1000, phase := 3 }), (6, { state := 2, k := 1000, phase := 3 })] } }, 0, by decide⟩,
   ⟨0, 1, by decide⟩,
   ⟨{ state := 4, fenceCause := 8 }, 3, by decide⟩,
   ⟨{ state := 4, fenceCause := 9 }, 3, by decide⟩,
   ⟨{ state := 4 }, by decide⟩,
   ⟨{ state := 3 }, by decide⟩,
   ⟨{ state := 2 }, by decide⟩⟩

/-- Operands and states that meet the hypotheses of BasaltCommands. -/
theorem test_witness_BasaltCommands :
    (∃ s : State, ∃ q : Nat, ∃ tag : Nat, ∃ c : InFlight, ∃ r, (Starts 0x0500 q tag s c) ∧ (c.record 64 = some r) ∧ ((s.inst c.desc.object).owner = 0) ∧ (c.desc.object ≤ 2047) ∧ (allZero r = false) ∧ (s.coefOk r = true) ∧ (scheduled (s.inst c.desc.object) = false)) ∧
    (∃ s : State, ∃ q : Nat, ∃ tag : Nat, ∃ c : InFlight, ∃ r, (Starts 0x0500 q tag s c) ∧ (c.record 64 = some r) ∧ ((s.inst c.desc.object).owner = 0) ∧ (c.desc.object ≤ 2047) ∧ (allZero r = true) ∧ (scheduled (s.inst c.desc.object) = false)) ∧
    (∃ s : State, ∃ q : Nat, ∃ tag : Nat, ∃ c : InFlight, ∃ k, ∃ p, ∃ half, (Starts 0x0501 q tag s c) ∧ ((s.inst c.desc.object).owner = 0) ∧ (s.armCheck c.desc.object (c.desc.u 32 1) none = .inr (k, p, half))) ∧
    (∃ s : State, ∃ q : Nat, ∃ tag : Nat, ∃ c : InFlight, ∃ st, (Starts 0x0501 q tag s c) ∧ ((s.inst c.desc.object).owner = 0) ∧ (s.armCheck c.desc.object (c.desc.u 32 1) none = .inl st)) ∧
    (∃ s : State, ∃ q : Nat, ∃ tag : Nat, ∃ c : InFlight, (Starts 0x0502 q tag s c) ∧ ((s.inst c.desc.object).owner = 0) ∧ (c.desc.object ≤ 2047) ∧ (c.desc.u 32 1 = 0) ∧ ((s.inst c.desc.object).state = 2)) ∧
    (∃ s : State, ∃ q : Nat, ∃ tag : Nat, ∃ c : InFlight, (Starts 0x0502 q tag s c) ∧ ((s.inst c.desc.object).owner = 0) ∧ (c.desc.object ≤ 2047) ∧ (c.desc.u 32 1 = 1) ∧ ((s.inst c.desc.object).state = 3)) ∧
    (∃ s : State, ∃ q : Nat, ∃ tag : Nat, ∃ c : InFlight, (Starts 0x0502 q tag s c) ∧ ((s.inst c.desc.object).owner = 0) ∧ (c.desc.object ≤ 2047) ∧ (c.desc.u 32 1 ≤ 1) ∧ ((s.inst c.desc.object).state = 4)) ∧
    (∃ s : State, ∃ q : Nat, ∃ tag : Nat, ∃ c : InFlight, (Starts 0x0503 q tag s c) ∧ ((s.inst c.desc.object).owner = 0) ∧ (c.desc.object ≤ 2047) ∧ ((s.inst c.desc.object).state = 2 ∨ (s.inst c.desc.object).state = 3)) ∧
    (∃ s : State, ∃ q : Nat, ∃ tag : Nat, ∃ c : InFlight, (Starts 0x0503 q tag s c) ∧ ((s.inst c.desc.object).owner = 0) ∧ (c.desc.object ≤ 2047) ∧ ((s.inst c.desc.object).state = 1)) ∧
    (∃ s : State, ∃ q : Nat, ∃ tag : Nat, ∃ c : InFlight, (Starts 0x0503 q tag s c) ∧ ((s.inst c.desc.object).owner = 0) ∧ (c.desc.object ≤ 2047) ∧ ((s.inst c.desc.object).state = 4)) ∧
    (∃ s : State, ∃ q : Nat, ∃ tag : Nat, ∃ c : InFlight, ∃ t, (Starts 0x0505 q tag s c) ∧ ((s.inst c.desc.object).owner = 0) ∧ ((s.inst (c.desc.u 32 2)).owner = 0) ∧ ((s.start c.uid).handover c.desc.object (c.desc.u 32 2) (some c.uid) = .inr t)) ∧
    (∃ s : State, ∃ q : Nat, ∃ tag : Nat, ∃ c : InFlight, (Starts 0x0501 q tag s c) ∧ ((s.inst c.desc.object).owner ≠ 0)) ∧
    (∃ s : State, ∃ q : Nat, ∃ tag : Nat, ∃ c : InFlight, (Starts 0x0503 q tag s c) ∧ ((s.inst c.desc.object).owner ≠ 0)) ∧
    (∃ s : State, ∃ q : Nat, ∃ tag : Nat, ∃ c : InFlight, (Starts 0x0504 q tag s c) ∧ (1 ≤ c.desc.u 32 2) ∧ (c.desc.u 32 2 ≤ 256) ∧ (c.desc.dataLen = 4 * c.desc.u 32 2) ∧ (c.desc.data.length = 4 * c.desc.u 32 2) ∧ (noDup ((refEntries c).map Prod.fst) = true) ∧ ((∀ e ∈ refEntries c, (s.inst e.1).owner = 0 ∧ e.1 ≤ 2047 ∧ 1 ≤ (s.inst e.1).state ∧ (s.inst e.1).state ≤ 3 ∧
      coefRefSrc (s.coef e.1) = 0))) ∧
    (∃ s : State, ∃ q : Nat, ∃ tag : Nat, ∃ c : InFlight, (Starts 0x0506 q tag s c) ∧ (1 ≤ c.desc.u 34 2) ∧ (c.desc.u 34 2 ≤ 2048) ∧ (32 * c.desc.u 34 2 ≤ c.desc.dataLen) ∧ (c.desc.u 32 2 + c.desc.u 34 2 ≤ 2048)) ∧
    (∃ s : State, ∃ q : Nat, ∃ tag : Nat, ∃ c : InFlight, ∃ i, (Starts 0x0507 q tag s c) ∧ (c.desc.object ≤ 255) ∧ (c.desc.u 32 1 = 0) ∧ (s.repUser c.desc.object = some i) ∧ ((∀ e ∈ s.bas.coeffs, coefRep e.2 = c.desc.object → (s.inst e.1).owner = 0))) :=
  ⟨⟨waits {} (desc 0x0500 2047 [] (recOf 64 [(3, 1, 1), (28, 2, 0xFFFF)])), 0, 1, cmd (desc 0x0500 2047 [] (recOf 64 [(3, 1, 1), (28, 2, 0xFFFF)])), recOf 64 [(3, 1, 1), (28, 2, 0xFFFF)], by decide⟩,
   ⟨waits {} (desc 0x0500 2047 [] (recOf 64 [])), 0, 1, cmd (desc 0x0500 2047 [] (recOf 64 [])), recOf 64 [], by decide⟩,
   ⟨waits { bas := { coeffs := [(0, recOf 64 [(3, 1, 1), (28, 2, 0xFFFF)])], insts := [(0, { state := 1 }), (5, { state := 2, k := 1000, phase := 3 }), (6, { state := 2, k := 1000, phase := 3 })] } } (desc 0x0501 0 [] []), 0, 1, cmd (desc 0x0501 0 [] []), 1000, 3, false, by decide⟩,
   ⟨waits { bas := { insts := [(2047, { state := 4 })] } } (desc 0x0501 2047 [(32, 1, 2)] []), 0, 1, cmd (desc 0x0501 2047 [(32, 1, 2)] []), ST_FENCED, by decide⟩,
   ⟨waits { bas := { insts := [(2047, { state := 2 })] } } (desc 0x0502 2047 [] []), 0, 1, cmd (desc 0x0502 2047 [] []), by decide⟩,
   ⟨waits { bas := { insts := [(2047, { state := 3 })] } } (desc 0x0502 2047 [(32, 1, 1)] []), 0, 1, cmd (desc 0x0502 2047 [(32, 1, 1)] []), by decide⟩,
   ⟨waits { bas := { insts := [(2047, { state := 4 })] } } (desc 0x0502 2047 [(32, 1, 1)] []), 0, 1, cmd (desc 0x0502 2047 [(32, 1, 1)] []), by decide⟩,
   ⟨waits { bas := { insts := [(2047, { state := 3 })] } } (desc 0x0503 2047 [] []), 0, 1, cmd (desc 0x0503 2047 [] []), by decide⟩,
   ⟨waits { bas := { insts := [(2047, { state := 1 })] } } (desc 0x0503 2047 [] []), 0, 1, cmd (desc 0x0503 2047 [] []), by decide⟩,
   ⟨waits { bas := { insts := [(2047, { state := 4 })] } } (desc 0x0503 2047 [] []), 0, 1, cmd (desc 0x0503 2047 [] []), by decide⟩,
   ⟨waits { bas := { coeffs := [(0, recOf 64 [(3, 1, 1), (28, 2, 0xFFFF)])], insts := [(0, { state := 1 }), (5, { state := 2, k := 1000, phase := 3 }), (6, { state := 2, k := 1000, phase := 3 })] } } (desc 0x0505 0 [(32, 2, 5)] []), 0, 1, cmd (desc 0x0505 0 [(32, 2, 5)] []), ((waits { bas := { coeffs := [(0, recOf 64 [(3, 1, 1), (28, 2, 0xFFFF)])], insts := [(0, { state := 1 }), (5, { state := 2, k := 1000, phase := 3 }), (6, { state := 2, k := 1000, phase := 3 })] } } (desc 0x0505 0 [(32, 2, 5)] [])).start 7).acceptStart 0 1000 3 false (.take 5 (some 7)), by decide, by decide, by decide, rfl⟩,
   ⟨waits { bas := { insts := [(0, { state := 2, owner := 1 })] } } (desc 0x0501 0 [] []), 0, 1, cmd (desc 0x0501 0 [] []), by decide⟩,
   ⟨waits { bas := { insts := [(0, { state := 2, owner := 1 })] } } (desc 0x0503 0 [] []), 0, 1, cmd (desc 0x0503 0 [] []), by decide⟩,
   ⟨waits { bas := { insts := [(2047, { state := 1 })] } } (desc 0x0504 0 [(32, 2, 1)] (pack [(2, 2047), (2, 5)])), 0, 1, cmd (desc 0x0504 0 [(32, 2, 1)] (pack [(2, 2047), (2, 5)])), by decide⟩,
   ⟨waits {} (desc 0x0506 0 [(32, 2, 2047), (34, 2, 1), (12, 4, 32)] []), 0, 1, cmd (desc 0x0506 0 [(32, 2, 2047), (34, 2, 1), (12, 4, 32)] []), by decide⟩,
   ⟨waits { bas := { coeffs := [(3, recOf 64 [(28, 2, 255)])] } } (desc 0x0507 255 [] []), 0, 1, cmd (desc 0x0507 255 [] []), 3, by decide⟩⟩

/-- Operands and states that meet the hypotheses of LoopFrames. -/
theorem test_witness_LoopFrames :
    (∃ s : State, ∃ f : LoopFrame, (s.holds f.node = true) ∧ (s.nodeRing f.node ≠ 2) ∧ (f.crcOk = true) ∧ (f.up = true) ∧ (f.valid = true) ∧ (f.lapsed = false) ∧ (f.onTime = true) ∧ (f.epochLo = s.ring.epoch % 256) ∧ ((s.node f.node).lastWin ≠ s.frameWindow f + 1)) ∧
    (∃ s : State, ∃ f : LoopFrame, (s.holds f.node = true) ∧ (s.nodeRing f.node ≠ 2) ∧ (f.crcOk = true) ∧ (f.lapsed = true)) ∧
    (∃ s : State, ∃ f : LoopFrame, (f.win ≤ 255) ∧ (255 ≤ s.ring.window)) ∧
    (∃ s : State, ∃ f : LoopFrame, (s.holds f.node = true) ∧ (s.nodeRing f.node ≠ 2) ∧ (f.crcOk = false)) ∧
    (∃ s : State, ∃ f : LoopFrame, (s.holds f.node = false)) ∧
    (∃ s : State, ∃ n : Nat, ∃ w : Nat, ∃ i : Nat, (s.holds n = true) ∧ (s.nodeRing n ≠ 2) ∧ ((s.node n).lastWin ≠ w + 1) ∧ (i ∈ s.dueOf n w) ∧ (drives (s.inst i) = true)) ∧
    (∃ s : State, ∃ i : Nat, ∃ u : Nat, ∃ a : Nat, ((s.inst i).wait = [(a, .arm 2 (some u) 0)])) ∧
    (∃ s : State, (s.ring.winLeft = 0)) ∧
    (∃ s : State, (s.ring.winLeft ≠ 0)) ∧
    (∃ s : State, ∃ i : Nat, ((s.inst i).state = 1) ∧ (coefNode (s.coef i) ≠ 0) ∧ (s.nodeArmable (coefNode (s.coef i)) = 0) ∧ (s.startBarred i = false)) :=
  ⟨⟨{ ring := { epoch := 9, window := 300, plans := planned.ring.plans, nodes := [(7, { state := 2, leased := true })] } }, { bytes := loopFrameBytes 7 9 12 3 [1, 2, 3, 4], onTime := true }, by decide⟩,
   ⟨{ ring := { epoch := 9, window := 300, plans := planned.ring.plans, nodes := [(7, { state := 2, leased := true })] } }, { bytes := loopFrameBytes 7 9 12 9 [1, 2, 3, 4], onTime := true }, by decide⟩,
   ⟨{ ring := { epoch := 9, window := 300, plans := planned.ring.plans, nodes := [(7, { state := 2, leased := true })] } }, { bytes := loopFrameBytes 7 9 12 3 [1, 2, 3, 4], onTime := true }, by decide⟩,
   ⟨{ ring := { epoch := 9, window := 300, plans := planned.ring.plans, nodes := [(7, { state := 2, leased := true })] } }, { bytes := loopFrameBytes 7 9 12 3 [1, 2, 3, 4] ++ [0], onTime := true }, by decide⟩,
   ⟨{}, { bytes := loopFrameBytes 7 9 12 3 [1, 2, 3, 4], onTime := true }, by decide⟩,
   ⟨{ ring := { plans := planned.ring.plans, nodes := [(7, { leased := true })] }, bas := { coeffs := [(4, recOf 64 [(0, 2, 7), (2, 1, 31)])], insts := [(4, { state := 2, k := 4 })] } }, 7, 12, 4, by decide⟩,
   ⟨{ bas := { insts := [(4, { wait := [(2, .arm 2 (some 7) 0)] })] } }, 4, 7, 2, by decide⟩,
   ⟨{}, by decide⟩,
   ⟨{ ring := { winLeft := 1 } }, by decide⟩,
   ⟨{ ring := { plans := planned.ring.plans, nodes := [(7, { state := 2, leased := true })] }, bas := { coeffs := [(4, recOf 64 [(0, 2, 7), (2, 1, 31)])], insts := [(4, { state := 1, k := 1000 })] } }, 4, by decide⟩⟩

/-- Operands and states that meet the hypotheses of TuneRows. -/
theorem test_witness_TuneRows :
    (∃ s : State, ∃ q : Nat, ∃ tag : Nat, ∃ c : InFlight, ∃ r, (Starts 0x0600 q tag s c) ∧ (s.Paced) ∧ (c.record 48 = some r) ∧ (c.desc.object ≤ 31) ∧ ((s.trace c.desc.object).state = 0) ∧ (s.traceOk r = true)) ∧
    (∃ s : State, ∃ q : Nat, ∃ tag : Nat, ∃ c : InFlight, (Starts 0x0601 q tag s c) ∧ (s.Paced) ∧ (c.desc.object ≤ 31) ∧ ((s.trace c.desc.object).state = 2) ∧ ((s.trace c.desc.object).entry = c.entry)) ∧
    (∃ s : State, ∃ q : Nat, ∃ tag : Nat, ∃ c : InFlight, (Starts 0x0601 q tag s c) ∧ (s.Paced) ∧ (c.desc.object ≤ 31) ∧ ((s.trace c.desc.object).state = 1)) ∧
    (∃ s : State, ∃ q : Nat, ∃ tag : Nat, ∃ c : InFlight, (Starts 0x0602 q tag s c) ∧ (s.Paced) ∧ (c.desc.object ≤ 31) ∧ ((s.trace c.desc.object).entry = c.entry) ∧ ((s.trace c.desc.object).state = 0)) ∧
    (∃ s : State, ∃ q : Nat, ∃ tag : Nat, ∃ c : InFlight, (Starts 0x0602 q tag s c) ∧ (s.Paced) ∧ (c.desc.object ≤ 31) ∧ ((s.trace c.desc.object).entry = c.entry) ∧ (1 ≤ (s.trace c.desc.object).state) ∧ ((s.trace c.desc.object).state ≤ 3)) ∧
    (∃ s : State, ∃ q : Nat, ∃ tag : Nat, ∃ c : InFlight, (Starts 0x0602 q tag s c) ∧ (s.Paced) ∧ (c.desc.object ≤ 31) ∧ ((s.trace c.desc.object).entry = c.entry) ∧ ((s.trace c.desc.object).state = 4)) ∧
    (∃ s : State, ∃ q : Nat, ∃ tag : Nat, ∃ c : InFlight, (Starts 0x0602 q tag s c) ∧ (s.Paced) ∧ (c.desc.object ≤ 31) ∧ ((s.trace c.desc.object).state ≠ 0) ∧ ((s.trace c.desc.object).entry ≠ c.entry)) ∧
    (∃ s : State, ∃ b : Nat, ∃ t : Trace, (s.tune.traces.get? b = some t) ∧ (t.due = true) ∧ (t.state = 1 ∨ t.state = 2) ∧ (s.Paced) ∧ (t.fires (s.traceValues t.cfg) = false)) ∧
    (∃ s : State, ∃ b : Nat, ∃ t : Trace, (s.tune.traces = [(b, t)]) ∧ (1 ≤ t.state) ∧ (t.state ≤ 3) ∧ (drives (s.inst (tracePace t.cfg)) = false)) ∧
    (∃ s : State, (s.Paced)) ∧
    (∃ s : State, ∃ b : Nat, ∃ t : Trace, (s.tune.traces.get? b = some t) ∧ (t.due = true) ∧ (t.state = 3) ∧ (s.Paced) ∧ (TRACE_LEN - tracePre t.cfg ≤ t.post + 1)) ∧
    (∃ s : State, ∃ q : Nat, ∃ tag : Nat, ∃ c : InFlight, ∃ r, (Starts 0x0610 q tag s c) ∧ (c.record 32 = some r) ∧ (c.desc.object ≤ 15) ∧ (genOk r = true) ∧ ((s.inst (genInst r)).state = 2) ∧ (s.nodeKind (coefNode (s.coef (genInst r))) = 1) ∧ ((s.inst (genInst r)).owner = 0) ∧ ((s.tune.gens.getD c.desc.object {}).state ≠ 1) ∧ ((∀ e ∈ s.tune.gens, e.2.state = 1 → genInst e.2.cfg ≠ genInst r)) ∧ ((s.node (coefNode (s.coef (genInst r)))).state ≠ 3) ∧ (genAmp r ≤ s.pn PAR_TUNE_INJ_MAX) ∧ ((s.slotsOfNode (coefNode (s.coef (genInst r)))) ≠ []) ∧ ((∀ x ∈ s.slotsOfNode (coefNode (s.coef (genInst r))), x.state = 1))) ∧
    (∃ s : State, ∃ q : Nat, ∃ tag : Nat, ∃ c : InFlight, ∃ r, (Starts 0x0610 q tag s c) ∧ (c.record 32 = some r) ∧ (c.desc.object ≤ 15) ∧ (genOk r = true) ∧ ((s.inst (genInst r)).state = 2) ∧ (s.nodeKind (coefNode (s.coef (genInst r))) = 1) ∧ ((s.inst (genInst r)).owner = 0) ∧ ((s.tune.gens.getD c.desc.object {}).state ≠ 1) ∧ ((∀ e ∈ s.tune.gens, e.2.state = 1 → genInst e.2.cfg ≠ genInst r)) ∧ ((s.node (coefNode (s.coef (genInst r)))).state ≠ 3) ∧ (genAmp r ≤ s.pn PAR_TUNE_INJ_MAX) ∧ ((s.slotsOfNode (coefNode (s.coef (genInst r)))) = [])) ∧
    (∃ s : State, ∃ q : Nat, ∃ tag : Nat, ∃ c : InFlight, (Starts 0x0611 q tag s c) ∧ (c.desc.object ≤ 15) ∧ ((s.tune.gens.getD c.desc.object {}).state = 1)) ∧
    (∃ s : State, ∃ q : Nat, ∃ tag : Nat, ∃ c : InFlight, (Starts 0x0611 q tag s c) ∧ (c.desc.object ≤ 15) ∧ ((s.tune.gens.getD c.desc.object {}).state ≠ 1)) ∧
    (∃ s : State, ∃ q : Nat, ∃ tag : Nat, ∃ c : InFlight, (Starts 0x0603 q tag s c) ∧ (s.Paced) ∧ (c.desc.object ≤ 31) ∧ (c.desc.u 32 4 ≤ 64 + 16 * TRACE_LEN) ∧ ((s.trace c.desc.object).state = 4)) ∧
    (∃ s : State, ∃ q : Nat, ∃ tag : Nat, ∃ c : InFlight, (Starts 0x0603 q tag s c) ∧ (s.Paced) ∧ (c.desc.object ≤ 31) ∧ (c.desc.u 32 4 ≤ 64 + 16 * TRACE_LEN) ∧ ((s.trace c.desc.object).state ≠ 4)) ∧
    (∃ s : State, ∃ q : Nat, ∃ tag : Nat, ∃ c : InFlight, (Starts 0x0612 q tag s c) ∧ (c.desc.object ≤ 15) ∧ (c.desc.u 32 4 ≤ 64 + 4 * 65536) ∧ ((s.tune.gens.getD c.desc.object {}).state ≠ 1)) ∧
    (∃ s : State, ∃ q : Nat, ∃ tag : Nat, ∃ c : InFlight, (Starts 0x0604 q tag s c) ∧ (s.Paced)) ∧
    (∃ s : State, ∃ g : Nat, ∃ x : Gen, (s.tune.gens.get? g = some x) ∧ (x.state = 1) ∧ (genTotal x.cfg ≤ x.n)) ∧
    (∃ s : State, ∃ g : Nat, ∃ x : Gen, (s.tune.gens = [(g, x)])) ∧
    (∃ g : Gen, ∃ u : Nat, (g.uid = some u)) ∧
    (∃ v : Nat, (1 ≤ v) ∧ (v < 2 ^ 15)) ∧
    (∃ x : Gen, (genTotal x.cfg ≤ x.n)) ∧
    (∃ s : State, ∃ u : State, ∃ b : Nat, ∃ t : Trace, ∃ r : Trace, (s.traceGone.tune.traces.get? b = some t) ∧ (t.due = true) ∧ (1 ≤ t.state) ∧ (t.state ≤ 3) ∧ (r = s.traceGone.recordTrace t) ∧ (u = { s.traceGone with tune := { s.traceGone.tune with traces := s.traceGone.tune.traces.set b r } })) :=
  ⟨⟨waits { bas := { insts := [(4, { state := 2 })] } } (desc 0x0600 31 [] (recOf 48 [(0, 1, 255), (2, 2, 4), (4, 2, 8191), (16, 2, 4), (22, 1, 255), (26, 1, 255), (30, 1, 255), (34, 1, 255), (38, 1, 255), (42, 1, 255), (46, 1, 255)])), 0, 1, cmd (desc 0x0600 31 [] (recOf 48 [(0, 1, 255), (2, 2, 4), (4, 2, 8191), (16, 2, 4), (22, 1, 255), (26, 1, 255), (30, 1, 255), (34, 1, 255), (38, 1, 255), (42, 1, 255), (46, 1, 255)])), recOf 48 [(0, 1, 255), (2, 2, 4), (4, 2, 8191), (16, 2, 4), (22, 1, 255), (26, 1, 255), (30, 1, 255), (34, 1, 255), (38, 1, 255), (42, 1, 255), (46, 1, 255)], by decide⟩,
   ⟨waits { bas := { insts := [(0, { state := 2 })] }, tune := { traces := [(31, { state := 2 })] } } (desc 0x0601 31 [] []), 0, 1, cmd (desc 0x0601 31 [] []), by decide⟩,
   ⟨waits { bas := { insts := [(0, { state := 2 })] }, tune := { traces := [(31, { state := 1 })] } } (desc 0x0601 31 [] []), 0, 1, cmd (desc 0x0601 31 [] []), by decide⟩,
   ⟨waits {} (desc 0x0602 31 [] []), 0, 1, cmd (desc 0x0602 31 [] []), by decide⟩,
   ⟨waits { bas := { insts := [(0, { state := 2 })] }, tune := { traces := [(31, { state := 3 })] } } (desc 0x0602 31 [] []), 0, 1, cmd (desc 0x0602 31 [] []), by decide⟩,
   ⟨waits { tune := { traces := [(31, { state := 4 })] } } (desc 0x0602 31 [] []), 0, 1, cmd (desc 0x0602 31 [] []), by decide⟩,
   ⟨waits { bas := { insts := [(0, { state := 2 })] }, tune := { traces := [(31, { state := 2, entry := 1 })] } } (desc 0x0602 31 [] []), 0, 1, cmd (desc 0x0602 31 [] []), by decide⟩,
   ⟨{ bas := { insts := [(0, { state := 2 })] }, tune := { traces := [(31, { state := 1, due := true })] } }, 31, { state := 1, due := true }, by decide⟩,
   ⟨{ tune := { traces := [(31, { state := 1 })] } }, 31, { state := 1 }, by decide⟩,
   ⟨{ bas := { insts := [(0, { state := 2 })] }, tune := { traces := [(31, { state := 1 })] } }, by decide⟩,
   ⟨{ bas := { insts := [(0, { state := 2 })] }, tune := { traces := [(31, { state := 3, due := true, post := 8191 })] } }, 31, { state := 3, due := true, post := 8191 }, by decide⟩,
   ⟨waits { ring := { plans := planned.ring.plans, nodes := [(7, { state := 2 })] }, bas := { coeffs := [(4, recOf 64 [(0, 2, 7)])], insts := [(4, { state := 2 })] }, lv := { capmaps := [(300, mapRec)], slots := [(0, { consumer := 300, state := 1 })] } } (desc 0x0610 15 [] (recOf 32 [(0, 2, 4), (4, 2, 5), (7, 1, 16), (8, 4, 65536), (20, 2, 32767), (22, 2, 1024)])), 0, 1, cmd (desc 0x0610 15 [] (recOf 32 [(0, 2, 4), (4, 2, 5), (7, 1, 16), (8, 4, 65536), (20, 2, 32767), (22, 2, 1024)])), recOf 32 [(0, 2, 4), (4, 2, 5), (7, 1, 16), (8, 4, 65536), (20, 2, 32767), (22, 2, 1024)], by decide⟩,
   ⟨waits { ring := { plans := planned.ring.plans, nodes := [(7, { state := 2 })] }, bas := { coeffs := [(4, recOf 64 [(0, 2, 7)])], insts := [(4, { state := 2 })] }, lv := {  } } (desc 0x0610 15 [] (recOf 32 [(0, 2, 4), (4, 2, 5), (7, 1, 16), (8, 4, 65536), (20, 2, 32767), (22, 2, 1024)])), 0, 1, cmd (desc 0x0610 15 [] (recOf 32 [(0, 2, 4), (4, 2, 5), (7, 1, 16), (8, 4, 65536), (20, 2, 32767), (22, 2, 1024)])), recOf 32 [(0, 2, 4), (4, 2, 5), (7, 1, 16), (8, 4, 65536), (20, 2, 32767), (22, 2, 1024)], by decide⟩,
   ⟨waits { tune := { gens := [(15, { state := 1 })] } } (desc 0x0611 15 [] []), 0, 1, cmd (desc 0x0611 15 [] []), by decide⟩,
   ⟨waits {} (desc 0x0611 15 [] []), 0, 1, cmd (desc 0x0611 15 [] []), by decide⟩,
   ⟨waits { tune := { traces := [(31, { state := 4 })] } } (desc 0x0603 31 [(32, 4, 64)] []), 0, 1, cmd (desc 0x0603 31 [(32, 4, 64)] []), by decide⟩,
   ⟨waits {} (desc 0x0603 31 [(32, 4, 64)] []), 0, 1, cmd (desc 0x0603 31 [(32, 4, 64)] []), by decide⟩,
   ⟨waits {} (desc 0x0612 15 [(32, 4, 64)] []), 0, 1, cmd (desc 0x0612 15 [(32, 4, 64)] []), by decide⟩,
   ⟨waits {} (desc 0x0604 0 [] []), 0, 1, cmd (desc 0x0604 0 [] []), by decide⟩,
   ⟨{ tune := { gens := [(15, { state := 1 })] } }, 15, { state := 1 }, by decide⟩,
   ⟨{ tune := { gens := [(15, { state := 1 })] } }, 15, { state := 1 }, by decide⟩,
   ⟨{ uid := some 7 }, 7, by decide⟩,
   ⟨32767, by decide⟩,
   ⟨{}, by decide⟩,
   ⟨{ bas := { insts := [(0, { state := 2 })] }, tune := { traces := [(31, { state := 1, due := true })] } }, { ({ bas := { insts := [(0, { state := 2 })] }, tune := { traces := [(31, { state := 1, due := true })] } } : State).traceGone with tune := { ({ bas := { insts := [(0, { state := 2 })] }, tune := { traces := [(31, { state := 1, due := true })] } } : State).traceGone.tune with traces := ({ bas := { insts := [(0, { state := 2 })] }, tune := { traces := [(31, { state := 1, due := true })] } } : State).traceGone.tune.traces.set 31 (({ bas := { insts := [(0, { state := 2 })] }, tune := { traces := [(31, { state := 1, due := true })] } } : State).traceGone.recordTrace { state := 1, due := true }) } }, 31, { state := 1, due := true }, ({ bas := { insts := [(0, { state := 2 })] }, tune := { traces := [(31, { state := 1, due := true })] } } : State).traceGone.recordTrace { state := 1, due := true }, by decide, by decide, by decide, by decide, rfl, rfl⟩⟩

/-- Operands and states that meet the hypotheses of StageCommands. -/
theorem test_witness_StageCommands :
    (∃ s : State, ∃ q : Nat, ∃ tag : Nat, ∃ c : InFlight, ∃ r, (Starts 0x0700 q tag s c) ∧ (c.record 224 = some r) ∧ (s.nodeKind c.desc.object = 1) ∧ (allZero r = false) ∧ (cabRanges c.desc.object r = true) ∧ (s.cabRefs c.desc.object r = true) ∧ ((∀ e ∈ s.stg.stages, e.1 % 65536 = c.desc.object → (e.2.state = 0 ∨ e.2.state = 6) ∧ e.2.owner ≠ 1))) ∧
    (∃ s : State, ∃ q : Nat, ∃ tag : Nat, ∃ c : InFlight, (Starts 0x0701 q tag s c) ∧ (s.checkRefusal c.desc.object 0 = none)) ∧
    (∃ s : State, ∃ q : Nat, ∃ tag : Nat, ∃ c : InFlight, (Starts 0x0701 q tag s c) ∧ (s.stageExists c.desc.object = true) ∧ ((s.stage c.desc.object).state = 6)) ∧
    (∃ s : State, ∃ q : Nat, ∃ tag : Nat, ∃ c : InFlight, ∃ t, (Starts 0x0702 q tag s c) ∧ ((s.start c.uid).enableRefusal c.desc.object 0 (c.desc.u 32 2) (c.desc.u 34 2) (c.desc.u 36 2) = (none, t))) ∧
    (∃ s : State, ∃ q : Nat, ∃ tag : Nat, ∃ c : InFlight, ∃ st, ∃ t, (Starts 0x0702 q tag s c) ∧ ((s.start c.uid).enableRefusal c.desc.object 0 (c.desc.u 32 2) (c.desc.u 34 2) (c.desc.u 36 2) = (some st, t))) ∧
    (∃ s : State, ∃ q : Nat, ∃ tag : Nat, ∃ c : InFlight, (Starts 0x0703 q tag s c) ∧ (s.stageExists c.desc.object = true) ∧ ((s.stage c.desc.object).state ≠ 0) ∧ ((s.stage c.desc.object).state ≠ 6)) ∧
    (∃ s : State, ∃ q : Nat, ∃ tag : Nat, ∃ c : InFlight, (Starts 0x0703 q tag s c) ∧ (s.stageExists c.desc.object = true) ∧ ((s.stage c.desc.object).state = 0 ∨ (s.stage c.desc.object).state = 6)) ∧
    (∃ s : State, ∃ q : Nat, ∃ tag : Nat, ∃ c : InFlight, (Starts 0x0704 q tag s c) ∧ (1 ≤ c.desc.u 34 2) ∧ (c.desc.u 34 2 ≤ 256) ∧ (288 * c.desc.u 34 2 ≤ c.desc.dataLen) ∧ (c.desc.u 32 2 + c.desc.u 34 2 ≤ 0x1000)) :=
  ⟨⟨waits (staged 0 { state := 6 }) (desc 0x0700 7 [] cabRec), 0, 1, cmd (desc 0x0700 7 [] cabRec), cabRec, by decide⟩,
   ⟨waits (staged 0 {}) (desc 0x0701 7 [] []), 0, 1, cmd (desc 0x0701 7 [] []), by decide⟩,
   ⟨waits (staged 0 { state := 6 }) (desc 0x0701 7 [] []), 0, 1, cmd (desc 0x0701 7 [] []), by decide⟩,
   ⟨waits (staged 0 { state := 2, checkSeq := 3, token := some ⟨3, 0, 2000, 0⟩ }) (desc 0x0702 7 [] []), 0, 1, cmd (desc 0x0702 7 [] []), (waits (staged 0 { state := 2, checkSeq := 3, token := some ⟨3, 0, 2000, 0⟩ }) (desc 0x0702 7 [] [])).start 7, by decide, rfl⟩,
   ⟨waits (staged 0 {}) (desc 0x0702 7 [] []), 0, 1, cmd (desc 0x0702 7 [] []), ST_NO_TOKEN, (waits (staged 0 {}) (desc 0x0702 7 [] [])).start 7, by decide, rfl⟩,
   ⟨waits (staged 0 { state := 4 }) (desc 0x0703 7 [] []), 0, 1, cmd (desc 0x0703 7 [] []), by decide⟩,
   ⟨waits (staged 0 {}) (desc 0x0703 7 [] []), 0, 1, cmd (desc 0x0703 7 [] []), by decide⟩,
   ⟨waits {} (desc 0x0704 0 [(32, 2, 0x0FFF), (34, 2, 1), (12, 4, 288)] []), 0, 1, cmd (desc 0x0704 0 [(32, 2, 0x0FFF), (34, 2, 1), (12, 4, 288)] []), by decide⟩⟩

/-- Operands and states that meet the hypotheses of TokenAndCapability. -/
theorem test_witness_TokenAndCapability :
    (∃ s : State, ∃ t : State, ∃ obj : Nat, ∃ owner : Nat, ∃ v : Nat, ∃ d : Nat, ∃ l : Nat, (s.enableRefusal obj owner v d l = (none, t))) ∧
    (∃ s : State, ∃ obj : Nat, ∃ owner : Nat, ∃ v : Nat, ∃ d : Nat, ∃ l : Nat, (s.stageExists obj = true) ∧ (v ≤ 1500) ∧ (d ≤ 500) ∧ (l ≤ 10000) ∧ (((s.stage obj).owner = 1 → owner ≠ 0)) ∧ ((s.stage obj).state = 6)) ∧
    (∃ s : State, ∃ obj : Nat, ∃ owner : Nat, ∃ v : Nat, ∃ d : Nat, ∃ l : Nat, (s.stageExists obj = true) ∧ (v ≤ 1500) ∧ (d ≤ 500) ∧ (l ≤ 10000) ∧ (((s.stage obj).owner = 1 → owner ≠ 0)) ∧ ((s.stage obj).state < 2)) ∧
    (∃ s : State, ∃ obj : Nat, ∃ owner : Nat, ∃ v : Nat, ∃ d : Nat, ∃ l : Nat, (s.stageExists obj = true) ∧ (v ≤ 1500) ∧ (d ≤ 500) ∧ (l ≤ 10000) ∧ (((s.stage obj).owner = 1 → owner ≠ 0)) ∧ ((s.stage obj).state = 3 ∨ (s.stage obj).state = 4 ∨ (s.stage obj).state = 5)) ∧
    (∃ obj : Nat, ∃ o, (o ≠ obj)) ∧
    (∃ s : State, ∃ n : Nat, ((∀ c ∈ convs (s.stg.cabinets.getD n []), c.role ≠ 0 → 1 ≤ c.phases ∧ c.phases ≤ 6))) :=
  ⟨⟨staged 0 { state := 2, checkSeq := 3, token := some ⟨3, 0, 2000, 0⟩ }, staged 0 { state := 2, checkSeq := 3, token := some ⟨3, 0, 2000, 0⟩ }, 7, 0, 1500, 500, 10000, rfl⟩,
   ⟨staged 0 { state := 6 }, 7, 0, 1500, 500, 10000, by decide⟩,
   ⟨staged 0 { state := 1 }, 7, 0, 1500, 500, 10000, by decide⟩,
   ⟨staged 0 { state := 5 }, 7, 0, 1500, 500, 10000, by decide⟩,
   ⟨0, 1, by decide⟩,
   ⟨staged 0 {}, 7, by decide⟩⟩

/-- Operands and states that meet the hypotheses of StageEvents. -/
theorem test_witness_StageEvents :
    (∃ s : State, ∃ node : Nat, ∃ stage : Nat, ∃ failed : Nat, (s.grnHears node = true) ∧ (stage ≤ 8) ∧ (bit (failed % 32) 2 = false) ∧ (failed % 32 ≠ 0) ∧ ((s.stage (stageObj node stage)).state = 1)) ∧
    (∃ s : State, ∃ o : Nat, ((s.stage o).state = 1) ∧ ((s.stage o).since + 40 * ms ≤ s.now)) ∧
    (∃ s : State, ∃ o : Nat, ∃ k : Token, ((s.stage o).token = some k) ∧ ((s.stage o).state = 2) ∧ (k.rxAt + k.validMs * ms ≤ s.now)) ∧
    (∃ s : State, ∃ o : Nat, ∃ t : Nat, ((s.stage o).nearSince = some t) ∧ ((s.stage o).state = 3) ∧ (t + ms ≤ s.now)) ∧
    (∃ s : State, ∃ o : Nat, ((s.stage o).state = 3) ∧ ((s.stage o).since + s.pms PAR_STG_SS_TIMEOUT_MS ≤ s.now)) ∧
    (∃ s : State, ∃ t : State, ∃ o : Nat, ((s.stage o).state = 3) ∧ (t = s.stopStage o 6 2 ST_LOCKED_OUT)) ∧
    (∃ s : State, ∃ t : State, ∃ o : Nat, ((s.stage o).state = 6) ∧ ((s.stage o).cutShort = true) ∧ (t = s.updStage o (fun x => { x with stopCause := 2, cutShort := false }))) ∧
    (∃ x : Stage, (x.state = 1)) ∧
    (∃ x : Stage, (x.state ≠ 1)) ∧
    (∃ s : State, ∃ o : Nat, ∃ f : Nat, ((s.stage o).state = 1) ∧ (f ≠ 0)) ∧
    (∃ s : State, ∃ i : Nat, ((s.inst i).state = 1) ∧ (s.nodeArmable (coefNode (s.coef i)) = 0) ∧ (s.startBarred i = false) ∧ (s.stopped i = true)) ∧
    (∃ s : State, ∃ o : Nat, ((s.stage o).state = 5)) ∧
    (∃ s : State, ∃ n : NodeStatus, ((s.node n.node).state ≠ 0)) ∧
    (∃ s : State, ∃ o : Nat, ∃ seq : Nat, ((s.stage o).state ≠ 1) ∧ ((s.stage o).checkSeq = seq)) :=
  ⟨⟨staged 0 { state := 1 }, 7, 0, 1, by decide⟩,
   ⟨staged (40 * ms) { state := 1 }, 7, by decide⟩,
   ⟨staged (2000 * ms) { state := 2, checkSeq := 3, token := some ⟨3, 0, 2000, 0⟩ }, 7, ⟨3, 0, 2000, 0⟩, by decide⟩,
   ⟨staged ms { state := 3, nearSince := some 0 }, 7, 0, by decide⟩,
   ⟨staged hour { state := 3 }, 7, by decide⟩,
   ⟨staged 0 { state := 3 }, (staged 0 { state := 3 }).stopStage 7 6 2 ST_LOCKED_OUT, 7, by decide, rfl⟩,
   ⟨staged 0 { state := 6, cutShort := true }, (staged 0 { state := 6, cutShort := true }).updStage 7 (fun x => { x with stopCause := 2, cutShort := false }), 7, by decide, by decide, rfl⟩,
   ⟨{ state := 1 }, by decide⟩,
   ⟨{ state := 3 }, by decide⟩,
   ⟨staged 0 { state := 1 }, 7, 4, by decide⟩,
   ⟨{ (staged 0 {}) with bas := { coeffs := [(4, recOf 64 [])], insts := [(4, { state := 1 })] } }, 4, by decide⟩,
   ⟨staged 0 { state := 5 }, 7, by decide⟩,
   ⟨staged 0 {}, { node := 7, stages := [] }, by decide⟩,
   ⟨staged 0 { state := 2, checkSeq := 3 }, 7, 3, by decide⟩⟩

/-- Operands and states that meet the hypotheses of CoolingCommands. -/
theorem test_witness_CoolingCommands :
    (∃ s : State, ∃ q : Nat, ∃ tag : Nat, ∃ c : InFlight, ∃ r, (Starts 0x0800 q tag s c) ∧ (c.record 64 = some r) ∧ (c.desc.object ≤ 255) ∧ (allZero r = false) ∧ (s.circuitOk c.desc.object r = true) ∧ ((s.circuit c.desc.object).state = 0)) ∧
    (∃ s : State, ∃ q : Nat, ∃ tag : Nat, ∃ c : InFlight, ∃ r, (Starts 0x0800 q tag s c) ∧ (c.record 64 = some r) ∧ (c.desc.object ≤ 255) ∧ (allZero r = true) ∧ ((s.circuit c.desc.object).state = 0)) ∧
    (∃ s : State, ∃ q : Nat, ∃ tag : Nat, ∃ c : InFlight, (Starts 0x0801 q tag s c) ∧ ((s.cool.recs.get? c.desc.object).isSome = true) ∧ (s.ctxOf c.desc.object = none) ∧ ((s.circuit c.desc.object).state = 0)) ∧
    (∃ s : State, ∃ q : Nat, ∃ tag : Nat, ∃ c : InFlight, (Starts 0x0801 q tag s c) ∧ ((s.cool.recs.get? c.desc.object).isSome = true) ∧ (s.ctxOf c.desc.object = none) ∧ ((s.circuit c.desc.object).state ≠ 0)) ∧
    (∃ s : State, ∃ q : Nat, ∃ tag : Nat, ∃ c : InFlight, (Starts 0x0802 q tag s c) ∧ ((s.cool.recs.get? c.desc.object).isSome = true) ∧ (s.ctxOf c.desc.object = none) ∧ (1 ≤ (s.circuit c.desc.object).state) ∧ ((s.circuit c.desc.object).state ≤ 3)) ∧
    (∃ s : State, ∃ q : Nat, ∃ tag : Nat, ∃ c : InFlight, (Starts 0x0802 q tag s c) ∧ ((s.cool.recs.get? c.desc.object).isSome = true) ∧ (s.ctxOf c.desc.object = none) ∧ ((s.circuit c.desc.object).state = 0)) ∧
    (∃ s : State, ∃ q : Nat, ∃ tag : Nat, ∃ c : InFlight, (Starts 0x0803 q tag s c) ∧ ((s.cool.recs.get? c.desc.object).isSome = true) ∧ (s.ctxOf c.desc.object = none) ∧ ((s.circuit c.desc.object).state = 4) ∧ (s.held 5 c.desc.object 2 = false) ∧ ((sInt (coolTTrip (s.circuitRec c.desc.object))).le (s.circuit c.desc.object).tC = false) ∧ (s.pinOf c.desc.object = none)) ∧
    (∃ s : State, ∃ q : Nat, ∃ tag : Nat, ∃ c : InFlight, (Starts 0x0803 q tag s c) ∧ ((s.cool.recs.get? c.desc.object).isSome = true) ∧ (s.ctxOf c.desc.object = none) ∧ ((s.circuit c.desc.object).state ≠ 4)) ∧
    (∃ s : State, ∃ q : Nat, ∃ tag : Nat, ∃ c : InFlight, (Starts 0x0501 q tag s c) ∧ (s.coolOwns c.desc.object = true)) ∧
    (∃ s : State, ∃ q : Nat, ∃ tag : Nat, ∃ c : InFlight, (Starts 0x0503 q tag s c) ∧ (s.coolOwns c.desc.object = true)) ∧
    (∃ s : State, ∃ q : Nat, ∃ tag : Nat, ∃ c : InFlight, (Starts 0x0804 q tag s c) ∧ (1 ≤ c.desc.u 34 2) ∧ (c.desc.u 34 2 ≤ 256) ∧ (32 * c.desc.u 34 2 ≤ c.desc.dataLen) ∧ (c.desc.u 32 1 + c.desc.u 34 2 ≤ 256)) :=
  ⟨⟨waits { ring := { plans := [(7, recOf 32 [(16, 2, 7), (18, 1, 2)])] }, bas := { coeffs := [(4, recOf 64 [(0, 2, 7), (3, 1, 1)])] } } (desc 0x0800 255 [] (recOf 64 [(0, 2, 255), (2, 2, 7), (4, 2, 4), (6, 2, 4), (8, 2, 4), (10, 2, 4000), (12, 2, 4000), (14, 2, 10000), (16, 2, 1), (18, 2, 1), (20, 2, 10000), (22, 2, 60000), (24, 2, 1000), (26, 2, 1000), (30, 2, 1), (32, 2, 2), (34, 2, 2), (38, 1, 1), (39, 1, 2), (40, 1, 125), (42, 1, 3)])), 0, 1, cmd (desc 0x0800 255 [] (recOf 64 [(0, 2, 255), (2, 2, 7), (4, 2, 4), (6, 2, 4), (8, 2, 4), (10, 2, 4000), (12, 2, 4000), (14, 2, 10000), (16, 2, 1), (18, 2, 1), (20, 2, 10000), (22, 2, 60000), (24, 2, 1000), (26, 2, 1000), (30, 2, 1), (32, 2, 2), (34, 2, 2), (38, 1, 1), (39, 1, 2), (40, 1, 125), (42, 1, 3)])), recOf 64 [(0, 2, 255), (2, 2, 7), (4, 2, 4), (6, 2, 4), (8, 2, 4), (10, 2, 4000), (12, 2, 4000), (14, 2, 10000), (16, 2, 1), (18, 2, 1), (20, 2, 10000), (22, 2, 60000), (24, 2, 1000), (26, 2, 1000), (30, 2, 1), (32, 2, 2), (34, 2, 2), (38, 1, 1), (39, 1, 2), (40, 1, 125), (42, 1, 3)], by decide⟩,
   ⟨waits {} (desc 0x0800 255 [] (recOf 64 [])), 0, 1, cmd (desc 0x0800 255 [] (recOf 64 [])), recOf 64 [], by decide⟩,
   ⟨waits { cool := { recs := [(255, recOf 64 [(40, 1, 90)])], circuits := [(255, { state := 0 })] } } (desc 0x0801 255 [] []), 0, 1, cmd (desc 0x0801 255 [] []), by decide⟩,
   ⟨waits { cool := { recs := [(255, recOf 64 [(40, 1, 90)])], circuits := [(255, { state := 4 })] } } (desc 0x0801 255 [] []), 0, 1, cmd (desc 0x0801 255 [] []), by decide⟩,
   ⟨waits { cool := { recs := [(255, recOf 64 [(40, 1, 90)])], circuits := [(255, { state := 3 })] } } (desc 0x0802 255 [] []), 0, 1, cmd (desc 0x0802 255 [] []), by decide⟩,
   ⟨waits { cool := { recs := [(255, recOf 64 [(40, 1, 90)])], circuits := [(255, { state := 0 })] } } (desc 0x0802 255 [] []), 0, 1, cmd (desc 0x0802 255 [] []), by decide⟩,
   ⟨waits { cool := { recs := [(255, recOf 64 [(40, 1, 90)])], circuits := [(255, { state := 4 })] } } (desc 0x0803 255 [] []), 0, 1, cmd (desc 0x0803 255 [] []), by decide⟩,
   ⟨waits { cool := { recs := [(255, recOf 64 [(40, 1, 90)])], circuits := [(255, { state := 3 })] } } (desc 0x0803 255 [] []), 0, 1, cmd (desc 0x0803 255 [] []), by decide⟩,
   ⟨waits { cool := { recs := [(255, recOf 64 [(4, 2, 7)])], circuits := [(255, { state := 2 })] } } (desc 0x0501 7 [] []), 0, 1, cmd (desc 0x0501 7 [] []), by decide⟩,
   ⟨waits { cool := { recs := [(255, recOf 64 [(6, 2, 7)])], circuits := [(255, { state := 2 })] } } (desc 0x0503 7 [] []), 0, 1, cmd (desc 0x0503 7 [] []), by decide⟩,
   ⟨waits {} (desc 0x0804 0 [(32, 1, 255), (34, 2, 1), (12, 4, 32)] []), 0, 1, cmd (desc 0x0804 0 [(32, 1, 255), (34, 2, 1), (12, 4, 32)] []), by decide⟩⟩

/-- Operands and states that meet the hypotheses of CoolingEvents. -/
theorem test_witness_CoolingEvents :
    (∃ s : State, ∃ n : Nat, ∃ r : Rec, (s.cool.recs.get? n = some r)) ∧
    (∃ s : State, ∃ n : Nat, ∃ k : Nat, ((s.circuit n).state = 2 ∨ (s.circuit n).state = 3) ∧ (k < 3) ∧ ((s.circuit n).lost.getLsbD k = false) ∧ (s.coolLoss n k = true) ∧ (s.isActive = true)) ∧
    (∃ s : State, ∃ n : Nat, ∃ k : Nat, ((s.circuit n).state = 3) ∧ (k < 3) ∧ ((s.circuit n).lost.getLsbD k = true) ∧ (lasted ((s.circuit n).okSince.get? k) (10 * sec) s.now = true) ∧ (s.isActive = true)) ∧
    (∃ s : State, ∃ n : Nat, ((s.circuit n).state = 1) ∧ (s.coolLoss n 0 = false) ∧ (lasted (s.circuit n).primeSince (s.pms PAR_COOL_PRIME_MS) s.now = true)) ∧
    (∃ s : State, ∃ n : Nat, ((s.circuit n).state = 1) ∧ ((s.circuit n).enteredAt + s.pms PAR_COOL_PRIME_MAX_MS ≤ s.now)) ∧
    (∃ s : State, ∃ n : Nat, (s.mayOff n = true)) ∧
    (∃ s : State, (s.isActive = true)) ∧
    (∃ s : State, ∃ n : Nat, (s.cool.recs.get? n = none)) ∧
    (∃ s : State, ∃ n : Nat, ∃ r : Rec, (s.cool.recs.get? n = some r) ∧ ((s.circuit n).state ≠ 2) ∧ ((s.circuit n).state ≠ 3)) ∧
    (∃ s : State, ∃ r : LeaveReq, (s.slotOf r.consumer = none) ∧ (s.allFenced r.consumer = false) ∧ (s.lv.coolLimit.get? r.consumer = some 0)) ∧
    (∃ s : State, ∃ n : Nat, ∃ o : ObsOut, ∃ cap : Option Nat, (o.trip = 0) ∧ (cap ≠ some 0) ∧ (o.iLim.eq (sInt (coolIMax (s.circuitRec n))) = false) ∧ ((s.circuit n).derated = false)) ∧
    (∃ s : State, ∃ n : Nat, ∃ m : Nat, ∃ k : Nat, ((s.circuit n).capMa = some m) ∧ (s.capTarget n = some k)) ∧
    (∃ s : State, ∃ n : Nat, ∃ m : Nat, ((s.circuit n).capMa = some m) ∧ (s.capTarget n = none)) ∧
    (∃ s : State, ∃ n : Nat, (2 ≤ lostCount (s.circuit n)) ∧ (s.held 5 n 1 = false)) ∧
    (∃ s : State, ∃ n : Nat, ((s.circuit n).lost = 4) ∧ (s.held 5 n 1 = false)) :=
  ⟨⟨{ cool := { recs := [(255, recOf 64 [(40, 1, 90)])], circuits := [(255, { state := 0 })] } }, 255, recOf 64 [(40, 1, 90)], by decide⟩,
   ⟨{ pair := { role := ROLE_ACTIVE }, cool := { recs := [(255, recOf 64 [(40, 1, 90)])], circuits := [(255, { state := 2 })] } }, 255, 2, by decide⟩,
   ⟨{ now := 10 * sec, pair := { role := ROLE_ACTIVE }, cool := { recs := [(255, recOf 64 [(40, 1, 90)])], circuits := [(255, { state := 3, lost := 4, okSince := [(2, 0)] })] } }, 255, 2, by decide⟩,
   ⟨{ now := hour, cool := { recs := [(255, recOf 64 [(40, 1, 90)])], circuits := [(255, { state := 1, sample := some ⟨hour, 2000, 2500, 100, 0, 0, 0⟩, primeSince := some 0 })] } }, 255, by decide⟩,
   ⟨{ now := hour, cool := { recs := [(255, recOf 64 [(40, 1, 90)])], circuits := [(255, { state := 1 })] } }, 255, by decide⟩,
   ⟨{ now := hour, cool := { recs := [(255, recOf 64 [(40, 1, 90)])], circuits := [(255, { state := 2, endAt := some 0 })] } }, 255, by decide⟩,
   ⟨{ pair := { role := ROLE_ACTIVE } }, by decide⟩,
   ⟨{}, 0, by decide⟩,
   ⟨{ cool := { recs := [(255, recOf 64 [(40, 1, 90)])], circuits := [(255, { state := 4 })] } }, 255, recOf 64 [(40, 1, 90)], by decide⟩,
   ⟨{ lv := { coolLimit := [(255, 0)] } }, { kind := 0, consumer := 255 }, by decide⟩,
   ⟨{ cool := { recs := [(255, recOf 64 [(10, 2, 4000)])], circuits := [(255, { state := 2 })] } }, 255, ⟨{}, {}, {}, {}, 0⟩, none, by decide⟩,
   ⟨{ cool := { recs := [(255, recOf 64 [(40, 1, 90)])], circuits := [(255, { state := 2, lost := 3, capMa := some 1000 })] } }, 255, 1000, 0, by decide⟩,
   ⟨{ cool := { recs := [(255, recOf 64 [(40, 1, 90)])], circuits := [(255, { state := 2, capMa := some 1000 })] } }, 255, 1000, by decide⟩,
   ⟨{ cool := { recs := [(255, recOf 64 [(40, 1, 90)])], circuits := [(255, { state := 2, lost := 3 })] } }, 255, by decide⟩,
   ⟨{ cool := { recs := [(255, recOf 64 [(40, 1, 90)])], circuits := [(255, { state := 2, lost := 4 })] } }, 255, by decide⟩⟩

/-- Operands and states that meet the hypotheses of SessionCommands. -/
theorem test_witness_SessionCommands :
    (∃ s : State, ∃ q : Nat, ∃ tag : Nat, ∃ c : InFlight, ∃ r, (Starts 0x0900 q tag s c) ∧ (c.record 64 = some r) ∧ (c.desc.object ≤ 255) ∧ (allZero r = false) ∧ (s.outletOk c.desc.object r = true) ∧ (s.ctxOf c.desc.object = none)) ∧
    (∃ s : State, ∃ q : Nat, ∃ tag : Nat, ∃ c : InFlight, ∃ r, (Starts 0x0900 q tag s c) ∧ (c.record 64 = some r) ∧ (c.desc.object ≤ 255) ∧ (allZero r = true) ∧ (s.ctxOf c.desc.object = none)) ∧
    (∃ s : State, ∃ q : Nat, ∃ tag : Nat, ∃ c : InFlight, ∃ r, (Starts 0x0900 q tag s c) ∧ (c.record 64 = some r) ∧ (c.desc.object ≤ 255) ∧ (s.outletOk c.desc.object r = true) ∧ ((s.ctxOf c.desc.object).isSome = true)) ∧
    (∃ s : State, ∃ q : Nat, ∃ tag : Nat, ∃ c : InFlight, (Starts 0x0901 q tag s c) ∧ ((s.ses.recs.get? c.desc.object).isSome = true) ∧ (c.desc.u 32 1 ≤ 1)) ∧
    (∃ s : State, ∃ q : Nat, ∃ tag : Nat, ∃ c : InFlight, (Starts 0x0901 q tag s c) ∧ ((s.ses.recs.get? c.desc.object).isSome = true) ∧ (c.desc.u 32 1 = 2) ∧ (s.outDv c.desc.object < 600)) ∧
    (∃ s : State, ∃ q : Nat, ∃ tag : Nat, ∃ c : InFlight, (Starts 0x0901 q tag s c) ∧ ((s.ses.recs.get? c.desc.object).isSome = true) ∧ (c.desc.u 32 1 = 2) ∧ (600 ≤ s.outDv c.desc.object)) ∧
    (∃ s : State, ∃ q : Nat, ∃ tag : Nat, ∃ c : InFlight, ∃ x, (Starts 0x0902 q tag s c) ∧ (s.ses.ctxs.get? c.desc.object = some x) ∧ (x.state = 2) ∧ (x.auth = 1) ∧ (c.desc.u 32 1 = 1) ∧ (c.desc.u 34 2 ≤ 4095)) ∧
    (∃ s : State, ∃ q : Nat, ∃ tag : Nat, ∃ c : InFlight, ∃ x, (Starts 0x0902 q tag s c) ∧ (s.ses.ctxs.get? c.desc.object = some x) ∧ (x.state = 2) ∧ (x.auth = 1) ∧ (c.desc.u 32 1 = 0) ∧ (c.desc.u 34 2 ≤ 4095)) ∧
    (∃ s : State, ∃ q : Nat, ∃ tag : Nat, ∃ c : InFlight, ∃ x, (Starts 0x0902 q tag s c) ∧ (s.ses.ctxs.get? c.desc.object = some x) ∧ (x.state ≠ 2 ∨ x.auth ≠ 1)) ∧
    (∃ s : State, ∃ q : Nat, ∃ tag : Nat, ∃ c : InFlight, ∃ x, (Starts 0x0903 q tag s c) ∧ (s.ses.ctxs.get? c.desc.object = some x) ∧ (x.state < 8) ∧ (c.desc.u 32 1 ≤ 1)) ∧
    (∃ s : State, ∃ q : Nat, ∃ tag : Nat, ∃ c : InFlight, ∃ x, (Starts 0x0903 q tag s c) ∧ (s.ses.ctxs.get? c.desc.object = some x) ∧ (x.state = 9) ∧ (c.desc.u 32 1 ≤ 1)) ∧
    (∃ s : State, ∃ q : Nat, ∃ tag : Nat, ∃ c : InFlight, (Starts 0x0904 q tag s c) ∧ (1 ≤ c.desc.u 34 2) ∧ (c.desc.u 34 2 ≤ 256) ∧ (64 * c.desc.u 34 2 ≤ c.desc.dataLen) ∧ (c.desc.u 32 1 + c.desc.u 34 2 ≤ 256)) :=
  ⟨⟨waits { ring := { plans := [(7, recOf 32 [(16, 2, 7), (18, 1, 1)]), (8, recOf 32 [(16, 2, 8), (18, 1, 2)]), (9, recOf 32 [(16, 2, 9), (18, 1, 3)])] }, bas := { coeffs := [(4, recOf 64 [(0, 2, 7)]), (5, recOf 64 [(0, 2, 7)])] }, lv := { capmaps := [(255, recOf 72 [(0, 1, 1), (4, 4, 500), (8, 2, 7)])] } } (desc 0x0900 255 [] (recOf 64 [(0, 2, 255), (2, 2, 8), (8, 2, 4), (10, 2, 5), (12, 2, 9), (16, 2, 50), (18, 2, 1000), (20, 2, 500), (24, 4, 500)])), 0, 1, cmd (desc 0x0900 255 [] (recOf 64 [(0, 2, 255), (2, 2, 8), (8, 2, 4), (10, 2, 5), (12, 2, 9), (16, 2, 50), (18, 2, 1000), (20, 2, 500), (24, 4, 500)])), recOf 64 [(0, 2, 255), (2, 2, 8), (8, 2, 4), (10, 2, 5), (12, 2, 9), (16, 2, 50), (18, 2, 1000), (20, 2, 500), (24, 4, 500)], by decide⟩,
   ⟨waits {} (desc 0x0900 255 [] (recOf 64 [])), 0, 1, cmd (desc 0x0900 255 [] (recOf 64 [])), recOf 64 [], by decide⟩,
   ⟨waits { ring := { plans := [(7, recOf 32 [(16, 2, 7), (18, 1, 1)]), (8, recOf 32 [(16, 2, 8), (18, 1, 2)]), (9, recOf 32 [(16, 2, 9), (18, 1, 3)])] }, bas := { coeffs := [(4, recOf 64 [(0, 2, 7)]), (5, recOf 64 [(0, 2, 7)])] }, lv := { capmaps := [(255, recOf 72 [(0, 1, 1), (4, 4, 500), (8, 2, 7)])] }, ses := { ctxs := [(0, { outlet := 255 })] } } (desc 0x0900 255 [] (recOf 64 [(0, 2, 255), (2, 2, 8), (8, 2, 4), (10, 2, 5), (12, 2, 9), (16, 2, 50), (18, 2, 1000), (20, 2, 500), (24, 4, 500)])), 0, 1, cmd (desc 0x0900 255 [] (recOf 64 [(0, 2, 255), (2, 2, 8), (8, 2, 4), (10, 2, 5), (12, 2, 9), (16, 2, 50), (18, 2, 1000), (20, 2, 500), (24, 4, 500)])), recOf 64 [(0, 2, 255), (2, 2, 8), (8, 2, 4), (10, 2, 5), (12, 2, 9), (16, 2, 50), (18, 2, 1000), (20, 2, 500), (24, 4, 500)], by decide⟩,
   ⟨waits { ses := { recs := [(255, recOf 64 [])] } } (desc 0x0901 255 [(32, 1, 1)] []), 0, 1, cmd (desc 0x0901 255 [(32, 1, 1)] []), by decide⟩,
   ⟨waits { ses := { recs := [(255, recOf 64 [])] } } (desc 0x0901 255 [(32, 1, 2)] []), 0, 1, cmd (desc 0x0901 255 [(32, 1, 2)] []), by decide⟩,
   ⟨waits { ses := { recs := [(255, recOf 64 [(10, 2, 5), (38, 2, 120)])] }, bas := { insts := [(5, { state := 2, meas := 16384 })] } } (desc 0x0901 255 [(32, 1, 2)] []), 0, 1, cmd (desc 0x0901 255 [(32, 1, 2)] []), by decide⟩,
   ⟨waits { ses := { ctxs := [(255, { state := 2, outlet := 3, auth := 1 })] } } (desc 0x0902 255 [(32, 1, 1), (34, 2, 4095)] []), 0, 1, cmd (desc 0x0902 255 [(32, 1, 1), (34, 2, 4095)] []), { state := 2, outlet := 3, auth := 1 }, by decide⟩,
   ⟨waits { ses := { ctxs := [(255, { state := 2, outlet := 3, auth := 1 })] } } (desc 0x0902 255 [(34, 2, 4095)] []), 0, 1, cmd (desc 0x0902 255 [(34, 2, 4095)] []), { state := 2, outlet := 3, auth := 1 }, by decide⟩,
   ⟨waits { ses := { ctxs := [(255, { state := 3, outlet := 3 })] } } (desc 0x0902 255 [] []), 0, 1, cmd (desc 0x0902 255 [] []), { state := 3, outlet := 3 }, by decide⟩,
   ⟨waits { ses := { ctxs := [(255, { state := 7, outlet := 3 })] } } (desc 0x0903 255 [(32, 1, 1)] []), 0, 1, cmd (desc 0x0903 255 [(32, 1, 1)] []), { state := 7, outlet := 3 }, by decide⟩,
   ⟨waits { ses := { ctxs := [(255, { state := 9, outlet := 3 })] } } (desc 0x0903 255 [(32, 1, 1)] []), 0, 1, cmd (desc 0x0903 255 [(32, 1, 1)] []), { state := 9, outlet := 3 }, by decide⟩,
   ⟨waits {} (desc 0x0904 0 [(32, 1, 255), (34, 2, 1), (12, 4, 64)] []), 0, 1, cmd (desc 0x0904 0 [(32, 1, 255), (34, 2, 1), (12, 4, 64)] []), by decide⟩⟩

/-- Operands and states that meet the hypotheses of SessionEvents. -/
theorem test_witness_SessionEvents :
    (∃ s : State, ∃ node : Nat, ∃ con : Nat, ∃ o : Nat, ∃ n : Nat, (s.outletAt node con = some o) ∧ (s.ctxOf o = none) ∧ (s.outletFree o = true) ∧ (s.ses.ctxs.freeFrom 0 256 = some n)) ∧
    (∃ s : State, ∃ node : Nat, ∃ con : Nat, ∃ o : Nat, (s.outletAt node con = some o) ∧ (s.ctxOf o = none)) ∧
    (∃ s : State, ∃ node : Nat, ∃ con : Nat, ∃ seq : Nat, ∃ o : Nat, ∃ n : Nat, ∃ c : Ctx, (s.outletAt node con = some o) ∧ ((s.tunnelSeq o seq).ctxOf o = some (n, c)) ∧ ((s.tunnelSeq o seq).isActive = true) ∧ (c.state = 4)) ∧
    (∃ s : State, ∃ node : Nat, ∃ con : Nat, ∃ seq : Nat, ∃ mac : Nat, ∃ o : Nat, ∃ n : Nat, ∃ c : Ctx, ∃ d : Ctx, (s.outletAt node con = some o) ∧ ((s.tunnelSeq o seq).ctxOf o = some (n, c)) ∧ ((s.tunnelSeq o seq).isActive = true) ∧ (c.link = true) ∧ (c.state ≠ 9) ∧ (s.now < c.rxStart + sec) ∧ (1 ≤ c.rxCount) ∧ (c.rxCount + 1 ≤ c.par PAR_SES_RX_LIMIT_FPS) ∧ ((∀ m, c.mac = some m → m = mac)) ∧ (d = { c with rxCount := c.rxCount + 1, mac := some mac })) ∧
    (∃ port : Nat, ∃ q : Nat, ∃ len : Nat, ∃ ip : Nat, ∃ c : Ctx, ∃ d : Ctx, ∃ k : TcpConn, (c.tcp = some k) ∧ (k.port = port) ∧ (k.rcvNxt = q) ∧ (c.ip = some ip) ∧ (d = { c with tcp := some { k with rcvNxt := (q + len) % 2 ^ 32 }, rxRecord := if c.tls then c.rxRecord + 1 else c.rxRecord })) ∧
    (∃ s : State, ∃ c : Ctx, ∃ p : ChargeParams, (2 ≤ c.state) ∧ (c.state ≤ 5) ∧ (c.auth = 2) ∧ (paramsFit (s.outletRec c.outlet) p = false)) ∧
    (∃ s : State, ∃ tv : Nat, ∃ c : Ctx, (c.evTargetV = some tv) ∧ (c.step ≠ 3) ∧ (tv + 10 * c.par PAR_SES_PRE_TOL_V < s.outDv c.outlet)) ∧
    (∃ s : State, ∃ node : Nat, ∃ con : Nat, ∃ o : Nat, (s.outletAt node con = some o) ∧ (s.ctxOf o = none)) ∧
    (∃ s : State, ∃ node : Nat, ∃ con : Nat, (s.outletAt node con = none)) ∧
    (∃ s : State, ∃ o : Nat, ∃ t : Nat, ((s.outletLive o).retryAt = some t) ∧ (t ≤ s.now) ∧ ((s.outletLive o).plugged = true)) ∧
    (∃ s : State, ∃ n : Nat, ∃ c : Ctx, (s.ses.ctxs.get? n = some c) ∧ (s.isActive = true) ∧ (c.state = 1) ∧ (c.pluggedAt + c.par PAR_SES_LINK_S * sec ≤ s.now)) ∧
    (∃ s : State, ∃ n : Nat, ∃ c : Ctx, (s.ses.ctxs.get? n = some c) ∧ (s.isActive = true) ∧ (c.state = 2) ∧ (c.auth = 1) ∧ (c.authAt + c.par PAR_SES_AUTH_TIMEOUT_MS * ms ≤ s.now)) ∧
    (∃ s : State, ∃ n : Nat, ∃ c : Ctx, (s.ses.ctxs.get? n = some c) ∧ (s.isActive = true) ∧ (c.state = 4) ∧ (c.insOk = false ∨ 600 ≤ s.outDv c.outlet) ∧ (c.cableAt + c.par PAR_SES_CABLE_MAX_S * sec ≤ s.now)) ∧
    (∃ s : State, ∃ n : Nat, ∃ c : Ctx, (s.ses.ctxs.get? n = some c) ∧ (s.isActive = true) ∧ (c.state = 7) ∧ (c.demandAt + c.par PAR_SES_DEMAND_TIMEOUT_MS * ms ≤ s.now)) ∧
    (∃ s : State, ∃ n : Nat, ∃ c : Ctx, (s.ses.ctxs.get? n = some c) ∧ (s.isActive = true) ∧ (2 ≤ c.state) ∧ (c.state ≤ 7)) ∧
    (∃ s : State, ∃ n : Nat, ∃ c : Ctx, ∃ t, (s.ses.ctxs.get? n = some c) ∧ (s.isActive = true) ∧ (4 ≤ c.state) ∧ (c.state ≤ 8) ∧ (c.overSince = some t) ∧ (t + ms ≤ s.now)) ∧
    (∃ s : State, ∃ n : Nat, ∃ c : Ctx, ∃ t, (s.ses.ctxs.get? n = some c) ∧ (s.isActive = true) ∧ (4 ≤ c.state) ∧ (c.state ≤ 8) ∧ (c.reverseSince = some t) ∧ (t + 10 * ms ≤ s.now)) ∧
    (∃ s : State, ∃ n : Nat, ∃ c : Ctx, (s.ses.ctxs.get? n = some c) ∧ (s.isActive = true) ∧ (c.state = 8) ∧ (ampsBelow (s.outAmps c.outlet) 5 = true) ∧ (c.emergency = true ∨ lasted c.smallSince (10 * ms) s.now = true)) ∧
    (∃ s : State, ∃ n : Nat, ∃ c : Ctx, (s.ses.ctxs.get? n = some c) ∧ (s.isActive = true) ∧ (c.state = 8) ∧ (c.emergency = true) ∧ (c.stopAt + c.par PAR_SES_ESTOP_MS * ms ≤ s.now)) ∧
    (∃ s : State, ∃ n : Nat, ∃ c : Ctx, ∃ t, (s.ses.ctxs.get? n = some c) ∧ (s.isActive = true) ∧ (c.state = 7) ∧ (c.asking = false) ∧ (c.lowSince = some t) ∧ (t + c.par PAR_SES_SHRINK_S * sec ≤ s.now) ∧ (s.mayAsk c = true) ∧ (max (outMinKw (s.outletRec c.outlet)) (ceilDiv ((100 + c.par PAR_SES_SHRINK_PCT) * c.targetP) 10000000) < s.grantKw c.outlet)) ∧
    (∃ s : State, ∃ n : Nat, ∃ c : Ctx, ∃ t, (s.ses.ctxs.get? n = some c) ∧ (s.isActive = true) ∧ (c.state = 7) ∧ (c.asking = false) ∧ (c.highSince = some t) ∧ (t + c.par PAR_SES_REGRANT_S * sec ≤ s.now) ∧ (s.mayAsk c = true) ∧ (s.grantKw c.outlet < s.sesKw c)) ∧
    (∃ s : State, ∃ n : Nat, ∃ c : Ctx, (s.ses.ctxs.get? n = some c) ∧ (9 ≤ c.state ∨ (c.state = 8 ∧ c.emergency = true))) ∧
    (∃ s : State, ∃ n : Nat, ∃ c : Ctx, (s.ses.ctxs.get? n = some c) ∧ (c.state = 8) ∧ (c.emergency = false)) ∧
    (∃ s : State, ∃ t : State, (s.isActive = true) ∧ (t = s.ses.ctxs.keys.foldl State.sesCycle s)) ∧
    (∃ s : State, ∃ o : Nat, ∃ t : Nat, ((s.outletLive o).contactorsAt = some t) ∧ (t + 2 * sec ≤ s.now) ∧ (600 ≤ s.outDv o)) ∧
    (∃ s : State, ∃ n : Nat, ∃ c : Ctx, (s.ses.ctxs.get? n = some c) ∧ (c.state < 6)) ∧
    (∃ s : State, ∃ n : Nat, ∃ c : Ctx, (s.ses.ctxs.get? n = some c) ∧ (6 ≤ c.state) ∧ (c.state < 8)) ∧
    (∃ n : Nat, ∃ m : Nat, (m ≠ n)) ∧
    (∃ s : State, ∃ n : Nat, ∃ c : Ctx, ∃ k : TcpConn, (s.ses.ctxs.get? n = some c) ∧ (c.tcp = some k) ∧ (s.isPaired = true)) :=
  ⟨⟨{ ring := { nodes := [(8, { state := 2, leased := true })] }, ses := { recs := [(255, recOf 64 [(0, 2, 255), (2, 2, 8), (4, 1, 1)])] }, pair := { role := ROLE_ACTIVE }, sys := { ready := true } }, 8, 1, 255, 0, by decide⟩,
   ⟨{ ses := { recs := [(255, recOf 64 [(0, 2, 255), (2, 2, 8), (4, 1, 1)])] } }, 8, 1, 255, by decide⟩,
   ⟨{ now := 5, pair := { role := ROLE_ACTIVE }, ses := { recs := [(255, recOf 64 [(0, 2, 255), (2, 2, 8), (4, 1, 1)])], ctxs := [(255, { outlet := 255, state := 4, link := true, rxCount := 1, pars := [(PAR_SES_RX_LIMIT_FPS, 100)] })] } }, 8, 1, 0, 255, 255, { outlet := 255, state := 4, link := true, rxCount := 1, pars := [(PAR_SES_RX_LIMIT_FPS, 100)] }, by decide⟩,
   ⟨{ now := 5, pair := { role := ROLE_ACTIVE }, ses := { recs := [(255, recOf 64 [(0, 2, 255), (2, 2, 8), (4, 1, 1)])], ctxs := [(255, { outlet := 255, state := 4, link := true, rxCount := 1, pars := [(PAR_SES_RX_LIMIT_FPS, 100)] })] } }, 8, 1, 0, 0, 255, 255, { outlet := 255, state := 4, link := true, rxCount := 1, pars := [(PAR_SES_RX_LIMIT_FPS, 100)] }, { outlet := 255, state := 4, link := true, rxCount := 2, pars := [(PAR_SES_RX_LIMIT_FPS, 100)], mac := some 0 }, by decide, by decide, by decide, by decide, by decide, by decide, by decide, by decide, by simp, rfl⟩,
   ⟨1, 2, 0, 9, { outlet := 255, state := 2, tcp := some ⟨1, 2, 3⟩, ip := some 9 }, { outlet := 255, state := 2, tcp := some ⟨1, 2, 3⟩, ip := some 9 }, ⟨1, 2, 3⟩, by decide, by decide, by decide, by decide, by decide⟩,
   ⟨{ ses := { recs := [(255, recOf 64 [(16, 2, 50)])] } }, { outlet := 255, state := 2, auth := 2 }, ⟨0, 0, 0, none⟩, by decide⟩,
   ⟨{ ses := { recs := [(255, recOf 64 [(10, 2, 5), (38, 2, 120)])] }, bas := { insts := [(5, { state := 2, meas := 16384 })] } }, 0, { outlet := 255, state := 6, evTargetV := some 0, pars := [] }, by decide⟩,
   ⟨{ ses := { recs := [(255, recOf 64 [(0, 2, 255), (2, 2, 8), (4, 1, 1)])] } }, 8, 1, 255, by decide⟩,
   ⟨{}, 0, 0, by decide⟩,
   ⟨{ now := 5, ses := { outlets := [(255, { plugged := true, retryAt := some 5 })] } }, 255, 5, by decide⟩,
   ⟨{ now := hour, pair := { role := ROLE_ACTIVE }, ses := { ctxs := [(255, { state := 1, outlet := 3 })] } }, 255, { state := 1, outlet := 3 }, by decide⟩,
   ⟨{ now := hour, pair := { role := ROLE_ACTIVE }, ses := { ctxs := [(255, { state := 2, outlet := 3, auth := 1 })] } }, 255, { state := 2, outlet := 3, auth := 1 }, by decide⟩,
   ⟨{ now := hour, pair := { role := ROLE_ACTIVE }, ses := { ctxs := [(255, { state := 4, outlet := 3 })] } }, 255, { state := 4, outlet := 3 }, by decide⟩,
   ⟨{ now := hour, pair := { role := ROLE_ACTIVE }, ses := { ctxs := [(255, { state := 7, outlet := 3 })] } }, 255, { state := 7, outlet := 3 }, by decide⟩,
   ⟨{ now := hour, pair := { role := ROLE_ACTIVE }, ses := { ctxs := [(255, { state := 7, outlet := 3 })] } }, 255, { state := 7, outlet := 3 }, by decide⟩,
   ⟨{ now := hour, pair := { role := ROLE_ACTIVE }, ses := { ctxs := [(255, { state := 7, outlet := 3, overSince := some 0 })] } }, 255, { state := 7, outlet := 3, overSince := some 0 }, 0, by decide⟩,
   ⟨{ now := hour, pair := { role := ROLE_ACTIVE }, ses := { ctxs := [(255, { state := 4, outlet := 3, reverseSince := some 0 })] } }, 255, { state := 4, outlet := 3, reverseSince := some 0 }, 0, by decide⟩,
   ⟨{ now := hour, pair := { role := ROLE_ACTIVE }, ses := { ctxs := [(255, { state := 8, outlet := 3, emergency := true })] } }, 255, { state := 8, outlet := 3, emergency := true }, by decide⟩,
   ⟨{ now := hour, pair := { role := ROLE_ACTIVE }, ses := { ctxs := [(255, { state := 8, outlet := 3, emergency := true })] } }, 255, { state := 8, outlet := 3, emergency := true }, by decide⟩,
   ⟨{ now := hour, pair := { role := ROLE_ACTIVE }, lv := { slots := [(0, { consumer := 3, state := 1, grantKw := 100 })] }, ses := { ctxs := [(255, { state := 7, outlet := 3, lowSince := some 0 })] } }, 255, { state := 7, outlet := 3, lowSince := some 0 }, 0, by decide⟩,
   ⟨{ now := hour, pair := { role := ROLE_ACTIVE }, ses := { ctxs := [(255, { state := 7, outlet := 3, highSince := some 0, evMaxKw := 100 })], recs := [(3, recOf 64 [(24, 4, 500)])] } }, 255, { state := 7, outlet := 3, highSince := some 0, evMaxKw := 100 }, 0, by decide⟩,
   ⟨{ now := hour, pair := { role := ROLE_ACTIVE }, ses := { ctxs := [(255, { state := 9, outlet := 3 })] } }, 255, { state := 9, outlet := 3 }, by decide⟩,
   ⟨{ now := hour, pair := { role := ROLE_ACTIVE }, ses := { ctxs := [(255, { state := 8, outlet := 3 })] } }, 255, { state := 8, outlet := 3 }, by decide⟩,
   ⟨{ pair := { role := ROLE_ACTIVE } }, { pair := { role := ROLE_ACTIVE } }, by decide⟩,
   ⟨{ now := hour, ses := { recs := [(255, recOf 64 [(10, 2, 5), (38, 2, 120)])], outlets := [(255, { contactorsAt := some 0 })] }, bas := { insts := [(5, { state := 2, meas := 16384 })] } }, 255, 0, by decide⟩,
   ⟨{ now := hour, pair := { role := ROLE_ACTIVE }, ses := { ctxs := [(255, { state := 5, outlet := 3 })] } }, 255, { state := 5, outlet := 3 }, by decide⟩,
   ⟨{ now := hour, pair := { role := ROLE_ACTIVE }, ses := { ctxs := [(255, { state := 7, outlet := 3 })] } }, 255, { state := 7, outlet := 3 }, by decide⟩,
   ⟨0, 1, by decide⟩,
   ⟨{ pair := { role := ROLE_ACTIVE, sync := SYNC_SYNCHRONISED }, ses := { ctxs := [(255, { state := 7, outlet := 3, tcp := some ⟨1, 2, 3⟩ })] } }, 255, { state := 7, outlet := 3, tcp := some ⟨1, 2, 3⟩ }, ⟨1, 2, 3⟩, by decide⟩⟩

/-- Operands and states that meet the hypotheses of MetrologyCommands. -/
theorem test_witness_MetrologyCommands :
    (∃ s : State, ∃ q : Nat, ∃ tag : Nat, ∃ c : InFlight, ∃ r, (Starts 0x0A00 q tag s c) ∧ (c.record 64 = some r) ∧ (c.desc.object ≤ 263) ∧ (allZero r = true ∨ s.chanRecOk c.desc.object r = true) ∧ (s.sealOpen = true) ∧ (s.readingOpen c.desc.object = false)) ∧
    (∃ s : State, ∃ q : Nat, ∃ tag : Nat, ∃ c : InFlight, ∃ r, (Starts 0x0A00 q tag s c) ∧ (c.record 64 = some r) ∧ (c.desc.object ≤ 263) ∧ (allZero r = true ∨ s.chanRecOk c.desc.object r = true) ∧ (s.sealOpen = true) ∧ (s.readingOpen c.desc.object = true)) ∧
    (∃ s : State, ∃ q : Nat, ∃ tag : Nat, ∃ c : InFlight, ∃ r, (Starts 0x0A00 q tag s c) ∧ (c.record 64 = some r) ∧ (c.desc.object ≤ 263) ∧ (allZero r = true ∨ s.chanRecOk c.desc.object r = true) ∧ (s.sealOpen = false)) ∧
    (∃ s : State, ∃ q : Nat, ∃ tag : Nat, ∃ c : InFlight, ∃ r, (Starts 0x0A01 q tag s c) ∧ (c.record 176 = some r) ∧ (s.calOk c.desc.object r = true) ∧ (s.sealOpen = true) ∧ (s.readingOpen c.desc.object = false)) ∧
    (∃ s : State, ∃ q : Nat, ∃ tag : Nat, ∃ c : InFlight, ∃ r, (Starts 0x0A01 q tag s c) ∧ (c.record 176 = some r) ∧ (s.calOk c.desc.object r = true) ∧ (s.sealOpen = false)) ∧
    (∃ s : State, ∃ q : Nat, ∃ tag : Nat, ∃ c : InFlight, (Starts 0x0A02 q tag s c) ∧ (c.desc.u 32 1 = 0) ∧ (c.desc.dataLen = 0) ∧ (s.sealOpen = true)) ∧
    (∃ s : State, ∃ q : Nat, ∃ tag : Nat, ∃ c : InFlight, (Starts 0x0A02 q tag s c) ∧ (c.desc.u 32 1 = 0) ∧ (c.desc.dataLen = 0) ∧ (s.sealOpen = false)) ∧
    (∃ s : State, ∃ q : Nat, ∃ tag : Nat, ∃ c : InFlight, (Starts 0x0A02 q tag s c) ∧ (c.desc.u 32 1 = 1) ∧ (c.desc.dataLen = 0) ∧ (s.sys.metOption = 0)) ∧
    (Config.verifies 9 ((recOf 128 [(0, 4, 0x4C414553), (20, 4, 1), (24, 1, 1), (26, 2, 1), (28, 2, 9)]).take 64) ((recOf 128 [(0, 4, 0x4C414553), (20, 4, 1), (24, 1, 1), (26, 2, 1), (28, 2, 9)]).drop 64) = true → ∃ s : State, ∃ q : Nat, ∃ tag : Nat, ∃ c : InFlight, (Starts 0x0A02 q tag s c) ∧ (c.desc.u 32 1 = 1) ∧ (s.sys.metOption ≠ 0) ∧ (c.desc.dataLen = 128) ∧ (c.desc.data.length = 128) ∧ (c.desc.data.take 4 = [0x53, 0x45, 0x41, 0x4C]) ∧ (fld c.desc.data 24 1 = 1) ∧ (1 ≤ fld c.desc.data 26 2) ∧ (fld c.desc.data 26 2 ≤ s.islN PAR_MET_SEAL_MAX_MIN) ∧ (zeros c.desc.data 25 1 = true) ∧ (zeros c.desc.data 30 2 = true) ∧ (s.slotAllows (fld c.desc.data 28 2) 9 M_JASPER = true) ∧ (s.slotAllows (fld c.desc.data 28 2) 1 M_JASPER = true) ∧ (Config.verifies (fld c.desc.data 28 2) (c.desc.data.take 64) (c.desc.data.drop 64) = true) ∧ ((c.desc.data.drop 4).take 16 = padTo 16 s.sys.identity) ∧ (fld c.desc.data 20 4 = s.met.sealCount + 1)) ∧
    (Config.verifies 9 ((recOf 128 [(0, 4, 0x4C414553), (20, 4, 7), (24, 1, 1), (26, 2, 1), (28, 2, 9)]).take 64) ((recOf 128 [(0, 4, 0x4C414553), (20, 4, 7), (24, 1, 1), (26, 2, 1), (28, 2, 9)]).drop 64) = true → ∃ s : State, ∃ q : Nat, ∃ tag : Nat, ∃ c : InFlight, (Starts 0x0A02 q tag s c) ∧ (c.desc.u 32 1 = 1) ∧ (s.sys.metOption ≠ 0) ∧ (c.desc.dataLen = 128) ∧ (c.desc.data.length = 128) ∧ (c.desc.data.take 4 = [0x53, 0x45, 0x41, 0x4C]) ∧ (fld c.desc.data 24 1 = 1) ∧ (1 ≤ fld c.desc.data 26 2) ∧ (fld c.desc.data 26 2 ≤ s.islN PAR_MET_SEAL_MAX_MIN) ∧ (zeros c.desc.data 25 1 = true) ∧ (zeros c.desc.data 30 2 = true) ∧ (s.slotAllows (fld c.desc.data 28 2) 9 M_JASPER = true) ∧ (s.slotAllows (fld c.desc.data 28 2) 1 M_JASPER = true) ∧ (Config.verifies (fld c.desc.data 28 2) (c.desc.data.take 64) (c.desc.data.drop 64) = true) ∧ (fld c.desc.data 20 4 ≠ s.met.sealCount + 1)) ∧
    (∃ s : State, ∃ q : Nat, ∃ tag : Nat, ∃ c : InFlight, (Starts 0x0A03 q tag s c) ∧ (1 ≤ c.desc.u 34 2) ∧ (c.desc.u 34 2 ≤ 264) ∧ (64 * c.desc.u 34 2 ≤ c.desc.dataLen) ∧ (c.desc.u 32 2 + c.desc.u 34 2 ≤ 264)) ∧
    (∃ s : State, ∃ q : Nat, ∃ tag : Nat, ∃ c : InFlight, ∃ h, (Starts 0x0A04 q tag s c) ∧ (256 ≤ c.desc.object) ∧ (c.desc.object ≤ 263) ∧ ((s.chan c.desc.object).state = 2) ∧ ((s.chan c.desc.object).harm = some h)) ∧
    (∃ s : State, ∃ q : Nat, ∃ tag : Nat, ∃ c : InFlight, (Starts 0x0A04 q tag s c) ∧ (c.desc.object < 256 ∨ 263 < c.desc.object ∨ (s.chan c.desc.object).state ≠ 2)) ∧
    (∃ s : State, ∃ q : Nat, ∃ tag : Nat, ∃ c : InFlight, (Starts 0x0A05 q tag s c) ∧ (c.desc.object ≤ 263)) ∧
    (∃ s : State, ∃ q : Nat, ∃ tag : Nat, ∃ c : InFlight, ∃ r, (Starts 0x0A06 q tag s c) ∧ (c.record 16 = some r) ∧ (2 ≤ c.desc.object) ∧ (c.desc.object ≤ 7) ∧ (pulseQty r ≤ 7) ∧ (fld r 3 1 ≤ 1) ∧ (1 ≤ pulseConst r) ∧ (pulseConst r ≤ 1000000) ∧ (1 ≤ pulseWidth r) ∧ (pulseWidth r ≤ 1000) ∧ (zeros r 10 6 = true) ∧ (pulseChan r = 0xFFFF ∨ (pulseChan r ≤ 263 ∧ pulseQty r ∈ qtysOf (pulseChan r)))) ∧
    (∃ s : State, ∃ q : Nat, ∃ tag : Nat, ∃ c : InFlight, (Starts 0x0A07 q tag s c) ∧ (c.desc.object ≤ 1) ∧ (c.desc.u 32 2 = 0xFFFF ∨ ((s.met.recs.get? (c.desc.u 32 2)).isSome = true ∧ c.desc.u 34 1 ∈ qtysOf (c.desc.u 32 2)))) :=
  ⟨⟨waits { met := { sealEnd := some 5 } } (desc 0x0A00 263 [] (recOf 64 [])), 0, 1, cmd (desc 0x0A00 263 [] (recOf 64 [])), recOf 64 [], by decide⟩,
   ⟨waits { met := { sealEnd := some 5 }, bil := { live := { opened := [(0, { channel := 263 })] } } } (desc 0x0A00 263 [] (recOf 64 [])), 0, 1, cmd (desc 0x0A00 263 [] (recOf 64 [])), recOf 64 [], by decide⟩,
   ⟨waits {} (desc 0x0A00 263 [] (recOf 64 [])), 0, 1, cmd (desc 0x0A00 263 [] (recOf 64 [])), recOf 64 [], by decide⟩,
   ⟨waits { met := { sealEnd := some 5 } } (desc 0x0A01 263 [] (recOf 176 [(0, 2, 263), (2, 1, 1), (18, 2, 32768)])), 0, 1, cmd (desc 0x0A01 263 [] (recOf 176 [(0, 2, 263), (2, 1, 1), (18, 2, 32768)])), recOf 176 [(0, 2, 263), (2, 1, 1), (18, 2, 32768)], by decide⟩,
   ⟨waits {} (desc 0x0A01 263 [] (recOf 176 [(0, 2, 263), (2, 1, 1), (18, 2, 32768)])), 0, 1, cmd (desc 0x0A01 263 [] (recOf 176 [(0, 2, 263), (2, 1, 1), (18, 2, 32768)])), recOf 176 [(0, 2, 263), (2, 1, 1), (18, 2, 32768)], by decide⟩,
   ⟨waits { met := { sealEnd := some 5 } } (desc 0x0A02 0 [] []), 0, 1, cmd (desc 0x0A02 0 [] []), by decide⟩,
   ⟨waits {} (desc 0x0A02 0 [] []), 0, 1, cmd (desc 0x0A02 0 [] []), by decide⟩,
   ⟨waits { sys := { metOption := 0 } } (desc 0x0A02 0 [(32, 1, 1)] []), 0, 1, cmd (desc 0x0A02 0 [(32, 1, 1)] []), by decide⟩,
   (fun hv => ⟨waits { sys := { metOption := 1 }, obs := { lifecycle := 2, slots := [(9, { type := 1, uses := 0xFFFF, masters := 255, worlds := 255, lifecycles := 255 })] } } (desc 0x0A02 0 [(32, 1, 1)] (recOf 128 [(0, 4, 0x4C414553), (20, 4, 1), (24, 1, 1), (26, 2, 1), (28, 2, 9)])), 0, 1, cmd (desc 0x0A02 0 [(32, 1, 1)] (recOf 128 [(0, 4, 0x4C414553), (20, 4, 1), (24, 1, 1), (26, 2, 1), (28, 2, 9)])), by decide, by decide, by decide, by decide, by decide, by decide, by decide, by decide, by decide, by decide, by decide, by decide, by decide, hv, by decide, by decide⟩),
   (fun hv => ⟨waits { sys := { metOption := 1 }, obs := { lifecycle := 2, slots := [(9, { type := 1, uses := 0xFFFF, masters := 255, worlds := 255, lifecycles := 255 })] } } (desc 0x0A02 0 [(32, 1, 1)] (recOf 128 [(0, 4, 0x4C414553), (20, 4, 7), (24, 1, 1), (26, 2, 1), (28, 2, 9)])), 0, 1, cmd (desc 0x0A02 0 [(32, 1, 1)] (recOf 128 [(0, 4, 0x4C414553), (20, 4, 7), (24, 1, 1), (26, 2, 1), (28, 2, 9)])), by decide, by decide, by decide, by decide, by decide, by decide, by decide, by decide, by decide, by decide, by decide, by decide, by decide, hv, by decide⟩),
   ⟨waits {} (desc 0x0A03 0 [(32, 2, 263), (34, 2, 1), (12, 4, 64)] []), 0, 1, cmd (desc 0x0A03 0 [(32, 2, 263), (34, 2, 1), (12, 4, 64)] []), by decide⟩,
   ⟨waits { met := { chans := [(263, { state := 2, harm := some { endMs := 5, freq := 50, blocks := [] } })] } } (desc 0x0A04 263 [] []), 0, 1, cmd (desc 0x0A04 263 [] []), { endMs := 5, freq := 50, blocks := [] }, by decide⟩,
   ⟨waits {} (desc 0x0A04 264 [] []), 0, 1, cmd (desc 0x0A04 264 [] []), by decide⟩,
   ⟨waits {} (desc 0x0A05 263 [] []), 0, 1, cmd (desc 0x0A05 263 [] []), by decide⟩,
   ⟨waits {} (desc 0x0A06 7 [] (recOf 16 [(0, 2, 263), (2, 1, 7), (4, 4, 1000000), (8, 2, 1000)])), 0, 1, cmd (desc 0x0A06 7 [] (recOf 16 [(0, 2, 263), (2, 1, 7), (4, 4, 1000000), (8, 2, 1000)])), recOf 16 [(0, 2, 263), (2, 1, 7), (4, 4, 1000000), (8, 2, 1000)], by decide⟩,
   ⟨waits { met := { recs := [(263, [])] } } (desc 0x0A07 1 [(32, 2, 263), (34, 1, 7)] []), 0, 1, cmd (desc 0x0A07 1 [(32, 2, 263), (34, 1, 7)] []), by decide⟩⟩

/-- Operands and states that meet the hypotheses of MetrologyEvents. -/
theorem test_witness_MetrologyEvents :
    (∃ s : State, (s.met.ready = false ∨ s.met.clock = false)) ∧
    (∃ s : State, ∃ b : SampleBlock, ∃ ch : Nat, ∃ r : Rec, (s.met.ready = true) ∧ (s.met.clock = true) ∧ (s.met.recs.find? (fun e => metSource e.2 == 1 && metHead e.2 == b.head) = some (ch, r)) ∧ (s.tagOk b = true) ∧ ((s.chan ch).seq = some b.seq)) ∧
    (∃ s : State, ∃ b : SampleBlock, ∃ ch : Nat, ∃ r : Rec, (s.met.ready = true) ∧ (s.met.clock = true) ∧ (s.met.recs.find? (fun e => metSource e.2 == 1 && metHead e.2 == b.head) = some (ch, r)) ∧ (s.tagOk b = false ∨ (b.hkind ≠ metKind r ∧ (s.chan ch).seq ≠ some b.seq))) ∧
    (∃ s : State, ∃ b : SampleBlock, ∃ ch : Nat, ∃ r : Rec, (s.met.ready = true) ∧ (s.met.clock = true) ∧ (s.met.recs.find? (fun e => metSource e.2 == 1 && metHead e.2 == b.head) = some (ch, r)) ∧ (s.tagOk b = true) ∧ (b.hkind = metKind r) ∧ (b.overrange = false) ∧ ((∀ k, (s.chan ch).seq = some k → 1 ≤ (b.seq + 2 ^ 32 - k) % 2 ^ 32 ∧ (b.seq + 2 ^ 32 - k) % 2 ^ 32 < 2 ^ 31 ∧ k ≠ b.seq)) ∧ (b.sensorFault = true)) ∧
    (∃ s : State, ∃ b : SampleBlock, ∃ ch : Nat, ∃ r : Rec, (s.met.ready = true) ∧ (s.met.clock = true) ∧ (s.met.recs.find? (fun e => metSource e.2 == 1 && metHead e.2 == b.head) = some (ch, r)) ∧ (s.tagOk b = true) ∧ (b.hkind = metKind r) ∧ (b.overrange = false) ∧ ((∀ k, (s.chan ch).seq = some k → 1 ≤ (b.seq + 2 ^ 32 - k) % 2 ^ 32 ∧ (b.seq + 2 ^ 32 - k) % 2 ^ 32 < 2 ^ 31 ∧ k ≠ b.seq)) ∧ (b.sensorFault = false)) ∧
    (∃ s : State, ∃ k : Nat, (k < 8) ∧ (s.met.steps.getD k 0 < 3) ∧ (800 ≤ s.met.calm.getD k 0)) ∧
    (∃ s : State, ∃ ch : Nat, ((s.chan ch).state = 2) ∧ (metGapMax (s.chanRec ch) < (s.chan ch).gap)) ∧
    (∃ s : State, ∃ ch : Nat, ∃ t : Nat, ((s.chan ch).state = 2) ∧ ((s.chan ch).overSince = some t) ∧ (t + sec ≤ s.now)) ∧
    (∃ s : State, ∃ ch : Nat, (s.held 6 ch 2 = false) ∧ (s.bil.full = false) ∧ (s.bil.checkOk = true) ∧ ((s.chan ch).state = 1) ∧ (100 ≤ (s.chan ch).run)) ∧
    (∃ s : State, ∃ ch : Nat, (s.held 6 ch 2 = false) ∧ (s.bil.full = false) ∧ (s.bil.checkOk = true) ∧ ((s.chan ch).state = 1) ∧ ((s.chan ch).run < 100)) ∧
    (∃ s : State, ∃ ch : Nat, (s.held 6 ch 2 = false) ∧ (s.bil.full = false) ∧ (s.bil.checkOk = true) ∧ ((s.chan ch).state = 3) ∧ (1000 ≤ (s.chan ch).run)) ∧
    (∃ s : State, ∃ ch : Nat, (256 ≤ ch) ∧ ((s.met.recs.get? ch).isSome = true)) ∧
    (∃ s : State, ∃ o : Nat, ∃ t : Nat, (2 ≤ o) ∧ ((s.met.pulses.getD o {}).since = some t) ∧ (t + sec ≤ s.now)) ∧
    (∃ s : State, ∃ t : Nat, (s.met.sealEnd = some t) ∧ (t ≤ s.now)) ∧
    (∃ s : State, ∃ t : Nat, (s.met.sealEnd = some t) ∧ (s.now < t)) :=
  ⟨⟨{}, by decide⟩,
   ⟨{ met := { ready := true, clock := true, recs := [(255, recOf 64 [(2, 1, 1), (3, 1, 1), (4, 2, 9)])], chans := [(255, { seq := some 5 })] }, obs := { lifecycle := 2, enrolled := [(9, ⟨3, 1, [], 800, 0⟩)], slots := [(800, { type := 6, uses := 0xFFFF, masters := 255, worlds := 255, lifecycles := 255 })] } }, { head := 9, overrange := false, sensorFault := false, seq := 5, cycle := 0, exps := [], hkind := 1, samples := [], tag := Config.cmac 800 9 (SampleBlock.bytes { head := 9, overrange := false, sensorFault := false, seq := 5, cycle := 0, exps := [], hkind := 1, samples := [], tag := [], split := 0 }), split := 0 }, 255, recOf 64 [(2, 1, 1), (3, 1, 1), (4, 2, 9)], by decide, by decide, rfl, State.tagOk_of _ _ ⟨3, 1, [], 800, 0⟩ rfl (by decide) rfl, by decide⟩,
   ⟨{ met := { ready := true, clock := true, recs := [(255, recOf 64 [(2, 1, 1), (3, 1, 1), (4, 2, 9)])], chans := [(255, { seq := some 5 })] }, obs := { lifecycle := 2, enrolled := [(8, ⟨3, 1, [], 800, 0⟩)], slots := [(800, { type := 6, uses := 0xFFFF, masters := 255, worlds := 255, lifecycles := 255 })] } }, { head := 9, overrange := false, sensorFault := false, seq := 5, cycle := 0, exps := [], hkind := 1, samples := [], tag := [], split := 0 }, 255, recOf 64 [(2, 1, 1), (3, 1, 1), (4, 2, 9)], by decide⟩,
   ⟨{ met := { ready := true, clock := true, recs := [(255, recOf 64 [(2, 1, 1), (3, 1, 1), (4, 2, 9)])], chans := [(255, {})] }, obs := { lifecycle := 2, enrolled := [(9, ⟨3, 1, [], 800, 0⟩)], slots := [(800, { type := 6, uses := 0xFFFF, masters := 255, worlds := 255, lifecycles := 255 })] } }, { head := 9, overrange := false, sensorFault := true, seq := 5, cycle := 0, exps := [], hkind := 1, samples := [], tag := Config.cmac 800 9 (SampleBlock.bytes { head := 9, overrange := false, sensorFault := true, seq := 5, cycle := 0, exps := [], hkind := 1, samples := [], tag := [], split := 0 }), split := 0 }, 255, recOf 64 [(2, 1, 1), (3, 1, 1), (4, 2, 9)], by decide, by decide, rfl, State.tagOk_of _ _ ⟨3, 1, [], 800, 0⟩ rfl (by decide) rfl, rfl, rfl, fun k h => by simp [State.chan, Tab.getD, Tab.get?] at h, rfl⟩,
   ⟨{ met := { ready := true, clock := true, recs := [(255, recOf 64 [(2, 1, 1), (3, 1, 1), (4, 2, 9)])], chans := [(255, {})] }, obs := { lifecycle := 2, enrolled := [(9, ⟨3, 1, [], 800, 0⟩)], slots := [(800, { type := 6, uses := 0xFFFF, masters := 255, worlds := 255, lifecycles := 255 })] } }, { head := 9, overrange := false, sensorFault := false, seq := 5, cycle := 0, exps := [], hkind := 1, samples := [], tag := Config.cmac 800 9 (SampleBlock.bytes { head := 9, overrange := false, sensorFault := false, seq := 5, cycle := 0, exps := [], hkind := 1, samples := [], tag := [], split := 0 }), split := 0 }, 255, recOf 64 [(2, 1, 1), (3, 1, 1), (4, 2, 9)], by decide, by decide, rfl, State.tagOk_of _ _ ⟨3, 1, [], 800, 0⟩ rfl (by decide) rfl, rfl, rfl, fun k h => by simp [State.chan, Tab.getD, Tab.get?] at h, rfl⟩,
   ⟨{ met := { steps := [(7, 2)], calm := [(7, 800)] } }, 7, by decide⟩,
   ⟨{ met := { chans := [(263, { state := 2, gap := 1 })] } }, 263, by decide⟩,
   ⟨{ now := sec, met := { chans := [(263, { state := 2, overSince := some 0 })] } }, 263, 0, by decide⟩,
   ⟨{ bil := { checkOk := true }, met := { chans := [(263, { state := 1, run := 100 })] } }, 263, by decide⟩,
   ⟨{ bil := { checkOk := true }, met := { chans := [(263, { state := 1, run := 99 })] } }, 263, by decide⟩,
   ⟨{ bil := { checkOk := true }, met := { chans := [(263, { state := 3, run := 1000 })] } }, 263, by decide⟩,
   ⟨{ met := { recs := [(256, [])] } }, 256, by decide⟩,
   ⟨{ now := sec, met := { pulses := [(7, { since := some 0 })] } }, 7, 0, by decide⟩,
   ⟨{ now := 5, met := { sealEnd := some 5 } }, 5, by decide⟩,
   ⟨{ met := { sealEnd := some 5 } }, 5, by decide⟩⟩

/-- Operands and states that meet the hypotheses of BillingCommands. -/
theorem test_witness_BillingCommands :
    (∃ s : State, ∃ q : Nat, ∃ tag : Nat, ∃ c : InFlight, ∃ r, (Starts 0x0B00 q tag s c) ∧ (c.record 256 = some r) ∧ (tariffOk c.desc.object r = true) ∧ ((s.table c.desc.object).newest < fld r 16 4)) ∧
    (∃ s : State, ∃ q : Nat, ∃ tag : Nat, ∃ c : InFlight, ∃ r, (Starts 0x0B00 q tag s c) ∧ (c.record 256 = some r) ∧ (tariffOk c.desc.object r = true) ∧ (fld r 16 4 ≤ (s.table c.desc.object).newest)) ∧
    (∃ s : State, ∃ q : Nat, ∃ tag : Nat, ∃ c : InFlight, ∃ r, (Starts 0x0B01 q tag s c) ∧ (c.record 264 = some r) ∧ (c.desc.object = 0) ∧ ((∀ b ∈ r, b.toNat < 16 ∨ b.toNat = 255))) ∧
    (∃ s : State, ∃ q : Nat, ∃ tag : Nat, ∃ c : InFlight, ∃ r, (Starts 0x0B02 q tag s c) ∧ (c.record 32 = some r) ∧ (c.desc.object ≤ 4095) ∧ (fld r 0 2 = c.desc.object) ∧ (accKind r ≤ 2) ∧ (accState r ≤ 1) ∧ (accTable r ≤ 15) ∧ (fld r 5 1 ≤ 1) ∧ (zeros r 6 2 = true) ∧ (zeros r 28 4 = true) ∧ (s.accountInUse c.desc.object = false)) ∧
    (∃ s : State, ∃ q : Nat, ∃ tag : Nat, ∃ c : InFlight, ∃ r, (Starts 0x0B02 q tag s c) ∧ (c.record 32 = some r) ∧ (c.desc.object ≤ 4095) ∧ (fld r 0 2 = c.desc.object) ∧ (accKind r ≤ 2) ∧ (accState r ≤ 1) ∧ (accTable r ≤ 15) ∧ (fld r 5 1 ≤ 1) ∧ (zeros r 6 2 = true) ∧ (zeros r 28 4 = true) ∧ (s.accountInUse c.desc.object = true) ∧ (accKind r = 0)) ∧
    (∃ s : State, ∃ q : Nat, ∃ tag : Nat, ∃ c : InFlight, (Starts 0x0B03 q tag s c) ∧ ((s.bil.accounts.get? c.desc.object).isSome = true) ∧ (c.desc.u 36 4 = 0) ∧ (c.desc.u 32 4 < s.bil.live.txn.getD c.desc.object 0)) ∧
    (∃ s : State, ∃ q : Nat, ∃ tag : Nat, ∃ c : InFlight, (Starts 0x0B03 q tag s c) ∧ ((s.bil.accounts.get? c.desc.object).isSome = true) ∧ (c.desc.u 36 4 = 0) ∧ (c.desc.u 32 4 = s.bil.live.txn.getD c.desc.object 0)) ∧
    (∃ s : State, ∃ q : Nat, ∃ tag : Nat, ∃ c : InFlight, (Starts 0x0B03 q tag s c) ∧ ((s.bil.accounts.get? c.desc.object).isSome = true) ∧ (c.desc.u 36 4 = 0) ∧ (s.bil.live.txn.getD c.desc.object 0 < c.desc.u 32 4)) ∧
    (∃ s : State, ∃ q : Nat, ∃ tag : Nat, ∃ c : InFlight, (Starts 0x0B04 q tag s c) ∧ (c.desc.object = 0) ∧ (1 ≤ c.desc.u 34 2) ∧ (c.desc.u 34 2 ≤ 4096) ∧ (32 * c.desc.u 34 2 ≤ c.desc.dataLen) ∧ (c.desc.u 32 2 + c.desc.u 34 2 ≤ 4096)) ∧
    (∃ s : State, ∃ q : Nat, ∃ tag : Nat, ∃ c : InFlight, (Starts 0x0B05 q tag s c) ∧ (c.desc.object = 0)) ∧
    (∃ s : State, ∃ q : Nat, ∃ tag : Nat, ∃ c : InFlight, (Starts 0x0B06 q tag s c) ∧ (c.desc.object = 0) ∧ (1 ≤ c.desc.u 36 2) ∧ (c.desc.u 36 2 ≤ 64) ∧ (432 * c.desc.u 36 2 ≤ c.desc.dataLen)) ∧
    (∃ s : State, ∃ q : Nat, ∃ tag : Nat, ∃ c : InFlight, (Starts 0x0B07 q tag s c) ∧ ((s.met.recs.get? c.desc.object).isSome = true) ∧ (432 ≤ c.desc.dataLen) ∧ (s.canSign = true)) ∧
    (∃ s : State, ∃ q : Nat, ∃ tag : Nat, ∃ c : InFlight, (Starts 0x0B07 q tag s c) ∧ ((s.met.recs.get? c.desc.object).isSome = true) ∧ (432 ≤ c.desc.dataLen) ∧ (s.canSign = false)) ∧
    (∃ s : State, ∃ q : Nat, ∃ tag : Nat, ∃ c : InFlight, (Starts 0x0B08 q tag s c) ∧ (c.desc.object = 0) ∧ (1 ≤ c.desc.u 36 2) ∧ (c.desc.u 36 2 ≤ 1024) ∧ (64 * c.desc.u 36 2 ≤ c.desc.dataLen)) ∧
    (∃ s : State, ∃ q : Nat, ∃ tag : Nat, ∃ c : InFlight, (Starts 0x0B09 q tag s c) ∧ (c.desc.object = 0) ∧ (c.desc.u 32 4 ≤ s.bil.live.logHead) ∧ (s.bil.live.waiting = []) ∧ (s.bil.live.log = []) ∧ (s.bil.low = false) ∧ (s.bil.quarter = false) ∧ (16384 ≤ 4 * (16384 - (s.bil.live.logHead - max s.bil.live.acked (c.desc.u 32 4)))) ∧ (4096 ≤ 4 * (4096 - s.bil.live.readings.length))) ∧
    (∃ s : State, ∃ q : Nat, ∃ tag : Nat, ∃ c : InFlight, (Starts 0x0B09 q tag s c) ∧ (s.bil.live.logHead < c.desc.u 32 4)) ∧
    (∃ s : State, ∃ q : Nat, ∃ tag : Nat, ∃ c : InFlight, (Starts 0x0B0A q tag s c) ∧ (c.desc.object = 0)) ∧
    (∃ s : State, ∃ q : Nat, ∃ tag : Nat, ∃ c : InFlight, ∃ t : State, (Starts 0x0B09 q tag s c) ∧ (c.desc.object = 0) ∧ (c.desc.u 32 4 ≤ s.bil.live.logHead) ∧ (t = (s.start c.uid).ackLog (c.desc.u 32 4))) :=
  ⟨⟨waits { bil := { tables := [(15, { newest := 6 })] } } (desc 0x0B00 15 [] (recOf 256 [(0, 1, 15), (1, 1, 1), (5, 1, 60), (16, 4, 7), (64, 2, 1439), (66, 1, 127), (67, 1, 7)])), 0, 1, cmd (desc 0x0B00 15 [] (recOf 256 [(0, 1, 15), (1, 1, 1), (5, 1, 60), (16, 4, 7), (64, 2, 1439), (66, 1, 127), (67, 1, 7)])), recOf 256 [(0, 1, 15), (1, 1, 1), (5, 1, 60), (16, 4, 7), (64, 2, 1439), (66, 1, 127), (67, 1, 7)], by decide⟩,
   ⟨waits { bil := { tables := [(15, { newest := 7 })] } } (desc 0x0B00 15 [] (recOf 256 [(0, 1, 15), (1, 1, 1), (5, 1, 60), (16, 4, 7), (64, 2, 1439), (66, 1, 127), (67, 1, 7)])), 0, 1, cmd (desc 0x0B00 15 [] (recOf 256 [(0, 1, 15), (1, 1, 1), (5, 1, 60), (16, 4, 7), (64, 2, 1439), (66, 1, 127), (67, 1, 7)])), recOf 256 [(0, 1, 15), (1, 1, 1), (5, 1, 60), (16, 4, 7), (64, 2, 1439), (66, 1, 127), (67, 1, 7)], by decide⟩,
   ⟨waits {} (desc 0x0B01 0 [] (recOf 264 [(0, 1, 15), (1, 1, 255)])), 0, 1, cmd (desc 0x0B01 0 [] (recOf 264 [(0, 1, 15), (1, 1, 255)])), recOf 264 [(0, 1, 15), (1, 1, 255)], by decide⟩,
   ⟨waits {} (desc 0x0B02 4095 [] (recOf 32 [(0, 2, 4095), (2, 1, 2), (3, 1, 1), (4, 1, 15), (5, 1, 1)])), 0, 1, cmd (desc 0x0B02 4095 [] (recOf 32 [(0, 2, 4095), (2, 1, 2), (3, 1, 1), (4, 1, 15), (5, 1, 1)])), recOf 32 [(0, 2, 4095), (2, 1, 2), (3, 1, 1), (4, 1, 15), (5, 1, 1)], by decide⟩,
   ⟨waits { ses := { ctxs := [(0, { outlet := 3, auth := 2, account := 4095 })] } } (desc 0x0B02 4095 [] (recOf 32 [(0, 2, 4095)])), 0, 1, cmd (desc 0x0B02 4095 [] (recOf 32 [(0, 2, 4095)])), recOf 32 [(0, 2, 4095)], by decide⟩,
   ⟨waits { bil := { accounts := [(4095, [])], live := { txn := [(4095, 9)] } } } (desc 0x0B03 4095 [(32, 4, 8)] []), 0, 1, cmd (desc 0x0B03 4095 [(32, 4, 8)] []), by decide⟩,
   ⟨waits { bil := { accounts := [(4095, [])], live := { txn := [(4095, 9)] } } } (desc 0x0B03 4095 [(32, 4, 9)] []), 0, 1, cmd (desc 0x0B03 4095 [(32, 4, 9)] []), by decide⟩,
   ⟨waits { bil := { accounts := [(4095, [])], live := { txn := [(4095, 9)] } } } (desc 0x0B03 4095 [(32, 4, 10)] []), 0, 1, cmd (desc 0x0B03 4095 [(32, 4, 10)] []), by decide⟩,
   ⟨waits {} (desc 0x0B04 0 [(32, 2, 4095), (34, 2, 1), (12, 4, 32)] []), 0, 1, cmd (desc 0x0B04 0 [(32, 2, 4095), (34, 2, 1), (12, 4, 32)] []), by decide⟩,
   ⟨waits {} (desc 0x0B05 0 [] []), 0, 1, cmd (desc 0x0B05 0 [] []), by decide⟩,
   ⟨waits {} (desc 0x0B06 0 [(36, 2, 64), (12, 4, 27648)] []), 0, 1, cmd (desc 0x0B06 0 [(36, 2, 64), (12, 4, 27648)] []), by decide⟩,
   ⟨waits { met := { recs := [(263, [])] }, obs := { slots := [(1, { type := 1, uses := 0xFFFF, masters := 255, worlds := 255, lifecycles := 255 })] } } (desc 0x0B07 263 [(12, 4, 432)] []), 0, 1, cmd (desc 0x0B07 263 [(12, 4, 432)] []), by decide⟩,
   ⟨waits { met := { recs := [(263, [])] }, obs := { slots := [] } } (desc 0x0B07 263 [(12, 4, 432)] []), 0, 1, cmd (desc 0x0B07 263 [(12, 4, 432)] []), by decide⟩,
   ⟨waits {} (desc 0x0B08 0 [(36, 2, 1024), (12, 4, 65536)] []), 0, 1, cmd (desc 0x0B08 0 [(36, 2, 1024), (12, 4, 65536)] []), by decide⟩,
   ⟨waits {} (desc 0x0B09 0 [] []), 0, 1, cmd (desc 0x0B09 0 [] []), by decide⟩,
   ⟨waits {} (desc 0x0B09 0 [(32, 4, 1)] []), 0, 1, cmd (desc 0x0B09 0 [(32, 4, 1)] []), by decide⟩,
   ⟨waits {} (desc 0x0B0A 0 [] []), 0, 1, cmd (desc 0x0B0A 0 [] []), by decide⟩,
   ⟨waits { bil := { live := { logHead := 5 } } } (desc 0x0B09 0 [(32, 4, 5)] []), 0, 1, cmd (desc 0x0B09 0 [(32, 4, 5)] []), ((waits { bil := { live := { logHead := 5 } } } (desc 0x0B09 0 [(32, 4, 5)] [])).start 7).ackLog 5, by decide, by decide, by decide, rfl⟩⟩

/-- Operands and states that meet the hypotheses of LegalClock. -/
theorem test_witness_LegalClock :
    (∃ s : State, (s.met.ready = false ∨ s.met.clock = false)) ∧
    (∃ s : State, ∃ l : List J2Sample, (s.met.ready = true) ∧ (s.met.clock = true) ∧ (s.met.recs = []) ∧ (s.met.pulses = []) ∧ (s.met.legs = []) ∧ (s.met.apply = []) ∧ (s.ses.ctxs = []) ∧ (s.bil.live.opened = []) ∧ (s.bil.clockSets = []) ∧ (l = []) ∧ (s.sys.pfw = true) ∧ (s.bil.warnTick ≠ none) ∧ (s.bil.live.apartAt ≠ none) ∧ (s.bil.full = true)) ∧
    (∃ s : State, ∃ t : State, ∃ u : State, ∃ v : State, ∃ l : List J2Sample, (s.met.ready = true) ∧ (s.met.clock = true) ∧ (t = s.tickEnergy l) ∧ (u = ({ t with met := { t.met with ticks := t.met.ticks + 1 }, bil := { t.bil with live := { t.bil.live with legal := t.bil.live.legal + 1 } } })) ∧ (v = (fun x : State => (x.met.apply.foldl State.applyStored { x with met := { x.met with apply := [] } }).sessionReadings.clockRequests) (if u.sys.pfw then
      (if u.bil.live.apartAt = none ∧ u.boundaryDue = true then u.updBil fun b => { b with apartAt := some b.legal } else u) else u.fireAll))) ∧
    (∃ s : State, ∃ n : Nat, (s.met.ready = true) ∧ (n % 2 ^ 32 = s.bil.check)) ∧
    (∃ s : State, ∃ n : Nat, (s.met.ready = true) ∧ (n % 2 ^ 32 ≠ s.bil.check)) ∧
    (∃ s : State, (s.met.ready = true) ∧ ((∀ e ∈ s.ses.recs, s.obs.enrolled.get? (outNode e.2) = none))) ∧
    (∃ s : State, ∃ o : Nat, ∃ r : Rec, ∃ k : Enrolment, (s.met.ready = true) ∧ (s.ses.recs = [(o, r)]) ∧ (s.obs.enrolled.get? (outNode r) = some k) ∧ (s.slotAllows k.slot 4 M_JASPER = true)) ∧
    (∃ s : State, (s.met.ready = true) ∧ (s.bil.registers = true)) ∧
    (∃ s : State, (s.met.ready = true) ∧ (s.bil.live.opened = [])) ∧
    (∃ s : State, ∃ n : Nat, ∃ k : Nat, ∃ a : RdAcc, (s.met.ready = true) ∧ (s.bil.live.opened = [(n, a)]) ∧ (a.account = some k) ∧ (accKind (s.account k) ≠ 2) ∧ (accLow (s.account k) = 0) ∧ (0 ≤ s.balance k - ((a.fee + (a.cost.map Prod.snd).sum / 1000000 : Nat) - a.deducted))) ∧
    (∃ s : State, (s.met.ready = true) ∧ (s.bil.live.copied < s.bil.live.logHead) ∧ (s.awaits .storeCopy = false) ∧ (s.hasGrant .storeCopy = false)) ∧
    (∃ s : State, ∃ w : Nat, (s.bil.warnTick = some w) ∧ (w + 30 ≤ s.bil.live.legal) ∧ (s.bil.registers = true)) ∧
    (∃ s : State, ∃ w : Nat, (s.bil.warnTick = some w) ∧ (s.bil.live.legal < w + 30)) :=
  ⟨⟨{}, by decide⟩,
   ⟨{ met := { ready := true, clock := true }, sys := { pfw := true }, bil := { full := true, warnTick := some 0, live := { apartAt := some 0 } } }, {}, by decide⟩,
   ⟨{ met := { ready := true, clock := true } }, ({ met := { ready := true, clock := true } } : State).tickEnergy [], ({ ({ met := { ready := true, clock := true } } : State).tickEnergy [] with met := { (({ met := { ready := true, clock := true } } : State).tickEnergy []).met with ticks := (({ met := { ready := true, clock := true } } : State).tickEnergy []).met.ticks + 1 }, bil := { (({ met := { ready := true, clock := true } } : State).tickEnergy []).bil with live := { (({ met := { ready := true, clock := true } } : State).tickEnergy []).bil.live with legal := (({ met := { ready := true, clock := true } } : State).tickEnergy []).bil.live.legal + 1 } } } : State), _, [], rfl, rfl, rfl, rfl, rfl⟩,
   ⟨{ met := { ready := true }, bil := { check := 5 } }, 2 ^ 32 + 5, by decide⟩,
   ⟨{ met := { ready := true } }, 5, by decide⟩,
   ⟨{ met := { ready := true }, ses := { recs := [(255, recOf 64 [(2, 2, 8)])] } }, by decide⟩,
   ⟨{ met := { ready := true }, ses := { recs := [(255, recOf 64 [(2, 2, 8)])] }, obs := { enrolled := [(8, ⟨3, 1, [], 9, 0⟩)], slots := [(9, { type := 7, uses := 0xFFFF, masters := 255, worlds := 255, lifecycles := 255 })] } }, 255, recOf 64 [(2, 2, 8)], ⟨3, 1, [], 9, 0⟩, by decide⟩,
   ⟨{ met := { ready := true }, bil := { registers := true } }, by decide⟩,
   ⟨{ met := { ready := true } }, by decide⟩,
   ⟨{ met := { ready := true }, bil := { live := { opened := [(0, { channel := 263, account := some 5, cost := [(0, 30000000)], fee := 10, deducted := 5 })], balance := [(5, 35)] } } }, 0, 5, { channel := 263, account := some 5, cost := [(0, 30000000)], fee := 10, deducted := 5 }, by decide⟩,
   ⟨{ met := { ready := true }, bil := { live := { logHead := 1 } } }, by decide⟩,
   ⟨{ bil := { warnTick := some 5, registers := true, live := { legal := 35 } } }, 5, by decide⟩,
   ⟨{ bil := { warnTick := some 5, live := { legal := 34 } } }, 5, by decide⟩⟩

/-- Operands and states that meet the hypotheses of EnergyAndRecords. -/
theorem test_witness_EnergyAndRecords :
    (∃ p : MetPulse, ∃ ch : Nat, (pulseChan p.cfg = ch) ∧ (p.fresh = false)) ∧
    (∃ p : MetPulse, ∃ ch : Nat, (pulseChan p.cfg ≠ ch ∨ p.fresh = true)) ∧
    (∃ p : MetPulse, (p.tick.2 = true)) ∧
    (∃ k : Nat, ∃ j, (j ≠ k)) ∧
    (∃ s : State, ∃ k, (k ≠ s.bil.live.logHead + 1)) ∧
    (∃ s : State, (s.sys.metOption = 0)) ∧
    (∃ r : Rec, ∃ l : Nat, ∃ a : Nat, ∃ b : Nat, (lastSwitch r l = some (a, b))) ∧
    (∃ s : State, (0 ≤ s.offsetMs)) :=
  ⟨⟨{}, 0xFFFF, by decide⟩,
   ⟨{}, 263, by decide⟩,
   ⟨{ backlog := 1 }, by decide⟩,
   ⟨0, 1, by decide⟩,
   ⟨{}, 0, by decide⟩,
   ⟨{ sys := { metOption := 0 } }, by decide⟩,
   ⟨recOf 256 [(0, 1, 15), (1, 1, 1), (5, 1, 60), (16, 4, 7), (64, 2, 1439), (66, 1, 127), (67, 1, 7)], 9 * 86400000, 8 * 86400000 + 1439 * 60000, 7, by decide⟩,
   ⟨{}, by decide⟩⟩

/-- Operands and states that meet the hypotheses of GaugeCounting. -/
theorem test_witness_GaugeCounting :
    (∃ dq : Nat, (1 ≤ dq)) ∧
    (∃ x : GStr, (x.q ≤ x.qL)) ∧
    (∃ x : GStr, (x.pairOpen = false)) ∧
    (∃ x : GStr, (x.pairOpen = true) ∧ (strCapAh x.cfg * mAsPerAh * 50 / 100 ≤ x.qL) ∧ (x.qL ≤ strCapAh x.cfg * mAsPerAh * 110 / 100) ∧ (0 < x.d)) ∧
    (∃ x : GStr, (x.pairOpen = true) ∧ (strCapAh x.cfg * mAsPerAh * 50 / 100 ≤ x.qL) ∧ (x.qL ≤ strCapAh x.cfg * mAsPerAh * 110 / 100) ∧ (x.d = 0)) ∧
    (∃ s : State, ((∀ e ∈ s.gau.strings, e.2.state ≠ 2 ∨ s.holds (strCabinet e.2.cfg) = false ∨ (s.node (strCabinet e.2.cfg)).state = 4))) :=
  ⟨⟨1, by decide⟩,
   ⟨{ cfg := recOf 32 [(1, 1, 1), (14, 2, 100)], q := 9, qL := 9 }, by decide⟩,
   ⟨{ cfg := recOf 32 [(1, 1, 1), (14, 2, 100)] }, by decide⟩,
   ⟨{ cfg := recOf 32 [(1, 1, 1), (14, 2, 100)], pairOpen := true, qL := 180000000, d := 1 }, by decide⟩,
   ⟨{ cfg := recOf 32 [(1, 1, 1), (14, 2, 100)], pairOpen := true, qL := 396000000 }, by decide⟩,
   ⟨{ gau := { strings := [(31, { cfg := recOf 32 [(1, 1, 1), (14, 2, 100)], state := 2 })] } }, by decide⟩⟩

/-- Operands and states that meet the hypotheses of GaugeRows. -/
theorem test_witness_GaugeRows :
    (∃ s : State, ∃ q : Nat, ∃ tag : Nat, ∃ c : InFlight, ∃ r, (Starts 0x0C00 q tag s c) ∧ (c.record 32 = some r) ∧ (c.desc.object ≤ 31) ∧ (allZero r = true ∨ s.strRecOk c.desc.object r = true)) ∧
    (∃ s : State, ∃ q : Nat, ∃ tag : Nat, ∃ c : InFlight, ∃ r, (Starts 0x0C00 q tag s c) ∧ (c.record 32 = some r) ∧ (allZero r = false) ∧ (s.strRecOk c.desc.object r = false)) ∧
    (∃ s : State, ∃ q : Nat, ∃ tag : Nat, ∃ c : InFlight, ∃ t : State, (Starts 0x0C01 q tag s c) ∧ (1 ≤ c.desc.u 33 1) ∧ (32 * c.desc.u 33 1 ≤ c.desc.dataLen) ∧ (c.desc.u 32 1 + c.desc.u 33 1 ≤ 32) ∧ (t = (s.start c.uid).gauWake)) ∧
    (∃ s : State, ∃ q : Nat, ∃ tag : Nat, ∃ c : InFlight, ∃ x, (Starts 0x0C02 q tag s c) ∧ (s.gstr c.desc.object = some x) ∧ (5 * strCapAh x.cfg ≤ c.desc.u 32 4) ∧ (c.desc.u 32 4 ≤ 11 * strCapAh x.cfg)) ∧
    (∃ s : State, ∃ q : Nat, ∃ tag : Nat, ∃ c : InFlight, ∃ x, (Starts 0x0C02 q tag s c) ∧ (s.gstr c.desc.object = some x) ∧ (c.desc.u 32 4 < 5 * strCapAh x.cfg ∨ 11 * strCapAh x.cfg < c.desc.u 32 4)) ∧
    (∃ s : State, (s.gau.hibernating = false)) ∧
    (∃ s : State, (s.gauAwake = false)) ∧
    (∃ s : State, (s.gauAwake = false)) ∧
    (∃ s : State, (s.gauAwake = false)) ∧
    (∃ s : State, ∃ i : Nat, ∃ k : Nat, ∃ v : Int, ∃ x : GStr, (s.gauAwake = true) ∧ (s.strOfShunt i = some (k, x)) ∧ (s.gstr k = some x) ∧ (x.q ≠ 0) ∧ (x.q ≤ x.qL) ∧ (x.deficit = false) ∧ ((10 * v) % (max 1 (strShuntR x.cfg) : Nat) = 0) ∧ ((10 * v / (max 1 (strShuntR x.cfg) : Nat) * ms) % (sec : Int) = 0) ∧ (10 * v / (max 1 (strShuntR x.cfg) : Nat) * ms / sec < x.q) ∧ (wakes x.cfg (10 * v / (max 1 (strShuntR x.cfg) : Nat)) = true)) ∧
    (∃ s : State, ∃ id : Nat, ∃ k : Nat, ∃ l : List Byte, ∃ x : GStr, (s.gauAwake = true) ∧ (s.gau.strings.find? (fun e => strCanId e.2.cfg == id) = some (k, x)) ∧ (s.gstr k = some x) ∧ (l.length ≠ 16 ∨ fld l 14 2 ≠ crc16 (l.take 14) ∨ x.seq = some (fld l 12 1))) ∧
    (∃ s : State, ∃ id : Nat, ∃ k : Nat, ∃ l : List Byte, ∃ x : GStr, (s.gauAwake = true) ∧ (s.gau.strings.find? (fun e => strCanId e.2.cfg == id) = some (k, x)) ∧ (s.gstr k = some x) ∧ (l.length = 16) ∧ (fld l 14 2 = crc16 (l.take 14)) ∧ (x.seq ≠ some (fld l 12 1)) ∧ (strSource x.cfg = 1)) ∧
    (∃ s : State, ∃ k : Nat, ∃ t : Nat, ∃ x : GStr, (s.gauAwake = true) ∧ (s.gstr k = some x) ∧ (x.anchored = false) ∧ (x.fullSince = some t) ∧ (t + s.islN PAR_GAU_FULL_HOLD_S * sec ≤ s.now)) ∧
    (∃ s : State, ∃ k : Nat, ∃ t : Nat, ∃ x : GStr, (s.gauAwake = true) ∧ (s.gstr k = some x) ∧ (x.anchored = false) ∧ (x.fullSince = none) ∧ (x.emptySince = some t) ∧ (t + s.islN PAR_GAU_EMPTY_HOLD_S * sec ≤ s.now) ∧ (x.pairOpen = false)) ∧
    (∃ s : State, ∃ k : Nat, ∃ t : Nat, ∃ x : GStr, (s.gauAwake = true) ∧ (s.gstr k = some x) ∧ (x.frameAt = some t) ∧ (t + s.islN PAR_GAU_FRAME_TIMEOUT_MS * ms ≤ s.now) ∧ (x.state = 2) ∧ (strSource x.cfg = 1)) ∧
    (∃ s : State, ∃ k : Nat, ∃ t : Nat, ∃ x : GStr, (s.gauAwake = true) ∧ (s.gstr k = some x) ∧ (x.frameAt = some t) ∧ (t + s.islN PAR_GAU_FRAME_TIMEOUT_MS * ms ≤ s.now) ∧ (x.state = 2) ∧ (strSource x.cfg = 2)) ∧
    (∃ s : State, (s.gauAwake = true) ∧ (s.gau.journalAt + s.islN PAR_GAU_JOURNAL_S * sec ≤ s.now)) ∧
    (∃ s : State, ∃ t : Nat, (s.gau.reportAt = some t) ∧ (t + 100 * ms ≤ s.now)) ∧
    (∃ s : State, (s.gau.on = true)) ∧
    (∃ s : State, (s.gau.on = true)) ∧
    (∃ s : State, ∃ j : GSlot, (s.gau.on = false) ∧ (s.gau.validSlot = (some j, false)) ∧ (s.gau.strings.wf = true)) ∧
    (∃ s : State, (s.gauAwake = true) ∧ (s.sys.pg = false) ∧ (s.gau.shuntAt + s.islN PAR_GAU_IDLE_S * sec ≤ s.now) ∧ (s.gau.lastFrame + s.islN PAR_GAU_IDLE_S * sec ≤ s.now)) ∧
    (∃ s : State, (s.gau.on = true) ∧ (s.gau.hibernating = true)) ∧
    (∃ ns : Nat, (1000 ≤ ns)) ∧
    (∃ ns : Nat, (ns < 1000)) ∧
    (∃ s : State, ∃ t : State, ∃ k : Nat, ∃ a : Nat, ∃ x : GStr, (s.gauAwake = true) ∧ (s.gstr k = some x) ∧ (x.anchored = false) ∧ (x.fullSince = none) ∧ (x.emptySince = some a) ∧ (a + s.islN PAR_GAU_EMPTY_HOLD_S * sec ≤ s.now) ∧ (x.pairOpen = true) ∧ (t = ((s.updStr k fun x => x.emptyAnchor (s.islN PAR_GAU_LEARN_MAX_PCT)).raise 0x0C 0x0002 k).raise 0x0C 0x0003 k)) ∧
    (∃ s : State, ∃ t : State, ∃ id : Nat, ∃ k : Nat, ∃ a : Nat, ∃ l : List Byte, ∃ x : GStr, (s.gauAwake = true) ∧ (s.gau.strings.find? (fun e => strCanId e.2.cfg == id) = some (k, x)) ∧ (l.length = 16) ∧ (fld l 14 2 = crc16 (l.take 14)) ∧ (x.seq ≠ some (fld l 12 1)) ∧ (strSource x.cfg = 2) ∧ (x.frameAt = some a) ∧ (t = ({ s with gau := { s.gau with lastFrame := s.now } } : State).countStr k (sfld l 0 4) (s.now - a))) ∧
    (∃ s : State, (s.gau.on = true) ∧ (s.gau.hibernating = true)) :=
  ⟨⟨waits {} (desc 0x0C00 31 [] (recOf 32 [])), 0, 1, cmd (desc 0x0C00 31 [] (recOf 32 [])), recOf 32 [], by decide⟩,
   ⟨waits {} (desc 0x0C00 32 [] (recOf 32 [(0, 1, 1)])), 0, 1, cmd (desc 0x0C00 32 [] (recOf 32 [(0, 1, 1)])), recOf 32 [(0, 1, 1)], by decide⟩,
   ⟨waits {} (desc 0x0C01 0 [(32, 1, 31), (33, 1, 1), (12, 4, 32)] []), 0, 1, cmd (desc 0x0C01 0 [(32, 1, 31), (33, 1, 1), (12, 4, 32)] []), ((waits {} (desc 0x0C01 0 [(32, 1, 31), (33, 1, 1), (12, 4, 32)] [])).start 7).gauWake, by decide, by decide, by decide, by decide, rfl⟩,
   ⟨waits { gau := { strings := [(31, { cfg := recOf 32 [(1, 1, 1), (14, 2, 100)], state := 2 })] } } (desc 0x0C02 31 [(32, 4, 1100)] []), 0, 1, cmd (desc 0x0C02 31 [(32, 4, 1100)] []), { cfg := recOf 32 [(1, 1, 1), (14, 2, 100)], state := 2 }, by decide⟩,
   ⟨waits { gau := { strings := [(31, { cfg := recOf 32 [(1, 1, 1), (14, 2, 100)], state := 2 })] } } (desc 0x0C02 31 [(32, 4, 1101)] []), 0, 1, cmd (desc 0x0C02 31 [(32, 4, 1101)] []), { cfg := recOf 32 [(1, 1, 1), (14, 2, 100)], state := 2 }, by decide⟩,
   ⟨{}, by decide⟩,
   ⟨{ gau := { on := false } }, by decide⟩,
   ⟨{ gau := { on := false } }, by decide⟩,
   ⟨{ gau := { on := false } }, by decide⟩,
   ⟨{ gau := { strings := [(31, { cfg := recOf 32 [(1, 1, 1), (2, 1, 7), (10, 2, 10)], q := 2, qL := 2 })] } }, 7, 31, 1000, { cfg := recOf 32 [(1, 1, 1), (2, 1, 7), (10, 2, 10)], q := 2, qL := 2 }, by decide⟩,
   ⟨{ gau := { strings := [(31, { cfg := recOf 32 [(1, 1, 1), (4, 4, 0x1FFFFFFF)], seq := some 4 })] } }, 0x1FFFFFFF, 31, (recOf 14 [(12, 1, 4)] ++ leBytes 2 (crc16 (recOf 14 [(12, 1, 4)]))), { cfg := recOf 32 [(1, 1, 1), (4, 4, 0x1FFFFFFF)], seq := some 4 }, by decide⟩,
   ⟨{ gau := { strings := [(31, { cfg := recOf 32 [(1, 1, 1), (4, 4, 0x1FFFFFFF)], seq := some 4 })] } }, 0x1FFFFFFF, 31, (recOf 14 [(12, 1, 5)] ++ leBytes 2 (crc16 (recOf 14 [(12, 1, 5)]))), { cfg := recOf 32 [(1, 1, 1), (4, 4, 0x1FFFFFFF)], seq := some 4 }, by decide⟩,
   ⟨{ now := hour, gau := { strings := [(31, { cfg := recOf 32 [(1, 1, 1), (14, 2, 100)], fullSince := some 0 })] } }, 31, 0, { cfg := recOf 32 [(1, 1, 1), (14, 2, 100)], fullSince := some 0 }, by decide⟩,
   ⟨{ now := hour, gau := { strings := [(31, { cfg := recOf 32 [(1, 1, 1), (14, 2, 100)], emptySince := some 0 })] } }, 31, 0, { cfg := recOf 32 [(1, 1, 1), (14, 2, 100)], emptySince := some 0 }, by decide⟩,
   ⟨{ now := hour, gau := { strings := [(31, { cfg := recOf 32 [(1, 1, 1), (14, 2, 100)], frameAt := some 0, state := 2 })] } }, 31, 0, { cfg := recOf 32 [(1, 1, 1), (14, 2, 100)], frameAt := some 0, state := 2 }, by decide⟩,
   ⟨{ now := hour, gau := { strings := [(31, { cfg := recOf 32 [(1, 1, 2)], frameAt := some 0, state := 2 })] } }, 31, 0, { cfg := recOf 32 [(1, 1, 2)], frameAt := some 0, state := 2 }, by decide⟩,
   ⟨{ now := 100 * hour }, by decide⟩,
   ⟨{ now := sec, gau := { reportAt := some 0 } }, 0, by decide⟩,
   ⟨{}, by decide⟩,
   ⟨{}, by decide⟩,
   ⟨{ gau := { on := false, jB := (GSlot.closed { magic := gaugeMagic, seq := 3, reason := 0 }) } }, (GSlot.closed { magic := gaugeMagic, seq := 3, reason := 0 }), rfl, Gau.validSlot_of _ _ rfl rfl rfl, rfl⟩,
   ⟨{ now := 100 * hour, sys := { pg := false } }, by decide⟩,
   ⟨{ gau := { hibernating := true } }, by decide⟩,
   ⟨1000, by decide⟩,
   ⟨999, by decide⟩,
   ⟨{ now := hour, gau := { strings := [(31, { cfg := recOf 32 [(1, 1, 1), (14, 2, 100)], emptySince := some 0, pairOpen := true })] } }, ((({ now := hour, gau := { strings := [(31, { cfg := recOf 32 [(1, 1, 1), (14, 2, 100)], emptySince := some 0, pairOpen := true })] } } : State).updStr 31 fun x => x.emptyAnchor (({ now := hour, gau := { strings := [(31, { cfg := recOf 32 [(1, 1, 1), (14, 2, 100)], emptySince := some 0, pairOpen := true })] } } : State).islN PAR_GAU_LEARN_MAX_PCT)).raise 0x0C 0x0002 31).raise 0x0C 0x0003 31, 31, 0, { cfg := recOf 32 [(1, 1, 1), (14, 2, 100)], emptySince := some 0, pairOpen := true }, rfl, by decide, by decide, rfl, rfl, by decide, rfl, rfl⟩,
   ⟨{ gau := { strings := [(31, { cfg := recOf 32 [(1, 1, 2), (4, 4, 0x1FFFFFFF)], seq := some 4, frameAt := some 0 })] } }, ({ ({ gau := { strings := [(31, { cfg := recOf 32 [(1, 1, 2), (4, 4, 0x1FFFFFFF)], seq := some 4, frameAt := some 0 })] } } : State) with gau := { ({ gau := { strings := [(31, { cfg := recOf 32 [(1, 1, 2), (4, 4, 0x1FFFFFFF)], seq := some 4, frameAt := some 0 })] } } : State).gau with lastFrame := ({ gau := { strings := [(31, { cfg := recOf 32 [(1, 1, 2), (4, 4, 0x1FFFFFFF)], seq := some 4, frameAt := some 0 })] } } : State).now } } : State).countStr 31 (sfld (recOf 14 [(12, 1, 5)] ++ leBytes 2 (crc16 (recOf 14 [(12, 1, 5)]))) 0 4) (({ gau := { strings := [(31, { cfg := recOf 32 [(1, 1, 2), (4, 4, 0x1FFFFFFF)], seq := some 4, frameAt := some 0 })] } } : State).now - 0), 0x1FFFFFFF, 31, 0, (recOf 14 [(12, 1, 5)] ++ leBytes 2 (crc16 (recOf 14 [(12, 1, 5)]))), { cfg := recOf 32 [(1, 1, 2), (4, 4, 0x1FFFFFFF)], seq := some 4, frameAt := some 0 }, by decide, by decide, by decide, by decide, by decide, by decide, rfl, rfl⟩,
   ⟨{ gau := { hibernating := true } }, by decide⟩⟩

/-- Operands and states that meet the hypotheses of PointCommands. -/
theorem test_witness_PointCommands :
    (∃ s : State, ∃ q : Nat, ∃ tag : Nat, ∃ c : InFlight, (Starts 0x0D00 q tag s c) ∧ (1 ≤ c.desc.u 36 2) ∧ (c.desc.u 36 2 ≤ 64) ∧ (32 * c.desc.u 36 2 ≤ c.desc.dataLen) ∧ (c.desc.u 32 4 + c.desc.u 36 2 ≤ PT_END)) ∧
    (∃ s : State, ∃ q : Nat, ∃ tag : Nat, ∃ c : InFlight, (Starts 0x0D01 q tag s c) ∧ (1 ≤ c.desc.u 36 4) ∧ (c.desc.u 32 4 + c.desc.u 36 4 ≤ PT_END) ∧ (32 ≤ c.desc.dataLen) ∧ (c.desc.u 40 1 ≤ 1)) ∧
    (∃ s : State, ∃ q : Nat, ∃ tag : Nat, ∃ c : InFlight, ∃ r, (Starts 0x0D02 q tag s c) ∧ (c.record 16 = some r) ∧ (s.overrideOk r = true) ∧ (fld r 7 1 = 0)) ∧
    (∃ s : State, ∃ q : Nat, ∃ tag : Nat, ∃ c : InFlight, ∃ r, (Starts 0x0D02 q tag s c) ∧ (c.record 16 = some r) ∧ (s.overrideOk r = true) ∧ (fld r 7 1 ≠ 0) ∧ ((s.pt.overrides.get? (fld r 0 4)).isSome = true ∨ s.pt.overrides.length < 8192)) ∧
    (∃ s : State, ∃ q : Nat, ∃ tag : Nat, ∃ c : InFlight, ∃ r, (Starts 0x0D02 q tag s c) ∧ (c.record 16 = some r) ∧ (s.overrideOk r = true) ∧ (fld r 7 1 ≠ 0) ∧ (s.pt.overrides.get? (fld r 0 4) = none) ∧ (8192 ≤ s.pt.overrides.length)) ∧
    (∃ s : State, ∃ q : Nat, ∃ tag : Nat, ∃ c : InFlight, (Starts 0x0D03 q tag s c) ∧ (c.desc.object ≤ 511)) ∧
    (∃ s : State, ∃ q : Nat, ∃ tag : Nat, ∃ c : InFlight, (Starts 0x0D03 q tag s c) ∧ (511 < c.desc.object)) ∧
    (∃ s : State, ∃ q : Nat, ∃ tag : Nat, ∃ c : InFlight, (Starts 0x0D04 q tag s c) ∧ (c.desc.object ≤ 15) ∧ (c.desc.u 36 4 ≤ 4194304) ∧ (c.desc.u 32 4 + c.desc.u 36 4 ≤ PT_END) ∧ (c.desc.u 36 4 = 0)) ∧
    (∃ s : State, ∃ q : Nat, ∃ tag : Nat, ∃ c : InFlight, (Starts 0x0D04 q tag s c) ∧ (c.desc.object ≤ 15) ∧ (c.desc.u 36 4 ≤ 4194304) ∧ (c.desc.u 32 4 + c.desc.u 36 4 ≤ PT_END) ∧ (1 ≤ c.desc.u 36 4) ∧ (4194304 < ((s.pt.subs.del (16 * c.entry + c.desc.object)).vals.map PtSub.count).sum + c.desc.u 36 4)) ∧
    (∃ s : State, ∃ q : Nat, ∃ tag : Nat, ∃ c : InFlight, (Starts 0x0D04 q tag s c) ∧ (c.desc.object ≤ 15) ∧ (c.desc.u 36 4 ≤ 4194304) ∧ (c.desc.u 32 4 + c.desc.u 36 4 ≤ PT_END) ∧ (1 ≤ c.desc.u 36 4) ∧ (((s.pt.subs.del (16 * c.entry + c.desc.object)).vals.map PtSub.count).sum + c.desc.u 36 4 ≤ 4194304)) ∧
    (∃ s : State, ∃ q : Nat, ∃ tag : Nat, ∃ c : InFlight, ∃ x, (Starts 0x0D05 q tag s c) ∧ (c.desc.object ≤ 15) ∧ (c.desc.u 32 2 ≤ 60000) ∧ (s.pt.subs.get? (16 * c.entry + c.desc.object) = some x) ∧ ((∀ d ∈ (s.start c.uid).mbx.inflight, isFetchOf c.entry c.desc.object d = true → d.uid = c.uid)) ∧ (x.bits ≠ [] ∨ c.desc.u 32 2 = 0)) ∧
    (∃ s : State, ∃ q : Nat, ∃ tag : Nat, ∃ c : InFlight, ∃ x, (Starts 0x0D05 q tag s c) ∧ (c.desc.object ≤ 15) ∧ (c.desc.u 32 2 ≤ 60000) ∧ (s.pt.subs.get? (16 * c.entry + c.desc.object) = some x) ∧ ((∀ d ∈ (s.start c.uid).mbx.inflight, isFetchOf c.entry c.desc.object d = true → d.uid = c.uid)) ∧ (x.bits = []) ∧ (1 ≤ c.desc.u 32 2)) ∧
    (∃ s : State, ∃ q : Nat, ∃ tag : Nat, ∃ c : InFlight, (s.mbx.inflight.find? (fun c => c.q == q && c.desc.tag == tag && c.desc.opcode == 0x0D05 && c.phase == .running) = some c) ∧ (c.deadline ≤ s.now)) ∧
    (∃ s : State, ∃ q : Nat, ∃ tag : Nat, ∃ c : InFlight, (Starts 0x0D06 q tag s c)) ∧
    (∃ k, (PT_HOST ≤ k) ∧ (k < PT_END)) :=
  ⟨⟨waits {} (desc 0x0D00 0 [(32, 4, 0x1FFFFFF), (36, 2, 1), (12, 4, 32)] []), 0, 1, cmd (desc 0x0D00 0 [(32, 4, 0x1FFFFFF), (36, 2, 1), (12, 4, 32)] []), by decide⟩,
   ⟨waits {} (desc 0x0D01 0 [(32, 4, 0x1FFFFFF), (36, 4, 1), (40, 1, 1), (12, 4, 32)] []), 0, 1, cmd (desc 0x0D01 0 [(32, 4, 0x1FFFFFF), (36, 4, 1), (40, 1, 1), (12, 4, 32)] []), by decide⟩,
   ⟨waits {} (desc 0x0D02 0 [] (recOf 16 [(0, 4, 512), (4, 2, 512), (7, 1, 0)])), 0, 1, cmd (desc 0x0D02 0 [] (recOf 16 [(0, 4, 512), (4, 2, 512), (7, 1, 0)])), recOf 16 [(0, 4, 512), (4, 2, 512), (7, 1, 0)], by decide⟩,
   ⟨waits {} (desc 0x0D02 0 [] (recOf 16 [(0, 4, 512), (4, 2, 512), (7, 1, 2)])), 0, 1, cmd (desc 0x0D02 0 [] (recOf 16 [(0, 4, 512), (4, 2, 512), (7, 1, 2)])), recOf 16 [(0, 4, 512), (4, 2, 512), (7, 1, 2)], by decide⟩,
   ⟨waits { pt := { overrides := List.replicate 8192 (0, []) } } (desc 0x0D02 0 [] (recOf 16 [(0, 4, 512), (4, 2, 512), (7, 1, 2)])), 0, 1, cmd (desc 0x0D02 0 [] (recOf 16 [(0, 4, 512), (4, 2, 512), (7, 1, 2)])), recOf 16 [(0, 4, 512), (4, 2, 512), (7, 1, 2)], by decide, by decide, full_overrideOk _, by decide, get?_replicate_zero _ _ (by decide), by rw [waits]; exact Nat.le_of_eq (List.length_replicate ..).symm⟩,
   ⟨waits {} (desc 0x0D03 511 [] []), 0, 1, cmd (desc 0x0D03 511 [] []), by decide⟩,
   ⟨waits {} (desc 0x0D03 512 [] []), 0, 1, cmd (desc 0x0D03 512 [] []), by decide⟩,
   ⟨waits {} (desc 0x0D04 15 [] []), 0, 1, cmd (desc 0x0D04 15 [] []), by decide⟩,
   ⟨waits { pt := { subs := [(0, { first := 0, count := 4194304 })] } } (desc 0x0D04 15 [(36, 4, 1)] []), 0, 1, cmd (desc 0x0D04 15 [(36, 4, 1)] []), by decide⟩,
   ⟨waits { pt := { subs := [(0, { first := 0, count := 4194303 })] } } (desc 0x0D04 15 [(36, 4, 1)] []), 0, 1, cmd (desc 0x0D04 15 [(36, 4, 1)] []), by decide⟩,
   ⟨waits { pt := { subs := [(15, { first := 0, count := 9, bits := [(3, ())] })] } } (desc 0x0D05 15 [(32, 2, 60000)] []), 0, 1, cmd (desc 0x0D05 15 [(32, 2, 60000)] []), { first := 0, count := 9, bits := [(3, ())] }, by decide⟩,
   ⟨waits { pt := { subs := [(15, { first := 0, count := 9 })] } } (desc 0x0D05 15 [(32, 2, 60000)] []), 0, 1, cmd (desc 0x0D05 15 [(32, 2, 60000)] []), { first := 0, count := 9 }, by decide⟩,
   ⟨{ now := 5, mbx := { inflight := [{ uid := 7, q := 0, entry := 0, desc := desc 0x0D05 15 [] [], phase := .running, deadline := 5 }] } }, 0, 1, { uid := 7, q := 0, entry := 0, desc := desc 0x0D05 15 [] [], phase := .running, deadline := 5 }, by decide⟩,
   ⟨waits {} (desc 0x0D06 0 [] []), 0, 1, cmd (desc 0x0D06 0 [] []), by decide⟩,
   ⟨PT_END - 1, by decide⟩⟩

/-- Operands and states that meet the hypotheses of PointUpdates. -/
theorem test_witness_PointUpdates :
    (∃ s : State, ∃ n : Nat, (s.ptAccepts n = false)) ∧
    (∃ s : State, ∃ n : Nat, ∃ l : List CatRecord, (s.ptAccepts n = true) ∧ (catalogueOk l = false)) ∧
    (∃ s : State, ∃ n : Nat, ∃ l : List CatRecord, (s.ptAccepts n = true) ∧ (catalogueOk l = true)) ∧
    (∃ a, (512 ≤ a)) ∧
    (∃ a, (a < 512)) ∧
    (∃ s : State, ∃ n : Nat, (s.ptAccepts n = true)) ∧
    (∃ s : State, ∃ n : Nat, (s.ptAccepts n = false)) ∧
    (∃ s : State, ∃ u : Nat × PointRecord × Nat, ∃ p : Point, (s.pt.points.get? u.1 = some p)) ∧
    (∃ s : State, ∃ u : Nat × PointRecord × Nat, (s.pt.points.get? u.1 = none)) ∧
    (∃ s : State, ∃ k : Nat, ∃ x : PtSub, ∃ j : Nat, (s.pt.subs.get? j = some x) ∧ (x.first ≤ k) ∧ (k < x.first + x.count)) ∧
    (∃ s : State, (s.pt.points = []) ∧ (s.pt.discarded = 0) ∧ (s.mbx.inflight = [])) ∧
    (∃ s : State, (s.pt.points = []) ∧ (0 < s.pt.discarded)) :=
  ⟨⟨{}, 0, by decide⟩,
   ⟨{ pair := { role := ROLE_ACTIVE }, ring := { nodes := [(0xFFFE, { state := 1 })] } }, 0xFFFE, [{ index := 512, type := 9, unit := 0x12, scale := 0, cls := 0, deadband := 0 }], by decide⟩,
   ⟨{ pair := { role := ROLE_ACTIVE }, ring := { nodes := [(0xFFFE, { state := 1 })] } }, 0xFFFE, [{ index := 511, type := 9, unit := 0x12, scale := 0, cls := 0, deadband := 0 }], by decide⟩,
   ⟨512, by decide⟩,
   ⟨511, by decide⟩,
   ⟨{ pair := { role := ROLE_ACTIVE }, ring := { nodes := [(0xFFFE, { state := 1 })] } }, 0xFFFE, by decide⟩,
   ⟨{}, 0, by decide⟩,
   ⟨{ pt := { points := [(512, {})] } }, (512, { index := 0, bad := true, offsetNs := 0, value := 5 }, 9), {}, by decide⟩,
   ⟨{}, (512, { index := 0, bad := true, offsetNs := 0, value := 5 }, 9), by decide⟩,
   ⟨{ pt := { subs := [(15, { first := 0, count := 9, bits := [(3, ())] })] } }, 8, { first := 0, count := 9, bits := [(3, ())] }, 15, by decide⟩,
   ⟨{}, by decide⟩,
   ⟨{ pt := { discarded := 1 } }, by decide⟩⟩

/-- Operands and states that meet the hypotheses of BusbarMaps. -/
theorem test_witness_BusbarMaps :
    (∃ s : State, ∃ q : Nat, ∃ tag : Nat, ∃ c : InFlight, (Starts 0x0E00 q tag s c) ∧ (1 ≤ c.desc.u 34 2) ∧ (c.desc.u 34 2 ≤ 128) ∧ (32 * c.desc.u 34 2 ≤ c.desc.dataLen)) ∧
    (∃ s : State, ∃ q : Nat, ∃ tag : Nat, ∃ c : InFlight, ∃ m, (Starts 0x0E01 q tag s c) ∧ ((c.desc.u 32 1 = 0 ∧ (s.plcNode c.desc.object).dn = some m) ∨ (c.desc.u 32 1 = 1 ∧ (s.plcNode c.desc.object).up = some m))) ∧
    (∃ s : State, ∃ q : Nat, ∃ tag : Nat, ∃ c : InFlight, (Starts 0x0E01 q tag s c) ∧ (c.desc.u 32 1 = 0) ∧ ((s.plcNode c.desc.object).dn = none)) ∧
    (∃ s : State, ∃ q : Nat, ∃ tag : Nat, ∃ c : InFlight, ∃ t : State, (Starts 0x0E02 q tag s c) ∧ ((s.plcNode c.desc.object).joined = true) ∧ (t = (s.start c.uid).refreshNow c.desc.object)) ∧
    (∃ s : State, ∃ q : Nat, ∃ tag : Nat, ∃ c : InFlight, (Starts 0x0E02 q tag s c) ∧ ((s.plcNode c.desc.object).joined = false)) ∧
    (∃ s : State, ∃ q : Nat, ∃ tag : Nat, ∃ c : InFlight, ∃ r, (Starts 0x0E03 q tag s c) ∧ (c.record 136 = some r) ∧ (c.desc.object = 0) ∧ (leNat r < 2 ^ 1074) ∧ (300 ≤ unmaskedOf (BitVec.ofNat 1088 (leNat r)))) ∧
    (∃ s : State, ∃ q : Nat, ∃ tag : Nat, ∃ c : InFlight, ∃ r, (Starts 0x0E03 q tag s c) ∧ (c.record 136 = some r) ∧ (unmaskedOf (BitVec.ofNat 1088 (leNat r)) < 300)) ∧
    (∃ rate : Nat, ∃ m : Int, ∃ v : Int, (modFor rate m v ≠ 0)) ∧
    (∃ rate : Nat, ∃ m : Int, ∃ v : Int, ∃ k, (modFor rate m v < k) ∧ (k ≤ 6)) ∧
    (∃ s : State, ∃ k, (k < CARRIERS) ∧ (s.masked k = true)) ∧
    (∃ s : State, ∃ m : BitVec 1088, ∃ e, (e ∈ s.applyMask.plc.nodes) ∧ (s.plc.maskNext = some m)) :=
  ⟨⟨waits {} (desc 0x0E00 0 [(34, 2, 128), (12, 4, 4096)] []), 0, 1, cmd (desc 0x0E00 0 [(34, 2, 128), (12, 4, 4096)] []), by decide⟩,
   ⟨waits { plc := { nodes := [(7, { up := some {} })] } } (desc 0x0E01 7 [(32, 1, 1)] []), 0, 1, cmd (desc 0x0E01 7 [(32, 1, 1)] []), {}, by decide⟩,
   ⟨waits {} (desc 0x0E01 7 [] []), 0, 1, cmd (desc 0x0E01 7 [] []), by decide⟩,
   ⟨waits { plc := { nodes := [(7, { joined := true })] } } (desc 0x0E02 7 [] []), 0, 1, cmd (desc 0x0E02 7 [] []), ((waits { plc := { nodes := [(7, { joined := true })] } } (desc 0x0E02 7 [] [])).start 7).refreshNow 7, by decide, by decide, rfl⟩,
   ⟨waits {} (desc 0x0E02 7 [] []), 0, 1, cmd (desc 0x0E02 7 [] []), by decide⟩,
   ⟨waits {} (desc 0x0E03 0 [] (recOf 136 [])), 0, 1, cmd (desc 0x0E03 0 [] (recOf 136 [])), recOf 136 [], by decide⟩,
   ⟨waits {} (desc 0x0E03 0 [] (List.replicate 136 255)), 0, 1, cmd (desc 0x0E03 0 [] (List.replicate 136 255)), List.replicate 136 255, by decide⟩,
   ⟨0, 0, 10000, by decide⟩,
   ⟨0, 0, -10000, 6, by decide⟩,
   ⟨{ plc := { mask := 1 } }, 0, by decide⟩,
   ⟨{ plc := { maskNext := some 1, nodes := [(7, {})] } }, 1, (State.applyMask { plc := { maskNext := some 1, nodes := [(7, {})] } }).plc.nodes.head (by decide), by decide⟩⟩

/-- Operands and states that meet the hypotheses of BusbarEvents. -/
theorem test_witness_BusbarEvents :
    (∃ s : State, (s.plc.master = false ∨ s.now < s.plc.nextAt)) ∧
    (∃ s : State, (s.plc.master = true) ∧ (s.plc.nextAt ≤ s.now) ∧ (s.isActive = false) ∧ (s.plc.led = true)) ∧
    (∃ s : State, (s.plc.master = true) ∧ (s.plc.nextAt ≤ s.now) ∧ (s.isActive = true) ∧ (s.plc.nodes = []) ∧ (s.plc.waits = []) ∧ (s.plc.maskNext = none) ∧ (s.plc.second = s.now / sec) ∧ (s.plc.epoch = 0 ∨ s.plc.epoch = s.ring.epoch)) ∧
    (∃ s : State, (s.plc.master = true) ∧ (s.plc.nextAt ≤ s.now) ∧ (s.isActive = true) ∧ (s.plc.nodes = []) ∧ (s.plc.waits = []) ∧ (s.plc.maskNext = none) ∧ (s.plc.second = s.now / sec) ∧ (s.plc.epoch ≠ 0) ∧ (s.plc.epoch ≠ s.ring.epoch)) ∧
    (∃ s : State, ∃ a : PollAnswer, (s.plc.master = false ∨ ((s.plcNode a.node).slot ≠ 1 ∧ (s.plcNode a.node).slot ≠ 3))) ∧
    (∃ s : State, ∃ t : State, ∃ a : PollAnswer, (s.plc.master = true) ∧ ((s.plcNode a.node).slot = 1) ∧ ((s.plcNode a.node).joined = true) ∧ ((s.plcNode a.node).mapped = false) ∧ (a.lapsed = false) ∧ (s.plc.second = s.now / sec) ∧ (t = (s.updPlc a.node fun y => { y with bulk := a.bulk, slot := 0, exchanges := (y.exchanges + 1) % 2 ^ 32, dn := y.dn.map fun m => m.heard a.dnMargin, up := y.up.map fun m => m.heard a.upMargin }).nodeHeard a.node) ∧ (t.holds a.node = false)) ∧
    (∃ s : State, ∃ t : State, ∃ a : PollAnswer, (s.plc.master = true) ∧ ((s.plcNode a.node).slot = 1) ∧ ((s.plcNode a.node).joined = true) ∧ ((s.plcNode a.node).mapped = false) ∧ (a.lapsed = false) ∧ (s.plc.second = s.now / sec) ∧ (t = (s.updPlc a.node fun y => { y with bulk := a.bulk, slot := 0, exchanges := (y.exchanges + 1) % 2 ^ 32, dn := y.dn.map fun m => m.heard a.dnMargin, up := y.up.map fun m => m.heard a.upMargin }).nodeHeard a.node) ∧ (t.holds a.node = true)) ∧
    (∃ s : State, ∃ n : Nat, (s.plc.master = true) ∧ (s.plc.second = s.now / sec) ∧ ((s.plcNode n).slot = 3)) ∧
    (∃ s : State, ∃ n : Nat, (s.plc.master = true) ∧ (s.plc.second = s.now / sec) ∧ ((s.plcNode n).slot = 1) ∧ ((s.plcNode n).mapped = false) ∧ (s.plc.used < s.pn PAR_PLC_RETRY_RESERVE)) ∧
    (∃ s : State, ∃ n : Nat, (s.plc.master = true) ∧ (s.plc.second = s.now / sec) ∧ ((s.plcNode n).slot = 2)) ∧
    (∃ s : State, ∃ n : Nat, ((s.plcNode n).joined = true) ∧ (s.plc.master = true) ∧ ((s.plcNode n).refresh = 0) ∧ ((s.plcNode n).refreshAt + s.pn PAR_PLC_TMAP_S * sec ≤ s.now)) ∧
    (∃ s : State, ∃ x : TmapStep, ((s.plcNode x.node).joined = true) ∧ (s.plc.master = true) ∧ ((s.plcNode x.node).refresh = 1) ∧ (x.ok = false)) ∧
    (∃ s : State, ∃ x : TmapStep, ((s.plcNode x.node).joined = true) ∧ (s.plc.master = true) ∧ ((s.plcNode x.node).refresh = 1) ∧ (x.ok = true)) ∧
    (∃ s : State, ∃ x : TmapStep, ((s.plcNode x.node).joined = true) ∧ (s.plc.master = true) ∧ ((s.plcNode x.node).refresh = 2)) ∧
    (∃ s : State, ∃ x : TmapStep, ((s.plcNode x.node).joined = true) ∧ (s.plc.master = true) ∧ ((s.plcNode x.node).refresh = 3)) ∧
    (∃ s : State, (s.plc.master = true) ∧ (s.plc.discovery = true)) ∧
    (∃ s : State, (s.plc.master = false ∨ s.plc.discovery = false)) ∧
    (∃ s : State, (s.isActive = true ∨ s.pair.role = ROLE_STANDBY) ∧ (s.plc.master = false) ∧ ((∀ t, s.plc.heardAt = some t → t + 3 * s.pms PAR_PLC_CYCLE_MS ≤ s.now))) ∧
    (∃ s : State, ((s.isActive = false ∧ s.pair.role ≠ ROLE_STANDBY) ∨ s.plc.master = true)) ∧
    (∃ s : State, (s.plc.master = true) ∧ (s.plc.nextAt ≤ s.now) ∧ (s.isActive = true ∨ (s.plc.led = false ∧ s.pair.role = ROLE_STANDBY))) ∧
    (∃ s : State, ∃ n : Nat, (s.bulkNodes = [n]) ∧ (0 < s.bulkRoom)) ∧
    (∃ s : State, (s.bulkNodes = [] ∨ s.bulkRoom = 0)) ∧
    (∃ s : State, ∃ a : PollAnswer, (s.plc.master = true) ∧ ((s.plcNode a.node).slot = 1 ∨ (s.plcNode a.node).slot = 3) ∧ ((s.plcSecond.pollAnswered a).holds a.node = false)) ∧
    (∃ s : State, ∃ a : PollAnswer, (s.plc.master = true) ∧ ((s.plcNode a.node).slot = 1 ∨ (s.plcNode a.node).slot = 3) ∧ ((s.plcSecond.pollAnswered a).holds a.node = true)) ∧
    (∃ s : State, ∃ t : State, ∃ n : Nat, (s.plc.master = true) ∧ ((s.plcNode n).slot = 2) ∧ (t = s.plcSecond.updPlc n (fun y => { y with slot := 3 }))) :=
  ⟨⟨{}, by decide⟩,
   ⟨{ plc := { master := true, led := true } }, by decide⟩,
   ⟨{ pair := { role := ROLE_ACTIVE }, plc := { master := true } }, by decide⟩,
   ⟨{ pair := { role := ROLE_ACTIVE }, ring := { epoch := 6 }, plc := { master := true, epoch := 5 } }, by decide⟩,
   ⟨{}, { node := 7, lapsed := false, epoch := 0, fixDn := 0, fixUp := 0, dnMargin := none, upMargin := none, words := [] }, by decide⟩,
   ⟨{ plc := { master := true, nodes := [(7, { joined := true, slot := 1 })] } }, (State.updPlc { plc := { master := true, nodes := [(7, { joined := true, slot := 1 })] } } 7 fun y => { y with bulk := false, slot := 0, exchanges := (y.exchanges + 1) % 2 ^ 32, dn := y.dn.map fun m => m.heard none, up := y.up.map fun m => m.heard none }).nodeHeard 7, { node := 7, lapsed := false, epoch := 0, fixDn := 0, fixUp := 0, dnMargin := none, upMargin := none, words := [] }, by decide, by decide, by decide, by decide, by decide, by decide, rfl, by decide⟩,
   ⟨{ ring := { nodes := [(7, { leased := true })] }, plc := { master := true, nodes := [(7, { joined := true, slot := 1 })] } }, (State.updPlc { ring := { nodes := [(7, { leased := true })] }, plc := { master := true, nodes := [(7, { joined := true, slot := 1 })] } } 7 fun y => { y with bulk := false, slot := 0, exchanges := (y.exchanges + 1) % 2 ^ 32, dn := y.dn.map fun m => m.heard none, up := y.up.map fun m => m.heard none }).nodeHeard 7, { node := 7, lapsed := false, epoch := 0, fixDn := 0, fixUp := 0, dnMargin := none, upMargin := none, words := [] }, by decide, by decide, by decide, by decide, by decide, by decide, rfl, by decide⟩,
   ⟨{ plc := { master := true, nodes := [(7, { slot := 3 })] } }, 7, by decide⟩,
   ⟨{ plc := { master := true, nodes := [(7, { slot := 1 })] } }, 7, by decide⟩,
   ⟨{ plc := { master := true, nodes := [(7, { slot := 2 })] } }, 7, by decide⟩,
   ⟨{ now := 1000 * hour, plc := { master := true, nodes := [(7, { joined := true })] } }, 7, by decide⟩,
   ⟨{ plc := { master := true, nodes := [(7, { joined := true, refresh := 1 })] } }, { node := 7, ok := false, snrDn := [], snrUp := [] }, by decide⟩,
   ⟨{ plc := { master := true, nodes := [(7, { joined := true, refresh := 1 })] } }, { node := 7, ok := true, snrDn := [], snrUp := [] }, by decide⟩,
   ⟨{ plc := { master := true, nodes := [(7, { joined := true, refresh := 2 })] } }, { node := 7, ok := true, snrDn := [], snrUp := [] }, by decide⟩,
   ⟨{ plc := { master := true, nodes := [(7, { joined := true, refresh := 3 })] } }, { node := 7, ok := true, snrDn := [], snrUp := [] }, by decide⟩,
   ⟨{ plc := { master := true, discovery := true } }, by decide⟩,
   ⟨{}, by decide⟩,
   ⟨{ pair := { role := ROLE_ACTIVE }, now := hour, plc := { heardAt := some 0 } }, by decide, by decide, fun t h => by cases h; decide⟩,
   ⟨{}, by decide⟩,
   ⟨{ pair := { role := ROLE_ACTIVE }, plc := { master := true } }, by decide⟩,
   ⟨{ plc := { master := true, nodes := [(7, { joined := true, bulk := true })] } }, 7, by decide⟩,
   ⟨{}, by decide⟩,
   ⟨{ plc := { master := true, nodes := [(7, { joined := true, slot := 1 })] } }, { node := 7, lapsed := false, epoch := 0, fixDn := 0, fixUp := 0, dnMargin := none, upMargin := none, words := [] }, by decide⟩,
   ⟨{ ring := { nodes := [(7, { leased := true })] }, plc := { master := true, nodes := [(7, { joined := true, slot := 1 })] } }, { node := 7, lapsed := false, epoch := 0, fixDn := 0, fixUp := 0, dnMargin := none, upMargin := none, words := [] }, by decide⟩,
   ⟨{ plc := { master := true, nodes := [(7, { joined := true, slot := 2 })] } }, ({ plc := { master := true, nodes := [(7, { joined := true, slot := 2 })] } } : State).plcSecond.updPlc 7 fun y => { y with slot := 3 }, 7, by decide, by decide, rfl⟩⟩

/-- Operands and states that meet the hypotheses of CanCommands. -/
theorem test_witness_CanCommands :
    (∃ s : State, ∃ q : Nat, ∃ tag : Nat, ∃ c : InFlight, ∃ r, (Starts 0x0F00 q tag s c) ∧ (c.record 512 = some r) ∧ (c.desc.object ≤ 3) ∧ (s.canRecOk r = true) ∧ ((s.canCtl c.desc.object).detect = none) ∧ ((s.canCtl c.desc.object).cmds = [])) ∧
    (∃ s : State, ∃ q : Nat, ∃ tag : Nat, ∃ c : InFlight, ∃ r, (Starts 0x0F00 q tag s c) ∧ (c.record 512 = some r) ∧ (c.desc.object ≤ 3) ∧ (s.canRecOk r = true) ∧ ((s.canCtl c.desc.object).detect.isSome = true)) ∧
    (∃ s : State, ∃ q : Nat, ∃ tag : Nat, ∃ c : InFlight, ∃ n, ∃ l, (Starts 0x0F01 q tag s c) ∧ (c.desc.object ≤ 3) ∧ (100 ≤ c.desc.u 32 4) ∧ (c.desc.u 32 4 ≤ 600000) ∧ (c.desc.u 36 1 ≤ 1) ∧ (usedCands (s.canCtl c.desc.object).cfg = n :: l) ∧ ((∀ k ∈ n :: l, timingOk (canCand (s.canCtl c.desc.object).cfg k) = true)) ∧ ((s.canCtl c.desc.object).detect = none) ∧ ((s.start c.uid).canTx c.desc.object = [])) ∧
    (∃ s : State, ∃ q : Nat, ∃ tag : Nat, ∃ c : InFlight, (Starts 0x0F02 q tag s c) ∧ (c.desc.object ≤ 3) ∧ (1 ≤ c.desc.u 32 1) ∧ (c.desc.u 32 1 ≤ 28) ∧ (c.desc.data.length = 80 * c.desc.u 32 1) ∧ ((∀ f ∈ chunks 80 (c.desc.u 32 1) c.desc.data, frameOk (s.canCtl c.desc.object).cfg f = true)) ∧ (((s.start c.uid).canFree c.desc.object).length < c.desc.u 32 1)) ∧
    (∃ s : State, ∃ q : Nat, ∃ tag : Nat, ∃ c : InFlight, (Starts 0x0F02 q tag s c) ∧ (c.desc.object ≤ 3) ∧ (1 ≤ c.desc.u 32 1) ∧ (c.desc.u 32 1 ≤ 28) ∧ (c.desc.data.length = 80 * c.desc.u 32 1) ∧ ((∀ f ∈ chunks 80 (c.desc.u 32 1) c.desc.data, frameOk (s.canCtl c.desc.object).cfg f = true)) ∧ (c.desc.u 32 1 ≤ ((s.start c.uid).canFree c.desc.object).length) ∧ (s.canModeNow c.desc.object ≠ 1) ∧ (s.canModeNow c.desc.object ≠ 3)) ∧
    (∃ s : State, ∃ q : Nat, ∃ tag : Nat, ∃ c : InFlight, (Starts 0x0F02 q tag s c) ∧ (c.desc.object ≤ 3) ∧ (1 ≤ c.desc.u 32 1) ∧ (c.desc.u 32 1 ≤ 28) ∧ (c.desc.data.length = 80 * c.desc.u 32 1) ∧ ((∀ f ∈ chunks 80 (c.desc.u 32 1) c.desc.data, frameOk (s.canCtl c.desc.object).cfg f = true)) ∧ (c.desc.u 32 1 ≤ ((s.start c.uid).canFree c.desc.object).length) ∧ (s.canModeNow c.desc.object = 1 ∨ s.canModeNow c.desc.object = 3)) ∧
    (∃ s : State, ∃ q : Nat, ∃ tag : Nat, ∃ c : InFlight, (Starts 0x0F03 q tag s c) ∧ (c.desc.object ≤ 3) ∧ (canRxHost (s.canCtl c.desc.object).cfg = c.entry) ∧ (1 ≤ c.desc.u 32 1) ∧ (c.desc.u 32 1 ≤ 64) ∧ (80 * c.desc.u 32 1 ≤ c.desc.dataLen)) ∧
    (∃ s : State, ∃ q : Nat, ∃ tag : Nat, ∃ c : InFlight, (Starts 0x0F03 q tag s c) ∧ (c.desc.object ≤ 3) ∧ (canRxHost (s.canCtl c.desc.object).cfg ≠ c.entry)) ∧
    (∃ s : State, ∃ q : Nat, ∃ tag : Nat, ∃ c : InFlight, ∃ l, ∃ r, ∃ k, (Starts 0x0F04 q tag s c) ∧ (c.desc.object ≤ 3) ∧ (canRxHost (s.canCtl c.desc.object).cfg = c.entry) ∧ ((s.canCtl c.desc.object).rx = l ++ r :: k) ∧ (fld r 6 2 = c.desc.u 32 2) ∧ ((∀ e ∈ l, fld e 6 2 ≠ c.desc.u 32 2))) ∧
    (∃ s : State, ∃ q : Nat, ∃ tag : Nat, ∃ c : InFlight, (Starts 0x0F04 q tag s c) ∧ (c.desc.object ≤ 3) ∧ (canRxHost (s.canCtl c.desc.object).cfg = c.entry) ∧ ((∀ e ∈ (s.canCtl c.desc.object).rx, fld e 6 2 ≠ c.desc.u 32 2))) ∧
    (∃ s : State, ∃ q : Nat, ∃ tag : Nat, ∃ c : InFlight, (Starts 0x0F05 q tag s c) ∧ (c.desc.object ≤ 3) ∧ ((s.canCtl c.desc.object).busoff = true)) ∧
    (∃ s : State, ∃ q : Nat, ∃ tag : Nat, ∃ c : InFlight, (Starts 0x0F05 q tag s c) ∧ (c.desc.object ≤ 3) ∧ ((s.canCtl c.desc.object).busoff = false)) ∧
    (∃ s : State, ∃ q : Nat, ∃ tag : Nat, ∃ c : InFlight, (Starts 0x0F06 q tag s c) ∧ (c.desc.object ≤ 3)) ∧
    (∃ s : State, ∃ q : Nat, ∃ tag : Nat, ∃ c : InFlight, ∃ x, (s.mbx.inflight.find? (fun c => c.q == q && c.desc.tag == tag && c.desc.opcode == 0x0F02 && c.phase == .running) = some x) ∧ (x.deadline ≠ 0) ∧ (x.deadline ≤ s.now)) ∧
    (∃ s : State, ∃ q : Nat, ∃ tag : Nat, ∃ c : InFlight, ∃ r, ∃ t, (Starts 0x0F00 q tag s c) ∧ (c.record 512 = some r) ∧ (c.desc.object ≤ 3) ∧ (s.canRecOk r = true) ∧ ((s.canCtl c.desc.object).detect = none) ∧ (t = (s.canCtl c.desc.object).cmds.keys.foldl (fun (u : State) j => u.canTxEnd c.desc.object j ST_ABORTED) (s.start c.uid))) ∧
    (∃ s : State, ∃ r : Rec, ∃ old : Rec, (canTiming (s.canCtl 3).cfg = r) ∧ (r ≠ canTiming old)) ∧
    (∃ s : State, ∃ r : Rec, ∃ a : Nat, (s.can.gaugeWanted = some (r, a)) ∧ (s.awaits .canTiming = true) ∧ (a + 2 * sec ≤ s.now)) :=
  ⟨⟨waits {} (desc 0x0F00 3 [] (recOf 512 [(2, 1, 255)])), 0, 1, cmd (desc 0x0F00 3 [] (recOf 512 [(2, 1, 255)])), recOf 512 [(2, 1, 255)], by decide⟩,
   ⟨waits { can := { ctls := [(3, { detect := some { uid := 5, apply := true, start := 0, deadline := 5, cand := 0, since := 0 } })] } } (desc 0x0F00 3 [] (recOf 512 [(2, 1, 255)])), 0, 1, cmd (desc 0x0F00 3 [] (recOf 512 [(2, 1, 255)])), recOf 512 [(2, 1, 255)], by decide⟩,
   ⟨waits { can := { ctls := [(3, { cfg := recOf 512 [(32, 1, 1), (33, 2, 60), (35, 1, 20), (36, 1, 20)] })] } } (desc 0x0F01 3 [(32, 4, 600000), (36, 1, 1)] []), 0, 1, cmd (desc 0x0F01 3 [(32, 4, 600000), (36, 1, 1)] []), 0, [], by decide⟩,
   ⟨waits { can := { ctls := [(3, { tx := (List.range 28).map fun n => (n, { frame := [], uid := none }) })] } } (desc 0x0F02 3 [(32, 1, 5)] (recOf 400 [])), 0, 1, cmd (desc 0x0F02 3 [(32, 1, 5)] (recOf 400 [])), by decide⟩,
   ⟨waits { can := { ctls := [(3, { cfg := [] })] } } (desc 0x0F02 3 [(32, 1, 28)] (recOf 2240 [])), 0, 1, cmd (desc 0x0F02 3 [(32, 1, 28)] (recOf 2240 [])), by decide⟩,
   ⟨waits { pair := { role := ROLE_ACTIVE }, can := { ctls := [(3, { cfg := recOf 512 [(0, 1, 1)] })] } } (desc 0x0F02 3 [(32, 1, 28)] (recOf 2240 [])), 0, 1, cmd (desc 0x0F02 3 [(32, 1, 28)] (recOf 2240 [])), by decide⟩,
   ⟨waits { can := { ctls := [(3, { cfg := recOf 512 [(2, 1, 0)] })] } } (desc 0x0F03 3 [(32, 1, 64), (12, 4, 5120)] []), 0, 1, cmd (desc 0x0F03 3 [(32, 1, 64), (12, 4, 5120)] []), by decide⟩,
   ⟨waits { can := { ctls := [(3, { cfg := recOf 512 [(2, 1, 1)] })] } } (desc 0x0F03 3 [] []), 0, 1, cmd (desc 0x0F03 3 [] []), by decide⟩,
   ⟨waits { can := { ctls := [(3, { cfg := recOf 512 [(2, 1, 0)], rx := [recOf 80 [(6, 2, 5)]] })] } } (desc 0x0F04 3 [(32, 2, 5)] []), 0, 1, cmd (desc 0x0F04 3 [(32, 2, 5)] []), [], recOf 80 [(6, 2, 5)], [], by decide⟩,
   ⟨waits { can := { ctls := [(3, { cfg := recOf 512 [(2, 1, 0)] })] } } (desc 0x0F04 3 [] []), 0, 1, cmd (desc 0x0F04 3 [] []), by decide⟩,
   ⟨waits { can := { ctls := [(3, { busoff := true })] } } (desc 0x0F05 3 [] []), 0, 1, cmd (desc 0x0F05 3 [] []), by decide⟩,
   ⟨waits {} (desc 0x0F05 3 [] []), 0, 1, cmd (desc 0x0F05 3 [] []), by decide⟩,
   ⟨waits {} (desc 0x0F06 3 [] []), 0, 1, cmd (desc 0x0F06 3 [] []), by decide⟩,
   ⟨{ now := 5, mbx := { inflight := [{ uid := 7, q := 0, entry := 0, desc := desc 0x0F02 3 [] [], phase := .running, deadline := 5 }] } }, 0, 1, { uid := 7, q := 0, entry := 0, desc := desc 0x0F02 3 [] [], phase := .running, deadline := 5 }, { uid := 7, q := 0, entry := 0, desc := desc 0x0F02 3 [] [], phase := .running, deadline := 5 }, by decide⟩,
   ⟨waits {} (desc 0x0F00 3 [] (recOf 512 [(2, 1, 255)])), 0, 1, cmd (desc 0x0F00 3 [] (recOf 512 [(2, 1, 255)])), recOf 512 [(2, 1, 255)], (waits {} (desc 0x0F00 3 [] (recOf 512 [(2, 1, 255)]))).start 7, by decide, by decide, by decide, by decide, by decide, rfl⟩,
   ⟨{ can := { ctls := [(3, { cfg := recOf 512 [(4, 1, 1)] })] } }, canTiming (recOf 512 [(4, 1, 1)]), [], by decide⟩,
   ⟨{ now := 2 * sec, can := { gaugeWanted := some ([], 0) }, lv := { workWait := [{ id := 0, kind := 0, island := true, amount := 30, what := .canTiming }] } }, [], 0, by decide⟩⟩

/-- Operands and states that meet the hypotheses of CanEvents. -/
theorem test_witness_CanEvents :
    (∃ s : State, ∃ k : Nat, (3 < k ∨ s.canModeNow k = 0 ∨ s.canModeNow k = 3 ∨ (s.canCtl k).offBus = true)) ∧
    (∃ s : State, ∃ k : Nat, ∃ x : CanRx, ∃ id, ∃ fl, ∃ dlc, ∃ l : List Byte, ∃ a, (k ≤ 3) ∧ (s.canModeNow k = 1 ∨ s.canModeNow k = 2) ∧ ((s.canCtl k).offBus = false) ∧ (s.canSees k x = .frame id fl dlc l a)) ∧
    (∃ s : State, ∃ k : Nat, ∃ x : CanRx, ∃ n, (k ≤ 3) ∧ (s.canModeNow k = 1 ∨ s.canModeNow k = 2) ∧ ((s.canCtl k).offBus = false) ∧ (s.canSees k x = .error n)) ∧
    (∃ s : State, ∃ k : Nat, ∃ x : CanRx, (k ≤ 3) ∧ (s.canModeNow k = 1 ∨ s.canModeNow k = 2) ∧ ((s.canCtl k).offBus = false) ∧ (s.canSees k x = .exception)) ∧
    (∃ s : State, ∃ k : Nat, ∃ fl : Nat, ((s.canCtl k).detect = none) ∧ (bit fl 1 = false ∨ (canFd (s.canCtl k).cfg = true ∧ (bit fl 2 = false ∨ hasData (canTiming (s.canCtl k).cfg) = true)))) ∧
    (∃ s : State, ∃ k : Nat, ((s.canCtl k).detect = none) ∧ (s.canModeNow k = 1)) ∧
    (∃ s : State, ∃ k : Nat, ∃ id : Nat, ∃ fl : Nat, ∃ n : Nat, (canMatch (s.canCtl k).cfg id (bit fl 0) = some n) ∧ (fld (canFilter (s.canCtl k).cfg n) 9 1 = 1)) ∧
    (∃ s : State, ∃ k : Nat, ∃ id : Nat, ∃ fl : Nat, ∃ n : Nat, (k ≤ 3) ∧ (s.canModeNow k = 2) ∧ ((s.canCtl k).offBus = false) ∧ ((s.canCtl k).detect = none) ∧ (bit fl 1 = false) ∧ (canMatch (s.canCtl k).cfg id (bit fl 0) = some n) ∧ (fld (canFilter (s.canCtl k).cfg n) 9 1 = 0) ∧ (canRxHost (s.canCtl k).cfg ≠ 0xFF) ∧ ((s.canCtl k).rx.length < 64)) ∧
    (∃ s : State, ∃ k : Nat, ∃ id : Nat, ∃ fl : Nat, ∃ n : Nat, (k ≤ 3) ∧ (s.canModeNow k = 2) ∧ ((s.canCtl k).offBus = false) ∧ ((s.canCtl k).detect = none) ∧ (bit fl 1 = false) ∧ (canMatch (s.canCtl k).cfg id (bit fl 0) = some n) ∧ (fld (canFilter (s.canCtl k).cfg n) 9 1 = 0) ∧ (canRxHost (s.canCtl k).cfg ≠ 0xFF) ∧ (64 ≤ (s.canCtl k).rx.length)) ∧
    (∃ s : State, ∃ k : Nat, ∃ id : Nat, ∃ fl : Nat, (k ≤ 3) ∧ (s.canModeNow k = 2) ∧ ((s.canCtl k).offBus = false) ∧ ((s.canCtl k).detect = none) ∧ (bit fl 1 = false) ∧ (canMatch (s.canCtl k).cfg id (bit fl 0) = none)) ∧
    (∃ r : Rec, ∃ id : Nat, ∃ n : Nat, ∃ e : Bool, (canMatch r id e = some n)) ∧
    (∃ s : State, ∃ k : Nat, (k ≤ 3) ∧ (s.canModeNow k = 1) ∧ ((s.canCtl k).offBus = false) ∧ ((s.canCtl k).detect = none)) ∧
    (∃ s : State, ∃ k : Nat, (k ≤ 3) ∧ (s.canModeNow k = 1) ∧ ((s.canCtl k).offBus = false) ∧ (s.canFirst k = none)) ∧
    (∃ s : State, ∃ k : Nat, ∃ n : Nat, ∃ e : CanTxEntry, (k ≤ 3) ∧ (s.canModeNow k = 1) ∧ ((s.canCtl k).offBus = false) ∧ (s.canFirst k = some (n, e)) ∧ (canNoRetx (s.canCtl k).cfg = false) ∧ (bit (fld e.frame 4 1) 5 = false)) ∧
    (∃ s : State, ∃ k : Nat, ∃ n : Nat, ∃ e : CanTxEntry, (k ≤ 3) ∧ (s.canModeNow k = 1) ∧ ((s.canCtl k).offBus = false) ∧ (s.canFirst k = some (n, e)) ∧ (canNoRetx (s.canCtl k).cfg = true ∨ bit (fld e.frame 4 1) 5 = true)) ∧
    (∃ s : State, ∃ k : Nat, ∃ n : Nat, ∃ e : CanTxEntry, (k ≤ 3) ∧ (s.canModeNow k = 3) ∧ ((s.canCtl k).offBus = false) ∧ (s.canFirst k = some (n, e))) ∧
    (∃ s : State, ∃ k : Nat, ∃ n : Nat, ∃ e : CanTxEntry, ∃ f, (f ∈ s.canTx k) ∧ (s.canFirst k = some (n, e)) ∧ (s.isActive = true ∨ f.2.uid = none)) ∧
    (∃ s : State, ∃ k : Nat, (k ≤ 3) ∧ ((s.canCtl k).busoff = false) ∧ (256 ≤ (s.canCtl k).tec)) ∧
    (∃ s : State, ∃ k : Nat, ((s.canCtl k).busoff = false) ∧ ((s.canCtl k).tec ≤ 255)) ∧
    (∃ s : State, ∃ k : Nat, ((s.canCtl k).busoff = true) ∧ ((s.canCtl k).recovering = false) ∧ (canManual (s.canCtl k).cfg = false) ∧ ((s.canCtl k).lock = false) ∧ ((s.canCtl k).offAt + s.pms PAR_CAN_BUSOFF_HOLD_MS ≤ s.now)) ∧
    (∃ s : State, ∃ k : Nat, ((s.canCtl k).lock = true ∨ canManual (s.canCtl k).cfg = true)) ∧
    (∃ s : State, ∃ k : Nat, ((s.canCtl k).busoff = true) ∧ ((s.canCtl k).recovering = true)) ∧
    (∃ s : State, ∃ k : Nat, ∃ d : CanDetect, ((s.canCtl k).detect = some d) ∧ (d.since + s.pms PAR_CAN_DETECT_DWELL_MS ≤ s.now)) ∧
    (∃ s : State, ∃ k : Nat, ∃ d : CanDetect, ((s.canCtl k).detect = some d) ∧ (d.deadline ≤ s.now)) ∧
    (∃ r : Rec, ∃ n : Nat, ∃ k : Nat, ∃ l : List Nat, ∃ m, (m ∈ usedCands r) ∧ (usedCands r = k :: l) ∧ ((∃ m ∈ usedCands r, n < m)) ∧ (n < m)) ∧
    (∃ r : Rec, ∃ n : Nat, ∃ k : Nat, ∃ l : List Nat, (usedCands r = k :: l) ∧ ((∀ m ∈ usedCands r, m ≤ n))) ∧
    (∃ s : State, (s.can.wraps < s.canTicks / 2 ^ 32)) ∧
    (∃ s : State, (s.canTicks / 2 ^ 32 ≤ s.can.wraps)) :=
  ⟨⟨{}, 4, by decide⟩,
   ⟨{ can := { ctls := [(3, { cfg := recOf 512 [(0, 1, 2)] })] } }, 3, .frame 0 0 0 [] 0, 0, 0, 0, [], 0, by decide⟩,
   ⟨{ can := { ctls := [(3, { cfg := recOf 512 [(0, 1, 2)] })] } }, 3, .error 1, 1, by decide⟩,
   ⟨{ can := { ctls := [(3, { cfg := recOf 512 [(0, 1, 2)] })] } }, 3, .exception, by decide⟩,
   ⟨{}, 0, 0, by decide⟩,
   ⟨{ pair := { role := ROLE_ACTIVE }, can := { ctls := [(3, { cfg := recOf 512 [(0, 1, 1)] })] } }, 3, by decide⟩,
   ⟨{ can := { ctls := [(3, { cfg := recOf 512 [(508, 1, 2), (509, 1, 1)] })] } }, 3, 0, 0, 31, by decide⟩,
   ⟨{ can := { ctls := [(3, { cfg := recOf 512 [(0, 1, 2), (2, 1, 0), (508, 1, 2)] })] } }, 3, 0, 0, 31, by decide⟩,
   ⟨{ can := { ctls := [(3, { cfg := recOf 512 [(0, 1, 2), (2, 1, 0), (508, 1, 2)], rx := List.replicate 64 [] })] } }, 3, 0, 0, 31, by decide⟩,
   ⟨{ can := { ctls := [(3, { cfg := recOf 512 [(0, 1, 2)] })] } }, 3, 0, 0, by decide⟩,
   ⟨recOf 512 [(508, 1, 2)], 0, 31, false, by decide⟩,
   ⟨{ pair := { role := ROLE_ACTIVE }, can := { ctls := [(3, { cfg := recOf 512 [(0, 1, 1)] })] } }, 3, by decide⟩,
   ⟨{ pair := { role := ROLE_ACTIVE }, can := { ctls := [(3, { cfg := recOf 512 [(0, 1, 1)] })] } }, 3, by decide⟩,
   ⟨{ pair := { role := ROLE_ACTIVE }, can := { ctls := [(3, { cfg := recOf 512 [(0, 1, 1)], tx := [(2, { frame := recOf 80 [], uid := none })] })] } }, 3, 2, { frame := recOf 80 [], uid := none }, by decide⟩,
   ⟨{ pair := { role := ROLE_ACTIVE }, can := { ctls := [(3, { cfg := recOf 512 [(0, 1, 1), (1, 1, 4)], tx := [(2, { frame := recOf 80 [], uid := none })] })] } }, 3, 2, { frame := recOf 80 [], uid := none }, by decide⟩,
   ⟨{ pair := { role := ROLE_ACTIVE }, can := { ctls := [(3, { cfg := recOf 512 [(0, 1, 3)], tx := [(2, { frame := recOf 80 [], uid := none })] })] } }, 3, 2, { frame := recOf 80 [], uid := none }, by decide⟩,
   ⟨{ pair := { role := ROLE_ACTIVE }, can := { ctls := [(3, { cfg := recOf 512 [(0, 1, 1)], tx := [(2, { frame := recOf 80 [], uid := none })] })] } }, 3, 2, { frame := recOf 80 [], uid := none }, (2, { frame := recOf 80 [], uid := none }), by decide⟩,
   ⟨{ can := { ctls := [(3, { tec := 256 })] } }, 3, by decide⟩,
   ⟨{ can := { ctls := [(3, { tec := 255 })] } }, 3, by decide⟩,
   ⟨{ now := hour, can := { ctls := [(3, { busoff := true })] } }, 3, by decide⟩,
   ⟨{ can := { ctls := [(3, { lock := true })] } }, 3, by decide⟩,
   ⟨{ can := { ctls := [(3, { busoff := true, recovering := true })] } }, 3, by decide⟩,
   ⟨{ now := hour, can := { ctls := [(3, { detect := some { uid := 5, apply := true, start := 0, deadline := 5, cand := 0, since := 0 } })] } }, 3, { uid := 5, apply := true, start := 0, deadline := 5, cand := 0, since := 0 }, by decide⟩,
   ⟨{ now := hour, can := { ctls := [(3, { detect := some { uid := 5, apply := true, start := 0, deadline := 5, cand := 0, since := 0 } })] } }, 3, { uid := 5, apply := true, start := 0, deadline := 5, cand := 0, since := 0 }, by decide⟩,
   ⟨recOf 512 [(32, 1, 1), (44, 1, 1)], 0, 0, [1], 1, by decide⟩,
   ⟨recOf 512 [(32, 1, 1), (44, 1, 1)], 1, 0, [1], by decide⟩,
   ⟨{ now := 25 * 2 ^ 32 }, by decide⟩,
   ⟨{ now := 25 * 2 ^ 32 - 1 }, by decide⟩⟩

/-- Operands and states that meet the hypotheses of KeyStore. -/
theorem test_witness_KeyStore :
    (∃ s : State, ∃ q : Nat, ∃ tag : Nat, ∃ c : InFlight, (Starts 0x1000 q tag s c)) ∧
    (∃ s : State, ∃ q : Nat, ∃ tag : Nat, ∃ c : InFlight, (Starts 0x1001 q tag s c) ∧ (1 ≤ c.desc.u 34 2) ∧ (32 * c.desc.u 34 2 ≤ c.desc.dataLen) ∧ (c.desc.u 32 2 + c.desc.u 34 2 ≤ 1280)) ∧
    (∃ s : State, ∃ q : Nat, ∃ tag : Nat, ∃ c : InFlight, ∃ b, (Starts 0x1002 q tag s c) ∧ (b = s.obs.chain.flatMap (fun x => leBytes 2 x.length ++ x)) ∧ (b.length ≤ c.desc.dataLen)) ∧
    (∃ s : State, ∃ q : Nat, ∃ tag : Nat, ∃ c : InFlight, ∃ b, (Starts 0x1002 q tag s c) ∧ (b = s.obs.chain.flatMap (fun x => leBytes 2 x.length ++ x)) ∧ (c.desc.dataLen < b.length)) ∧
    (∃ s : State, ∃ q : Nat, ∃ tag : Nat, ∃ c : InFlight, (Starts 0x1003 q tag s c) ∧ (c.desc.object ≠ 0 ∨ c.desc.dataLen ≠ c.desc.data.length ∨ updFormOk c.desc.data = false)) ∧
    (∃ s : State, ∃ q : Nat, ∃ tag : Nat, ∃ c : InFlight, (Starts 0x1003 q tag s c) ∧ (c.desc.object = 0) ∧ (c.desc.dataLen = c.desc.data.length) ∧ (updFormOk c.desc.data = true) ∧ (updOp c.desc.data = 8) ∧ (s.isStandby = true)) ∧
    (∃ s : State, ∃ q : Nat, ∃ tag : Nat, ∃ c : InFlight, (Starts 0x1003 q tag s c) ∧ (c.desc.object = 0) ∧ (c.desc.dataLen = c.desc.data.length) ∧ (updFormOk c.desc.data = true) ∧ (updOp c.desc.data ≠ 8 ∨ s.isStandby = false) ∧ (updAllowed (updOp c.desc.data) s.obs.lifecycle (fld (updBody c.desc.data) 0 1) = false)) ∧
    (∃ s : State, ∃ q : Nat, ∃ tag : Nat, ∃ c : InFlight, (Starts 0x1003 q tag s c) ∧ (c.desc.object = 0) ∧ (c.desc.dataLen = c.desc.data.length) ∧ (updFormOk c.desc.data = true) ∧ (updOp c.desc.data ≠ 8 ∨ s.isStandby = false) ∧ (updAllowed (updOp c.desc.data) s.obs.lifecycle (fld (updBody c.desc.data) 0 1) = true) ∧ (s.updSigned c c.desc.data = false)) ∧
    (Config.verifies 9 ((recOf 129 [(0, 4, 0x50554B4F), (4, 2, 1), (6, 1, 7), (24, 4, 2), (28, 2, 0), (30, 2, 9), (32, 4, 1), (64, 1, 1)]).take ((recOf 129 [(0, 4, 0x50554B4F), (4, 2, 1), (6, 1, 7), (24, 4, 2), (28, 2, 0), (30, 2, 9), (32, 4, 1), (64, 1, 1)]).length - 64)) ((recOf 129 [(0, 4, 0x50554B4F), (4, 2, 1), (6, 1, 7), (24, 4, 2), (28, 2, 0), (30, 2, 9), (32, 4, 1), (64, 1, 1)]).drop ((recOf 129 [(0, 4, 0x50554B4F), (4, 2, 1), (6, 1, 7), (24, 4, 2), (28, 2, 0), (30, 2, 9), (32, 4, 1), (64, 1, 1)]).length - 64)) = true → ∃ s : State, ∃ q : Nat, ∃ tag : Nat, ∃ c : InFlight, (Starts 0x1003 q tag s c) ∧ (c.desc.object = 0) ∧ (c.desc.dataLen = c.desc.data.length) ∧ (updFormOk c.desc.data = true) ∧ (updOp c.desc.data ≠ 8 ∨ s.isStandby = false) ∧ (updAllowed (updOp c.desc.data) s.obs.lifecycle (fld (updBody c.desc.data) 0 1) = true) ∧ (s.updSigned c c.desc.data = true) ∧ (fld c.desc.data 24 4 ≠ s.obs.count + 1)) ∧
    (Config.verifies 9 ((recOf 128 [(0, 4, 0x50554B4F), (4, 2, 1), (6, 1, 5), (24, 4, 1), (28, 2, 9), (30, 2, 9), (32, 4, 0)]).take ((recOf 128 [(0, 4, 0x50554B4F), (4, 2, 1), (6, 1, 5), (24, 4, 1), (28, 2, 9), (30, 2, 9), (32, 4, 0)]).length - 64)) ((recOf 128 [(0, 4, 0x50554B4F), (4, 2, 1), (6, 1, 5), (24, 4, 1), (28, 2, 9), (30, 2, 9), (32, 4, 0)]).drop ((recOf 128 [(0, 4, 0x50554B4F), (4, 2, 1), (6, 1, 5), (24, 4, 1), (28, 2, 9), (30, 2, 9), (32, 4, 0)]).length - 64)) = true → ∃ s : State, ∃ q : Nat, ∃ tag : Nat, ∃ c : InFlight, ∃ st, (Starts 0x1003 q tag s c) ∧ (c.desc.object = 0) ∧ (c.desc.dataLen = c.desc.data.length) ∧ (updFormOk c.desc.data = true) ∧ (updOp c.desc.data ≠ 8 ∨ s.isStandby = false) ∧ (updAllowed (updOp c.desc.data) s.obs.lifecycle (fld (updBody c.desc.data) 0 1) = true) ∧ (s.updSigned c c.desc.data = true) ∧ (fld c.desc.data 24 4 = s.obs.count + 1) ∧ ((c.desc.data.drop 8).take 16 = padTo 16 s.sys.identity) ∧ (s.updBlocked c.desc.data = some st)) ∧
    (Config.verifies 9 ((recOf 129 [(0, 4, 0x50554B4F), (4, 2, 1), (6, 1, 7), (24, 4, 1), (28, 2, 0), (30, 2, 9), (32, 4, 1), (64, 1, 1)]).take ((recOf 129 [(0, 4, 0x50554B4F), (4, 2, 1), (6, 1, 7), (24, 4, 1), (28, 2, 0), (30, 2, 9), (32, 4, 1), (64, 1, 1)]).length - 64)) ((recOf 129 [(0, 4, 0x50554B4F), (4, 2, 1), (6, 1, 7), (24, 4, 1), (28, 2, 0), (30, 2, 9), (32, 4, 1), (64, 1, 1)]).drop ((recOf 129 [(0, 4, 0x50554B4F), (4, 2, 1), (6, 1, 7), (24, 4, 1), (28, 2, 0), (30, 2, 9), (32, 4, 1), (64, 1, 1)]).length - 64)) = true → ∃ s : State, ∃ q : Nat, ∃ tag : Nat, ∃ c : InFlight, (Starts 0x1003 q tag s c) ∧ (c.desc.object = 0) ∧ (c.desc.dataLen = c.desc.data.length) ∧ (updFormOk c.desc.data = true) ∧ (updOp c.desc.data ≠ 8 ∨ s.isStandby = false) ∧ (updAllowed (updOp c.desc.data) s.obs.lifecycle (fld (updBody c.desc.data) 0 1) = true) ∧ (s.updSigned c c.desc.data = true) ∧ (fld c.desc.data 24 4 = s.obs.count + 1) ∧ ((c.desc.data.drop 8).take 16 = padTo 16 s.sys.identity) ∧ (s.updBlocked c.desc.data = none)) ∧
    (∃ s : State, ∃ q : Nat, ∃ tag : Nat, ∃ c : InFlight, (Starts 0x1004 q tag s c) ∧ (s.obs.lifecycle = 4 ∨ s.obs.lifecycle = 5)) ∧
    (∃ s : State, ∃ q : Nat, ∃ tag : Nat, ∃ c : InFlight, ∃ k, (Starts 0x1004 q tag s c) ∧ (s.obs.lifecycle ≠ 4) ∧ (s.obs.lifecycle ≠ 5) ∧ (s.obs.slots.get? c.desc.object = some k) ∧ (k.type ≤ 5) ∧ (s.slotAllows 0 0 M_OBS = true)) ∧
    (∃ s : State, ∃ q : Nat, ∃ tag : Nat, ∃ c : InFlight, ∃ k, (Starts 0x1004 q tag s c) ∧ (s.obs.lifecycle ≠ 4) ∧ (s.obs.lifecycle ≠ 5) ∧ (s.obs.slots.get? c.desc.object = some k) ∧ (k.type ≤ 5) ∧ (s.slotAllows 0 0 M_OBS = false)) ∧
    (∃ s : State, ∃ q : Nat, ∃ tag : Nat, ∃ c : InFlight, (Starts 0x1005 q tag s c) ∧ (s.obs.lifecycle = 4) ∧ ((s.host c.entry).transport = 1)) ∧
    (∃ s : State, ∃ q : Nat, ∃ tag : Nat, ∃ c : InFlight, (Starts 0x1005 q tag s c) ∧ (s.obs.lifecycle ≠ 4)) ∧
    (∃ s : State, (s.obs.ready = true) ∧ (s.obs.maskedAt + s.islN PAR_OBS_REMASK_MS * ms ≤ s.now)) ∧
    (∃ n : Nat, ∃ m, (m ≠ n)) ∧
    (∃ s : State, ∃ b : BitVec 6, (s.tamperSources b &&& s.armed = 0)) ∧
    (∃ s : State, ∃ b : BitVec 6, (s.tamperSources b &&& s.armed ≠ 0) ∧ (s.obs.ready = false)) ∧
    (∃ s : State, ∃ b : BitVec 6, (s.tamperSources b &&& s.armed ≠ 0) ∧ (s.obs.ready = true) ∧ (s.sys.powered.getLsbD 2 = true)) ∧
    (∃ s : State, ∃ t : Nat, (s.obs.serviceEnd = some t) ∧ (t ≤ s.now) ∧ (s.obs.lifecycle = 3)) ∧
    (∃ s : State, ∃ mv : Nat, (s.islN PAR_OBS_BKBAT_WARN_MV ≤ mv)) ∧
    (∃ s : State, ∃ mv : Nat, (mv < s.islN PAR_OBS_BKBAT_WARN_MV) ∧ (s.sys.pg = true) ∧ (s.obs.bkbatWarn = false)) ∧
    (∃ s : State, ∃ n : Nat, (s.enrolling n = none)) ∧
    (∃ s : State, ∃ t : State, ∃ n : Nat, ∃ a : Nat, ∃ w : ObsWork, ∃ id : List Byte, (id = ((s.plan n).map fun (r : Rec) => r.take 16).getD []) ∧ (s.enrolling n = some w) ∧ (t = ({ s with obs := { s.obs with work := s.obs.work.filter fun x => x.uid != w.uid, count := s.obs.count + 1 } }).deriveNode n ⟨fld w.body 2 2, fld w.body 4 4, id, s.enrolSlot n, a⟩)) ∧
    (∃ s : State, ∃ n : Nat, ∃ e : Enrolment, (s.obs.enrolled.get? n = some e)) ∧
    (∃ s : State, ∃ n : Nat, ∃ k : Nat, (s.obs.enrolled.get? n = none) ∧ (s.obs.slots.freeFrom 800 400 = some k)) ∧
    (∃ s : State, ∃ n : Nat, ∃ t : Nat, ∃ w : ObsWork, (s.enrolling n = some w) ∧ (w.ackBy = some t) ∧ (t ≤ s.now)) ∧
    (∃ s : State, ∃ t : State, ∃ o : PairOffer, (s.agrees o = false) ∧ (t = s.dropPairKey)) ∧
    (Config.chainUnder 3 [[], [], []] = some ([], []) → Config.verifiesUnder [] (List.replicate 56 0) [] = true → Config.commonName [] = [] → ∃ s : State, ∃ t : State, ∃ o : PairOffer, ∃ l : List (Nat × KeySlot), ∃ k : List (Nat × Enrolment), (s.agrees o = true) ∧ (t = (((s.pairKeyIn o).takeShared l k).shareSlots).raise 0x10 0x0005 0)) ∧
    (∃ s : State, ∃ t : State, ∃ u : Nat, ∃ w : ObsWork, (s.obs.work.find? (fun x => x.uid == u) = some w) ∧ ((1 ≤ w.op ∧ w.op ≤ 5) ∨ w.op = 7) ∧ (t = { s with obs := { s.obs with work := s.obs.work.filter fun x => x.uid != u } }.updApply w)) ∧
    (∃ w : ObsWork, (w.op = 2)) :=
  ⟨⟨waits {} (desc 0x1000 0 [] []), 0, 1, cmd (desc 0x1000 0 [] []), by decide⟩,
   ⟨waits {} (desc 0x1001 0 [(12, 4, 32), (34, 2, 1)] []), 0, 1, cmd (desc 0x1001 0 [(12, 4, 32), (34, 2, 1)] []), by decide⟩,
   ⟨waits {} (desc 0x1002 0 [(12, 4, 400)] []), 0, 1, cmd (desc 0x1002 0 [(12, 4, 400)] []), [0, 0, 0, 0, 0, 0, 0, 0], by decide⟩,
   ⟨waits {} (desc 0x1002 0 [(12, 4, 7)] []), 0, 1, cmd (desc 0x1002 0 [(12, 4, 7)] []), [0, 0, 0, 0, 0, 0, 0, 0], by decide⟩,
   ⟨waits {} (desc 0x1003 0 [] []), 0, 1, cmd (desc 0x1003 0 [] []), by decide⟩,
   ⟨waits {} (desc 0x1003 0 [] (recOf 137 [(0, 4, 0x50554B4F), (4, 2, 1), (6, 1, 8), (24, 4, 1), (28, 2, 0), (30, 2, 9), (32, 4, 9), (64, 2, 5)])), 0, 1, cmd (desc 0x1003 0 [] (recOf 137 [(0, 4, 0x50554B4F), (4, 2, 1), (6, 1, 8), (24, 4, 1), (28, 2, 0), (30, 2, 9), (32, 4, 9), (64, 2, 5)])), by decide⟩,
   ⟨waits { obs := { lifecycle := 2 } } (desc 0x1003 0 [] (recOf 129 [(0, 4, 0x50554B4F), (4, 2, 1), (6, 1, 7), (24, 4, 1), (28, 2, 0), (30, 2, 9), (32, 4, 1), (64, 1, 1)])), 0, 1, cmd (desc 0x1003 0 [] (recOf 129 [(0, 4, 0x50554B4F), (4, 2, 1), (6, 1, 7), (24, 4, 1), (28, 2, 0), (30, 2, 9), (32, 4, 1), (64, 1, 1)])), by decide⟩,
   ⟨waits {} (desc 0x1003 0 [] (recOf 129 [(0, 4, 0x50554B4F), (4, 2, 1), (6, 1, 7), (24, 4, 1), (28, 2, 0), (30, 2, 9), (32, 4, 1), (64, 1, 1)])), 0, 1, cmd (desc 0x1003 0 [] (recOf 129 [(0, 4, 0x50554B4F), (4, 2, 1), (6, 1, 7), (24, 4, 1), (28, 2, 0), (30, 2, 9), (32, 4, 1), (64, 1, 1)])), by decide⟩,
   (fun hv => ⟨waits { obs := { slots := [(9, { type := 1, uses := 0xFFFF, masters := 255, worlds := 255, lifecycles := 255 })] } } (desc 0x1003 0 [] (recOf 129 [(0, 4, 0x50554B4F), (4, 2, 1), (6, 1, 7), (24, 4, 2), (28, 2, 0), (30, 2, 9), (32, 4, 1), (64, 1, 1)])), 0, 1, cmd (desc 0x1003 0 [] (recOf 129 [(0, 4, 0x50554B4F), (4, 2, 1), (6, 1, 7), (24, 4, 2), (28, 2, 0), (30, 2, 9), (32, 4, 1), (64, 1, 1)])), by decide, by decide, by decide, by decide, by decide, by decide, by unfold State.updSigned; rw [if_neg (by decide)]; exact (Bool.and_eq_true _ _).mpr ⟨by decide, hv⟩, by decide⟩),
   (fun hv => ⟨waits { obs := { slots := [(9, { type := 1, flags := 4, uses := 0xFFFF, masters := 255, worlds := 255, lifecycles := 255 })] } } (desc 0x1003 0 [] (recOf 128 [(0, 4, 0x50554B4F), (4, 2, 1), (6, 1, 5), (24, 4, 1), (28, 2, 9), (30, 2, 9), (32, 4, 0)])), 0, 1, cmd (desc 0x1003 0 [] (recOf 128 [(0, 4, 0x50554B4F), (4, 2, 1), (6, 1, 5), (24, 4, 1), (28, 2, 9), (30, 2, 9), (32, 4, 0)])), ST_LOCKED, by decide, by decide, by decide, by decide, by decide, by decide, by unfold State.updSigned; rw [if_neg (by decide)]; exact (Bool.and_eq_true _ _).mpr ⟨by decide, hv⟩, by decide, by decide, by decide⟩),
   (fun hv => ⟨waits { obs := { slots := [(9, { type := 1, uses := 0xFFFF, masters := 255, worlds := 255, lifecycles := 255 })] } } (desc 0x1003 0 [] (recOf 129 [(0, 4, 0x50554B4F), (4, 2, 1), (6, 1, 7), (24, 4, 1), (28, 2, 0), (30, 2, 9), (32, 4, 1), (64, 1, 1)])), 0, 1, cmd (desc 0x1003 0 [] (recOf 129 [(0, 4, 0x50554B4F), (4, 2, 1), (6, 1, 7), (24, 4, 1), (28, 2, 0), (30, 2, 9), (32, 4, 1), (64, 1, 1)])), by decide, by decide, by decide, by decide, by decide, by decide, by unfold State.updSigned; rw [if_neg (by decide)]; exact (Bool.and_eq_true _ _).mpr ⟨by decide, hv⟩, by decide, by decide, by decide⟩),
   ⟨waits { obs := { lifecycle := 4 } } (desc 0x1004 0 [] []), 0, 1, cmd (desc 0x1004 0 [] []), by decide⟩,
   ⟨waits {} (desc 0x1004 0 [] []), 0, 1, cmd (desc 0x1004 0 [] []), { type := 1, flags := 14, uses := 65, masters := 17, worlds := 2, lifecycles := 14 }, by decide⟩,
   ⟨waits { obs := { lifecycle := 0 } } (desc 0x1004 0 [] []), 0, 1, cmd (desc 0x1004 0 [] []), { type := 1, flags := 14, uses := 65, masters := 17, worlds := 2, lifecycles := 14 }, by decide⟩,
   ⟨waits { obs := { lifecycle := 4 }, mbx := { hosts := [(0, { transport := 1 })] } } (desc 0x1005 0 [] []), 0, 1, cmd (desc 0x1005 0 [] []), by decide⟩,
   ⟨waits {} (desc 0x1005 0 [] []), 0, 1, cmd (desc 0x1005 0 [] []), by decide⟩,
   ⟨{ now := 1000 * hour, obs := { ready := true } }, by decide⟩,
   ⟨0, 1, by decide⟩,
   ⟨{ obs := { lifecycle := 5 } }, 4#6, by decide⟩,
   ⟨{}, 4#6, by decide⟩,
   ⟨{ obs := { ready := true }, sys := { powered := 4 } }, 4#6, by decide⟩,
   ⟨{ now := 5, obs := { serviceEnd := some 5, lifecycle := 3 } }, 5, by decide⟩,
   ⟨{}, 4095, by decide⟩,
   ⟨{ sys := { pg := true } }, 0, by decide⟩,
   ⟨{}, 0, by decide⟩,
   ⟨{ now := 4, obs := { work := [{ uid := 7, op := 8, slot := 9, header := [], body := recOf 20 [(0, 2, 5), (2, 2, 9), (4, 4, 1)], ackBy := some 4 }], enrolled := [(5, { master := 9, generation := 1, identity := [], slot := 300, startMa := 0 })] } }, ({ ({ now := 4, obs := { work := [{ uid := 7, op := 8, slot := 9, header := [], body := recOf 20 [(0, 2, 5), (2, 2, 9), (4, 4, 1)], ackBy := some 4 }], enrolled := [(5, { master := 9, generation := 1, identity := [], slot := 300, startMa := 0 })] } } : State) with obs := { ({ now := 4, obs := { work := [{ uid := 7, op := 8, slot := 9, header := [], body := recOf 20 [(0, 2, 5), (2, 2, 9), (4, 4, 1)], ackBy := some 4 }], enrolled := [(5, { master := 9, generation := 1, identity := [], slot := 300, startMa := 0 })] } } : State).obs with work := ({ now := 4, obs := { work := [{ uid := 7, op := 8, slot := 9, header := [], body := recOf 20 [(0, 2, 5), (2, 2, 9), (4, 4, 1)], ackBy := some 4 }], enrolled := [(5, { master := 9, generation := 1, identity := [], slot := 300, startMa := 0 })] } } : State).obs.work.filter fun x => x.uid != 7, count := ({ now := 4, obs := { work := [{ uid := 7, op := 8, slot := 9, header := [], body := recOf 20 [(0, 2, 5), (2, 2, 9), (4, 4, 1)], ackBy := some 4 }], enrolled := [(5, { master := 9, generation := 1, identity := [], slot := 300, startMa := 0 })] } } : State).obs.count + 1 } }).deriveNode 5 ⟨fld (recOf 20 [(0, 2, 5), (2, 2, 9), (4, 4, 1)]) 2 2, fld (recOf 20 [(0, 2, 5), (2, 2, 9), (4, 4, 1)]) 4 4, [], ({ now := 4, obs := { work := [{ uid := 7, op := 8, slot := 9, header := [], body := recOf 20 [(0, 2, 5), (2, 2, 9), (4, 4, 1)], ackBy := some 4 }], enrolled := [(5, { master := 9, generation := 1, identity := [], slot := 300, startMa := 0 })] } } : State).enrolSlot 5, 0⟩, 5, 0, { uid := 7, op := 8, slot := 9, header := [], body := recOf 20 [(0, 2, 5), (2, 2, 9), (4, 4, 1)], ackBy := some 4 }, [], by decide, by decide, rfl⟩,
   ⟨{ now := 4, obs := { work := [{ uid := 7, op := 8, slot := 9, header := [], body := recOf 20 [(0, 2, 5), (2, 2, 9), (4, 4, 1)], ackBy := some 4 }], enrolled := [(5, { master := 9, generation := 1, identity := [], slot := 300, startMa := 0 })] } }, 5, { master := 9, generation := 1, identity := [], slot := 300, startMa := 0 }, by decide⟩,
   ⟨{}, 6, 800, by decide⟩,
   ⟨{ now := 4, obs := { work := [{ uid := 7, op := 8, slot := 9, header := [], body := recOf 20 [(0, 2, 5), (2, 2, 9), (4, 4, 1)], ackBy := some 4 }], enrolled := [(5, { master := 9, generation := 1, identity := [], slot := 300, startMa := 0 })] } }, 5, 4, { uid := 7, op := 8, slot := 9, header := [], body := recOf 20 [(0, 2, 5), (2, 2, 9), (4, 4, 1)], ackBy := some 4 }, by decide⟩,
   ⟨{}, State.dropPairKey {}, { ephemeral := [], signature := [], certs := [], accepted := false }, by decide, rfl⟩,
   (fun hc hv hn => ⟨{ obs := { ready := true, slots := [(0, { type := 1, uses := 0xFFFF, masters := 255, worlds := 255, lifecycles := 255 }), (3, { type := 1, uses := 0xFFFF, masters := 255, worlds := 255, lifecycles := 255 }), (4, { type := 1, uses := 0xFFFF, masters := 255, worlds := 255, lifecycles := 255 })] } }, (((({ obs := { ready := true, slots := [(0, { type := 1, uses := 0xFFFF, masters := 255, worlds := 255, lifecycles := 255 }), (3, { type := 1, uses := 0xFFFF, masters := 255, worlds := 255, lifecycles := 255 }), (4, { type := 1, uses := 0xFFFF, masters := 255, worlds := 255, lifecycles := 255 })] } } : State).pairKeyIn { ephemeral := List.replicate 56 0, signature := [], certs := [[], [], []], accepted := true }).takeShared [] []).shareSlots).raise 0x10 0x0005 0, { ephemeral := List.replicate 56 0, signature := [], certs := [[], [], []], accepted := true }, [], [], (by have h : State.partnerVerified ({ obs := { ready := true, slots := [(0, { type := 1, uses := 0xFFFF, masters := 255, worlds := 255, lifecycles := 255 }), (3, { type := 1, uses := 0xFFFF, masters := 255, worlds := 255, lifecycles := 255 }), (4, { type := 1, uses := 0xFFFF, masters := 255, worlds := 255, lifecycles := 255 })] } }) { ephemeral := List.replicate 56 0, signature := [], certs := [[], [], []], accepted := true } = true := (by unfold State.partnerVerified; rw [hc]; simp only [hv, Bool.true_and, Bool.and_eq_true, List.any_eq_true]; exact ⟨by decide, (4, { type := 1, uses := 0xFFFF, masters := 255, worlds := 255, lifecycles := 255 }), by decide, by decide, by rw [hn]; decide⟩); unfold State.agrees; rw [h]; decide), rfl⟩),
   ⟨{ obs := { work := [{ uid := 7, op := 7, slot := 0, header := [], body := [1] }] } }, ({ ({ obs := { work := [{ uid := 7, op := 7, slot := 0, header := [], body := [1] }] } } : State) with obs := { ({ obs := { work := [{ uid := 7, op := 7, slot := 0, header := [], body := [1] }] } } : State).obs with work := ({ obs := { work := [{ uid := 7, op := 7, slot := 0, header := [], body := [1] }] } } : State).obs.work.filter fun x => x.uid != 7 } }).updApply { uid := 7, op := 7, slot := 0, header := [], body := [1] }, 7, { uid := 7, op := 7, slot := 0, header := [], body := [1] }, by decide, by decide, rfl⟩,
   ⟨{ uid := 7, op := 2, slot := 9, header := [], body := [1] }, by decide⟩⟩

/-- Operands and states that meet the hypotheses of SafetyCommands. -/
theorem test_witness_SafetyCommands :
    (∃ s : State, ∃ q : Nat, ∃ tag : Nat, ∃ c : InFlight, ∃ i, (Starts 0x1100 q tag s c) ∧ (c.desc.dataLen = c.desc.data.length) ∧ (c.desc.object = 0) ∧ (grnImageOf c.desc.data = some i)) ∧
    (∃ s : State, ∃ q : Nat, ∃ tag : Nat, ∃ c : InFlight, (Starts 0x1100 q tag s c) ∧ (grnImageOf c.desc.data = none)) ∧
    (∃ s : State, ∃ q : Nat, ∃ tag : Nat, ∃ c : InFlight, ∃ i, (Starts 0x1101 q tag s c) ∧ (s.grn.pendingImg = some i) ∧ (c.desc.object = 0) ∧ (imgCrc i = c.desc.u 32 4) ∧ (s.gatesOn s.grn.image = false) ∧ (s.gatesOn i = false) ∧ (s.anyPrecharge = false) ∧ (s.grn.commit = none)) ∧
    (∃ s : State, ∃ q : Nat, ∃ tag : Nat, ∃ c : InFlight, ∃ i, (Starts 0x1101 q tag s c) ∧ (s.grn.pendingImg = some i) ∧ (c.desc.object = 0) ∧ (imgCrc i = c.desc.u 32 4) ∧ (s.gatesOn s.grn.image = true ∨ s.gatesOn i = true ∨ s.anyPrecharge = true)) ∧
    (∃ s : State, ∃ q : Nat, ∃ tag : Nat, ∃ c : InFlight, (Starts 0x1102 q tag s c) ∧ (352 ≤ c.desc.dataLen) ∧ (c.desc.object = 0)) ∧
    (∃ s : State, ∃ q : Nat, ∃ tag : Nat, ∃ c : InFlight, ∃ b, (Starts 0x1103 q tag s c) ∧ (c.record 32 = some b) ∧ (c.desc.object = 0)) ∧
    (∃ s : State, ∃ q : Nat, ∃ tag : Nat, ∃ c : InFlight, ∃ b, (Starts 0x1104 q tag s c) ∧ (c.record 32 = some b) ∧ (c.desc.object = 0)) ∧
    (∃ s : State, ∃ q : Nat, ∃ tag : Nat, ∃ c : InFlight, (Starts 0x1105 q tag s c) ∧ (c.desc.object = 0) ∧ (1 ≤ c.desc.u 34 2) ∧ (16 * c.desc.u 34 2 ≤ c.desc.dataLen) ∧ (c.desc.u 32 2 + c.desc.u 34 2 ≤ 512)) ∧
    (∃ s : State, ∃ u : Nat, ∃ t : Nat, (s.grn.commit = some (u, t)) ∧ (t ≤ s.now)) ∧
    (∃ s : State, ∃ a : GrnArm, (s.grn.arm = some a) ∧ (a.expiry ≤ s.now)) ∧
    (∃ s : State, ∃ a : GrnArm, (s.grn.arm = some a) ∧ (s.now < a.expiry)) ∧
    (∃ s : State, ∃ hi : Nat, (hi < 200000 ∨ 2000000 < hi ∨ s.grn.halted = true)) ∧
    (∃ s : State, ∃ hi : Nat, ∃ lo : Nat, (s.grn.halted = false) ∧ (200000 ≤ hi) ∧ (hi ≤ 2000000) ∧ (s.grn.tooLong = false ∨ 1000000 ≤ lo)) ∧
    (∃ s : State, (s.grn.halted = false) ∧ (s.grn.tooLong = false)) ∧
    (∃ o : Nat, ∃ m, (m ≠ o)) ∧
    (∃ s : State, ∃ o : Nat, ∃ k, (s.grn.locks.get? o = some k)) :=
  ⟨⟨waits {} (desc 0x1100 0 [] (recOf 416 [(0, 4, 0x47464347), (4, 2, 1), (8, 2, 1000), (10, 2, 500), (12, 2, 10), (14, 2, 30), (16, 2, 4872), (28, 4, 2879655221), (48, 1, 1), (64, 1, 2), (80, 1, 3), (96, 1, 4), (112, 1, 5), (128, 1, 6), (144, 1, 7), (160, 1, 8), (176, 1, 9), (192, 1, 10), (208, 1, 11), (224, 1, 12), (240, 1, 13), (256, 1, 14), (272, 1, 15), (304, 1, 1), (320, 1, 2), (336, 1, 3), (352, 1, 4), (368, 1, 5), (384, 1, 6), (400, 1, 7)])), 0, 1, cmd (desc 0x1100 0 [] (recOf 416 [(0, 4, 0x47464347), (4, 2, 1), (8, 2, 1000), (10, 2, 500), (12, 2, 10), (14, 2, 30), (16, 2, 4872), (28, 4, 2879655221), (48, 1, 1), (64, 1, 2), (80, 1, 3), (96, 1, 4), (112, 1, 5), (128, 1, 6), (144, 1, 7), (160, 1, 8), (176, 1, 9), (192, 1, 10), (208, 1, 11), (224, 1, 12), (240, 1, 13), (256, 1, 14), (272, 1, 15), (304, 1, 1), (320, 1, 2), (336, 1, 3), (352, 1, 4), (368, 1, 5), (384, 1, 6), (400, 1, 7)])), (grnImageOf (recOf 416 [(0, 4, 0x47464347), (4, 2, 1), (8, 2, 1000), (10, 2, 500), (12, 2, 10), (14, 2, 30), (16, 2, 4872), (28, 4, 2879655221), (48, 1, 1), (64, 1, 2), (80, 1, 3), (96, 1, 4), (112, 1, 5), (128, 1, 6), (144, 1, 7), (160, 1, 8), (176, 1, 9), (192, 1, 10), (208, 1, 11), (224, 1, 12), (240, 1, 13), (256, 1, 14), (272, 1, 15), (304, 1, 1), (320, 1, 2), (336, 1, 3), (352, 1, 4), (368, 1, 5), (384, 1, 6), (400, 1, 7)])).getD {}, by decide +kernel⟩,
   ⟨waits {} (desc 0x1100 0 [] []), 0, 1, cmd (desc 0x1100 0 [] []), by decide⟩,
   ⟨waits { grn := { pendingImg := some {} } } (desc 0x1101 0 [] []), 0, 1, cmd (desc 0x1101 0 [] []), {}, by decide⟩,
   ⟨waits { ses := { ctxs := [(0, { outlet := 0, state := 6 })] }, pair := { role := ROLE_ACTIVE }, grn := { pendingImg := some {} } } (desc 0x1101 0 [] []), 0, 1, cmd (desc 0x1101 0 [] []), {}, by decide⟩,
   ⟨waits {} (desc 0x1102 0 [(12, 4, 352)] []), 0, 1, cmd (desc 0x1102 0 [(12, 4, 352)] []), by decide⟩,
   ⟨waits {} (desc 0x1103 0 [] (List.replicate 32 255)), 0, 1, cmd (desc 0x1103 0 [] (List.replicate 32 255)), List.replicate 32 255, by decide⟩,
   ⟨waits {} (desc 0x1104 0 [] (List.replicate 32 255)), 0, 1, cmd (desc 0x1104 0 [] (List.replicate 32 255)), List.replicate 32 255, by decide⟩,
   ⟨waits {} (desc 0x1105 0 [(12, 4, 16), (32, 2, 511), (34, 2, 1)] []), 0, 1, cmd (desc 0x1105 0 [(12, 4, 16), (32, 2, 511), (34, 2, 1)] []), by decide⟩,
   ⟨{ now := 4, grn := { commit := some (7, 4) } }, 7, 4, by decide⟩,
   ⟨{ now := 4, grn := { arm := some { outMask := 255, inMask := 0, outlets := [], expiry := 4 } } }, { outMask := 255, inMask := 0, outlets := [], expiry := 4 }, by decide⟩,
   ⟨{ now := 3, grn := { arm := some { outMask := 255, inMask := 0, outlets := [], expiry := 4 } } }, { outMask := 255, inMask := 0, outlets := [], expiry := 4 }, by decide⟩,
   ⟨{}, 199999, by decide⟩,
   ⟨{}, 2000000, 0, by decide⟩,
   ⟨{}, by decide⟩,
   ⟨0, 1, by decide⟩,
   ⟨{ grn := { locks := [(0, 8)] } }, 0, 8, by decide⟩⟩

/-- Operands and states that meet the hypotheses of SafetyEvents. -/
theorem test_witness_SafetyEvents :
    (∃ s : State, (s.grn.halted = true)) ∧
    (∃ s : State, (s.grn.halted = true)) ∧
    (∃ s : State, (s.grn.halted = true)) ∧
    (∃ s : State, (s.grn.halted = true)) ∧
    (∃ s : State, ∃ t : State, ∃ u : State, ∃ l : List (BitVec 32), ∃ r : Nat, ∃ h : Nat, (s.grn.halted = false) ∧ (t = ((List.range 16).foldl (State.inputCycle l) s).clockCheck r h) ∧ (u = (if t.flt.request then t.enterSafe else t))) ∧
    (∃ s : State, ∃ r : Nat, ∃ h : Nat, ((24750 ≤ r ∧ r ≤ 25250)) ∧ ((s.emitsCycles = false ∨ (49 ≤ h ∧ h ≤ 51)))) ∧
    (∃ s : State, ∃ r : Nat, ((r < 24750 ∨ 25250 < r)) ∧ (s.grn.clockFails = 0)) ∧
    (∃ c : GrnChan, ∃ t : Nat, ∃ hold : Nat, (c.level ≠ c.raw) ∧ (t < c.since + hold)) ∧
    (∃ c : GrnChan, ∃ t : Nat, ∃ hold : Nat, (c.level ≠ c.raw) ∧ (c.since + hold ≤ t)) ∧
    (∃ s : State, ∃ n : Nat, ∃ t : Nat, ((s.grnIn n).discSince = some t) ∧ (s.grn.halted = false) ∧ (inMode (s.inRec n) = 1 ∨ inMode (s.inRec n) = 2) ∧ (t + inDiscMs (s.inRec n) * ms < s.now)) ∧
    (∃ s : State, ∃ n : Nat, ∃ t : Nat, ((s.grnIn n).discSince = some t) ∧ (s.grn.halted = false) ∧ (inMode (s.inRec n) = 1 ∨ inMode (s.inRec n) = 2) ∧ (s.now ≤ t + inDiscMs (s.inRec n) * ms)) ∧
    (∃ s : State, ∃ n : Nat, (outUsed (s.outRec n) = true) ∧ ((s.grnOut n).cause ≠ 0) ∧ ((s.grnOut n).closed = false)) ∧
    (∃ s : State, ∃ n : Nat, (outUsed (s.outRec n) = true) ∧ ((∃ i < 16, bit (outInMask (s.outRec n)) i = true ∧ s.inTrips i = true))) ∧
    (∃ s : State, ∃ n : Nat, ∃ a : Nat, (s.grn.halted = false) ∧ (outUsed (s.outRec n) = true) ∧ ((s.grnOut n).closed = false) ∧ (a < 5000)) ∧
    (∃ s : State, ∃ n : Nat, ∃ a : Nat, (s.grn.halted = false) ∧ (outUsed (s.outRec n) = true) ∧ ((s.grnOut n).closed = false) ∧ (5000 ≤ a)) ∧
    (∃ s : State, ∃ n : Nat, (s.grn.halted = false) ∧ (outUsed (s.outRec n) = true) ∧ ((s.grnOut n).closed = true) ∧ (s.now < (s.grnOut n).testedAt + imgTpPeriodMs s.grn.image * ms)) ∧
    (∃ s : State, ∃ n : Nat, (s.grn.halted = false) ∧ (outUsed (s.outRec n) = true) ∧ ((s.grnOut n).closed = true) ∧ ((s.grnOut n).testedAt + imgTpPeriodMs s.grn.image * ms ≤ s.now)) ∧
    (∃ s : State, ∃ n : Nat, ∃ a : Nat, ∃ b : Nat, ((s.grnOut n).closed = true) ∧ (a < 5000) ∧ (15000 < b)) ∧
    (∃ s : State, ∃ n : Nat, ∃ a : Nat, ∃ b : Nat, ((s.grnOut n).closed = true) ∧ (5000 ≤ a ∨ b ≤ 15000)) ∧
    (∃ s : State, ∃ n : Nat, ∃ t : Nat, ((s.grnOut n).changedAt = some t) ∧ (s.grn.halted = false) ∧ (outUsed (s.outRec n) = true) ∧ (outFb (s.outRec n) ≠ 0xFF) ∧ (t + outFbMs (s.outRec n) * ms ≤ s.now) ∧ (((s.grnOut n).closed = true ↔ s.fbReleased n = false))) ∧
    (∃ s : State, ∃ n : Nat, ∃ t : Nat, ((s.grnOut n).changedAt = some t) ∧ (s.grn.halted = false) ∧ (outUsed (s.outRec n) = true) ∧ (outFb (s.outRec n) ≠ 0xFF) ∧ (t + outFbMs (s.outRec n) * ms ≤ s.now) ∧ ((s.grnOut n).closed = false) ∧ (s.fbReleased n = false)) ∧
    (∃ s : State, ∃ n : Nat, ((s.grnOut n).closed = true)) ∧
    (∃ s : State, ∃ n : Nat, ∃ t : Nat, ∃ r : Rec, ((s.grnConn n).lastAt = some t) ∧ (s.grn.image.conns.get? n = some r) ∧ ((s.grnConn n).state = 2) ∧ (s.grn.halted = false) ∧ (t + connWdMs r * ms ≤ s.now)) ∧
    (∃ s : State, ∃ n : Nat, ∃ t : Nat, ∃ r : Rec, ((s.grnConn n).lastAt = some t) ∧ (s.grn.image.conns.get? n = some r) ∧ ((s.grnConn n).state = 2) ∧ (s.grn.halted = false) ∧ (s.now < t + connWdMs r * ms)) ∧
    (∃ s : State, ∃ n : Nat, ((s.grn.image.conns.get? n).isSome = true) ∧ ((s.grnConn n).state = 1) ∧ ((s.grnConn n).lastAt = none) ∧ ((s.grnConn n).startAt + 10 * sec ≤ s.now) ∧ (s.grn.halted = false)) ∧
    (∃ s : State, ∃ n : Nat, ∃ r : Rec, (s.grn.image.conns.get? n = some r) ∧ ((s.grnConn n).sentAt + connPeriodMs r * ms ≤ s.now)) ∧
    (∃ s : State, (s.grn.halted = false) ∧ ((s.grn.image.conns.any fun e => connKind e.2 == 5 && (s.grnConn e.1).state == 2) = true)) ∧
    (∃ s : State, ∃ x : SafetySource, ∃ b : List Byte, ∃ n : Nat, ∃ len : Nat, ∃ r : Rec, (n = fld b 0 2) ∧ (len = fld b 2 1) ∧ (s.grn.halted = false) ∧ (s.connFor x n = some r) ∧ (telegramOk (connKind r) (fld b 3 1) len = false ∨ b.length < 12 + len)) ∧
    (∃ s : State, ∃ x : SafetySource, ∃ b : List Byte, ∃ n : Nat, ∃ len : Nat, ∃ r : Rec, (n = fld b 0 2) ∧ (len = fld b 2 1) ∧ (s.grn.halted = false) ∧ (s.connFor x n = some r) ∧ (telegramOk (connKind r) (fld b 3 1) len = true) ∧ (12 + len ≤ b.length) ∧ (scrc (connIdentity r) (b.take (8 + len)) ≠ fld b (8 + len) 4)) ∧
    (∃ s : State, ∃ x : SafetySource, ∃ b : List Byte, ∃ n : Nat, ∃ len : Nat, ∃ r : Rec, (n = fld b 0 2) ∧ (len = fld b 2 1) ∧ (s.grn.halted = false) ∧ (s.connFor x n = some r) ∧ (telegramOk (connKind r) (fld b 3 1) len = true) ∧ (12 + len ≤ b.length) ∧ (scrc (connIdentity r) (b.take (8 + len)) = fld b (8 + len) 4) ∧ (fld b (6 + len) 2 ≠ connWdMs r)) ∧
    (∃ s : State, ∃ x : SafetySource, ∃ b : List Byte, ∃ n : Nat, ∃ len : Nat, ∃ r : Rec, ∃ k, (n = fld b 0 2) ∧ (len = fld b 2 1) ∧ (s.grn.halted = false) ∧ (s.connFor x n = some r) ∧ (telegramOk (connKind r) (fld b 3 1) len = true) ∧ (12 + len ≤ b.length) ∧ (scrc (connIdentity r) (b.take (8 + len)) = fld b (8 + len) 4) ∧ (fld b (6 + len) 2 = connWdMs r) ∧ ((s.grnConn n).seqIn = some k) ∧ ((fld b (4 + len) 2 + 65536 - k) % 65536 = 0 ∨ 32 < (fld b (4 + len) 2 + 65536 - k) % 65536)) ∧
    (∃ s : State, ∃ x : SafetySource, ∃ b : List Byte, ∃ n : Nat, ∃ len : Nat, ∃ r : Rec, ∃ k, (n = fld b 0 2) ∧ (len = fld b 2 1) ∧ (s.grn.halted = false) ∧ (s.connFor x n = some r) ∧ (telegramOk (connKind r) (fld b 3 1) len = true) ∧ (12 + len ≤ b.length) ∧ (scrc (connIdentity r) (b.take (8 + len)) = fld b (8 + len) 4) ∧ (fld b (6 + len) 2 = connWdMs r) ∧ ((s.grnConn n).seqIn = some k) ∧ (1 ≤ (fld b (4 + len) 2 + 65536 - k) % 65536) ∧ ((fld b (4 + len) 2 + 65536 - k) % 65536 ≤ 32)) ∧
    (∃ s : State, ∃ x : SafetySource, ∃ b : List Byte, ∃ n : Nat, ∃ len : Nat, ∃ r : Rec, (n = fld b 0 2) ∧ (len = fld b 2 1) ∧ (s.grn.halted = false) ∧ (s.connFor x n = some r) ∧ (telegramOk (connKind r) (fld b 3 1) len = true) ∧ (12 + len ≤ b.length) ∧ (scrc (connIdentity r) (b.take (8 + len)) = fld b (8 + len) 4) ∧ (fld b (6 + len) 2 = connWdMs r) ∧ ((s.grnConn n).seqIn = none)) ∧
    (∃ s : State, ∃ x : SafetySource, ∃ b : List Byte, (s.connFor x (fld b 0 2) = none)) ∧
    (∃ s : State, (s.grn.safeState = true)) ∧
    (∃ s : State, (s.grn.halted = false)) :=
  ⟨⟨{ grn := { halted := true } }, by decide⟩,
   ⟨{ grn := { halted := true } }, by decide⟩,
   ⟨{ grn := { halted := true } }, by decide⟩,
   ⟨{ grn := { halted := true } }, by decide⟩,
   ⟨{}, ((List.range 16).foldl (State.inputCycle []) {}).clockCheck 0 0, (fun t : State => if t.flt.request then t.enterSafe else t) (((List.range 16).foldl (State.inputCycle []) {}).clockCheck 0 0), [], 0, 0, rfl, rfl, rfl⟩,
   ⟨{}, 24750, 49, by decide⟩,
   ⟨{}, 24749, by decide⟩,
   ⟨{ raw := true, since := 5 }, 7, 3, by decide⟩,
   ⟨{ raw := true, since := 5 }, 8, 3, by decide⟩,
   ⟨{ now := 10 * ms + 1, grn := { image := { inputs := [(15, recOf 16 [(0, 1, 0), (1, 1, 1), (4, 2, 10)])] }, inputs := [(15, { discSince := some 0 })] } }, 15, 0, by decide⟩,
   ⟨{ now := 10 * ms, grn := { image := { inputs := [(15, recOf 16 [(0, 1, 0), (1, 1, 1), (4, 2, 10)])] }, inputs := [(15, { discSince := some 0 })] } }, 15, 0, by decide⟩,
   ⟨{ grn := { image := { outputs := [(7, recOf 16 [(0, 1, 0), (1, 1, 1), (3, 1, 255), (4, 2, 1), (6, 2, 100)])] }, outputs := [(7, { cause := 8 })] } }, 7, by decide⟩,
   ⟨{ grn := { image := { outputs := [(7, recOf 16 [(0, 1, 0), (1, 1, 1), (3, 1, 255), (4, 2, 1), (6, 2, 100)])], inputs := [(0, recOf 16 [(0, 1, 0), (1, 1, 1), (4, 2, 10)])] }, outputs := [(7, { closed := true })], inputs := [(0, { demand := true })] } }, 7, by decide⟩,
   ⟨{ grn := { image := { outputs := [(7, recOf 16 [(0, 1, 0), (1, 1, 1), (3, 1, 255), (4, 2, 1), (6, 2, 100)])] }, outputs := [(7, {})] } }, 7, 4999, by decide⟩,
   ⟨{ grn := { image := { outputs := [(7, recOf 16 [(0, 1, 0), (1, 1, 1), (3, 1, 255), (4, 2, 1), (6, 2, 100)])] }, outputs := [(7, {})] } }, 7, 5000, by decide⟩,
   ⟨{ now := 1000 * ms, grn := { image := { outputs := [(7, recOf 16 [(0, 1, 0), (1, 1, 1), (3, 1, 255), (4, 2, 1), (6, 2, 100)])] }, outputs := [(7, { closed := true, testedAt := 1 })] } }, 7, by decide⟩,
   ⟨{ now := 1000 * ms, grn := { image := { outputs := [(7, recOf 16 [(0, 1, 0), (1, 1, 1), (3, 1, 255), (4, 2, 1), (6, 2, 100)])] }, outputs := [(7, { closed := true })] } }, 7, by decide⟩,
   ⟨{ grn := { image := { outputs := [(7, recOf 16 [(0, 1, 0), (1, 1, 1), (3, 1, 255), (4, 2, 1), (6, 2, 100)])] }, outputs := [(7, { closed := true })] } }, 7, 4999, 15001, by decide⟩,
   ⟨{ grn := { image := { outputs := [(7, recOf 16 [(0, 1, 0), (1, 1, 1), (3, 1, 255), (4, 2, 1), (6, 2, 100)])] }, outputs := [(7, { closed := true })] } }, 7, 0, 15000, by decide⟩,
   ⟨{ now := 100 * ms, grn := { image := { outputs := [(7, recOf 16 [(0, 1, 0), (1, 1, 1), (3, 1, 1), (4, 2, 1), (6, 2, 100)])], inputs := [(0, recOf 16 [(0, 1, 0), (1, 1, 1), (4, 2, 10)])] }, outputs := [(7, { closed := true, changedAt := some 0 })], inputs := [(1, { demand := true })] } }, 7, 0, by decide⟩,
   ⟨{ now := 100 * ms, grn := { image := { outputs := [(7, recOf 16 [(0, 1, 0), (1, 1, 1), (3, 1, 1), (4, 2, 1), (6, 2, 100)])], inputs := [(0, recOf 16 [(0, 1, 0), (1, 1, 1), (4, 2, 10)])] }, outputs := [(7, { changedAt := some 0 })], inputs := [(1, { demand := true })] } }, 7, 0, by decide⟩,
   ⟨{ grn := { image := { outputs := [(7, recOf 16 [(0, 1, 0), (1, 1, 1), (3, 1, 255), (4, 2, 1), (6, 2, 100)])] }, outputs := [(7, { closed := true })] } }, 7, by decide⟩,
   ⟨{ now := 100 * ms, grn := { image := { conns := [(511, recOf 32 [(2, 1, 1), (3, 1, 3), (4, 2, 7), (6, 2, 100), (8, 2, 30), (10, 4, 5), (14, 2, 0xFFFE)])] }, conns := [(511, { state := 2, lastAt := some 0 })] } }, 511, 0, recOf 32 [(2, 1, 1), (3, 1, 3), (4, 2, 7), (6, 2, 100), (8, 2, 30), (10, 4, 5), (14, 2, 0xFFFE)], by decide⟩,
   ⟨{ grn := { image := { conns := [(511, recOf 32 [(2, 1, 1), (3, 1, 3), (4, 2, 7), (6, 2, 100), (8, 2, 30), (10, 4, 5), (14, 2, 0xFFFE)])] }, conns := [(511, { state := 2, lastAt := some 0 })] } }, 511, 0, recOf 32 [(2, 1, 1), (3, 1, 3), (4, 2, 7), (6, 2, 100), (8, 2, 30), (10, 4, 5), (14, 2, 0xFFFE)], by decide⟩,
   ⟨{ now := 10 * sec, grn := { image := { conns := [(511, recOf 32 [(2, 1, 1), (3, 1, 3), (4, 2, 7), (6, 2, 100), (8, 2, 30), (10, 4, 5), (14, 2, 0xFFFE)])] }, conns := [(511, {})] } }, 511, by decide⟩,
   ⟨{ now := 30 * ms, grn := { image := { conns := [(511, recOf 32 [(2, 1, 1), (3, 1, 3), (4, 2, 7), (6, 2, 100), (8, 2, 30), (10, 4, 5), (14, 2, 0xFFFE)])] }, conns := [(511, {})] } }, 511, recOf 32 [(2, 1, 1), (3, 1, 3), (4, 2, 7), (6, 2, 100), (8, 2, 30), (10, 4, 5), (14, 2, 0xFFFE)], by decide⟩,
   ⟨{ grn := { image := { conns := [(511, recOf 32 [(2, 1, 5), (3, 1, 3)])] }, conns := [(511, { state := 2 })] } }, by decide⟩,
   ⟨{ grn := { image := { conns := [(511, recOf 32 [(2, 1, 1), (3, 1, 3), (4, 2, 7), (6, 2, 100), (8, 2, 30), (10, 4, 5), (14, 2, 0xFFFE)])] }, conns := [(511, { seqIn := some 65535 })] } }, .node 7, (recOf 8 [(0, 2, 511), (2, 1, 4), (3, 1, 1)]), 511, 4, recOf 32 [(2, 1, 1), (3, 1, 3), (4, 2, 7), (6, 2, 100), (8, 2, 30), (10, 4, 5), (14, 2, 0xFFFE)], by decide⟩,
   ⟨{ grn := { image := { conns := [(511, recOf 32 [(2, 1, 1), (3, 1, 3), (4, 2, 7), (6, 2, 100), (8, 2, 30), (10, 4, 5), (14, 2, 0xFFFE)])] }, conns := [(511, { seqIn := some 65535 })] } }, .node 7, (recOf 16 [(0, 2, 511), (2, 1, 4), (3, 1, 1), (8, 2, 10), (10, 2, 100), (12, 4, 2081506919)]), 511, 4, recOf 32 [(2, 1, 1), (3, 1, 3), (4, 2, 7), (6, 2, 100), (8, 2, 30), (10, 4, 5), (14, 2, 0xFFFE)], by decide⟩,
   ⟨{ grn := { image := { conns := [(511, recOf 32 [(2, 1, 1), (3, 1, 3), (4, 2, 7), (6, 2, 100), (8, 2, 30), (10, 4, 5), (14, 2, 0xFFFE)])] }, conns := [(511, { seqIn := some 65535 })] } }, .node 7, (recOf 16 [(0, 2, 511), (2, 1, 4), (3, 1, 1), (8, 2, 10), (10, 2, 99), (12, 4, 1559511606)]), 511, 4, recOf 32 [(2, 1, 1), (3, 1, 3), (4, 2, 7), (6, 2, 100), (8, 2, 30), (10, 4, 5), (14, 2, 0xFFFE)], by decide⟩,
   ⟨{ grn := { image := { conns := [(511, recOf 32 [(2, 1, 1), (3, 1, 3), (4, 2, 7), (6, 2, 100), (8, 2, 30), (10, 4, 5), (14, 2, 0xFFFE)])] }, conns := [(511, { seqIn := some 65535 })] } }, .node 7, (recOf 16 [(0, 2, 511), (2, 1, 4), (3, 1, 1), (8, 2, 32), (10, 2, 100), (12, 4, 2105267586)]), 511, 4, recOf 32 [(2, 1, 1), (3, 1, 3), (4, 2, 7), (6, 2, 100), (8, 2, 30), (10, 4, 5), (14, 2, 0xFFFE)], 65535, by decide⟩,
   ⟨{ grn := { image := { conns := [(511, recOf 32 [(2, 1, 1), (3, 1, 3), (4, 2, 7), (6, 2, 100), (8, 2, 30), (10, 4, 5), (14, 2, 0xFFFE)])] }, conns := [(511, { seqIn := some 65535 })] } }, .node 7, (recOf 16 [(0, 2, 511), (2, 1, 4), (3, 1, 1), (8, 2, 31), (10, 2, 100), (12, 4, 2091126676)]), 511, 4, recOf 32 [(2, 1, 1), (3, 1, 3), (4, 2, 7), (6, 2, 100), (8, 2, 30), (10, 4, 5), (14, 2, 0xFFFE)], 65535, by decide⟩,
   ⟨{ grn := { image := { conns := [(511, recOf 32 [(2, 1, 1), (3, 1, 3), (4, 2, 7), (6, 2, 100), (8, 2, 30), (10, 4, 5), (14, 2, 0xFFFE)])] }, conns := [(511, {})] } }, .node 7, (recOf 16 [(0, 2, 511), (2, 1, 4), (3, 1, 1), (8, 2, 31), (10, 2, 100), (12, 4, 2091126676)]), 511, 4, recOf 32 [(2, 1, 1), (3, 1, 3), (4, 2, 7), (6, 2, 100), (8, 2, 30), (10, 4, 5), (14, 2, 0xFFFE)], by decide⟩,
   ⟨{}, .pair, [], by decide⟩,
   ⟨{ grn := { safeState := true } }, by decide⟩,
   ⟨{}, by decide⟩⟩

/-- Operands and states that meet the hypotheses of FaultCollector. -/
theorem test_witness_FaultCollector :
    (∃ s : State, ∃ q : Nat, ∃ tag : Nat, ∃ c : InFlight, (Starts 0x1200 q tag s c) ∧ (1 ≤ c.desc.u 34 2) ∧ (32 * c.desc.u 34 2 ≤ c.desc.dataLen) ∧ (c.desc.u 32 2 + c.desc.u 34 2 ≤ 512)) ∧
    (∃ s : State, ∃ q : Nat, ∃ tag : Nat, ∃ c : InFlight, ∃ r, (Starts 0x1201 q tag s c) ∧ (sourceRow (c.desc.u 32 2) = some r) ∧ (c.desc.u 34 1 ≤ 3) ∧ (bit r.allowed (c.desc.u 34 1) = true)) ∧
    (∃ s : State, ∃ q : Nat, ∃ tag : Nat, ∃ c : InFlight, ∃ r, (Starts 0x1201 q tag s c) ∧ (sourceRow (c.desc.u 32 2) = some r) ∧ (bit r.allowed (c.desc.u 34 1) = false)) ∧
    (∃ s : State, ∃ q : Nat, ∃ tag : Nat, ∃ c : InFlight, ∃ r : SourceRow, ∃ l : List Nat, ∃ t : State, (Starts 0x1202 q tag s c) ∧ (sourceRow (c.desc.u 32 2) = some r) ∧ (s.isStandby = false ∨ c.desc.u 32 2 < 64 ∨ 288 ≤ c.desc.u 32 2) ∧ (c.desc.object = 0xFFFFFFFF ∨ s.clearRefused r.kind c.desc.object = false) ∧ (l = (s.clearTargets (c.desc.u 32 2) c.desc.object).filter (fun o => !s.clearRefused r.kind o)) ∧ (t = ((l.foldl (fun (u : State) o => u.releaseHold (c.desc.u 32 2) r.kind o) (s.start c.uid)).clearBit (c.desc.u 32 2)).noteDegraded)) ∧
    (∃ s : State, ∃ q : Nat, ∃ tag : Nat, ∃ c : InFlight, ∃ r, (Starts 0x1202 q tag s c) ∧ (sourceRow (c.desc.u 32 2) = some r) ∧ (s.isStandby = false) ∧ (c.desc.object ≠ 0xFFFFFFFF) ∧ (s.clearRefused r.kind c.desc.object = true)) ∧
    (∃ s : State, ∃ q : Nat, ∃ tag : Nat, ∃ c : InFlight, (Starts 0x1202 q tag s c) ∧ (s.isStandby = true) ∧ (64 ≤ c.desc.u 32 2) ∧ (c.desc.u 32 2 < 288)) ∧
    (∃ s : State, ∃ q : Nat, ∃ tag : Nat, ∃ c : InFlight, (Starts 0x1202 q tag s c) ∧ (s.isStandby = false ∨ c.desc.u 32 2 < 64 ∨ 288 ≤ c.desc.u 32 2) ∧ (sourceRow (c.desc.u 32 2) = none)) ∧
    (∃ s : State, ∃ q : Nat, ∃ tag : Nat, ∃ c : InFlight, (Starts 0x1203 q tag s c) ∧ (480 ≤ c.desc.u 32 2) ∧ (c.desc.u 32 2 ≤ 511)) ∧
    (∃ s : State, ∃ q : Nat, ∃ tag : Nat, ∃ c : InFlight, (Starts 0x1203 q tag s c) ∧ (c.desc.u 32 2 < 480 ∨ 511 < c.desc.u 32 2)) ∧
    (∃ k : Nat, ∃ r : SourceRow, (sourceRow k = some r) ∧ (r.kind ≠ 4)) ∧
    (∃ k : Nat, ∃ r : SourceRow, (sourceRow k = some r) ∧ (r.kind = 4)) ∧
    (∃ s : State, (s.flt.request = true)) ∧
    (∃ k : Nat, (sourceRow k = none)) ∧
    (∃ s : State, ∃ k : Nat, ∃ r : SourceRow, ∃ j, (sourceRow k = some r) ∧ (r.kind = 0) ∧ (s.flt.request = false) ∧ (s.reaction r = 0) ∧ (j ≠ k)) ∧
    (∃ s : State, ∃ k : Nat, ∃ r : SourceRow, (sourceRow k = some r) ∧ (3 ≤ r.kind) ∧ (s.flt.request = false) ∧ (s.reaction r ≠ 0) ∧ (s.reaction r ≤ 2)) ∧
    (∃ l : List Hold, ∃ k : Nat, ∃ o : Nat, ∃ h : Hold, (h ∈ l) ∧ (h.source ≠ k ∨ h.object ≠ o)) ∧
    (∃ s : State, ∃ q : Nat, ∃ t : Nat, ((s.qp q).fullSince = some t) ∧ ((s.qp q).stalled = false) ∧ (t + s.pms PAR_FLT_QSTALL_MS ≤ s.now)) ∧
    (∃ s : State, ∃ q : Nat, ((s.qp q).fullSince = none)) ∧
    (∃ s : State, (s.flt.request = true)) ∧
    (∃ a : List (Nat × Nat), ∃ b : List (Nat × Nat), (parityFails a = false) ∧ (copiesDiffer a b = false)) ∧
    (∃ s : State, ∃ a : List (Nat × Nat), ∃ b : List (Nat × Nat), (s.flt.request = false) ∧ (parityFails a = true ∨ copiesDiffer a b = true)) :=
  ⟨⟨waits {} (desc 0x1200 0 [(12, 4, 32), (32, 2, 511), (34, 2, 1)] []), 0, 1, cmd (desc 0x1200 0 [(12, 4, 32), (32, 2, 511), (34, 2, 1)] []), by decide⟩,
   ⟨waits {} (desc 0x1201 0 [(32, 2, 225), (34, 1, 3)] []), 0, 1, cmd (desc 0x1201 0 [(32, 2, 225), (34, 1, 3)] []), (sourceRow 225).getD ⟨0, 0, 0, 0⟩, by decide⟩,
   ⟨waits {} (desc 0x1201 0 [(32, 2, 225), (34, 1, 1)] []), 0, 1, cmd (desc 0x1201 0 [(32, 2, 225), (34, 1, 1)] []), (sourceRow 225).getD ⟨0, 0, 0, 0⟩, by decide⟩,
   ⟨waits { pair := { role := ROLE_ACTIVE } } (desc 0x1202 0xFFFFFFFF [(32, 2, 225)] []), 0, 1, cmd (desc 0x1202 0xFFFFFFFF [(32, 2, 225)] []), (sourceRow 225).getD ⟨0, 0, 0, 0⟩, [], ((waits { pair := { role := ROLE_ACTIVE } } (desc 0x1202 0xFFFFFFFF [(32, 2, 225)] [])).start 7 |>.clearBit 225).noteDegraded, by decide⟩,
   ⟨waits { pair := { role := ROLE_ACTIVE }, stg := { stages := [(6, { state := 1 })] } } (desc 0x1202 6 [(32, 2, 193)] []), 0, 1, cmd (desc 0x1202 6 [(32, 2, 193)] []), (sourceRow 193).getD ⟨0, 0, 0, 0⟩, by decide⟩,
   ⟨waits {} (desc 0x1202 0 [(32, 2, 65)] []), 0, 1, cmd (desc 0x1202 0 [(32, 2, 65)] []), by decide⟩,
   ⟨waits {} (desc 0x1202 0 [(32, 2, 450)] []), 0, 1, cmd (desc 0x1202 0 [(32, 2, 450)] []), by decide⟩,
   ⟨waits {} (desc 0x1203 0 [(32, 2, 511)] []), 0, 1, cmd (desc 0x1203 0 [(32, 2, 511)] []), by decide⟩,
   ⟨waits {} (desc 0x1203 0 [(32, 2, 512)] []), 0, 1, cmd (desc 0x1203 0 [(32, 2, 512)] []), by decide⟩,
   ⟨129, (sourceRow 129).getD ⟨0, 0, 0, 0⟩, by decide⟩,
   ⟨192, (sourceRow 192).getD ⟨0, 0, 0, 0⟩, by decide⟩,
   ⟨{ flt := { request := true } }, by decide⟩,
   ⟨450, by decide⟩,
   ⟨{}, 449, (sourceRow 449).getD ⟨0, 0, 0, 0⟩, 448, by decide⟩,
   ⟨{}, 225, (sourceRow 225).getD ⟨0, 0, 0, 0⟩, by decide⟩,
   ⟨[⟨98, 1, 1⟩], 98, 2, ⟨98, 1, 1⟩, by decide⟩,
   ⟨{ now := hour, mbx := { qp := [(15, { fullSince := some 0 })] } }, 15, 0, by decide⟩,
   ⟨{}, 0, by decide⟩,
   ⟨{ flt := { request := true } }, by decide⟩,
   ⟨[(3, 3)], [(3, 3)], by decide⟩,
   ⟨{}, [], [(7, 8)], by decide⟩⟩

/-- Operands and states that meet the hypotheses of PairRows. -/
theorem test_witness_PairRows :
    (∃ s : State, ∃ q : Nat, ∃ tag : Nat, ∃ c : InFlight, (Starts 0x1300 q tag s c)) ∧
    (∃ s : State, ∃ q : Nat, ∃ tag : Nat, ∃ c : InFlight, (Starts 0x1301 q tag s c) ∧ (s.partnerReady = false)) ∧
    (∃ s : State, ∃ q : Nat, ∃ tag : Nat, ∃ c : InFlight, ∃ p, (Starts 0x1301 q tag s c) ∧ (s.partnerReady = true) ∧ (s.partnerSeen = some p) ∧ (p.selfTest = true) ∧ (s.pair.split = true ∨ s.pair.healing = true)) ∧
    (∃ s : State, ∃ q : Nat, ∃ tag : Nat, ∃ c : InFlight, ∃ p, (Starts 0x1301 q tag s c) ∧ (s.partnerReady = true) ∧ (s.partnerSeen = some p) ∧ (p.selfTest = true) ∧ (s.pair.split = false) ∧ (s.pair.healing = false)) ∧
    (∃ s : State, ∃ u : Nat, ∃ h : Nat, ∃ t : Nat, (s.pair.switchCmd = some (u, h, t)) ∧ (t ≤ s.now)) ∧
    (∃ s : State, (s.pair.link = false ∨ s.partnerConfigured = false)) ∧
    (∃ s : State, (s.pair.link = true) ∧ (s.partnerConfigured = true) ∧ (s.pair.sync = SYNC_DOWN)) ∧
    (∃ s : State, (s.pair.link = true) ∧ (s.partnerConfigured = true) ∧ (s.pair.sync ≠ SYNC_DOWN) ∧ (s.isPaired = false)) ∧
    (∃ s : State, (s.cageLit 4 = true) ∧ (s.partnerConfigured = false)) ∧
    (∃ s : State, (s.cageLit 4 = false)) ∧
    (∃ s : State, (s.cageLit 4 = true) ∧ (s.partnerConfigured = true) ∧ (s.pair.sync = SYNC_DOWN)) ∧
    (∃ s : State, (s.pair.statusAt + 3 * ms ≤ s.now)) ∧
    (∃ s : State, (s.now < s.pair.statusAt + 3 * ms)) ∧
    (∃ s : State, (s.pair.sync = SYNC_DOWN)) ∧
    (∃ s : State, (s.pair.mismatch ≠ 0) ∧ (s.pair.checkedAt + 10 * sec ≤ s.now)) ∧
    (∃ s : State, (s.pair.sync < SYNC_SYNCING ∨ s.hasLease = false ∨ s.pair.sentCycle = some s.pair.siteCycle)) ∧
    (∃ s : State, (SYNC_SYNCING < s.pair.sync) ∧ (s.hasLease = true) ∧ (s.pair.sentCycle ≠ some s.pair.siteCycle)) ∧
    (∃ s : State, (s.pair.link = false ∨ s.pair.sync < SYNC_SYNCING)) ∧
    (∃ s : State, ∃ m : PairImage, (s.pair.link = true) ∧ (s.isPaired = true) ∧ (s.isActive = true) ∧ (m.kind = 0) ∧ ((∀ k, s.pair.imageCycle = some k → m.siteCycle = (k + 1) % 2 ^ 32))) ∧
    (∃ s : State, ∃ k : Nat, (s.pair.outst.find? (fun e => e.2.1 == k) = none)) ∧
    (∃ s : State, ∃ k : Nat, ∃ n : Nat, ∃ a : Nat, (s.pair.outst.find? (fun e => e.2.1 == k) = some (n, k, a)) ∧ (s.pair.sync ≠ SYNC_SYNCING) ∧ (s.pair.finalImage = none)) ∧
    (∃ s : State, ∃ n : Nat, ∃ k : Nat, ∃ a : Nat, ∃ l : List (Nat × Nat × Nat), (s.pair.outst = (n, k, a) :: l) ∧ (s.now < a + 2 * ms)) ∧
    (∃ s : State, ∃ n : Nat, ∃ k : Nat, ∃ a : Nat, ∃ l : List (Nat × Nat × Nat), (s.pair.outst = (n, k, a) :: l) ∧ (a + 2 * ms ≤ s.now) ∧ (SYNC_SYNCING ≤ s.pair.sync)) ∧
    (∃ s : State, (s.isActive = true) ∧ (s.partnerConfigured = true) ∧ (s.pn PAR_PAIR_SWITCH_DAYS ≤ (s.now - s.pair.switchAt) / (24 * hour)) ∧ (s.pair.switchDue = false)) ∧
    (∃ s : State, ∃ q : Nat, ∃ tag : Nat, (s.forwarded q tag = none)) ∧
    (∃ s : State, ∃ q : Nat, ∃ tag : Nat, ∃ c : InFlight, (s.forwarded q tag = some c) ∧ (c.deadline ≠ 0) ∧ (c.deadline ≤ s.now)) ∧
    (∃ s : State, ∃ d : Desc, ∃ m : Option MirrorStore, (mirroredBody d.opcode m = none ∨ s.isActive = true ∨ s.isPaired = false)) ∧
    (∃ s : State, ∃ d : Desc, ∃ m : Option MirrorStore, ∃ f : InFlight → State → State, ∃ c : InFlight, (mirroredBody d.opcode m = some f) ∧ (s.isActive = false) ∧ (s.isPaired = true) ∧ (c = { uid := s.mbx.nextUid, q := PARTNER_Q, entry := 0, desc := d, phase := .running })) ∧
    (∃ s : State, (s.pair.link = true) ∧ (SYNC_SYNCING ≤ s.pair.sync)) ∧
    (∃ s : State, ∃ t : State, ∃ p : PartnerStatus, (s.pair.link = true) ∧ (s.partnerConfigured = true) ∧ (s.pair.sync ≠ SYNC_DOWN) ∧ (t = s.updPair (fun x => { x with partner := some p, statusAt := s.now }))) :=
  ⟨⟨waits {} (desc 0x1300 0 [] []), 0, 1, cmd (desc 0x1300 0 [] []), by decide⟩,
   ⟨waits {} (desc 0x1301 0 [] []), 0, 1, cmd (desc 0x1301 0 [] []), by decide⟩,
   ⟨waits { pair := { sync := 3, partner := some {}, split := true } } (desc 0x1301 0 [] []), 0, 1, cmd (desc 0x1301 0 [] []), {}, by decide⟩,
   ⟨waits { pair := { sync := 3, partner := some {} } } (desc 0x1301 0 [] []), 0, 1, cmd (desc 0x1301 0 [] []), {}, by decide⟩,
   ⟨{ now := 4, pair := { switchCmd := some (7, 1, 4) } }, 7, 1, 4, by decide⟩,
   ⟨{}, by decide⟩,
   ⟨{ obs := { slots := [(4, { uses := 0x2000 })] }, pair := { link := true } }, by decide⟩,
   ⟨{ obs := { slots := [(4, { uses := 0x2000 })] }, pair := { link := true, sync := 2 } }, by decide⟩,
   ⟨{ pins := { optics := [(4, { tx := true })] }, obs := { slots := [] } }, by decide⟩,
   ⟨{ pins := { optics := [(4, { tx := false })] } }, by decide⟩,
   ⟨{ pins := { optics := [(4, { tx := true })] }, obs := { slots := [(4, { uses := 0x2000 })] } }, by decide⟩,
   ⟨{ now := 3 * ms }, by decide⟩,
   ⟨{}, by decide⟩,
   ⟨{}, by decide⟩,
   ⟨{ now := 10 * sec, pair := { mismatch := 6 } }, by decide⟩,
   ⟨{}, by decide⟩,
   ⟨{ ring := { nodes := [(7, { leased := true })] }, pair := { sync := 3 } }, by decide⟩,
   ⟨{}, by decide⟩,
   ⟨{ pair := { link := true, sync := 3, role := ROLE_ACTIVE, imageCycle := some 4294967295 } }, {}, by decide, by decide, by decide, by decide, by intro k h; cases h; decide⟩,
   ⟨{}, 0, by decide⟩,
   ⟨{ pair := { sync := 3, outst := [(1, 5, 0)] } }, 5, 1, 0, by decide⟩,
   ⟨{ pair := { outst := [(1, 5, 0)] } }, 1, 5, 0, [], by decide⟩,
   ⟨{ now := 2 * ms, pair := { sync := 2, outst := [(1, 5, 0)] } }, 1, 5, 0, [], by decide⟩,
   ⟨{ obs := { slots := [(4, { uses := 0x2000 })] }, now := 24000 * hour, pair := { role := ROLE_ACTIVE } }, by decide⟩,
   ⟨{}, 0, 0, by decide⟩,
   ⟨{ now := 5, mbx := { inflight := [{ uid := 7, q := 0, entry := 0, desc := desc 0x0201 0 [] [], phase := .running, deadline := 5, partner := some 0 }] } }, 0, 1, { uid := 7, q := 0, entry := 0, desc := desc 0x0201 0 [] [], phase := .running, deadline := 5, partner := some 0 }, by decide⟩,
   ⟨{}, { bytes := padTo 64 [], data := [] }, none, by decide⟩,
   ⟨{ pair := { role := ROLE_STANDBY, sync := 3 } }, desc 0x0201 0 [] [], none, parSet, { uid := 0, q := PARTNER_Q, entry := 0, desc := desc 0x0201 0 [] [], phase := .running }, rfl, by decide, by decide, by decide⟩,
   ⟨{ pair := { link := true, sync := 3, role := ROLE_STANDBY } }, by decide⟩,
   ⟨{ obs := { slots := [(4, { uses := 0x2000 })] }, pair := { link := true, sync := 3, partner := some {}, role := ROLE_STANDBY } }, ({ obs := { slots := [(4, { uses := 0x2000 })] }, pair := { link := true, sync := 3, partner := some {}, role := ROLE_STANDBY } } : State).updPair fun x => { x with partner := some {}, statusAt := ({ obs := { slots := [(4, { uses := 0x2000 })] }, pair := { link := true, sync := 3, partner := some {}, role := ROLE_STANDBY } } : State).now }, {}, by decide, by decide, by decide, rfl⟩⟩

/-- Operands and states that meet the hypotheses of ControlPasses. -/
theorem test_witness_ControlPasses :
    (∃ s : State, ∃ r : Nat, (s.givesUp r = true) ∧ (s.pair.outCause ≠ r) ∧ (s.pair.role ≠ ROLE_OUT) ∧ (s.pair.role ≠ ROLE_RELEASING ∨ r ≤ 4) ∧ (r ≠ 2)) ∧
    (∃ s : State, ∃ r : Nat, (s.givesUp r = false)) ∧
    (∃ s : State, ∃ r : Nat, ∃ c : InFlight, (c ∈ (s.giveUp r).mbx.inflight) ∧ (s.pair.role = ROLE_ACTIVE)) ∧
    (∃ s : State, ∃ r : Nat, (s.pair.role = ROLE_STANDBY) ∧ (r ≤ 4)) ∧
    (∃ c : InFlight, (c.phase = .waiting)) ∧
    (∃ c : InFlight, (c.phase = .running) ∧ (c.desc.opcode = 0x1301 ∨ c.desc.opcode ∈ readOnlyOps)) ∧
    (∃ c : InFlight, (c.phase = .running) ∧ (c.desc.opcode ≠ 0x1301) ∧ (c.desc.opcode ∉ readOnlyOps)) ∧
    (∃ s : State, ∃ t : Nat, (s.pair.firstScan = some t) ∧ (t + s.pms PAR_PAIR_START_WAIT_MS ≤ s.now) ∧ (s.pair.waitDone = false)) ∧
    (∃ s : State, ∃ t : Nat, (s.pair.firstScan = some t) ∧ (s.now < t + s.pms PAR_PAIR_START_WAIT_MS)) ∧
    (∃ s : State, (s.pair.link = false)) ∧
    (∃ s : State, ∃ t : State, ∃ e : Nat, (s.pair.link = true) ∧ (t = s.portsOwn.updPair (fun x => { x with released := some e })) ∧ (t.pair.healing = false) ∧ (t.pair.role = ROLE_STANDBY)) ∧
    (∃ s : State, ∃ t : State, ∃ e : Nat, (s.pair.link = true) ∧ (t = s.portsOwn.updPair (fun x => { x with released := some e })) ∧ (t.pair.healing = true) ∧ (t.isActive = true)) ∧
    (∃ s : State, (s.partnerSeen = none)) ∧
    (∃ s : State, ∃ p : PartnerStatus, (s.partnerSeen = some p) ∧ (s.isActive = true) ∧ (p.role = ROLE_ACTIVE) ∧ (s.isPaired = true) ∧ (p.synchronised = true) ∧ (s.pair.healSeen = true) ∧ (p.healSeen = true) ∧ (s.pair.healing = false) ∧ (s.keeps p = true)) ∧
    (∃ s : State, ∃ p : PartnerStatus, (s.partnerSeen = some p) ∧ (s.isActive = true) ∧ (p.role = ROLE_ACTIVE) ∧ (s.isPaired = true) ∧ (p.synchronised = true) ∧ (s.pair.healSeen = true) ∧ (p.healSeen = true) ∧ (s.pair.healing = false) ∧ (s.keeps p = false)) ∧
    (∃ s : State, (s.holdsAnchor = true)) ∧
    (∃ s : State, ∃ p : PartnerStatus, (s.holdsAnchor = false) ∧ (p.anchor = true)) ∧
    (∃ s : State, (s.pair.role ≠ ROLE_STANDBY ∨ s.pair.lockstep = false ∨ s.pair.ownEngines = false)) ∧
    (∃ s : State, ∃ x : LockInputs, (s.pair.role = ROLE_STANDBY) ∧ (s.pair.lockstep = true) ∧ (s.pair.ownEngines = true) ∧ (x.digest = s.ownDigest x)) ∧
    (∃ s : State, ∃ x : LockInputs, (s.pair.role = ROLE_STANDBY) ∧ (s.pair.lockstep = true) ∧ (s.pair.ownEngines = true) ∧ (x.digest ≠ s.ownDigest x)) ∧
    (∃ s : State, (s.isActive = true) ∧ (s.pair.lockstep = true)) ∧
    (∃ s : State, (s.isActive = true) ∧ (s.pair.lockstep = true)) :=
  ⟨⟨{ grn := { halted := true }, pair := { role := ROLE_RELEASING } }, 3, by decide⟩,
   ⟨{}, 0, by decide⟩,
   ⟨{ mbx := { inflight := [{ uid := 7, q := 0, entry := 0, desc := desc 0x1300 0 [] [], phase := .running }] }, pair := { role := ROLE_ACTIVE } }, 4, { uid := 7, q := 0, entry := 0, desc := desc 0x1300 0 [] [], phase := .running }, by decide⟩,
   ⟨{ pair := { role := ROLE_STANDBY } }, 4, by decide⟩,
   ⟨cmd (desc 0x0201 0 [] []), by decide⟩,
   ⟨{ uid := 7, q := 0, entry := 0, desc := desc 0x1301 0 [] [], phase := .running }, by decide⟩,
   ⟨{ uid := 7, q := 0, entry := 0, desc := desc 0x0201 0 [] [], phase := .running }, by decide⟩,
   ⟨{ now := 24 * hour, pair := { firstScan := some 0 } }, 0, by decide⟩,
   ⟨{ pair := { firstScan := some 0 } }, 0, by decide⟩,
   ⟨{}, by decide⟩,
   ⟨{ pair := { link := true, role := ROLE_STANDBY } }, ({ pair := { link := true, role := ROLE_STANDBY } } : State).portsOwn.updPair (fun x => { x with released := some 1 }), 1, by decide⟩,
   ⟨{ pair := { link := true, healing := true, role := ROLE_ACTIVE } }, ({ pair := { link := true, healing := true, role := ROLE_ACTIVE } } : State).portsOwn.updPair (fun x => { x with released := some 1 }), 1, by decide⟩,
   ⟨{}, by decide⟩,
   ⟨{ ring := { plans := [(7, recOf 32 [(23, 1, 1)])], nodes := [(7, { leased := true })] }, pair := { link := true, sync := 3, role := ROLE_ACTIVE, healSeen := true, partner := some { role := ROLE_ACTIVE, synchronised := true, healSeen := true, anchor := false } } }, { role := ROLE_ACTIVE, synchronised := true, healSeen := true, anchor := false }, by decide⟩,
   ⟨{ pair := { link := true, sync := 3, role := ROLE_ACTIVE, healSeen := true, partner := some { role := ROLE_ACTIVE, synchronised := true, healSeen := true, anchor := true } } }, { role := ROLE_ACTIVE, synchronised := true, healSeen := true, anchor := true }, by decide⟩,
   ⟨{ ring := { plans := [(7, recOf 32 [(23, 1, 1)])], nodes := [(7, { leased := true })] } }, by decide⟩,
   ⟨{}, { anchor := true }, by decide⟩,
   ⟨{}, by decide⟩,
   ⟨{ pair := { role := ROLE_STANDBY, lockstep := true, ownEngines := true } }, { window := 0, frames := [], missed := [], polls := [], site := [], events := [], samples := [], observer := false, commands := [], digest := (State.ownDigest { pair := { role := ROLE_STANDBY, lockstep := true, ownEngines := true } } { window := 0, frames := [], missed := [], polls := [], site := [], events := [], samples := [], observer := false, commands := [], digest := 0 }) }, by decide, by decide, by decide, rfl⟩,
   ⟨{ pair := { role := ROLE_STANDBY, lockstep := true, ownEngines := true } }, { window := 0, frames := [], missed := [], polls := [], site := [], events := [], samples := [], observer := false, commands := [], digest := (State.ownDigest { pair := { role := ROLE_STANDBY, lockstep := true, ownEngines := true } } { window := 0, frames := [], missed := [], polls := [], site := [], events := [], samples := [], observer := false, commands := [], digest := 0 }) + 1 }, by decide, by decide, by decide, (show (State.ownDigest { pair := { role := ROLE_STANDBY, lockstep := true, ownEngines := true } } { window := 0, frames := [], missed := [], polls := [], site := [], events := [], samples := [], observer := false, commands := [], digest := 0 }) + 1 ≠ (State.ownDigest { pair := { role := ROLE_STANDBY, lockstep := true, ownEngines := true } } { window := 0, frames := [], missed := [], polls := [], site := [], events := [], samples := [], observer := false, commands := [], digest := 0 }) from Nat.succ_ne_self _)⟩,
   ⟨{ pair := { role := ROLE_ACTIVE, lockstep := true } }, by decide⟩,
   ⟨{ pair := { role := ROLE_ACTIVE, lockstep := true, fwdOpen := true } }, by decide⟩⟩

/-- Operands and states that meet the hypotheses of SystemRows. -/
theorem test_witness_SystemRows :
    (∃ s : State, ∃ q : Nat, ∃ tag : Nat, ∃ c : InFlight, (Starts 0x0100 q tag s c) ∧ (c.desc.u 32 1 ≤ 1) ∧ (c.desc.u 33 1 ≤ 1) ∧ (s.isActive = false ∨ s.isPaired = false ∨ c.desc.u 33 1 = 1)) ∧
    (∃ s : State, ∃ q : Nat, ∃ tag : Nat, ∃ c : InFlight, (Starts 0x0100 q tag s c) ∧ (c.desc.u 32 1 ≤ 1) ∧ (c.desc.u 33 1 ≤ 1) ∧ (s.isActive = true) ∧ (s.isPaired = true) ∧ (c.desc.u 33 1 = 0)) ∧
    (∃ s : State, ∃ q : Nat, ∃ tag : Nat, ∃ c : InFlight, (Starts 0x0100 q tag s c) ∧ (1 < c.desc.u 32 1 ∨ 1 < c.desc.u 33 1)) ∧
    (∃ s : State, ∃ q : Nat, ∃ tag : Nat, ∃ c : InFlight, ∃ n, (Starts 0x0101 q tag s c) ∧ (s.sys.fwActive = some n) ∧ ((s.fw n).state = 0x7F ∨ (s.fw n).state = 0x3F)) ∧
    (∃ s : State, ∃ q : Nat, ∃ tag : Nat, ∃ c : InFlight, ∃ b, (Starts 0x0101 q tag s c) ∧ (s.sys.activate = none) ∧ ((∀ n, s.sys.fwActive = some n → (s.fw n).state ≠ 0x7F ∧ (s.fw n).state ≠ 0x3F)) ∧ (b = (if c.desc.u 32 4 = 0 then [] else (s.fw s.fwOther).bytes) ++ c.desc.data) ∧ (c.desc.u 32 4 + c.desc.data.length = b.length) ∧ (c.desc.u 32 4 = 0 ∨ (s.fw s.fwOther).verified = false) ∧ (b.length ≤ 192 * 1048576) ∧ (c.desc.u 36 1 = 0)) ∧
    (bundleAuthentic (recOf 416 [(0, 4, 0x4E425746), (4, 2, 1), (6, 2, 0x9100), (12, 2, 63), (16, 1, 255), (17, 1, 1), (20, 4, 416), (24, 4, 0xFFFFFFFF), (64, 1, 1), (68, 4, 416)]) = true → ∃ s : State, ∃ q : Nat, ∃ tag : Nat, ∃ c : InFlight, ∃ b, (Starts 0x0101 q tag s c) ∧ (s.sys.activate = none) ∧ ((∀ n, s.sys.fwActive = some n → (s.fw n).state ≠ 0x7F ∧ (s.fw n).state ≠ 0x3F)) ∧ (b = (if c.desc.u 32 4 = 0 then [] else (s.fw s.fwOther).bytes) ++ c.desc.data) ∧ (c.desc.u 32 4 + c.desc.data.length = b.length) ∧ (c.desc.u 32 4 = 0 ∨ (s.fw s.fwOther).verified = false) ∧ (b.length ≤ 192 * 1048576) ∧ (c.desc.u 36 1 = 1) ∧ (bundleForm b = true) ∧ (bundleAuthentic b = true) ∧ (s.sys.fuse ≤ fwbSec b)) ∧
    (bundleAuthentic (recOf 416 [(0, 4, 0x4E425746), (4, 2, 1), (6, 2, 0x9100), (12, 2, 63), (16, 1, 255), (17, 1, 1), (20, 4, 416), (24, 4, 0xFFFFFFFF), (64, 1, 1), (68, 4, 416)]) = true → ∃ s : State, ∃ q : Nat, ∃ tag : Nat, ∃ c : InFlight, ∃ b, (Starts 0x0101 q tag s c) ∧ (s.sys.activate = none) ∧ ((∀ n, s.sys.fwActive = some n → (s.fw n).state ≠ 0x7F ∧ (s.fw n).state ≠ 0x3F)) ∧ (b = (if c.desc.u 32 4 = 0 then [] else (s.fw s.fwOther).bytes) ++ c.desc.data) ∧ (c.desc.u 32 4 + c.desc.data.length = b.length) ∧ (c.desc.u 32 4 = 0 ∨ (s.fw s.fwOther).verified = false) ∧ (b.length ≤ 192 * 1048576) ∧ (c.desc.u 36 1 = 1) ∧ (bundleForm b = true) ∧ (bundleAuthentic b = true) ∧ (fwbSec b < s.sys.fuse)) ∧
    (bundleAuthentic (recOf 416 [(0, 4, 0x4E425746), (4, 2, 1), (6, 2, 0x9100), (12, 2, 63), (16, 1, 255), (17, 1, 1), (20, 4, 416), (24, 4, 0xFFFFFFFF), (64, 1, 1), (68, 4, 416)]) = false → ∃ s : State, ∃ q : Nat, ∃ tag : Nat, ∃ c : InFlight, ∃ b, (Starts 0x0101 q tag s c) ∧ (s.sys.activate = none) ∧ ((∀ n, s.sys.fwActive = some n → (s.fw n).state ≠ 0x7F ∧ (s.fw n).state ≠ 0x3F)) ∧ (b = (if c.desc.u 32 4 = 0 then [] else (s.fw s.fwOther).bytes) ++ c.desc.data) ∧ (c.desc.u 32 4 + c.desc.data.length = b.length) ∧ (c.desc.u 32 4 = 0 ∨ (s.fw s.fwOther).verified = false) ∧ (b.length ≤ 192 * 1048576) ∧ (c.desc.u 36 1 = 1) ∧ (bundleForm b = true) ∧ (bundleAuthentic b = false)) ∧
    (∃ s : State, ∃ q : Nat, ∃ tag : Nat, ∃ c : InFlight, (Starts 0x0102 q tag s c) ∧ (s.sys.activate = none) ∧ ((s.fw s.fwOther).verified = true) ∧ ((s.fw s.fwOther).state = 0xFF) ∧ ((s.fw s.fwOther).version = c.desc.u 32 4) ∧ (s.copyFits (s.fw s.fwOther) 3 = false) ∧ (s.sealOpen = false)) ∧
    (∃ s : State, ∃ q : Nat, ∃ tag : Nat, ∃ c : InFlight, (Starts 0x0102 q tag s c) ∧ (s.sys.activate = none) ∧ ((s.fw s.fwOther).verified = true) ∧ ((s.fw s.fwOther).state = 0xFF) ∧ ((s.fw s.fwOther).version = c.desc.u 32 4) ∧ (s.copyFits (s.fw s.fwOther) 3 = true ∨ s.sealOpen = true) ∧ (s.copyFits (s.fw s.fwOther) 2 = false)) ∧
    (∃ s : State, ∃ q : Nat, ∃ tag : Nat, ∃ c : InFlight, (Starts 0x0102 q tag s c) ∧ (s.sys.activate = none) ∧ ((s.fw s.fwOther).verified = true) ∧ ((s.fw s.fwOther).state = 0xFF) ∧ ((s.fw s.fwOther).version = c.desc.u 32 4) ∧ (s.copyFits (s.fw s.fwOther) 3 = true ∨ s.sealOpen = true) ∧ (s.copyFits (s.fw s.fwOther) 2 = true)) ∧
    (∃ s : State, ∃ q : Nat, ∃ tag : Nat, ∃ c : InFlight, (Starts 0x0102 q tag s c) ∧ (s.sys.activate = none) ∧ ((s.fw s.fwOther).verified = false ∨ (s.fw s.fwOther).version ≠ c.desc.u 32 4)) ∧
    (∃ s : State, ∃ q : Nat, ∃ tag : Nat, ∃ c : InFlight, ∃ n, (Starts 0x0103 q tag s c) ∧ (s.sys.fwActive = some n) ∧ ((s.fw n).state = 0x7F ∨ (s.fw n).state = 0x3F)) ∧
    (∃ s : State, ∃ q : Nat, ∃ tag : Nat, ∃ c : InFlight, (Starts 0x0103 q tag s c) ∧ (s.sys.fwActive = none)) ∧
    (∃ s : State, ∃ q : Nat, ∃ tag : Nat, ∃ c : InFlight, (Starts 0x0104 q tag s c)) ∧
    (∃ s : State, ∃ u : Nat, ∃ t : Nat, (s.sys.activate = some (u, true, t)) ∧ (t ≤ s.now)) ∧
    (∃ s : State, ∃ v : Nat, (s.sys.pg = true ∨ v ≤ 18000)) ∧
    (∃ s : State, ∃ v : Nat, (s.sys.pg = false) ∧ (s.sys.pfw = false ∨ s.sys.powered = 0) ∧ (18000 < v)) ∧
    (∃ s : State, ∃ v : Nat, (s.sys.pg = false ∨ s.sys.pfw = true ∨ 16500 ≤ v)) ∧
    (∃ s : State, ∃ v : Nat, (s.sys.pg = true) ∧ (s.sys.pfw = false) ∧ (v < 16500) ∧ (s.par.op = none)) ∧
    (∃ s : State, ∃ u : State, ∃ v : Nat, ∃ op : NvOp, (s.sys.pg = true) ∧ (s.sys.pfw = false) ∧ (v < 16500) ∧ (s.par.op = some op) ∧ (op.kind = 1 ∨ op.kind = 4) ∧ (u = { s with sys := { s.sys with pfw := true, pfwAt := s.now, pg := false, supplyMv := v, minMv := min s.sys.minMv v }, lv := { s.lv with workHold := true } })) ∧
    (∃ s : State, ∃ d : Nat, (s.sys.pfw = false ∨ 3 < d ∨ s.now < s.sys.pfwAt + 10 * ms ∨ (d = 3 ∧ s.now < s.sys.pfwAt + 40 * ms))) ∧
    (∃ s : State, (s.sys.pfw = true) ∧ (s.sys.powered = 0xF) ∧ (s.sys.pfwAt + 10 * ms ≤ s.now)) ∧
    (∃ s : State, ∃ d : Nat, (s.sys.pfw = true) ∧ (d ≤ 3) ∧ (s.sys.powered.getLsbD d = true) ∧ (s.sys.pfwAt + (if d = 3 then 40 * ms else 10 * ms) ≤ s.now)) ∧
    (∃ s : State, ∃ n : Nat, (n < 10 ∨ s.sys.powered = 0)) ∧
    (∃ s : State, ∃ n : Nat, (10 ≤ n) ∧ (s.sys.powered ≠ 0) ∧ (s.sys.resetDue = none)) ∧
    (∃ s : State, ∃ n : Nat, ∃ k : Nat, ∃ t : Nat, (10 ≤ n) ∧ (s.sys.powered ≠ 0) ∧ (s.sys.resetDue = some (0, k, t)) ∧ (t ≤ s.now - n * us + 5 * ms)) ∧
    (∃ s : State, ∃ k : Nat, ∃ t : Nat, (s.sys.resetDue = some (0, k, t)) ∧ (t ≤ s.now)) ∧
    (∃ s : State, ∃ k : Nat, ∃ t : Nat, (s.sys.resetDue = some (0, k, t)) ∧ (s.now < t)) ∧
    (∃ s : State, ∃ k : Nat, ∃ t : Nat, (s.sys.resetDue = some (1, k, t)) ∧ (t ≤ s.now) ∧ (s.isActive = false) ∧ (s.pair.role ≠ ROLE_RELEASING)) ∧
    (∃ s : State, (s.sys.servedAt + s.pms PAR_SYS_WDOG_MS ≤ s.now) ∧ (s.sys.ended.getLsbD 4 = true) ∧ (s.sys.resetDue = none)) ∧
    (∃ s : State, (s.now < s.sys.servedAt + s.pms PAR_SYS_WDOG_MS)) ∧
    (∃ s : State, ∃ n : Nat, (5 < n ∨ s.sys.locks.getLsbD n = false)) ∧
    (∃ s : State, (s.sys.locks.getLsbD 2 = true) ∧ (s.sys.resetDue = none)) ∧
    (∃ s : State, ∃ u : State, ∃ n : Nat, (n ≤ 5) ∧ (n ≠ 2) ∧ (s.sys.locks.getLsbD n = true) ∧ (u = (s.updSys fun x => { x with locks := x.locks &&& ~~~ (1#6 <<< n), unlocks := min (x.unlocks + 1) (2 ^ 24 - 1) }).report SRC_PLL_UNLOCK 0)) ∧
    (∃ s : State, (s.sys.locks.getLsbD 3 = true)) ∧
    (∃ s : State, (s.sys.locks.getLsbD 3 = false) ∧ (s.met.ready = true) ∧ (s.met.clock = false)) ∧
    (∃ s : State, ∃ p : PhaseEnd, (s.sys.pg = false ∨ s.sys.pfw = true ∨ s.sys.ended.getLsbD p.num = true ∨ s.phaseFree p.num = false)) ∧
    (∃ s : State, ∃ p : PhaseEnd, (s.sys.pg = true) ∧ (s.sys.pfw = false) ∧ (s.sys.ended.getLsbD p.num = false) ∧ (s.phaseFree p.num = true) ∧ (p.num ≠ 4) ∧ ((p.num = 6 → s.bootWaits = false)) ∧ ((p.num = 8 → s.leaseSettled = true))) ∧
    (∃ s : State, ∃ p : PhaseEnd, (s.sys.pg = true) ∧ (s.sys.pfw = false) ∧ (s.sys.ended.getLsbD p.num = false) ∧ (s.phaseFree p.num = true) ∧ (p.num = 4)) ∧
    (∃ s : State, (s.sys.pg = true) ∧ (s.sys.pfw = false) ∧ (s.sys.ended.getLsbD 8 = true) ∧ (s.sys.ended.getLsbD 9 = false)) ∧
    (∃ s : State, (s.sys.powered = 0xF) ∧ (s.sys.pg = true)) :=
  ⟨⟨waits {} (desc 0x0100 0 [(32, 1, 1), (33, 1, 1)] []), 0, 1, cmd (desc 0x0100 0 [(32, 1, 1), (33, 1, 1)] []), by decide⟩,
   ⟨waits { pair := { role := ROLE_ACTIVE, sync := 3 } } (desc 0x0100 0 [(32, 1, 1)] []), 0, 1, cmd (desc 0x0100 0 [(32, 1, 1)] []), by decide⟩,
   ⟨waits {} (desc 0x0100 0 [(32, 1, 2)] []), 0, 1, cmd (desc 0x0100 0 [(32, 1, 2)] []), by decide⟩,
   ⟨waits { sys := { fwActive := some 1, f1 := { state := 0x7F } } } (desc 0x0101 0 [] []), 0, 1, cmd (desc 0x0101 0 [] []), 1, by decide⟩,
   ⟨waits { sys := { f0 := { bytes := [1, 2, 3] } } } (desc 0x0101 0 [(32, 4, 3)] [5]), 0, 1, cmd (desc 0x0101 0 [(32, 4, 3)] [5]), [1, 2, 3, 5], by decide, by decide, (by intro n h; cases h), by decide, by decide, by decide, by decide, by decide⟩,
   (fun hv => ⟨waits { sys := { fuse := 0 } } (desc 0x0101 0 [(36, 1, 1)] (recOf 416 [(0, 4, 0x4E425746), (4, 2, 1), (6, 2, 0x9100), (12, 2, 63), (16, 1, 255), (17, 1, 1), (20, 4, 416), (24, 4, 0xFFFFFFFF), (64, 1, 1), (68, 4, 416)])), 0, 1, cmd (desc 0x0101 0 [(36, 1, 1)] (recOf 416 [(0, 4, 0x4E425746), (4, 2, 1), (6, 2, 0x9100), (12, 2, 63), (16, 1, 255), (17, 1, 1), (20, 4, 416), (24, 4, 0xFFFFFFFF), (64, 1, 1), (68, 4, 416)])), recOf 416 [(0, 4, 0x4E425746), (4, 2, 1), (6, 2, 0x9100), (12, 2, 63), (16, 1, 255), (17, 1, 1), (20, 4, 416), (24, 4, 0xFFFFFFFF), (64, 1, 1), (68, 4, 416)], by decide, by decide, (by intro n h; cases h), by decide, by decide, by decide, by decide, by decide, by decide, hv, by decide⟩),
   (fun hv => ⟨waits { sys := { fuse := 64 } } (desc 0x0101 0 [(36, 1, 1)] (recOf 416 [(0, 4, 0x4E425746), (4, 2, 1), (6, 2, 0x9100), (12, 2, 63), (16, 1, 255), (17, 1, 1), (20, 4, 416), (24, 4, 0xFFFFFFFF), (64, 1, 1), (68, 4, 416)])), 0, 1, cmd (desc 0x0101 0 [(36, 1, 1)] (recOf 416 [(0, 4, 0x4E425746), (4, 2, 1), (6, 2, 0x9100), (12, 2, 63), (16, 1, 255), (17, 1, 1), (20, 4, 416), (24, 4, 0xFFFFFFFF), (64, 1, 1), (68, 4, 416)])), recOf 416 [(0, 4, 0x4E425746), (4, 2, 1), (6, 2, 0x9100), (12, 2, 63), (16, 1, 255), (17, 1, 1), (20, 4, 416), (24, 4, 0xFFFFFFFF), (64, 1, 1), (68, 4, 416)], by decide, by decide, (by intro n h; cases h), by decide, by decide, by decide, by decide, by decide, by decide, hv, by decide⟩),
   (fun hv => ⟨waits { sys := { fuse := 0 } } (desc 0x0101 0 [(36, 1, 1)] (recOf 416 [(0, 4, 0x4E425746), (4, 2, 1), (6, 2, 0x9100), (12, 2, 63), (16, 1, 255), (17, 1, 1), (20, 4, 416), (24, 4, 0xFFFFFFFF), (64, 1, 1), (68, 4, 416)])), 0, 1, cmd (desc 0x0101 0 [(36, 1, 1)] (recOf 416 [(0, 4, 0x4E425746), (4, 2, 1), (6, 2, 0x9100), (12, 2, 63), (16, 1, 255), (17, 1, 1), (20, 4, 416), (24, 4, 0xFFFFFFFF), (64, 1, 1), (68, 4, 416)])), recOf 416 [(0, 4, 0x4E425746), (4, 2, 1), (6, 2, 0x9100), (12, 2, 63), (16, 1, 255), (17, 1, 1), (20, 4, 416), (24, 4, 0xFFFFFFFF), (64, 1, 1), (68, 4, 416)], by decide, by decide, (by intro n h; cases h), by decide, by decide, by decide, by decide, by decide, by decide, hv⟩),
   ⟨waits { sys := { f0 := { state := 0xFF, version := 5, verified := true, comps := [(3, [1])] } } } (desc 0x0102 0 [(32, 4, 5)] []), 0, 1, cmd (desc 0x0102 0 [(32, 4, 5)] []), by decide⟩,
   ⟨waits { sys := { f0 := { state := 0xFF, version := 5, verified := true, comps := [(2, [1])] } } } (desc 0x0102 0 [(32, 4, 5)] []), 0, 1, cmd (desc 0x0102 0 [(32, 4, 5)] []), by decide⟩,
   ⟨waits { sys := { f0 := { state := 0xFF, version := 5, verified := true } } } (desc 0x0102 0 [(32, 4, 5)] []), 0, 1, cmd (desc 0x0102 0 [(32, 4, 5)] []), by decide⟩,
   ⟨waits { sys := { f0 := {} } } (desc 0x0102 0 [] []), 0, 1, cmd (desc 0x0102 0 [] []), by decide⟩,
   ⟨waits { sys := { fwActive := some 0, f0 := { state := 0x3F } } } (desc 0x0103 0 [] []), 0, 1, cmd (desc 0x0103 0 [] []), 0, by decide⟩,
   ⟨waits {} (desc 0x0103 0 [] []), 0, 1, cmd (desc 0x0103 0 [] []), by decide⟩,
   ⟨waits {} (desc 0x0104 0 [] []), 0, 1, cmd (desc 0x0104 0 [] []), by decide⟩,
   ⟨{ now := 4, sys := { activate := some (7, true, 4) } }, 7, 4, by decide⟩,
   ⟨{}, 18000, by decide⟩,
   ⟨{}, 18001, by decide⟩,
   ⟨{ sys := { pg := true } }, 16500, by decide⟩,
   ⟨{ sys := { pg := true } }, 16499, by decide⟩,
   ⟨({ sys := { pg := true }, par := { op := some { kind := 1, uid := 7, target := 1, wasActive := none, askAt := 0 } } } : State), { ({ sys := { pg := true }, par := { op := some { kind := 1, uid := 7, target := 1, wasActive := none, askAt := 0 } } } : State) with sys := { ({ sys := { pg := true }, par := { op := some { kind := 1, uid := 7, target := 1, wasActive := none, askAt := 0 } } } : State).sys with pfw := true, pfwAt := ({ sys := { pg := true }, par := { op := some { kind := 1, uid := 7, target := 1, wasActive := none, askAt := 0 } } } : State).now, pg := false, supplyMv := 16499, minMv := min ({ sys := { pg := true }, par := { op := some { kind := 1, uid := 7, target := 1, wasActive := none, askAt := 0 } } } : State).sys.minMv 16499 }, lv := { ({ sys := { pg := true }, par := { op := some { kind := 1, uid := 7, target := 1, wasActive := none, askAt := 0 } } } : State).lv with workHold := true } }, 16499, { kind := 1, uid := 7, target := 1, wasActive := none, askAt := 0 }, by decide, by decide, by decide, rfl, by decide, rfl⟩,
   ⟨{ now := 40 * ms - 1, sys := { pfw := true } }, 3, by decide⟩,
   ⟨{ now := 10 * ms, sys := { pfw := true } }, by decide⟩,
   ⟨{ now := 40 * ms, sys := { pfw := true, powered := 0xF } }, 3, by decide⟩,
   ⟨{}, 9, by decide⟩,
   ⟨{}, 10, by decide⟩,
   ⟨{ sys := { resetDue := some (0, 3, 4) } }, 10, 3, 4, by decide⟩,
   ⟨{ now := 4, sys := { resetDue := some (0, 3, 4) } }, 3, 4, by decide⟩,
   ⟨{ now := 3, sys := { resetDue := some (0, 3, 4) } }, 3, 4, by decide⟩,
   ⟨{ now := 4, sys := { resetDue := some (1, 3, 4) } }, 3, 4, by decide⟩,
   ⟨{ now := hour, sys := { ended := 16 } }, by decide⟩,
   ⟨{}, by decide⟩,
   ⟨{}, 6, by decide⟩,
   ⟨{ sys := { locks := 4 } }, by decide⟩,
   ⟨{ sys := { locks := 0x3F } }, (({ sys := { locks := 0x3F } } : State).updSys fun x => { x with locks := x.locks &&& ~~~ (1#6 <<< 5), unlocks := min (x.unlocks + 1) (2 ^ 24 - 1) }).report SRC_PLL_UNLOCK 0, 5, by decide, by decide, by decide, rfl⟩,
   ⟨{ sys := { locks := 8 } }, by decide⟩,
   ⟨{ met := { ready := true, clock := false } }, by decide⟩,
   ⟨{}, .loader, by decide⟩,
   ⟨{ sys := { pg := true, ended := 0x80 }, pair := { role := ROLE_OUT } }, .lease, by decide, by decide, by decide, by decide, by decide, by decide, by decide⟩,
   ⟨{ sys := { pg := true, ended := 2 } }, .loader, by decide⟩,
   ⟨{ sys := { pg := true, ended := 0x100 } }, by decide⟩,
   ⟨{ sys := { pg := true, powered := 0xF } }, by decide⟩⟩

/-- Operands and states that meet the hypotheses of StepRuns. -/
theorem test_witness_StepRuns :
    (∃ i : Instr, ∃ l : List Instr, ∃ s : State, (s.pending = i :: l)) ∧
    (∃ s : State, (s.pending = [])) :=
  ⟨⟨.moduleSafeState true, [], { pending := [.moduleSafeState true] }, by decide⟩,
   ⟨{}, by decide⟩⟩

/-- Operands and states that meet the hypotheses of IssuedKept. -/
theorem test_witness_IssuedKept :
    (∃ s : State, ∃ t : State, (s.issued) ∧ (step s = .next t)) :=
  ⟨{}, {}, ⟨by decide, by decide, by decide, by decide⟩, rfl⟩

end Sys2Proof.Machine
end

namespace Sys2Proof.Machine

/-!
PROOF. No step changes what manufacture fixes (R2, R6). Part number, issue, grade and metrology option stand in the block `State.sys`.
Few operations write that block at all: those of supply, clocks, resets, firmware slots and start-up, and the rows that reach one of them.
For every other operation `f` of the model the lemma `f_sys` says that it leaves the block as it was; for a writer the lemma `f_options`
says that it leaves the four fields. They follow the order of the model's files, each from the lemmas of the operations it calls: `simp`
reads the block through a call by the callee's lemma, through a choice by `State.sys_ite` and through a fold by `State.sys_foldl`; a `match`
is split.
-/

/-! ### The fixed fields, and what a row leaves -/

/-- What manufacture fixes, read from the block that holds it (R2, R6). -/
def Sys.options (y : Sys) : BitVec 16 × BitVec 8 × BitVec 4 × BitVec 4 := (y.partNum, y.hwIssue, y.tempGrade, y.metOption)

@[simp] theorem Sys.options_eta (y : Sys) : (y.partNum, y.hwIssue, y.tempGrade, y.metOption) = y.options := rfl

/-- A block written field by field: only its first four fields count. -/
@[simp] theorem Sys.options_mk (partNum hwIssue tempGrade metOption identity phase ended ready recovery f0 f1 fwActive fwVersion fuse copies
    running rollback activate pg pfw pfwAt powered locks safeCheck cause starts supplyMv minMv unlocks refPpb startAt pgAt resetDue servedAt) :
    Sys.options ⟨partNum, hwIssue, tempGrade, metOption, identity, phase, ended, ready, recovery, f0, f1, fwActive, fwVersion, fuse, copies,
      running, rollback, activate, pg, pfw, pfwAt, powered, locks, safeCheck, cause, starts, supplyMv, minMv, unlocks, refPpb, startAt, pgAt,
      resetDue, servedAt⟩ = (partNum, hwIssue, tempGrade, metOption) := rfl

/-- The block after a row that answers a next state. -/
def nextSys : Host.Outcome State Fault Refusal → Option Sys
  | .next t => some t.sys
  | _ => none

/-- The fixed fields after a row that answers a next state. -/
def nextOptions (o : Host.Outcome State Fault Refusal) : Option (BitVec 16 × BitVec 8 × BitVec 4 × BitVec 4) := (nextSys o).map Sys.options

@[simp] theorem nextSys_next (t : State) : nextSys (.next t) = some t.sys := rfl

@[simp] theorem nextOptions_next (t : State) : nextOptions (.next t) = some t.sys.options := rfl

/-- A row that leaves the block leaves the fixed fields. -/
theorem nextOptions_of_nextSys {o : Host.Outcome State Fault Refusal} {y : Sys} (h : nextSys o = some y) : nextOptions o = some y.options := by
  simp [nextOptions, h]

/-! A choice leaves what both its sides leave. -/

@[simp] theorem State.sys_ite (c : Prop) [Decidable c] (s t : State) : (if c then s else t).sys = if c then s.sys else t.sys :=
  apply_ite State.sys c s t
@[simp] theorem Sys.options_ite (c : Prop) [Decidable c] (x y : Sys) : (if c then x else y).options = if c then x.options else y.options :=
  apply_ite Sys.options c x y
@[simp] theorem nextSys_ite (c : Prop) [Decidable c] (o p : Host.Outcome State Fault Refusal) :
    nextSys (if c then o else p) = if c then nextSys o else nextSys p := apply_ite nextSys c o p
@[simp] theorem nextOptions_ite (c : Prop) [Decidable c] (o p : Host.Outcome State Fault Refusal) :
    nextOptions (if c then o else p) = if c then nextOptions o else nextOptions p := apply_ite nextOptions c o p
@[simp] theorem State.snd_sys_ite {α : Type} (c : Prop) [Decidable c] (p q : α × State) :
    (if c then p else q).2.sys = if c then p.2.sys else q.2.sys := apply_ite (fun r : α × State => r.2.sys) c p q
@[simp] theorem State.fst_sys_ite {α : Type} (c : Prop) [Decidable c] (p q : State × α) :
    (if c then p else q).1.sys = if c then p.1.sys else q.1.sys := apply_ite (fun r : State × α => r.1.sys) c p q

/-! A fold leaves what each of its steps leaves. -/

/-- A step of a fold leaves what `p` reads. -/
def Leaves {α β γ : Type} (p : β → γ) (g : β → α → β) : Prop := ∀ b a, p (g b a) = p b

/-- Not proved by `Iff.rfl`: from a definitional equation `simp` would not build the proof that the fold lemmas' hypothesis asks for. -/
@[simp] theorem leaves_iff {α β γ : Type} (p : β → γ) (g : β → α → β) : Leaves p g ↔ ∀ b a, p (g b a) = p b := by
  constructor <;> exact id

theorem foldl_leaves {α β γ : Type} (p : β → γ) {g : β → α → β} (h : Leaves p g) (l : List α) (b : β) : p (l.foldl g b) = p b := by
  induction l generalizing b with
  | nil => rfl
  | cons a l ih => rw [List.foldl_cons, ih, h]

@[simp] theorem State.sys_foldl {α : Type} {g : State → α → State} (h : Leaves State.sys g) (l : List α) (s : State) :
    (l.foldl g s).sys = s.sys := foldl_leaves State.sys h l s
@[simp] theorem State.options_foldl {α : Type} {g : State → α → State} (h : Leaves (fun s : State => s.sys.options) g) (l : List α)
    (s : State) : (l.foldl g s).sys.options = s.sys.options := foldl_leaves (fun s : State => s.sys.options) h l s
@[simp] theorem State.snd_sys_foldl {α β : Type} {g : β × State → α → β × State} (h : Leaves (fun p => p.2.sys) g) (l : List α)
    (p : β × State) : (l.foldl g p).2.sys = p.2.sys := foldl_leaves (fun p => p.2.sys) h l p

/-! A command row leaves what its start, its end and its meaning leave. -/

theorem nextSys_startCommand {op q tag : Nat} {s : State} {f : InFlight → State → State} (h : ∀ c t, (f c t).sys = t.sys) :
    nextSys (startCommand op q tag s f) = some s.sys := by
  rcases startCommand_cases op q tag s f with e | ⟨c, _, _, _, e⟩ | ⟨c, _, e⟩ <;> simp [e, h]

theorem nextOptions_startCommand {op q tag : Nat} {s : State} {f : InFlight → State → State}
    (h : ∀ c t, (f c t).sys.options = t.sys.options) : nextOptions (startCommand op q tag s f) = some s.sys.options := by
  rcases startCommand_cases op q tag s f with e | ⟨c, _, _, _, e⟩ | ⟨c, _, e⟩ <;> simp [e, h]

/-! ### Shared operations -/

@[simp] theorem State.draw_sys (s : State) : s.draw.2.sys = s.sys := by simp [State.draw]
@[simp] theorem State.drawInt_sys (s : State) : s.drawInt.2.sys = s.sys := by simp [State.drawInt]
@[simp] theorem State.roundDiv_sys (s : State) (n : Int) (d : Nat) : (s.roundDiv n d).2.sys = s.sys := by simp [State.roundDiv]
@[simp] theorem State.q15_sys (s : State) (n : Int) (d : Nat) : (s.q15 n d).2.sys = s.sys := by simp [State.q15]

@[simp] theorem State.putKeys_sys (s : State) (base master : Nat) (share : Bool) (suite : TlsSuite) :
    (s.putKeys base master share suite).sys = s.sys := by
  simp [State.putKeys]

@[simp] theorem State.dropPairKey_sys (s : State) : s.dropPairKey.sys = s.sys := by simp [State.dropPairKey]

/-! ### Basalt instances and the schedule -/

@[simp] theorem State.traceHit_sys (s : State) (kind i : Nat) : (s.traceHit kind i).sys = s.sys := by simp [State.traceHit]
@[simp] theorem State.genLatch_sys (s : State) (node : Nat → Bool) (cause : Nat) : (s.genLatch node cause).sys = s.sys := by simp [State.genLatch]
@[simp] theorem State.fenceInst_sys (s : State) (i cause : Nat) : (s.fenceInst i cause).sys = s.sys := (State.report_fenceInst ..).sys
@[simp] theorem State.halveInst_sys (s : State) (i : Nat) : (s.halveInst i).sys = s.sys := (State.report_halveInst ..).sys

/-! ### What the ring carries -/

@[simp] theorem State.stampPlan_sys (s : State) : s.stampPlan.sys = s.sys := by simp [State.stampPlan]
@[simp] theorem State.setQueue_sys (s : State) (ring : Nat) (q : RingQueue) : (s.setQueue ring q).sys = s.sys := rfl
@[simp] theorem State.sendClaim_sys (s : State) (node : Nat) (record : List Byte) : (s.sendClaim node record).sys = s.sys := by simp [State.sendClaim]

@[simp] theorem State.sendSafety_sys (s : State) (ring conn : Nat) (b : List Byte) : (s.sendSafety ring conn b).sys = s.sys := by
  simp [State.sendSafety]

@[simp] theorem State.drainRing_sys (s : State) (ring : Nat) : (s.drainRing ring).sys = s.sys := by simp [State.drainRing]
@[simp] theorem State.halfCycle_sys (s : State) : s.halfCycle.sys = s.sys := by simp [State.halfCycle]
@[simp] theorem State.sendConfig_sys (s : State) (node : Nat) : (s.sendConfig node).sys = s.sys := by simp [State.sendConfig]
@[simp] theorem State.configChanged_sys (s old : State) : (s.configChanged old).sys = s.sys := by simp [State.configChanged]

/-! ### The report of a fault -/

@[simp] theorem State.noteDegraded_sys (s : State) : s.noteDegraded.sys = s.sys := (State.report_noteDegraded ..).sys

@[simp] theorem State.stopStage_sys (s : State) (obj state cause st : Nat) : (s.stopStage obj state cause st).sys = s.sys :=
  (State.report_stopStage ..).sys

@[simp] theorem State.report0_sys (s : State) (source object : Nat) : (s.report0 source object).sys = s.sys := (State.report_report0 ..).sys
@[simp] theorem State.demoteNode_sys (s : State) (node : Nat) : (s.demoteNode node).sys = s.sys := (State.report_demoteNode ..).sys

/-! ### Queue pairs and host loss -/

@[simp] theorem State.noteFull_sys (s : State) (q : Nat) : (s.noteFull q).sys = s.sys := by simp [State.noteFull]
@[simp] theorem State.loseHostOf_sys (s : State) (e : Nat) (mask : BitVec 16) : (s.loseHostOf e mask).sys = s.sys := by simp [State.loseHostOf]
@[simp] theorem State.loseHost_sys (s : State) (e : Nat) : (s.loseHost e).sys = s.sys := by simp [State.loseHost]

/-! ### CAN controllers, shared part -/

@[simp] theorem State.canTxEnd_sys (s : State) (k uid st : Nat) : (s.canTxEnd k uid st).sys = s.sys := by
  unfold State.canTxEnd
  dsimp only
  split <;> simp

@[simp] theorem State.canAbort_sys (s : State) (d : InFlight) : (s.canAbort d).sys = s.sys := by simp [State.canAbort]

@[simp] theorem State.canTelegram_sys (s : State) (k id : Nat) (telegram : List Byte) : (s.canTelegram k id telegram).sys = s.sys := by
  unfold State.canTelegram
  split <;> simp

@[simp] theorem State.canLatch_sys (s : State) : s.canLatch.sys = s.sys := rfl

/-! ### Work leave and mirrored commands -/

@[simp] theorem State.canTimingLate_sys (s : State) : s.canTimingLate.sys = s.sys := by
  unfold State.canTimingLate
  split <;> simp

@[simp] theorem State.okForwarded_sys (s : State) (c : InFlight) (result : List Byte) (off wait : Nat) (store : Option MirrorStore) :
    (s.okForwarded c result off wait store).sys = s.sys := by
  simp [State.okForwarded]

@[simp] theorem State.okMirrored_sys (s : State) (c : InFlight) (result : List Byte) (off wait : Nat) :
    (s.okMirrored c result off wait).sys = s.sys := by
  simp [State.okMirrored]

@[simp] theorem State.partnerDone_sys (s : State) (c : InFlight) (status : Nat) : (s.partnerDone c status).sys = s.sys := by
  unfold State.partnerDone
  split <;> simp

@[simp] theorem State.setSlot_sys (s : State) (n : Nat) (x : Slot) : (s.setSlot n x).sys = s.sys := by simp [State.setSlot]
@[simp] theorem State.latchRun_sys (s : State) : s.latchRun.sys = s.sys := by simp [State.latchRun]
@[simp] theorem State.latchBoot_sys (s : State) : s.latchBoot.sys = s.sys := by simp [State.latchBoot]

/-! ### The pair, shared part -/

@[simp] theorem State.sendStatus_sys (s : State) : s.sendStatus.sys = s.sys := by simp [State.sendStatus]
@[simp] theorem State.dropEnded_options (s : State) : s.dropEnded.sys.options = s.sys.options := by simp [State.dropEnded]
@[simp] theorem State.endCommands_options (s : State) : s.endCommands.sys.options = s.sys.options := by simp [State.endCommands]
@[simp] theorem State.endWaiting_sys (s : State) : s.endWaiting.sys = s.sys := by simp [State.endWaiting]
@[simp] theorem State.dropFinal_options (s : State) : s.dropFinal.sys.options = s.sys.options := by simp [State.dropFinal]

@[simp] theorem State.resetAt_options (s : State) (kind cause at' : Nat) : (s.resetAt kind cause at').sys.options = s.sys.options := by
  rcases State.resetAt_spec s kind cause at' with h | ⟨h, _⟩ <;> simp [h]

@[simp] theorem State.beginRelease_options (s : State) (row : Nat) : (s.beginRelease row).sys.options = s.sys.options := by simp [State.beginRelease]
@[simp] theorem State.tunnel_sys (s : State) (o : Nat) (m : TunnelMsg) : (s.tunnel o m).sys = s.sys := by simp [State.tunnel]
@[simp] theorem State.releaseTx_sys (s : State) (upTo : Nat) : (s.releaseTx upTo).sys = s.sys := by simp [State.releaseTx]
@[simp] theorem State.unpair_sys (s : State) : s.unpair.sys = s.sys := by simp [State.unpair]
@[simp] theorem State.setSync_sys (s : State) (v : Nat) : (s.setSync v).sys = s.sys := by simp [State.setSync]

@[simp] theorem State.pairChecks_sys (s : State) (noKey : Bool) : (s.pairChecks noKey).sys = s.sys := by
  unfold State.pairChecks
  dsimp only
  split
  · simp
  · split
    · simp
    · split <;> simp

@[simp] theorem State.giveUp_options (s : State) (row : Nat) : (s.giveUp row).sys.options = s.sys.options := by simp [State.giveUp]

/-! ### The power leave arbiter -/

@[simp] theorem State.lvTerms_sys (s : State) : s.lvTerms.sys = s.sys := by simp [State.lvTerms]
@[simp] theorem State.reclaim_sys (s : State) (excess : Nat) (notice : Option Nat) : (s.reclaim excess notice).sys = s.sys := by simp [State.reclaim]
@[simp] theorem State.cancelClass_sys (cls : Nat) (acc : Nat × State) : (State.cancelClass cls acc).2.sys = acc.2.sys := by simp [State.cancelClass]

@[simp] theorem State.cancelReclaim_sys (s : State) (n : Nat) : (s.cancelReclaim n).sys = s.sys := by
  unfold State.cancelReclaim
  generalize ht : List.foldl (fun a c => State.cancelClass c a) (n, s) _ = a
  have h : a.2.sys = s.sys := by
    rw [← ht]
    exact State.snd_sys_foldl (fun b c => State.cancelClass_sys c b) _ (n, s)
  dsimp only
  split <;> exact h

@[simp] theorem State.settle_sys (s : State) (notice : Option Nat) : (s.settle notice).sys = s.sys := by simp [State.settle]

@[simp] theorem State.freeSlot_sys (s : State) (slot : Nat) : (s.freeSlot slot).sys = s.sys := by
  unfold State.freeSlot
  split <;> simp

theorem State.newSlot_sys {s : State} {r : LeaveReq} {k : Nat} {t : State} (h : s.newSlot r = some (k, t)) : t.sys = s.sys := by
  obtain ⟨_, _, hkt⟩ := Option.map_eq_some_iff.mp h
  cases hkt
  rfl

@[simp] theorem State.decided_sys (s : State) (r : LeaveReq) (st slot outcome : Nat) : (s.decided r st slot outcome).sys = s.sys := by
  unfold State.decided
  split <;> simp

@[simp] theorem State.grantTo_sys (s : State) (r : LeaveReq) (slot kw : Nat) (waited : Bool) : (s.grantTo r slot kw waited).sys = s.sys := by
  simp [State.grantTo]

@[simp] theorem State.limitSlots_sys (s : State) : s.limitSlots.sys = s.sys := by simp [State.limitSlots]

@[simp] theorem State.leaveAsk_sys (s : State) (r : LeaveReq) : (s.leaveAsk r).sys = s.sys := by
  unfold State.leaveAsk
  dsimp only
  split
  · simp
  · split
    · simp
    · split
      · simp
      · split
        · simp
        · split
          · simp [State.newSlot_sys ‹_›]
          · split <;> simp [State.newSlot_sys ‹_›]

@[simp] theorem State.leaveChange_sys (s : State) (r : LeaveReq) : (s.leaveChange r).sys = s.sys := by
  unfold State.leaveChange
  dsimp only
  split
  · simp
  · split
    · simp
    · split
      · simp
      · split
        · simp
        · split <;> simp

@[simp] theorem State.leaveRelease_sys (s : State) (r : LeaveReq) : (s.leaveRelease r).sys = s.sys := by
  unfold State.leaveRelease
  split
  · split
    · simp
    · split <;> simp
  · split
    · simp
    · split <;> simp

@[simp] theorem State.emitCaps_sys (s : State) : s.emitCaps.sys = s.sys := by simp [State.emitCaps]
@[simp] theorem State.capsSent_sys (s : State) : s.capsSent.sys = s.sys := by simp [State.capsSent]
@[simp] theorem State.outCycle_sys (ramp : Nat) (o : CapOut) (s : State) : (s.outCycle ramp o).2.sys = s.sys := by simp [State.outCycle]

@[simp] theorem State.outsCycle_sys (ramp : Nat) (l : List CapOut) (s : State) : (s.outsCycle ramp l).2.sys = s.sys := by
  induction l generalizing s with
  | nil => rfl
  | cons o l ih => exact (ih _).trans (by simp)

@[simp] theorem State.slotsCycle_sys (s : State) : s.slotsCycle.sys = s.sys := by simp [State.slotsCycle]
@[simp] theorem State.residueCycle_sys (s : State) : s.residueCycle.sys = s.sys := by simp [State.residueCycle]
@[simp] theorem State.capsHeld_sys (s : State) : s.capsHeld.sys = s.sys := by simp [State.capsHeld]

@[simp] theorem State.spreadDischarge_sys (l : List Nat) (n m : Nat) (s : State) : (s.spreadDischarge l n m).sys = s.sys := by
  induction l generalizing n m s with
  | nil => rfl
  | cons a l ih =>
    cases l with
    | nil => rfl
    | cons b l => exact (ih _ _ _).trans (by simp)

@[simp] theorem State.sendDischarge_sys (s : State) : s.sendDischarge.sys = s.sys := by simp [State.sendDischarge]
@[simp] theorem State.publishCaps_sys (s : State) : s.publishCaps.sys = s.sys := by simp [State.publishCaps]
@[simp] theorem State.measure_sys (s : State) : s.measure.sys = s.sys := rfl
@[simp] theorem State.siteInputs_sys (s : State) : s.siteInputs.sys = s.sys := by simp [State.siteInputs]

@[simp] theorem execLedgerPublication_sys (s : State) : nextSys (execLedgerPublication s) = some s.sys := by
  unfold execLedgerPublication
  dsimp only
  split
  · split
    · split <;> simp
    · split <;> simp
  · simp

@[simp] theorem State.noticeEnds_sys (s : State) (slots : List Nat) : (s.noticeEnds slots).sys = s.sys := by simp [State.noticeEnds]

@[simp] theorem execReclaimNoticeEnd_sys (slot : Nat) (s : State) : nextSys (execReclaimNoticeEnd slot s) = some s.sys := by
  simp [execReclaimNoticeEnd]

@[simp] theorem execLeaveWaitExpiry_sys (slot : Nat) (s : State) : nextSys (execLeaveWaitExpiry slot s) = some s.sys := by
  unfold execLeaveWaitExpiry
  split
  · simp
  · split <;> simp

@[simp] theorem execSetpointExpiry_sys (s : State) : nextSys (execSetpointExpiry s) = some s.sys := by
  unfold execSetpointExpiry
  split <;> simp

@[simp] theorem execImportExcessDetected_sys (importKw : Int) (deliveredKw : Nat) (s : State) :
    nextSys (execImportExcessDetected importKw deliveredKw s) = some s.sys := by
  simp [execImportExcessDetected]

@[simp] theorem execBufferDeliveryRestored_sys (deliveredKw : Nat) (s : State) : nextSys (execBufferDeliveryRestored deliveredKw s) = some s.sys := by
  simp [execBufferDeliveryRestored]

@[simp] theorem leaveRequest_sys (c : InFlight) (s : State) : (leaveRequest c s).sys = s.sys := by simp [leaveRequest]

@[simp] theorem execLeaveRequest_sys (q tag : Nat) (s : State) : nextSys (execLeaveRequest q tag s) = some s.sys :=
  nextSys_startCommand leaveRequest_sys

@[simp] theorem leaveChangeCmd_sys (c : InFlight) (s : State) : (leaveChangeCmd c s).sys = s.sys := by simp [leaveChangeCmd]

@[simp] theorem execLeaveChange_sys (q tag : Nat) (s : State) : nextSys (execLeaveChange q tag s) = some s.sys :=
  nextSys_startCommand leaveChangeCmd_sys

@[simp] theorem leaveReleaseCmd_sys (c : InFlight) (s : State) : (leaveReleaseCmd c s).sys = s.sys := by simp [leaveReleaseCmd]

@[simp] theorem execLeaveRelease_sys (q tag : Nat) (s : State) : nextSys (execLeaveRelease q tag s) = some s.sys :=
  nextSys_startCommand leaveReleaseCmd_sys

@[simp] theorem leaveRead_sys (c : InFlight) (s : State) : (leaveRead c s).sys = s.sys := by simp [leaveRead]
@[simp] theorem execLeaveRead_sys (q tag : Nat) (s : State) : nextSys (execLeaveRead q tag s) = some s.sys := nextSys_startCommand leaveRead_sys
@[simp] theorem lvGridSet_sys (c : InFlight) (s : State) : (lvGridSet c s).sys = s.sys := by simp [lvGridSet]
@[simp] theorem execLvGridSet_sys (q tag : Nat) (s : State) : nextSys (execLvGridSet q tag s) = some s.sys := nextSys_startCommand lvGridSet_sys

@[simp] theorem lvCapmapSet_sys (c : InFlight) (s : State) : (lvCapmapSet c s).sys = s.sys := by
  unfold lvCapmapSet
  split <;> simp

@[simp] theorem execLvCapmapSet_sys (q tag : Nat) (s : State) : nextSys (execLvCapmapSet q tag s) = some s.sys := nextSys_startCommand lvCapmapSet_sys
@[simp] theorem lvShareSet_sys (c : InFlight) (s : State) : (lvShareSet c s).sys = s.sys := by simp [lvShareSet]
@[simp] theorem execLvShareSet_sys (q tag : Nat) (s : State) : nextSys (execLvShareSet q tag s) = some s.sys := nextSys_startCommand lvShareSet_sys

@[simp] theorem execShareVersionCommit_sys (s : State) : nextSys (execShareVersionCommit s) = some s.sys := by
  unfold execShareVersionCommit
  split <;> simp

@[simp] theorem execShareStoreTimeout_sys (s : State) : nextSys (execShareStoreTimeout s) = some s.sys := by
  unfold execShareStoreTimeout
  split <;> simp

/-! ### Leases, demotion and takeover -/

@[simp] theorem State.takeTables_sys (s : State) (t : ImgTables) : (s.takeTables t).sys = s.sys := rfl
@[simp] theorem State.loadInsts_sys (s : State) : s.loadInsts.sys = s.sys := by simp [State.loadInsts]
@[simp] theorem State.takeConfig_sys (s : State) (m : PairImage) : (s.takeConfig m).sys = s.sys := by simp [State.takeConfig]
@[simp] theorem State.takeLedger_sys (s : State) (m : PairImage) : (s.takeLedger m).sys = s.sys := rfl
@[simp] theorem State.emptyWork_sys (s : State) : s.emptyWork.sys = s.sys := rfl
@[simp] theorem State.resumeEngines_sys (s : State) (m : PairImage) : (s.resumeEngines m).sys = s.sys := by simp [State.resumeEngines]
@[simp] theorem State.resumeRest_sys (s : State) (m : PairImage) : (s.resumeRest m).sys = s.sys := by simp [State.resumeRest]
@[simp] theorem State.resumeNothing_sys (s : State) : s.resumeNothing.sys = s.sys := by simp [State.resumeNothing]

@[simp] theorem State.resumeHub_sys (s : State) : s.resumeHub.sys = s.sys := by
  unfold State.resumeHub
  dsimp only
  split <;> simp

@[simp] theorem State.noteSplit_sys (s : State) : s.noteSplit.sys = s.sys := by simp [State.noteSplit]
@[simp] theorem State.becomeActive_sys (s : State) (nodeEpoch : Nat) : (s.becomeActive nodeEpoch).sys = s.sys := by simp [State.becomeActive]
@[simp] theorem State.ptMark_sys (s : State) (addr : Nat) : (s.ptMark addr).sys = s.sys := by simp [State.ptMark]
@[simp] theorem State.ptMarkChanges_sys (s old : State) : (s.ptMarkChanges old).sys = s.sys := by simp [State.ptMarkChanges]
@[simp] theorem State.dropPoints_sys (s : State) : s.dropPoints.sys = s.sys := by simp [State.dropPoints]
@[simp] theorem State.loseActive_options (s : State) : s.loseActive.sys.options = s.sys.options := by simp [State.loseActive]

/-! ### The ring controller -/

@[simp] theorem State.ringCheck_sys (s : State) (ring : Nat) : (s.ringCheck ring).sys = s.sys := by simp [State.ringCheck]
@[simp] theorem State.ringsCheck_sys (s : State) : s.ringsCheck.sys = s.sys := by simp [State.ringsCheck]
@[simp] theorem State.setOpen_sys (s : State) (ring : Nat) (v : Bool) : (s.setOpen ring v).sys = s.sys := by simp [State.setOpen]
@[simp] theorem State.nodeHeard_sys (s : State) (n : Nat) : (s.nodeHeard n).sys = s.sys := by simp [State.nodeHeard]
@[simp] theorem State.clearRun_sys (s : State) (n : Nat) : (s.clearRun n).sys = s.sys := by simp [State.clearRun]
@[simp] theorem State.leaseEnds_sys (s : State) (n : Nat) (fence : Bool) : (s.leaseEnds n fence).sys = s.sys := by simp [State.leaseEnds]
@[simp] theorem State.claimNode_sys (s : State) (n : Nat) : (s.claimNode n).sys = s.sys := by simp [State.claimNode]
@[simp] theorem State.emitClaims_sys (s : State) (l : List Nat) : (s.emitClaims l).sys = s.sys := by simp [State.emitClaims]
@[simp] theorem State.claimNodes_sys (s : State) (l : List Nat) : (s.claimNodes l).sys = s.sys := by simp [State.claimNodes]
@[simp] theorem State.claimLapsed_sys (s : State) : s.claimLapsed.sys = s.sys := by simp [State.claimLapsed]
@[simp] theorem State.raiseEpoch_sys (s : State) (e : Nat) : (s.raiseEpoch e).sys = s.sys := by simp [State.raiseEpoch]
@[simp] theorem execNodeSilence_sys (node : Nat) (s : State) : nextSys (execNodeSilence node s) = some s.sys := by simp [execNodeSilence]

@[simp] theorem execNodeFramesAgain_sys (node epoch : Nat) (s : State) : nextSys (execNodeFramesAgain node epoch s) = some s.sys := by
  simp [execNodeFramesAgain]

@[simp] theorem State.portForeign_sys (s : State) (n : Nat) : (s.portForeign n).sys = s.sys := by simp [State.portForeign]
@[simp] theorem State.portsOwn_sys (s : State) : s.portsOwn.sys = s.sys := by simp [State.portsOwn]
@[simp] theorem State.ownHeal_sys (s : State) : s.ownHeal.sys = s.sys := by simp [State.ownHeal]

@[simp] theorem execForeignNodeSeen_options (node epoch : Nat) (s : State) : nextOptions (execForeignNodeSeen node epoch s) = some s.sys.options := by
  simp [execForeignNodeSeen]

@[simp] theorem State.fitInst_sys (s : State) (i : Nat) : (s.fitInst i).sys = s.sys := by simp [State.fitInst]
@[simp] theorem State.fitNode_sys (s : State) (n : Nat) : (s.fitNode n).sys = s.sys := by simp [State.fitNode]

@[simp] theorem State.claimTaken_sys (s : State) (node epoch side hops : Nat) : (s.claimTaken node epoch side hops).sys = s.sys := by
  simp [State.claimTaken]

@[simp] theorem execClaimAccepted_sys (node epoch side hops : Nat) (s : State) : nextSys (execClaimAccepted node epoch side hops s) = some s.sys := by
  simp [execClaimAccepted]

@[simp] theorem State.leaseReport_options (s : State) (node epoch : Nat) (released : Bool) :
    (s.leaseReport node epoch released).sys.options = s.sys.options := by
  simp [State.leaseReport]

@[simp] theorem State.serveFrom_sys (s : State) (n side : Nat) (spans delayNs : Option Nat) : (s.serveFrom n side spans delayNs).sys = s.sys := by
  simp [State.serveFrom]

@[simp] theorem State.portReport_sys (s : State) (n port : Nat) (down : Bool) : (s.portReport n port down).sys = s.sys := by simp [State.portReport]

@[simp] theorem execReportRecord_options (node code arg epoch : Nat) (s : State) :
    nextOptions (execReportRecord node code arg epoch s) = some s.sys.options := by
  unfold execReportRecord
  split <;> simp

@[simp] theorem State.undoDemotion_sys (s : State) (n : Nat) : (s.undoDemotion n).sys = s.sys := by
  unfold State.undoDemotion
  split <;> simp

@[simp] theorem State.switchedTo_sys (s : State) (node side : Nat) (hops : PathMeasure) : (s.switchedTo node side hops).sys = s.sys := by
  simp [State.switchedTo]

@[simp] theorem execSwitchedFrame_sys (node side : Nat) (hops : PathMeasure) (s : State) :
    nextSys (execSwitchedFrame node side hops s) = some s.sys := by
  simp [execSwitchedFrame]

@[simp] theorem State.missSlot_sys (s : State) (n : Nat) : (s.missSlot n).sys = s.sys := by simp [State.missSlot]
@[simp] theorem State.answerSlot_sys (s : State) (n window : Nat) : (s.answerSlot n window).sys = s.sys := by simp [State.answerSlot]

@[simp] theorem execOwnHeadersNotReturned_sys (ring : Nat) (s : State) : nextSys (execOwnHeadersNotReturned ring s) = some s.sys := by
  simp [execOwnHeadersNotReturned]

@[simp] theorem State.cageLock_sys (s : State) (cage : Nat) (lock : Bool) : (s.cageLock cage lock).sys = s.sys := by simp [State.cageLock]

@[simp] theorem execCageLockChange_sys (cage : Nat) (lock : Bool) (s : State) : nextSys (execCageLockChange cage lock s) = some s.sys := by
  simp [execCageLockChange]

@[simp] theorem State.scanUnplanned_sys (s : State) (acc : ScanSum) (m : ScanMember) : (s.scanUnplanned acc m).2.sys = s.sys := by
  unfold State.scanUnplanned
  dsimp only
  split
  · simp
  · split <;> simp

@[simp] theorem State.scanOne_sys (all : Bool) (acc : ScanSum × State) (m : ScanMember) : (State.scanOne all acc m).2.sys = acc.2.sys := by
  unfold State.scanOne
  dsimp only
  split <;> simp

@[simp] theorem State.scan_sys (s : State) (all : Bool) (members : List ScanMember) : (s.scan all members).2.sys = s.sys := by simp [State.scan]

@[simp] theorem execEnumerationScan_sys (ring : Nat) (members : List ScanMember) (s : State) :
    nextSys (execEnumerationScan ring members s) = some s.sys := by
  simp [execEnumerationScan]

@[simp] theorem State.replace_sys (s : State) (a : Nat) (r : Rec) : (s.replace a r).sys = s.sys := by simp [State.replace]
@[simp] theorem State.scanEnd_sys (s : State) (w : RingScan) : (s.scanEnd w).sys = s.sys := by simp [State.scanEnd]

@[simp] theorem State.scanDue_sys (s : State) : s.scanDue.sys = s.sys := by
  unfold State.scanDue
  split <;> simp

@[simp] theorem ringScan_sys (members : List ScanMember) (c : InFlight) (s : State) : (ringScan members c s).sys = s.sys := by simp [ringScan]

@[simp] theorem execRingScan_sys (q tag : Nat) (members : List ScanMember) (s : State) : nextSys (execRingScan q tag members s) = some s.sys :=
  nextSys_startCommand (ringScan_sys members)

@[simp] theorem ringNodeSet_sys (c : InFlight) (s : State) : (ringNodeSet c s).sys = s.sys := by
  unfold ringNodeSet
  split <;> simp

@[simp] theorem execRingNodeSet_sys (q tag : Nat) (s : State) : nextSys (execRingNodeSet q tag s) = some s.sys := nextSys_startCommand ringNodeSet_sys
@[simp] theorem ringNodeRead_sys (c : InFlight) (s : State) : (ringNodeRead c s).sys = s.sys := by simp [ringNodeRead]

@[simp] theorem execRingNodeRead_sys (q tag : Nat) (s : State) : nextSys (execRingNodeRead q tag s) = some s.sys :=
  nextSys_startCommand ringNodeRead_sys

@[simp] theorem State.restoreNode_sys (s : State) (a : Nat) : (s.restoreNode a).sys = s.sys := by simp [State.restoreNode]
@[simp] theorem ringNodeRestore_sys (c : InFlight) (s : State) : (ringNodeRestore c s).sys = s.sys := by simp [ringNodeRestore]

@[simp] theorem execRingNodeRestore_sys (q tag : Nat) (s : State) : nextSys (execRingNodeRestore q tag s) = some s.sys :=
  nextSys_startCommand ringNodeRestore_sys

/-! ### Traces and injection, shared part -/

@[simp] theorem State.sineAt_sys (s : State) (amp phi : Nat) : (s.sineAt amp phi).2.sys = s.sys := by simp [State.sineAt]

@[simp] theorem State.injAt_sys (s : State) (g : Gen) : (s.injAt g).2.sys = s.sys := by
  unfold State.injAt
  dsimp only
  split
  · simp
  · split <;> simp

@[simp] theorem State.injStep_sys (s : State) (g : Gen) : (s.injStep g).2.sys = s.sys := by simp [State.injStep]

@[simp] theorem State.injOf_sys (s : State) (i : Nat) : (s.injOf i).2.sys = s.sys := by
  unfold State.injOf
  split <;> simp

@[simp] theorem State.genStarted_sys (s : State) (g : Gen) (k window : Nat) : (s.genStarted g k window).sys = s.sys := by
  unfold State.genStarted
  split <;> simp

@[simp] theorem State.genAdvance_sys (s : State) (i : Nat) (gen : Option (Nat × Gen)) (inj : Int) (window : Nat) :
    (s.genAdvance i gen inj window).sys = s.sys := by
  unfold State.genAdvance
  split <;> simp

@[simp] theorem State.endGen_sys (s : State) (k cause : Nat) : (s.endGen k cause).sys = s.sys := by
  unfold State.endGen
  dsimp only
  split <;> simp

@[simp] theorem State.genChecks_sys (s : State) : s.genChecks.sys = s.sys := by
  refine State.sys_foldl (fun u e => ?_) _ _
  split
  · split <;> simp
  · rfl

@[simp] theorem State.endTrace_sys (s : State) (b cause : Nat) : (s.endTrace b cause).sys = s.sys := by simp [State.endTrace]
@[simp] theorem State.traceGone_sys (s : State) : s.traceGone.sys = s.sys := by simp [State.traceGone]
@[simp] theorem State.traceWindow_sys (s : State) (b : Nat) (t : Trace) : (s.traceWindow b t).sys = s.sys := by simp [State.traceWindow]
@[simp] theorem State.traceWindows_sys (s : State) : s.traceWindows.sys = s.sys := by simp [State.traceWindows]

/-! ### The control engine -/

@[simp] theorem State.softRef_sys (s : State) (w : Nat) (y : Int) (e : Nat × Nat) : (s.softRef w y e).2.sys = s.sys := by simp [State.softRef]

@[simp] theorem State.softStartRef_sys (s : State) (i w : Nat) (y : Int) : (s.softStartRef i w y).sys = s.sys := by
  unfold State.softStartRef
  dsimp only
  split <;> simp

@[simp] theorem State.trackDone_sys (s : State) (i : Nat) : (s.trackDone i).sys = s.sys := by
  unfold State.trackDone
  dsimp only
  split <;> simp

@[simp] theorem State.evalInst_sys (s : State) (i w : Nat) (y : Int) (word1 : Option Int) : (s.evalInst i w y word1).sys = s.sys := by
  unfold State.evalInst
  extract_lets s0 r x applied aux track ref f phi mem cells n j rq gen inj law law' o causes s1 phi' t bas t1 u u1 u2 t2 t3
  have ht : t.sys = s.sys := by simp [t, s1, inj, s0]
  clear_value t mem
  have ht1 : t1.sys = s.sys := by
    unfold t1
    split
    · split <;> exact ht
    · exact ht
  have ht2 : t2.sys = s.sys := by
    unfold t2
    split
    · simp [ht1]
    · have hu : u2.sys = s.sys := by simp [u2, u1, u, ht1]
      split <;> simp [hu]
  simp [t3, ht2]

@[simp] theorem State.followInst_sys (s : State) (i : Nat) (y : Int) (word1 : Option Int) : (s.followInst i y word1).sys = s.sys := by
  simp [State.followInst]

@[simp] theorem State.failOpt_sys (s : State) (uid : Option Nat) (st : Nat) : (s.failOpt uid st).sys = s.sys := by
  unfold State.failOpt
  split <;> simp

@[simp] theorem State.okOpt_sys (s : State) (uid : Option Nat) (result : List Byte) : (s.okOpt uid result).sys = s.sys := by
  unfold State.okOpt
  split <;> simp

@[simp] theorem State.armMemory_sys (s : State) (i : Nat) : (s.armMemory i).sys = s.sys := by
  unfold State.armMemory
  split <;> simp

@[simp] theorem State.armEffect_sys (s : State) (i w mode : Nat) (uid : Option Nat) (left : Nat) (word1 : Bool) :
    (s.armEffect i w mode uid left word1).1.sys = s.sys := by
  unfold State.armEffect
  split <;> simp

@[simp] theorem State.waitEffect_sys (s : State) (i w : Nat) (c : BasWait) (word1 : Bool) : (s.waitEffect i w c word1).1.sys = s.sys := by
  unfold State.waitEffect
  split <;> simp

@[simp] theorem State.waitEffects_sys (s : State) (i w : Nat) (word1 : Bool) : (s.waitEffects i w word1).sys = s.sys := by
  unfold State.waitEffects
  rw [State.sys_foldl fun u c => ?_]
  · simp
  · dsimp only
    split
    · split <;> simp
    · simp

@[simp] theorem State.liftEffect_sys (s : State) (i w : Nat) : (s.liftEffect i w).sys = s.sys := by
  unfold State.liftEffect
  split <;> simp

@[simp] theorem State.trackEnd_sys (s : State) (i : Nat) : (s.trackEnd i).sys = s.sys := by simp [State.trackEnd]
@[simp] theorem State.instEffects_sys (s : State) (i w : Nat) (word1 : Bool) : (s.instEffects i w word1).sys = s.sys := by simp [State.instEffects]

@[simp] theorem State.instEval_sys (s : State) (i w : Nat) (words : Option (Int × Int)) : (s.instEval i w words).sys = s.sys := by
  unfold State.instEval
  split <;> simp

@[simp] theorem State.runInsts_sys (s : State) (l : List Nat) (w : Nat) (wordOf : Nat → Option (Int × Int)) :
    (s.runInsts l w wordOf).sys = s.sys := by
  simp [State.runInsts]

@[simp] theorem State.runDue_sys (s : State) (l : List Nat) (w : Nat) (words : Option (List (Int × Int))) : (s.runDue l w words).1.sys = s.sys := by
  simp [State.runDue]

@[simp] theorem State.noteFrame_sys (s : State) (node w : Nat) (words : Option (List (Int × Int))) : (s.noteFrame node w words).sys = s.sys := by
  unfold State.noteFrame
  split
  · split <;> simp
  · simp

@[simp] theorem State.insertFrame_sys (s : State) (node : Nat) (frame : List Byte) (silent : List Nat) :
    (s.insertFrame node frame silent).sys = s.sys := by
  simp [State.insertFrame]

@[simp] theorem State.runNode_sys (s : State) (node w : Nat) (words : Option (List (Int × Int))) : (s.runNode node w words).sys = s.sys := by
  simp [State.runNode]

@[simp] theorem State.blockErrors_sys (s : State) (frame : LoopFrame) : (s.blockErrors frame).sys = s.sys := by simp [State.blockErrors]

@[simp] theorem execUpstreamLoopFrame_options (frame : LoopFrame) (s : State) : nextOptions (execUpstreamLoopFrame frame s) = some s.sys.options := by
  simp [execUpstreamLoopFrame]

@[simp] theorem State.unheldWindow_sys (s : State) (node w : Nat) : (s.unheldWindow node w).sys = s.sys := by simp [State.unheldWindow]

@[simp] theorem execSlotDeadline_sys (node window : Nat) (s : State) : nextSys (execSlotDeadline node window s) = some s.sys := by
  simp [execSlotDeadline]

@[simp] theorem State.startLate_sys (u : State) (c : Nat × BasWait) : (u.startLate c).sys = u.sys := by
  unfold State.startLate
  split <;> simp

@[simp] theorem execTrackingReportTimeout_sys (inst : Nat) (s : State) : nextSys (execTrackingReportTimeout inst s) = some s.sys := by
  simp [execTrackingReportTimeout]

@[simp] theorem State.runSite_sys (s : State) (i w : Nat) : (s.runSite i w).sys = s.sys := by simp [State.runSite]
@[simp] theorem State.runSites_sys (s : State) (w : Nat) : (s.runSites w).sys = s.sys := by simp [State.runSites]
@[simp] theorem State.refEffect_sys (s : State) (e : Option Nat × List (Nat × Int)) : (s.refEffect e).sys = s.sys := by simp [State.refEffect]

@[simp] theorem State.windowEffects_sys (s : State) : s.windowEffects.sys = s.sys := by
  unfold State.windowEffects
  dsimp only
  rw [State.sys_foldl, State.sys_foldl]
  · exact State.refEffect_sys
  · intro u e
    dsimp only
    split
    · simp
    · split <;> simp

@[simp] theorem State.sendInputs_sys (s : State) : s.sendInputs.sys = s.sys := by simp [State.sendInputs]
@[simp] theorem execLoopWindow_sys (s : State) : nextSys (execLoopWindow s) = some s.sys := by simp [execLoopWindow]

@[simp] theorem basLoad_sys (c : InFlight) (s : State) : (basLoad c s).sys = s.sys := by
  unfold basLoad
  split <;> simp

@[simp] theorem execBasLoad_sys (q tag : Nat) (s : State) : nextSys (execBasLoad q tag s) = some s.sys := nextSys_startCommand basLoad_sys

@[simp] theorem State.acceptStart_sys (s : State) (i k p : Nat) (half : Bool) (w : BasWait) : (s.acceptStart i k p half w).sys = s.sys := by
  simp [State.acceptStart]

@[simp] theorem basArm_sys (c : InFlight) (s : State) : (basArm c s).sys = s.sys := by
  unfold basArm
  dsimp only
  split
  · simp
  · split <;> simp

@[simp] theorem execBasArm_sys (q tag : Nat) (s : State) : nextSys (execBasArm q tag s) = some s.sys := nextSys_startCommand basArm_sys

theorem State.armFor_sys {s : State} {i : Nat} {t : State} (h : s.armFor i = .inr t) : t.sys = s.sys := by
  unfold State.armFor at h
  split at h
  · cases h
  · cases h
    simp

@[simp] theorem State.addWait_sys (s : State) (i : Nat) (w : BasWait) : (s.addWait i w).sys = s.sys := by simp [State.addWait]
@[simp] theorem State.disarmFor_sys (s : State) (i : Nat) : (s.disarmFor i).sys = s.sys := by simp [State.disarmFor]
@[simp] theorem State.sessionLeaves_sys (s : State) (i : Nat) : (s.sessionLeaves i).sys = s.sys := by simp [State.sessionLeaves]
@[simp] theorem basFreeze_sys (c : InFlight) (s : State) : (basFreeze c s).sys = s.sys := by simp [basFreeze]
@[simp] theorem execBasFreeze_sys (q tag : Nat) (s : State) : nextSys (execBasFreeze q tag s) = some s.sys := nextSys_startCommand basFreeze_sys
@[simp] theorem basDisarm_sys (c : InFlight) (s : State) : (basDisarm c s).sys = s.sys := by simp [basDisarm]
@[simp] theorem execBasDisarm_sys (q tag : Nat) (s : State) : nextSys (execBasDisarm q tag s) = some s.sys := nextSys_startCommand basDisarm_sys
@[simp] theorem basRefSet_sys (c : InFlight) (s : State) : (basRefSet c s).sys = s.sys := by simp [basRefSet]
@[simp] theorem execBasRefSet_sys (q tag : Nat) (s : State) : nextSys (execBasRefSet q tag s) = some s.sys := nextSys_startCommand basRefSet_sys

theorem State.handover_sys {s : State} {y x : Nat} {uid : Option Nat} {t : State} (h : s.handover y x uid = .inr t) : t.sys = s.sys := by
  unfold State.handover at h
  split at h
  · cases h
  · split at h
    · cases h
    · cases h
      simp

@[simp] theorem basHandover_sys (c : InFlight) (s : State) : (basHandover c s).sys = s.sys := by
  unfold basHandover
  dsimp only
  split
  · simp
  · split
    · simp
    · exact State.handover_sys ‹_›

@[simp] theorem execBasHandover_sys (q tag : Nat) (s : State) : nextSys (execBasHandover q tag s) = some s.sys := nextSys_startCommand basHandover_sys
@[simp] theorem basRead_sys (c : InFlight) (s : State) : (basRead c s).sys = s.sys := by simp [basRead]
@[simp] theorem execBasRead_sys (q tag : Nat) (s : State) : nextSys (execBasRead q tag s) = some s.sys := nextSys_startCommand basRead_sys

@[simp] theorem basRep_sys (c : InFlight) (s : State) : (basRep c s).sys = s.sys := by
  unfold basRep
  dsimp only
  split
  · simp
  · split <;> simp

@[simp] theorem execBasRep_sys (q tag : Nat) (s : State) : nextSys (execBasRep q tag s) = some s.sys := nextSys_startCommand basRep_sys

/-! ### Cable cooling -/

@[simp] theorem coolConfig_sys (c : InFlight) (s : State) : (coolConfig c s).sys = s.sys := by
  unfold coolConfig
  split <;> simp

@[simp] theorem execCoolConfig_sys (q tag : Nat) (s : State) : nextSys (execCoolConfig q tag s) = some s.sys := nextSys_startCommand coolConfig_sys
@[simp] theorem State.takeSample_sys (s : State) (n : Nat) (r : Rec) (x : CoolSample) : (s.takeSample n r x).sys = s.sys := by simp [State.takeSample]

@[simp] theorem execCoolingSample_sys (circuit : Nat) (tIn tOut : Int) (flow : Nat) (pump pin0 pin1 : Int) (s : State) :
    nextSys (execCoolingSample circuit tIn tOut flow pump pin0 pin1 s) = some s.sys := by
  unfold execCoolingSample
  split <;> simp

@[simp] theorem execInputLost_sys (circuit input : Nat) (s : State) : nextSys (execInputLost circuit input s) = some s.sys := by simp [execInputLost]

@[simp] theorem execInputValidAgain_sys (circuit input : Nat) (s : State) : nextSys (execInputValidAgain circuit input s) = some s.sys := by
  simp [execInputValidAgain]

@[simp] theorem State.setRef_sys (s : State) (i : Nat) (n : Int) (d : Nat) : (s.setRef i n d).sys = s.sys := by simp [State.setRef]
@[simp] theorem State.setPump_sys (s : State) (n f : Nat) : (s.setPump n f).sys = s.sys := by simp [State.setPump]

@[simp] theorem State.coolArm_sys (s : State) (i : Nat) : (s.coolArm i).sys = s.sys := by
  unfold State.coolArm
  dsimp only
  split
  · rfl
  · split
    · simp
    · split
      · rfl
      · exact State.armFor_sys ‹_›

@[simp] theorem State.startCircuit_sys (s : State) (n : Nat) : (s.startCircuit n).sys = s.sys := by
  unfold State.startCircuit
  split <;> simp

@[simp] theorem State.circuitFails_sys (s : State) (n cause event : Nat) : (s.circuitFails n cause event).sys = s.sys := by simp [State.circuitFails]
@[simp] theorem State.circuitOff_sys (s : State) (n : Nat) : (s.circuitOff n).sys = s.sys := by simp [State.circuitOff]

@[simp] theorem execCoolRunonExpiry_sys (circuit : Nat) (s : State) : nextSys (execCoolRunonExpiry circuit s) = some s.sys := by
  simp [execCoolRunonExpiry]

@[simp] theorem State.coolSessionEnds_sys (s : State) (n : Nat) : (s.coolSessionEnds n).sys = s.sys := by simp [State.coolSessionEnds]
@[simp] theorem execPrimingDone_sys (circuit : Nat) (s : State) : nextSys (execPrimingDone circuit s) = some s.sys := by simp [execPrimingDone]

@[simp] theorem execPrimingTimeout_sys (circuit : Nat) (s : State) : nextSys (execPrimingTimeout circuit s) = some s.sys := by
  simp [execPrimingTimeout]

@[simp] theorem State.handLimits_sys (s : State) : s.handLimits.sys = s.sys := by simp [State.handLimits]
@[simp] theorem State.coolTimers_sys (s : State) (n : Nat) : (s.coolTimers n).sys = s.sys := by simp [State.coolTimers]

@[simp] theorem State.observed_sys (s : State) (n : Nat) (o : ObsOut) (cap : Option Nat) : (s.observed n o cap).sys = s.sys := by
  simp [State.observed]

@[simp] theorem State.circuitCycle_sys (s : State) (n : Nat) : (s.circuitCycle n).sys = s.sys := by simp [State.circuitCycle]
@[simp] theorem execCoolingObserverCycle_sys (s : State) : nextSys (execCoolingObserverCycle s) = some s.sys := by simp [execCoolingObserverCycle]
@[simp] theorem coolStart_sys (c : InFlight) (s : State) : (coolStart c s).sys = s.sys := by simp [coolStart]
@[simp] theorem execCoolStart_sys (q tag : Nat) (s : State) : nextSys (execCoolStart q tag s) = some s.sys := nextSys_startCommand coolStart_sys
@[simp] theorem coolStop_sys (c : InFlight) (s : State) : (coolStop c s).sys = s.sys := by simp [coolStop]
@[simp] theorem execCoolStop_sys (q tag : Nat) (s : State) : nextSys (execCoolStop q tag s) = some s.sys := nextSys_startCommand coolStop_sys
@[simp] theorem coolReset_sys (c : InFlight) (s : State) : (coolReset c s).sys = s.sys := by simp [coolReset]
@[simp] theorem execCoolReset_sys (q tag : Nat) (s : State) : nextSys (execCoolReset q tag s) = some s.sys := nextSys_startCommand coolReset_sys
@[simp] theorem State.centi_sys (s : State) (t : Single) : (s.centi t).2.sys = s.sys := by simp [State.centi]

@[simp] theorem State.circuitRecord_sys (s : State) (n : Nat) : (s.circuitRecord n).2.sys = s.sys := by
  unfold State.circuitRecord
  split <;> simp

@[simp] theorem coolRead_sys (c : InFlight) (s : State) : (coolRead c s).sys = s.sys := by simp [coolRead]
@[simp] theorem execCoolRead_sys (q tag : Nat) (s : State) : nextSys (execCoolRead q tag s) = some s.sys := nextSys_startCommand coolRead_sys

/-! ### Firmware slots -/

@[simp] theorem State.setFw_options (s : State) (n : Nat) (x : FwSlot) : (s.setFw n x).sys.options = s.sys.options := by simp [State.setFw]
@[simp] theorem State.fwFinish_options (s : State) (uid : Nat) : (s.fwFinish uid).sys.options = s.sys.options := by simp [State.fwFinish]
@[simp] theorem State.fwAsk_options (s : State) (uid : Nat) : (s.fwAsk uid).sys.options = s.sys.options := by simp [State.fwAsk]

@[simp] theorem State.fwPulse_options (s : State) : s.fwPulse.sys.options = s.sys.options := by
  unfold State.fwPulse
  split <;> simp

@[simp] theorem fwStoreDone_options (uid : Nat) (s : State) : (fwStoreDone uid s).sys.options = s.sys.options := by
  unfold fwStoreDone
  split <;> simp

/-! ### Granite, shared part -/

@[simp] theorem State.nodePermits_sys (s : State) (node stage : Nat) : (s.nodePermits node stage).2.sys = s.sys := by simp [State.nodePermits]
@[simp] theorem State.lockStages_sys (s : State) : s.lockStages.sys = s.sys := by simp [State.lockStages]
@[simp] theorem State.unlockStages_sys (s : State) : s.unlockStages.sys = s.sys := by simp [State.unlockStages]

@[simp] theorem State.sendTelegram_sys (s : State) (conn ptype : Nat) (payload : List Byte) : (s.sendTelegram conn ptype payload).sys = s.sys := by
  simp [State.sendTelegram]

@[simp] theorem State.sendState_sys (s : State) (conn : Nat) : (s.sendState conn).sys = s.sys := by simp [State.sendState]
@[simp] theorem State.sendChanged_sys (s : State) : s.sendChanged.sys = s.sys := by simp [State.sendChanged]
@[simp] theorem State.lockOutlet_sys (s : State) (cause o : Nat) : (s.lockOutlet cause o).sys = s.sys := by simp [State.lockOutlet]
@[simp] theorem State.tripOutlet_sys (cause : Nat) (s : State) (o : Nat) : (s.tripOutlet cause o).sys = s.sys := by simp [State.tripOutlet]
@[simp] theorem State.trip_sys (s : State) (cause : Nat) (l : List Nat) : (s.trip cause l).sys = s.sys := by simp [State.trip]
@[simp] theorem State.openOutput_sys (s : State) (n : Nat) : (s.openOutput n).sys = s.sys := by simp [State.openOutput]
@[simp] theorem State.lockOutput_sys (s : State) (cause n : Nat) : (s.lockOutput cause n).sys = s.sys := by simp [State.lockOutput]

@[simp] theorem State.outputFault_sys (s : State) (cause n : Nat) (f : GrnOut → GrnOut) : (s.outputFault cause n f).sys = s.sys := by
  simp [State.outputFault]

@[simp] theorem State.openAll_sys (s : State) : s.openAll.sys = s.sys := by simp [State.openAll]
@[simp] theorem State.enterSafe_options (s : State) : s.enterSafe.sys.options = s.sys.options := by simp [State.enterSafe]

@[simp] theorem State.issueToken_sys (s : State) (node stage seq : Nat) : (s.issueToken node stage seq).sys = s.sys := by
  unfold State.issueToken
  split <;> simp

@[simp] theorem State.resetInputs_sys (s : State) (mask : Nat) : (s.resetInputs mask).sys = s.sys := by simp [State.resetInputs]

@[simp] theorem State.grnReset_sys (s : State) (inMask : Nat) (outlets outputs : List Nat) : (s.grnReset inMask outlets outputs).sys = s.sys := by
  unfold State.grnReset
  dsimp only
  split <;> simp

/-! ### Power stages, shared part -/

@[simp] theorem stgConfig_sys (c : InFlight) (s : State) : (stgConfig c s).sys = s.sys := by
  unfold stgConfig
  split <;> simp

@[simp] theorem execStgConfig_sys (q tag : Nat) (s : State) : nextSys (execStgConfig q tag s) = some s.sys := nextSys_startCommand stgConfig_sys

@[simp] theorem State.checkStage_sys (s : State) (obj owner : Nat) (uid : Option Nat) : (s.checkStage obj owner uid).sys = s.sys := by
  simp [State.checkStage]

@[simp] theorem stgCheck_sys (c : InFlight) (s : State) : (stgCheck c s).sys = s.sys := by
  unfold stgCheck
  split <;> simp

@[simp] theorem execStgCheck_sys (q tag : Nat) (s : State) : nextSys (execStgCheck q tag s) = some s.sys := nextSys_startCommand stgCheck_sys

@[simp] theorem State.endCheck_sys (s : State) (uid : Option Nat) (st : Nat) (result : List Byte) : (s.endCheck uid st result).sys = s.sys := by
  unfold State.endCheck
  split <;> simp

@[simp] theorem State.checkFails_sys (s : State) (obj state st failed seq : Nat) : (s.checkFails obj state st failed seq).sys = s.sys := by
  simp [State.checkFails]

@[simp] theorem State.checkDone_sys (s : State) (node stage seq failed : Nat) : (s.checkDone node stage seq failed).sys = s.sys := by
  simp [State.checkDone]

@[simp] theorem execCheckResult_sys (node stage seq failed : Nat) (s : State) : nextSys (execCheckResult node stage seq failed s) = some s.sys := by
  simp [execCheckResult]

@[simp] theorem execCheckTimeout_sys (stage : Nat) (s : State) : nextSys (execCheckTimeout stage s) = some s.sys := by simp [execCheckTimeout]

@[simp] theorem execTokenExpiry_sys (stage : Nat) (s : State) : nextSys (execTokenExpiry stage s) = some s.sys := by
  unfold execTokenExpiry
  split <;> simp

@[simp] theorem State.enableRefusal_sys (s : State) (obj owner targetV dvdt ilim : Nat) :
    (s.enableRefusal obj owner targetV dvdt ilim).2.sys = s.sys := by
  simp [State.enableRefusal]

@[simp] theorem State.enableStage_sys (s : State) (obj owner targetV dvdt ilim : Nat) (uid : Option Nat) :
    (s.enableStage obj owner targetV dvdt ilim uid).sys = s.sys := by
  simp [State.enableStage]

@[simp] theorem stgEnable_sys (c : InFlight) (s : State) : (stgEnable c s).sys = s.sys := by
  unfold stgEnable
  dsimp only
  split <;> simp

@[simp] theorem execStgEnable_sys (q tag : Nat) (s : State) : nextSys (execStgEnable q tag s) = some s.sys := nextSys_startCommand stgEnable_sys

@[simp] theorem execSoftStartEnd_sys (stage : Nat) (s : State) : nextSys (execSoftStartEnd stage s) = some s.sys := by
  unfold execSoftStartEnd
  dsimp only
  split
  · split
    · split <;> simp
    · simp
  · simp

@[simp] theorem execSoftStartTimeout_sys (stage : Nat) (s : State) : nextSys (execSoftStartTimeout stage s) = some s.sys := by
  simp [execSoftStartTimeout]

@[simp] theorem State.shortTrip_sys (s : State) (node stage : Nat) : (s.shortTrip node stage).sys = s.sys := by simp [State.shortTrip]
@[simp] theorem State.disableStage_sys (s : State) (obj : Nat) : (s.disableStage obj).sys = s.sys := by simp [State.disableStage]
@[simp] theorem execSoftStartShort_sys (stage : Nat) (s : State) : nextSys (execSoftStartShort stage s) = some s.sys := by simp [execSoftStartShort]
@[simp] theorem State.disableStages_sys (s : State) (obj : Nat) : (s.disableStages obj).sys = s.sys := by simp [State.disableStages]
@[simp] theorem stgDisable_sys (c : InFlight) (s : State) : (stgDisable c s).sys = s.sys := by simp [stgDisable]
@[simp] theorem execStgDisable_sys (q tag : Nat) (s : State) : nextSys (execStgDisable q tag s) = some s.sys := nextSys_startCommand stgDisable_sys
@[simp] theorem execHoldRampZero_sys (stage : Nat) (s : State) : nextSys (execHoldRampZero stage s) = some s.sys := by simp [execHoldRampZero]

@[simp] theorem State.capsChanged_sys (s : State) (node : Nat) (before : List (Nat × Nat)) : (s.capsChanged node before).sys = s.sys := by
  simp [State.capsChanged]

@[simp] theorem State.phaseFences_sys (s : State) (obj : Nat) (fenced : List Nat) : (s.phaseFences obj fenced).sys = s.sys := by
  simp [State.phaseFences]

@[simp] theorem execPhaseFenceReport_sys (stage : Nat) (fenced : List Nat) (s : State) :
    nextSys (execPhaseFenceReport stage fenced s) = some s.sys := by
  simp [execPhaseFenceReport]

@[simp] theorem State.checkSeen_sys (s : State) (obj seq failed : Nat) : (s.checkSeen obj seq failed).sys = s.sys := by simp [State.checkSeen]

@[simp] theorem State.stageReport_sys (node : Nat) (s : State) (r : StageReport) : (s.stageReport node r).sys = s.sys := by
  unfold State.stageReport
  split <;> simp

@[simp] theorem execNodeStatusBlock_sys (status : NodeStatus) (s : State) : nextSys (execNodeStatusBlock status s) = some s.sys := by
  simp [execNodeStatusBlock]

@[simp] theorem stgRead_sys (c : InFlight) (s : State) : (stgRead c s).sys = s.sys := by simp [stgRead]
@[simp] theorem execStgRead_sys (q tag : Nat) (s : State) : nextSys (execStgRead q tag s) = some s.sys := nextSys_startCommand stgRead_sys

/-! ### Granite -/

@[simp] theorem State.inputFault_sys (s : State) (n : Nat) : (s.inputFault n).sys = s.sys := by simp [State.inputFault]

@[simp] theorem State.inputCycle_sys (samples : List (BitVec 32)) (s : State) (n : Nat) : (s.inputCycle samples n).sys = s.sys := by
  simp [State.inputCycle]

@[simp] theorem execInputDiscrepancy_sys (input : Nat) (s : State) : nextSys (execInputDiscrepancy input s) = some s.sys := by
  unfold execInputDiscrepancy
  split <;> simp

@[simp] theorem State.tripPresent_sys (s : State) (l : List Nat) : (s.tripPresent l).sys = s.sys := by simp [State.tripPresent]
@[simp] theorem State.outputCycle_sys (s : State) (n : Nat) : (s.outputCycle n).sys = s.sys := by simp [State.outputCycle]

@[simp] theorem State.clockCheck_options (s : State) (refCount headers : Nat) : (s.clockCheck refCount headers).sys.options = s.sys.options := by
  simp [State.clockCheck]

@[simp] theorem State.voidTokens_sys (s : State) (node : Nat) (f : Nat → Bool) : (s.voidTokens node f).sys = s.sys := by simp [State.voidTokens]
@[simp] theorem State.siteVoid_sys (s old : State) : (s.siteVoid old).sys = s.sys := by simp [State.siteVoid]

@[simp] theorem execGraniteCycle_options (samples : List (BitVec 32)) (refCount headers : Nat) (s : State) :
    nextOptions (execGraniteCycle samples refCount headers s) = some s.sys.options := by
  simp [execGraniteCycle]

@[simp] theorem State.switchCheck_sys (s : State) (n highMv lowMv : Nat) : (s.switchCheck n highMv lowMv).sys = s.sys := by simp [State.switchCheck]

@[simp] theorem execTestPulse_sys (output highMv lowMv : Nat) (s : State) : nextSys (execTestPulse output highMv lowMv s) = some s.sys := by
  simp [execTestPulse]

@[simp] theorem execFeedbackTimeout_sys (output : Nat) (s : State) : nextSys (execFeedbackTimeout output s) = some s.sys := by
  unfold execFeedbackTimeout
  split <;> simp

@[simp] theorem execOutputCurrentLimit_sys (output : Nat) (s : State) : nextSys (execOutputCurrentLimit output s) = some s.sys := by
  simp [execOutputCurrentLimit]

@[simp] theorem State.connFault_sys (s : State) (n : Nat) : (s.connFault n).sys = s.sys := by simp [State.connFault]

@[simp] theorem execConnectionWatchdogExpiry_sys (conn : Nat) (s : State) : nextSys (execConnectionWatchdogExpiry conn s) = some s.sys := by
  unfold execConnectionWatchdogExpiry
  dsimp only
  split <;> simp

@[simp] theorem execConnectionStartTimeout_sys (conn : Nat) (s : State) : nextSys (execConnectionStartTimeout conn s) = some s.sys := by
  simp [execConnectionStartTimeout]

@[simp] theorem execStateTelegramDue_sys (conn : Nat) (s : State) : nextSys (execStateTelegramDue conn s) = some s.sys := by
  unfold execStateTelegramDue
  split <;> simp

@[simp] theorem State.crcError_sys (s : State) (n : Nat) : (s.crcError n).sys = s.sys := by simp [State.crcError]
@[simp] theorem State.connAccept_sys (s : State) (n seq : Nat) : (s.connAccept n seq).sys = s.sys := by simp [State.connAccept]
@[simp] theorem State.lockSetIn_sys (s : State) (p : List Byte) : (s.lockSetIn p).sys = s.sys := by simp [State.lockSetIn]

@[simp] theorem execLockSetReceived_sys (payload : List Byte) (s : State) : nextSys (execLockSetReceived payload s) = some s.sys := by
  simp [execLockSetReceived]

@[simp] theorem State.stateIn_sys (s : State) (n : Nat) (r : Rec) (p : List Byte) : (s.stateIn n r p).sys = s.sys := by simp [State.stateIn]

@[simp] theorem State.telegramIn_sys (s : State) (n : Nat) (r : Rec) (ptype : Nat) (p : List Byte) : (s.telegramIn n r ptype p).sys = s.sys := by
  unfold State.telegramIn
  split <;> simp

@[simp] theorem State.safetyIn_sys (s : State) (source : SafetySource) (telegram : List Byte) : (s.safetyIn source telegram).sys = s.sys := by
  unfold State.safetyIn
  dsimp only
  split
  · simp
  · split <;> simp

@[simp] theorem execSafetyTelegram_sys (source : SafetySource) (telegram : List Byte) (s : State) :
    nextSys (execSafetyTelegram source telegram s) = some s.sys := by
  simp [execSafetyTelegram]

@[simp] theorem execModuleSafeState_options (configurationCheck : Bool) (s : State) :
    nextOptions (execModuleSafeState configurationCheck s) = some s.sys.options := by
  simp [execModuleSafeState]

@[simp] theorem execGraniteHalt_options (s : State) : nextOptions (execGraniteHalt s) = some s.sys.options := by simp [execGraniteHalt]

@[simp] theorem grnConfigLoad_sys (c : InFlight) (s : State) : (grnConfigLoad c s).sys = s.sys := by
  unfold grnConfigLoad
  split
  · simp
  · split <;> simp

@[simp] theorem execGrnConfigLoad_sys (q tag : Nat) (s : State) : nextSys (execGrnConfigLoad q tag s) = some s.sys :=
  nextSys_startCommand grnConfigLoad_sys

@[simp] theorem grnConfigCommit_sys (c : InFlight) (s : State) : (grnConfigCommit c s).sys = s.sys := by
  unfold grnConfigCommit
  split <;> simp

@[simp] theorem execGrnConfigCommit_sys (q tag : Nat) (s : State) : nextSys (execGrnConfigCommit q tag s) = some s.sys :=
  nextSys_startCommand grnConfigCommit_sys

@[simp] theorem execCommitPulseTimeout_sys (s : State) : nextSys (execCommitPulseTimeout s) = some s.sys := by
  unfold execCommitPulseTimeout
  split <;> simp

@[simp] theorem State.grnActivate_sys (s : State) (i : GrnImage) (uid : Nat) : (s.grnActivate i uid).sys = s.sys := by simp [State.grnActivate]

@[simp] theorem State.resetPulse_sys (s : State) : s.resetPulse.sys = s.sys := by
  unfold State.resetPulse
  dsimp only
  split
  · split <;> simp
  · split <;> simp

@[simp] theorem execSresetPulse_options (highUs lowUs : Nat) (s : State) : nextOptions (execSresetPulse highUs lowUs s) = some s.sys.options := by
  simp [execSresetPulse]

@[simp] theorem execSresetTooLong_sys (s : State) : nextSys (execSresetTooLong s) = some s.sys := by simp [execSresetTooLong]
@[simp] theorem grnRead_sys (c : InFlight) (s : State) : (grnRead c s).sys = s.sys := by simp [grnRead]
@[simp] theorem execGrnRead_sys (q tag : Nat) (s : State) : nextSys (execGrnRead q tag s) = some s.sys := nextSys_startCommand grnRead_sys

@[simp] theorem grnResetArm_sys (c : InFlight) (s : State) : (grnResetArm c s).sys = s.sys := by
  unfold grnResetArm
  split <;> simp

@[simp] theorem execGrnResetArm_sys (q tag : Nat) (s : State) : nextSys (execGrnResetArm q tag s) = some s.sys := nextSys_startCommand grnResetArm_sys

@[simp] theorem execResetArmExpiry_sys (s : State) : nextSys (execResetArmExpiry s) = some s.sys := by
  unfold execResetArmExpiry
  split <;> simp

@[simp] theorem grnTrip_sys (c : InFlight) (s : State) : (grnTrip c s).sys = s.sys := by
  unfold grnTrip
  split <;> simp

@[simp] theorem execGrnTrip_sys (q tag : Nat) (s : State) : nextSys (execGrnTrip q tag s) = some s.sys := nextSys_startCommand grnTrip_sys
@[simp] theorem grnConnRead_sys (c : InFlight) (s : State) : (grnConnRead c s).sys = s.sys := by simp [grnConnRead]
@[simp] theorem execGrnConnRead_sys (q tag : Nat) (s : State) : nextSys (execGrnConnRead q tag s) = some s.sys := nextSys_startCommand grnConnRead_sys

/-! ### Vehicle sessions -/

@[simp] theorem State.tunnelSeq_sys (s : State) (o seq : Nat) : (s.tunnelSeq o seq).sys = s.sys := by simp [State.tunnelSeq]

@[simp] theorem State.segment_sys (s : State) (n : Nat) (m : Nat → Nat → TunnelMsg) : (s.segment n m).sys = s.sys := by
  unfold State.segment
  split
  · simp
  · split <;> simp

@[simp] theorem State.respond_sys (s : State) (n : Nat) (ok : Bool) : (s.respond n ok).sys = s.sys := by
  unfold State.respond
  split <;> simp

@[simp] theorem State.toClosing_sys (s : State) (n : Nat) : (s.toClosing n).sys = s.sys := by
  unfold State.toClosing
  split <;> simp

@[simp] theorem State.makeEmergency_sys (s : State) (n : Nat) (c : Ctx) : (s.makeEmergency n c).sys = s.sys := by simp [State.makeEmergency]

@[simp] theorem State.endSession_sys (s : State) (n cause : Nat) (emergency : Bool) : (s.endSession n cause emergency).sys = s.sys := by
  unfold State.endSession
  split <;> simp

@[simp] theorem State.stagesOff_sys (s : State) (n : Nat) : (s.stagesOff n).sys = s.sys := by
  unfold State.stagesOff
  split <;> simp

@[simp] theorem State.maybeComm_sys (s : State) (n : Nat) : (s.maybeComm n).sys = s.sys := by simp [State.maybeComm]

@[simp] theorem State.plug_sys (s : State) (o : Nat) : (s.plug o).sys = s.sys := by
  unfold State.plug
  split
  · simp
  · split <;> simp

@[simp] theorem execConnectionEvent_sys (node connector seq : Nat) (event : ConnEvent) (s : State) :
    nextSys (execConnectionEvent node connector seq event s) = some s.sys := by
  unfold execConnectionEvent
  dsimp only
  split
  · simp
  · split
    case h_2 => split <;> simp
    case h_3 => split <;> simp
    case h_4 => split <;> simp
    case h_5 => split <;> simp
    all_goals simp

@[simp] theorem execLinkEvent_sys (node connector seq : Nat) (up : Bool) (s : State) :
    nextSys (execLinkEvent node connector seq up s) = some s.sys := by
  unfold execLinkEvent
  dsimp only
  split
  · simp
  · split <;> simp

@[simp] theorem execNoContextRetry_sys (outlet : Nat) (s : State) : nextSys (execNoContextRetry outlet s) = some s.sys := by
  unfold execNoContextRetry
  split <;> simp

@[simp] theorem State.badMessage_sys (s : State) (n : Nat) : (s.badMessage n).sys = s.sys := by
  unfold State.badMessage
  dsimp only
  split <;> simp

@[simp] theorem State.sesChecks_sys (s : State) (n : Nat) : (s.sesChecks n).sys = s.sys := by
  unfold State.sesChecks
  split <;> simp

@[simp] theorem State.sesAuthorise_sys (s : State) (n : Nat) (c : Ctx) (k : Option Contract) : (s.sesAuthorise n c k).sys = s.sys := by
  unfold State.sesAuthorise
  split
  · simp
  · split <;> simp

@[simp] theorem State.sesStart_sys (s : State) (n : Nat) (c : Ctx) : (s.sesStart n c).sys = s.sys := by
  unfold State.sesStart
  dsimp only
  split
  · simp
  · split
    · simp
    · split
      · simp
      · split
        · simp
        · split
          · simp
          · simp [State.handover_sys ‹_›]

@[simp] theorem State.sesTls_sys (s : State) (n : Nat) (c : Ctx) (o : VehicleTls) : (s.sesTls n c o).sys = s.sys := by
  unfold State.sesTls
  dsimp only
  split
  · split <;> simp
  · simp

@[simp] theorem State.sesMessage_sys (s : State) (n : Nat) (c : Ctx) (m : VehicleMsg) : (s.sesMessage n c m).sys = s.sys := by
  unfold State.sesMessage
  dsimp only
  split
  case h_3 =>
    split
    · split <;> simp
    · simp
  all_goals simp

@[simp] theorem State.sesPacket_sys (s : State) (n : Nat) (c : Ctx) (f : VehicleFrame) : (s.sesPacket n c f).sys = s.sys := by
  unfold State.sesPacket
  split
  case h_5 => split <;> simp
  all_goals simp

@[simp] theorem execVehicleFrame_sys (node connector seq mac : Nat) (frame : VehicleFrame) (s : State) :
    nextSys (execVehicleFrame node connector seq mac frame s) = some s.sys := by
  unfold execVehicleFrame
  dsimp only
  split
  · simp
  · split <;> simp

@[simp] theorem State.sesAsk_sys (s : State) (n : Nat) (c : Ctx) : (s.sesAsk n c).sys = s.sys := by simp [State.sesAsk]

@[simp] theorem State.sesChange_sys (s : State) (n : Nat) (c : Ctx) (kw : Nat) (partialOk : Bool) : (s.sesChange n c kw partialOk).sys = s.sys := by
  simp [State.sesChange]

@[simp] theorem State.sesArms_sys (n : Nat) (l : List Nat) (s : State) : (s.sesArms n l).sys = s.sys := by
  induction l generalizing s with
  | nil => rfl
  | cons i l ih =>
    unfold State.sesArms
    split
    · simp [ih, State.armFor_sys ‹_›]
    · simp

@[simp] theorem State.sesArm_sys (s : State) (n : Nat) (c : Ctx) : (s.sesArm n c).sys = s.sys := by simp [State.sesArm]

@[simp] theorem State.sesAnswer_sys (s : State) (consumer st : Nat) : (s.sesAnswer consumer st).sys = s.sys := by
  unfold State.sesAnswer
  split <;> simp

@[simp] theorem State.handAnswers_sys (s : State) : s.handAnswers.sys = s.sys := by simp [State.handAnswers]

@[simp] theorem execShrinkTimer_sys (context : Nat) (s : State) : nextSys (execShrinkTimer context s) = some s.sys := by
  unfold execShrinkTimer
  split <;> simp

@[simp] theorem execRegrantTimer_sys (context : Nat) (s : State) : nextSys (execRegrantTimer context s) = some s.sys := by
  unfold execRegrantTimer
  split <;> simp

@[simp] theorem State.sesCable_sys (s : State) (n : Nat) (c : Ctx) : (s.sesCable n c).sys = s.sys := by simp [State.sesCable]

@[simp] theorem State.sesPrecharge_sys (s : State) (n : Nat) (c : Ctx) : (s.sesPrecharge n c).sys = s.sys := by
  unfold State.sesPrecharge
  dsimp only
  split
  · split
    · simp
    · split
      · split <;> simp
      · simp
  · split
    · simp
    · split
      · simp
      · split
        · simp
        · split
          · generalize hc : List.foldl _ ((none : Option Nat), s) _ = chk
            have h : chk.2.sys = s.sys := by
              rw [← hc]
              refine State.snd_sys_foldl (fun a k => ?_) _ _
              split <;> simp
            split <;> simp [h]
          · simp
  · simp
  · simp

@[simp] theorem State.sesTransfer_sys (s : State) (n : Nat) (c : Ctx) : (s.sesTransfer n c).sys = s.sys := by simp [State.sesTransfer]
@[simp] theorem State.sesStopping_sys (s : State) (n : Nat) (c : Ctx) : (s.sesStopping n c).sys = s.sys := by simp [State.sesStopping]
@[simp] theorem State.sesClosing_sys (s : State) (n : Nat) (c : Ctx) : (s.sesClosing n c).sys = s.sys := by simp [State.sesClosing]
@[simp] theorem State.sesTimers_sys (s : State) (n : Nat) (c : Ctx) : (s.sesTimers n c).sys = s.sys := by simp [State.sesTimers]

@[simp] theorem State.fatalEnd_sys (s : State) (n : Nat) : (s.fatalEnd n).sys = s.sys := by
  unfold State.fatalEnd
  split <;> simp

@[simp] theorem State.sesCycle_sys (s : State) (n : Nat) : (s.sesCycle n).sys = s.sys := by
  unfold State.sesCycle
  dsimp only
  split
  · simp
  · split <;> simp

@[simp] theorem execSessionLimitsCycle_sys (s : State) : nextSys (execSessionLimitsCycle s) = some s.sys := by simp [execSessionLimitsCycle]

@[simp] theorem State.sesTimeout_sys (s : State) (n lo hi cause : Nat) (due : Ctx → Bool) :
    nextSys (s.sesTimeout n lo hi cause due) = some s.sys := by
  unfold State.sesTimeout
  split <;> simp

@[simp] theorem execSesLinkTimeout_sys (context : Nat) (s : State) : nextSys (execSesLinkTimeout context s) = some s.sys := by
  simp [execSesLinkTimeout]

@[simp] theorem execAuthTimeout_sys (context : Nat) (s : State) : nextSys (execAuthTimeout context s) = some s.sys := by simp [execAuthTimeout]

@[simp] theorem execCableCheckTimeout_sys (context : Nat) (s : State) : nextSys (execCableCheckTimeout context s) = some s.sys := by
  simp [execCableCheckTimeout]

@[simp] theorem execDemandTimeout_sys (context : Nat) (s : State) : nextSys (execDemandTimeout context s) = some s.sys := by simp [execDemandTimeout]

@[simp] theorem execProtocolTimeout_sys (context : Nat) (s : State) : nextSys (execProtocolTimeout context s) = some s.sys := by
  simp [execProtocolTimeout]

@[simp] theorem execOvervoltageDetected_sys (context : Nat) (s : State) : nextSys (execOvervoltageDetected context s) = some s.sys := by
  simp [execOvervoltageDetected]

@[simp] theorem execReverseCurrentDetected_sys (context : Nat) (s : State) : nextSys (execReverseCurrentDetected context s) = some s.sys := by
  simp [execReverseCurrentDetected]

@[simp] theorem execStopCurrentLow_sys (context : Nat) (s : State) : nextSys (execStopCurrentLow context s) = some s.sys := by
  unfold execStopCurrentLow
  split <;> simp

@[simp] theorem execEstopTimeout_sys (context : Nat) (s : State) : nextSys (execEstopTimeout context s) = some s.sys := by
  unfold execEstopTimeout
  split <;> simp

@[simp] theorem execWeldCheckTimeout_sys (outlet : Nat) (s : State) : nextSys (execWeldCheckTimeout outlet s) = some s.sys := by
  unfold execWeldCheckTimeout
  split <;> simp

@[simp] theorem sesOutletConfig_sys (c : InFlight) (s : State) : (sesOutletConfig c s).sys = s.sys := by
  unfold sesOutletConfig
  split <;> simp

@[simp] theorem execSesOutletConfig_sys (q tag : Nat) (s : State) : nextSys (execSesOutletConfig q tag s) = some s.sys :=
  nextSys_startCommand sesOutletConfig_sys

@[simp] theorem sesOutletState_sys (c : InFlight) (s : State) : (sesOutletState c s).sys = s.sys := by simp [sesOutletState]

@[simp] theorem execSesOutletState_sys (q tag : Nat) (s : State) : nextSys (execSesOutletState q tag s) = some s.sys :=
  nextSys_startCommand sesOutletState_sys

@[simp] theorem sesAuthoriseCmd_sys (c : InFlight) (s : State) : (sesAuthoriseCmd c s).sys = s.sys := by
  unfold sesAuthoriseCmd
  dsimp only
  split <;> simp

@[simp] theorem execSesAuthorise_sys (q tag : Nat) (s : State) : nextSys (execSesAuthorise q tag s) = some s.sys :=
  nextSys_startCommand sesAuthoriseCmd_sys

@[simp] theorem sesStop_sys (c : InFlight) (s : State) : (sesStop c s).sys = s.sys := by
  unfold sesStop
  dsimp only
  split <;> simp

@[simp] theorem execSesStop_sys (q tag : Nat) (s : State) : nextSys (execSesStop q tag s) = some s.sys := nextSys_startCommand sesStop_sys
@[simp] theorem sesRead_sys (c : InFlight) (s : State) : (sesRead c s).sys = s.sys := by simp [sesRead]
@[simp] theorem execSesRead_sys (q tag : Nat) (s : State) : nextSys (execSesRead q tag s) = some s.sys := nextSys_startCommand sesRead_sys

/-! ### The arbiter's microsecond -/

@[simp] theorem State.gridSet_sys (s : State) (e : Nat × Option Nat × Nat) : (s.gridSet e).sys = s.sys := by simp [State.gridSet]
@[simp] theorem State.arbStep1_sys (s : State) : s.arbStep1.sys = s.sys := by simp [State.arbStep1]

@[simp] theorem State.arbTake_sys (s : State) (r : LeaveReq) : (s.arbTake r).sys = s.sys := by
  unfold State.arbTake
  split <;> simp

@[simp] theorem State.arbStep3_sys (s : State) : s.arbStep3.sys = s.sys := by simp [State.arbStep3]
@[simp] theorem State.arbStep4_sys (s : State) : s.arbStep4.sys = s.sys := by simp [State.arbStep4]
@[simp] theorem State.arbStep5_sys (s : State) : s.arbStep5.sys = s.sys := by simp [State.arbStep5]

@[simp] theorem State.arbWait_sys (s : State) (e : Nat × LvSlot) : (s.arbWait e).sys = s.sys := by
  unfold State.arbWait
  split
  · simp
  · split <;> simp

@[simp] theorem State.arbStep6_sys (s : State) : s.arbStep6.sys = s.sys := by simp [State.arbStep6]
@[simp] theorem State.fatalEnds_sys (s : State) : s.fatalEnds.sys = s.sys := by simp [State.fatalEnds]
@[simp] theorem State.noteEvents_sys (s : State) : s.noteEvents.sys = s.sys := by simp [State.noteEvents]
@[simp] theorem State.arbitrate_sys (s : State) : s.arbitrate.sys = s.sys := by simp [State.arbitrate]
@[simp] theorem execArbiterMicrosecond_sys (s : State) : nextSys (execArbiterMicrosecond s) = some s.sys := by simp [execArbiterMicrosecond]

/-! ### Billing, shared part -/

@[simp] theorem State.storeNote_sys (s : State) : s.storeNote.sys = s.sys := by simp [State.storeNote]
@[simp] theorem State.logWrite_sys (s : State) (e : Nat × Nat × Nat × List Byte) : (s.logWrite e).sys = s.sys := by simp [State.logWrite]

@[simp] theorem State.logDrain_sys (l : List (Nat × Nat × Nat × List Byte)) (s : State) : (s.logDrain l).sys = s.sys := by
  induction l generalizing s with
  | nil => rfl
  | cons e l ih =>
    unfold State.logDrain
    split
    · rfl
    · simp [ih]

@[simp] theorem State.logPutAt_sys (s : State) (at' type ch : Nat) (data : List Byte) : (s.logPutAt at' type ch data).sys = s.sys := by
  simp [State.logPutAt]

@[simp] theorem State.logPut_sys (s : State) (type ch : Nat) (data : List Byte) : (s.logPut type ch data).sys = s.sys := by simp [State.logPut]

@[simp] theorem State.chanSession_sys (s : State) (ch : Nat) : (s.chanSession ch).sys = s.sys := by
  unfold State.chanSession
  split <;> simp

@[simp] theorem State.chanLost_sys (s : State) (ch : Nat) : (s.chanLost ch).sys = s.sys := by simp [State.chanLost]
@[simp] theorem State.allLost_sys (s : State) : s.allLost.sys = s.sys := by simp [State.allLost]
@[simp] theorem State.noteFullStore_sys (s : State) : s.noteFullStore.sys = s.sys := by simp [State.noteFullStore]

@[simp] theorem State.legalLogAt_sys (s : State) (at' type ch : Nat) (data : List Byte) : (s.legalLogAt at' type ch data).sys = s.sys := by
  simp [State.legalLogAt]

@[simp] theorem State.legalLog_sys (s : State) (type ch : Nat) (data : List Byte) : (s.legalLog type ch data).sys = s.sys := by simp [State.legalLog]
@[simp] theorem State.signReading_sys (s : State) (body : List Byte) : (s.signReading body).2.sys = s.sys := by simp [State.signReading]

@[simp] theorem State.issueReading_sys (s : State) (kind : Nat) (a : RdAcc) (endMs : Nat) (demand : Tab Nat) :
    (s.issueReading kind a endMs demand).sys = s.sys := by
  simp [State.issueReading]

@[simp] theorem State.registerEnergy_sys (s : State) (ch : Nat) (es : List (Nat × Nat)) (est : Nat) (flags : BitVec 16) :
    (s.registerEnergy ch es est flags).sys = s.sys := by
  simp [State.registerEnergy]

@[simp] theorem State.demandW_sys (s : State) (r : ChanReg) : (s.demandW r).2.sys = s.sys := by simp [State.demandW]

@[simp] theorem State.closeDemand_sys (s : State) (ch fired : Nat) (flags : BitVec 16) : (s.closeDemand ch fired flags).sys = s.sys := by
  simp [State.closeDemand]

@[simp] theorem State.fireDemand_sys (s : State) : s.fireDemand.sys = s.sys := by simp [State.fireDemand]
@[simp] theorem State.newPeriod_sys (s : State) (ch : Nat) : (s.newPeriod ch).sys = s.sys := by simp [State.newPeriod]

@[simp] theorem State.firePeriods_sys (b n : Nat) (s : State) : (s.firePeriods b n).sys = s.sys := by
  induction n generalizing s with
  | zero => rfl
  | succ n ih =>
    unfold State.firePeriods
    dsimp only
    split
    · rfl
    · split
      · simp only [ih, State.sys_ite, State.raise_sys, ite_self]
        rw [State.sys_foldl]
        · rfl
        · intro u ch
          dsimp only
          split <;> simp
      · rfl

@[simp] theorem State.fireActivation_sys (t : Nat) (s : State) (k : Nat) : (s.fireActivation t k).sys = s.sys := by simp [State.fireActivation]

@[simp] theorem State.fireSwitch_sys (t : Nat) (s : State) (k : Nat) : (s.fireSwitch t k).sys = s.sys := by
  unfold State.fireSwitch
  split <;> simp

@[simp] theorem State.fireOffset_sys (t : Nat) (s : State) : (s.fireOffset t).sys = s.sys := by simp [State.fireOffset]

@[simp] theorem State.fireAssign_sys (now : Nat) (s : State) : (s.fireAssign now).sys = s.sys := by
  unfold State.fireAssign
  split <;> simp

@[simp] theorem State.othersAt_sys (s : State) (b : Nat) : (s.othersAt b).sys = s.sys := by simp [State.othersAt]

@[simp] theorem State.fireInOrder_sys (n : Nat) (s : State) : (s.fireInOrder n).sys = s.sys := by
  induction n generalizing s with
  | zero => exact State.othersAt_sys ..
  | succ n ih =>
    unfold State.fireInOrder
    split
    · simp [ih]
    · simp

@[simp] theorem State.fireOthers_sys (s : State) : s.fireOthers.sys = s.sys := by simp [State.fireOthers]
@[simp] theorem State.fireAll_sys (s : State) : s.fireAll.sys = s.sys := by simp [State.fireAll]

@[simp] theorem State.advanceDemand_sys (s : State) (ch c t : Nat) (flags : BitVec 16) : (s.advanceDemand ch c t flags).sys = s.sys := by
  simp [State.advanceDemand]

@[simp] theorem State.resumeLegal_sys (s : State) (t : Nat) (flags : BitVec 16) : (s.resumeLegal t flags).sys = s.sys := by
  unfold State.resumeLegal
  split <;> simp

/-! ### Metrology -/

@[simp] theorem State.corrHead_sys (s : State) (ch code : Nat) (raw exp : Int) : (s.corrHead ch code raw exp).2.sys = s.sys := by
  simp [State.corrHead]

@[simp] theorem State.corrJ2_sys (s : State) (ch code step : Nat) (raw : Int) : (s.corrJ2 ch code step raw).2.sys = s.sys := by simp [State.corrJ2]

@[simp] theorem State.corrSample_sys (s : State) (ch : Nat) (l : List (Nat × Int × Int)) : (s.corrSample ch l).2.sys = s.sys := by
  induction l generalizing s with
  | nil => rfl
  | cons x l ih => exact (ih _).trans (by simp)

@[simp] theorem State.blockSums_sys (s : State) (ch kind : Nat) (exps : List Int) (l : List (List Int)) :
    (s.blockSums ch kind exps l).2.sys = s.sys := by
  simp [State.blockSums]

@[simp] theorem execSampleBlock_sys (block : SampleBlock) (s : State) : nextSys (execSampleBlock block s) = some s.sys := by
  unfold execSampleBlock
  split
  · simp
  · split <;> simp

@[simp] theorem State.j2Currents_sys (s : State) (x : J2Sample) : (s.j2Currents x).2.sys = s.sys := by simp [State.j2Currents]
@[simp] theorem execGainStepUp_sys (input : Nat) (s : State) : nextSys (execGainStepUp input s) = some s.sys := by simp [execGainStepUp]

@[simp] theorem State.corrJ2s_sys (s : State) (ch : Nat) (l : List (Nat × Nat × Int)) : (s.corrJ2s ch l).2.sys = s.sys := by
  induction l generalizing s with
  | nil => rfl
  | cons x l ih => exact (ih _).trans (by simp)

@[simp] theorem State.j2Channel_sys (s : State) (ch : Nat) (l : List (J2Sample × List (Int × Nat))) : (s.j2Channel ch l).sys = s.sys := by
  unfold State.j2Channel
  extract_lets r k v i codes res q hot cur t
  have hres : res.2.2.sys = s.sys := by
    refine foldl_leaves (fun a : TickRec × Bool × State => a.2.2.sys) (fun a x => ?_) _ _
    simp
  have hq : q.2.sys = s.sys := by
    unfold q
    split <;> simp [hres]
  have ht : t.sys = s.sys := by simp [t, hq]
  clear_value t
  split <;> simp [ht]

@[simp] theorem State.nwhOf_sys (s : State) (e : Int) : (s.nwhOf e).2.sys = s.sys := by simp [State.nwhOf]

@[simp] theorem State.legFeed_sys (s : State) (ch : Nat) (es : List (Nat × Nat)) (out : Nat) : (s.legFeed ch es out).sys = s.sys := by
  simp [State.legFeed]

@[simp] theorem State.pulseFeed_sys (s : State) (ch : Nat) (es : List (Nat × Nat)) : (s.pulseFeed ch es).sys = s.sys := by simp [State.pulseFeed]
@[simp] theorem State.pulseTick_sys (s : State) : s.pulseTick.sys = s.sys := by simp [State.pulseTick]

@[simp] theorem execPulseBacklogPersisted_sys (output : Nat) (s : State) : nextSys (execPulseBacklogPersisted output s) = some s.sys := by
  simp [execPulseBacklogPersisted]

@[simp] theorem State.tickChannel_sys (s : State) (ch : Nat) : (s.tickChannel ch).sys = s.sys := by simp [State.tickChannel]
@[simp] theorem execGapExceeded_sys (channel : Nat) (s : State) : nextSys (execGapExceeded channel s) = some s.sys := by simp [execGapExceeded]

@[simp] theorem execOverrangePersisted_sys (channel : Nat) (s : State) : nextSys (execOverrangePersisted channel s) = some s.sys := by
  simp [execOverrangePersisted]

@[simp] theorem execChannelStarted_sys (channel : Nat) (s : State) : nextSys (execChannelStarted channel s) = some s.sys := by
  simp [execChannelStarted]

@[simp] theorem execChannelBack_sys (channel : Nat) (s : State) : nextSys (execChannelBack channel s) = some s.sys := by simp [execChannelBack]

@[simp] theorem execHarmonicWindowEnd_sys (channel freq : Nat) (blocks : List HarmBlock) (s : State) :
    nextSys (execHarmonicWindowEnd channel freq blocks s) = some s.sys := by
  simp [execHarmonicWindowEnd]

@[simp] theorem State.openSeal_sys (s : State) (minutes : Nat) (reason : List Byte) : (s.openSeal minutes reason).sys = s.sys := by
  simp [State.openSeal]

@[simp] theorem State.closeSeal_sys (s : State) : s.closeSeal.sys = s.sys := by simp [State.closeSeal]

@[simp] theorem execSealExpiry_sys (s : State) : nextSys (execSealExpiry s) = some s.sys := by
  unfold execSealExpiry
  split <;> simp

@[simp] theorem State.metOk_sys (s : State) (uid : Nat) (result : List Byte) : (s.metOk uid result).sys = s.sys := by simp [State.metOk]
@[simp] theorem State.jasperStore_sys (s : State) (c : InFlight) (w : MetStore) : (s.jasperStore c w).sys = s.sys := by simp [State.jasperStore]
@[simp] theorem State.sealedStore_sys (s : State) (c : InFlight) (w : MetStore) : (s.sealedStore c w).sys = s.sys := by simp [State.sealedStore]

@[simp] theorem metChanConfig_sys (c : InFlight) (s : State) : (metChanConfig c s).sys = s.sys := by
  unfold metChanConfig
  split <;> simp

@[simp] theorem execMetChanConfig_sys (q tag : Nat) (s : State) : nextSys (execMetChanConfig q tag s) = some s.sys :=
  nextSys_startCommand metChanConfig_sys

@[simp] theorem metCalSet_sys (c : InFlight) (s : State) : (metCalSet c s).sys = s.sys := by
  unfold metCalSet
  split <;> simp

@[simp] theorem execMetCalSet_sys (q tag : Nat) (s : State) : nextSys (execMetCalSet q tag s) = some s.sys := nextSys_startCommand metCalSet_sys
@[simp] theorem metSeal_sys (c : InFlight) (s : State) : (metSeal c s).sys = s.sys := by simp [metSeal]
@[simp] theorem execMetSeal_sys (q tag : Nat) (s : State) : nextSys (execMetSeal q tag s) = some s.sys := nextSys_startCommand metSeal_sys
@[simp] theorem State.centiMean_sys (s : State) (sum : Int) (n : Nat) : (s.centiMean sum n).2.sys = s.sys := State.roundDiv_sys ..

@[simp] theorem State.centiRms_sys (s : State) (sum : Int) (n : Nat) : (s.centiRms sum n).2.sys = s.sys := by
  unfold State.centiRms
  rw [State.roundDiv_sys]

/-- Values put through a rounding each leave the block that the rounding leaves. -/
@[simp] theorem State.mapOpen_sys {f : State → Nat → Int × State} (hf : Leaves (fun p : Int × State => p.2.sys) fun p k => f p.2 k) (s : State)
    (l : List Nat) : (s.mapOpen f l).2.sys = s.sys := by
  induction l generalizing s with
  | nil => rfl
  | cons k l ih => exact (ih _).trans (hf (0, s) k)

@[simp] theorem State.metRecord_sys (s : State) (ch : Nat) : (s.metRecord ch).2.sys = s.sys := by
  unfold State.metRecord
  split <;> simp

@[simp] theorem metRead_sys (c : InFlight) (s : State) : (metRead c s).sys = s.sys := by simp [metRead]
@[simp] theorem execMetRead_sys (q tag : Nat) (s : State) : nextSys (execMetRead q tag s) = some s.sys := nextSys_startCommand metRead_sys
@[simp] theorem metHarmRead_sys (c : InFlight) (s : State) : (metHarmRead c s).sys = s.sys := by simp [metHarmRead]
@[simp] theorem execMetHarmRead_sys (q tag : Nat) (s : State) : nextSys (execMetHarmRead q tag s) = some s.sys := nextSys_startCommand metHarmRead_sys
@[simp] theorem metCalRead_sys (c : InFlight) (s : State) : (metCalRead c s).sys = s.sys := by simp [metCalRead]
@[simp] theorem execMetCalRead_sys (q tag : Nat) (s : State) : nextSys (execMetCalRead q tag s) = some s.sys := nextSys_startCommand metCalRead_sys

@[simp] theorem metPulseSet_sys (c : InFlight) (s : State) : (metPulseSet c s).sys = s.sys := by
  unfold metPulseSet
  split <;> simp

@[simp] theorem execMetPulseSet_sys (q tag : Nat) (s : State) : nextSys (execMetPulseSet q tag s) = some s.sys := nextSys_startCommand metPulseSet_sys
@[simp] theorem metLegSelect_sys (c : InFlight) (s : State) : (metLegSelect c s).sys = s.sys := by simp [metLegSelect]

@[simp] theorem execMetLegSelect_sys (q tag : Nat) (s : State) : nextSys (execMetLegSelect q tag s) = some s.sys :=
  nextSys_startCommand metLegSelect_sys

@[simp] theorem State.applyStored_sys (s : State) (w : Nat × MetStore) : (s.applyStored w).sys = s.sys := by
  unfold State.applyStored
  split <;> simp

/-! ### Billing -/

@[simp] theorem State.deduct_sys (s : State) (k : Nat) (n : Int) : (s.deduct k n).sys = s.sys := by simp [State.deduct]

@[simp] theorem State.deductOpened_sys (u : State) (e : Nat × RdAcc) : (u.deductOpened e).sys = u.sys := by
  unfold State.deductOpened
  dsimp only
  split
  · simp
  · split
    · split <;> simp
    · simp

@[simp] theorem execCreditDeduction_sys (s : State) : nextSys (execCreditDeduction s) = some s.sys := by simp [execCreditDeduction]
@[simp] theorem State.openReading_sys (s : State) (n : Nat) (c : Ctx) : (s.openReading n c).sys = s.sys := by simp [State.openReading]

@[simp] theorem State.closeReading_sys (s : State) (n : Nat) (a : RdAcc) (c : Ctx) : (s.closeReading n a c).sys = s.sys := by
  unfold State.closeReading
  dsimp only
  split
  · split <;> simp
  · simp

@[simp] theorem State.sessionReadings_sys (s : State) : s.sessionReadings.sys = s.sys := by
  unfold State.sessionReadings
  dsimp only
  rw [State.sys_foldl, State.sys_foldl]
  · intro u e
    dsimp only
    split <;> simp
  · intro u e
    dsimp only
    split <;> simp

@[simp] theorem State.adjustClock_sys (s : State) (t : Nat) : (s.adjustClock t).1.sys = s.sys := by simp [State.adjustClock]

@[simp] theorem State.clockRequests_sys (s : State) : s.clockRequests.sys = s.sys := by
  refine State.sys_foldl (fun u w => ?_) _ _
  dsimp only
  split <;> simp

@[simp] theorem State.journalNow_sys (s : State) (commit : Nat) : (s.journalNow commit).sys = s.sys := rfl
@[simp] theorem execJournalWrite_sys (s : State) : nextSys (execJournalWrite s) = some s.sys := by simp [execJournalWrite]
@[simp] theorem State.powerCommit_sys (s : State) (kind w : Nat) : (s.powerCommit kind w).sys = s.sys := by simp [State.powerCommit]
@[simp] theorem State.finalCommit_sys (s : State) (w : Nat) : (s.finalCommit w).sys = s.sys := by simp [State.finalCommit]

@[simp] theorem execFinalCommit_sys (s : State) : nextSys (execFinalCommit s) = some s.sys := by
  unfold execFinalCommit
  split <;> simp

@[simp] theorem State.tickEnergy_sys (s : State) (j2 : List J2Sample) : (s.tickEnergy j2).sys = s.sys := by simp [State.tickEnergy]
@[simp] theorem execLegalTick_sys (j2 : List J2Sample) (s : State) : nextSys (execLegalTick j2 s) = some s.sys := by simp [execLegalTick]
@[simp] theorem execRtcWrite_sys (s : State) : nextSys (execRtcWrite s) = some s.sys := by simp [execRtcWrite]
@[simp] theorem execStoreCopy_sys (s : State) : nextSys (execStoreCopy s) = some s.sys := by simp [execStoreCopy]
@[simp] theorem storeCopyDone_sys (s : State) : (storeCopyDone s).sys = s.sys := by simp [storeCopyDone]

@[simp] theorem execCheckValueRecompute_sys (value : Nat) (s : State) : nextSys (execCheckValueRecompute value s) = some s.sys := by
  simp [execCheckValueRecompute]

@[simp] theorem State.displayOf_sys (u : State) (e : Nat × Rec) : (u.displayOf e).sys = u.sys := by
  unfold State.displayOf
  dsimp only
  split <;> simp

@[simp] theorem execDisplayFrame_sys (s : State) : nextSys (execDisplayFrame s) = some s.sys := by simp [execDisplayFrame]

@[simp] theorem State.jasperStart_sys (s : State) (check : Nat) (rtc : Option Nat) : (s.jasperStart check rtc).sys = s.sys := by
  unfold State.jasperStart
  extract_lets live kind ok t1 fl rec' old met bil u u1 u2 u3 u4 u5 u6 u7
  have h1 : u1.sys = s.sys := by unfold u1; split <;> simp [u]
  have h2 : u2.sys = s.sys := by unfold u2; split <;> simp [h1]
  have h6 : u6.sys = s.sys := by simp [u6, u5, u4, u3, h2]
  have h7 : u7.sys = s.sys := by
    refine (State.sys_foldl (fun t e => ?_) _ _).trans h6
    dsimp only
    split
    · split <;> simp
    · split <;> simp
  clear_value u2 u7 kind
  split
  · simp [h2]
  · split <;> simp [h7]

@[simp] theorem State.metStop_sys (s : State) : s.metStop.sys = s.sys := rfl
@[simp] theorem State.metResume_sys (s : State) (elapsedMs : Nat) : (s.metResume elapsedMs).sys = s.sys := by simp [State.metResume]

@[simp] theorem bilTariffSet_sys (c : InFlight) (s : State) : (bilTariffSet c s).sys = s.sys := by
  unfold bilTariffSet
  split <;> simp

@[simp] theorem execBilTariffSet_sys (q tag : Nat) (s : State) : nextSys (execBilTariffSet q tag s) = some s.sys :=
  nextSys_startCommand bilTariffSet_sys

@[simp] theorem bilTariffAssign_sys (c : InFlight) (s : State) : (bilTariffAssign c s).sys = s.sys := by
  unfold bilTariffAssign
  split <;> simp

@[simp] theorem execBilTariffAssign_sys (q tag : Nat) (s : State) : nextSys (execBilTariffAssign q tag s) = some s.sys :=
  nextSys_startCommand bilTariffAssign_sys

@[simp] theorem bilAccountSet_sys (c : InFlight) (s : State) : (bilAccountSet c s).sys = s.sys := by
  unfold bilAccountSet
  split <;> simp

@[simp] theorem execBilAccountSet_sys (q tag : Nat) (s : State) : nextSys (execBilAccountSet q tag s) = some s.sys :=
  nextSys_startCommand bilAccountSet_sys

@[simp] theorem bilAccountCredit_sys (c : InFlight) (s : State) : (bilAccountCredit c s).sys = s.sys := by simp [bilAccountCredit]

@[simp] theorem execBilAccountCredit_sys (q tag : Nat) (s : State) : nextSys (execBilAccountCredit q tag s) = some s.sys :=
  nextSys_startCommand bilAccountCredit_sys

@[simp] theorem bilAccountRead_sys (c : InFlight) (s : State) : (bilAccountRead c s).sys = s.sys := by simp [bilAccountRead]

@[simp] theorem execBilAccountRead_sys (q tag : Nat) (s : State) : nextSys (execBilAccountRead q tag s) = some s.sys :=
  nextSys_startCommand bilAccountRead_sys

@[simp] theorem bilClockSet_sys (c : InFlight) (s : State) : (bilClockSet c s).sys = s.sys := by simp [bilClockSet]
@[simp] theorem execBilClockSet_sys (q tag : Nat) (s : State) : nextSys (execBilClockSet q tag s) = some s.sys := nextSys_startCommand bilClockSet_sys
@[simp] theorem bilReadingGet_sys (c : InFlight) (s : State) : (bilReadingGet c s).sys = s.sys := by simp [bilReadingGet]

@[simp] theorem execBilReadingGet_sys (q tag : Nat) (s : State) : nextSys (execBilReadingGet q tag s) = some s.sys :=
  nextSys_startCommand bilReadingGet_sys

@[simp] theorem bilRegisterSnap_sys (c : InFlight) (s : State) : (bilRegisterSnap c s).sys = s.sys := by simp [bilRegisterSnap]

@[simp] theorem execBilRegisterSnap_sys (q tag : Nat) (s : State) : nextSys (execBilRegisterSnap q tag s) = some s.sys :=
  nextSys_startCommand bilRegisterSnap_sys

@[simp] theorem bilLogRead_sys (c : InFlight) (s : State) : (bilLogRead c s).sys = s.sys := by simp [bilLogRead]
@[simp] theorem execBilLogRead_sys (q tag : Nat) (s : State) : nextSys (execBilLogRead q tag s) = some s.sys := nextSys_startCommand bilLogRead_sys
@[simp] theorem State.ackLog_sys (s : State) (n : Nat) : (s.ackLog n).sys = s.sys := by simp [State.ackLog]
@[simp] theorem bilLogAck_sys (c : InFlight) (s : State) : (bilLogAck c s).sys = s.sys := by simp [bilLogAck]
@[simp] theorem execBilLogAck_sys (q tag : Nat) (s : State) : nextSys (execBilLogAck q tag s) = some s.sys := nextSys_startCommand bilLogAck_sys
@[simp] theorem bilStatus_sys (c : InFlight) (s : State) : (bilStatus c s).sys = s.sys := by simp [bilStatus]
@[simp] theorem execBilStatus_sys (q tag : Nat) (s : State) : nextSys (execBilStatus q tag s) = some s.sys := nextSys_startCommand bilStatus_sys

@[simp] theorem metStoreDone_sys (uid : Nat) (s : State) : (metStoreDone uid s).sys = s.sys := by
  unfold metStoreDone
  dsimp only
  split
  · simp
  · split
    case h_3 => split <;> simp
    case h_6 => split <;> simp
    case h_7 => split <;> simp
    case h_8 => split <;> simp
    all_goals simp

/-! ### The gauge domain -/

@[simp] theorem State.countStr_sys (s : State) (k : Nat) (iMa : Int) (dtNs : Nat) : (s.countStr k iMa dtNs).sys = s.sys := by
  unfold State.countStr
  split <;> simp

@[simp] theorem State.shuntMa_sys (s : State) (r : Rec) (nv : Int) : (s.shuntMa r nv).2.sys = s.sys := by simp [State.shuntMa]

@[simp] theorem State.shuntIn_sys (s : State) (k : Nat) (x : GStr) (nanovolts : Int) : (s.shuntIn k x nanovolts).sys = s.sys := by
  simp [State.shuntIn]

@[simp] theorem execShuntSample_sys (input : Nat) (nanovolts : Int) (s : State) : nextSys (execShuntSample input nanovolts s) = some s.sys := by
  unfold execShuntSample
  split
  · split <;> simp
  · simp

@[simp] theorem execStringFrame_sys (canId : Nat) (data : List Byte) (s : State) : nextSys (execStringFrame canId data s) = some s.sys := by
  unfold execStringFrame
  split
  · split
    · simp
    · split
      · simp
      · split <;> simp
  · simp

@[simp] theorem State.gauJournal_sys (s : State) (reason : Nat) (done : Bool) : (s.gauJournal reason done).sys = s.sys := by simp [State.gauJournal]
@[simp] theorem execGaugeJournalPeriodic_sys (s : State) : nextSys (execGaugeJournalPeriodic s) = some s.sys := by simp [execGaugeJournalPeriodic]
@[simp] theorem execBatauxLow_sys (written : Bool) (s : State) : nextSys (execBatauxLow written s) = some s.sys := by simp [execBatauxLow]

@[simp] theorem State.restoreStr_sys (s : State) (k : Nat) (e : Option GEntry) (lost : Bool) : (s.restoreStr k e lost).sys = s.sys := by
  unfold State.restoreStr
  split <;> simp

@[simp] theorem execGaugeRestart_sys (s : State) : nextSys (execGaugeRestart s) = some s.sys := by simp [execGaugeRestart]

@[simp] theorem execAnchorHoldExpiry_sys (string : Nat) (s : State) : nextSys (execAnchorHoldExpiry string s) = some s.sys := by
  unfold execAnchorHoldExpiry
  split <;> simp

@[simp] theorem execStringFrameTimeout_sys (string : Nat) (s : State) : nextSys (execStringFrameTimeout string s) = some s.sys := by
  unfold execStringFrameTimeout
  split <;> simp

@[simp] theorem execHibernationEntry_sys (s : State) : nextSys (execHibernationEntry s) = some s.sys := by simp [execHibernationEntry]
@[simp] theorem State.selfDischarge_sys (s : State) : s.selfDischarge.sys = s.sys := by simp [State.selfDischarge]
@[simp] theorem State.gauWake_sys (s : State) : s.gauWake.sys = s.sys := by simp [State.gauWake]

@[simp] theorem State.shuntWakes_sys (s : State) (input : Nat) (nv : Int) : (s.shuntWakes input nv).2.sys = s.sys := by
  unfold State.shuntWakes
  split <;> simp

@[simp] theorem State.hibernateTick_sys (s : State) (shunts : List (Nat × Int)) : (s.hibernateTick shunts).2.sys = s.sys := by
  simp [State.hibernateTick]

@[simp] theorem execHibernationTick_sys (shunts : List (Nat × Int)) (s : State) : nextSys (execHibernationTick shunts s) = some s.sys := by
  simp [execHibernationTick]

@[simp] theorem execGaugeWake_sys (cause : GaugeWake) (s : State) : nextSys (execGaugeWake cause s) = some s.sys := by
  unfold execGaugeWake
  split <;> simp

@[simp] theorem execGaugeReport_sys (s : State) : nextSys (execGaugeReport s) = some s.sys := by simp [execGaugeReport]

@[simp] theorem execGaugeDataStale_sys (s : State) : nextSys (execGaugeDataStale s) = some s.sys := by
  unfold execGaugeDataStale
  split <;> simp

@[simp] theorem State.askGauge_sys (s : State) (c : InFlight) : (s.askGauge c).sys = s.sys := by simp [State.askGauge]

@[simp] theorem gauStringConfig_sys (c : InFlight) (s : State) : (gauStringConfig c s).sys = s.sys := by
  unfold gauStringConfig
  split <;> simp

@[simp] theorem execGauStringConfig_sys (q tag : Nat) (s : State) : nextSys (execGauStringConfig q tag s) = some s.sys :=
  nextSys_startCommand gauStringConfig_sys

@[simp] theorem gauLearnSet_sys (c : InFlight) (s : State) : (gauLearnSet c s).sys = s.sys := by
  unfold gauLearnSet
  split <;> simp

@[simp] theorem execGauLearnSet_sys (q tag : Nat) (s : State) : nextSys (execGauLearnSet q tag s) = some s.sys := nextSys_startCommand gauLearnSet_sys
@[simp] theorem State.applyString_sys (s : State) (k : Nat) (r : Rec) : (s.applyString k r).sys = s.sys := by simp [State.applyString]

@[simp] theorem gauStoreDone_sys (uid : Nat) (s : State) : (gauStoreDone uid s).sys = s.sys := by
  unfold gauStoreDone
  split <;> simp

@[simp] theorem gauRead_sys (c : InFlight) (s : State) : (gauRead c s).sys = s.sys := by simp [gauRead]
@[simp] theorem execGauRead_sys (q tag : Nat) (s : State) : nextSys (execGauRead q tag s) = some s.sys := nextSys_startCommand gauRead_sys

/-! ### CAN FD -/

@[simp] theorem State.canGauge_sys (s : State) (k : Nat) (old : Rec) : (s.canGauge k old).sys = s.sys := by simp [State.canGauge]

@[simp] theorem canTimingDone_sys (s : State) : (canTimingDone s).sys = s.sys := by
  unfold canTimingDone
  split <;> simp

@[simp] theorem State.canDrop_sys (s : State) (k : Nat) (full : Bool) : (s.canDrop k full).sys = s.sys := by simp [State.canDrop]

@[simp] theorem State.canStore_sys (s : State) (k id flags dlc : Nat) (data : List Byte) (sofNs : Nat) :
    (s.canStore k id flags dlc data sofNs).sys = s.sys := by
  unfold State.canStore
  dsimp only
  split <;> simp

@[simp] theorem State.canNext_sys (s : State) (k : Nat) : (s.canNext k).sys = s.sys := by simp [State.canNext]

@[simp] theorem State.canGood_sys (s : State) (k : Nat) (d : CanDetect) (brs : Bool) : (s.canGood k d brs).sys = s.sys := by
  unfold State.canGood
  dsimp only
  split
  · simp
  · split <;> simp

@[simp] theorem State.canErr_sys (s : State) (k : Nat) (f : CanCtl → CanCtl) : (s.canErr k f).sys = s.sys := by simp [State.canErr]

@[simp] theorem State.canFrameIn_sys (s : State) (k id flags dlc : Nat) (data : List Byte) (sofNs : Nat) :
    (s.canFrameIn k id flags dlc data sofNs).sys = s.sys := by
  unfold State.canFrameIn
  dsimp only
  split <;> simp

@[simp] theorem State.canErrorIn_sys (s : State) (k by' : Nat) : (s.canErrorIn k by').sys = s.sys := by simp [State.canErrorIn]

@[simp] theorem execCanFrameReceived_sys (controller : Nat) (rx : CanRx) (s : State) :
    nextSys (execCanFrameReceived controller rx s) = some s.sys := by
  unfold execCanFrameReceived
  split
  · simp
  · split <;> simp

@[simp] theorem execDetectDwellExpiry_sys (controller : Nat) (s : State) : nextSys (execDetectDwellExpiry controller s) = some s.sys := by
  unfold execDetectDwellExpiry
  split <;> simp

@[simp] theorem execDetectTimeout_sys (controller : Nat) (s : State) : nextSys (execDetectTimeout controller s) = some s.sys := by
  unfold execDetectTimeout
  split <;> simp

@[simp] theorem State.canDone_sys (s : State) (k n : Nat) (e : CanTxEntry) (sent : Bool) : (s.canDone k n e sent).sys = s.sys := by
  unfold State.canDone
  split <;> simp

@[simp] theorem State.canSent_sys (s : State) (k n : Nat) (e : CanTxEntry) : (s.canSent k n e).sys = s.sys := by simp [State.canSent]

@[simp] theorem execCanFrameSent_sys (controller : Nat) (outcome : CanTxEnd) (s : State) :
    nextSys (execCanFrameSent controller outcome s) = some s.sys := by
  unfold execCanFrameSent
  split
  · simp
  · split <;> simp

@[simp] theorem execCanTxTimeout_sys (q tag : Nat) (s : State) : nextSys (execCanTxTimeout q tag s) = some s.sys := by
  unfold execCanTxTimeout
  split <;> simp

@[simp] theorem execCanBusoff_sys (controller : Nat) (s : State) : nextSys (execCanBusoff controller s) = some s.sys := by simp [execCanBusoff]

@[simp] theorem execBusoffHoldExpiry_sys (controller : Nat) (s : State) : nextSys (execBusoffHoldExpiry controller s) = some s.sys := by
  simp [execBusoffHoldExpiry]

@[simp] theorem execCanRecovered_sys (controller : Nat) (s : State) : nextSys (execCanRecovered controller s) = some s.sys := by
  simp [execCanRecovered]

@[simp] theorem execCanTsWrap_sys (s : State) : nextSys (execCanTsWrap s) = some s.sys := by simp [execCanTsWrap]

@[simp] theorem canConfig_sys (c : InFlight) (s : State) : (canConfig c s).sys = s.sys := by
  unfold canConfig
  split <;> simp

@[simp] theorem execCanConfig_sys (q tag : Nat) (s : State) : nextSys (execCanConfig q tag s) = some s.sys := nextSys_startCommand canConfig_sys
@[simp] theorem canDetect_sys (c : InFlight) (s : State) : (canDetect c s).sys = s.sys := by simp [canDetect]
@[simp] theorem execCanDetect_sys (q tag : Nat) (s : State) : nextSys (execCanDetect q tag s) = some s.sys := nextSys_startCommand canDetect_sys
@[simp] theorem canTxCmd_sys (c : InFlight) (s : State) : (canTxCmd c s).sys = s.sys := by simp [canTxCmd]
@[simp] theorem execCanTx_sys (q tag : Nat) (s : State) : nextSys (execCanTx q tag s) = some s.sys := nextSys_startCommand canTxCmd_sys
@[simp] theorem canRxRead_sys (c : InFlight) (s : State) : (canRxRead c s).sys = s.sys := by simp [canRxRead]
@[simp] theorem execCanRxRead_sys (q tag : Nat) (s : State) : nextSys (execCanRxRead q tag s) = some s.sys := nextSys_startCommand canRxRead_sys

@[simp] theorem canRxAck_sys (c : InFlight) (s : State) : (canRxAck c s).sys = s.sys := by
  unfold canRxAck
  dsimp only
  split
  · simp
  · split
    · simp
    · split <;> simp

@[simp] theorem execCanRxAck_sys (q tag : Nat) (s : State) : nextSys (execCanRxAck q tag s) = some s.sys := nextSys_startCommand canRxAck_sys
@[simp] theorem canRecover_sys (c : InFlight) (s : State) : (canRecover c s).sys = s.sys := by simp [canRecover]
@[simp] theorem execCanRecover_sys (q tag : Nat) (s : State) : nextSys (execCanRecover q tag s) = some s.sys := nextSys_startCommand canRecover_sys
@[simp] theorem canStatus_sys (c : InFlight) (s : State) : (canStatus c s).sys = s.sys := by simp [canStatus]
@[simp] theorem execCanStatus_sys (q tag : Nat) (s : State) : nextSys (execCanStatus q tag s) = some s.sys := nextSys_startCommand canStatus_sys

/-! ### The pair link -/

@[simp] theorem State.formPair_sys (s : State) (p : PartnerStatus) : (s.formPair p).sys = s.sys := by simp [State.formPair]

@[simp] theorem execPairLinkLock_sys (status : PartnerStatus) (s : State) : nextSys (execPairLinkLock status s) = some s.sys := by
  simp [execPairLinkLock]

@[simp] theorem State.pairLost_options (s : State) : s.pairLost.sys.options = s.sys.options := by simp [State.pairLost]

@[simp] theorem execPairLinkLost_options (lock : Bool) (s : State) : nextOptions (execPairLinkLost lock s) = some s.sys.options := by
  simp [execPairLinkLost]

@[simp] theorem execMismatchRecheck_sys (s : State) : nextSys (execMismatchRecheck s) = some s.sys := by simp [execMismatchRecheck]
@[simp] theorem State.beginFinal_sys (s : State) (row : Nat) : (s.beginFinal row).sys = s.sys := by simp [State.beginFinal]

@[simp] theorem State.switchDone_sys (s : State) (p : PartnerStatus) : (s.switchDone p).sys = s.sys := by
  unfold State.switchDone
  split <;> simp

@[simp] theorem execSwitchoverTimeout_sys (s : State) : nextSys (execSwitchoverTimeout s) = some s.sys := by
  unfold execSwitchoverTimeout
  split <;> simp

@[simp] theorem execPairStatusMessage_sys (status : PartnerStatus) (s : State) : nextSys (execPairStatusMessage status s) = some s.sys := by
  simp [execPairStatusMessage]

@[simp] theorem State.sendImage_sys (s : State) (kind segment segments : Nat) : (s.sendImage kind segment segments).sys = s.sys := by
  simp [State.sendImage]

@[simp] theorem execImageSend_sys (s : State) : nextSys (execImageSend s) = some s.sys := by simp [execImageSend]
@[simp] theorem State.imageIn_sys (s : State) (image : PairImage) : (s.imageIn image).sys = s.sys := by simp [State.imageIn]

@[simp] theorem execImageReceived_sys (image : PairImage) (s : State) : nextSys (execImageReceived image s) = some s.sys := by
  simp [execImageReceived]

@[simp] theorem State.flushTx_sys (s : State) : s.flushTx.sys = s.sys := by simp [State.flushTx]

@[simp] theorem State.imageAcked_options (s : State) (n at' siteCycle : Nat) : (s.imageAcked n at' siteCycle).sys.options = s.sys.options := by
  unfold State.imageAcked
  -- the long record of the first update becomes a variable, which keeps the goals small for the kernel
  generalize hu : s.updPair _ = u
  have h : u.sys = s.sys := by rw [← hu, State.updPair_sys]
  dsimp only
  split <;> simp [h]

@[simp] theorem execImageAck_options (siteCycle : Nat) (s : State) : nextOptions (execImageAck siteCycle s) = some s.sys.options := by
  unfold execImageAck
  split <;> simp

@[simp] theorem execImageAckTimeout_sys (s : State) : nextSys (execImageAckTimeout s) = some s.sys := by
  unfold execImageAckTimeout
  split <;> simp

@[simp] theorem execGiveUp_options (row : Nat) (s : State) : nextOptions (execGiveUp row s) = some s.sys.options := by simp [execGiveUp]

@[simp] theorem execStartWaitExpiry_sys (s : State) : nextSys (execStartWaitExpiry s) = some s.sys := by
  unfold execStartWaitExpiry
  split <;> simp

@[simp] theorem State.healMerge_sys (s : State) : s.healMerge.sys = s.sys := by
  unfold State.healMerge
  split <;> simp

@[simp] theorem execReleaseMessage_sys (epoch _siteCycle : Nat) (s : State) : nextSys (execReleaseMessage epoch _siteCycle s) = some s.sys := by
  simp [execReleaseMessage]

@[simp] theorem execHeal_sys (s : State) : nextSys (execHeal s) = some s.sys := by
  unfold execHeal
  split <;> simp

@[simp] theorem execSwitchDue_sys (s : State) : nextSys (execSwitchDue s) = some s.sys := by simp [execSwitchDue]
@[simp] theorem State.asActive_sys (s : State) : s.asActive.sys = s.sys := rfl
@[simp] theorem State.lockstep_sys (s : State) (x : LockInputs) : (s.lockstep x).sys = s.sys := by simp [State.lockstep]

@[simp] theorem execLockstepInputs_sys (inputs : LockInputs) (s : State) : nextSys (execLockstepInputs inputs s) = some s.sys := by
  simp [execLockstepInputs]

@[simp] theorem pairStatus_sys (c : InFlight) (s : State) : (pairStatus c s).sys = s.sys := by simp [pairStatus]
@[simp] theorem execPairStatus_sys (q tag : Nat) (s : State) : nextSys (execPairStatus q tag s) = some s.sys := nextSys_startCommand pairStatus_sys
@[simp] theorem pairSwitchover_sys (c : InFlight) (s : State) : (pairSwitchover c s).sys = s.sys := by simp [pairSwitchover]

@[simp] theorem execPairSwitchover_sys (q tag : Nat) (s : State) : nextSys (execPairSwitchover q tag s) = some s.sys :=
  nextSys_startCommand pairSwitchover_sys

/-! ### Connectors -/

@[simp] theorem execOpticalModuleInserted_options (cage : Nat) (present : Bool) (rateMbit : Nat) (s : State) :
    nextOptions (execOpticalModuleInserted cage present rateMbit s) = some s.sys.options := by
  simp [execOpticalModuleInserted]

@[simp] theorem execPpsSecond_sys (rising : Bool) (s : State) : nextSys (execPpsSecond rising s) = some s.sys := by simp [execPpsSecond]

/-! ### NV images -/

@[simp] theorem State.eraseSlot_sys (s : State) (n : Nat) : (s.eraseSlot n).sys = s.sys := by simp [State.eraseSlot]

@[simp] theorem State.beginNv_sys (s : State) (kind uid target : Nat) (image : Slot) : (s.beginNv kind uid target image).sys = s.sys := by
  simp [State.beginNv]

@[simp] theorem nvStore_sys (c : InFlight) (s : State) : (nvStore c s).sys = s.sys := by simp [nvStore]
@[simp] theorem execNvStore_sys (q tag : Nat) (s : State) : nextSys (execNvStore q tag s) = some s.sys := nextSys_startCommand nvStore_sys
@[simp] theorem State.failNv_sys (s : State) (op : NvOp) (st : Nat) : (s.failNv op st).sys = s.sys := by simp [State.failNv]

@[simp] theorem State.finishStore_sys (s : State) (op : NvOp) : (s.finishStore op).sys = s.sys := by
  unfold State.finishStore
  dsimp only
  split <;> simp

@[simp] theorem execNvStoreSegment_sys (verified : Bool) (s : State) : nextSys (execNvStoreSegment verified s) = some s.sys := by
  unfold execNvStoreSegment
  split <;> simp

@[simp] theorem execNvLeaveWaitExpiry_sys (s : State) : nextSys (execNvLeaveWaitExpiry s) = some s.sys := by
  unfold execNvLeaveWaitExpiry
  split <;> simp

@[simp] theorem nvSelect_sys (c : InFlight) (s : State) : (nvSelect c s).sys = s.sys := by simp [nvSelect]
@[simp] theorem execNvSelect_sys (q tag : Nat) (s : State) : nextSys (execNvSelect q tag s) = some s.sys := nextSys_startCommand nvSelect_sys

@[simp] theorem nvCommit_sys (c : InFlight) (s : State) : (nvCommit c s).sys = s.sys := by
  unfold nvCommit
  split
  · simp
  · split <;> simp

@[simp] theorem execNvCommit_sys (q tag : Nat) (s : State) : nextSys (execNvCommit q tag s) = some s.sys := nextSys_startCommand nvCommit_sys

@[simp] theorem State.selectSlot_sys (s : State) (n : Nat) (was : Option Nat) : (s.selectSlot n was).sys = s.sys := by
  unfold State.selectSlot
  split <;> simp

@[simp] theorem nvOpDone_sys (s : State) : (nvOpDone s).sys = s.sys := by
  unfold nvOpDone
  dsimp only
  split
  · simp
  · split <;> simp

@[simp] theorem bootProgramDone_sys (n : Nat) (s : State) : (bootProgramDone n s).sys = s.sys := by simp [bootProgramDone]
@[simp] theorem nvStatus_sys (c : InFlight) (s : State) : (nvStatus c s).sys = s.sys := by simp [nvStatus]
@[simp] theorem execNvStatus_sys (q tag : Nat) (s : State) : nextSys (execNvStatus q tag s) = some s.sys := nextSys_startCommand nvStatus_sys
@[simp] theorem State.buildExport_sys (s : State) : s.buildExport.2.sys = s.sys := by simp [State.buildExport]

@[simp] theorem exportSegment_sys (c : InFlight) (host : Nat) (buf : List Byte) (s : State) : (exportSegment c host buf s).sys = s.sys := by
  simp [exportSegment]

@[simp] theorem openExport_sys (c : InFlight) (s : State) : (openExport c s).sys = s.sys := by simp [openExport]

@[simp] theorem nvExport_sys (c : InFlight) (s : State) : (nvExport c s).sys = s.sys := by
  unfold nvExport
  split
  · split <;> simp
  · split <;> simp

@[simp] theorem execNvExport_sys (q tag : Nat) (s : State) : nextSys (execNvExport q tag s) = some s.sys := nextSys_startCommand nvExport_sys

@[simp] theorem execExportBufferTimeout_sys (s : State) : nextSys (execExportBufferTimeout s) = some s.sys := by
  unfold execExportBufferTimeout
  split <;> simp

@[simp] theorem State.beginImport_sys (s : State) (uid : Nat) (l : Tab Int) (serial signer : Nat) :
    (s.beginImport uid l serial signer).sys = s.sys := by
  simp [State.beginImport]

@[simp] theorem nvStoreMirror_sys (m : Option MirrorStore) (c : InFlight) (s : State) : (nvStoreMirror m c s).sys = s.sys := by simp [nvStoreMirror]
@[simp] theorem nvImportMirror_sys (m : MirrorStore) (c : InFlight) (s : State) : (nvImportMirror m c s).sys = s.sys := by simp [nvImportMirror]

@[simp] theorem nvImport_sys (c : InFlight) (s : State) : (nvImport c s).sys = s.sys := by
  unfold nvImport
  dsimp only
  repeat' split
  all_goals simp

@[simp] theorem execNvImport_sys (q tag : Nat) (s : State) : nextSys (execNvImport q tag s) = some s.sys := nextSys_startCommand nvImport_sys

@[simp] theorem execImportBufferTimeout_sys (s : State) : nextSys (execImportBufferTimeout s) = some s.sys := by
  unfold execImportBufferTimeout
  split <;> simp

@[simp] theorem execSystemLogAppend_sys (entries : List (List Byte)) (s : State) : nextSys (execSystemLogAppend entries s) = some s.sys := by
  simp [execSystemLogAppend]

/-! ### Obsidian -/

@[simp] theorem State.putSlot_sys (s : State) (n : Nat) (k : KeySlot) (key : Nat) : (s.putSlot n k key).sys = s.sys := by simp [State.putSlot]
@[simp] theorem execRemask_sys (s : State) : nextSys (execRemask s) = some s.sys := by simp [execRemask]
@[simp] theorem State.shareSlots_sys (s : State) : s.shareSlots.sys = s.sys := by simp [State.shareSlots]
@[simp] theorem State.zeroise_sys (s : State) : s.zeroise.sys = s.sys := rfl
@[simp] theorem State.abortObs_sys (s : State) : s.abortObs.sys = s.sys := by simp [State.abortObs]
@[simp] theorem State.loseEthernet_sys (s : State) : s.loseEthernet.sys = s.sys := by simp [State.loseEthernet]
@[simp] theorem State.tamperRecord_sys (s : State) (sources : BitVec 6) : (s.tamperRecord sources).sys = s.sys := rfl
@[simp] theorem State.tamper_options (s : State) (sources : BitVec 6) : (s.tamper sources).sys.options = s.sys.options := by simp [State.tamper]

@[simp] theorem execTamperDetected_options (sources : BitVec 6) (s : State) : nextOptions (execTamperDetected sources s) = some s.sys.options := by
  simp [execTamperDetected]

@[simp] theorem State.rearm_options (s : State) : s.rearm.sys.options = s.sys.options := by simp [State.rearm]

@[simp] theorem execServiceExpiry_options (s : State) : nextOptions (execServiceExpiry s) = some s.sys.options := by
  unfold execServiceExpiry
  split <;> simp

@[simp] theorem execObsBkbatLow_sys (mv : Nat) (s : State) : nextSys (execObsBkbatLow mv s) = some s.sys := by simp [execObsBkbatLow]

@[simp] theorem State.deriveNode_sys (s : State) (node : Nat) (e : Enrolment) : (s.deriveNode node e).sys = s.sys := by
  unfold State.deriveNode
  split <;> simp

@[simp] theorem State.obsStart_options (s : State) (kekLost : Bool) : (s.obsStart kekLost).sys.options = s.sys.options := by
  unfold State.obsStart
  dsimp only
  split <;> simp

@[simp] theorem State.obsAsk_sys (s : State) (c : InFlight) (w : ObsWork) : (s.obsAsk c w).sys = s.sys := by simp [State.obsAsk]

@[simp] theorem obsUpdate_sys (c : InFlight) (s : State) : (obsUpdate c s).sys = s.sys := by
  unfold obsUpdate
  dsimp only
  split
  · simp
  · split
    · simp
    · split
      · simp
      · split
        · simp
        · split
          · simp
          · split <;> simp

@[simp] theorem execObsUpdate_sys (q tag : Nat) (s : State) : nextSys (execObsUpdate q tag s) = some s.sys := nextSys_startCommand obsUpdate_sys
@[simp] theorem State.obsOk_sys (s : State) (uid : Nat) : (s.obsOk uid).sys = s.sys := by simp [State.obsOk]
@[simp] theorem State.decommission_sys (s : State) : s.decommission.sys = s.sys := by simp [State.decommission]

@[simp] theorem State.updApply_options (s : State) (w : ObsWork) : (s.updApply w).sys.options = s.sys.options := by
  unfold State.updApply
  split <;> simp

@[simp] theorem obsStoreDone_options (uid : Nat) (s : State) : (obsStoreDone uid s).sys.options = s.sys.options := by
  unfold obsStoreDone
  split <;> simp

@[simp] theorem execEnrolAck_sys (node startMa : Nat) (s : State) : nextSys (execEnrolAck node startMa s) = some s.sys := by
  unfold execEnrolAck
  split <;> simp

@[simp] theorem execEnrolAckTimeout_sys (node : Nat) (s : State) : nextSys (execEnrolAckTimeout node s) = some s.sys := by
  unfold execEnrolAckTimeout
  split <;> simp

@[simp] theorem State.pairKeyIn_sys (s : State) (o : PairOffer) : (s.pairKeyIn o).sys = s.sys := by simp [State.pairKeyIn]

@[simp] theorem State.takeShared_sys (s : State) (shared : List (Nat × KeySlot)) (enrolments : List (Nat × Enrolment)) :
    (s.takeShared shared enrolments).sys = s.sys := by
  simp [State.takeShared]

@[simp] theorem execPairKeyAgreement_sys (offer : PairOffer) (shared : List (Nat × KeySlot)) (enrolments : List (Nat × Enrolment)) (s : State) :
    nextSys (execPairKeyAgreement offer shared enrolments s) = some s.sys := by
  simp [execPairKeyAgreement]

@[simp] theorem obsStatus_sys (c : InFlight) (s : State) : (obsStatus c s).sys = s.sys := by simp [obsStatus]
@[simp] theorem execObsStatus_sys (q tag : Nat) (s : State) : nextSys (execObsStatus q tag s) = some s.sys := nextSys_startCommand obsStatus_sys
@[simp] theorem obsSlotRead_sys (c : InFlight) (s : State) : (obsSlotRead c s).sys = s.sys := by simp [obsSlotRead]
@[simp] theorem execObsSlotRead_sys (q tag : Nat) (s : State) : nextSys (execObsSlotRead q tag s) = some s.sys := nextSys_startCommand obsSlotRead_sys
@[simp] theorem obsChainRead_sys (c : InFlight) (s : State) : (obsChainRead c s).sys = s.sys := by simp [obsChainRead]

@[simp] theorem execObsChainRead_sys (q tag : Nat) (s : State) : nextSys (execObsChainRead q tag s) = some s.sys :=
  nextSys_startCommand obsChainRead_sys

@[simp] theorem obsAttest_sys (c : InFlight) (s : State) : (obsAttest c s).sys = s.sys := by
  unfold obsAttest
  dsimp only
  split
  · simp
  · split <;> simp

@[simp] theorem execObsAttest_sys (q tag : Nat) (s : State) : nextSys (execObsAttest q tag s) = some s.sys := nextSys_startCommand obsAttest_sys
@[simp] theorem obsDecommission_sys (c : InFlight) (s : State) : (obsDecommission c s).sys = s.sys := by simp [obsDecommission]

@[simp] theorem execObsDecommission_sys (q tag : Nat) (s : State) : nextSys (execObsDecommission q tag s) = some s.sys :=
  nextSys_startCommand obsDecommission_sys

/-! ### Supply, clocks, resets and start-up -/

@[simp] theorem State.updSys_sys (s : State) (f : Sys → Sys) : (s.updSys f).sys = f s.sys := rfl

@[simp] theorem State.cutStore_sys (s : State) : s.cutStore.sys = s.sys := by
  unfold State.cutStore
  split <;> simp

@[simp] theorem State.clearApp_options (s : State) : s.clearApp.sys.options = s.sys.options := by simp [State.clearApp]
@[simp] theorem State.clearCold_options (s : State) : s.clearCold.sys.options = s.sys.options := by simp [State.clearCold]

@[simp] theorem State.begin_options (s : State) (cause starts : Nat) (skip : BitVec 10) :
    (s.begin cause starts skip).sys.options = s.sys.options := by
  simp [State.begin]

@[simp] theorem State.coldReset_options (s : State) (cause : Nat) : (s.coldReset cause).sys.options = s.sys.options := by simp [State.coldReset]
@[simp] theorem State.appReset_options (s : State) (cause : Nat) : (s.appReset cause).sys.options = s.sys.options := by simp [State.appReset]
@[simp] theorem State.releaseForReset_options (s : State) : s.releaseForReset.sys.options = s.sys.options := by simp [State.releaseForReset]

@[simp] theorem State.appResetDue_options (s : State) : s.appResetDue.sys.options = s.sys.options := by
  unfold State.appResetDue
  split <;> simp

@[simp] theorem execHrstN_options (lowUs : Nat) (s : State) : nextOptions (execHrstN lowUs s) = some s.sys.options := by simp [execHrstN]

@[simp] theorem execColdResetEffect_options (s : State) : nextOptions (execColdResetEffect s) = some s.sys.options := by
  unfold execColdResetEffect
  split <;> simp

@[simp] theorem execWatchdogExpiry_options (s : State) : nextOptions (execWatchdogExpiry s) = some s.sys.options := by simp [execWatchdogExpiry]

@[simp] theorem execPllUnlock_options (pll : Nat) (s : State) : nextOptions (execPllUnlock pll s) = some s.sys.options := by
  unfold execPllUnlock
  split
  · simp
  · split
    · simp
    · split
      · split <;> simp
      · simp

@[simp] theorem execMetPllRelock_options (elapsedMs : Nat) (s : State) : nextOptions (execMetPllRelock elapsedMs s) = some s.sys.options := by
  simp [execMetPllRelock]

@[simp] theorem execPowerGood_options (mv : Nat) (s : State) : nextOptions (execPowerGood mv s) = some s.sys.options := by simp [execPowerGood]

@[simp] theorem execPowerFailWarning_options (mv : Nat) (s : State) : nextOptions (execPowerFailWarning mv s) = some s.sys.options := by
  unfold execPowerFailWarning
  dsimp only
  split
  · split <;> simp
  · simp

@[simp] theorem State.appOff_options (s : State) : s.appOff.sys.options = s.sys.options := by simp [State.appOff]
@[simp] theorem State.graniteOff_sys (s : State) : s.graniteOff.sys = s.sys := by simp [State.graniteOff]
@[simp] theorem State.obsidianOff_sys (s : State) : s.obsidianOff.sys = s.sys := by simp [State.obsidianOff]
@[simp] theorem State.jasperOff_sys (s : State) : s.jasperOff.sys = s.sys := rfl

@[simp] theorem execHoldupEnd_options (domain : Nat) (s : State) : nextOptions (execHoldupEnd domain s) = some s.sys.options := by
  unfold execHoldupEnd
  split
  · split
    · simp
    · split <;> simp
  · split
    · simp
    · split <;> simp

@[simp] theorem State.rejectFw_options (s : State) (n : Nat) : (s.rejectFw n).sys.options = s.sys.options := by simp [State.rejectFw]

@[simp] theorem State.chooseFw_options (n : Nat) (s : State) : (s.chooseFw n).sys.options = s.sys.options := by
  induction n generalizing s with
  | zero => rfl
  | succ n ih =>
    unfold State.chooseFw
    split
    · rfl
    · simp [ih]

@[simp] theorem State.lockAllConfig_sys (s : State) : s.lockAllConfig.sys = s.sys := by simp [State.lockAllConfig]

@[simp] theorem State.islandHash_options (s : State) (x : FwSlot) (kind : Nat) : (s.islandHash x kind).sys.options = s.sys.options := by
  unfold State.islandHash
  split <;> simp

@[simp] theorem State.findSlots_sys (s : State) : s.findSlots.sys = s.sys := by simp [State.findSlots]

@[simp] theorem State.chooseImage_sys (s : State) : s.chooseImage.sys = s.sys := by
  unfold State.chooseImage
  dsimp only
  split <;> simp

@[simp] theorem State.loader_options (s : State) : s.loader.sys.options = s.sys.options := by
  unfold State.loader
  dsimp only
  split <;> simp

@[simp] theorem State.vexnilStart_options (s : State) : s.vexnilStart.sys.options = s.sys.options := by
  unfold State.vexnilStart
  dsimp only
  split <;> simp

@[simp] theorem State.startupDone_sys (s : State) : s.startupDone.sys = s.sys := by simp [State.startupDone]

@[simp] theorem State.phaseEffect_options (s : State) (p : PhaseEnd) : (s.phaseEffect p).sys.options = s.sys.options := by
  unfold State.phaseEffect
  split <;> simp

@[simp] theorem execStartupPhaseDone_options (phase : PhaseEnd) (s : State) : nextOptions (execStartupPhaseDone phase s) = some s.sys.options := by
  simp [execStartupPhaseDone]

@[simp] theorem sysReset_sys (c : InFlight) (s : State) : (sysReset c s).sys = s.sys := by simp [sysReset]
@[simp] theorem execSysReset_sys (q tag : Nat) (s : State) : nextSys (execSysReset q tag s) = some s.sys := nextSys_startCommand sysReset_sys
@[simp] theorem sysFwLoad_options (c : InFlight) (s : State) : (sysFwLoad c s).sys.options = s.sys.options := by simp [sysFwLoad]

@[simp] theorem execSysFwLoad_options (q tag : Nat) (s : State) : nextOptions (execSysFwLoad q tag s) = some s.sys.options :=
  nextOptions_startCommand sysFwLoad_options

@[simp] theorem sysFwActivate_options (c : InFlight) (s : State) : (sysFwActivate c s).sys.options = s.sys.options := by simp [sysFwActivate]

@[simp] theorem execSysFwActivate_options (q tag : Nat) (s : State) : nextOptions (execSysFwActivate q tag s) = some s.sys.options :=
  nextOptions_startCommand sysFwActivate_options

@[simp] theorem execFwActivatePulseTimeout_options (s : State) : nextOptions (execFwActivatePulseTimeout s) = some s.sys.options := by
  unfold execFwActivatePulseTimeout
  split <;> simp

@[simp] theorem sysFwCommit_options (c : InFlight) (s : State) : (sysFwCommit c s).sys.options = s.sys.options := by
  unfold sysFwCommit
  split <;> simp

@[simp] theorem execSysFwCommit_options (q tag : Nat) (s : State) : nextOptions (execSysFwCommit q tag s) = some s.sys.options :=
  nextOptions_startCommand sysFwCommit_options

@[simp] theorem sysFwStatus_sys (c : InFlight) (s : State) : (sysFwStatus c s).sys = s.sys := by simp [sysFwStatus]
@[simp] theorem execSysFwStatus_sys (q tag : Nat) (s : State) : nextSys (execSysFwStatus q tag s) = some s.sys := nextSys_startCommand sysFwStatus_sys

/-! ### The ring cycle -/

@[simp] theorem State.cycleHeader_sys (s : State) (epoch : Nat) (release : Bool) : (s.cycleHeader epoch release).sys = s.sys := by
  simp [State.cycleHeader]

@[simp] theorem State.releaseDone_sys (s : State) : s.releaseDone.sys = s.sys := by simp [State.releaseDone]
@[simp] theorem State.releaseCycle_sys (s : State) : s.releaseCycle.sys = s.sys := by simp [State.releaseCycle]

@[simp] theorem State.headerCycle_sys (s : State) : s.headerCycle.sys = s.sys := by
  unfold State.headerCycle
  split <;> simp

@[simp] theorem State.cycleBegins_sys (s : State) : s.cycleBegins.sys = s.sys := by simp [State.cycleBegins]
@[simp] theorem execRingCycle_options (s : State) : nextOptions (execRingCycle s) = some s.sys.options := by simp [execRingCycle]

/-! ### The fault collector -/

@[simp] theorem execFaultReport_sys (source object : Nat) (s : State) : nextSys (execFaultReport source object s) = some s.sys := by
  unfold execFaultReport
  split <;> simp

@[simp] theorem execQueueStall_sys (q : Nat) (s : State) : nextSys (execQueueStall q s) = some s.sys := by
  unfold execQueueStall
  split <;> simp

@[simp] theorem execCollectorSelfCheck_sys (live shadow : List (Nat × Nat)) (s : State) :
    nextSys (execCollectorSelfCheck live shadow s) = some s.sys := by
  simp [execCollectorSelfCheck]

@[simp] theorem State.nodeFreed_sys (s : State) (n : Nat) : (s.nodeFreed n).sys = s.sys := by simp [State.nodeFreed]

@[simp] theorem State.released_sys (s : State) (source kind object : Nat) : (s.released source kind object).sys = s.sys := by
  unfold State.released
  split <;> simp

@[simp] theorem State.releaseHold_sys (s : State) (source kind object : Nat) : (s.releaseHold source kind object).sys = s.sys := by
  simp [State.releaseHold]

@[simp] theorem State.clearBit_sys (s : State) (source : Nat) : (s.clearBit source).sys = s.sys := by simp [State.clearBit]

@[simp] theorem fltClear_sys (c : InFlight) (s : State) : (fltClear c s).sys = s.sys := by
  unfold fltClear
  dsimp only
  split
  · simp
  · split <;> simp

@[simp] theorem execFltClear_sys (q tag : Nat) (s : State) : nextSys (execFltClear q tag s) = some s.sys := nextSys_startCommand fltClear_sys
@[simp] theorem fltRead_sys (c : InFlight) (s : State) : (fltRead c s).sys = s.sys := by simp [fltRead]
@[simp] theorem execFltRead_sys (q tag : Nat) (s : State) : nextSys (execFltRead q tag s) = some s.sys := nextSys_startCommand fltRead_sys

@[simp] theorem fltReactSet_sys (c : InFlight) (s : State) : (fltReactSet c s).sys = s.sys := by
  unfold fltReactSet
  dsimp only
  split <;> simp

@[simp] theorem execFltReactSet_sys (q tag : Nat) (s : State) : nextSys (execFltReactSet q tag s) = some s.sys := nextSys_startCommand fltReactSet_sys
@[simp] theorem fltTest_sys (c : InFlight) (s : State) : (fltTest c s).sys = s.sys := by simp [fltTest]
@[simp] theorem execFltTest_sys (q tag : Nat) (s : State) : nextSys (execFltTest q tag s) = some s.sys := nextSys_startCommand fltTest_sys

/-! ### Host mailboxes -/

@[simp] theorem execDescriptorFetch_sys (dma : Desc) (s : State) : nextSys (execDescriptorFetch dma s) = some s.sys := by
  unfold execDescriptorFetch
  split
  · simp
  · split <;> simp

@[simp] theorem State.writeCompletion_sys (s : State) (c : InFlight) : (s.writeCompletion c).sys = s.sys := by simp [State.writeCompletion]

@[simp] theorem State.afterPost_options (s : State) (c : InFlight) : (s.afterPost c).sys.options = s.sys.options := by
  unfold State.afterPost
  split <;> simp

@[simp] theorem State.post_options (s : State) (c : InFlight) : (s.post c).sys.options = s.sys.options := by simp [State.post]

@[simp] theorem execCompletionPost_options (q tag : Nat) (s : State) : nextOptions (execCompletionPost q tag s) = some s.sys.options := by
  unfold execCompletionPost
  split <;> simp

@[simp] theorem execIrqCoalesceExpiry_sys (q : Nat) (s : State) : nextSys (execIrqCoalesceExpiry q s) = some s.sys := by
  unfold execIrqCoalesceExpiry
  split <;> simp

@[simp] theorem mbxHostSet_sys (c : InFlight) (s : State) : (mbxHostSet c s).sys = s.sys := by
  unfold mbxHostSet
  split <;> simp

@[simp] theorem execMbxHostSet_sys (q tag : Nat) (s : State) : nextSys (execMbxHostSet q tag s) = some s.sys := nextSys_startCommand mbxHostSet_sys
@[simp] theorem mbxEventWait_sys (c : InFlight) (s : State) : (mbxEventWait c s).sys = s.sys := by simp [mbxEventWait]

@[simp] theorem execMbxEventWait_sys (q tag : Nat) (s : State) : nextSys (execMbxEventWait q tag s) = some s.sys :=
  nextSys_startCommand mbxEventWait_sys

@[simp] theorem mbxAbort_options (c : InFlight) (s : State) : (mbxAbort c s).sys.options = s.sys.options := by
  unfold mbxAbort
  split
  · simp
  · split <;> simp

@[simp] theorem execMbxAbort_options (q tag : Nat) (s : State) : nextOptions (execMbxAbort q tag s) = some s.sys.options :=
  nextOptions_startCommand mbxAbort_options

@[simp] theorem execMbxSqTailDb_sys (q tail : Nat) (s : State) : nextSys (execMbxSqTailDb q tail s) = some s.sys := by simp [execMbxSqTailDb]
@[simp] theorem execMbxCqHeadDb_sys (q head : Nat) (s : State) : nextSys (execMbxCqHeadDb q head s) = some s.sys := by simp [execMbxCqHeadDb]

@[simp] theorem execQueueEnable_sys (q : Nat) (s : State) : nextSys (execQueueEnable q s) = some s.sys := by
  unfold execQueueEnable
  split <;> simp

@[simp] theorem execQueueDisable_sys (q : Nat) (s : State) : nextSys (execQueueDisable q s) = some s.sys := by simp [execQueueDisable]
@[simp] theorem execQueueDrained_sys (q : Nat) (s : State) : nextSys (execQueueDrained q s) = some s.sys := by simp [execQueueDrained]

@[simp] theorem State.openSession_sys (s : State) (port e : Nat) (suite : TlsSuite) : (s.openSession port e suite).sys = s.sys := by
  simp [State.openSession]

@[simp] theorem execTlsHandshake_sys (port : Nat) (keyHash : List Byte) (offer : TlsOffer) (s : State) :
    nextSys (execTlsHandshake port keyHash offer s) = some s.sys := by
  unfold execTlsHandshake
  split
  · split <;> simp
  · simp

@[simp] theorem State.heard_sys (s : State) (e : Nat) : (s.heard e).sys = s.sys := by simp [State.heard]

@[simp] theorem State.reject_sys (s : State) (entry q : Nat) (l : List Desc) : (s.reject entry q l).sys = s.sys := by
  unfold State.reject
  split <;> simp

@[simp] theorem execSubmit_sys (entry q : Nat) (descs : List Desc) (s : State) : nextSys (execSubmit entry q descs s) = some s.sys := by
  simp [execSubmit]

@[simp] theorem execCqAck_sys (entry q count : Nat) (s : State) : nextSys (execCqAck entry q count s) = some s.sys := by simp [execCqAck]
@[simp] theorem execKeepalive_sys (entry : Nat) (s : State) : nextSys (execKeepalive entry s) = some s.sys := by simp [execKeepalive]
@[simp] theorem execBadHostMessage_sys (entry : Nat) (s : State) : nextSys (execBadHostMessage entry s) = some s.sys := by simp [execBadHostMessage]

@[simp] theorem execTlsSessionClosed_sys (entry : Nat) (s : State) : nextSys (execTlsSessionClosed entry s) = some s.sys := by
  simp [execTlsSessionClosed]

@[simp] theorem execHostKeepaliveTimeout_sys (entry : Nat) (s : State) : nextSys (execHostKeepaliveTimeout entry s) = some s.sys := by
  simp [execHostKeepaliveTimeout]

@[simp] theorem execKeepaliveSendDue_sys (entry : Nat) (s : State) : nextSys (execKeepaliveSendDue entry s) = some s.sys := by
  simp [execKeepaliveSendDue]

@[simp] theorem execTlsKeyUpdateDue_sys (entry : Nat) (s : State) : nextSys (execTlsKeyUpdateDue entry s) = some s.sys := by
  simp [execTlsKeyUpdateDue]

@[simp] theorem State.losePcie_sys (s : State) : s.losePcie.sys = s.sys := by
  unfold State.losePcie
  split <;> simp

@[simp] theorem execPcieLinkDown_sys (s : State) : nextSys (execPcieLinkDown s) = some s.sys := by simp [execPcieLinkDown]
@[simp] theorem execPcieFunctionReset_sys (s : State) : nextSys (execPcieFunctionReset s) = some s.sys := by simp [execPcieFunctionReset]

@[simp] theorem execPerstN_sys (high : Bool) (s : State) : nextSys (execPerstN high s) = some s.sys := by
  unfold execPerstN
  dsimp only
  split
  · split <;> simp
  · simp

@[simp] theorem State.ptpAnnounce_sys (s : State) (port : Nat) (d : PtpClock) : (s.ptpAnnounce port d).sys = s.sys := by simp [State.ptpAnnounce]
@[simp] theorem State.discipline_options (s : State) (offset : Int) : (s.discipline offset).sys.options = s.sys.options := by simp [State.discipline]

@[simp] theorem State.ptpSynced_options (s : State) (port : Nat) (d : Int) : (s.ptpSynced port d).sys.options = s.sys.options := by
  unfold State.ptpSynced
  split <;> simp

@[simp] theorem State.ptpDelayed_options (s : State) (d t3 t4 : Int) : (s.ptpDelayed d t3 t4).sys.options = s.sys.options := by
  simp [State.ptpDelayed]

@[simp] theorem execPtpMessage_options (port : Nat) (msg : PtpMsg) (s : State) : nextOptions (execPtpMessage port msg s) = some s.sys.options := by
  unfold execPtpMessage
  split
  · split
    case h_3 => split <;> simp
    case h_4 => split <;> simp
    all_goals simp
  · simp

@[simp] theorem execPtpMasterLost_sys (s : State) : nextSys (execPtpMasterLost s) = some s.sys := by simp [execPtpMasterLost]

/-! ### Parameters -/

@[simp] theorem parGet_sys (c : InFlight) (s : State) : (parGet c s).sys = s.sys := by simp [parGet]
@[simp] theorem execParGet_sys (q tag : Nat) (s : State) : nextSys (execParGet q tag s) = some s.sys := nextSys_startCommand parGet_sys
@[simp] theorem parDescribe_sys (c : InFlight) (s : State) : (parDescribe c s).sys = s.sys := by simp [parDescribe]
@[simp] theorem execParDescribe_sys (q tag : Nat) (s : State) : nextSys (execParDescribe q tag s) = some s.sys := nextSys_startCommand parDescribe_sys
@[simp] theorem parSetLive_sys (c : InFlight) (e : ParEntry) (s : State) : (parSetLive c e s).sys = s.sys := by simp [parSetLive]

@[simp] theorem parSet_sys (c : InFlight) (s : State) : (parSet c s).sys = s.sys := by
  unfold parSet
  dsimp only
  repeat' split
  all_goals simp

@[simp] theorem execParSet_sys (q tag : Nat) (s : State) : nextSys (execParSet q tag s) = some s.sys := nextSys_startCommand parSet_sys

@[simp] theorem parIslandDone_sys (uid : Nat) (s : State) : (parIslandDone uid s).sys = s.sys := by
  unfold parIslandDone
  dsimp only
  split
  · simp
  · split <;> simp

/-! ### Commands of the partner -/

theorem mirroredBody_sys {op : Nat} {store : Option MirrorStore} {body : InFlight → State → State} (h : mirroredBody op store = some body)
    (c : InFlight) (s : State) : (body c s).sys = s.sys := by
  unfold mirroredBody at h
  split at h
  case h_5 =>
    obtain ⟨m, _, rfl⟩ := Option.map_eq_some_iff.mp h
    exact nvImportMirror_sys ..
  all_goals
    cases h
  all_goals simp

@[simp] theorem execPartnerRequest_sys (desc : PartnerCmd) (s : State) : nextSys (execPartnerRequest desc s) = some s.sys := by
  unfold execPartnerRequest
  split
  · rfl
  · simp [mirroredBody_sys ‹_›]

@[simp] theorem execPartnerReply_sys (q tag status : Nat) (s : State) : nextSys (execPartnerReply q tag status s) = some s.sys := by
  unfold execPartnerReply
  split <;> simp

@[simp] theorem execPartnerReplyTimeout_sys (q tag : Nat) (s : State) : nextSys (execPartnerReplyTimeout q tag s) = some s.sys := by
  unfold execPartnerReplyTimeout
  split <;> simp

/-! ### The busbar link -/

@[simp] theorem State.takeOver_sys (s : State) (l : List Nat) : (s.takeOver l).sys = s.sys := by
  induction l generalizing s with
  | nil => rfl
  | cons n l ih =>
    unfold State.takeOver
    split
    · rfl
    · simp [ih]

@[simp] theorem State.unbook_sys (s : State) : s.unbook.sys = s.sys := by simp [State.unbook]
@[simp] theorem State.rebook_sys (s : State) : s.rebook.sys = s.sys := by simp [State.rebook]
@[simp] theorem State.plcSecond_sys (s : State) : s.plcSecond.sys = s.sys := by simp [State.plcSecond]
@[simp] theorem State.runPlc_sys (s : State) (n : Nat) (words : Option (List (Int × Int))) : (s.runPlc n words).sys = s.sys := by simp [State.runPlc]
@[simp] theorem State.plcMiss_sys (s : State) (n : Nat) : (s.plcMiss n).sys = s.sys := by simp [State.plcMiss]

@[simp] theorem State.applyMask_sys (s : State) : s.applyMask.sys = s.sys := by
  unfold State.applyMask
  split <;> simp

@[simp] theorem State.refreshWaits_sys (s : State) : s.refreshWaits.sys = s.sys := by simp [State.refreshWaits]

@[simp] theorem State.sendBeacon_sys (s : State) (epoch flags nodes : Nat) : (s.sendBeacon epoch flags nodes).sys = s.sys := by
  simp [State.sendBeacon]

@[simp] theorem State.pollAll_sys (s : State) (l : List Nat) : (s.pollAll l).sys = s.sys := by
  refine State.sys_foldl (fun u n => ?_) _ _
  dsimp only
  split
  · simp
  · split
    · cases (u.plcNode n).newUp <;> simp
    · simp

@[simp] theorem State.cycleStart_sys (s : State) : s.cycleStart.sys = s.sys := by simp [State.cycleStart]
@[simp] theorem State.bulkPeriod_sys (s : State) : s.bulkPeriod.sys = s.sys := by simp [State.bulkPeriod]
@[simp] theorem State.pollSend_sys (s : State) : s.pollSend.sys = s.sys := by simp [State.pollSend]
@[simp] theorem execPollCycle_sys (s : State) : nextSys (execPollCycle s) = some s.sys := by simp [execPollCycle]
@[simp] theorem State.refreshNow_sys (s : State) (n : Nat) : (s.refreshNow n).sys = s.sys := by simp [State.refreshNow]
@[simp] theorem execTmapRefreshDue_sys (node : Nat) (s : State) : nextSys (execTmapRefreshDue node s) = some s.sys := by simp [execTmapRefreshDue]
@[simp] theorem State.mapsInForce_sys (s : State) (n : Nat) : (s.mapsInForce n).sys = s.sys := by simp [State.mapsInForce]

@[simp] theorem execTmapRefreshStep_sys (step : TmapStep) (s : State) : nextSys (execTmapRefreshStep step s) = some s.sys := by
  unfold execTmapRefreshStep
  dsimp only
  split
  · simp
  · split <;> simp

@[simp] theorem State.plcTaken_sys (s : State) (a : PollAnswer) : (s.plcTaken a).sys = s.sys := by simp [State.plcTaken]

@[simp] theorem State.pollAnswered_options (s : State) (a : PollAnswer) : (s.pollAnswered a).sys.options = s.sys.options := by
  simp [State.pollAnswered]

@[simp] theorem execPollResponse_options (answer : PollAnswer) (s : State) : nextOptions (execPollResponse answer s) = some s.sys.options := by
  simp [execPollResponse]

@[simp] theorem execExchangeFailed_sys (node : Nat) (s : State) : nextSys (execExchangeFailed node s) = some s.sys := by simp [execExchangeFailed]
@[simp] theorem execRepoll_sys (node : Nat) (s : State) : nextSys (execRepoll node s) = some s.sys := by simp [execRepoll]
@[simp] theorem State.plcUnplanned_sys (s : State) (a : PlcJoin) : (s.plcUnplanned a).sys = s.sys := by simp [State.plcUnplanned]

@[simp] theorem State.plcJoin_options (s : State) (a : PlcJoin) : (s.plcJoin a).sys.options = s.sys.options := by
  unfold State.plcJoin
  split <;> simp

@[simp] theorem execDiscoveryWindow_options (answers : List PlcJoin) (s : State) :
    nextOptions (execDiscoveryWindow answers s) = some s.sys.options := by
  simp [execDiscoveryWindow]

@[simp] theorem execForeignBeacon_sys (epoch : Nat) (release : Bool) (s : State) : nextSys (execForeignBeacon epoch release s) = some s.sys := by
  simp [execForeignBeacon]

@[simp] theorem execSegmentSilence_sys (s : State) : nextSys (execSegmentSilence s) = some s.sys := by simp [execSegmentSilence]
@[simp] theorem plcNodeRead_sys (c : InFlight) (s : State) : (plcNodeRead c s).sys = s.sys := by simp [plcNodeRead]
@[simp] theorem execPlcNodeRead_sys (q tag : Nat) (s : State) : nextSys (execPlcNodeRead q tag s) = some s.sys := nextSys_startCommand plcNodeRead_sys

@[simp] theorem plcTmapRead_sys (c : InFlight) (s : State) : (plcTmapRead c s).sys = s.sys := by
  unfold plcTmapRead
  dsimp only
  split
  · simp
  · split <;> simp

@[simp] theorem execPlcTmapRead_sys (q tag : Nat) (s : State) : nextSys (execPlcTmapRead q tag s) = some s.sys := nextSys_startCommand plcTmapRead_sys
@[simp] theorem plcTmapRefresh_sys (c : InFlight) (s : State) : (plcTmapRefresh c s).sys = s.sys := by simp [plcTmapRefresh]

@[simp] theorem execPlcTmapRefresh_sys (q tag : Nat) (s : State) : nextSys (execPlcTmapRefresh q tag s) = some s.sys :=
  nextSys_startCommand plcTmapRefresh_sys

@[simp] theorem plcMaskSet_sys (c : InFlight) (s : State) : (plcMaskSet c s).sys = s.sys := by
  unfold plcMaskSet
  split <;> simp

@[simp] theorem execPlcMaskSet_sys (q tag : Nat) (s : State) : nextSys (execPlcMaskSet q tag s) = some s.sys := nextSys_startCommand plcMaskSet_sys

/-! ### The point directory -/

@[simp] theorem State.sendPointConfig_sys (s : State) (node : Nat) : (s.sendPointConfig node).sys = s.sys := by simp [State.sendPointConfig]
@[simp] theorem State.fetchNow_sys (s : State) (c : InFlight) : (s.fetchNow c).sys = s.sys := by simp [State.fetchNow]
@[simp] theorem State.serveFetches_sys (s : State) : s.serveFetches.sys = s.sys := by simp [State.serveFetches]
@[simp] theorem State.ptSet_sys (s : State) (addr : Nat) (p : Point) : (s.ptSet addr p).sys = s.sys := rfl

@[simp] theorem State.ptQuality_sys (s : State) (addr q : Nat) : (s.ptQuality addr q).sys = s.sys := by
  unfold State.ptQuality
  split <;> simp

@[simp] theorem State.notePtLoad_sys (s : State) : s.notePtLoad.sys = s.sys := by simp [State.notePtLoad]

@[simp] theorem execCatalogue_sys (node version : Nat) (records : List CatRecord) (s : State) :
    nextSys (execCatalogue node version records s) = some s.sys := by
  simp [execCatalogue]

@[simp] theorem execPointBatch_sys (node cycle : Nat) (records : List PointRecord) (s : State) :
    nextSys (execPointBatch node cycle records s) = some s.sys := by
  simp [execPointBatch]

@[simp] theorem State.modulePoints_sys (s : State) : s.modulePoints.2.sys = s.sys := by simp [State.modulePoints]
@[simp] theorem State.writeModuleBlock_sys (s : State) : s.writeModuleBlock.sys = s.sys := by simp [State.writeModuleBlock]
@[simp] theorem State.writeHostPoints_sys (s : State) : s.writeHostPoints.sys = s.sys := by simp [State.writeHostPoints]

@[simp] theorem State.nodeUpdate_sys (a : Nat × State) (u : Nat × PointRecord × Nat) : (State.nodeUpdate a u).2.sys = a.2.sys := by
  unfold State.nodeUpdate
  split <;> simp

@[simp] theorem State.ptNodeStates_sys (s : State) : s.ptNodeStates.sys = s.sys := by simp [State.ptNodeStates]
@[simp] theorem execPointSiteCycle_sys (s : State) : nextSys (execPointSiteCycle s) = some s.sys := by simp [execPointSiteCycle]
@[simp] theorem State.markStale_sys (s : State) : s.markStale.sys = s.sys := by simp [State.markStale]
@[simp] theorem State.ptSecond_sys (s : State) : s.ptSecond.sys = s.sys := by simp [State.ptSecond]
@[simp] theorem execStaleCheck_sys (s : State) : nextSys (execStaleCheck s) = some s.sys := by simp [execStaleCheck]
@[simp] theorem ptRead_sys (c : InFlight) (s : State) : (ptRead c s).sys = s.sys := by simp [ptRead]
@[simp] theorem execPtRead_sys (q tag : Nat) (s : State) : nextSys (execPtRead q tag s) = some s.sys := nextSys_startCommand ptRead_sys
@[simp] theorem ptDump_sys (c : InFlight) (s : State) : (ptDump c s).sys = s.sys := by simp [ptDump]
@[simp] theorem execPtDump_sys (q tag : Nat) (s : State) : nextSys (execPtDump q tag s) = some s.sys := nextSys_startCommand ptDump_sys

@[simp] theorem ptDumpDone_sys (uid : Nat) (s : State) : (ptDumpDone uid s).sys = s.sys := by
  unfold ptDumpDone
  split <;> simp

@[simp] theorem ptPointSet_sys (c : InFlight) (s : State) : (ptPointSet c s).sys = s.sys := by
  unfold ptPointSet
  split <;> simp

@[simp] theorem execPtPointSet_sys (q tag : Nat) (s : State) : nextSys (execPtPointSet q tag s) = some s.sys := nextSys_startCommand ptPointSet_sys
@[simp] theorem ptWrite_sys (c : InFlight) (s : State) : (ptWrite c s).sys = s.sys := by simp [ptWrite]
@[simp] theorem execPtWrite_sys (q tag : Nat) (s : State) : nextSys (execPtWrite q tag s) = some s.sys := nextSys_startCommand ptWrite_sys
@[simp] theorem ptSubscribe_sys (c : InFlight) (s : State) : (ptSubscribe c s).sys = s.sys := by simp [ptSubscribe]
@[simp] theorem execPtSubscribe_sys (q tag : Nat) (s : State) : nextSys (execPtSubscribe q tag s) = some s.sys := nextSys_startCommand ptSubscribe_sys

@[simp] theorem ptFetch_sys (c : InFlight) (s : State) : (ptFetch c s).sys = s.sys := by
  unfold ptFetch
  dsimp only
  split
  · simp
  · split <;> simp

@[simp] theorem execPtFetch_sys (q tag : Nat) (s : State) : nextSys (execPtFetch q tag s) = some s.sys := nextSys_startCommand ptFetch_sys

@[simp] theorem execFetchWaitExpiry_sys (q tag : Nat) (s : State) : nextSys (execFetchWaitExpiry q tag s) = some s.sys := by
  unfold execFetchWaitExpiry
  split <;> simp

@[simp] theorem ptStatus_sys (c : InFlight) (s : State) : (ptStatus c s).sys = s.sys := by simp [ptStatus]
@[simp] theorem execPtStatus_sys (q tag : Nat) (s : State) : nextSys (execPtStatus q tag s) = some s.sys := nextSys_startCommand ptStatus_sys

/-! ### Loop tuning -/

@[simp] theorem execTraceSample_sys (buffer : Nat) (s : State) : nextSys (execTraceSample buffer s) = some s.sys := by
  unfold execTraceSample
  dsimp only
  split <;> simp

@[simp] theorem tuneTraceSet_sys (c : InFlight) (s : State) : (tuneTraceSet c s).sys = s.sys := by
  unfold tuneTraceSet
  split <;> simp

@[simp] theorem execTuneTraceSet_sys (q tag : Nat) (s : State) : nextSys (execTuneTraceSet q tag s) = some s.sys :=
  nextSys_startCommand tuneTraceSet_sys

@[simp] theorem tuneTraceTrigger_sys (c : InFlight) (s : State) : (tuneTraceTrigger c s).sys = s.sys := by simp [tuneTraceTrigger]

@[simp] theorem execTuneTraceTrigger_sys (q tag : Nat) (s : State) : nextSys (execTuneTraceTrigger q tag s) = some s.sys :=
  nextSys_startCommand tuneTraceTrigger_sys

@[simp] theorem tuneTraceStop_sys (c : InFlight) (s : State) : (tuneTraceStop c s).sys = s.sys := by simp [tuneTraceStop]

@[simp] theorem execTuneTraceStop_sys (q tag : Nat) (s : State) : nextSys (execTuneTraceStop q tag s) = some s.sys :=
  nextSys_startCommand tuneTraceStop_sys

@[simp] theorem State.askRead_sys (s : State) (c : InFlight) : (s.askRead c).sys = s.sys := by simp [State.askRead]
@[simp] theorem tuneTraceRead_sys (c : InFlight) (s : State) : (tuneTraceRead c s).sys = s.sys := by simp [tuneTraceRead]

@[simp] theorem execTuneTraceRead_sys (q tag : Nat) (s : State) : nextSys (execTuneTraceRead q tag s) = some s.sys :=
  nextSys_startCommand tuneTraceRead_sys

@[simp] theorem tuneCapRead_sys (c : InFlight) (s : State) : (tuneCapRead c s).sys = s.sys := by simp [tuneCapRead]
@[simp] theorem execTuneCapRead_sys (q tag : Nat) (s : State) : nextSys (execTuneCapRead q tag s) = some s.sys := nextSys_startCommand tuneCapRead_sys

@[simp] theorem tuneReadDone_sys (uid : Nat) (s : State) : (tuneReadDone uid s).sys = s.sys := by
  unfold tuneReadDone
  split <;> simp

@[simp] theorem execBulkLeaveTimeout_sys (q tag : Nat) (s : State) : nextSys (execBulkLeaveTimeout q tag s) = some s.sys := by
  unfold execBulkLeaveTimeout
  dsimp only
  split <;> simp

@[simp] theorem tuneStatus_sys (c : InFlight) (s : State) : (tuneStatus c s).sys = s.sys := by simp [tuneStatus]
@[simp] theorem execTuneStatus_sys (q tag : Nat) (s : State) : nextSys (execTuneStatus q tag s) = some s.sys := nextSys_startCommand tuneStatus_sys

@[simp] theorem tuneInjStart_sys (c : InFlight) (s : State) : (tuneInjStart c s).sys = s.sys := by
  unfold tuneInjStart
  split <;> simp

@[simp] theorem execTuneInjStart_sys (q tag : Nat) (s : State) : nextSys (execTuneInjStart q tag s) = some s.sys :=
  nextSys_startCommand tuneInjStart_sys

@[simp] theorem tuneInjStop_sys (c : InFlight) (s : State) : (tuneInjStop c s).sys = s.sys := by simp [tuneInjStop]
@[simp] theorem execTuneInjStop_sys (q tag : Nat) (s : State) : nextSys (execTuneInjStop q tag s) = some s.sys := nextSys_startCommand tuneInjStop_sys

@[simp] theorem execInjectionLengthReached_sys (gen : Nat) (s : State) : nextSys (execInjectionLengthReached gen s) = some s.sys := by
  unfold execInjectionLengthReached
  split <;> simp

/-! ### Work operations -/

@[simp] theorem State.grantWork_sys (s : State) (w : Work) : (s.grantWork w).sys = s.sys := by
  unfold State.grantWork
  dsimp only
  split <;> simp

@[simp] theorem execWorkLeaveGrant_sys (kind : Nat) (s : State) : nextSys (execWorkLeaveGrant kind s) = some s.sys := by
  unfold execWorkLeaveGrant
  split <;> simp

@[simp] theorem State.logOffset_sys (s old : State) : (s.logOffset old).sys = s.sys := by simp [State.logOffset]

@[simp] theorem State.workDone_options (s : State) (a : WorkFor) : (s.workDone a).sys.options = s.sys.options := by
  unfold State.workDone
  split <;> simp

@[simp] theorem execWorkOperationEnd_options (id : Nat) (s : State) : nextOptions (execWorkOperationEnd id s) = some s.sys.options := by
  unfold execWorkOperationEnd
  split <;> simp

@[simp] theorem State.islandLate_options (s : State) (c : InFlight) (what : WorkFor) : (s.islandLate c what).sys.options = s.sys.options := by
  unfold State.islandLate
  split <;> simp

@[simp] theorem execIslandLeaveTimeout_options (q tag : Nat) (s : State) : nextOptions (execIslandLeaveTimeout q tag s) = some s.sys.options := by
  unfold execIslandLeaveTimeout
  split
  · simp
  · split <;> simp

/-! ### Registers -/

@[simp] theorem execBilClockLoRead_sys (s : State) : nextSys (execBilClockLoRead s) = some s.sys := by simp [execBilClockLoRead]

@[simp] theorem State.writeQueue_sys (s : State) (q off : Nat) (v : BitVec 32) : nextSys (s.writeQueue q off v) = some s.sys := by
  unfold State.writeQueue
  dsimp only
  split <;> simp

@[simp] theorem execRegisterWrite_sys (offset : Nat) (value : BitVec 32) (s : State) : nextSys (execRegisterWrite offset value s) = some s.sys := by
  simp [execRegisterWrite]

/-! ### Every row, every step -/

/-- No row changes the fixed fields. The rows named write the block `sys`; each other row leaves it whole. -/
theorem exec_options (i : Instr) (s : State) : nextOptions (exec i s) = some s.sys.options := by
  cases i with
  | mbxAbort _ _ => exact execMbxAbort_options ..
  | completionPost _ _ => exact execCompletionPost_options ..
  | ptpMessage _ _ => exact execPtpMessage_options ..
  | workOperationEnd _ => exact execWorkOperationEnd_options ..
  | ringCycle => exact execRingCycle_options ..
  | upstreamLoopFrame _ => exact execUpstreamLoopFrame_options ..
  | reportRecord _ _ _ _ => exact execReportRecord_options ..
  | foreignNodeSeen _ _ => exact execForeignNodeSeen_options ..
  | opticalModuleInserted _ _ _ => exact execOpticalModuleInserted_options ..
  | pollResponse _ => exact execPollResponse_options ..
  | discoveryWindow _ => exact execDiscoveryWindow_options ..
  | tamperDetected _ => exact execTamperDetected_options ..
  | serviceExpiry => exact execServiceExpiry_options ..
  | graniteCycle _ _ _ => exact execGraniteCycle_options ..
  | sresetPulse _ _ => exact execSresetPulse_options ..
  | moduleSafeState _ => exact execModuleSafeState_options ..
  | graniteHalt => exact execGraniteHalt_options ..
  | pairLinkLost _ => exact execPairLinkLost_options ..
  | imageAck _ => exact execImageAck_options ..
  | giveUp _ => exact execGiveUp_options ..
  | sysFwLoad _ _ => exact execSysFwLoad_options ..
  | sysFwActivate _ _ => exact execSysFwActivate_options ..
  | sysFwCommit _ _ => exact execSysFwCommit_options ..
  | powerGood _ => exact execPowerGood_options ..
  | powerFailWarning _ => exact execPowerFailWarning_options ..
  | holdupEnd _ => exact execHoldupEnd_options ..
  | hrstN _ => exact execHrstN_options ..
  | coldResetEffect => exact execColdResetEffect_options ..
  | watchdogExpiry => exact execWatchdogExpiry_options ..
  | pllUnlock _ => exact execPllUnlock_options ..
  | metPllRelock _ => exact execMetPllRelock_options ..
  | startupPhaseDone _ => exact execStartupPhaseDone_options ..
  | islandLeaveTimeout _ _ => exact execIslandLeaveTimeout_options ..
  | fwActivatePulseTimeout => exact execFwActivatePulseTimeout_options ..
  | _ => exact nextOptions_of_nextSys (by simp [exec])

/-- No step changes the fixed fields: an empty queue idles, and a command that waits is a row. -/
theorem step_options (s : State) : nextOptions (step s) = some s.sys.options := by
  unfold step
  split
  · rfl
  · exact exec_options ..

theorem options_of_step {s t : State} (h : step s = .next t) : t.options = s.options := by
  have ho := step_options s
  rw [h, nextOptions_next] at ho
  exact Option.some.inj ho

/-- Whether a module is as issued is read from the fixed fields alone (R6). -/
theorem State.issued_of_options_eq {s t : State} (h : t.options = s.options) (hs : s.issued) : t.issued := by
  simp only [State.options, Prod.mk.injEq] at h
  obtain ⟨hpart, hissue, hgrade, hmet⟩ := h
  unfold State.issued
  rw [hpart, hissue, hgrade, hmet]
  exact hs

/-- Settles O59: every step keeps the fixed fields, and what a module as issued is depends on them alone (R2, R6). -/
theorem issuedKept : Obligations.IssuedKept := by
  unfold Obligations.IssuedKept
  exact ⟨fun _ _ h => options_of_step h, fun _ _ hs h => State.issued_of_options_eq (options_of_step h) hs⟩

end Sys2Proof.Machine

namespace Sys2Proof.Machine

/-!
PROOF. The caps within the ledger (R113). A sum over outputs of a sum over slots is read slot by slot: one slot gives the outputs of its cap map
at most its grant, since no entry names two outputs, the shares sum to at most 1,000 per mille, and rounding down gains nothing.
-/

/-! ### Sums over lists -/

theorem sum_map_sum_map_comm {α β : Type} (l : List α) (m : List β) (f : α → β → Nat) :
    (l.map fun a => (m.map fun b => f a b).sum).sum = (m.map fun b => (l.map fun a => f a b).sum).sum := by
  simpa using Multiset.sum_map_sum_map (l : Multiset α) (m : Multiset β) (f := f)

/-- Each value of a list without repetition is met at most once. -/
theorem sum_map_ite_eq_le {α : Type} [DecidableEq α] {l : List α} (hl : l.Nodup) (a : α) (v : Nat) :
    (l.map fun b => if a = b then v else 0).sum ≤ v := by
  have hother : ∀ b, b ≠ a → b ∈ l → (if a = b then v else 0) = 0 := fun b hb _ => if_neg (Ne.symm hb)
  rw [List.sum_map_eq_nsmul_single a _ hother, if_pos rfl, smul_eq_mul]
  exact mul_le_of_le_one_left' (List.nodup_iff_count_le_one.mp hl a)

/-! ### The caps of one cap map (R113) -/

theorem capOf_eq_sum_filter (r : Rec) (kw n o : Nat) :
    capOf r kw n o = (((capEntries r).filter fun e => e.1 == n && e.2.1 == o).map fun e => kw * e.2.2 / 1000).sum := by
  simp only [capOf, List.sum_map_ite, List.sum_map_zero, Nat.add_zero, Bool.decide_and, beq_eq_decide]

/-- Rounding each share of a figure down loses, and never gains. -/
theorem sum_map_share_le (kw : Nat) {shares : List Nat} (h : shares.sum ≤ 1000) : (shares.map fun x => kw * x / 1000).sum ≤ kw := by
  have hfloor : (shares.map fun x => 1000 * (kw * x / 1000)).sum ≤ (shares.map fun x => kw * x).sum :=
    List.sum_le_sum fun x _ => Nat.mul_div_le ..
  rw [List.sum_map_mul_left, List.sum_map_mul_left, List.map_id'] at hfloor
  have hkw : kw * shares.sum ≤ kw * 1000 := Nat.mul_le_mul_left kw h
  omega

/-- Each entry of a cap map names one output, so it counts at most once over outputs that differ. -/
theorem sum_map_capOf_le {r : Rec} (hr : ((capEntries r).map fun e => e.2.2).sum ≤ 1000) {l : List (Nat × Nat)} (hl : l.Nodup) (kw : Nat) :
    (l.map fun o => capOf r kw o.1 o.2).sum ≤ kw := by
  calc (l.map fun o => capOf r kw o.1 o.2).sum
      = ((capEntries r).map fun e => (l.map fun o => if (e.1, e.2.1) = o then kw * e.2.2 / 1000 else 0).sum).sum := by
        rw [← sum_map_sum_map_comm]
        simp only [capOf, Prod.ext_iff]
    _ ≤ ((capEntries r).map fun e => kw * e.2.2 / 1000).sum := List.sum_le_sum fun e _ => sum_map_ite_eq_le hl (e.1, e.2.1) _
    _ ≤ kw := by simpa [Function.comp_def] using sum_map_share_le kw hr

/-! ### The caps of the ledger (R113) -/

theorem State.nodeCap_eq_sum_flatMap (s : State) (n o : Nat) :
    s.nodeCap n o = (s.lv.slots.vals.flatMap fun x =>
      ((capEntries (s.capmap x.consumer)).filter fun e => e.1 == n && e.2.1 == o).map fun e => x.grantKw * e.2.2 / 1000).sum := by
  simp only [State.nodeCap, capOf_eq_sum_filter, List.flatMap_def, List.sum_flatten, List.map_map, Function.comp_def]

theorem State.sum_grantKw_le_lvS (s : State) : (s.lv.slots.vals.map LvSlot.grantKw).sum ≤ s.lvS :=
  (List.sum_le_sum fun _ _ => Nat.le_max_left ..).trans (Nat.le_add_right ..)

theorem State.sum_nodeCap_le_lvS (s : State) (hs : ∀ k, ((capEntries (s.capmap k)).map fun e => e.2.2).sum ≤ 1000) {l : List (Nat × Nat)}
    (hl : l.Nodup) : (l.map fun o => s.nodeCap o.1 o.2).sum ≤ s.lvS := by
  calc (l.map fun o => s.nodeCap o.1 o.2).sum
      = (s.lv.slots.vals.map fun x => (l.map fun o => capOf (s.capmap x.consumer) x.grantKw o.1 o.2).sum).sum :=
        sum_map_sum_map_comm ..
    _ ≤ (s.lv.slots.vals.map LvSlot.grantKw).sum := List.sum_le_sum fun x _ => sum_map_capOf_le (hs x.consumer) hl x.grantKw
    _ ≤ s.lvS := s.sum_grantKw_le_lvS

/-- Settles O15: over outputs that differ, a slot's cap map gives out at most its grant, and S counts each slot at its grant or above (R107, R113). -/
theorem capsWithinLedger : Obligations.CapsWithinLedger := by
  unfold Obligations.CapsWithinLedger
  exact ⟨fun s _ hs hl => s.sum_nodeCap_le_lvS hs hl, State.nodeCap_eq_sum_flatMap⟩

end Sys2Proof.Machine

namespace Sys2Proof.Machine

/-!
PROOF. The distances that the loop rates allow (R147). The inequality is solved for the distance once, for every period; the table is its value at
the eight periods of R146. A longer period allows whatever a shorter one does, so the highest rate code that fits stands for all the codes below it.
-/

theorem rateFits_iff {k d : Nat} : rateFits k d = true ↔ 640 * d + 2400 ≤ 6000 * k ∧ d ≤ 1023 := decide_eq_true_iff

/-- The inequality of R147 solved for the distance: what the node's own 2.4 µs leave of 0.6 of the period, in round trips, up to the depth limit. -/
theorem rateFits_iff_le_of_eq {k m : Nat} (hk : 0 < k) (hm : min ((6000 * k - 2400) / 640) 1023 = m) (d : Nat) :
    rateFits k d = true ↔ d ≤ m := by
  rw [rateFits_iff, ← hm, le_min_iff, Nat.le_div_iff_mul_le (by decide)]
  omega

theorem rateFits_of_period_le {k k' d : Nat} (hk : k ≤ k') (h : rateFits k d = true) : rateFits k' d = true := by
  obtain ⟨htime, hdepth⟩ := rateFits_iff.mp h
  exact rateFits_iff.mpr ⟨htime.trans (Nat.mul_le_mul_left 6000 hk), hdepth⟩

/-! ### The highest rate (R163) -/

theorem rateK_le_of_le {c c' : Nat} (h1 : 1 ≤ c) (hc : c ≤ c') (h8 : c' ≤ 8) : rateK c' ≤ rateK c := by
  have hall : ∀ b ≤ 8, ∀ a ≤ b, 1 ≤ a → rateK b ≤ rateK a := by decide
  exact hall c' h8 c hc h1

/-- In a falling list the first element that passes a test is the greatest that does. -/
theorem le_of_find?_eq_some {l : List Nat} (hl : l.Pairwise (· > ·)) {p : Nat → Bool} {a b : Nat} (ha : l.find? p = some a) (hb : b ∈ l)
    (hp : p b = true) : b ≤ a := by
  obtain ⟨_, before, after, rfl, hbefore⟩ := List.find?_eq_some_iff_append.mp ha
  obtain ⟨_, htail, _⟩ := List.pairwise_append.mp hl
  obtain hb | rfl | hb := List.mem_append.mp hb |>.imp_right List.mem_cons.mp
  · simpa [hp] using hbefore b hb
  · exact le_rfl
  · exact (List.rel_of_pairwise_cons htail hb).le

/-- The codes of R146 from the highest rate down, as `rateMax` tries them. -/
theorem mem_rateCodes_iff {c : Nat} : c ∈ [8, 7, 6, 5, 4, 3, 2, 1] ↔ 1 ≤ c ∧ c ≤ 8 := by
  simp only [List.mem_cons, List.not_mem_nil, or_false]
  omega

theorem le_rateMax_iff {c d : Nat} (h1 : 1 ≤ c) (h8 : c ≤ 8) : c ≤ rateMax d ↔ rateFits (rateK c) d = true := by
  unfold rateMax
  cases hfind : [8, 7, 6, 5, 4, 3, 2, 1].find? fun c => rateFits (rateK c) d with
  | none =>
    have hnone := List.find?_eq_none.mp hfind c (mem_rateCodes_iff.mpr ⟨h1, h8⟩)
    exact iff_of_false (by simpa using Nat.ne_of_gt h1) hnone
  | some r =>
    obtain ⟨_, hr8⟩ := mem_rateCodes_iff.mp (List.mem_of_find?_eq_some hfind)
    have hfits := List.find?_some hfind
    constructor
    · intro hc
      exact rateFits_of_period_le (rateK_le_of_le h1 hc hr8) hfits
    · exact le_of_find?_eq_some (by decide) hfind (mem_rateCodes_iff.mpr ⟨h1, h8⟩)

/-- Settles O19: the table is the solved inequality at each period, and the highest code is the first that fits (R147, R163). -/
theorem rateDistances : Obligations.RateDistances := by
  unfold Obligations.RateDistances
  intro d
  refine ⟨?_, ?_, ?_, ?_, ?_, ?_, ?_, ?_, fun c => le_rateMax_iff⟩
  all_goals exact rateFits_iff_le_of_eq (by decide) (by decide) d

end Sys2Proof.Machine

namespace Sys2Proof.Machine

/-!
PROOF. One evaluation of the control law within its widths (R175, R176, R180, R188). A value inside the signed range of its width is left as it is
by the truncation to that width and sets no cause; the scaling bound and the tracking start are instances of that.
-/

/-! ### Widths -/

theorem outOf_eq_false_iff {n : Nat} {v : Int} : outOf n v = false ↔ -(2 ^ (n - 1) : Int) ≤ v ∧ v < (2 ^ (n - 1) : Int) := by
  simp only [outOf, decide_eq_false_iff_not]
  omega

theorem wrap40_of_outOf {v : Int} (h : outOf 40 v = false) : wrap40 v = v := by
  rw [outOf_eq_false_iff] at h
  norm_num at h
  unfold wrap40
  omega

theorem trunc16_of_outOf {v : Int} (h : outOf 16 v = false) : trunc16 v = v := by
  rw [outOf_eq_false_iff] at h
  norm_num at h
  unfold trunc16
  omega

theorem outOf_of_abs_lt {n : Nat} {v : Int} (h : |v| < 2 ^ (n - 1)) : outOf n v = false := by
  obtain ⟨hlow, hhigh⟩ := abs_lt.mp h
  exact outOf_eq_false_iff.mpr ⟨hlow.le, hhigh⟩

theorem asr_eq_ediv (v : Int) (n : Nat) : asr v n = v / 2 ^ n := by
  unfold asr
  rw [Int.fdiv_eq_ediv_of_nonneg _ (by positivity)]
  norm_num

@[simp] theorem asr_zero (n : Nat) : asr 0 n = 0 := by simp [asr_eq_ediv]

/-- A value that stays below 2^15 units of the shift fits 16 bits after it. -/
theorem outOf_asr_of_abs_lt {v : Int} {n : Nat} (h : |v| < 2 ^ 15 * 2 ^ n) : outOf 16 (asr v n) = false := by
  obtain ⟨hlow, hhigh⟩ := abs_lt.mp h
  have hpos : (0 : Int) < 2 ^ n := by positivity
  rw [outOf_eq_false_iff, asr_eq_ediv, Int.le_ediv_iff_mul_le hpos, Int.ediv_lt_iff_lt_mul hpos]
  constructor <;> norm_num at * <;> linarith

/-! ### The causes of an evaluation (R176) -/

theorem getLsbD_zero_causes (a b c d e : Bool) :
    ((if a then BitVec.ofNat 5 (2 ^ 0) else 0) ||| (if b then BitVec.ofNat 5 (2 ^ 1) else 0) ||| (if c then BitVec.ofNat 5 (2 ^ 2) else 0) |||
      (if d then BitVec.ofNat 5 (2 ^ 3) else 0) ||| (if e then BitVec.ofNat 5 (2 ^ 4) else 0)).getLsbD 0 = a := by
  revert a b c d e
  decide

/-! ### The tracking start (R188) -/

/-- A command of 16 bits, shifted up as the integrator takes it, comes back from the shift as it was. -/
theorem asr_mul_two_pow (t : Int) (n : Nat) : asr (t * 2 ^ n) n = t := by
  rw [asr_eq_ediv]
  exact Int.mul_ediv_cancel t (by positivity)

theorem abs_mul_two_pow_lt {t : Int} {n : Nat} (hlow : -32768 ≤ t) (hhigh : t ≤ 32767) (hn : n ≤ 15) : |t * 2 ^ n| < 2 ^ 39 := by
  have hpow : (2 : Int) ^ n ≤ 2 ^ 15 := pow_le_pow_right₀ (by norm_num) hn
  rw [abs_mul, abs_of_pos (by positivity : (0 : Int) < 2 ^ n)]
  calc |t| * 2 ^ n ≤ 32768 * 2 ^ 15 := mul_le_mul (abs_le.mpr ⟨hlow, by omega⟩) hpow (by positivity) (by norm_num)
    _ < 2 ^ 39 := by norm_num

/-- Settles O25: the integrator takes what the other terms leave of the command, so their sum is the command shifted up, which the shift gives back. -/
theorem trackingStart : Obligations.TrackingStart := by
  unfold Obligations.TrackingStart
  intro c iAcc dq xPrev t first r y f rep rq _ hlow hhigh hcause
  simp only [evalLaw, getLsbD_zero_causes] at hcause
  have hsum : ∀ p d ff k : Int, p + (t * 2 ^ (15 - c.sh) - p - d - ff - k) + d + ff + k + 0 * 32768 = t * 2 ^ (15 - c.sh) := fun p d ff k => by ring
  simp only [evalLaw, wrap40_of_outOf hcause, hsum]
  rw [wrap40_of_outOf (outOf_of_abs_lt (abs_mul_two_pow_lt hlow hhigh (by omega))), asr_mul_two_pow,
    trunc16_of_outOf (outOf_eq_false_iff.mpr ⟨by norm_num; exact hlow, by norm_num; omega⟩)]

/-! ### The scaling bound (R180) -/

theorem abs_add_four_le {p i k f : Int} {P I K F : Nat} (hp : p.natAbs ≤ P) (hi : i.natAbs ≤ I) (hk : k.natAbs ≤ K) (hf : f.natAbs ≤ F) :
    |p + (i + k) + f| ≤ (P + I + K + F : Nat) := by
  rw [Int.abs_eq_natAbs]
  omega

/-- One evaluation within the bound: no cause is set, the integrator takes its exact step, and the derivative stays 0. -/
theorem evalLaw_of_bound {c : Law} {iAcc xPrev r y f : Int} {e g : Nat} (hkd : c.kd = 0) (hkr : c.kr = 0) (hsh : c.sh ≤ 8)
    (he : (r - y).natAbs ≤ e) (hf : f.natAbs ≤ g)
    (hbound : c.kp.natAbs * e + iAcc.natAbs + c.ki.natAbs * e + c.kff.natAbs * g < 2 ^ (30 - c.sh)) :
    (evalLaw c iAcc 0 xPrev false none r y f 0 0 0 0).causes = 0 ∧
      (evalLaw c iAcc 0 xPrev false none r y f 0 0 0 0).iAcc = iAcc + c.ki * (r - y) ∧
      (evalLaw c iAcc 0 xPrev false none r y f 0 0 0 0).dq = 0 := by
  have hp : (c.kp * (r - y)).natAbs ≤ c.kp.natAbs * e := Int.natAbs_mul .. ▸ Nat.mul_le_mul_left _ he
  have hi : (c.ki * (r - y)).natAbs ≤ c.ki.natAbs * e := Int.natAbs_mul .. ▸ Nat.mul_le_mul_left _ he
  have hff : (c.kff * f).natAbs ≤ c.kff.natAbs * g := Int.natAbs_mul .. ▸ Nat.mul_le_mul_left _ hf
  have hnat : c.kp.natAbs * e + iAcc.natAbs + c.ki.natAbs * e + c.kff.natAbs * g < 2 ^ 15 * 2 ^ (15 - c.sh) := by
    rw [← pow_add]
    exact hbound.trans_eq (congrArg _ (by omega))
  have hmax : (2 : Nat) ^ (15 - c.sh) ≤ 2 ^ 15 := Nat.pow_le_pow_right (by norm_num) (by omega)
  have hsum : |c.kp * (r - y) + (iAcc + c.ki * (r - y)) + c.kff * f| < 2 ^ 15 * 2 ^ (15 - c.sh) :=
    (abs_add_four_le hp le_rfl hi hff).trans_lt (by exact_mod_cast hnat)
  have hiAcc : outOf 40 (iAcc + c.ki * (r - y)) = false := outOf_of_abs_lt (by rw [Int.abs_eq_natAbs]; omega)
  have hs : outOf 40 (c.kp * (r - y) + (iAcc + c.ki * (r - y)) + c.kff * f) = false :=
    outOf_of_abs_lt (hsum.trans_le (by exact_mod_cast Nat.mul_le_mul_left (2 ^ 15) (hmax.trans (by norm_num : 2 ^ 15 ≤ 2 ^ 24))))
  have hzero : outOf 16 0 = false := by decide
  have htrunc : trunc16 0 = 0 := by decide
  simp [evalLaw, hkd, hkr, hzero, htrunc, hiAcc, wrap40_of_outOf hiAcc, hs, wrap40_of_outOf hs, outOf_asr_of_abs_lt hsum]

/-- What one evaluation adds to the integrator is what the bound has kept for it. -/
theorem bound_step {kp ki kff e g n : Nat} {i k : Int} {B : Nat} (hk : k.natAbs ≤ ki * e)
    (h : kp * e + i.natAbs + (n + 1) * (ki * e) + kff * g < B) : kp * e + (i + k).natAbs + n * (ki * e) + kff * g < B := by
  have hadd := Int.natAbs_add_le i k
  rw [Nat.add_one_mul] at h
  omega

/-- Settles O26, by induction on the evaluations: each stays within the widths and leaves the bound for the rest. -/
theorem scalingBound : Obligations.ScalingBound := by
  unfold Obligations.ScalingBound
  intro c i0 xPrev l e f hkd hkr hsh
  induction l generalizing i0 xPrev with
  | nil => simp [lawRun]
  | cons v l ih =>
    obtain ⟨r, y, g⟩ := v
    intro hin hbound
    obtain ⟨⟨he, hg⟩, hrest⟩ := List.forall_mem_cons.mp hin
    have hstep : (c.ki * (r - y)).natAbs ≤ c.ki.natAbs * e := Int.natAbs_mul .. ▸ Nat.mul_le_mul_left _ he
    have hone : c.ki.natAbs * e ≤ (l.length + 1) * (c.ki.natAbs * e) := Nat.le_mul_of_pos_left _ (Nat.succ_pos _)
    rw [List.length_cons] at hbound
    dsimp only at he hg
    obtain ⟨hcauses, hacc, hdq⟩ := evalLaw_of_bound (iAcc := i0) (xPrev := xPrev) hkd hkr hsh he hg (by omega)
    simp only [lawRun, List.forall_mem_cons, hcauses, hacc, hdq, true_and]
    exact ih _ _ hrest (bound_step hstep hbound)

end Sys2Proof.Machine

namespace Sys2Proof.Machine

/-!
PROOF. The phase that Basalt gives, and fences (R171, R178, R179, R186).
-/

/-! ### Choosing a phase (R171) -/

theorem bestPhase_mem {l : List (Nat × Inst)} {g k p : Nat} {ps : List Nat} (h : bestPhase l g k ps = some p) : p ∈ ps := by
  induction ps generalizing p with
  | nil => simp [bestPhase] at h
  | cons q ps ih =>
    simp only [bestPhase] at h
    split at h
    · simp_all
    · split at h
      · exact List.mem_cons_of_mem _ (ih (by simp_all))
      · simp_all

theorem bestPhase_eq_none_iff {l : List (Nat × Inst)} {g k : Nat} {ps : List Nat} : bestPhase l g k ps = none ↔ ps = [] := by
  cases ps with
  | nil => simp [bestPhase]
  | cons q ps =>
    simp only [bestPhase, reduceCtorEq, iff_false]
    split
    · simp
    · split <;> simp

/-- The phases of the scheduled instances of the same node and period, in the order in which they are tried. -/
def State.samePhases (s : State) (i k : Nat) (ex : List Nat) : List Nat :=
  ((s.schedule (i :: ex)).filter fun e => coefNode (s.coef e.1) == coefNode (s.coef i) && e.2.k == k && e.2.state != 4).map fun e => e.2.phase

theorem State.choosePhase_eq (s : State) (i k : Nat) (ex : List Nat) : s.choosePhase i k ex =
    (((s.samePhases i k ex).find? fun p => s.phaseFits (s.schedule (i :: ex)) i k p) <|>
      bestPhase (s.schedule (i :: ex)) (busiest (s.schedule (i :: ex))) k ((List.range k).filter fun p => s.phaseFits (s.schedule (i :: ex)) i k p)) := by
  simp only [State.choosePhase, State.samePhases]
  split <;> (rename_i hfind; rw [hfind]; rfl)

theorem State.phaseFits_of_choosePhase {s : State} {i k p : Nat} {ex : List Nat} (h : s.choosePhase i k ex = some p) :
    s.phaseFits (s.schedule (i :: ex)) i k p = true := by
  rw [State.choosePhase_eq, Option.orElse_eq_some] at h
  obtain h | ⟨_, h⟩ := h
  · exact List.find?_some h
  · exact (List.mem_filter.mp (bestPhase_mem h)).2

theorem State.not_phaseFits_of_choosePhase {s : State} {i k p : Nat} {ex : List Nat} (h : s.choosePhase i k ex = none) (hp : p < k) :
    s.phaseFits (s.schedule (i :: ex)) i k p = false := by
  rw [State.choosePhase_eq, Option.orElse_eq_none, bestPhase_eq_none_iff, List.filter_eq_nil_iff] at h
  simpa using h.2 p (List.mem_range.mpr hp)

theorem State.mem_samePhases {s : State} {i k p : Nat} {ex : List Nat} : p ∈ s.samePhases i k ex ↔
    ∃ d ∈ s.schedule (i :: ex), (coefNode (s.coef d.1) = coefNode (s.coef i) ∧ d.2.k = k ∧ d.2.state ≠ 4) ∧ d.2.phase = p := by
  simp only [State.samePhases, List.mem_map, List.mem_filter, Bool.and_eq_true, beq_iff_eq, bne_iff_ne, and_assoc]

theorem State.choosePhase_of_mem_samePhases {s : State} {i k p : Nat} {ex : List Nat} (hp : p ∈ s.samePhases i k ex)
    (hfits : s.phaseFits (s.schedule (i :: ex)) i k p = true) : ∃ q ∈ s.samePhases i k ex, s.choosePhase i k ex = some q := by
  cases hfind : (s.samePhases i k ex).find? fun p => s.phaseFits (s.schedule (i :: ex)) i k p with
  | none => exact absurd hfits (List.find?_eq_none.mp hfind p hp)
  | some q => exact ⟨q, List.mem_of_find?_eq_some hfind, by simp [State.choosePhase_eq, hfind]⟩

/-! ### Fences (R178, R179, R186) -/

@[simp] theorem State.inst_traceHit (s : State) (kind i j : Nat) : (s.traceHit kind i).inst j = s.inst j := rfl
@[simp] theorem State.inst_raise (s : State) (a c o j : Nat) : (s.raise a c o).inst j = s.inst j := by simp [State.inst]

/-- A fence changes the loop alone: ARMED and FROZEN become FENCED, and a FENCED one stays so; each gains the cause. -/
theorem State.inst_fenceInst (s : State) (i cause j : Nat) : (s.fenceInst i cause).inst j =
    if j = i ∧ 2 ≤ (s.inst i).state ∧ (s.inst i).state ≤ 4 then
      { s.inst i with state := 4, fenceCause := (s.inst i).fenceCause ||| BitVec.ofNat 4 (2 ^ cause) }
    else s.inst j := by
  by_cases hj : j = i
  · subst hj
    by_cases h4 : (s.inst j).state = 4
    · simp [State.fenceInst, h4]
    · by_cases hdrives : (s.inst j).state = 2 ∨ (s.inst j).state = 3
      · have hrange : 2 ≤ (s.inst j).state ∧ (s.inst j).state ≤ 4 := by omega
        simp only [State.fenceInst, hdrives, hrange, if_true, and_self]
        split <;> simp
      · have hrange : ¬(2 ≤ (s.inst j).state ∧ (s.inst j).state ≤ 4) := by omega
        simp [State.fenceInst, h4, hdrives, hrange]
  · simp only [State.fenceInst, hj, false_and, if_false]
    split
    · split <;> simp [State.inst_updInst_of_ne _ _ hj]
    · split <;> simp [State.inst_updInst_of_ne _ _ hj]

theorem State.fenceInst_of_loaded {s : State} {i : Nat} (h : (s.inst i).state < 2) (cause : Nat) : s.fenceInst i cause = s := by
  unfold State.fenceInst
  rw [if_neg (by omega), if_neg (by omega)]

/-- Settles O27: what `choosePhase` gives comes from one of its two lists of phases that fit, and a fence or its lifting writes one loop. -/
theorem phasesAndFences : Obligations.PhasesAndFences := by
  unfold Obligations.PhasesAndFences
  refine ⟨⟨fun s i k p ex => State.phaseFits_of_choosePhase, fun s i k ex h p => State.not_phaseFits_of_choosePhase h, ?_⟩, ?_, ?_, ?_, ?_, ?_, ?_, ?_, ?_⟩
  · intro s i k ex e he hnode hk hstate hfits
    obtain ⟨q, hq, hchoose⟩ := State.choosePhase_of_mem_samePhases (State.mem_samePhases.mpr ⟨e, he, ⟨hnode, hk, hstate⟩, rfl⟩) hfits
    obtain ⟨d, hd, ⟨hdnode, hdk, _⟩, rfl⟩ := State.mem_samePhases.mp hq
    exact ⟨d, hd, hdnode, hdk, hchoose⟩
  · intro s i k hstate
    have hrange : 2 ≤ (s.inst i).state ∧ (s.inst i).state ≤ 4 := by omega
    simp [State.inst_fenceInst, hrange]
  · exact fun s i k h => State.fenceInst_of_loaded h k
  · intro s i j k hj
    simp [State.inst_fenceInst, hj]
  · intro x k _ hstate hcause
    simp [liftFence, hstate, hcause]
  · intro x k hstate hcause
    simp only [liftFence, hcause, and_false, if_false, hstate]
  · intro x was b hstate
    simp [cmdWord, hstate]
  · intro x was b hstate
    simp [cmdWord, hstate]
  · intro x was hstate
    simp [cmdWord, hstate]

end Sys2Proof.Machine

namespace Sys2Proof.Machine

/-!
PROOF. Leave decisions (R108, R109, R262).
-/

/-- What a decision measures: the leave asked for, held to the consumer's limit. -/
def State.askedKw (s : State) (r : LeaveReq) : Nat := ((s.limitOf r.consumer).map (min r.kw)).getD r.kw

theorem State.askedKw_le (s : State) (r : LeaveReq) : s.askedKw r ≤ r.kw := by
  unfold State.askedKw
  cases s.limitOf r.consumer <;> simp

theorem State.askedKw_le_limit {s : State} {r : LeaveReq} {l : Nat} (h : s.limitOf r.consumer = some l) : s.askedKw r ≤ l := by
  simp [State.askedKw, h]

theorem State.decideLeave_eq (s : State) (r : LeaveReq) (held : Option Nat) : s.decideLeave r held =
    if s.pendingKw ≠ 0 ∨ s.noCooling r.consumer then none
    else if held.isSome ∧ s.askedKw r ≤ held.getD 0 then none
    else if held = none ∧ s.askedKw r < r.minKw then none
    else if s.lv.sum + (s.askedKw r - held.getD 0) ≤ s.lv.e then some (s.askedKw r - held.getD 0)
    else if r.partialOk then
      match held with
      | none => if s.lv.sum ≤ s.lv.e ∧ r.minKw ≤ s.lv.e - s.lv.sum then some (s.lv.e - s.lv.sum) else none
      | some g => if s.lv.sum < s.lv.e ∧ r.minKw ≤ g + (s.lv.e - s.lv.sum) then some (s.lv.e - s.lv.sum) else none
    else none := by
  unfold State.decideLeave State.askedKw
  cases s.limitOf r.consumer <;> cases held <;> rfl

/-- A consumer whose cooling allows nothing has the limit 0 (R262). -/
theorem State.noCooling_eq_false {s : State} {consumer : Nat} (h : ∀ l, s.limitOf consumer = some l → 0 < l) : s.noCooling consumer = false := by
  have hlimit : s.lv.coolLimit.get? consumer ≠ some 0 := by
    intro hzero
    obtain hstage | ⟨m, hstage⟩ := Option.eq_none_or_eq_some (s.stageLimitOf consumer)
    · exact absurd (h 0 (by simp [State.limitOf, hzero, hstage])) (Nat.lt_irrefl 0)
    · exact absurd (h (min 0 m) (by simp [State.limitOf, hzero, hstage])) (by simp)
  simpa [State.noCooling] using hlimit

theorem State.noCooling_of_limitOf_none {s : State} {consumer : Nat} (h : s.limitOf consumer = none) : s.noCooling consumer = false :=
  State.noCooling_eq_false fun _ hl => absurd (h.symm.trans hl) nofun

/-- Whatever is decided, it is at most what is asked beyond the grant held, and what E leaves over S. -/
theorem State.decideLeave_le {s : State} {r : LeaveReq} {held : Option Nat} {d : Nat} (h : s.decideLeave r held = some d) :
    s.lv.sum + d ≤ s.lv.e ∧ held.getD 0 + d ≤ s.askedKw r := by
  rw [State.decideLeave_eq] at h
  cases held with
  | none =>
    simp only [Option.isSome_none, Bool.false_eq_true, false_and, if_false, Option.getD_none] at h ⊢
    split_ifs at h <;> (obtain rfl := Option.some.inj h; omega)
  | some g =>
    simp only [Option.isSome_some, true_and, reduceCtorEq, false_and, if_false, Option.getD_some] at h ⊢
    split_ifs at h <;> (obtain rfl := Option.some.inj h; omega)

/-- Settles O14: each clause is one branch of the decision, and the bounds hold in all of them. -/
theorem leaveDecisions : Obligations.LeaveDecisions := by
  unfold Obligations.LeaveDecisions
  refine ⟨?_, ?_, ?_, ?_, ?_⟩
  · intro s r hpending hlimit hmin hfits
    have hasked : s.askedKw r = r.kw := by simp [State.askedKw, hlimit]
    simp [State.decideLeave_eq, hpending, State.noCooling_of_limitOf_none hlimit, hasked, hmin, hfits]
  · intro s r g l hpending hlimit hgrant hfits
    have hasked : s.askedKw r = min r.kw l := by simp [State.askedKw, hlimit]
    have hcool : s.noCooling r.consumer = false := State.noCooling_eq_false fun m hm => by
      obtain rfl := Option.some.inj (hlimit.symm.trans hm)
      omega
    simp [State.decideLeave_eq, hpending, hcool, hasked, hfits, Nat.not_le.mpr hgrant]
  · intro s r hpending hlimit hmin hpartial hsum hshort hleft
    have hasked : s.askedKw r = r.kw := by simp [State.askedKw, hlimit]
    simp [State.decideLeave_eq, hpending, State.noCooling_of_limitOf_none hlimit, hasked, hmin, hpartial, hsum, hshort, hleft]
  · intro s r held hpending
    simp [State.decideLeave_eq, hpending]
  · intro s r held d hd
    obtain ⟨hsum, hasked⟩ := State.decideLeave_le hd
    exact ⟨hsum, hasked.trans (s.askedKw_le r), fun l hl => hasked.trans (State.askedKw_le_limit hl)⟩

end Sys2Proof.Machine

namespace Sys2Proof.Machine

/-!
PROOF. The arbiter's microsecond, its timers and its publication (R103, R108, R110, R114, R115, R118 to R120). The operations of the arbiter are read
through what they leave of the block `State.lv`: `Lv.rest` is the block without its slots and the mark of a cancelled reclaim, which alone the
comparison of R110 and R111 writes once the terms stand.
-/

/-! ### The terms (R101) -/

theorem State.lvTerms_lv (s : State) : s.lvTerms.lv = { s.lv with
    d := s.lvD, h := s.lvH, g := s.lvG s.lvH, p := s.lvP, e := min (s.lvG s.lvH + s.lvP) 200000, sum := s.lvS, b := s.lvB (s.lvG s.lvH) s.lvP,
    bufLimited := decide (s.lvPByA < s.lvPOther) } := by
  simp only [State.lvTerms]
  split_ifs <;> simp

@[simp] theorem State.lvTerms_slots (s : State) : s.lvTerms.lv.slots = s.lv.slots := by rw [State.lvTerms_lv]

/-! ### The comparison of R110 and R111 -/

/-- The block without what a reclaim and its cancelling write. -/
def Lv.rest (l : Lv) : Lv := { l with slots := [], cancelled := false }

theorem State.cancelClass_rest (cls : Nat) (acc : Nat × State) : (State.cancelClass cls acc).2.lv.rest = acc.2.lv.rest :=
  foldl_leaves (fun t : State => t.lv.rest) (by exact fun _ _ => rfl) _ _

theorem State.cancelReclaim_rest (s : State) (n : Nat) : (s.cancelReclaim n).lv.rest = s.lv.rest := by
  unfold State.cancelReclaim
  generalize hfold : List.foldl (fun a c => State.cancelClass c a) (n, s) _ = a
  have hrest : a.2.lv.rest = s.lv.rest := by
    rw [← hfold]
    exact foldl_leaves (fun a : Nat × State => a.2.lv.rest) (fun a c => State.cancelClass_rest c a) _ (n, s)
  dsimp only
  split <;> exact hrest

theorem State.reclaim_rest (s : State) (excess : Nat) (notice : Option Nat) : (s.reclaim excess notice).lv.rest = s.lv.rest :=
  foldl_leaves (fun t : State => t.lv.rest) (by exact fun _ _ => rfl) _ _

theorem State.settle_rest (s : State) (notice : Option Nat) : (s.settle notice).lv.rest = s.lvTerms.lv.rest := by
  simp only [State.settle]
  split_ifs
  · exact State.cancelReclaim_rest ..
  · exact State.reclaim_rest ..
  · rfl

theorem State.settle_setpoint (s : State) (notice : Option Nat) : (s.settle notice).lv.setpoint = s.lv.setpoint := by
  have h := congrArg Lv.setpoint (s.settle_rest notice)
  rwa [Lv.rest, Lv.rest, State.lvTerms_lv] at h

theorem State.settle_setExpiry (s : State) (notice : Option Nat) : (s.settle notice).lv.setExpiry = s.lv.setExpiry := by
  have h := congrArg Lv.setExpiry (s.settle_rest notice)
  rwa [Lv.rest, Lv.rest, State.lvTerms_lv] at h

theorem State.settle_d (s : State) (notice : Option Nat) : (s.settle notice).lv.d = s.lvD := by
  have h := congrArg Lv.d (s.settle_rest notice)
  rwa [Lv.rest, Lv.rest, State.lvTerms_lv] at h

theorem State.settle_pBound (s : State) (notice : Option Nat) : (s.settle notice).lv.pBound = s.lv.pBound := by
  have h := congrArg Lv.pBound (s.settle_rest notice)
  rwa [Lv.rest, Lv.rest, State.lvTerms_lv] at h

theorem State.settle_importExcess (s : State) (notice : Option Nat) : (s.settle notice).lv.importExcess = s.lv.importExcess := by
  have h := congrArg Lv.importExcess (s.settle_rest notice)
  rwa [Lv.rest, Lv.rest, State.lvTerms_lv] at h

/-! ### Caps sent (R114) -/

theorem State.emitCaps_eq (s : State) : s.emitCaps = { s with
    out := (s.capOutputs.map fun e => Emit.cap e.1 e.2 (s.nodeCap e.1 e.2) (s.nodeRamps e.1 e.2) s.ring.epoch).reverse ++ s.out } := by
  have hfold : ∀ (l : List (Nat × Nat)) (t : State),
      l.foldl (fun (t : State) e => t.emit (.cap e.1 e.2 (s.nodeCap e.1 e.2) (s.nodeRamps e.1 e.2) s.ring.epoch)) t =
        { t with out := (l.map fun e => Emit.cap e.1 e.2 (s.nodeCap e.1 e.2) (s.nodeRamps e.1 e.2) s.ring.epoch).reverse ++ t.out } := by
    intro l
    induction l with
    | nil => exact fun _ => rfl
    | cons e l ih => exact fun t => (ih _).trans (by simp [State.emit])
  exact hfold _ _

theorem State.spreadDischarge_lv (l : List Nat) (cap cmd : Nat) (s : State) : (State.spreadDischarge l cap cmd s).lv = s.lv := by
  induction l generalizing cap cmd s with
  | nil => rfl
  | cons n l ih =>
    cases l with
    | nil => rfl
    | cons m l => exact ih ..

theorem State.mem_out_spreadDischarge {e : Emit} {l : List Nat} {cap cmd : Nat} {s : State} (h : e ∈ s.out) :
    e ∈ (State.spreadDischarge l cap cmd s).out := by
  induction l generalizing cap cmd s with
  | nil => exact h
  | cons n l ih =>
    cases l with
    | nil => exact List.mem_cons_of_mem _ h
    | cons m l => exact ih (List.mem_cons_of_mem _ h)

theorem State.sendDischarge_lv (s : State) : s.sendDischarge.lv = s.lv :=
  (State.spreadDischarge_lv ..).trans (foldl_leaves State.lv (by exact fun _ _ => rfl) _ _)

theorem State.mem_out_foldl_emit {α : Type} {e : Emit} (f : α → Emit) (l : List α) {s : State} (h : e ∈ s.out) :
    e ∈ (l.foldl (fun (t : State) a => t.emit (f a)) s).out := by
  induction l generalizing s with
  | nil => exact h
  | cons a l ih => exact ih (List.mem_cons_of_mem _ h)

theorem State.mem_out_sendDischarge {e : Emit} {s : State} (h : e ∈ s.out) : e ∈ s.sendDischarge.out :=
  State.mem_out_spreadDischarge (State.mem_out_foldl_emit _ _ h)

theorem State.publishCaps_lv (s : State) : s.publishCaps.lv = { s.lv with
    slots := s.lv.slots.mapV fun _ x => { x with outs := s.sendOuts (s.capmap x.consumer) x.grantKw x.outs },
    residue := s.lv.residue.map fun x => { x with outs := s.sendOuts [] 0 x.outs } } := by
  rw [State.publishCaps, State.sendDischarge_lv, State.emitCaps_eq]
  rfl

theorem State.cap_mem_out_publishCaps {s : State} {n o : Nat} (hn : n ∈ s.ring.plans.keys) (ho : o < 8) :
    Emit.cap n o (s.nodeCap n o) (s.nodeRamps n o) s.ring.epoch ∈ s.publishCaps.out := by
  apply State.mem_out_sendDischarge
  rw [State.emitCaps_eq]
  refine List.mem_append_left _ (List.mem_reverse.mpr (List.mem_map.mpr ⟨(n, o), ?_, rfl⟩))
  exact List.mem_flatMap.mpr ⟨n, hn, List.mem_map.mpr ⟨o, List.mem_range.mpr ho, rfl⟩⟩

/-! ### Notices (R110) -/

theorem State.noticeEnds_of_not_due {s : State} {k : Nat} (h : s.noticeDue k = false) : s.noticeEnds [k] = s := by
  simp [State.noticeEnds, h]

/-- A notice that runs out lowers its slot, whether or not the caps go out with it; what each node has been sent is all that this changes besides. -/
theorem State.noticeEnds_slots {s : State} {k : Nat} (h : s.noticeDue k = true) :
    ∃ f : LvSlot → List CapOut, (s.noticeEnds [k]).lv.slots =
      (s.lv.slots.upd k (LvSlot.noticed s.now)).mapV fun _ x => { x with outs := f x } := by
  have hid : (s.lv.slots.upd k (LvSlot.noticed s.now)).mapV (fun _ x => { x with outs := x.outs }) = s.lv.slots.upd k (LvSlot.noticed s.now) :=
    List.map_id _
  simp only [State.noticeEnds, List.filter_cons, h, List.filter_nil, if_true, List.foldl_cons, List.foldl_nil, reduceCtorEq, if_false,
    State.lvTerms_slots, ne_eq, not_false_eq_true, and_true]
  split_ifs
  · rw [State.publishCaps_lv]
    simp only [State.lvTerms_slots]
    exact ⟨_, rfl⟩
  · exact ⟨fun x => x.outs, hid.symm⟩

/-! ### A report on no object -/

/-- A source whose objects are none of those that a reaction reaches leaves the ring controller as it was (R524). -/
theorem State.report_ring_of_kind {source : Nat} {row : SourceRow} (hrow : sourceRow source = some row) (hkind : row.kind = 0) (s : State) (o : Nat) :
    (s.report source o).ring = s.ring := by
  have happly : ∀ (t : State) (r : Nat), t.applyHold 0 o r source = t := by
    intro t r
    simp [State.applyHold, State.applyHold0]
  simp only [State.report, State.reportWith, hrow, hkind, happly, or_true, if_true]
  split
  · rfl
  · simp only [State.noteDegraded]
    split_ifs <;> simp

/-! ### A publication (R77, R110) -/

/-- What a publication reads of the state with which its site cycle begins: role and site cycle, nodes, slots and residue. -/
def State.published (s : State) : Pair × Ring × Tab LvSlot × List Residue := (s.pair, s.ring, s.lv.slots, s.lv.residue)

theorem State.published_latchRun (s : State) : s.latchRun.published = s.published := by
  unfold State.latchRun
  refine foldl_leaves State.published (fun t e => ?_) dictionary s
  split
  · rfl
  · rfl

theorem State.published_configChanged (s old : State) : (s.configChanged old).published = s.published := by
  unfold State.configChanged
  split
  · rfl
  · exact foldl_leaves State.published (by exact fun _ _ => rfl) _ s

theorem State.published_roundDiv (s : State) (n : Int) (d : Nat) : (s.roundDiv n d).2.published = s.published := by
  unfold State.roundDiv
  split <;> rfl

theorem State.published_q15 (s : State) (n : Int) (d : Nat) : (s.q15 n d).2.published = s.published := by
  simp only [State.q15]
  split
  · exact State.published_roundDiv ..
  · exact State.published_roundDiv ..

theorem State.published_siteInputs (s : State) : s.siteInputs.published = s.published :=
  (State.published_q15 ..).trans ((State.published_q15 ..).trans ((State.published_q15 ..).trans (State.published_q15 ..)))

theorem State.published_canTimingLate (s : State) : s.canTimingLate.published = s.published := by
  unfold State.canTimingLate
  split
  · split
    · simp only [State.published, State.report_pair, State.report_lv, State.report_ring_of_kind (source := SRC_CAN_TIMING) rfl rfl]
      rfl
    · rfl
  · rfl

theorem State.published_sendStatus (s : State) : s.sendStatus.published = s.published := by
  unfold State.sendStatus
  split <;> rfl

theorem State.published_latchMeans (s : State) : s.latchMeans.published = s.published := rfl
theorem State.published_canLatch (s : State) : s.canLatch.published = s.published := rfl
theorem State.published_measure (s : State) : s.measure.published = s.published := rfl

/-- The state with which a site cycle begins, before the caps go out. -/
def State.siteCycleStart (s : State) : State :=
  ({ s.latchRun.configChanged s with pair := { s.pair with siteCycle := (s.pair.siteCycle + 1) % 2 ^ 32, boundaryAt := s.now } } :
    State).measure.siteInputs.latchMeans.canLatch.canTimingLate.sendStatus

theorem State.published_siteCycleStart (s : State) : s.siteCycleStart.published =
    ({ s.pair with siteCycle := (s.pair.siteCycle + 1) % 2 ^ 32, boundaryAt := s.now }, s.ring, s.lv.slots, s.lv.residue) := by
  have hold : (s.latchRun.configChanged s).published = s.published := (State.published_configChanged ..).trans s.published_latchRun
  obtain ⟨hring, hslots, hresidue⟩ : (s.latchRun.configChanged s).ring = s.ring ∧ (s.latchRun.configChanged s).lv.slots = s.lv.slots ∧
      (s.latchRun.configChanged s).lv.residue = s.lv.residue := by simpa [State.published] using (Prod.mk.inj hold).2
  simp only [State.siteCycleStart, State.published_sendStatus, State.published_canTimingLate, State.published_canLatch, State.published_latchMeans,
    State.published_siteInputs, State.published_measure]
  simp only [State.published, hring, hslots, hresidue]

theorem State.siteCycleStart_publishes (s : State) : s.siteCycleStart.publishes = s.publishes := by
  obtain ⟨hpair, hring, _⟩ := Prod.mk.inj s.published_siteCycleStart |>.imp_right Prod.mk.inj
  simp [State.publishes, State.isActive, State.hasLease, hpair, hring]

/-- The caps go out, reductions that have not been published get their end times, and the reclaim events follow. -/
def State.publication (s : State) : State :=
  let t := s.publishCaps
  let fresh := (s.lv.slots.vals.filter fun x => x.pending.any fun r => r.endAt.isNone).map LvSlot.cls
  let t := { t with lv := { t.lv with slots := t.lv.slots.mapV fun _ x => x.published s.now } }
  let t := match fresh with
    | [] => t
    | c :: cs => t.raise 0x03 0x0001 (cs.foldl min c)
  let t := if s.lv.cancelled ∧ s.pendingKw = 0 then t.raise 0x03 0x0002 0 else t
  { t with lv := { t.lv with cancelled := false, published := true } }

theorem execLedgerPublication_eq (s : State) : execLedgerPublication s =
    .next (if s.publishes then s.siteCycleStart.publication else s.siteCycleStart) := by
  rw [← State.siteCycleStart_publishes]
  unfold execLedgerPublication State.publication State.siteCycleStart
  exact (apply_ite Host.Outcome.next _ _ _).symm

theorem State.publication_slots (s : State) :
    s.publication.lv.slots = s.publishCaps.lv.slots.mapV fun _ x => x.published s.now := by
  simp only [State.publication]
  split_ifs <;> split <;> simp

theorem State.publishCaps_pair (s : State) : s.publishCaps.pair = s.pair := by
  have hspread : ∀ (l : List Nat) (cap cmd : Nat) (t : State), (State.spreadDischarge l cap cmd t).pair = t.pair := by
    intro l
    induction l with
    | nil => exact fun _ _ _ => rfl
    | cons n l ih =>
      cases l with
      | nil => exact fun _ _ _ => rfl
      | cons m l => exact fun _ _ _ => ih ..
  rw [State.publishCaps, State.sendDischarge, hspread]
  refine (foldl_leaves State.pair (by exact fun _ _ => rfl) _ _).trans ?_
  rw [State.emitCaps_eq]
  rfl

theorem State.publication_pair (s : State) : s.publication.pair = s.pair := by
  simp only [State.publication]
  split_ifs <;> split <;> simp [State.publishCaps_pair]

theorem LvSlot.endAt_of_published {x : LvSlot} {now : Nat} {r : Reduction} (h : r ∈ (x.published now).pending) : r.endAt.isSome = true := by
  obtain ⟨_, _, rfl⟩ := List.mem_map.mp h
  rfl

theorem State.endAt_of_publication {s : State} {x : LvSlot} (hx : x ∈ s.publication.lv.slots.vals) {r : Reduction} (hr : r ∈ x.pending) :
    r.endAt.isSome = true := by
  rw [State.publication_slots] at hx
  simp only [Tab.vals, Tab.mapV, List.map_map, List.mem_map, Function.comp_apply] at hx
  obtain ⟨e, _, rfl⟩ := hx
  exact LvSlot.endAt_of_published hr

/-! ### Work leave (R118 to R120) -/

theorem execWorkLeaveGrant_cases (kind : Nat) (s : State) :
    (s.nextWorkReq kind = none ∧ execWorkLeaveGrant kind s = .next s) ∨ ∃ w, s.nextWorkReq kind = some w ∧ execWorkLeaveGrant kind s = .next (s.grantWork w) := by
  unfold execWorkLeaveGrant
  cases s.nextWorkReq kind with
  | none => exact .inl ⟨rfl, rfl⟩
  | some w => exact .inr ⟨w, rfl, rfl⟩

theorem State.grantWork_lv (s : State) (w : Work) : (s.grantWork w).lv =
    { s.lv with workWait := s.lv.workWait.filter (fun x => x.id != w.id), workGrant := s.lv.workGrant ++ [w] } := by
  simp only [State.grantWork]
  split <;> rfl

theorem State.grantWork_pn (s : State) (w : Work) (id : Nat) : (s.grantWork w).pn id = s.pn id := by
  simp only [State.grantWork]
  split <;> rfl

/-- The request that may be granted next is one of those that wait, of its kind, and it fits. -/
theorem State.nextWorkReq_spec {s : State} {kind : Nat} {w : Work} (h : s.nextWorkReq kind = some w) :
    w.kind = kind ∧ w.amount ≤ s.workFree kind ∧ s.lv.workHold = false ∧ ∀ v ∈ s.lv.workWait, v.kind = kind → v.island = true → w.island = true := by
  simp only [State.nextWorkReq, Option.filter_eq_some_iff, Bool.and_eq_true, decide_eq_true_eq, Bool.not_eq_true'] at h
  obtain ⟨hfind, ⟨hfits, _⟩, hhold⟩ := h
  split at hfind
  · rename_i u hu
    obtain rfl := Option.some.inj hfind
    have hmem := List.mem_filter.mp (List.mem_of_find?_eq_some hu)
    exact ⟨by simpa using hmem.2, hfits, hhold, fun _ _ _ _ => List.find?_some hu⟩
  · rename_i hnone
    have hmem := List.mem_filter.mp (List.mem_of_head? hfind)
    refine ⟨by simpa using hmem.2, hfits, hhold, fun v hv hkind hisland => ?_⟩
    exact absurd hisland (List.find?_eq_none.mp hnone v (List.mem_filter.mpr ⟨hv, by simpa using hkind⟩))

/-- The leave of a kind that is granted. -/
def State.workUsed (s : State) (kind : Nat) : Nat := ((s.lv.workGrant.filter fun w => w.kind == kind).map Work.amount).sum

theorem State.workUsed_grantWork {s : State} {w : Work} {kind : Nat} (hk : w.kind = kind) : (s.grantWork w).workUsed kind = s.workUsed kind + w.amount := by
  simp [State.workUsed, State.grantWork_lv, hk]

/-! ### Waits that run out (R76, R215, R411) -/

theorem State.islandWaits_of_parIsland {s : State} {c : InFlight} {id : Nat} {v : Int} {t : Nat} (hwait : s.par.islandWait = [(c.uid, id, v, t)])
    (hawaits : s.awaits (.parIsland c.uid) = true) : s.islandWaits c = some (.parIsland c.uid, t) := by
  simp [State.islandWaits, hwait, hawaits]

theorem State.awaits_dropWork (s : State) (what : WorkFor) : (s.dropWork what).awaits what = false := by
  simp [State.awaits, State.dropWork]

/-- The one command in flight, ended. -/
theorem State.inflight_fail_of_single {s : State} {c : InFlight} (hs : s.mbx.inflight = [c]) (hphase : c.phase = .running) (st : Nat) :
    (s.fail c.uid st).mbx.inflight = [{ c with phase := .done, status := st, result := padTo 16 [], data := [], dataDone := 0, image := 0 }] := by
  simp [State.fail, State.endCmd, updCmds, hs, hphase]

/-! ### The rows -/

theorem execSetpointExpiry_of_due {s : State} {e : Nat} (hset : s.lv.setExpiry = some e) (hdue : e ≤ s.now) : ∃ t : State,
    execSetpointExpiry s = .next t ∧ t.lv.setpoint = none ∧ t.lv.setExpiry = none ∧ t.lv.d = s.pn PAR_LV_FALLBACK_KW := by
  refine ⟨_, by rw [execSetpointExpiry, hset]; exact if_pos hdue, ?_⟩
  simp only [State.raise_lv, State.settle_setpoint, State.settle_setExpiry, State.settle_d, true_and]
  rfl

theorem execImportExcessDetected_of_over {s : State} {kw : Int} (dkw : Nat) {t : Nat} (hpub : s.publishes = true) (hover : s.importOver kw = true)
    (hsince : s.lv.overSince = some t) (hlasted : t + s.pn PAR_LV_OVER_MS * ms ≤ s.now) : ∃ u : State,
    execImportExcessDetected kw dkw s = .next u ∧ u.lv.pBound = some dkw ∧ u.lv.importExcess = true := by
  refine ⟨_, by rw [execImportExcessDetected]; exact if_pos ⟨hpub, hover, by simp [hsince, hlasted]⟩, ?_⟩
  simp [State.settle_pBound, State.settle_importExcess]

theorem State.noticeEnds_of_single {s : State} {k : Nat} {x : LvSlot} {r : Reduction} {t : Nat} (hslots : s.lv.slots = [(k, x)]) (hpending : x.pending = [r])
    (hend : r.endAt = some t) (hdue : t ≤ s.now) (hactive : s.isActive = true) : ∃ y : LvSlot,
    (s.noticeEnds [k]).lv.slots = [(k, y)] ∧ y.grantKw = x.grantKw - r.kw ∧ y.pending = [] ∧ y.state = 1 := by
  have hrdue : r.due s.now = true := by simp [Reduction.due, hend, hdue]
  obtain ⟨f, hf⟩ := State.noticeEnds_slots (s := s) (k := k) (by simp [State.noticeDue, hactive, hslots, Tab.get?, hpending, hrdue])
  refine ⟨{ LvSlot.noticed s.now x with outs := f (LvSlot.noticed s.now x) }, ?_, ?_, ?_, ?_⟩
  · simp [hf, hslots, Tab.upd, Tab.mapV]
  · simp [LvSlot.noticed, hpending, hrdue]
  · simp [LvSlot.noticed, hpending, hrdue]
  · simp [LvSlot.noticed, hpending, hrdue]

theorem State.workUsed_of_grant {s t : State} {kind : Nat} (hbudget : s.workUsed kind ≤ if kind = 0 then 120 else s.pn PAR_LV_WORK_BULK_MBS)
    (h : execWorkLeaveGrant kind s = .next t) : t.workUsed kind ≤ if kind = 0 then 120 else t.pn PAR_LV_WORK_BULK_MBS := by
  obtain ⟨_, hrow⟩ | ⟨w, hw, hrow⟩ := execWorkLeaveGrant_cases kind s
  · obtain rfl := Host.Outcome.next.inj (hrow.symm.trans h)
    exact hbudget
  · obtain rfl := Host.Outcome.next.inj (hrow.symm.trans h)
    obtain ⟨hkind, hfits, _, _⟩ := State.nextWorkReq_spec hw
    rw [State.workUsed_grantWork hkind, State.grantWork_pn]
    change w.amount ≤ _ - s.workUsed kind at hfits
    omega

theorem execIslandLeaveTimeout_of_late {s : State} {q tag t : Nat} {c : InFlight} {w : WorkFor}
    (hfind : s.mbx.inflight.find? (fun c => c.q == q && c.desc.tag == tag && c.phase == .running && (s.islandWaits c).isSome) = some c)
    (hwaits : s.islandWaits c = some (w, t)) (hdue : t ≤ s.now) : execIslandLeaveTimeout q tag s = .next (s.islandLate c w) := by
  simp only [execIslandLeaveTimeout, hfind, hwaits, if_neg (Nat.not_lt.mpr hdue)]

theorem State.islandLate_of_parIsland {s : State} {c : InFlight} {id t : Nat} {v : Int} (hs : s.mbx.inflight = [c]) (hphase : c.phase = .running)
    (hwait : s.par.islandWait = [(c.uid, id, v, t)]) :
    (s.islandLate c (.parIsland c.uid)).par.islandWait = [] ∧ (s.islandLate c (.parIsland c.uid)).par.island = s.par.island ∧
      (s.islandLate c (.parIsland c.uid)).awaits (.parIsland c.uid) = false ∧ (s.islandLate c (.parIsland c.uid)).mbx.inflight =
        [{ c with phase := .done, status := ST_NO_LEAVE, result := padTo 16 [], data := [], dataDone := 0, image := 0 }] := by
  refine ⟨?_, rfl, s.awaits_dropWork _, ?_⟩
  · simp [State.islandLate, State.fail, State.dropWork, hwait]
  · exact State.inflight_fail_of_single (by exact hs) hphase _

/-- Settles O18, clause by clause from the rows above: the comparison of R110 keeps what the timers set, a publication writes the slots alone, and a grant of
work leave moves one request that fits. -/
theorem arbiterAndWorkLeave : Obligations.ArbiterAndWorkLeave := by
  unfold Obligations.ArbiterAndWorkLeave
  refine ⟨⟨?_, ?_, ?_, ?_, ?_, ?_, ?_, ?_, ?_, ?_, ?_, ?_⟩, ⟨?_, ?_, ?_, ?_, ?_, ?_, ?_⟩, ?_⟩
  · exact fun s hactive => congrArg Host.Outcome.next (if_pos hactive)
  · exact fun s hactive => congrArg Host.Outcome.next (if_neg (Bool.not_eq_true _ ▸ hactive))
  · exact fun s e hset hdue => execSetpointExpiry_of_due hset hdue
  · exact fun s k => rfl
  · intro s k x r t hslots hpending hend hdue _ hactive
    obtain ⟨y, hy⟩ := State.noticeEnds_of_single hslots hpending hend hdue hactive
    exact ⟨_, y, rfl, hy⟩
  · exact fun s k hactive => congrArg Host.Outcome.next (State.noticeEnds_of_not_due (by simp [State.noticeDue, hactive]))
  · intro s k x r hslot hwaiting hdue
    change execLeaveWaitExpiry k s = _
    simp only [execLeaveWaitExpiry, hslot, hwaiting, if_pos hdue]
  · intro s
    obtain ⟨hpair, _, hslots, hresidue⟩ : s.siteCycleStart.pair = _ ∧ s.siteCycleStart.ring = _ ∧ s.siteCycleStart.lv.slots = _ ∧
        s.siteCycleStart.lv.residue = _ := by simpa [State.published] using s.published_siteCycleStart
    refine ⟨_, execLedgerPublication_eq s, ?_, ?_, ?_⟩
    · split <;> simp [State.publication_pair, hpair]
    · intro hpub
      rw [if_pos hpub]
      exact ⟨rfl, fun x hx r => State.endAt_of_publication hx⟩
    · intro hpub
      rw [if_neg (by simp [hpub])]
      exact ⟨hslots, hresidue⟩
  · exact fun s n o => State.cap_mem_out_publishCaps
  · exact fun s kw dkw t hpub hover hsince hlasted => execImportExcessDetected_of_over dkw hpub (decide_eq_true hover) hsince hlasted
  · intro s kw dkw hnot
    refine if_neg fun ⟨hpub, hover, hsince⟩ => ?_
    obtain hnot | hnot | hnot := hnot
    · simp [hnot] at hpub
    · exact absurd (of_decide_eq_true hover) (Int.not_lt.mpr hnot)
    · simp [hnot] at hsince
  · intro s kw t hpub hbound hdelivers hsince hlasted
    exact if_pos ⟨hpub, hbound, decide_eq_true (by exact_mod_cast hdelivers), by simp [hsince, hlasted]⟩
  · intro s kind w hw
    refine ⟨?_, ?_, ?_⟩
    · change execWorkLeaveGrant kind s = _
      rw [execWorkLeaveGrant, hw]
    · rw [State.grantWork_lv]
    · rw [State.grantWork_lv]
  · exact fun s t kind hbudget h => State.workUsed_of_grant hbudget h
  · intro s kind hhold
    obtain ⟨_, hrow⟩ | ⟨w, hw, _⟩ := execWorkLeaveGrant_cases kind s
    · exact hrow
    · obtain ⟨_, _, hfree, _⟩ := State.nextWorkReq_spec hw
      exact absurd (hhold.symm.trans hfree) nofun
  · exact fun s kind w v hw => (State.nextWorkReq_spec hw).2.2.2 v
  · intro s id w hw hself
    change execWorkOperationEnd id s = _
    simp only [execWorkOperationEnd, hw, hself, Bool.false_eq_true, if_false]
  · intro s q tag c id v t hs hq htag hphase hwait hawaits hdue
    have hwaits := State.islandWaits_of_parIsland hwait hawaits
    exact ⟨_, execIslandLeaveTimeout_of_late (by simp [hs, hq, htag, hphase, hwaits]) hwaits hdue, State.islandLate_of_parIsland hs hphase hwait⟩
  · intro s q tag c hs hq htag hphase hawaits hdue
    change execBulkLeaveTimeout q tag s = _
    have hany : (s.awaits (.tuneRead c.uid) || s.awaits (.ptDump c.uid)) = true := by simpa using hawaits
    simp [execBulkLeaveTimeout, hs, hq, htag, hphase, hany, hdue]
  · exact fun s q tag t c w hfind hwaits hdue => execIslandLeaveTimeout_of_late hfind hwaits hdue

end Sys2Proof.Machine

namespace Sys2Proof.Machine

/-!
PROOF. Commands, queue pairs and hosts (chapter 02). First what a started command's state reads as, which every command row needs.
-/

/-! ### The state in which a command has started -/

/-- A command row whose command may start answers the state that its meaning gives. -/
theorem startCommand_eq_of_starts {op q tag : Nat} {s t : State} {c : InFlight} {f : InFlight → State → State} (h : Starts op q tag s c)
    (hf : f c (s.start c.uid) = t) : startCommand op q tag s f = .next t :=
  (startCommand_of_starts f h).trans (congrArg _ hf)

@[simp] theorem State.host_start (s : State) (u e : Nat) : (s.start u).host e = s.host e := rfl
@[simp] theorem State.hostLive_start (s : State) (u e : Nat) : (s.start u).hostLive e = s.hostLive e := rfl
@[simp] theorem State.pn_start (s : State) (u id : Nat) : (s.start u).pn id = s.pn id := rfl
@[simp] theorem State.pms_start (s : State) (u id : Nat) : (s.start u).pms id = s.pms id := rfl
@[simp] theorem State.islN_start (s : State) (u id : Nat) : (s.start u).islN id = s.islN id := rfl
@[simp] theorem State.isActive_start (s : State) (u : Nat) : (s.start u).isActive = s.isActive := rfl
@[simp] theorem State.isPaired_start (s : State) (u : Nat) : (s.start u).isPaired = s.isPaired := rfl
@[simp] theorem State.isStandby_start (s : State) (u : Nat) : (s.start u).isStandby = s.isStandby := rfl
@[simp] theorem State.nextImage_start (s : State) (u : Nat) : (s.start u).nextImage = s.nextImage := rfl

/-! ### Settling a command (R56, R58, R60, R61) -/

/-- Settles O1: the three ends of a command row, and an end that writes one command of those in flight. -/
theorem commandCompletion : Obligations.CommandCompletion := by
  unfold Obligations.CommandCompletion
  refine ⟨⟨fun op q tag s c f h => startCommand_of_starts f h, ?_, ?_⟩, ?_⟩
  · intro op q tag s c f hnamed hmay hlink
    simp [startCommand, hnamed, hmay, hlink]
  · intro op q tag s f hnamed
    simp [startCommand, hnamed]
  · intro s uid st result data n image
    refine ⟨rfl, updCmds_length .., ?_, ?_⟩
    · intro c hc hkept
      refine List.mem_map.mpr ⟨c, hc, ?_⟩
      obtain huid | hdone := hkept
      · exact if_neg huid
      · simp [hdone]
    · intro c hc huid hphase
      exact List.mem_map.mpr ⟨c, hc, by simp [huid, hphase]⟩

/-! ### MBX_HOST_SET, MBX_EVENT_WAIT and MBX_ABORT (R66 to R70) -/

theorem mbxHostSet_of_refused {c : InFlight} {s : State} (h : ∀ t, hostTableAfter c.desc s.mbx.hosts = some t → hostTableOk t = false) :
    mbxHostSet c s = s.fail c.uid ST_BAD_PARAM := by
  unfold mbxHostSet
  split
  · rfl
  · rename_i t ht
    simp [h t ht]

theorem mbxHostSet_of_ok {c : InFlight} {s : State} {t : Tab HostEntry} (ht : hostTableAfter c.desc s.mbx.hosts = some t) (hok : hostTableOk t = true) :
    mbxHostSet c s = ({ s with mbx := { s.mbx with hosts := t } }.updLive (c.desc.u 32 1) fun l =>
      { l with events := [], eventMask := 0x000FFFFE, evtLost := false,
               loseAfter := if s.mbx.hosts.get? (c.desc.u 32 1) != t.get? (c.desc.u 32 1) && (s.hostLive (c.desc.u 32 1)).connected then
                 l.loseAfter ++ [(c.uid, (s.host (c.desc.u 32 1)).queueMask)] else l.loseAfter }).ok c [] := by
  simp only [mbxHostSet, ht, hok, if_true]

/-- Settles O2: each command's meaning, branch by branch. -/
theorem mailboxCommands : Obligations.MailboxCommands := by
  unfold Obligations.MailboxCommands
  refine ⟨?_, ?_, ?_⟩
  · intro s q tag c hc
    refine ⟨?_, ?_, ?_⟩
    · intro t ht hok
      refine ⟨fun hkeep => ?_, fun hchanged hconn => ?_⟩
      · have hlose : (s.mbx.hosts.get? (c.desc.u 32 1) != t.get? (c.desc.u 32 1) && (s.hostLive (c.desc.u 32 1)).connected) = false := by
          obtain hsame | hconn := hkeep
          · simp [hsame]
          · simp [hconn]
        refine startCommand_eq_of_starts hc ((mbxHostSet_of_ok (s := s.start c.uid) ht hok).trans ?_)
        simp only [State.start_mbx_hosts, State.hostLive_start, hlose, Bool.false_eq_true, if_false]
      · have hlose : (s.mbx.hosts.get? (c.desc.u 32 1) != t.get? (c.desc.u 32 1) && (s.hostLive (c.desc.u 32 1)).connected) = true := by
          simp [hchanged, hconn]
        refine startCommand_eq_of_starts hc ((mbxHostSet_of_ok (s := s.start c.uid) ht hok).trans ?_)
        simp only [State.start_mbx_hosts, State.hostLive_start, State.host_start, hlose, if_true]
    · intro t ht hok
      refine startCommand_eq_of_starts hc (mbxHostSet_of_refused fun t' ht' => ?_)
      obtain rfl := Option.some.inj (ht.symm.trans ht')
      exact hok
    · intro ht
      exact startCommand_eq_of_starts hc (mbxHostSet_of_refused fun t' ht' => absurd (ht.symm.trans ht') nofun)
  · intro s q tag c hc
    refine ⟨fun hmask hwaits => ?_, fun hmask hwaits => ?_, fun hmask => ?_⟩
    · exact startCommand_eq_of_starts hc (by simp only [mbxEventWait, hmask, ne_eq, not_true_eq_false, if_false, if_neg (Nat.not_lt.mpr hwaits)])
    · exact startCommand_eq_of_starts hc (by simp only [mbxEventWait, hmask, ne_eq, not_true_eq_false, if_false, if_pos hwaits])
    · exact startCommand_eq_of_starts hc (if_pos hmask)
  · intro s q tag c hc
    refine ⟨fun hother => ?_, fun hown => ⟨fun hnone => ?_, fun d hd => ⟨fun habort => ?_, fun habort => ?_⟩⟩⟩
    · exact startCommand_eq_of_starts hc (if_pos hother)
    · exact startCommand_eq_of_starts hc (by simp [mbxAbort, hown, hnone])
    · exact startCommand_eq_of_starts hc (by simp [mbxAbort, hown, hd, habort])
    · exact startCommand_eq_of_starts hc (by simp [mbxAbort, hown, hd, habort])

/-! ### Doorbells and queue registers (R54, R71) -/

/-- Settles O4: each row on a queue pair of the PCIe transport, under the condition of its branch. -/
theorem queueRegisters : Obligations.QueueRegisters := by
  unfold Obligations.QueueRegisters
  refine ⟨?_, ?_, ?_, ?_, ?_, ?_, fun _ _ _ => rfl⟩
  · intro s q tail hpcie hready htail hfree
    exact (if_pos hpcie).trans (if_pos ⟨hready, htail, hfree⟩)
  · intro s q head n hpcie hready hhead hn hle
    subst hn
    exact (if_pos hpcie).trans (if_pos ⟨hready, hhead, hle⟩)
  · intro s q tail hpcie hready
    exact ⟨(if_pos hpcie).trans (if_neg (by simp [hready])), (if_pos hpcie).trans (if_neg (by simp [hready]))⟩
  · intro s q e howner htransport hup hready
    change execQueueEnable q s = _
    simp [execQueueEnable, howner, htransport, hup, hready]
  · exact fun s q hpcie => if_pos hpcie
  · exact fun s q hpcie henable hready hdrained => if_pos ⟨hpcie, henable, hready, hdrained⟩

/-! ### Register writes (R10, R18, R71) -/

/-- A write inside the window of a queue pair reaches its register. -/
theorem execRegisterWrite_queue {s : State} {q k : Nat} (v : BitVec 32) (hup : s.mbx.pcieUp = true) (hq : q < 16) (hk : k < 0x40) (hk4 : k % 4 = 0) :
    execRegisterWrite (0x1100 + k + 0x40 * q) v s = s.writeQueue q k v := by
  have hdiv : (0x1100 + k + 0x40 * q - 0x1100) / 0x40 = q := by omega
  have hmod : (0x1100 + k + 0x40 * q - 0x1100) % 0x40 = k := by omega
  rw [execRegisterWrite, if_neg (by simp [hup]; omega), if_pos (by omega), hdiv, hmod]

theorem execRegisterWrite_of_down {s : State} (off : Nat) (v : BitVec 32) (hdown : s.mbx.pcieUp = false) : execRegisterWrite off v s = .next s :=
  if_pos (.inl hdown)

/-- A write to a ring base that nothing allows changes nothing. -/
theorem execRegisterWrite_base_of_refused {s : State} {q k : Nat} (v : BitVec 32) (hq : q < 16) (hk : k = 0 ∨ k = 4 ∨ k = 8 ∨ k = 0xC)
    (hrefused : s.isPcieQ q = false ∨ (s.qp q).ready = true) : execRegisterWrite (0x1100 + k + 0x40 * q) v s = .next s := by
  cases hup : s.mbx.pcieUp with
  | false => exact execRegisterWrite_of_down _ v hup
  | true =>
    rw [execRegisterWrite_queue v hup hq (by omega) (by omega)]
    have hnot : ¬(s.isPcieQ q = true ∧ (s.qp q).ready = false) := by
      rintro ⟨hpcie, hready⟩
      obtain h | h := hrefused
      · exact absurd (hpcie.symm.trans h) nofun
      · exact absurd (hready.symm.trans h) nofun
    obtain rfl | rfl | rfl | rfl := hk <;> exact congrArg _ (if_neg hnot)

theorem State.readReg_of_unallocated (s : State) {off : Nat} (hoff : 0xB0000 ≤ off) : s.readReg off = 0 := by
  obtain ⟨n, hn⟩ : ∃ n, off / 0x10000 = n + 11 := ⟨off / 0x10000 - 11, by omega⟩
  simp [State.readReg, hn]

/-- Settles O5: the window of each register from its offset, then the branch of the write. -/
theorem registerAccess : Obligations.RegisterAccess := by
  unfold Obligations.RegisterAccess
  refine ⟨?_, ?_, ?_, ?_, ?_, ?_, ?_, ?_, fun s off => s.readReg_of_unallocated⟩
  · intro s q v hup hq hpcie hready
    have hbase : ∀ f : QPair → QPair, (if s.isPcieQ q = true ∧ (s.qp q).ready = false then s.updQp q f else s) = s.updQp q f :=
      fun f => if_pos ⟨hpcie, hready⟩
    exact ⟨(execRegisterWrite_queue (k := 0) v hup hq (by decide) rfl).trans (congrArg _ (hbase _)),
      (execRegisterWrite_queue (k := 4) v hup hq (by decide) rfl).trans (congrArg _ (hbase _)),
      (execRegisterWrite_queue (k := 8) v hup hq (by decide) rfl).trans (congrArg _ (hbase _)),
      (execRegisterWrite_queue (k := 0xC) v hup hq (by decide) rfl).trans (congrArg _ (hbase _))⟩
  · intro s q v hq hrefused
    exact ⟨execRegisterWrite_base_of_refused (k := 0) v hq (by simp) hrefused, execRegisterWrite_base_of_refused (k := 4) v hq (by simp) hrefused,
      execRegisterWrite_base_of_refused (k := 8) v hq (by simp) hrefused, execRegisterWrite_base_of_refused (k := 0xC) v hq (by simp) hrefused⟩
  · intro s q v hup hq hpcie henable
    exact (execRegisterWrite_queue (k := 0x10) v hup hq (by decide) rfl).trans ((if_pos hpcie).trans (if_pos henable))
  · intro s q v hq hpcie
    cases hup : s.mbx.pcieUp with
    | false => exact execRegisterWrite_of_down _ v hup
    | true => exact (execRegisterWrite_queue (k := 0x10) v hup hq (by decide) rfl).trans (if_neg (by simp [hpcie]))
  · intro s q v hup hq hbit
    exact (execRegisterWrite_queue (k := 0x1C) v hup hq (by decide) rfl).trans (congrArg _ (if_pos hbit))
  · intro s v hup hbit
    change execRegisterWrite 0x20000 v s = _
    rw [execRegisterWrite, if_neg (by simp [hup]), if_neg (by simp), if_pos ⟨rfl, hbit⟩]
  · intro s n v hup hn hbit
    change execRegisterWrite (0x50000 + 0x100 * n) v s = _
    have hindex : (0x50000 + 0x100 * n - 0x50000) / 0x100 = n := by omega
    rw [execRegisterWrite, if_neg (by simp [hup]; omega), if_neg (by omega), if_neg (by omega), if_pos ⟨by omega, by omega, hbit⟩, hindex]
  · intro s off v hnone
    change execRegisterWrite off v s = _
    obtain hdown | hoff := hnone
    · exact execRegisterWrite_of_down off v hdown
    · cases hup : s.mbx.pcieUp with
      | false => exact execRegisterWrite_of_down off v hup
      | true =>
        rw [execRegisterWrite]
        split_ifs with _ hqueue himport hcan
        · rfl
        · omega
        · omega
        · omega
        · rfl

end Sys2Proof.Machine

namespace Sys2Proof.Machine

/-!
PROOF. Ethernet hosts and host loss (R39 to R44), the PCIe function, fetching, completions and system time (R37, R38, R45 to R62).
-/

/-! ### What raising an event keeps (R69) -/

/-- A property that queueing an event for an entry and delivering it keep is kept by raising one. -/
theorem State.raise_induct {P : State → Prop}
    (hqueue : ∀ (t : State) (k : Nat) (e : Event), P t →
      P (({ t with mbx := { t.mbx with live := t.mbx.live.set k (queueEvent e (t.mbx.live.getD k {})) } } : State).deliver k))
    {s : State} (h : P s) (area code object : Nat) : P (s.raise area code object) := by
  unfold State.raise
  generalize s.mbx.hosts.keys = keys
  generalize hevent : (⟨area, code, object % 2 ^ 32, s.sysTime⟩ : Event) = e
  clear hevent
  dsimp only
  induction keys generalizing s with
  | nil => exact h
  | cons k keys ih => exact ih (hqueue s k e h)

/-- A report of a source on no object of a reaction keeps what raising an event and writing the collector keep (R522, R524). -/
theorem State.report_induct {P : State → Prop} {source : Nat} {row : SourceRow} (hrow : sourceRow source = some row) (hkind : row.kind = 0 ∨ 7 ≤ row.kind)
    (hraise : ∀ (t : State) (a c o : Nat), P t → P (t.raise a c o)) (hflt : ∀ (t : State) (f : Flt), P t → P { t with flt := f })
    {s : State} (h : P s) (o : Nat) : P (s.report source o) := by
  have hhold : ∀ (t : State) (r : Nat), t.applyHold row.kind o r source = t := by
    intro t r
    obtain ⟨k, hk⟩ : ∃ k, row.kind = k := ⟨_, rfl⟩
    rw [hk] at hkind ⊢
    obtain rfl | hkind := hkind
    · simp [State.applyHold, State.applyHold0]
    · obtain ⟨k, rfl⟩ := Nat.exists_eq_add_of_le' hkind
      simp [State.applyHold, State.applyHold0]
  have hdegraded : ∀ t : State, P t → P t.noteDegraded := by
    intro t ht
    simp only [State.noteDegraded]
    split
    · exact ht
    · exact hraise _ _ _ _ (hflt _ _ ht)
  simp only [State.report, State.reportWith, hrow, hhold]
  split
  · exact h
  · refine hdegraded _ ?_
    split_ifs <;> apply_rules [hraise, hflt] <;> exact h

/-! ### Events and the commands of an entry -/

theorem queueEvent_connected (e : Event) (l : HostLive) : (queueEvent e l).connected = l.connected := by
  unfold queueEvent
  split_ifs <;> rfl

theorem State.deliver_connected (s : State) (k e : Nat) : ((s.deliver k).hostLive e).connected = (s.hostLive e).connected := by
  simp only [State.hostLive, State.deliver, Tab.getD_set]
  split
  · rename_i h
    rw [h]
  · rfl

theorem State.raise_connected (s : State) (a c o e : Nat) : ((s.raise a c o).hostLive e).connected = (s.hostLive e).connected := by
  refine State.raise_induct (P := fun t => (t.hostLive e).connected = (s.hostLive e).connected) (fun t k v h => ?_) rfl a c o
  rw [State.deliver_connected, ← h]
  simp only [State.hostLive, Tab.getD_set]
  split
  · rename_i h
    rw [h, queueEvent_connected]
  · rfl

/-- A delivery ends waits and changes no command otherwise: each command in flight is one that was, or one that was and is now done (R69). -/
theorem mem_deliverTo {k : Nat} {c : InFlight} {l : List InFlight} {es : List Event} (h : c ∈ (deliverTo k l es).1) :
    c ∈ l ∨ ∃ d ∈ l, c.phase = .done ∧ c.entry = d.entry ∧ c.discard = d.discard := by
  induction l generalizing es with
  | nil => simp [deliverTo] at h
  | cons d l ih =>
    have hrest : ∀ es', c ∈ (deliverTo k l es').1 → c ∈ d :: l ∨ ∃ d' ∈ d :: l, c.phase = .done ∧ c.entry = d'.entry ∧ c.discard = d'.discard := by
      intro es' hc
      obtain hc | ⟨d', hd', hsame⟩ := ih hc
      · exact .inl (List.mem_cons_of_mem _ hc)
      · exact .inr ⟨d', List.mem_cons_of_mem _ hd', hsame⟩
    simp only [deliverTo] at h
    split at h
    · split at h
      · obtain rfl | h := List.mem_cons.mp h
        · exact .inr ⟨d, List.mem_cons_self, rfl, rfl, rfl⟩
        · exact hrest _ h
      · obtain rfl | h := List.mem_cons.mp h
        · exact .inl List.mem_cons_self
        · exact hrest _ h
    · obtain rfl | h := List.mem_cons.mp h
      · exact .inl List.mem_cons_self
      · exact hrest _ h

/-- Every command in flight of an entry has started, and its completion is discarded (R44). -/
def State.discards (s : State) (e : Nat) : Prop := ∀ c ∈ s.mbx.inflight, c.entry = e → c.phase ≠ .waiting ∧ c.discard = true

theorem State.discards_raise {s : State} {e : Nat} (h : s.discards e) (a c o : Nat) : (s.raise a c o).discards e := by
  refine State.raise_induct (P := fun t => t.discards e) (fun t k v ht x hx hentry => ?_) h a c o
  obtain hx | ⟨d, hd, hphase, hdentry, hdiscard⟩ := mem_deliverTo hx
  · exact ht x hx hentry
  · rw [hphase, hdiscard]
    exact ⟨nofun, (ht d hd (hdentry ▸ hentry)).2⟩

/-! ### Host loss (R44) -/

theorem sourceRow_hostLost : sourceRow SRC_HOST_LOST = some ⟨32, 8, 0, 1⟩ := rfl

theorem State.foldl_report_hostLost {P : State → Prop} (hraise : ∀ (t : State) (a c o : Nat), P t → P (t.raise a c o))
    (hflt : ∀ (t : State) (f : Flt), P t → P { t with flt := f }) (qs : List Nat) {s : State} (h : P s) :
    P (qs.foldl (fun u q => u.report SRC_HOST_LOST q) s) := by
  induction qs generalizing s with
  | nil => exact h
  | cons q qs ih => exact ih (State.report_induct sourceRow_hostLost (.inr (by decide)) hraise hflt h q)

theorem State.qp_foldl_emptied (qs : List Nat) (s : State) (q : Nat) :
    (qs.foldl (fun u q => u.updQp q QPair.emptied) s).qp q = if q ∈ qs then (s.qp q).emptied else s.qp q := by
  induction qs generalizing s with
  | nil => rfl
  | cons p qs ih =>
    rw [List.foldl_cons, ih]
    by_cases hp : q = p
    · subst hp
      simp only [State.qp_updQp, List.mem_cons, true_or, if_true]
      split <;> rfl
    · simp [State.qp_updQp_of_ne _ _ hp, hp]

theorem State.inflight_foldl_emptied (qs : List Nat) (s : State) : (qs.foldl (fun u q => u.updQp q QPair.emptied) s).mbx.inflight = s.mbx.inflight :=
  foldl_leaves (fun t : State => t.mbx.inflight) (by exact fun _ _ => rfl) qs s

/-- A command that host loss leaves in flight has started, and its completion is discarded. -/
theorem loseCmd_eq_some {c d : InFlight} (h : loseCmd c = some d) : d.phase ≠ .waiting ∧ d.discard = true := by
  unfold loseCmd at h
  split_ifs at h with hwaiting hwait
  obtain rfl := Option.some.inj h
  exact ⟨hwaiting, rfl⟩

/-- The queue pairs of a mask. -/
def queuesOf (mask : BitVec 16) : List Nat := (List.range 16).filter fun q => mask.getLsbD q

/-- The state that host loss leaves before it is reported. -/
def State.hostGone (s : State) (e : Nat) (mask : BitVec 16) : State :=
  let t := { s with mbx := { s.mbx with
    inflight := s.mbx.inflight.filterMap fun (c : InFlight) => if c.entry = e then loseCmd c else some c } }
  let t := (queuesOf mask).foldl (fun u q => u.updQp q QPair.emptied) t
  let t := (t.updLive e fun l => { l with connected := false, port := 0, suite := none, loseAfter := [] }).dropKeys (768 + 2 * e)
  { t with pt := { t.pt with subs := t.pt.subs.keep fun k _ => k / 16 != e } }

theorem State.loseHostOf_eq (s : State) (e : Nat) (mask : BitVec 16) :
    s.loseHostOf e mask = (queuesOf mask).foldl (fun u q => u.report SRC_HOST_LOST q) (s.hostGone e mask) := rfl

theorem State.connected_loseHostOf (s : State) (e : Nat) (mask : BitVec 16) : ((s.loseHostOf e mask).hostLive e).connected = false := by
  rw [State.loseHostOf_eq]
  refine State.foldl_report_hostLost (P := fun t => (t.hostLive e).connected = false) (fun t a c o h => (t.raise_connected a c o e).trans h)
    (fun _ _ h => h) _ ?_
  simp [State.hostGone, State.dropKeys, State.hostLive, State.updLive]

theorem State.qp_loseHostOf (s : State) (e : Nat) (mask : BitVec 16) {q : Nat} (hq : q < 16) (hmask : mask.getLsbD q = true) :
    (s.loseHostOf e mask).qp q = (s.qp q).emptied := by
  have hmem : q ∈ queuesOf mask := List.mem_filter.mpr ⟨List.mem_range.mpr hq, hmask⟩
  have hqp : (s.loseHostOf e mask).mbx.qp = (s.hostGone e mask).mbx.qp :=
    foldl_leaves (fun t : State => t.mbx.qp) (by exact fun t q => t.report_mbx_qp ..) _ _
  have hgone := State.qp_foldl_emptied (queuesOf mask)
    { s with mbx := { s.mbx with inflight := s.mbx.inflight.filterMap fun (c : InFlight) => if c.entry = e then loseCmd c else some c } } q
  rw [if_pos hmem] at hgone
  exact (congrArg (fun t : Tab QPair => t.getD q {}) hqp).trans hgone

theorem State.discards_loseHostOf (s : State) (e : Nat) (mask : BitVec 16) : (s.loseHostOf e mask).discards e := by
  rw [State.loseHostOf_eq]
  refine State.foldl_report_hostLost (P := fun t => t.discards e) (fun t a c o h => State.discards_raise h a c o) (fun _ _ h => h) _ ?_
  intro c hc hentry
  have hfold := State.inflight_foldl_emptied (queuesOf mask)
    { s with mbx := { s.mbx with inflight := s.mbx.inflight.filterMap fun (c : InFlight) => if c.entry = e then loseCmd c else some c } }
  obtain ⟨d, _, hd⟩ := List.mem_filterMap.mp (hfold ▸ hc : c ∈ s.mbx.inflight.filterMap _)
  split_ifs at hd with hde
  · exact loseCmd_eq_some hd
  · obtain rfl := Option.some.inj hd
    exact absurd hentry hde

/-! ### Sessions of Ethernet hosts (R39 to R44) -/

theorem TlsOffer.chosen_eq_some {o : TlsOffer} {a : TlsSuite} {b : TlsGroup} {g : TlsSig} (h : o.chosen = some (a, b, g)) :
    o.tls13 = true ∧ o.certificate = true ∧ a ∈ o.suites ∧ a ∈ hostSuites ∧ b ∈ o.groups ∧ b ∈ hostGroups ∧ g ∈ o.sigs ∧ g ∈ hostSigs := by
  unfold TlsOffer.chosen at h
  split at h
  · rename_i a' b' g' ha hb hg
    split_ifs at h with hboth
    obtain ⟨rfl, rfl, rfl⟩ : a' = a ∧ b' = b ∧ g' = g := by simpa using h
    have hfound : ∀ {α : Type} [BEq α] [LawfulBEq α] {l m : List α} {x : α}, l.find? m.contains = some x → x ∈ l ∧ x ∈ m := fun hx =>
      ⟨List.mem_of_find?_eq_some hx, List.contains_iff_mem.mp (List.find?_some hx)⟩
    obtain ⟨htls, hcert⟩ := Bool.and_eq_true _ _ ▸ hboth
    exact ⟨htls, hcert, (hfound ha).1, (hfound ha).2, (hfound hb).1, (hfound hb).2, hfound hg⟩
  · exact absurd h nofun

theorem execTlsHandshake_of_refused {s : State} {port : Nat} {hash : List Byte} {o : TlsOffer}
    (h : s.listens port = false ∨ o.tcpPort ≠ s.pn PAR_HOST_TLS_PORT ∨ o.chosen = none ∨ s.admits port hash = none) :
    execTlsHandshake port hash o s = .next s := by
  unfold execTlsHandshake
  split
  · rename_i hopen
    split
    · simp_all
    · rfl
  · rfl

theorem State.byteAt_rejection (s : State) (e q : Nat) (b : Bool) (d : Desc) : byteAt (s.rejection e q b d) 3 = ST_QUEUE_FULL := by
  simp [State.rejection, completionHead, pack, leBytes, byteAt]
  decide

/-- Settles O6: each row under the condition of its branch, and host loss by what it does to the entry, its queue pairs and its commands. -/
theorem ethernetHosts : Obligations.EthernetHosts := by
  unfold Obligations.EthernetHosts
  refine ⟨⟨?_, ?_, ?_, ?_, ?_, fun _ _ _ => rfl, ?_, ?_, ?_, ?_, ?_, ?_, ?_, ?_, ?_⟩, ?_⟩
  · intro s port e hash o a b g hlisten hport hchosen hadmits
    change execTlsHandshake port hash o s = _
    simp [execTlsHandshake, hlisten, hport, hchosen, hadmits]
  · exact fun s port hash o h => execTlsHandshake_of_refused h
  · intro s port e a
    simp [State.openSession]
  · exact fun o a b g => TlsOffer.chosen_eq_some
  · intro s e q k l heth howner hk
    subst hk
    change execSubmit e q l s = _
    rw [execSubmit, if_pos heth]
    simp only [howner, if_true]
    rfl
  · intro s e q d l
    refine ⟨_, rfl, by simp, ?_, ?_, rfl⟩
    · intro b hb
      obtain rfl | hb := List.mem_cons.mp hb
      · exact s.byteAt_rejection ..
      · obtain ⟨_, _, rfl⟩ := List.mem_map.mp hb
        exact s.byteAt_rejection ..
    · simp [State.reject]
  · exact fun s e q n heth howner hle => (if_pos heth).trans (if_pos ⟨howner, hle⟩)
  · exact fun s e q n heth howner hlt => (if_pos heth).trans (if_neg fun h => absurd h.2 (Nat.not_le.mpr hlt))
  · exact fun s e heth => if_pos heth
  · exact fun s e heth => if_pos heth
  · exact fun s e heth => if_pos heth
  · exact fun s e heth hlate => if_pos ⟨heth, hlate⟩
  · exact fun s e heth hdue => if_pos ⟨heth, hdue⟩
  · exact fun s e heth hdue => if_pos ⟨heth, hdue⟩
  · exact fun s e => ⟨s.connected_loseHostOf e _, fun q hq hmask => s.qp_loseHostOf e _ hq hmask, s.discards_loseHostOf e _⟩

/-! ### Fetching, system time (R45, R49, R57 to R59) -/

/-- The command that a fetch of queue pair `q` brings into flight. -/
def State.fetched (s : State) (q e : Nat) (dma : Desc) : InFlight :=
  { uid := s.mbx.nextUid, q := q, entry := e, desc := s.takenDesc q e dma,
    ordered := (s.takenDesc q e dma).ordered || (s.qp q).lastLink.isSome, linked := (s.qp q).lastLink, linkFailed := (s.qp q).linkStatus != ST_OK,
    phase := if (s.acceptStatus q e (s.takenDesc q e dma)).isSome then .done else .waiting,
    status := (s.acceptStatus q e (s.takenDesc q e dma)).getD 0, result := padTo 16 [] }

theorem State.noteFull_inflight (s : State) (q : Nat) : (s.noteFull q).mbx.inflight = s.mbx.inflight := by
  unfold State.noteFull
  split <;> rfl

theorem State.noteFull_eq (s : State) (q : Nat) : s.noteFull q = { s with mbx := (s.noteFull q).mbx } := by
  unfold State.noteFull
  split <;> rfl

theorem execDescriptorFetch_of_turn {s : State} {q cls e : Nat} (dma : Desc) (hturn : s.nextTurn = some (q, cls)) (howner : s.ownerOf q = some e) :
    ∃ t : State, execDescriptorFetch dma s = .next t ∧ t.mbx.inflight = s.mbx.inflight ++ [s.fetched q e dma] ∧ t = { s with mbx := t.mbx } := by
  refine ⟨_, by simp only [execDescriptorFetch, hturn, howner]; rfl, State.noteFull_inflight .., ?_⟩
  exact State.noteFull_eq ..

theorem State.ptpSynced_of_delay {s : State} {port : Nat} {x d : Int} (hdelay : s.mbx.pathDelay = some d) :
    (s.ptpSynced port x).mbx.sysOffset = s.mbx.sysOffset - (x - d) ∧ (s.ptpSynced port x).mbx.holdover = false ∧
      (s.ptpSynced port x).mbx.timeLocked = true ∧ (s.ptpSynced port x).out = Emit.delayReq port s.mbx.ptpSeq :: s.out ∧ (s.ptpSynced port x).now = s.now := by
  simp [State.ptpSynced, hdelay, State.discipline, State.drawInt, State.emit]

theorem State.ptpDelayed_sysOffset {s : State} (d t3 t4 : Int) (hdelay : s.mbx.pathDelay.isSome = true) :
    (s.ptpDelayed d t3 t4).mbx.sysOffset = s.mbx.sysOffset := by
  simp [State.ptpDelayed, hdelay]

theorem State.ptpHere_of_eq {s : State} (hdomain : s.pv PAR_PTP_DOMAIN = 0) (htransport : s.pv PAR_PTP_TRANSPORT = 0) : s.ptpHere 0 0 = true := by
  simp [State.ptpHere, hdomain, htransport]

/-- Settles O7: the rows of the PCIe function, of fetching and posting, and of the messages of the selected master. -/
theorem pcieAndTime : Obligations.PcieAndTime := by
  unfold Obligations.PcieAndTime
  refine ⟨?_, ?_, ?_, ?_, ?_, ?_, ?_, ?_, ?_, ?_, ?_, ?_, fun _ => rfl⟩
  · intro s e hentry hconn
    have hlost : s.losePcie = s.loseHost e := by simp [State.losePcie, hentry, hconn]
    exact ⟨by rw [← hlost]; rfl, congrArg _ hlost⟩
  · intro s e hentry
    change execPerstN true s = _
    have hentry' : ({ s with mbx := { s.mbx with pcieUp := true }, pins := { s.pins with perstN := true } } : State).pcieEntry = some e := hentry
    simp [execPerstN, hentry']
  · intro s e hentry hconn
    have hlost : ({ s with pins := { s.pins with perstN := false } } : State).losePcie = { s with pins := { s.pins with perstN := false } } := by
      have hentry' : ({ s with pins := { s.pins with perstN := false } } : State).pcieEntry = some e := hentry
      have hconn' : (({ s with pins := { s.pins with perstN := false } } : State).hostLive e).connected = false := hconn
      simp [State.losePcie, hentry', hconn']
    change execPerstN false s = _
    simp [execPerstN, hlost]
  · intro s q cls e dma hturn howner
    obtain ⟨t, hrow, hinflight, hframe⟩ := execDescriptorFetch_of_turn dma hturn howner
    refine ⟨t, s.fetched q e dma, hrow, hinflight, rfl, rfl, rfl, ?_, ?_, hframe⟩
    · cases hst : s.acceptStatus q e (s.takenDesc q e dma) <;> simp [State.fetched, hst]
    · intro st hst
      simp only [State.fetched] at hst ⊢
      simp [hst]
  · intro s dma hturn
    change execDescriptorFetch dma s = _
    simp [execDescriptorFetch, hturn]
  · intro s q tag c hfind
    change execCompletionPost q tag s = _
    simp only [execCompletionPost, hfind]
  · intro s q t hsince hdue
    refine ⟨fun hen => ?_, fun hen => ?_⟩
    · change execIrqCoalesceExpiry q s = _
      simp [execIrqCoalesceExpiry, hsince, hdue, hen]
    · change execIrqCoalesceExpiry q s = _
      simp [execIrqCoalesceExpiry, hsince, hdue, hen]
  · intro s port c p n t1 d hport hmaster hdomain htransport hdelay
    refine ⟨s.ptpSynced port (s.stamp - t1), ?_, State.ptpSynced_of_delay hdelay⟩
    exact (if_pos hport).trans (if_pos ⟨State.ptpHere_of_eq hdomain htransport, hmaster⟩)
  · intro s port c p n t1 hport hmaster hdomain htransport
    exact (if_pos hport).trans (if_pos ⟨State.ptpHere_of_eq hdomain htransport, hmaster⟩)
  · intro s port c p n t1 t2 hport hmaster hdomain htransport hsync
    change execPtpMessage port (.followUp c p n t1 0 0) s = _
    simp [execPtpMessage, hport, hsync, hmaster, State.ptpHere_of_eq hdomain htransport]
  · intro s port c p n t3 t4 d hport hmaster hdomain htransport hreq
    refine ⟨s.ptpDelayed d t3 t4, ?_, rfl, rfl, State.ptpDelayed_sysOffset d t3 t4⟩
    change execPtpMessage port (.delayResp c p n t4 0 0) s = _
    simp [execPtpMessage, hport, hreq, hmaster, State.ptpHere_of_eq hdomain htransport]
  · exact fun s port m h2 h3 => if_neg (not_or.mpr ⟨h2, h3⟩)

end Sys2Proof.Machine

namespace Sys2Proof.Machine

/-!
PROOF. Parameters and user images (chapter 03), and the fields of packed bytes (R8), which the commands' results are read by.
-/

/-! ### Packed bytes (R8) -/

@[simp] theorem length_leBytes (n v : Nat) : (leBytes n v).length = n := by
  induction n generalizing v with
  | zero => rfl
  | succ n ih => simp [leBytes, ih]

theorem leNat_leBytes (n v : Nat) : leNat (leBytes n v) = v % 256 ^ n := by
  induction n generalizing v with
  | zero => simp [leBytes, leNat, Nat.mod_one]
  | succ n ih =>
    rw [leBytes, leNat, ih, pow_succ', Nat.mod_mul]
    simp

theorem pack_append (l m : List (Nat × Nat)) : pack (l ++ m) = pack l ++ pack m := List.flatMap_append

@[simp] theorem length_pack (l : List (Nat × Nat)) : (pack l).length = (l.map Prod.fst).sum := by
  simp [pack, List.length_flatMap]

/-- A field of packed bytes, read at the offset that the fields before it give. -/
theorem fld_pack_append (pre post : List (Nat × Nat)) (rest : List Byte) (n v : Nat) {off : Nat} (hoff : (pre.map Prod.fst).sum = off) :
    fld (pack (pre ++ (n, v) :: post) ++ rest) off n = v % 256 ^ n := by
  have hcons : pack ((n, v) :: post) = leBytes n v ++ pack post := List.flatMap_cons
  rw [fld, pack_append, hcons, ← hoff, ← length_pack, List.append_assoc, List.append_assoc, List.drop_left,
    List.take_left' (length_leBytes n v), leNat_leBytes]

theorem fld_pack (pre post : List (Nat × Nat)) (n v : Nat) {off : Nat} (hoff : (pre.map Prod.fst).sum = off) :
    fld (pack (pre ++ (n, v) :: post)) off n = v % 256 ^ n := by
  simpa using fld_pack_append pre post [] n v hoff

/-! ### Reads (R87, R88) -/

/-- Settles O8: the reads answer their records, and the layers are the branches of `parLayer`. -/
theorem parameterReads : Obligations.ParameterReads := by
  unfold Obligations.ParameterReads
  refine ⟨?_, ?_, ?_, ?_, ?_⟩
  · intro s q tag c hc h1 h2 h3 h4 h5
    exact startCommand_eq_of_starts hc (if_neg (by omega))
  · intro s q tag c hc h1 h2 h3 h4
    exact startCommand_eq_of_starts hc (if_neg (by omega))
  · intro s layer id hnone
    simp [State.parLayer, hnone]
  · intro s id e he
    simp [State.parLayer, he]
  · intro s id e v he hlive
    refine ⟨by simp [State.parLayer, he, hlive], fun hisland happly => ?_⟩
    simp [State.parLayer, he, hlive, hisland, happly]

/-! ### PAR_SET (R76, R77, R89) -/

@[simp] theorem State.unitRuns_start (s : State) (u id : Nat) : (s.start u).unitRuns id = s.unitRuns id := rfl
@[simp] theorem State.islandRefuses_start (s : State) (u id : Nat) : (s.start u).islandRefuses id = s.islandRefuses id := rfl

theorem parSet_of_entry {c : InFlight} {s : State} {e : ParEntry} (he : parEntry (c.desc.u 32 2) = some e) (hop : c.desc.u 34 1 ≤ 1) : parSet c s =
    if e.readOnly || e.legal || e.safety then s.fail c.uid ST_DENIED
    else if c.q ≠ PARTNER_Q ∧ e.roles &&& (s.host c.entry).roles = 0 then s.fail c.uid ST_DENIED
    else if s.isStandby ∧ ¬(e.pairLocal || e.isIsland) then s.fail c.uid ST_NOT_ACTIVE
    else if c.desc.u 34 1 = 0 ∧ ¬(e.min ≤ containerVal e.type c.desc ∧ containerVal e.type c.desc ≤ e.max) then s.fail c.uid ST_BAD_PARAM
    else if c.desc.u 34 1 = 1 ∧ e.isIsland then s.fail c.uid ST_BAD_PARAM
    else if e.apply = 2 ∧ s.unitRuns (c.desc.u 32 2) then s.fail c.uid ST_BUSY
    else if e.isIsland then
      match s.islandRefuses (c.desc.u 32 2) with
      | some st => s.fail c.uid st
      | none => ({ s with par := { s.par with islandWait := s.par.islandWait ++
          [(c.uid, c.desc.u 32 2, containerVal e.type c.desc, s.now + 2 * sec)] } } : State).askHoldup true (.parIsland c.uid)
    else parSetLive c e s := by
  simp only [parSet, he, if_neg (Nat.not_lt.mpr hop)] <;> rfl

/-- Settles O9: the checks of R89 in their order, each clause the first that fails, and then the live value or the island's wait. -/
theorem parameterSet : Obligations.ParameterSet := by
  unfold Obligations.ParameterSet
  intro s q tag c hc
  refine ⟨fun hnone => startCommand_eq_of_starts hc (by simp [parSet, hnone]), fun e he hop => ⟨?_, ?_, ?_, ?_, ?_, ?_, ?_⟩⟩ <;>
    refine fun hlocked => ?_
  · exact startCommand_eq_of_starts hc ((parSet_of_entry he hop).trans (if_pos hlocked))
  · intro hq hroles
    exact startCommand_eq_of_starts hc ((parSet_of_entry he hop).trans (by simp [hlocked, hq, hroles]))
  · intro hroles hstandby hrange hisland happly
    refine startCommand_eq_of_starts hc ((parSet_of_entry he hop).trans ?_)
    have hactive : ¬(s.isStandby = true ∧ e.pairLocal = false) := fun h => absurd ((hstandby h.1).symm.trans h.2) nofun
    have hin : ¬(c.desc.u 34 1 = 0 ∧ ¬(e.min ≤ containerVal e.type c.desc ∧ containerVal e.type c.desc ≤ e.max)) := fun h => h.2 (hrange h.1)
    rw [if_neg (by simp [hlocked]), if_neg fun h => hroles h.2, if_neg (by simpa [hisland] using hactive), if_neg hin,
      if_neg (by simp [hisland]), if_neg fun h => happly h.1, if_neg (by simp [hisland])]
    simp only [parSetLive, if_neg happly]
    rfl
  · intro hroles hstandby hlocal hisland
    refine startCommand_eq_of_starts hc ((parSet_of_entry he hop).trans ?_)
    rw [if_neg (by simp [hlocked]), if_neg fun h => hroles h.2, if_pos ⟨hstandby, by simp [hlocal, hisland]⟩]
  · intro hroles hstandby hset hout
    have hrange : ¬(e.min ≤ containerVal e.type c.desc ∧ containerVal e.type c.desc ≤ e.max) := by omega
    refine startCommand_eq_of_starts hc ((parSet_of_entry he hop).trans ?_)
    rw [if_neg (by simp [hlocked]), if_neg fun h => hroles h.2, if_neg (by simp [hstandby]), if_pos ⟨hset, hrange⟩]
  · intro hroles hstandby hclear hisland happly hruns
    refine startCommand_eq_of_starts hc ((parSet_of_entry he hop).trans ?_)
    rw [if_neg (by simp [hlocked]), if_neg fun h => hroles h.2, if_neg (by simp [hstandby]), if_neg (by simp [hclear]), if_neg (by simp [hisland]),
      if_pos ⟨happly, hruns⟩]
  · intro hroles hset hisland happly hmin hmax hfree
    refine startCommand_eq_of_starts hc ((parSet_of_entry he hop).trans ?_)
    rw [if_neg (by simp [hlocked]), if_neg fun h => hroles h.2, if_neg (by simp [hisland]), if_neg fun h => h.2 ⟨hmin, hmax⟩, if_neg (by simp [hset]),
      if_neg fun h => happly h.1, if_pos hisland]
    simp [hfree]

/-! ### NV_STORE, NV_SELECT, NV_COMMIT and NV_STATUS (R90 to R96) -/

@[simp] theorem State.slot_start (s : State) (u n : Nat) : (s.start u).slot n = s.slot n := rfl
@[simp] theorem State.storeTarget_start (s : State) (u : Nat) : (s.start u).storeTarget = s.storeTarget := rfl

theorem nvStatus_answer (c : InFlight) (s : State) : ∃ r, nvStatus c s = s.answer c r [] ∧ r.length = 16 ∧
    fld r 0 1 = (match s.par.active with | some n => n % 256 | none => 0xFF) ∧ fld r 1 1 = s.par.slotA.state % 256 ∧
    fld r 2 1 = s.par.slotB.state % 256 ∧ fld r 4 4 = (match s.par.active with | some n => (s.slot n).seq % 2 ^ 32 | none => 0) := by
  refine ⟨_, rfl, by simp, ?_, ?_, ?_, ?_⟩
  · exact (fld_pack [] _ 1 _ rfl).trans (by cases s.par.active <;> rfl)
  · exact fld_pack [(1, _)] _ 1 _ rfl
  · exact fld_pack [(1, _), (1, _)] _ 1 _ rfl
  · exact (fld_pack [(1, _), (1, _), (1, _), (1, _)] _ 4 _ rfl).trans (by cases s.par.active <;> rfl)

/-- Settles O10: each command's branch, and a beginning that writes the operation alone. -/
theorem imageCommands : Obligations.ImageCommands := by
  unfold Obligations.ImageCommands
  intro s q tag c
  refine ⟨?_, ?_, ?_, ?_, ?_, ?_, ?_, ?_, ?_, ?_, ?_, fun _ _ _ _ => ⟨rfl, rfl, rfl⟩⟩
  · exact fun hc hidle => startCommand_eq_of_starts hc (by simp [nvStore, hidle])
  · exact fun hc hbusy => startCommand_eq_of_starts hc (by simp [nvStore, hbusy])
  · intro hc hidle hrange hactive hcommitted
    exact startCommand_eq_of_starts hc (by simp [nvSelect, hidle, Nat.not_lt.mpr hrange, hactive, hcommitted])
  · exact fun hc hidle hrange hactive => startCommand_eq_of_starts hc (by simp [nvSelect, hidle, Nat.not_lt.mpr hrange, hactive])
  · exact fun n hc hidle hactive hopen => startCommand_eq_of_starts hc (by simp [nvCommit, hidle, hactive, hopen])
  · exact fun hc hbusy => startCommand_eq_of_starts hc (by simp [nvSelect, hbusy])
  · intro hc hidle hactive hbad
    refine startCommand_eq_of_starts hc ?_
    by_cases hrange : 1 < c.desc.u 32 1
    · simp [nvSelect, hidle, hrange]
    · simp [nvSelect, hidle, hrange, hactive, hbad.resolve_left hrange]
  · exact fun hc hbusy => startCommand_eq_of_starts hc (by simp [nvCommit, hbusy])
  · exact fun n hc hidle hactive hcommitted => startCommand_eq_of_starts hc (by simp [nvCommit, hidle, hactive, hcommitted])
  · exact fun hc hidle hactive => startCommand_eq_of_starts hc (by simp [nvCommit, hidle, hactive])
  · intro hc
    obtain ⟨r, hr, hfields⟩ := nvStatus_answer c (s.start c.uid)
    exact ⟨r, startCommand_eq_of_starts hc hr, hfields⟩

/-! ### Slots (R82 to R85) -/

theorem State.slot_setSlot (s : State) {n m : Nat} (hn : n ≤ 1) (hm : m ≤ 1) (x : Slot) : (s.setSlot n x).slot m = if m = n then x else s.slot m := by
  obtain rfl | rfl := Nat.le_one_iff_eq_zero_or_eq_one.mp hn <;> obtain rfl | rfl := Nat.le_one_iff_eq_zero_or_eq_one.mp hm <;> rfl

theorem State.slot_setSlot_self (s : State) (n : Nat) (x : Slot) : (s.setSlot n x).slot n = x := by
  unfold State.setSlot State.slot
  split <;> simp_all

theorem State.slot_setSlot_other (s : State) {n : Nat} (hn : n ≤ 1) (x : Slot) : (s.setSlot n x).slot (1 - n) = s.slot (1 - n) := by
  rw [State.slot_setSlot s hn (Nat.sub_le 1 n), if_neg (by omega)]

/-- Writing a slot writes nothing else. -/
theorem State.setSlot_eq (s : State) (n : Nat) (x : Slot) :
    s.setSlot n x = { s with par := { s.par with slotA := (s.setSlot n x).par.slotA, slotB := (s.setSlot n x).par.slotB } } := by
  unfold State.setSlot
  split <;> rfl

@[simp] theorem State.setSlot_active (s : State) (n : Nat) (x : Slot) : (s.setSlot n x).par.active = s.par.active := by
  unfold State.setSlot
  split <;> rfl

@[simp] theorem State.setSlot_live (s : State) (n : Nat) (x : Slot) : (s.setSlot n x).par.live = s.par.live := by
  unfold State.setSlot
  split <;> rfl

theorem State.eraseSlot_par (s : State) (n : Nat) :
    (s.eraseSlot n).par = (s.setSlot n { (s.slot n).erased with erases := (s.slot n).erases + 1 }).par := by
  simp only [State.eraseSlot]
  split_ifs <;> simp

theorem State.slot_of_par_eq {s t : State} (h : t.par = s.par) (n : Nat) : t.slot n = s.slot n := by simp [State.slot, h]

theorem State.slot_eraseSlot (s : State) (n m : Nat) :
    (s.eraseSlot n).slot m = (s.setSlot n { (s.slot n).erased with erases := (s.slot n).erases + 1 }).slot m :=
  State.slot_of_par_eq (s.eraseSlot_par n) m

theorem Slot.intact_sealed (x : Slot) : x.sealed.intact = true := by
  simp only [Slot.intact, Bool.and_eq_true, beq_iff_eq]
  exact ⟨⟨rfl, rfl⟩, rfl⟩

theorem Slot.found_of_not_intact {x : Slot} (h : x.intact = false) : x.found.state = IMG_EMPTY := by
  unfold Slot.found
  split_ifs with hempty
  · simpa [h] using hempty
  · rfl

theorem State.intact_rewritten {s : State} {n : Nat} (h : (s.slot n).intact = true) : (s.rewritten n).intact = true := by
  simp only [Slot.intact, Bool.and_eq_true, beq_iff_eq] at h ⊢
  obtain ⟨⟨hmagic, hbody⟩, _⟩ := h
  exact ⟨⟨hmagic, hbody⟩, rfl⟩

/-- The slots after a select, of which one that was active and on trial is rejected (R94). -/
theorem State.selectSlot_spec {s : State} {n : Nat} {was : Option Nat} (hn : n ≤ 1) (hne : was ≠ some n) (hm : ∀ m, was = some m → m ≤ 1) :
    (s.selectSlot n was).slot n = s.rewritten n ∧ (s.selectSlot n was).par.active = some n ∧
      ∀ m, was = some m → (s.slot m).state = IMG_TRIAL ∨ (s.slot m).state = IMG_BOOTED → ((s.selectSlot n was).slot m).state = IMG_REJECTED := by
  have hslot : ∀ t : State, t.par = ({ ((s.eraseSlot n).setSlot n (s.rewritten n)).par with active := some n } : Par) →
      t.slot n = s.rewritten n ∧ ∀ m ≤ 1, m ≠ n → t.slot m = s.slot m := by
    intro t ht
    have hpar : ∀ m, t.slot m = ((s.eraseSlot n).setSlot n (s.rewritten n)).slot m := by
      intro m
      simp [State.slot, ht]
    refine ⟨(hpar n).trans (State.slot_setSlot_self ..), fun m hm1 hmn => ?_⟩
    rw [hpar, State.slot_setSlot _ hn hm1, if_neg hmn, State.slot_eraseSlot, State.slot_setSlot _ hn hm1, if_neg hmn]
  obtain ⟨hself, hother⟩ := hslot { (s.eraseSlot n).setSlot n (s.rewritten n) with
    par := { ((s.eraseSlot n).setSlot n (s.rewritten n)).par with active := some n } } rfl
  cases was with
  | none => exact ⟨hself, rfl, nofun⟩
  | some m =>
    have hm1 := hm m rfl
    have hmn : m ≠ n := fun h => hne (congrArg _ h)
    simp only [State.selectSlot, hother m hm1 hmn, Option.some.injEq]
    split_ifs with htrial
    · have hreject : ∀ (t : State) (a c o k : Nat), (t.raise a c o).slot k = t.slot k := fun t a c o k => State.slot_of_par_eq (t.raise_par a c o) k
      refine ⟨?_, ?_, ?_⟩
      · rw [hreject, State.slot_setSlot _ hm1 hn, if_neg (Ne.symm hmn)]
        exact hself
      · simp
      · rintro _ rfl _
        rw [hreject, State.slot_setSlot_self]
    · refine ⟨hself, rfl, ?_⟩
      rintro _ rfl h
      exact absurd h htrial

theorem bootProgramDone_of_booted {s : State} {n : Nat} (hn : n ≤ 1) (h : (s.slot n).state = IMG_BOOTED) :
    ((bootProgramDone n s).slot n).state = IMG_REJECTED ∧
      (bootProgramDone n s).par.active = if (s.slot (1 - n)).state = IMG_COMMITTED then some (1 - n) else none := by
  have hslot : ∀ k, (((s.setSlot n { s.slot n with state := IMG_REJECTED }).raise 0x02 0x0001 n).slot k) =
      (s.setSlot n { s.slot n with state := IMG_REJECTED }).slot k := State.slot_of_par_eq (State.raise_par ..)
  simp only [bootProgramDone, h, if_true]
  refine ⟨?_, ?_⟩
  · change (((s.setSlot n _).raise 0x02 0x0001 n).slot n).state = _
    rw [hslot, State.slot_setSlot_self]
  · rw [hslot, State.slot_setSlot_other _ hn]

/-! ### Failed and finished stores (R90) -/

theorem State.failNv_par (s : State) (op : NvOp) (st : Nat) : (s.failNv op st).par = { (if op.begun then
      { (s.setSlot op.target { (s.slot op.target).erased with records := [], tables := {} }).par with
        active := (s.setSlot op.target { (s.slot op.target).erased with records := [], tables := {} }).activeAfterFail op }
    else s.par) with op := none } := by
  simp only [State.failNv]
  split <;> rfl

theorem State.failNv_of_not_begun {s : State} {op : NvOp} (h : op.begun = false) (st : Nat) : (s.failNv op st).par = { s.par with op := none } := by
  simp [State.failNv_par, h]

theorem State.slot_failNv_of_begun {s : State} {op : NvOp} (h : op.begun = true) (st m : Nat) :
    (s.failNv op st).slot m = (s.setSlot op.target { (s.slot op.target).erased with records := [], tables := {} }).slot m := by
  simp [State.slot, State.failNv_par, h]

@[simp] theorem State.okForwarded_par (s : State) (c : InFlight) (r : List Byte) (off wait : Nat) (m : Option MirrorStore) :
    (s.okForwarded c r off wait m).par = s.par := by
  unfold State.okForwarded
  split <;> rfl

theorem State.finishStore_par (s : State) (op : NvOp) : (s.finishStore op).par =
    { (s.setSlot op.target { op.image.sealed with erases := (s.slot op.target).erases }).par with
      active := some op.target, op := none,
      live := s.par.live.keep fun id v => if op.kind = 4 then isPairLocal id else op.took.get? id != some v,
      serials := if op.kind = 4 then s.par.serials.set op.signer op.image.serial else s.par.serials } := by
  simp only [State.finishStore]
  rw [State.setSlot_eq]
  split <;> simp

theorem State.slot_finishStore (s : State) (op : NvOp) (m : Nat) :
    (s.finishStore op).slot m = (s.setSlot op.target { op.image.sealed with erases := (s.slot op.target).erases }).slot m := by
  simp [State.slot, State.finishStore_par]

/-! ### Segments (R90) -/

theorem execNvStoreSegment_begun {s : State} {op : NvOp} (hop : s.par.op = some op) (hkind : op.kind = 1 ∨ op.kind = 4)
    (hgrant : s.hasGrant .nvOp = true) (hbegun : op.begun = true) (verified : Bool) : execNvStoreSegment verified s =
    let t := ({ s with par := { s.par with op := some { op with left := op.left - 1 } } } : State).endWork .nvOp
    if verified = false then .next ((t.failNv { op with left := op.left - 1 } ST_NV_FAIL).report SRC_NV_FAIL 0)
    else if op.left - 1 = 0 then .next (t.finishStore { op with left := op.left - 1 })
    else .next (({ t with par := { t.par with op := some { op with left := op.left - 1, askAt := s.now } } } : State).askHoldup false .nvOp) := by
  simp only [execNvStoreSegment, hop, if_pos (And.intro hkind hgrant), if_pos hbegun]
  exact if_congr Iff.rfl rfl (if_congr Iff.rfl rfl rfl)

/-- The operation once its first segment is written: the snapshot taken, and the segments that are left. -/
def State.taken (s : State) (op : NvOp) : NvOp :=
  { op with begun := true, image := s.takeImage op, left := segmentsOf (s.takeImage op).records s.currentTables - 1, took := s.par.live, askAt := s.now }

theorem execNvStoreSegment_first {s : State} {op : NvOp} (hop : s.par.op = some op) (hkind : op.kind = 1 ∨ op.kind = 4)
    (hgrant : s.hasGrant .nvOp = true) (hbegun : op.begun = false) (hlong : 2 ≤ segmentsOf (s.takeImage op).records s.currentTables) :
    ∃ t : State, execNvStoreSegment true s = .next t ∧ t.par = { (s.eraseSlot op.target).par with op := some (s.taken op) } := by
  have hnow : (s.eraseSlot op.target).now = s.now := by
    simp only [State.eraseSlot]
    rw [State.setSlot_eq]
    split_ifs <;> simp
  have hleft : ¬(segmentsOf (s.takeImage op).records s.currentTables - 1 = 0) := by omega
  have hmax : max 1 (segmentsOf (s.takeImage op).records s.currentTables) = segmentsOf (s.takeImage op).records s.currentTables := by omega
  refine ⟨_, by simp only [execNvStoreSegment, hop, hkind, hgrant, hbegun, and_self, if_true, Bool.false_eq_true, if_false, hmax,
    hleft, Bool.true_eq_false]; rfl, ?_⟩
  rw [State.taken, ← hnow]
  rfl

theorem State.endWork_hasGrant (s : State) (what : WorkFor) : (s.endWork what).hasGrant what = false := by simp [State.hasGrant, State.endWork]

theorem State.awaits_askHoldup (s : State) (island : Bool) (what : WorkFor) : (s.askHoldup island what).awaits what = true := by
  simp [State.awaits, State.askHoldup, State.askWork]



/-- Settles O11: the branches of the segment's row, and the slots that each operation writes. -/
theorem storeAndSlots : Obligations.StoreAndSlots := by
  unfold Obligations.StoreAndSlots
  refine ⟨⟨?_, ?_, ?_, fun s op => ⟨rfl, rfl⟩, ?_, ?_, ?_, ?_, ?_⟩, ?_, fun s n => State.intact_rewritten, fun x => Slot.found_of_not_intact, ?_, ?_, ?_, ?_⟩
  · intro s op hop hkind hgrant hbegun htarget hlong
    obtain ⟨t, ht, hpar⟩ := execNvStoreSegment_first hop hkind hgrant hbegun hlong
    have hslot : ∀ n, t.slot n = (s.eraseSlot op.target).slot n := fun n => by simp [State.slot, hpar]
    have hself : t.slot op.target = { (s.slot op.target).erased with erases := (s.slot op.target).erases + 1 } := by
      rw [hslot, State.slot_eraseSlot, State.slot_setSlot_self]
    refine ⟨t, s.taken op, ht, by rw [hpar], rfl, rfl, rfl, Nat.sub_add_cancel (by omega), by rw [hself]; rfl, by rw [hself], ?_, ?_⟩
    · rw [hslot, State.slot_eraseSlot, State.slot_setSlot_other _ htarget]
    · rw [hpar, State.eraseSlot_par, State.setSlot_active]
  · intro s op hop hkind hgrant hbegun hleft
    refine ⟨_, (execNvStoreSegment_begun hop hkind hgrant hbegun true).trans ((if_neg nofun).trans (if_neg (by omega))), rfl, State.awaits_askHoldup .., ?_, rfl⟩
    exact State.endWork_hasGrant _ .nvOp
  · intro s op hop hkind hgrant hbegun hleft
    refine ⟨_, (execNvStoreSegment_begun hop hkind hgrant hbegun true).trans ((if_neg nofun).trans (if_pos (by omega))), ?_⟩
    simp only [State.finishStore_par, State.slot_finishStore, State.slot_setSlot_self, true_and]
    refine ⟨rfl, id, fun htarget => ?_, fun h => ?_, fun h => ?_⟩
    · rw [State.slot_setSlot_other _ htarget]
      rfl
    · simp [h, State.endWork]
    · simp [h, State.endWork]
  · rintro s op o hop hkind hgrant hbegun rfl
    exact (execNvStoreSegment_begun hop hkind hgrant hbegun false).trans (if_pos rfl)
  · intro s op hop hwaits hdue
    change execNvLeaveWaitExpiry s = _
    rw [execNvLeaveWaitExpiry, hop]
    exact if_pos ⟨hwaits, hdue⟩
  · intro s op st hbegun
    simp [State.slot, State.failNv_of_not_begun hbegun]
  · intro s op st hbegun htarget
    simp only [State.slot_failNv_of_begun hbegun, State.slot_setSlot_self, State.slot_setSlot_other _ htarget, and_true]
    rfl
  · exact fun s op st => by rw [State.failNv_par]
  · exact fun x => ⟨x.intact_sealed, rfl, rfl, rfl⟩
  · exact fun x h => if_pos (.inr h)
  · intro s n was hn hne hm
    obtain ⟨hself, hactive, hreject⟩ := State.selectSlot_spec hn hne hm
    exact ⟨by rw [hself]; rfl, by rw [hself]; rfl, by rw [hself]; rfl, hactive, hreject⟩
  · intro s n _ htrial
    simp [bootProgramDone, htrial, IMG_TRIAL, IMG_BOOTED]
  · exact fun s n => bootProgramDone_of_booted

/-! ### Settings images and the system log (R81, R97, R98) -/

@[simp] theorem State.slotAllows_start (s : State) (u slot n m : Nat) : (s.start u).slotAllows slot n m = s.slotAllows slot n m := rfl

theorem State.draw_snd (s : State) : s.draw.2 = { s with fresh := s.draw.2.fresh } := rfl

theorem State.buildExport_snd (s : State) : s.buildExport.2 = { s with fresh := s.buildExport.2.fresh } := rfl

theorem openExport_allowed {c : InFlight} {s : State} (hallow : s.slotAllows 0 0 M_APP = true) (hoff : c.desc.u 32 4 = 0) :
    (openExport c s).par.exportBuf = some (c.entry, s.buildExport.1, s.now) ∧
      openExport c s = { s with mbx := (openExport c s).mbx, par := (openExport c s).par, fresh := (openExport c s).fresh } := by
  have heq : openExport c s = exportSegment c c.entry s.buildExport.1 s.buildExport.2 := if_pos hallow
  rw [heq, exportSegment, hoff, if_neg (by omega)]
  exact ⟨rfl, rfl⟩

theorem trimLog_of_fits {n : Nat} {l : List Rec} (h : logBytes l ≤ 65536) : trimLog n l = (l, 0) := by
  cases n with
  | zero => rfl
  | succ n => exact if_neg (Nat.not_lt.mpr h)

/-- The only segment of an import, which ends with the first check that fails or begins the store (R98). -/
theorem nvImport_whole {c : InFlight} {s : State} (hoff : c.desc.u 32 4 = 0) (hlast : c.desc.u 36 1 = 1) (hbuf : s.par.importBuf = none)
    (hidle : s.par.op = none) (hlen : c.desc.data.length ≤ 131072) :
    nvImport c s =
      let t : State := { s with par := { s.par with importBuf := none } }
      match t.importStatus c.desc.data with
      | some st => t.fail c.uid st
      | none => t.beginImport c.uid (importRecords c.desc.data) (fld c.desc.data 16 4) (fld c.desc.data 44 2) := by
  simp only [nvImport, hoff, hlast, hbuf, hidle]
  simp [Nat.not_lt.mpr hlen] <;> rfl

theorem execSystemLogAppend_ungranted {s : State} {l : List (List Byte)} (hgrant : s.hasGrant .sysLog = false)
    (hfits : logBytes (s.par.logDram ++ l) ≤ 65536) : ∃ t : State, execSystemLogAppend l s = .next t ∧
      t.par = { s.par with logDram := s.par.logDram ++ l } ∧ t = { s with par := t.par, lv := t.lv } := by
  have hnone : ({ s with par := { s.par with logDram := s.par.logDram ++ l } } : State).hasGrant .sysLog = false := hgrant
  simp only [execSystemLogAppend, hnone, Bool.false_eq_true, if_false, trimLog_of_fits hfits, if_true, Nat.add_zero]
  split_ifs
  · exact ⟨_, rfl, rfl, rfl⟩
  · exact ⟨_, rfl, rfl, rfl⟩

/-- Settles O12: each buffer's branch, and the log under a grant and without one. -/
theorem settingsImages : Obligations.SettingsImages := by
  unfold Obligations.SettingsImages
  intro s q tag c
  refine ⟨?_, ?_, ?_, ?_, ?_, ?_, ?_, ?_, ?_, ?_, ?_, ?_⟩
  · intro e b t hc hoff hbuf hin
    refine startCommand_eq_of_starts hc ?_
    simp only [nvExport, State.start_par, hbuf, if_neg (Nat.ne_of_gt hoff), exportSegment, if_neg (Nat.not_lt.mpr hin)]
    rfl
  · intro hc hoff hbuf hallow
    have heq : exec (.nvExport q tag) s = .next (openExport c (s.start c.uid)) :=
      startCommand_eq_of_starts hc (by simp only [nvExport, State.start_par, hbuf, if_pos hoff])
    obtain ⟨hexport, hrest⟩ := openExport_allowed (s := s.start c.uid) hallow hoff
    exact ⟨_, _, heq, hexport, hrest⟩
  · intro hc hoff hbuf hallow
    exact startCommand_eq_of_starts hc (by simp [nvExport, hbuf, hoff, openExport, hallow])
  · intro e b t hc hoff hbuf hother
    exact startCommand_eq_of_starts hc (by simp [nvExport, hbuf, hoff, hother])
  · rintro _ _ hc hoff hlast hbuf rfl hlen hidle rfl
    refine startCommand_eq_of_starts hc ?_
    refine (nvImport_whole (s := s.start c.uid) hoff hlast hbuf hidle hlen).trans ?_
    have hclosed : ({ s.start c.uid with par := { (s.start c.uid).par with importBuf := none } } : State) = s.start c.uid := by
      rw [← show (s.start c.uid).par.importBuf = none from hbuf]
    simp only [hclosed] <;> rfl
  · intro hc hoff hlast hbuf hlen
    refine startCommand_eq_of_starts hc ?_
    simp [nvImport, hoff, hlast, hbuf, Nat.not_lt.mpr hlen]
  · intro b t hc hoff hlast hbuf hat hlen
    refine startCommand_eq_of_starts hc ?_
    have hoff' : ¬ b.length = 0 := by omega
    simp [nvImport, hlast, hbuf, hat, hoff', Nat.not_lt.mpr hlen]
  · intro e b t hbuf hdue
    change execExportBufferTimeout s = _
    rw [execExportBufferTimeout, hbuf]
    exact if_pos hdue
  · intro e b t hbuf hdue
    change execImportBufferTimeout s = _
    rw [execImportBufferTimeout, hbuf]
    exact if_pos hdue
  · intro l hgrant hnone
    refine (if_pos hgrant).trans ?_
    simp [hnone]
  · intro l hgrant hfits
    exact execSystemLogAppend_ungranted hgrant hfits
  · exact fun l hgrant => if_pos hgrant

end Sys2Proof.Machine

namespace Sys2Proof.Machine

/-!
PROOF. The machine's step and reset (R2, R6), and the commands of power leave, its cap maps and its shares (R117, R122 to R129).
-/

/-- Settles O58: a step matches on the queue. -/
theorem stepRuns : Obligations.StepRuns := by
  unfold Obligations.StepRuns
  refine ⟨fun i l s h => ?_, fun s h => ?_⟩ <;> rw [step, h]

/-- Settles O60: part 0x9100, issue 1 and one of each two options stand at reset. -/
theorem issuedAtReset : Obligations.IssuedAtReset := by
  unfold Obligations.IssuedAtReset State.issued
  decide

/-! ### Leave commands (R122 to R127) -/

/-- Settles O16: a command that passes its checks arrives at the arbiter. -/
theorem leaveCommands : Obligations.LeaveCommands := by
  unfold Obligations.LeaveCommands
  intro s q tag c
  refine ⟨?_, ?_, ?_, ?_, ?_, ?_, ?_⟩
  · intro m hc hlow hhigh hmap hcap hpos hmax hmin hramp hcls hflags hwait hnowait
    refine startCommand_eq_of_starts hc ((if_neg (by omega)).trans (if_neg ?_))
    rw [State.start_lv, hmap]
    rintro (h | h | h | h | h | h | h | h | h | h | h)
    · omega
    · cases h
    · exact absurd (show capMaxKw m < _ from h) (by omega)
    · omega
    · omega
    · omega
    · omega
    · omega
    · omega
    · exact h.2 (hwait h.1)
    · exact h.2 (hnowait h.1)
  · intro hc hlow hhigh hcap hpos hmax hmin hramp hflags
    refine startCommand_eq_of_starts hc ((if_neg (by omega)).trans (if_neg ?_))
    rw [State.start_lv]
    rintro (h | h | h | h | h | h | h)
    · omega
    · obtain ⟨m, hm, hlt⟩ := Option.map_eq_some_iff.mp h
      rw [hm] at hcap
      exact absurd (of_decide_eq_true hlt) (by simpa using hcap)
    · omega
    · omega
    · omega
    · omega
    · omega
  · intro hc hlow hhigh
    exact startCommand_eq_of_starts hc ((if_neg (by omega)).trans (if_neg (by omega)))
  · intro hlow
    exact ⟨fun hc => startCommand_eq_of_starts hc (if_pos hlow), fun hc => startCommand_eq_of_starts hc (if_pos hlow),
      fun hc => startCommand_eq_of_starts hc (if_pos hlow)⟩
  · intro hc hmax
    exact startCommand_eq_of_starts hc ((if_neg (by omega)).trans (if_neg (by omega)))
  · intro hc hnone
    exact startCommand_eq_of_starts hc (if_pos hnone)
  · intro hc hcount hlen hlast
    exact startCommand_eq_of_starts hc (if_neg (by omega))

/-! ### Cap maps and shares (R117, R128, R129) -/

@[simp] theorem State.slotOf_start (s : State) (u k : Nat) : (s.start u).slotOf k = s.slotOf k := rfl
@[simp] theorem State.capmapOk_start (s : State) (u k : Nat) (r : Rec) : (s.start u).capmapOk k r = s.capmapOk k r := rfl
@[simp] theorem State.plan_start (s : State) (u n : Nat) : (s.start u).plan n = s.plan n := rfl
@[simp] theorem State.holds_start (s : State) (u n : Nat) : (s.start u).holds n = s.holds n := rfl

theorem foldl_emit_eq {α : Type} (f : α → Emit) (l : List α) (s : State) :
    l.foldl (fun (u : State) k => u.emit (f k)) s = { s with out := (l.map f).reverse ++ s.out } := by
  induction l generalizing s with
  | nil => rfl
  | cons k l ih => rw [List.foldl_cons, ih, List.map_cons, List.reverse_cons, List.append_assoc]; rfl

theorem State.allStored_iff {s : State} {p : ShareSet} : s.allStored p = true ↔ ∀ k ∈ s.ring.plans.keys, k ∈ p.sent ∧ s.holds k = true := by
  simp [State.allStored]

/-- Settles O17: the record's branches, a share version sent to the held nodes, and its commit or end. -/
theorem capmapsAndShares : Obligations.CapmapsAndShares := by
  unfold Obligations.CapmapsAndShares
  refine ⟨?_, ?_, ?_, ?_, ?_, ?_⟩
  · intro s q tag c r hc hr hobj
    refine ⟨fun hfree hset hok => ?_, fun hfree hzero => ?_, fun hslot => ?_⟩
    · exact startCommand_eq_of_starts hc (by simp [lvCapmapSet, hr, Nat.not_lt.mpr hobj, hfree, hset, hok])
    · exact startCommand_eq_of_starts hc (by simp [lvCapmapSet, hr, Nat.not_lt.mpr hobj, hfree, hzero])
    · exact startCommand_eq_of_starts hc (by simp [lvCapmapSet, hr, Nat.not_lt.mpr hobj, hslot])
  · intro s q tag c hc hfree hlow hhigh hlen hdata hsum hplan hdup
    have hall : (shareEntries c).any (fun e => (s.plan e.1).isNone) = false := by
      rw [List.any_eq_false]
      intro e he
      simp [Option.isSome_iff_ne_none.mp (hplan e he)]
    have hok : ¬(c.desc.u 32 4 = 0 ∨ 4096 < c.desc.u 32 4 ∨ c.desc.dataLen ≠ 4 * c.desc.u 32 4 ∨ c.desc.data.length ≠ 4 * c.desc.u 32 4 ∨
        ((shareEntries c).map Prod.snd).sum ≠ 1000 ∨ (shareEntries c).any (fun e => (s.plan e.1).isNone) = true ∨ noDup ((shareEntries c).map Prod.fst) = false) := by
      simp [hall, hdup, hsum, hlen, hdata]
      omega
    refine ⟨_, _, startCommand_eq_of_starts hc ((if_neg (by simp [hfree])).trans ((if_neg hok).trans (foldl_emit_eq ..))), rfl, rfl, rfl, rfl, rfl,
      fun k hk hheld => ?_, fun k hk => (List.mem_filter.mp hk).2⟩
    have hmem : k ∈ s.ring.plans.keys.filter s.holds := List.mem_filter.mpr ⟨hk, hheld⟩
    exact ⟨hmem, List.mem_append_left _ (List.mem_reverse.mpr (List.mem_map_of_mem hmem))⟩
  · intro s p hp hstored hdue
    change execShareVersionCommit s = _
    rw [execShareVersionCommit, hp]
    exact if_pos ⟨State.allStored_iff.mpr hstored, hdue⟩
  · intro s p k hp hk hmissing
    change execShareVersionCommit s = _
    rw [execShareVersionCommit, hp]
    refine if_neg fun h => ?_
    obtain ⟨hsent, hheld⟩ := State.allStored_iff.mp h.1 k hk
    cases hmissing with
    | inl h => exact h hsent
    | inr h => exact absurd (h.symm.trans hheld) nofun
  · intro s p hp hdue
    change execShareVersionCommit s = _
    rw [execShareVersionCommit, hp]
    exact if_neg fun h => absurd h.2 (by omega)
  · intro s p hp hdue
    change execShareStoreTimeout s = _
    rw [execShareStoreTimeout, hp]
    exact if_pos hdue

end Sys2Proof.Machine

namespace Sys2Proof.Machine

/-!
PROOF. The Mirterlink ring (chapter 05): ring states, the events of a node, ring cycles, and the node table.
-/

/-! ### Ring states (R156) -/

theorem State.node_of_nodes_eq {s t : State} (h : t.ring.nodes = s.ring.nodes) (n : Nat) : t.node n = s.node n := by simp [State.node, h]

/-- Recomputing a ring's state writes the two ring states of the ring's record alone. -/
theorem State.ringCheck_ring (s : State) (r : Nat) :
    (s.ringCheck r).ring = if r = 0 then { s.ring with stateA := s.ringCond r } else { s.ring with stateB := s.ringCond r } := by
  have hreport : ∀ t : State, (t.report SRC_RING_PARTITION 0).ring = t.ring := fun t => State.report_ring_of_kind (row := ⟨96, 0, 0, 1⟩) (by decide) rfl t 0
  simp only [State.ringCheck]
  split_ifs <;> simp [hreport]

@[simp] theorem State.ringCheck_nodes (s : State) (r : Nat) : (s.ringCheck r).ring.nodes = s.ring.nodes := by
  rw [State.ringCheck_ring]
  split_ifs <;> rfl

/-- What recomputing both states leaves of the ring's record. -/
theorem State.ringsCheck_ring (s : State) : s.ringsCheck.ring = { s.ring with stateA := s.ringsCheck.ring.stateA, stateB := s.ringsCheck.ring.stateB } := by
  unfold State.ringsCheck
  rw [State.ringCheck_ring, State.ringCheck_ring]
  rfl

@[simp] theorem State.ringsCheck_nodes (s : State) : s.ringsCheck.ring.nodes = s.ring.nodes := by rw [State.ringsCheck_ring]
@[simp] theorem State.ringsCheck_ports (s : State) : s.ringsCheck.ring.ports = s.ring.ports := by rw [State.ringsCheck_ring]
@[simp] theorem State.ringsCheck_plans (s : State) : s.ringsCheck.ring.plans = s.ring.plans := by rw [State.ringsCheck_ring]
@[simp] theorem State.ringsCheck_moved (s : State) : s.ringsCheck.ring.moved = s.ring.moved := by rw [State.ringsCheck_ring]
@[simp] theorem State.node_ringsCheck (s : State) (n : Nat) : s.ringsCheck.node n = s.node n := State.node_of_nodes_eq s.ringsCheck_nodes n

@[simp] theorem State.ringOpen_ringsCheck (s : State) (r : Nat) : s.ringsCheck.ringOpen r = s.ringOpen r := by
  simp only [State.ringOpen]
  rw [State.ringsCheck_ring]

theorem State.ringOpen_setOpen (s : State) {r : Nat} (h : r < 2) (v : Bool) : (s.setOpen r v).ringOpen r = v := by
  obtain rfl | rfl : r = 0 ∨ r = 1 := by omega
  · rfl
  · rfl

@[simp] theorem State.setOpen_nodes (s : State) (r : Nat) (v : Bool) : (s.setOpen r v).ring.nodes = s.ring.nodes := by
  unfold State.setOpen
  split <;> rfl

theorem State.ringState_ringCheck (s : State) {r : Nat} (h : r < 2) : (s.ringCheck r).ringState r = s.ringCond r := by
  rw [State.ringState, State.ringCheck_ring]
  obtain rfl | rfl : r = 0 ∨ r = 1 := by omega
  · rfl
  · rfl

@[simp] theorem State.setOpen_ports (s : State) (r : Nat) (v : Bool) : (s.setOpen r v).ring.ports = s.ring.ports := by
  unfold State.setOpen
  split <;> rfl

theorem State.port_cageLock (s : State) {cage : Nat} (h : cage < 4) (lock : Bool) :
    (s.cageLock cage lock).port cage = { s.port cage with lock := lock, los := !lock, foreign := (s.port cage).foreign && lock } := by
  have hports : (s.cageLock cage lock).ring.ports =
      s.ring.ports.set cage { s.port cage with lock := lock, los := !lock, foreign := (s.port cage).foreign && lock } := by
    have hopen : ∀ (b : Bool) (t : State) (r : Nat), (if b then t.setOpen r false else t).ring.ports = t.ring.ports := by
      intro b t r
      cases b
      · rfl
      · exact t.setOpen_ports r false
    rw [State.cageLock, if_pos h, State.ringsCheck_ports]
    dsimp only
    rw [apply_ite State.ring, apply_ite Ring.ports]
    simp only [hopen, ite_self]
  rw [State.port, hports, Tab.getD_set_self]

theorem State.ownReturn_of_ringOpen {s : State} {r : Nat} (h : s.ringOpen r = true) {cage : Nat} (hcage : cage / 2 = r) : s.ownReturn cage = false := by
  simp [State.ownReturn, hcage, h]

theorem execOpticalModuleInserted_dark {cage rate : Nat} {present : Bool} (hcage : cage ≤ 5) (h : present = false ∨ opticFits cage rate = false) (s t : State)
    (ht : t = { s with pins := { s.pins with optics := s.pins.optics.set cage (if present then { present := true, rate := rate, tx := false } else {}) } }) :
    execOpticalModuleInserted cage present rate s = .next (if cage = 4 then t.pairLost.updPair (fun x => { x with link := false }) else t.cageLock cage false) := by
  have htx : (present && opticFits cage rate) = false := by
    cases h with
    | inl h => rw [h, Bool.false_and]
    | inr h => rw [h, Bool.and_false]
  subst ht
  simp only [execOpticalModuleInserted, if_neg (Nat.not_lt.mpr hcage), htx, Bool.false_eq_true, if_false]
  split_ifs <;> rfl

/-- Settles O22: the branches of the ring's condition, and the events that enter it. -/
theorem ringStates : Obligations.RingStates := by
  unfold Obligations.RingStates
  refine ⟨?_, ?_, ?_, fun s r => s.ringState_ringCheck, fun s cage lock => rfl, ?_, ?_, ?_, ?_, ?_⟩
  · intro s r hwest heast
    simp [State.ringCond, hwest, heast]
  · intro s r n hlock hmem hstate
    have hany : (s.membersOf r).any (fun n => decide (5 ≤ (s.node n).state)) = true := List.any_eq_true.mpr ⟨n, hmem, decide_eq_true hstate⟩
    simp [State.ringCond, hlock, hany]
  · intro s r hlock hall
    have hnone : (s.membersOf r).any (fun n => decide (5 ≤ (s.node n).state)) = false := by
      rw [List.any_eq_false]
      intro n hn
      simpa using hall n hn
    simp [State.ringCond, hlock, hnone]
  · intro s cage lock hcage
    refine ⟨_, rfl, ?_, ?_⟩ <;> rw [s.port_cageLock hcage]
  · intro s r hr
    have hopen : ((s.setOpen r true).ringsCheck).ringOpen r = true := by rw [State.ringOpen_ringsCheck, s.ringOpen_setOpen hr]
    exact ⟨_, if_pos hr, hopen, State.ownReturn_of_ringOpen hopen (by omega), State.ownReturn_of_ringOpen hopen (by omega)⟩
  · intro s cage rate hcage hfits
    change execOpticalModuleInserted cage true rate s = _
    simp only [execOpticalModuleInserted, if_neg (Nat.not_lt.mpr hcage), hfits, Bool.and_self, if_true]
  · intro s cage rate hcage hunfit
    refine ⟨_, execOpticalModuleInserted_dark (by omega) (.inr hunfit) s _ rfl, ?_⟩
    rw [if_neg (by omega), State.port_cageLock _ hcage]
  · exact fun s t cage rate p hcage h ht => execOpticalModuleInserted_dark hcage h s t ht

/-! ### Ring cycles (R140, R143, R150, R152) -/

theorem State.stampPlan_eq (s : State) : s.stampPlan =
    { s with ring := { s.ring with plan := s.ring.plan + (if s.planNow = s.ring.slotPlan then 0 else 1), slotPlan := s.planNow } } := by
  unfold State.stampPlan
  split
  · next h => simp [h]
  · rfl

theorem State.capsHeld_of_no_caps {s : State} (hslots : s.lv.slots = []) (hresidue : s.lv.residue = []) : s.capsHeld = s := by
  have hcycle : s.slotsCycle = s := by rw [State.slotsCycle, hslots, List.foldl_nil]
  rw [State.capsHeld, hcycle, State.residueCycle, hresidue, List.foldl_nil]
  simp only [List.filter_nil]
  rw [← hresidue]

theorem State.cycleHeader_eq (s : State) (e : Nat) (release : Bool) :
    s.cycleHeader e release = { s with out := (s.emitCages.map fun c => Emit.cycleHeader c (s.header e release)).reverse ++ s.out } := foldl_emit_eq ..

/-- Where the module emits on no cage, its header is emitted on none. -/
theorem State.headerOr_eq {s : State} (hraise : s.ring.raiseTo = none) :
    (if s.emitsCycles then s.headerCycle else s) = s.cycleHeader s.ring.epoch false := by
  split
  · simp [State.headerCycle, hraise]
  · next h =>
    have hnone : s.emitCages = [] := by simpa [State.emitsCycles] using h
    rw [State.cycleHeader, hnone, List.foldl_nil]

theorem pack_crc_length (l : List (Nat × Nat)) {n : Nat} (hn : (l.map Prod.fst).sum = n) (f : List Byte → Nat) (m : Nat) :
    (pack l ++ leBytes m (f (pack l))).length = n + m ∧ (pack l ++ leBytes m (f (pack l))).drop n = leBytes m (f ((pack l ++ leBytes m (f (pack l))).take n)) ∧
      (pack l ++ leBytes m (f (pack l))).take n = pack l := by
  have hlen : (pack l).length = n := by rw [length_pack, hn]
  have htake : (pack l ++ leBytes m (f (pack l))).take n = pack l := List.take_left' hlen
  exact ⟨by rw [List.length_append, hlen, length_leBytes], by rw [htake, List.drop_left' hlen], htake⟩

theorem CapOut.rises_bounds {o : CapOut} (h : o.heldKw ≤ o.sentKw) (ramp now free : Nat) :
    o.heldKw ≤ (o.rises ramp now free).heldKw ∧ (o.rises ramp now free).heldKw ≤ o.sentKw := by
  simp only [CapOut.rises]
  split_ifs
  · exact ⟨h, le_refl _⟩
  · exact ⟨le_max_left .., max_le h (min_le_left ..)⟩
  · exact ⟨le_max_left .., max_le h ((min_le_left ..).trans (min_le_left ..))⟩

theorem CapOut.lapses_heldKw (o : CapOut) (since hold ramp : Nat) : (o.lapses since hold ramp).heldKw ≤ o.heldKw ∧
    (since < hold → (o.lapses since hold ramp).heldKw = o.heldKw) ∧ (hold + ramp ≤ since → (o.lapses since hold ramp).heldKw = 0) := by
  simp only [CapOut.lapses]
  split_ifs with h
  · exact ⟨le_refl _, fun _ => rfl, fun _ => by omega⟩
  · refine ⟨min_le_left .., fun hin => absurd hin h, fun hover => ?_⟩
    rw [Nat.sub_eq_zero_of_le hover, Nat.mul_zero]
    have hzero : ceilDiv 0 (max 1 ramp) = 0 := by
      rw [ceilDiv, if_neg (by omega), Nat.div_eq_of_lt (by omega)]
    rw [hzero, Nat.min_zero]

/-- Settles O20: the cycle's beginning and its header, the bytes of headers and markers, and the two rules of a held cap. -/
theorem ringCycles : Obligations.RingCycles := by
  unfold Obligations.RingCycles
  have hrow : ∀ s : State, s.sys.locks.getLsbD 2 = true → execRingCycle s = .next (if s.cycleBegins.pair.role = ROLE_RELEASING then s.cycleBegins.releaseCycle
      else if s.cycleBegins.emitsCycles then s.cycleBegins.headerCycle else s.cycleBegins).scanDue.appResetDue :=
    fun s h => if_neg (by rw [h]; decide)
  refine ⟨fun s h => if_pos h, ?_, ?_, ?_, fun c e t i f p l => ?_, fun c e i => ?_, ?_, fun o ramp now free h => o.rises_bounds h ramp now free,
    fun o => o.lapses_heldKw, hrow⟩
  · intro s hlock hrole hraise hslots hresidue hscan hreset
    have hbegins : s.cycleBegins = { s with ring := { s.stampPlan.ring with cycle := s.ring.cycle + 1, winLeft := 2, skew := s.nextSkew } } := by
      rw [State.cycleBegins, State.capsHeld_of_no_caps hslots hresidue, State.stampPlan_eq]
      rfl
    have hraised : s.cycleBegins.ring.raiseTo = none := by rw [hbegins, State.stampPlan_eq]; exact hraise
    have hend : ∀ t : State, t.ring.scan = none → t.sys.resetDue = none → t.scanDue.appResetDue = t := by
      intro t h1 h2
      simp [State.scanDue, State.appResetDue, h1, h2]
    have heq : execRingCycle s = .next (s.cycleBegins.cycleHeader s.cycleBegins.ring.epoch false) := by
      rw [hrow s hlock, if_neg (by rw [hbegins]; exact hrole), State.headerOr_eq hraised, hend]
      · rw [State.cycleHeader_eq, hbegins, State.stampPlan_eq]
        exact hscan
      · rw [State.cycleHeader_eq, hbegins]
        exact hreset
    refine ⟨_, heq, ?_⟩
    rw [State.cycleHeader_eq, hbegins]
    refine ⟨rfl, rfl, ?_⟩
    rw [State.stampPlan_eq]
    rfl
  · intro s e hraise hleft
    simp only [State.headerCycle, hraise, if_neg (Nat.ne_of_gt hleft), State.cycleHeader_eq]
    trivial
  · intro s
    rw [State.stampPlan_eq]
  · exact pack_crc_length _ rfl crc32c 4
  · obtain ⟨hlen, hcrc, _⟩ := pack_crc_length [(2, c), (2, e), (1, i), (1, 0)] (n := 6) rfl crc16 2
    exact ⟨hlen, hcrc⟩
  · exact fun o ramp now free h => by rw [CapOut.rises, if_pos h]

end Sys2Proof.Machine

namespace Sys2Proof.Machine

/-! ### What the events of a node leave of the ring's record (R136, R152, R155) -/

@[simp] theorem State.fenceInst_ring (s : State) (i cause : Nat) : (s.fenceInst i cause).ring = s.ring := by
  simp only [State.fenceInst]
  split_ifs <;> simp [State.traceHit, State.updInst]

/-- The end of a lease writes no other node. -/
theorem State.leaseEnds_nodes (s : State) (n : Nat) (fence : Bool) :
    (s.leaseEnds n fence).ring.nodes = s.ring.nodes.set n { s.node n with leased := false, released := false } := by
  simp only [State.leaseEnds]
  rw [foldl_leaves (fun t : State => t.ring.nodes) (by exact fun _ _ => rfl)]
  split
  · rw [foldl_leaves (fun t : State => t.ring.nodes) (fun t i => congrArg Ring.nodes (t.fenceInst_ring i 3))]
    rfl
  · rfl

theorem State.sendClaim_nodes (s : State) (n : Nat) (r : List Byte) : (s.sendClaim n r).ring.nodes = s.ring.nodes := by
  simp only [State.sendClaim]
  split_ifs <;> rfl

/-- The lease of a node as the module keeps it: state, whether it is held, and its epoch. -/
def State.leaseOf (s : State) (n : Nat) : Nat × Bool × Nat := ((s.node n).state, (s.node n).leased, (s.node n).epoch)

theorem State.leaseOf_of_nodes_eq {s t : State} (h : t.ring.nodes = s.ring.nodes) (n : Nat) : t.leaseOf n = s.leaseOf n := by
  simp [State.leaseOf, State.node_of_nodes_eq h]

/-- A claim is sent, and no lease changes before a node accepts it (R152). -/
theorem State.leaseOf_claimNode (s : State) (m n : Nat) : (s.claimNode m).leaseOf n = s.leaseOf n := by
  have hside : (s.updNode m fun x => { x with claimSide := some (s.node m).best }).leaseOf n = s.leaseOf n := by
    by_cases h : n = m
    · subst h
      simp [State.leaseOf]
    · simp [State.leaseOf, State.node_updNode_of_ne s _ h]
  exact (State.leaseOf_of_nodes_eq (State.sendClaim_nodes ..) n).trans hside

theorem State.leaseOf_emitClaims (s : State) (l : List Nat) (n : Nat) : (s.emitClaims l).leaseOf n = s.leaseOf n :=
  foldl_leaves (fun t : State => t.leaseOf n) (fun t m => t.leaseOf_claimNode m n) _ s

theorem State.leaseOf_claimNodes (s : State) (l : List Nat) (n : Nat) : (s.claimNodes l).leaseOf n = s.leaseOf n := by
  simp only [State.claimNodes]
  split_ifs
  · rfl
  · exact State.leaseOf_emitClaims ..
  · rfl
  · exact State.leaseOf_emitClaims ..

theorem State.leaseOf_claimLapsed (s : State) (n : Nat) : s.claimLapsed.leaseOf n = s.leaseOf n := by
  simp only [State.claimLapsed]
  split
  · exact State.leaseOf_claimNodes ..
  · rfl

theorem State.dropPoints_ring (s : State) : s.dropPoints.ring = s.ring := by
  unfold State.dropPoints State.ptMarkChanges
  exact foldl_leaves (fun t : State => t.ring) (by exact fun _ _ => rfl) _ _

theorem State.loseActive_nodes (s : State) : s.loseActive.ring.nodes = s.ring.nodes := by
  simp only [State.loseActive]
  split
  · rw [State.dropPoints_ring]
    rfl
  · rfl

/-- A report of a lapse or a release, of a node under a lease (R155). -/
theorem State.leaseOf_leaseReport {s : State} {n : Nat} (hlow : 2 ≤ (s.node n).state) (hhigh : (s.node n).state ≤ 4) (e : Nat) (released : Bool) :
    (s.leaseReport n e released).leaseOf n = (6, false, e) := by
  have hended : ∀ (fence : Bool) (own : Bool), ((s.leaseEnds n fence).updNode n fun x =>
      { x with state := 6, epoch := e, endedAt := s.now, ownLapse := own }).leaseOf n = (6, false, e) := by
    intro fence own
    have hnode : (s.leaseEnds n fence).node n = { s.node n with leased := false, released := false } := by
      rw [State.node, State.leaseEnds_nodes, Tab.getD_set_self]
    simp [State.leaseOf, hnode]
  simp only [State.leaseReport, if_pos (Or.inl (And.intro hlow (Nat.le_succ_of_le hhigh)) : (2 ≤ (s.node n).state ∧ (s.node n).state ≤ 5) ∨ (s.node n).state = 7)]
  rw [State.leaseOf_of_nodes_eq (State.loseActive_nodes _), State.leaseOf_of_nodes_eq (State.ringsCheck_nodes _)]
  split
  · exact hended ..
  · exact (State.leaseOf_claimLapsed ..).trans (hended ..)

/-- The record of a node that is served from a side: the side it has left on a wrap reaches it no longer (R138). -/
def Node.servedFrom (x : Node) (side : Nat) (spans delayNs : Option Nat) : Node :=
  { (if side ≠ x.side ∧ side ≠ x.home then x.setPath x.side none none else x).setPath side spans delayNs with side := side, hops := spans.getD x.hops }

theorem Node.servedFrom_missed (x : Node) (side : Nat) (spans delayNs : Option Nat) : (x.servedFrom side spans delayNs).missed = x.missed := by
  unfold Node.servedFrom Node.setPath
  split_ifs <;> rfl

theorem Node.servedFrom_missedTotal (x : Node) (side : Nat) (spans delayNs : Option Nat) : (x.servedFrom side spans delayNs).missedTotal = x.missedTotal := by
  unfold Node.servedFrom Node.setPath
  split_ifs <;> rfl

/-- The state in which a node is served from a side. -/
def State.served (s : State) (n side : Nat) (spans delayNs : Option Nat) : State := s.updNode n fun _ => (s.node n).servedFrom side spans delayNs

theorem State.serveFrom_eq (s : State) (n side : Nat) (spans delayNs : Option Nat) : s.serveFrom n side spans delayNs =
    if (s.served n side spans delayNs).ringWrapped (s.nodeRing n) ∧ s.ringWrapped (s.nodeRing n) = false then
      ((s.served n side spans delayNs).report SRC_RING_WRAP 0).raise 0x04 0x0003 (s.nodeRing n)
    else if s.ringWrapped (s.nodeRing n) ∧ (s.served n side spans delayNs).ringWrapped (s.nodeRing n) = false then
      (s.served n side spans delayNs).setOpen (s.nodeRing n) false
    else s.served n side spans delayNs := rfl

theorem State.serveFrom_nodes (s : State) (n side : Nat) (spans delayNs : Option Nat) :
    (s.serveFrom n side spans delayNs).ring.nodes = s.ring.nodes.set n ((s.node n).servedFrom side spans delayNs) := by
  have hreport : ∀ t : State, (t.report SRC_RING_WRAP 0).ring = t.ring := fun t => State.report_ring_of_kind (row := ⟨97, 0, 0, 1⟩) (by decide) rfl t 0
  rw [State.serveFrom_eq]
  split_ifs
  · rw [State.raise_ring, hreport]
    rfl
  · exact State.setOpen_nodes ..
  · rfl

theorem State.serveFrom_bas (s : State) (n side : Nat) (spans delayNs : Option Nat) : (s.serveFrom n side spans delayNs).bas = s.bas := by
  have hreport : ∀ t : State, t.bas = s.bas → (t.report SRC_RING_WRAP 0).bas = s.bas := fun t ht =>
    State.report_induct (P := fun u => u.bas = s.bas) (row := ⟨97, 0, 0, 1⟩) (by decide) (.inl rfl) (fun u a c o hu => (u.raise_bas a c o).trans hu)
      (fun u f hu => hu) ht 0
  have hopen : ∀ (t : State) (r : Nat) (v : Bool), (t.setOpen r v).bas = t.bas := by
    intro t r v
    unfold State.setOpen
    split <;> rfl
  rw [State.serveFrom_eq]
  split_ifs
  · exact (State.raise_bas ..).trans (hreport _ rfl)
  · exact hopen ..
  · rfl

@[simp] theorem Node.path_setPath (x : Node) (side : Nat) (spans delayNs : Option Nat) : (x.setPath side spans delayNs).path side = (spans, delayNs) := by
  unfold Node.path Node.setPath
  split_ifs <;> rfl

@[simp] theorem Node.setPath_demoted (x : Node) (side : Nat) (spans delayNs : Option Nat) : (x.setPath side spans delayNs).demoted = x.demoted := by
  unfold Node.setPath
  split <;> rfl

theorem State.fitNode_of_no_insts {s : State} {n : Nat} (h : s.instsOf n = []) : s.fitNode n = s := by
  simp [State.fitNode, h, Tab.keys]

theorem State.instsOf_of_bas_eq {s t : State} (hinsts : t.bas.insts = s.bas.insts) (hcoeffs : t.bas.coeffs = s.bas.coeffs) (n : Nat) :
    t.instsOf n = s.instsOf n := by
  simp [State.instsOf, State.coef, hinsts, hcoeffs]

theorem State.stagesOf_of_stg_eq {s t : State} (h : t.stg = s.stg) (n : Nat) : t.stagesOf n = s.stagesOf n := by simp [State.stagesOf, h]

theorem State.becomeActive_of_role {s : State} (h : s.pair.role ≠ ROLE_STANDBY) (e : Nat) : s.becomeActive e = s := if_pos h

/-- A node takes the epoch and the side of a claim that it has accepted (R151). -/
def State.claimStart (s : State) (n epoch side hops : Nat) : State := s.updNode n fun x =>
  { x.setPath side (some hops) ((s.node n).path side).2 with
    epoch := epoch, side := side, home := side, hops := hops, leased := true, missed := 0, released := false, claimSide := none, issuer := s.issuer }

/-- What follows once the module is active: the node's state, its instances and stages, its configuration and its loops (R155). -/
def State.claimEnd (t : State) (n : Nat) (keep : Bool) : State :=
  let st := if t.held 2 n 2 then 4 else if (t.node n).demoted then 3 else 2
  let t := t.updNode n fun x => { x with state := st }
  let t := (t.instsOf n).keys.foldl (fun u i => u.updInst i (Inst.reclaimed keep)) ((t.nodeHeard n).clearRun n)
  let t := (t.stagesOf n).foldl (fun u o => u.updStage o Stage.claimed) t
  ((t.sendConfig n).fitNode n).ringsCheck

theorem State.claimTaken_eq (s : State) (n epoch side hops : Nat) : s.claimTaken n epoch side hops =
    ((s.claimStart n epoch ((s.node n).claimSide.getD side) hops).becomeActive (s.node n).epoch).claimEnd n
      (s.pair.ownEngines && decide (s.now ≤ (s.node n).endedAt + s.pn PAR_RING_HOLD_US * us)) := rfl

theorem State.claimEnd_nodes {t : State} {n : Nat} (hinsts : t.instsOf n = []) (hstages : t.stagesOf n = []) (keep : Bool) :
    (t.claimEnd n keep).ring.nodes =
      ((t.updNode n fun x => { x with state := if t.held 2 n 2 then 4 else if (t.node n).demoted then 3 else 2 }).nodeHeard n).ring.nodes := by
  obtain ⟨u, hu⟩ : ∃ u, u = t.updNode n fun x => { x with state := if t.held 2 n 2 then 4 else if (t.node n).demoted then 3 else 2 } := ⟨_, rfl⟩
  have hinsts' : u.instsOf n = [] := by rw [hu]; exact hinsts
  have hstages' : ((u.nodeHeard n).clearRun n).stagesOf n = [] := by rw [hu]; exact hstages
  have hfit : ((((u.nodeHeard n).clearRun n).sendConfig n).fitNode n) = ((u.nodeHeard n).clearRun n).sendConfig n :=
    State.fitNode_of_no_insts ((State.instsOf_of_bas_eq rfl rfl n).trans hinsts')
  simp only [State.claimEnd, ← hu, hinsts', Tab.keys, List.map_nil, List.foldl_nil, hstages', hfit, State.ringsCheck_nodes]
  rfl

theorem State.claimStart_node (s : State) (n epoch side hops : Nat) : (s.claimStart n epoch side hops).node n =
    { (s.node n).setPath side (some hops) ((s.node n).path side).2 with
      epoch := epoch, side := side, home := side, hops := hops, leased := true, missed := 0, released := false, claimSide := none, issuer := s.issuer } :=
  State.node_updNode ..

theorem State.ite_setOpen_nodes (p : Prop) [Decidable p] (t : State) (r : Nat) (v : Bool) : (if p then t.setOpen r v else t).ring.nodes = t.ring.nodes := by
  split
  · exact t.setOpen_nodes r v
  · rfl

theorem State.portReport_nodes (s : State) (n port : Nat) (down : Bool) : (s.portReport n port down).ring.nodes = (s.updNode n fun x =>
    { x with portsDown := if down then x.portsDown ||| BitVec.ofNat 4 (2 ^ (port % 4)) else x.portsDown &&& ~~~ BitVec.ofNat 4 (2 ^ (port % 4)) }).ring.nodes := by
  exact State.ite_setOpen_nodes _ _ _ _

/-- A node's record without the slots missed in the last 100 µs (R154), heard now. -/
def Node.unmissed (x : Node) (now lastSeen : Nat) : Node :=
  { x with missed := x.missed - (x.missAt.filter fun t => decide (now ≤ t + 100 * us)).length,
           missedTotal := x.missedTotal - (x.missAt.filter fun t => decide (now ≤ t + 100 * us)).length, missAt := [], seenAt := now, lastSeen := lastSeen }

/-- The records after a first frame from another side: the slots missed just before it do not count (R154). -/
theorem State.node_switchedTo {s : State} {n : Nat} (side : Nat) (hinsts : s.instsOf n = []) (hmissed : (s.node n).missed < 3) (m : PathMeasure) :
    (s.switchedTo n side m).node n = ((s.node n).unmissed s.now s.ring.cycle.toNat).servedFrom side (some m.spans) (some m.delayNs) ∧
      ∀ k, k ≠ n → (s.switchedTo n side m).node k = s.node k := by
  have hkeep : ¬((s.node n).missed - ((s.node n).missAt.filter fun t => decide (s.now ≤ t + 100 * us)).length < 3 ∧ 3 ≤ (s.node n).missed) := by omega
  obtain ⟨u, hu⟩ : ∃ u, u = (s.updNode n fun x =>
      { x with missed := (s.node n).missed - ((s.node n).missAt.filter fun t => decide (s.now ≤ t + 100 * us)).length,
               missedTotal := x.missedTotal - ((s.node n).missAt.filter fun t => decide (s.now ≤ t + 100 * us)).length, missAt := [] }).nodeHeard n := ⟨_, rfl⟩
  have hnodes : (s.switchedTo n side m).ring.nodes = (u.serveFrom n side (some m.spans) (some m.delayNs)).ring.nodes := by
    simp only [State.switchedTo, if_neg hkeep, ← hu]
    rw [State.ringsCheck_nodes, State.fitNode_of_no_insts]
    · rfl
    · rw [hu]
      exact (State.instsOf_of_bas_eq (congrArg Bas.insts (State.serveFrom_bas ..)) (congrArg Bas.coeffs (State.serveFrom_bas ..)) n).trans hinsts
  rw [State.serveFrom_nodes] at hnodes
  refine ⟨?_, fun k hk => ?_⟩
  · rw [State.node, hnodes, Tab.getD_set_self, hu, State.nodeHeard, State.node_updNode, State.node_updNode]
    rfl
  · rw [State.node, hnodes, Tab.getD_set_of_ne _ _ _ hk, hu]
    exact (State.node_updNode_of_ne _ _ hk).trans (State.node_updNode_of_ne _ _ hk)

/-- Settles O21: the branch of each event, and the records that it writes. -/
theorem nodeEvents : Obligations.NodeEvents := by
  unfold Obligations.NodeEvents
  refine ⟨?_, ?_, ?_, ?_, ?_, ?_, ?_, ?_, ?_, ?_, ?_, ?_, ?_, ?_, ?_, ?_, ?_, ?_⟩
  · exact fun s n h1 h2 h3 h4 => if_pos ⟨h1, h2, h3, h4⟩
  · rintro s n _ h rfl
    exact if_pos ⟨h, rfl⟩
  · intro s n hlow hhigh hheld hinsts
    have hrange : ¬((s.node n).before < 2 ∨ 4 < (s.node n).before) := by omega
    simp only [State.stateBack, if_neg hrange, hheld, hinsts]
    simp
  · exact fun s n e h hne => if_pos ⟨h, hne⟩
  · intro s n side hops h0 h1 h5 hfree hepoch hrole hinsts hstages hheld
    refine ⟨_, if_pos ⟨rfl, h0, h1, h5, .inl hfree, hepoch⟩, ?_⟩
    rw [State.claimTaken_eq, State.becomeActive_of_role (by exact hrole)]
    have hnodes := State.claimEnd_nodes (t := s.claimStart n s.ring.epoch ((s.node n).claimSide.getD side) hops) (n := n) hinsts hstages
    have hfree' : (s.claimStart n s.ring.epoch ((s.node n).claimSide.getD side) hops).held 2 n 2 = false := hheld
    have hnode := State.node_of_nodes_eq (hnodes (s.pair.ownEngines && decide (s.now ≤ (s.node n).endedAt + s.pn PAR_RING_HOLD_US * us))) n
    rw [State.nodeHeard, State.node_updNode, State.node_updNode, hfree', State.claimStart_node] at hnode
    rw [hnode]
    refine ⟨rfl, rfl, rfl, rfl, rfl, rfl, rfl, ?_, fun m hm => ?_⟩
    · simp
    · rw [State.node_of_nodes_eq (hnodes _), State.nodeHeard, State.node_updNode_of_ne _ _ hm, State.node_updNode_of_ne _ _ hm]
      exact State.node_updNode_of_ne _ _ hm
  · intro s n e side hops hleased hreleased
    refine if_neg fun h => ?_
    obtain ⟨_, _, _, _, hfree, _⟩ := h
    simp [hleased, hreleased] at hfree
  · intro s n e side hops hle
    refine if_neg fun h => ?_
    obtain ⟨_, _, _, _, _, hlt⟩ := h
    omega
  · exact fun s n => rfl
  · exact fun p w e => rfl
  · intro s n code e a hcode hlow hhigh
    have hknown : (s.node n).state ≠ 0 := by omega
    have hheard : ((s.nodeHeard n).node n).state = (s.node n).state := by simp [State.nodeHeard]
    have hlease : ∀ b, ((s.nodeHeard n).leaseReport n e b).leaseOf n = (6, false, e) :=
      fun b => State.leaseOf_leaseReport (by rw [hheard]; exact hlow) (by rw [hheard]; exact hhigh) e b
    have hfields : ∀ t : State, t.leaseOf n = (6, false, e) → (t.node n).state = 6 ∧ (t.node n).leased = false ∧ (t.node n).epoch = e := by
      intro t ht
      simpa [State.leaseOf] using ht
    obtain rfl | rfl := hcode
    · exact ⟨_, if_neg hknown, hfields _ (hlease false)⟩
    · exact ⟨_, if_neg hknown, hfields _ (hlease true)⟩
  · intro s n e a hknown
    exact if_neg hknown
  · intro s n e a hknown
    exact ⟨if_neg hknown, if_neg hknown⟩
  · intro s n a
    have hports : ∀ b, ((s.portReport n a b).node n).portsDown =
        if b then (s.node n).portsDown ||| BitVec.ofNat 4 (2 ^ (a % 4)) else (s.node n).portsDown &&& ~~~ BitVec.ofNat 4 (2 ^ (a % 4)) := by
      intro b
      rw [State.node_of_nodes_eq (State.portReport_nodes ..)]
      exact congrArg Node.portsDown (State.node_updNode ..)
    exact ⟨hports true, hports false⟩
  · intro s n side m hknown hinsts hmissed
    obtain ⟨hnode, hothers⟩ := s.node_switchedTo side hinsts hmissed m
    refine ⟨_, if_neg hknown, ?_⟩
    rw [hnode]
    exact ⟨rfl, rfl, Node.path_setPath .., Node.servedFrom_missed .., Node.servedFrom_missedTotal .., hothers⟩
  · intro s n f
    exact ⟨Tab.get?_set_self .., fun m hm => Tab.get?_set_of_ne _ _ hm⟩
  · intro s n side hops h0 h1 h5 hfree hepoch
    exact if_pos ⟨rfl, h0, h1, h5, hfree, hepoch⟩
  · exact fun s n side m hknown => if_neg hknown
  · intro s n a e hknown hinsts
    exact (if_neg hknown).trans (if_pos (by rw [hinsts]; rfl))

end Sys2Proof.Machine

namespace Sys2Proof.Machine

/-! ### The node table: a counterexample to R162 as stated

The statement takes every state, also one whose table of moved nodes names a node twice. A record that says what the first entry says removes that entry,
and the second gives the node's place from then on.
-/

/-- A planned node record of a cabinet node at address 1 on a ring. -/
def movedRec (ring : Byte) : Rec := List.replicate 16 0 ++ [1, 0, 1, ring] ++ List.replicate 12 0

/-- RING_NODE_SET of node 1 with a record on ring 0. -/
def movedCmd : InFlight where
  uid := 0
  q := 0
  entry := 0
  desc := { bytes := pack [(2, 0x0400), (2, 0), (4, 0), (4, 1), (4, 32), (48, 0)], data := movedRec 0 }

/-- A module at reset, but that node 1 is planned on ring 0 and stands twice in the table of moved nodes. -/
def movedTwice : State :=
  { State.reset with mbx := { State.reset.mbx with inflight := [movedCmd] },
                     ring := { State.reset.ring with plans := [(1, movedRec 0)], moved := [(1, movedRec 0), (1, movedRec 1)] } }

/-- The ring of node 1 after an outcome. -/
def ringAfter : Host.Outcome State Fault Refusal → Nat
  | .next t => t.nodeRing 1
  | _ => 0

theorem ringAfter_movedTwice : ringAfter (exec (.ringNodeSet 0 0) movedTwice) = 1 := by decide

/-- Refutes O23: with a node twice in the table of moved nodes, a record that says what the first entry says changes the node's ring to that of the second. -/
theorem not_nodeTable : ¬ Obligations.NodeTable := by
  unfold Obligations.NodeTable
  rintro ⟨_, _, _, _, _, _, hkeeps, _⟩
  obtain ⟨t, ht, hring⟩ := hkeeps movedTwice 0 0 movedCmd (movedRec 0) (movedRec 0) (by decide) (by decide) (by decide) (by decide) (by decide) (by decide)
    (by decide) (by decide) (by decide) rfl
  have hafter : t.nodeRing 1 = 1 := (congrArg ringAfter ht).symm.trans ringAfter_movedTwice
  exact absurd (hafter.symm.trans hring) (by decide)

end Sys2Proof.Machine

namespace Sys2Proof.Machine

/-!
PROOF. Basalt's commands and loop frames (chapters 05 and 06).
-/

/-! ### Loop windows (R140, R172) -/

/-- Where a module stands in its cycle, and the references that wait for its next window. -/
def State.turn (s : State) : Nat × Nat × BitVec 32 × List (Option Nat × List (Nat × Int)) := (s.ring.window, s.ring.winLeft, s.ring.cycle, s.bas.refWait)

theorem State.turn_of_ring_bas {s t : State} (hring : t.ring = s.ring) (hwait : t.bas.refWait = s.bas.refWait) : t.turn = s.turn := by
  simp [State.turn, hring, hwait]

theorem ReportFrame.turn {s t : State} (h : ReportFrame s t) : t.turn = s.turn := by
  simp [State.turn, h.ring_window, h.ring_winLeft, h.ring_cycle, h.bas_refWait]

@[simp] theorem State.turn_raise (s : State) (a c o : Nat) : (s.raise a c o).turn = s.turn := (State.report_raise s a c o).turn
@[simp] theorem State.turn_report (s : State) (a o : Nat) : (s.report a o).turn = s.turn := (State.report_frame s a o).turn
@[simp] theorem State.turn_updInst (s : State) (i : Nat) (f : Inst → Inst) : (s.updInst i f).turn = s.turn := rfl
@[simp] theorem State.turn_updStage (s : State) (i : Nat) (f : Stage → Stage) : (s.updStage i f).turn = s.turn := rfl
@[simp] theorem State.turn_traceHit (s : State) (k i : Nat) : (s.traceHit k i).turn = s.turn := rfl
@[simp] theorem State.turn_fail (s : State) (u st : Nat) : (s.fail u st).turn = s.turn := rfl
@[simp] theorem State.turn_okUid (s : State) (u : Nat) (r : List Byte) : (s.okUid u r).turn = s.turn := rfl
@[simp] theorem State.turn_emit (s : State) (e : Emit) : (s.emit e).turn = s.turn := rfl

@[simp] theorem State.turn_failOpt (s : State) (u : Option Nat) (st : Nat) : (s.failOpt u st).turn = s.turn := by cases u <;> rfl
@[simp] theorem State.turn_okOpt (s : State) (u : Option Nat) (r : List Byte) : (s.okOpt u r).turn = s.turn := by cases u <;> rfl

theorem State.turn_roundDiv (s : State) (n : Int) (d : Nat) : (s.roundDiv n d).2.turn = s.turn := by
  unfold State.roundDiv
  split <;> rfl

theorem State.turn_softRef (s : State) (w : Nat) (y : Int) (e : Nat × Nat) : (s.softRef w y e).2.turn = s.turn := by
  simp only [State.softRef, State.turn_updStage]
  split_ifs
  · exact State.turn_roundDiv ..
  · exact State.turn_roundDiv ..

theorem State.turn_softStartRef (s : State) (i w : Nat) (y : Int) : (s.softStartRef i w y).turn = s.turn := by
  have hfold := foldl_leaves (fun a : Option Int × State => a.2.turn) (g := fun (a : Option Int × State) e =>
    let v := a.2.softRef w y e
    (some (min v.1 (a.1.getD v.1)), v.2)) (fun a e => a.2.turn_softRef w y e) (s.softStages i) (none, s)
  simp only [State.softStartRef]
  split
  · exact hfold
  · rfl

theorem State.turn_injAt (s : State) (g : Gen) : (s.injAt g).2.turn = s.turn := by
  have hsine : ∀ a p, (s.sineAt a p).2.turn = s.turn := by
    intro a p
    simp only [State.sineAt]
    split <;> rfl
  simp only [State.injAt]
  split
  · rfl
  · split
    · exact hsine ..
    · rfl
    · rfl
    · exact hsine ..

theorem State.turn_injOf (s : State) (i : Nat) : (s.injOf i).2.turn = s.turn := by
  simp only [State.injOf]
  split
  · rfl
  · exact State.turn_injAt ..

theorem State.turn_genAdvance (s : State) (i : Nat) (gen : Option (Nat × Gen)) (inj : Int) (w : Nat) : (s.genAdvance i gen inj w).turn = s.turn := by
  have hstep : ∀ g, (s.injStep g).2.turn = s.turn := by
    intro g
    simp only [State.injStep]
    split
    · split
      · exact State.turn_roundDiv ..
      · rfl
    · rfl
  have hstarted : ∀ (t : State) g k, (t.genStarted g k w).turn = t.turn := by
    intro t g k
    unfold State.genStarted
    split <;> rfl
  cases gen with
  | none => rfl
  | some e =>
    obtain ⟨n, g⟩ := e
    exact (hstarted ..).trans (hstep g)

theorem State.turn_trackDone (s : State) (i : Nat) : (s.trackDone i).turn = s.turn := by
  simp only [State.trackDone]
  split
  · split <;> simp
  · split_ifs <;> simp

theorem State.turn_ite {p : Prop} [Decidable p] {a b s : State} (ha : a.turn = s.turn) (hb : b.turn = s.turn) : (if p then a else b).turn = s.turn := by
  split
  · exact ha
  · exact hb

theorem State.turn_ite_fst {β : Type} {p : Prop} [Decidable p] {a b : State × β} {s : State} (ha : a.1.turn = s.turn) (hb : b.1.turn = s.turn) :
    (if p then a else b).1.turn = s.turn := by
  split
  · exact ha
  · exact hb

theorem State.turn_evalInst (s : State) (i w : Nat) (y : Int) (word1 : Option Int) : (s.evalInst i w y word1).turn = s.turn := by
  simp only [State.evalInst, State.turn_trackDone, State.turn_genAdvance, State.turn_updInst]
  have hstart : ((s.softStartRef i w y).injOf i).2.turn = s.turn := (State.turn_injOf ..).trans (State.turn_softStartRef ..)
  generalize (s.softStartRef i w y).injOf i = inj at hstart ⊢
  have hbase : ∀ (t : State), t.turn = s.turn → ∀ (f : Inst → Inst) (g : Inst → Inst),
      ((if ((s.softStartRef i w y).inst i).wrap then t.updInst i f else (t.updInst i g).traceHit 4 i).report SRC_BAS_WRAP i |>.raise 0x05 0x0001 i).turn = s.turn := by
    intro t ht f g
    rw [State.turn_raise, State.turn_report]
    exact State.turn_ite ht ht
  generalize (s.softStartRef i w y).repOf i = mem
  have hmem : ∀ f : Inst → Inst, ∀ p : (Nat × RepMem) → Tab RepMem, ∀ n : Nat, (match mem with
      | some m => if n = 0 then inj.2.updInst i f else { inj.2.updInst i f with bas := { (inj.2.updInst i f).bas with reps := p m } }
      | none => inj.2.updInst i f).turn = s.turn := by
    intro f p n
    cases mem with
    | none => exact hstart
    | some m => exact State.turn_ite hstart hstart
  refine State.turn_ite (hmem _ _ _) (State.turn_ite ?_ ?_)
  · exact hbase _ (hmem _ _ _) _ _
  · exact hbase _ (hmem _ _ _) _ _

theorem State.turn_armMemory (s : State) (i : Nat) : (s.armMemory i).turn = s.turn := by
  simp only [State.armMemory]
  split
  · rfl
  · exact State.turn_ite rfl rfl

theorem State.turn_armEffect (s : State) (i w mode : Nat) (uid : Option Nat) (left : Nat) (word1 : Bool) : (s.armEffect i w mode uid left word1).1.turn = s.turn := by
  simp only [State.armEffect]
  refine State.turn_ite_fst (State.turn_failOpt ..) (State.turn_ite_fst (State.turn_failOpt ..) (State.turn_ite_fst (State.turn_failOpt ..)
    (State.turn_ite_fst rfl ?_)))
  split
  · exact (State.turn_okOpt ..).trans (State.turn_armMemory ..)
  · exact (State.turn_okOpt ..).trans (State.turn_armMemory ..)
  · exact State.turn_armMemory ..

theorem State.turn_waitEffect (s : State) (i w : Nat) (c : BasWait) (word1 : Bool) : (s.waitEffect i w c word1).1.turn = s.turn := by
  cases c with
  | arm mode uid left => exact State.turn_armEffect ..
  | freeze uid =>
    exact State.turn_ite_fst (State.turn_failOpt ..) (State.turn_ite_fst (State.turn_okOpt ..) (State.turn_ite_fst (State.turn_okOpt ..) (State.turn_failOpt ..)))
  | release uid =>
    exact State.turn_ite_fst (State.turn_failOpt ..) (State.turn_ite_fst rfl (State.turn_ite_fst (State.turn_okOpt ..) (State.turn_failOpt ..)))
  | disarm uid => exact State.turn_ite_fst (State.turn_failOpt ..) (State.turn_okOpt ..)
  | take giver uid =>
    exact State.turn_ite_fst (State.turn_failOpt ..) (State.turn_ite_fst (State.turn_failOpt ..) (State.turn_armMemory ..))

theorem State.turn_waitEffects (s : State) (i w : Nat) (word1 : Bool) : (s.waitEffects i w word1).turn = s.turn := by
  unfold State.waitEffects
  refine (foldl_leaves State.turn (fun t c => ?_) _ _).trans rfl
  dsimp only
  split_ifs
  · have heffect := t.turn_waitEffect i w c.2 word1
    split
    · exact heffect
    · exact heffect
  · rfl

theorem State.turn_trackEnd (s : State) (i : Nat) : (s.trackEnd i).turn = s.turn := State.turn_ite (State.turn_trackDone ..) rfl

theorem State.turn_runSite (s : State) (i w : Nat) : (s.runSite i w).turn = s.turn := by
  have hbase : ((s.waitEffects i w true).trackEnd i).turn = s.turn := (State.turn_trackEnd ..).trans (State.turn_waitEffects ..)
  simp only [State.runSite]
  split_ifs
  · exact (State.turn_evalInst ..).trans hbase
  · exact hbase
  · exact hbase

theorem State.turn_runSites (s : State) (w : Nat) : (s.runSites w).turn = s.turn :=
  foldl_leaves State.turn (fun t i => t.turn_runSite i w) _ s

theorem State.turn_endGen (s : State) (k cause : Nat) : (s.endGen k cause).turn = s.turn := by
  simp only [State.endGen]
  split
  · exact State.turn_raise ..
  · exact State.turn_raise ..

theorem State.turn_genChecks (s : State) : s.genChecks.turn = s.turn := by
  refine foldl_leaves State.turn (fun t e => ?_) _ _
  refine State.turn_ite ?_ rfl
  split
  · exact State.turn_endGen ..
  · rfl

theorem State.turn_traceWindows (s : State) : s.traceWindows.turn = s.turn := by
  have hgone : s.traceGone.turn = s.turn := by
    unfold State.traceGone
    exact foldl_leaves State.turn (fun t e => by exact State.turn_ite (State.turn_raise ..) rfl) _ _
  refine (foldl_leaves State.turn (fun t e => ?_) _ _).trans hgone
  simp only [State.traceWindow]
  exact State.turn_ite rfl (State.turn_ite rfl rfl)

/-- The references of the last window have taken effect, and none waits any longer (R196). -/
theorem State.turn_windowEffects {s : State} {window left : Nat} {cycle : BitVec 32} {waits : List (Option Nat × List (Nat × Int))}
    (h : s.turn = (window, left, cycle, waits)) : s.windowEffects.turn = (window, left, cycle, []) := by
  have href : ∀ (t : State) e, (t.refEffect e).turn = t.turn := by
    intro t e
    unfold State.refEffect
    exact State.turn_ite (State.turn_failOpt ..) ((State.turn_okOpt ..).trans (foldl_leaves State.turn (by exact fun _ _ => rfl) _ _))
  have hends : ∀ t : State, t.turn = s.turn → ({ t with bas := { t.bas with refWait := [], repWait := [] } } : State).turn = (window, left, cycle, []) := by
    intro t ht
    obtain ⟨hw, hl, hc, _⟩ := by simpa only [State.turn, Prod.mk.injEq] using ht.trans h
    simp only [State.turn, hw, hl, hc]
  refine hends _ ((foldl_leaves State.turn (fun t e => ?_) _ _).trans (foldl_leaves State.turn href s.bas.refWait s))
  refine State.turn_ite rfl ?_
  split
  · rfl
  · rfl

theorem State.turn_halfCycle (s : State) : s.halfCycle.turn = s.turn := by
  have hdrain : ∀ (t : State) r, (t.drainRing r).turn = t.turn := by
    intro t r
    simp only [State.drainRing]
    exact (foldl_leaves State.turn (by exact fun _ _ => rfl) _ _).trans (foldl_leaves State.turn (by exact fun _ _ => rfl) _ _)
  exact (hdrain ..).trans (hdrain ..)

/-- A window opens: its number, the windows left of the cycle, and no reference waits any longer (R140, R196). -/
theorem execLoopWindow_turn {s : State} (h : s.ring.winLeft ≠ 0) : ∃ t : State, execLoopWindow s = .next t ∧
    t.turn = (2 * s.ring.cycle.toNat + (2 - s.ring.winLeft), s.ring.winLeft - 1, s.ring.cycle, []) := by
  refine ⟨_, if_neg h, ?_⟩
  rw [State.turn_traceWindows, State.turn_ite (State.turn_runSites ..) rfl, State.turn_genChecks]
  refine State.turn_windowEffects (waits := s.sendInputs.bas.refWait) ?_
  refine (State.turn_ite (foldl_leaves State.turn (by exact fun _ _ => rfl) _ _) rfl).trans (State.turn_halfCycle _)

/-! ### Loop frames (R144, R146, R172) -/

theorem length_padTo (n : Nat) (b : List Byte) : (padTo n b).length = n := by
  simp only [padTo, List.length_take, List.length_append, List.length_replicate]
  omega

theorem loopFrameBytes_spec (node e w fl : Nat) (l : List Nat) : (loopFrameBytes node e w fl l).length = 8 + 8 * ceilDiv l.length 4 ∧
    (loopFrameBytes node e w fl l).take 6 = pack [(2, node), (1, e), (1, w), (1, 4 * ceilDiv l.length 4), (1, fl)] := by
  have hhead : (pack [(2, node), (1, e), (1, w), (1, 4 * ceilDiv l.length 4), (1, fl)]).length = 6 := length_pack _
  refine ⟨?_, ?_⟩
  · simp only [loopFrameBytes, List.length_append, hhead, length_leBytes, length_padTo]
    omega
  · simp only [loopFrameBytes, List.append_assoc]
    exact List.take_left' hhead

theorem State.frameWindow_spec (s : State) {f : LoopFrame} (h : f.win ≤ 255) : s.ring.window ≤ s.frameWindow f + 255 ∧ s.frameWindow f ≤ s.ring.window ∧
    (255 ≤ s.ring.window → s.frameWindow f % 256 = f.win) := by
  simp only [State.frameWindow]
  omega

/-- Settles O29: the branches of a frame and of a slot, the bytes of a frame, and the window that opens. -/
theorem loopFrames : Obligations.LoopFrames := by
  unfold Obligations.LoopFrames
  refine ⟨?_, ?_, fun s f => s.frameWindow_spec, loopFrameBytes_spec, ?_, fun s f h => if_pos (.inl h), ?_, ?_, fun s h => if_pos h, ?_, fun s i => rfl, ?_⟩
  · intro s f hheld hring hcrc hup hvalid hlapsed htime hepoch hwin
    refine (if_neg (by simp [hheld, hring])).trans ((if_neg (by simp [hcrc])).trans ?_)
    exact (if_neg (by simp [hlapsed])).trans (if_pos ⟨hup, hvalid, htime, hepoch, hwin⟩)
  · intro s f hheld hring hcrc hlapsed
    exact (if_neg (by simp [hheld, hring])).trans ((if_neg (by simp [hcrc])).trans (if_pos hlapsed))
  · intro s f hheld hring hcrc
    refine ⟨_, (if_neg (by simp [hheld, hring])).trans (if_pos hcrc), ?_, rfl⟩
    change ((s.updNode f.node fun x => { x with crcErr := min (x.crcErr + 1) (2 ^ 32 - 1) }).node f.node).crcErr = _
    rw [State.node_updNode]
  · intro s n w i hheld hring hwin hmem hdrives
    have hdue : (s.dueOf n w).any (fun i => drives (s.inst i) || !(s.inst i).wait.isEmpty) = true :=
      List.any_eq_true.mpr ⟨i, hmem, by rw [hdrives, Bool.true_or]⟩
    exact (if_neg (by simp [hring, hdue, hwin])).trans (if_neg (by simp [hheld]))
  · intro s i u a hwait
    change execTrackingReportTimeout i s = _
    have hupd : (s.updInst i fun x => { x with wait := x.wait.filter fun c => !BasWait.tracks c }) = s.updInst i fun x => { x with wait := [] } := by
      simp only [State.updInst, hwait]
      rfl
    rw [execTrackingReportTimeout, hupd, hwait]
    rfl
  · intro s h
    obtain ⟨t, ht, hturn⟩ := execLoopWindow_turn h
    simp only [State.turn, Prod.mk.injEq] at hturn
    exact ⟨t, ht, hturn⟩
  · intro s i w u word1 hstate hnode harmable hbarred
    simp [State.armEffect, hstate, hnode, harmable, hbarred, State.failOpt]

end Sys2Proof.Machine

namespace Sys2Proof.Machine

/-! ### Basalt's commands: a counterexample to R192 as stated

The statement asks only that no session owns the loop. A cooling circuit that is not OFF owns its pump and valve loops too (R264), and a command on one
of them ends with ST_BUSY.
-/

/-- The status of the oldest command in flight after an outcome. -/
def firstStatus : Host.Outcome State Fault Refusal → Option Nat
  | .next t => t.mbx.inflight.head?.map InFlight.status
  | _ => none

/-- BAS_DISARM of loop 0. -/
def disarmCmd : InFlight where
  uid := 0
  q := 0
  entry := 0
  desc := { bytes := pack [(2, 0x0503), (2, 0), (60, 0)], data := [] }

/-- A module at reset, but that loop 0 is LOADED and is the pump loop of circuit 0, which is PRIMING. -/
def coolingOwned : State :=
  { State.reset with mbx := { State.reset.mbx with inflight := [disarmCmd] },
                     bas := { State.reset.bas with insts := [(0, { state := 1 })] },
                     cool := { State.reset.cool with recs := [(0, List.replicate 64 0)], circuits := [(0, { state := 1 })] } }

theorem firstStatus_coolingOwned : firstStatus (exec (.basDisarm 0 0) coolingOwned) = some ST_BUSY := by decide

/-- Refutes O28: a loop that no session owns but that is the pump loop of a circuit in PRIMING answers ST_BUSY to BAS_DISARM. -/
theorem not_basaltCommands : ¬ Obligations.BasaltCommands := by
  unfold Obligations.BasaltCommands
  rintro ⟨hcommands, _⟩
  obtain ⟨_, _, _, _, _, hdisarm, _⟩ := hcommands coolingOwned 0 0 disarmCmd
  obtain ⟨_, hloaded, _⟩ := hdisarm (by decide) (by decide) (by decide)
  have hok := (congrArg firstStatus (hloaded (by decide))).symm.trans firstStatus_coolingOwned
  exact absurd hok (by decide)

end Sys2Proof.Machine

namespace Sys2Proof.Machine

/-! ### Injections: a counterexample to R192 as stated

As with Basalt's commands, the statement asks only that no session owns the loop; a circuit that is not OFF owns its loops too (R264).
-/

/-- An injection record into loop 0: amplitude 1, one evaluation, seed 1. -/
def stepRec : Rec := pack [(2, 0), (1, 0), (1, 0), (2, 1), (1, 0), (1, 1), (4, 1), (4, 0), (4, 0), (2, 1), (2, 1), (8, 0)]

/-- TUNE_INJ_START of generator 0. -/
def injectCmd : InFlight where
  uid := 0
  q := 0
  entry := 0
  desc := { bytes := pack [(2, 0x0610), (2, 0), (4, 0), (4, 0), (4, 32), (48, 0)], data := stepRec }

/-- A module at reset, but that loop 0 is ARMED on the cabinet node 1 and is the pump loop of circuit 0, which is PRIMING. -/
def coolingArmed : State :=
  { State.reset with mbx := { State.reset.mbx with inflight := [injectCmd] },
                     ring := { State.reset.ring with plans := [(1, movedRec 0)] },
                     bas := { State.reset.bas with insts := [(0, { state := 2 })], coeffs := [(0, pack [(2, 1), (62, 0)])] },
                     cool := { State.reset.cool with recs := [(0, List.replicate 64 0)], circuits := [(0, { state := 1 })] } }

theorem firstStatus_coolingArmed : firstStatus (exec (.tuneInjStart 0 0) coolingArmed) = some ST_BUSY := by decide

/-- Refutes O30: an injection into the pump loop of a circuit in PRIMING, whose node no slot names, answers ST_BUSY and not ST_NO_LEAVE. -/
theorem not_tuneRows : ¬ Obligations.TuneRows := by
  unfold Obligations.TuneRows
  rintro ⟨_, ⟨hcommands, _⟩, _⟩
  obtain ⟨hstart, _⟩ := hcommands coolingArmed 0 0 injectCmd
  obtain ⟨_, hleave⟩ := hstart stepRec (by decide) (by decide) (by decide) (by decide) (by decide) (by decide) (by decide) (by decide) (by decide) (by decide)
    (by decide)
  have hnone := (congrArg firstStatus (hleave (by decide))).symm.trans firstStatus_coolingArmed
  exact absurd hnone (by decide)

end Sys2Proof.Machine

namespace Sys2Proof.Machine

/-!
PROOF. Power stages (chapter 08).
-/

@[simp] theorem State.stageExists_start (s : State) (u o : Nat) : (s.start u).stageExists o = s.stageExists o := rfl
@[simp] theorem State.stage_start (s : State) (u o : Nat) : (s.start u).stage o = s.stage o := rfl
@[simp] theorem State.nodeKind_start (s : State) (u n : Nat) : (s.start u).nodeKind n = s.nodeKind n := rfl
@[simp] theorem State.cabRefs_start (s : State) (u n : Nat) (r : Rec) : (s.start u).cabRefs n r = s.cabRefs n r := rfl
@[simp] theorem State.checkRefusal_start (s : State) (u o k : Nat) : (s.start u).checkRefusal o k = s.checkRefusal o k := rfl

@[simp] theorem State.stage_okUid (s : State) (u : Nat) (r : List Byte) (o : Nat) : (s.okUid u r).stage o = s.stage o := rfl
@[simp] theorem State.stage_emit (s : State) (e : Emit) (o : Nat) : (s.emit e).stage o = s.stage o := rfl

/-! ### The stage commands (R246 to R250) -/

/-- Settles O31: the branch that each clause names. -/
theorem stageCommands : Obligations.StageCommands := by
  unfold Obligations.StageCommands
  intro s q tag c
  refine ⟨?_, ?_, ?_, ?_, ?_, ?_, ?_, ?_⟩
  · intro r hc hr hkind hset hranges hrefs hfree
    have hany : (s.stg.stages.keep fun o _ => o % 65536 == c.desc.object).any (fun e => (e.2.state != 0 && e.2.state != 6) || e.2.owner == 1) = false := by
      rw [List.any_eq_false]
      intro e he
      obtain ⟨hmem, hnode⟩ := List.mem_filter.mp he
      obtain ⟨hstate, howner⟩ := hfree e hmem (by simpa using hnode)
      rcases hstate with h | h <;> simp [h, howner]
    exact startCommand_eq_of_starts hc (by simp [stgConfig, hr, hkind, hset, hranges, hrefs, hany])
  · exact fun hc hfree => startCommand_eq_of_starts hc (by simp [stgCheck, hfree])
  · intro hc hexists hlocked
    exact startCommand_eq_of_starts hc (by simp [stgCheck, State.checkRefusal, hexists, hlocked])
  · exact fun t hc hfree => startCommand_eq_of_starts hc (by simp only [stgEnable, hfree])
  · exact fun st t hc hrefused => startCommand_eq_of_starts hc (by simp only [stgEnable, hrefused])
  · intro hc hexists hrun hopen
    exact startCommand_eq_of_starts hc (by simp [stgDisable, hexists, hrun, hopen])
  · intro hc hexists hrest
    exact startCommand_eq_of_starts hc (by simp [stgDisable, hexists, hrest])
  · intro hc hlow hhigh hlen hlast
    exact startCommand_eq_of_starts hc (if_neg (by omega))

/-! ### Tokens (R233, R248) -/

theorem State.tokenValid_iff (s : State) (obj : Nat) : s.tokenValid obj = true ↔ ∃ k, (s.stage obj).token = some k ∧ k.seq = (s.stage obj).checkSeq ∧
    k.epoch = (s.node (obj % 65536)).epoch ∧ s.now < k.rxAt + k.validMs * ms := by
  simp only [State.tokenValid]
  split
  · next k hk => simp [hk, and_assoc]
  · next hk => simp [hk]

/-- An enable that nothing refuses finds the stage READY with a valid token. -/
theorem State.ready_of_enableRefusal {s t : State} {obj owner v d l : Nat} (h : s.enableRefusal obj owner v d l = (none, t)) :
    (s.stage obj).state = 2 ∧ s.tokenValid obj = true := by
  simp only [State.enableRefusal] at h
  split_ifs at h with _ _ _ hhigh hlow _ _ _ htoken
  all_goals try cases congrArg Prod.fst h
  exact ⟨by omega, by simpa using htoken⟩

theorem State.enableRefusal_of_state {s : State} {obj owner v d l : Nat} (hexists : s.stageExists obj = true) (hv : v ≤ 1500) (hd : d ≤ 500) (hl : l ≤ 10000)
    (howner : (s.stage obj).owner = 1 → owner ≠ 0) : s.enableRefusal obj owner v d l =
      if (s.stage obj).state = 6 then (some ST_LOCKED_OUT, s)
      else if 3 ≤ (s.stage obj).state then (some ST_BUSY, s)
      else if (s.stage obj).state < 2 then (some ST_NO_TOKEN, s)
      else s.enableRefusal obj owner v d l := by
  have hin : ¬(s.stageExists obj = false ∨ 1500 < v ∨ 500 < d ∨ 10000 < l) := by simp [hexists]; omega
  simp only [State.enableRefusal, if_neg hin, if_neg fun h : (s.stage obj).owner = 1 ∧ owner = 0 => howner h.1 h.2]
  split_ifs <;> rfl

/-! ### Capabilities (R243) -/

theorem activePhases_le (f : BitVec 96) (c : Conv) (first : Nat) : activePhases f c first ≤ c.phases := by
  simpa [activePhases] using List.length_filter_le (fun j => !f.getLsbD (first + j)) (List.range c.phases)

theorem activePhases_or_le (f g : BitVec 96) (c : Conv) (first : Nat) : activePhases (f ||| g) c first ≤ activePhases f c first := by
  unfold activePhases
  rw [← List.countP_eq_length_filter, ← List.countP_eq_length_filter]
  refine List.countP_mono_left fun j _ h => ?_
  simp only [BitVec.getLsbD_or, Bool.not_or, Bool.and_eq_true] at h
  exact h.1

theorem State.stageCap60_le (s : State) (n k : Nat) : s.stageCap60 n k ≤ 60 * s.stageRating n k := by
  rw [State.stageCap60, State.stageRating, ← List.sum_map_mul_left]
  refine List.sum_le_sum fun e _ => ?_
  calc e.1.ratingKw * activePhases (s.stage (stageObj n k)).fenced e.1 e.2 * (60 / max 1 e.1.phases)
      ≤ e.1.ratingKw * max 1 e.1.phases * (60 / max 1 e.1.phases) :=
        Nat.mul_le_mul_right _ (Nat.mul_le_mul_left _ ((activePhases_le ..).trans (le_max_right ..)))
    _ ≤ e.1.ratingKw * 60 := by rw [Nat.mul_assoc]; exact Nat.mul_le_mul_left _ (Nat.mul_div_le ..)
    _ = 60 * e.1.ratingKw := Nat.mul_comm ..

theorem State.stageKw_le_stageRating (s : State) (n o : Nat) : s.stageKw n (o + 1) ≤ s.stageRating n (o + 1) := by
  have hcap := s.stageCap60_le n (o + 1)
  simp only [State.stageKw, Nat.add_sub_cancel, State.capability, if_neg (Nat.succ_ne_zero o)]
  split_ifs with hin
  · exact Nat.div_le_of_le_mul hcap
  · refine Nat.div_le_of_le_mul ?_
    have hden : s.stageCap60 n (o + 1) * max 1 (s.outRating n) ≤ 60 * s.stageRating n (o + 1) * max 1 (s.outRating n) := Nat.mul_le_mul_right _ hcap
    calc s.stageCap60 n 0 * s.stageRating n (o + 1) ≤ s.stageCap60 n (o + 1) * max 1 (s.outRating n) := Nat.le_of_lt (Nat.not_le.mp hin)
      _ ≤ 60 * s.stageRating n (o + 1) * max 1 (s.outRating n) := hden
      _ = 60 * max 1 (s.outRating n) * s.stageRating n (o + 1) := by ring

/-- Settles O32: the order of the checks of an enable, and the capability as a sum over converters. -/
theorem tokenAndCapability : Obligations.TokenAndCapability := by
  unfold Obligations.TokenAndCapability
  refine ⟨⟨fun s t obj owner v d l => State.ready_of_enableRefusal, ?_, State.tokenValid_iff, ?_⟩, fun s n o _ => s.stageKw_le_stageRating n o, ?_⟩
  · intro s obj owner v d l hexists hv hd hl howner
    have heq := State.enableRefusal_of_state hexists hv hd hl howner
    refine ⟨fun h => heq.trans (if_pos h), fun h => ?_, fun h => ?_⟩
    · rw [heq, if_neg (by omega), if_neg (by omega), if_pos h]
    · rw [heq, if_neg (by omega), if_pos (by omega)]
  · intro s obj owner v d l u
    simp only [State.enableStage, State.stage_emit, State.stage_updStage, true_and]
    exact fun o ho => State.stage_updStage_of_ne s _ ho
  · intro s n k f
    simp only [State.stageCap60, State.stage_updStage]
    refine List.sum_le_sum fun e _ => ?_
    exact Nat.mul_le_mul_right _ (Nat.mul_le_mul_left _ (activePhases_or_le ..))

/-! ### Events of a stage (R231 to R239) -/

theorem bit_two_add_item {f : Nat} (own : Bool) : bit (f + if own then 0 else 32) 2 = bit f 2 := by
  cases own with
  | true => rfl
  | false =>
    simp only [bit, Nat.testBit_eq_decide_div_mod_eq, Bool.false_eq_true, if_false, decide_eq_decide]
    omega

/-- The end of a soft start with the command that waits for it, if any (R235). -/
theorem execSoftStartEnd_eq {s : State} {o t : Nat} (hnear : (s.stage o).nearSince = some t) (hstate : (s.stage o).state = 3) (hdue : t + ms ≤ s.now) :
    execSoftStartEnd o s =
      let u := s.updStage o fun x => { x with state := 4, uid := none, nearSince := none, refInst := none, v0 := none }
      match (s.stage o).uid with
      | some c => .next (u.okUid c (enableResult (s.stage o) s.now))
      | none => .next u := by
  simp only [execSoftStartEnd, hnear, hstate, hdue, and_self, if_true] <;> rfl

@[simp] theorem State.armMemory_stg (s : State) (i : Nat) : (s.armMemory i).stg = s.stg := by
  simp only [State.armMemory]
  split
  · rfl
  · split <;> rfl

theorem State.stopped_of_stg_eq {s t : State} (h : t.stg = s.stg) (i : Nat) : t.stopped i = s.stopped i := by
  unfold State.stopped State.stagesCommanded State.stage
  rw [h]

@[simp] theorem State.inst_okOpt (s : State) (u : Option Nat) (r : List Byte) (i : Nat) : (s.okOpt u r).inst i = s.inst i := by cases u <;> rfl

/-- A loop armed in mode CONTINUE on a stopped stage starts from zero (R239). -/
theorem State.armEffect_stopped {s : State} {i w : Nat} {u : Option Nat} (hstate : (s.inst i).state = 1) (harmable : s.nodeArmable (coefNode (s.coef i)) = 0)
    (hbarred : s.startBarred i = false) (hstopped : s.stopped i = true) :
    ((s.armEffect i w 1 u 2 true).1.inst i).trackFrom = some 0 ∧ ((s.armEffect i w 1 u 2 true).1.inst i).track = true := by
  have hzero : (s.armMemory i).stopped i = true := (State.stopped_of_stg_eq (s.armMemory_stg i) i).trans hstopped
  have heq : s.armEffect i w 1 u 2 true = ((((s.armMemory i).updInst i fun x => (x.armed w).fromZero ((s.armMemory i).stopped i)).okOpt u
      (armResult (s.coef i) (s.inst i) w), none) : State × Option BasWait) := by
    simp [State.armEffect, hstate, harmable, hbarred]
  rw [heq, hzero]
  simp [Inst.fromZero]

/-- Settles O33: the branch of each event, and the stage that it writes. -/
theorem stageEvents : Obligations.StageEvents := by
  unfold Obligations.StageEvents
  refine ⟨fun s node stage seq failed => rfl, ?_, ?_, ?_, ?_, ?_, ?_, ?_, ?_, ?_, ?_, fun s o h => if_pos h, fun s o l => rfl, fun s n h => if_neg h, ?_⟩
  · intro s node stage seq failed hhears hstage hbit hfailed hstate
    have hbit' : ¬bit (failed % 32 + if s.safetyItem node stage then 0 else 32) 2 = true := by rw [bit_two_add_item, hbit]; decide
    have hitems : (failed % 32 + if s.safetyItem node stage then 0 else 32) ≠ 0 := by omega
    simp only [State.checkDone]
    rw [if_neg (by simp [hhears]; omega), if_neg hbit', if_neg (by simp [hstate]), if_pos hitems]
  · exact fun s o hstate hdue => if_pos ⟨hstate, hdue⟩
  · intro s o k hk hstate hdue
    change execTokenExpiry o s = _
    rw [execTokenExpiry, hk]
    exact if_pos ⟨hstate, hdue⟩
  · intro s o t hnear hstate hdue
    have hothers : ∀ (f : Stage → Stage) (p : Nat), p ≠ o → (s.updStage o f).stage p = s.stage p := fun f p hp => State.stage_updStage_of_ne s f hp
    change ∃ u, execSoftStartEnd o s = .next u ∧ _
    rw [execSoftStartEnd_eq hnear hstate hdue]
    cases (s.stage o).uid with
    | none => exact ⟨_, rfl, congrArg Stage.state (State.stage_updStage ..), rfl, hothers _⟩
    | some c =>
      refine ⟨_, rfl, ?_, rfl, ?_⟩
      · rw [State.stage_okUid, State.stage_updStage]
      · simpa only [State.stage_okUid] using hothers _
  · exact fun s o hstate hdue => if_pos ⟨hstate, hdue⟩
  · rintro s _ o hstate rfl
    change execSoftStartShort o s = _
    simp [execSoftStartShort, hstate]
  · rintro s _ o hstate hcut rfl
    change execSoftStartShort o s = _
    simp [execSoftStartShort, hstate, hcut]
  · exact fun x now => ⟨fun h => if_pos h, fun h => if_neg h⟩
  · intro s o seq f hstate hf
    have hupd : (s.updStage o fun x =>
        { x with checkSeq := seq, lastFail := if x.state = 1 ∨ x.checkSeq ≠ seq then f else f ||| (x.lastFail &&& 32) }) =
        s.updStage o fun x => { x with checkSeq := seq, lastFail := f } := by
      simp [State.updStage, hstate]
    simp only [State.checkSeen, hupd]
    rw [if_neg (by simp [hstate, hf])]
    split <;> rfl
  · exact fun s i w u => State.armEffect_stopped
  · intro s o seq f hstate hseq
    have hupd : (s.updStage o fun x =>
        { x with checkSeq := seq, lastFail := if x.state = 1 ∨ x.checkSeq ≠ seq then f else f ||| (x.lastFail &&& 32) }) =
        s.updStage o fun x => { x with checkSeq := seq, lastFail := f ||| (x.lastFail &&& 32) } := by
      simp [State.updStage, hstate, hseq]
    simp only [State.checkSeen, hupd]
    exact if_pos (.inl hstate)

end Sys2Proof.Machine

namespace Sys2Proof.Machine

/-!
PROOF. Cable cooling (chapter 09).
-/

@[simp] theorem State.ctxOf_start (s : State) (u n : Nat) : (s.start u).ctxOf n = s.ctxOf n := rfl
@[simp] theorem State.circuit_start (s : State) (u n : Nat) : (s.start u).circuit n = s.circuit n := rfl
@[simp] theorem State.circuitRec_start (s : State) (u n : Nat) : (s.start u).circuitRec n = s.circuitRec n := rfl
@[simp] theorem State.circuitOk_start (s : State) (u n : Nat) (r : Rec) : (s.start u).circuitOk n r = s.circuitOk n r := rfl
@[simp] theorem State.pinOf_start (s : State) (u n : Nat) : (s.start u).pinOf n = s.pinOf n := rfl
@[simp] theorem State.held_start (s : State) (u k o r : Nat) : (s.start u).held k o r = s.held k o r := rfl
@[simp] theorem State.coolOwns_start (s : State) (u i : Nat) : (s.start u).coolOwns i = s.coolOwns i := rfl
@[simp] theorem State.inst_start (s : State) (u i : Nat) : (s.start u).inst i = s.inst i := rfl

/-! ### The commands (R264, R268 to R271) -/

theorem State.coolOwns_iff (s : State) (i : Nat) :
    s.coolOwns i = true ↔ ∃ e ∈ s.cool.recs, (coolPump e.2 = i ∨ coolValve e.2 = i) ∧ (s.circuit e.1).state ≠ 0 := by
  simp [State.coolOwns, State.circuit]

theorem State.sessionOwns_of_coolOwns {s : State} {i : Nat} (h : s.coolOwns i = true) : s.sessionOwns i = true := by
  simp [State.sessionOwns, h]

theorem State.circuitRecord_spec (s : State) (n : Nat) : (s.circuitRecord n).1.length = 32 ∧ (s.circuitRecord n).2 = { s with fresh := (s.circuitRecord n).2.fresh } := by
  have hcenti : ∀ (t : State) x, (t.centi x).2 = { t with fresh := (t.centi x).2.fresh } := by
    intro t x
    simp only [State.centi, State.roundDiv]
    split <;> rfl
  simp only [State.circuitRecord]
  split
  · exact ⟨length_padTo .., rfl⟩
  · refine ⟨by simp [leInt], ?_⟩
    rw [hcenti, hcenti]

/-- The records of a COOL_READ, 32 bytes for each circuit, and the free values drawn for them. -/
theorem State.circuitRecords_spec (l : List Nat) (first : Nat) (a : List Byte × State) :
    (l.foldl (fun (a : List Byte × State) j => let x := a.2.circuitRecord (first + j); (a.1 ++ x.1, x.2)) a).1.length = a.1.length + 32 * l.length ∧
      ∃ f, (l.foldl (fun (a : List Byte × State) j => let x := a.2.circuitRecord (first + j); (a.1 ++ x.1, x.2)) a).2 = { a.2 with fresh := f } := by
  induction l generalizing a with
  | nil => exact ⟨rfl, a.2.fresh, rfl⟩
  | cons j l ih =>
    obtain ⟨hlen, hstate⟩ := a.2.circuitRecord_spec (first + j)
    obtain ⟨hall, f, hend⟩ := ih (a.1 ++ (a.2.circuitRecord (first + j)).1, (a.2.circuitRecord (first + j)).2)
    refine ⟨?_, f, ?_⟩
    · rw [List.foldl_cons, hall, List.length_append, hlen, List.length_cons]
      omega
    · rw [List.foldl_cons, hend, hstate]

/-- Settles O34: the branch that each clause names. -/
theorem coolingCommands : Obligations.CoolingCommands := by
  unfold Obligations.CoolingCommands
  intro s q tag c
  refine ⟨?_, ?_, ?_, ?_, ?_, ?_, ?_, ?_, s.coolOwns_iff, ?_⟩
  · intro r hc hr hobj hset hok hoff
    exact startCommand_eq_of_starts hc (by simp [coolConfig, hr, Nat.not_lt.mpr hobj, hset, hok, hoff])
  · intro r hc hr hobj hzero hoff
    exact startCommand_eq_of_starts hc (by simp [coolConfig, hr, Nat.not_lt.mpr hobj, hzero, hoff])
  · intro hc hrec hctx
    have hset : (s.cool.recs.get? c.desc.object).isNone = false := by simpa using hrec
    refine ⟨fun h => ?_, fun h => ?_⟩
    · exact startCommand_eq_of_starts hc (by simp [coolStart, hset, hctx, h])
    · exact startCommand_eq_of_starts hc (by simp [coolStart, hset, hctx, h])
  · intro hc hrec hctx
    have hset : (s.cool.recs.get? c.desc.object).isNone = false := by simpa using hrec
    refine ⟨fun hlow hhigh => ?_, fun h => ?_⟩
    · have hrun : ¬((s.circuit c.desc.object).state = 0 ∨ (s.circuit c.desc.object).state = 4) := by omega
      exact startCommand_eq_of_starts hc (by simp [coolStop, hset, hctx, hrun])
    · exact startCommand_eq_of_starts hc (by simp [coolStop, hset, hctx, h])
  · intro hc hrec hctx hfailed hheld hcool hpin
    have hset : (s.cool.recs.get? c.desc.object).isNone = false := by simpa using hrec
    exact startCommand_eq_of_starts hc (by simp [coolReset, hset, hctx, hfailed, hheld, hcool, hpin])
  · intro hc hrec hctx hstate
    have hset : (s.cool.recs.get? c.desc.object).isNone = false := by simpa using hrec
    exact startCommand_eq_of_starts hc (by simp [coolReset, hset, hctx, hstate])
  · exact fun hc howned => startCommand_eq_of_starts hc (if_pos (State.sessionOwns_of_coolOwns (s := s.start c.uid) howned))
  · exact fun hc howned => startCommand_eq_of_starts hc (if_pos (State.sessionOwns_of_coolOwns (s := s.start c.uid) howned))
  · intro hc hlow hhigh hlen hlast
    obtain ⟨hall, f, hend⟩ := State.circuitRecords_spec (List.range (c.desc.u 34 2)) (c.desc.u 32 1) ([], s.start c.uid)
    refine ⟨_, _, startCommand_eq_of_starts hc (if_neg (by omega)), ?_, ?_⟩
    · rw [hall, List.length_range]
      exact Nat.zero_add _
    · rw [hend]

/-! ### Events (R256 to R264) -/

/-- A report keeps what raising an event, writing the collector and the reaction on its object keep (R522, R524). -/
theorem State.report_induct_of_hold {P : State → Prop} {source : Nat} {row : SourceRow} {o : Nat} (hrow : sourceRow source = some row)
    (hraise : ∀ (t : State) (a c o : Nat), P t → P (t.raise a c o)) (hflt : ∀ (t : State) (f : Flt), P t → P { t with flt := f })
    (hhold : ∀ (t : State) (r : Nat), P t → P (t.applyHold row.kind o r source)) {s : State} (h : P s) : P (s.report source o) := by
  have hdegraded : ∀ t : State, P t → P t.noteDegraded := by
    intro t ht
    simp only [State.noteDegraded]
    split
    · exact ht
    · exact hraise _ _ _ _ (hflt _ _ ht)
  have hite : ∀ (p : Prop) [Decidable p] (a b : State), P a → P b → P (if p then a else b) := by
    intro p _ a b ha hb
    split
    · exact ha
    · exact hb
  have htrip : ∀ (p : Prop) [Decidable p] (t : State) (l : List Nat), P t → P (if p then { t with flt := { t.flt with tripReq := l } } else t) :=
    fun p _ t l ht => hite p _ _ (hflt _ _ ht) ht
  have hplace : ∀ (p : Prop) [Decidable p] (t : State) (l : List Hold), P t → P (if p then t else { t with flt := { t.flt with holds := l } }) :=
    fun p _ t l ht => hite p _ _ ht (hflt _ _ ht)
  have hevent : ∀ (p : Prop) [Decidable p] (t : State), P t → P (if p then t.raise 0x12 0x0001 source else t) :=
    fun p _ t ht => hite p _ _ (hraise _ _ _ _ ht) ht
  simp only [State.report, State.reportWith, hrow]
  exact hite _ _ _ h (hdegraded _ (htrip _ _ _ (hhold _ _ (hplace _ _ _ (hevent _ _ (hflt _ _ h))))))

theorem State.circuit_of_cool_eq {s t : State} (h : t.cool = s.cool) (n : Nat) : t.circuit n = s.circuit n := by simp [State.circuit, h]

theorem State.lost_fenceCircuit (s : State) (m n : Nat) : ((s.fenceCircuit m).circuit n).lost = (s.circuit n).lost := by
  have hcool : (s.fenceCircuit m).cool = { s.cool with circuits := s.cool.circuits.upd m fun c => { c with state := 4, stops := [] } } :=
    foldl_leaves (fun t : State => t.cool) (by exact fun _ _ => rfl) _ _
  simp only [State.circuit, hcool, Tab.getD, Tab.get?_upd]
  split
  · cases s.cool.circuits.get? n <;> rfl
  · rfl

/-- Reporting a degraded circuit may fence it, and leaves which of its inputs are lost (R524). -/
theorem State.lost_report_degraded (s : State) (o n : Nat) : ((s.report SRC_COOL_DEGRADED o).circuit n).lost = (s.circuit n).lost := by
  refine State.report_induct_of_hold (P := fun t => (t.circuit n).lost = (s.circuit n).lost) (row := ⟨224, 5, 1, 6⟩) (by decide) (fun t a c k ht => ?_)
    (fun t f ht => ht) (fun t r ht => ?_) rfl
  · rw [State.circuit_of_cool_eq (t.raise_cool a c k), ht]
  · rw [State.applyHold, if_neg (by simp), State.applyHold0]
    split_ifs
    · exact ht
    · exact (t.lost_fenceCircuit o n).trans ht
    · exact ht

theorem State.updCircuit_cool (s : State) (n : Nat) (f : Circuit → Circuit) : s.updCircuit n f = { s with cool := (s.updCircuit n f).cool } := rfl

/-- Taking a sample changes the circuit's sample and the timers that follow it (R256, R258). -/
theorem State.takeSample_spec (s : State) (n : Nat) (r : Rec) (x : CoolSample) :
    s.takeSample n r x = { s with cool := (s.takeSample n r x).cool } ∧ ((s.takeSample n r x).circuit n).sample = some x ∧
      ((s.takeSample n r x).circuit n).state = (s.circuit n).state ∧ ((s.takeSample n r x).circuit n).lost = (s.circuit n).lost ∧
      ((s.takeSample n r x).circuit n).heldIn = (s.circuit n).heldIn ∧ ((s.takeSample n r x).circuit n).heldOut = (s.circuit n).heldOut := by
  simp only [State.takeSample, State.circuit_updCircuit]
  split <;> exact ⟨rfl, trivial, rfl, rfl, rfl, rfl⟩

theorem getLsbD_or_inputBit {k : Nat} (hk : k < 3) (b : BitVec 3) : (b ||| BitVec.ofNat 3 (2 ^ k)).getLsbD k = true := by
  interval_cases k <;> simp

theorem getLsbD_and_not_inputBit {k : Nat} (hk : k < 3) (b : BitVec 3) : (b &&& ~~~ BitVec.ofNat 3 (2 ^ k)).getLsbD k = false := by
  interval_cases k <;> simp

/-- Settles O35: the branches of the circuit's events, and the ramp of its cap. -/
theorem coolingEvents : Obligations.CoolingEvents := by
  unfold Obligations.CoolingEvents
  refine ⟨⟨?_, ?_, ?_, ?_, ?_, ?_, ?_, ?_, ?_, ?_, ?_⟩, ?_, ?_, ?_, ?_⟩
  · intro s n r a b pump p0 p1 f hrec
    obtain ⟨hframe, hsample, hstate, hlost, hin, hout⟩ := s.takeSample_spec n r ⟨s.now, a, b, f, pump, p0, p1⟩
    refine ⟨_, show execCoolingSample n a b f pump p0 p1 s = _ by rw [execCoolingSample, hrec], ?_⟩
    split
    · exact ⟨hsample, hstate, hlost, fun _ => ⟨hin, hout⟩, hframe⟩
    · rename_i hvalid
      rw [not_or, hlost] at hvalid
      rw [State.circuit_updCircuit]
      refine ⟨hsample, hstate, hlost, fun hbit => absurd hbit hvalid.1, ?_⟩
      rw [State.updCircuit_cool, hframe]
  · intro s n k hstate hk hhas hloss hactive
    refine ⟨_, if_pos ⟨hstate, hk, hhas, hloss, hactive⟩, ?_⟩
    have hbit : (((s.updCircuit n fun c => { c with lost := c.lost ||| BitVec.ofNat 3 (2 ^ k), okSince := c.okSince.del k, state := 3 }).raise 0x08 0x0003 n).circuit n).lost.getLsbD k = true := by
      rw [State.circuit_of_cool_eq (State.raise_cool ..), State.circuit_updCircuit]
      exact getLsbD_or_inputBit hk _
    split
    · rw [State.lost_report_degraded, hbit]
    · exact hbit
  · intro s n k hstate hk hlost hsince hactive
    refine ⟨_, if_pos ⟨hk, hlost, hsince, hactive⟩, ?_, ?_, rfl⟩
    · rw [State.circuit_updCircuit]
      exact getLsbD_and_not_inputBit hk _
    · rw [State.circuit_updCircuit]
      simp [hstate]
  · exact fun s n hstate hloss hsince => if_pos ⟨hstate, hloss, hsince⟩
  · exact fun s n hstate hdue => if_pos ⟨hstate, hdue⟩
  · exact fun s n h => if_pos h
  · exact fun s h => if_pos h
  · exact fun s n h => by simp [State.coolLimitKw, h]
  · exact fun s n r hrec h2 h3 => by simp [State.coolLimitKw, hrec, h2, h3]
  · intro s r hslot hfenced hlimit
    simp [State.leaveAsk, hslot, hfenced, State.noCooling, hlimit]
  · intro s n o cap htrip hcap hbelow hderated
    simp [State.observed, htrip, hcap, hbelow, hderated]
  · intro s n m k hm hk
    refine ⟨_, by rw [State.nextCap, hk, hm], ?_⟩
    rw [Option.getD_some]
    split <;> omega
  · intro s n m hm hnone
    by_cases htop : 1000 * coolIMax (s.circuitRec n) ≤ m + s.pn PAR_COOL_LOSS_RAMP_AS
    · exact .inl ⟨by simp only [State.nextCap, hnone, hm, if_pos htop], htop⟩
    · exact .inr (by simp only [State.nextCap, hnone, hm, if_neg htop])
  · intro s n hlost hheld
    simp [State.capTarget, hlost, hheld]
  · intro s n hlost hheld
    have hcount : lostCount (s.circuit n) = 1 := by
      rw [lostCount, hlost]
      rfl
    simp [State.capTarget, hcount, hlost, hheld]

end Sys2Proof.Machine

namespace Sys2Proof.Machine

/-!
PROOF. Vehicle sessions (chapter 10).
-/

@[simp] theorem State.outletOk_start (s : State) (u o : Nat) (r : Rec) : (s.start u).outletOk o r = s.outletOk o r := rfl
@[simp] theorem State.outDv_start (s : State) (u o : Nat) : (s.start u).outDv o = s.outDv o := rfl

/-! ### The commands (R296 to R300) -/

/-- Settles O36: the branch that each clause names. -/
theorem sessionCommands : Obligations.SessionCommands := by
  unfold Obligations.SessionCommands
  intro s q tag c
  refine ⟨?_, ?_, ?_, ?_, ?_, ?_, ?_, ?_, ?_, ?_, ?_, ?_⟩
  · intro r hc hr hobj hset hok hfree
    exact startCommand_eq_of_starts hc (by simp [sesOutletConfig, hr, Nat.not_lt.mpr hobj, hset, hok, hfree])
  · intro r hc hr hobj hzero hfree
    exact startCommand_eq_of_starts hc (by simp [sesOutletConfig, hr, Nat.not_lt.mpr hobj, hzero, hfree])
  · intro r hc hr hobj hok hused
    exact startCommand_eq_of_starts hc (by simp [sesOutletConfig, hr, Nat.not_lt.mpr hobj, hok, hused])
  · intro hc hrec hop
    have hset : (s.ses.recs.get? c.desc.object).isNone = false := by simpa using hrec
    obtain hop | hop := Nat.le_one_iff_eq_zero_or_eq_one.mp hop
    · exact startCommand_eq_of_starts hc (by simp [sesOutletState, hset, hop])
    · exact startCommand_eq_of_starts hc (by simp [sesOutletState, hset, hop])
  · intro hc hrec hop hlow
    have hset : (s.ses.recs.get? c.desc.object).isNone = false := by simpa using hrec
    exact startCommand_eq_of_starts hc (by simp [sesOutletState, hset, hop, Nat.not_le.mpr hlow])
  · intro hc hrec hop hhigh
    have hset : (s.ses.recs.get? c.desc.object).isNone = false := by simpa using hrec
    exact startCommand_eq_of_starts hc (by simp [sesOutletState, hset, hop, hhigh])
  · intro x hc hctx hstate hauth hop hacc
    exact startCommand_eq_of_starts hc (by simp [sesAuthoriseCmd, hctx, hstate, hauth, hop, Nat.not_lt.mpr hacc])
  · intro x hc hctx hstate hauth hop hacc
    exact startCommand_eq_of_starts hc (by simp [sesAuthoriseCmd, hctx, hstate, hauth, hop, Nat.not_lt.mpr hacc])
  · intro x hc hctx hnot
    have hrefused : x.state ≠ 2 ∨ x.auth ≠ 1 ∨ 1 < c.desc.u 32 1 ∨ 4095 < c.desc.u 34 2 := hnot.imp_right .inl
    exact startCommand_eq_of_starts hc (by rw [sesAuthoriseCmd, State.start_ses, hctx]; exact if_pos hrefused)
  · intro x hc hctx hrun hmode
    have hnine : x.state ≠ 9 := by omega
    exact startCommand_eq_of_starts hc (by simp [sesStop, hctx, Nat.not_lt.mpr hmode, hnine, Nat.ne_of_lt hrun])
  · intro x hc hctx hclosing hmode
    exact startCommand_eq_of_starts hc (by simp [sesStop, hctx, Nat.not_lt.mpr hmode, hclosing])
  · exact fun hc hlow hhigh hlen hlast => startCommand_eq_of_starts hc (if_neg (by omega))

/-! ### Events: a counterexample to R284 as stated

A vehicle is plugged at an outlet whose link is up and whose lock has been reported: its context does not stay in PLUGGED, but goes on to COMM at once.
-/

/-- An active module that is ready, with outlet 0 on connector 0 of node 0, its link up and LOCK_OK reported. -/
def linkedOutlet : State :=
  { State.reset with pair := { State.reset.pair with role := ROLE_ACTIVE }, sys := { State.reset.sys with ready := true },
                     ring := { State.reset.ring with nodes := [(0, { leased := true })] },
                     ses := { State.reset.ses with recs := [(0, List.replicate 64 0)], outlets := [(0, { link := true, lock := true })] } }

/-- The state of context 0 after a step. -/
def ctxStateAfter (o : Host.Outcome State Fault Refusal) : Option Nat := match o with
  | .next t => (t.ses.ctxs.get? 0).map Ctx.state
  | _ => none

theorem ctxStateAfter_linkedOutlet : ctxStateAfter (exec (.connectionEvent 0 0 0 .plugged) linkedOutlet) = some 2 := by decide

/-- Refutes O37: with link and lock given before PLUGGED, the new context is in COMM (state 2), not in PLUGGED (state 1). -/
theorem not_sessionEvents : ¬ Obligations.SessionEvents := by
  unfold Obligations.SessionEvents
  rintro ⟨⟨hplugged, _⟩, _⟩
  obtain ⟨t, ht, hstate, _⟩ := hplugged linkedOutlet 0 0 0 0 0 { outlet := 0 } (by decide) (by decide) (by decide) (by decide)
  have hcomm : (t.ses.ctxs.get? 0).map Ctx.state = some 2 := by
    rw [← ctxStateAfter_linkedOutlet, ht]
    rfl
  obtain ⟨x, hx, hxstate⟩ := Option.map_eq_some_iff.mp hcomm
  rw [Tab.getD, hx, Option.getD_some, hxstate] at hstate
  exact absurd hstate (by decide)

end Sys2Proof.Machine

namespace Sys2Proof.Machine

/-!
PROOF. Jasper metrology (chapter 11).
-/

@[simp] theorem State.chanRecOk_start (s : State) (u ch : Nat) (r : Rec) : (s.start u).chanRecOk ch r = s.chanRecOk ch r := rfl
@[simp] theorem State.calOk_start (s : State) (u ch : Nat) (r : Rec) : (s.start u).calOk ch r = s.calOk ch r := rfl
@[simp] theorem State.sealOpen_start (s : State) (u : Nat) : (s.start u).sealOpen = s.sealOpen := rfl
@[simp] theorem State.readingOpen_start (s : State) (u ch : Nat) : (s.start u).readingOpen ch = s.readingOpen ch := rfl
@[simp] theorem State.chan_start (s : State) (u ch : Nat) : (s.start u).chan ch = s.chan ch := rfl
@[simp] theorem State.chanRec_start (s : State) (u ch : Nat) : (s.start u).chanRec ch = s.chanRec ch := rfl
@[simp] theorem State.calRec_start (s : State) (u ch : Nat) : (s.start u).calRec ch = s.calRec ch := rfl

/-! ### Drawing free values -/

/-- The states differ in the free values drawn alone. -/
def State.DrawsTo (s t : State) : Prop := t = { s with fresh := t.fresh }

theorem State.DrawsTo.refl (s : State) : s.DrawsTo s := rfl

theorem State.DrawsTo.trans {s t u : State} (hst : s.DrawsTo t) (htu : t.DrawsTo u) : s.DrawsTo u := by
  unfold State.DrawsTo at *
  rw [htu, hst]

theorem State.drawsTo_drawInt (s : State) : s.DrawsTo s.drawInt.2 := rfl

theorem State.drawsTo_roundDiv (s : State) (n : Int) (d : Nat) : s.DrawsTo (s.roundDiv n d).2 := by
  rw [State.roundDiv]
  split <;> rfl

theorem State.length_mapOpen (s : State) (f : State → Nat → Int × State) (l : List Nat) : (s.mapOpen f l).1.length = l.length := by
  induction l generalizing s with
  | nil => rfl
  | cons k l ih => exact congrArg (· + 1) (ih _)

theorem State.drawsTo_mapOpen {f : State → Nat → Int × State} (hf : ∀ (t : State) (k : Nat), t.DrawsTo (f t k).2) (s : State) (l : List Nat) :
    s.DrawsTo (s.mapOpen f l).2 := by
  induction l generalizing s with
  | nil => exact State.DrawsTo.refl s
  | cons k l ih => exact (hf s k).trans (ih _)

/-! ### The commands (R333 to R337) -/

theorem length_leInt (n : Nat) (v : Int) : (leInt n v).length = n := by simp [leInt]

/-- A mean or an RMS of a channel in a record of MET_READ, by the kind of the channel (R335). -/
theorem State.drawsTo_mean (t : State) (dc : Bool) (a b : Int) (n : Nat) : t.DrawsTo (if dc then t.centiMean a n else t.centiRms b n).2 := by
  split <;> exact t.drawsTo_roundDiv _ _

theorem State.metRecord_spec (s : State) (ch : Nat) : (s.metRecord ch).1.length = 64 ∧ s.DrawsTo (s.metRecord ch).2 := by
  rw [State.metRecord]
  split
  · exact ⟨length_padTo .., State.DrawsTo.refl s⟩
  · refine ⟨by simp [length_pack, length_leInt, State.length_mapOpen], ?_⟩
    dsimp only
    refine State.DrawsTo.trans ?_ (State.drawsTo_mapOpen (fun t k => t.drawsTo_mean ..) _ _)
    refine State.DrawsTo.trans ?_ (State.drawsTo_mapOpen (fun t k => t.drawsTo_mean ..) _ _)
    refine State.DrawsTo.trans ?_ (State.drawsTo_roundDiv ..)
    refine State.DrawsTo.trans ?_ (State.drawsTo_roundDiv ..)
    exact State.drawsTo_roundDiv ..

/-- The records of a MET_READ, 64 bytes for each channel, and the free values drawn for them. -/
theorem State.metRecords_spec (l : List Nat) (first : Nat) (a : List Byte × State) :
    (l.foldl (fun (a : List Byte × State) j => let x := a.2.metRecord (first + j); (a.1 ++ x.1, x.2)) a).1.length = a.1.length + 64 * l.length ∧
      a.2.DrawsTo (l.foldl (fun (a : List Byte × State) j => let x := a.2.metRecord (first + j); (a.1 ++ x.1, x.2)) a).2 := by
  induction l generalizing a with
  | nil => exact ⟨rfl, State.DrawsTo.refl a.2⟩
  | cons j l ih =>
    obtain ⟨hlen, hdraws⟩ := a.2.metRecord_spec (first + j)
    obtain ⟨hall, hend⟩ := ih (a.1 ++ (a.2.metRecord (first + j)).1, (a.2.metRecord (first + j)).2)
    refine ⟨?_, hdraws.trans hend⟩
    rw [List.foldl_cons, hall, List.length_append, hlen, List.length_cons]
    omega

/-- A record that goes to the store under the open seal, or the status that refuses it (R333). -/
theorem State.sealedStore_eq (s : State) (c : InFlight) (w : MetStore) :
    (s.sealOpen = true → s.readingOpen c.desc.object = false → s.sealedStore c w = s.jasperStore c w) ∧
    (s.sealOpen = true → s.readingOpen c.desc.object = true → s.sealedStore c w = s.fail c.uid ST_BUSY) ∧
    (s.sealOpen = false → s.sealedStore c w = s.fail c.uid ST_LOCKED) :=
  ⟨fun ho hr => by simp [State.sealedStore, ho, hr], fun ho hr => by simp [State.sealedStore, ho, hr], fun ho => by simp [State.sealedStore, ho]⟩

/-- Settles O38: the branch that each clause names. -/
theorem metrologyCommands : Obligations.MetrologyCommands := by
  unfold Obligations.MetrologyCommands
  intro s q tag c
  refine ⟨?_, ?_, ?_, ?_, ?_, ?_, ?_, ?_, ?_, ?_, ?_, ?_⟩
  · intro r hc hr hobj hok
    have hvalid : ¬(263 < c.desc.object ∨ ¬allZero r = true ∧ ¬s.chanRecOk c.desc.object r = true) := by
      rintro (h | ⟨h1, h2⟩)
      · omega
      · exact hok.elim h1 h2
    have hstore : metChanConfig c (s.start c.uid) = (s.start c.uid).sealedStore c (.chan c.desc.object r) := by
      rw [metChanConfig, hr]
      exact if_neg hvalid
    obtain ⟨hgo, hbusy, hlocked⟩ := (s.start c.uid).sealedStore_eq c (.chan c.desc.object r)
    exact ⟨fun ho hread => startCommand_eq_of_starts hc (hstore.trans (hgo ho hread)), fun ho hread => startCommand_eq_of_starts hc (hstore.trans (hbusy ho hread)),
      fun ho => startCommand_eq_of_starts hc (hstore.trans (hlocked ho))⟩
  · intro r hc hr hok
    have hstore : metCalSet c (s.start c.uid) = (s.start c.uid).sealedStore c (.cal c.desc.object r) := by
      rw [metCalSet, hr]
      exact if_neg (not_not.mpr hok)
    obtain ⟨hgo, _, hlocked⟩ := (s.start c.uid).sealedStore_eq c (.cal c.desc.object r)
    exact ⟨fun ho hread => startCommand_eq_of_starts hc (hstore.trans (hgo ho hread)), fun ho => startCommand_eq_of_starts hc (hstore.trans (hlocked ho))⟩
  · intro hc hop hlen
    exact ⟨fun ho => startCommand_eq_of_starts hc (by simp [metSeal, hop, hlen, ho]), fun ho => startCommand_eq_of_starts hc (by simp [metSeal, hop, hlen, ho])⟩
  · exact fun hc hop hlen hm0 => startCommand_eq_of_starts hc (by simp [metSeal, hop, hlen, hm0])
  · intro hc hop hoption hlen hdata hmagic hversion hlow hhigh hz1 hz2 hsign hcert hverify
    have hm : ¬s.sys.metOption = 0#4 := hoption
    refine ⟨fun hid hcount => ?_, fun hcount => ?_⟩
    · exact startCommand_eq_of_starts hc
        (by simp [metSeal, hop, hm, hlen, hdata, hmagic, hversion, Nat.one_le_iff_ne_zero.mp hlow, Nat.not_lt.mpr hhigh, hz1, hz2, hsign, hcert, hverify, hid, hcount])
    · exact startCommand_eq_of_starts hc
        (by simp [metSeal, hop, hm, hlen, hdata, hmagic, hversion, Nat.one_le_iff_ne_zero.mp hlow, Nat.not_lt.mpr hhigh, hz1, hz2, hsign, hcert, hverify, hcount])
  · intro hc hlow hhigh hlen hlast
    obtain ⟨hall, hdraws⟩ := State.metRecords_spec (List.range (c.desc.u 34 2)) (c.desc.u 32 2) ([], s.start c.uid)
    refine ⟨_, _, startCommand_eq_of_starts hc (if_neg (by omega)), ?_, hdraws⟩
    rw [hall, List.length_range]
    exact Nat.zero_add _
  · intro h hc hlow hhigh hstate hharm
    exact startCommand_eq_of_starts hc (by simp [metHarmRead, Nat.not_lt.mpr hlow, Nat.not_lt.mpr hhigh, hstate, hharm])
  · exact fun hc hbad => startCommand_eq_of_starts hc (if_pos hbad)
  · exact fun hc hobj => startCommand_eq_of_starts hc (if_neg (Nat.not_lt.mpr hobj))
  · intro r hc hr hlow hhigh hqty hinv hconst hconst' hwidth hwidth' hz hchan
    have hvalid : ¬(c.desc.object < 2 ∨ 7 < c.desc.object ∨ (263 < pulseChan r ∧ pulseChan r ≠ 0xFFFF) ∨ 7 < pulseQty r ∨
        (pulseChan r ≤ 263 ∧ ¬(qtysOf (pulseChan r)).contains (pulseQty r) = true) ∨ 1 < fld r 3 1 ∨ pulseConst r = 0 ∨ 1000000 < pulseConst r ∨
        pulseWidth r = 0 ∨ 1000 < pulseWidth r ∨ ¬zeros r 10 6 = true) := by
      rintro (h | h | h | h | ⟨hmax, hnot⟩ | h | h | h | h | h | h)
      case inr.inr.inr.inr.inl =>
        obtain hnone | ⟨_, hmem⟩ := hchan
        · omega
        · exact hnot (List.contains_iff_mem.mpr hmem)
      case inr.inr.inr.inr.inr.inr.inr.inr.inr.inr => exact h hz
      all_goals omega
    refine startCommand_eq_of_starts hc ?_
    rw [metPulseSet, hr]
    exact if_neg hvalid
  · intro hc hobj hsel
    refine startCommand_eq_of_starts hc (if_neg ?_)
    rintro (h | ⟨hch, hbad⟩)
    · omega
    · obtain hnone | ⟨hrec, hmem⟩ := hsel
      · exact hch hnone
      · rw [List.contains_iff_mem] at hbad
        obtain hnone | hnot := hbad
        · rw [State.start_met, Option.isNone_iff_eq_none] at hnone
          simp [hnone] at hrec
        · exact hnot hmem
  · exact fun w => ⟨rfl, rfl⟩

/-! ### Sample blocks (R309 to R312) -/

theorem State.drawsTo_corrHead (s : State) (ch code : Nat) (raw exp : Int) : s.DrawsTo (s.corrHead ch code raw exp).2 := by
  simp only [State.corrHead]
  split
  · exact s.drawsTo_drawInt
  · exact State.DrawsTo.refl s

theorem State.drawsTo_corrSample (s : State) (ch : Nat) (l : List (Nat × Int × Int)) : s.DrawsTo (s.corrSample ch l).2 := by
  induction l generalizing s with
  | nil => exact State.DrawsTo.refl s
  | cons x l ih => exact (s.drawsTo_corrHead ch x.1 x.2.1 x.2.2).trans (ih _)

theorem State.drawsTo_foldl {β α : Type} {f : α × State → β → α × State} (hf : ∀ (a : α × State) (x : β), a.2.DrawsTo (f a x).2) (l : List β) (a : α × State) :
    a.2.DrawsTo (l.foldl f a).2 := by
  induction l generalizing a with
  | nil => exact State.DrawsTo.refl a.2
  | cons x l ih => exact (hf a x).trans (ih _)

theorem State.drawsTo_blockSums (s : State) (ch kind : Nat) (exps : List Int) (l : List (List Int)) : s.DrawsTo (s.blockSums ch kind exps l).2 := by
  simp only [State.blockSums]
  split
  · exact State.drawsTo_foldl (α := TickRec) (fun a x => by exact a.2.drawsTo_corrSample ch _) l ({}, s)
  · exact (State.drawsTo_foldl (α := TickRec) (fun a x => by exact a.2.drawsTo_corrSample ch _) l ({}, s)).trans (State.drawsTo_drawInt _)

/-- The block comes after the last one accepted, by less than half the range of its number (R310). -/
def MetChan.ahead (c : MetChan) (b : SampleBlock) : Bool := match c.seq with
  | some q => decide (1 ≤ (b.seq + 2 ^ 32 - q) % 2 ^ 32 ∧ (b.seq + 2 ^ 32 - q) % 2 ^ 32 < 2 ^ 31)
  | none => true

/-- Whether an accepted block does not follow the last one (R311). -/
def MetChan.jumps (c : MetChan) (b : SampleBlock) : Bool := match c.seq with
  | some q => (b.seq + 2 ^ 32 - q) % 2 ^ 32 != 1
  | none => true

/-- The milliseconds that an accepted block leaves to fill (R311). -/
def MetChan.fillBefore (c : MetChan) (r : Rec) (b : SampleBlock) : Int := match c.seq with
  | some q => fillOf r c ((b.seq + 2 ^ 32 - q) % 2 ^ 32 - 1)
  | none => 0

/-- A channel that has taken up a block, whose samples sum up to `x` before the end of the tick and to `y` after it (R311, R312). -/
def MetChan.taken (c : MetChan) (k : Int) (jump : Bool) (b : SampleBlock) (x y : TickRec) (now : Nat) : MetChan :=
  { c with
    seq := some b.seq, run := if jump then 1 else c.run + 1, got := true, gap := 0, filled := 0, last := x.join y,
    gapMs := min (2 ^ 32 - 1) ((c.gapMs : Int) + k).toNat, cur := (c.cur.join (c.last.times k)).join x, nxt := c.nxt.join y, overrange := b.overrange,
    overTick := c.overTick || b.overrange, overSince := if b.overrange then some (c.overSince.getD now) else none }

/-- The samples of a block before the end of the tick, and those after it. -/
def State.blockHeadSums (s : State) (ch : Nat) (r : Rec) (b : SampleBlock) : TickRec × State :=
  s.blockSums ch (metKind r) b.exps (b.samples.take b.split)
def State.blockTailSums (s : State) (ch : Nat) (r : Rec) (b : SampleBlock) : TickRec × State :=
  (s.blockHeadSums ch r b).2.blockSums ch (metKind r) b.exps (b.samples.drop b.split)

/-- The state that accepting a block leaves, the events aside. -/
def State.blockTaken (s : State) (ch : Nat) (r : Rec) (b : SampleBlock) : State :=
  (s.blockTailSums ch r b).2.updChan ch fun c =>
    c.taken ((s.chan ch).fillBefore r b) ((s.chan ch).jumps b) b (s.blockHeadSums ch r b).1 (s.blockTailSums ch r b).1 s.now

/-- The event of a fill that begins (R311). -/
def State.noteFill (s : State) (ch : Nat) (c : MetChan) (k : Int) : State := if 0 < k ∧ c.filled = 0 then s.raise 0x0A 0x0003 ch else s

/-- What SAMPLE_BLOCK does with a block of a head that a channel has (R309 to R312). -/
theorem execSampleBlock_of_head {s : State} {b : SampleBlock} {ch : Nat} {r : Rec} (hready : s.met.ready = true) (hclock : s.met.clock = true)
    (hhead : s.met.recs.find? (fun e => metSource e.2 == 1 && metHead e.2 == b.head) = some (ch, r)) :
    exec (.sampleBlock b) s =
      if s.tagOk b = true ∧ (s.chan ch).seq = some b.seq then .next s
      else if (s.tagOk b && b.hkind == metKind r && (s.chan ch).ahead b) = false then .next (s.updChan ch fun c => { c with dropped := c.dropped + 1 })
      else if b.sensorFault then .next s
      else .next (if b.overrange ∧ ¬(s.chan ch).overrange then
          ((s.blockTaken ch r b).noteFill ch (s.chan ch) ((s.chan ch).fillBefore r b)).raise 0x0A 0x0004 ch
        else (s.blockTaken ch r b).noteFill ch (s.chan ch) ((s.chan ch).fillBefore r b)) := by
  have hup : ¬(s.met.ready && s.met.clock) = false := by simp [hready, hclock]
  change execSampleBlock b s = _
  rw [execSampleBlock, if_neg hup, hhead]
  rfl

theorem State.chan_of_met_eq {s t : State} (h : t.met = s.met) (n : Nat) : t.chan n = s.chan n := by simp [State.chan, h]

theorem State.chan_updChan_of_ne (s : State) {n m : Nat} (h : m ≠ n) (f : MetChan → MetChan) : (s.updChan n f).chan m = s.chan m := by
  simp [State.updChan, State.chan, Tab.getD_set, h]

theorem State.noteFill_met (s : State) (ch : Nat) (c : MetChan) (k : Int) : (s.noteFill ch c k).met = s.met := by
  rw [State.noteFill]
  split
  · exact State.raise_met ..
  · rfl

theorem State.noteFill_of_le (s : State) (ch : Nat) (c : MetChan) {k : Int} (h : k ≤ 0) : s.noteFill ch c k = s := if_neg fun hk => absurd hk.1 (by omega)

theorem State.drawsTo_blockTailSums (s : State) (ch : Nat) (r : Rec) (b : SampleBlock) : s.DrawsTo (s.blockTailSums ch r b).2 :=
  (s.drawsTo_blockSums ..).trans (State.drawsTo_blockSums ..)

theorem State.blockTaken_eq (s : State) (ch : Nat) (r : Rec) (b : SampleBlock) :
    s.blockTaken ch r b = ({ s with fresh := (s.blockTailSums ch r b).2.fresh } : State).updChan ch fun c =>
      c.taken ((s.chan ch).fillBefore r b) ((s.chan ch).jumps b) b (s.blockHeadSums ch r b).1 (s.blockTailSums ch r b).1 s.now := by
  rw [State.blockTaken]
  have h : s.DrawsTo (s.blockTailSums ch r b).2 := s.drawsTo_blockTailSums ch r b
  generalize s.blockTailSums ch r b = y at h ⊢
  rw [h]

theorem State.chan_blockTaken_self (s : State) (ch : Nat) (r : Rec) (b : SampleBlock) :
    (s.blockTaken ch r b).chan ch = (s.chan ch).taken ((s.chan ch).fillBefore r b) ((s.chan ch).jumps b) b (s.blockHeadSums ch r b).1 (s.blockTailSums ch r b).1 s.now := by
  rw [State.blockTaken_eq]
  exact State.chan_updChan ..

theorem State.chan_blockTaken_of_ne (s : State) {ch d : Nat} (h : d ≠ ch) (r : Rec) (b : SampleBlock) : (s.blockTaken ch r b).chan d = s.chan d := by
  rw [State.blockTaken_eq]
  exact State.chan_updChan_of_ne _ h _

/-- A block that follows the last one leaves nothing to fill (R311). -/
theorem MetChan.fillBefore_le_zero {c : MetChan} {b : SampleBlock} (h : ∀ k, c.seq = some k → (b.seq + 2 ^ 32 - k) % 2 ^ 32 = 1) (r : Rec) : c.fillBefore r b ≤ 0 := by
  rw [MetChan.fillBefore]
  split
  · rename_i k hk
    rw [h k hk, fillOf]
    split <;> simp
  · exact le_refl 0

theorem MetChan.ahead_of {c : MetChan} {b : SampleBlock}
    (h : ∀ k, c.seq = some k → 1 ≤ (b.seq + 2 ^ 32 - k) % 2 ^ 32 ∧ (b.seq + 2 ^ 32 - k) % 2 ^ 32 < 2 ^ 31 ∧ k ≠ b.seq) : c.ahead b = true := by
  rw [MetChan.ahead]
  split
  · rename_i k hk
    obtain ⟨hlow, hhigh, _⟩ := h k hk
    exact decide_eq_true ⟨hlow, hhigh⟩
  · rfl

/-- Settles O39: the branch of each event, and what an accepted block writes. -/
theorem metrologyEvents : Obligations.MetrologyEvents := by
  unfold Obligations.MetrologyEvents
  refine ⟨?_, ?_, ?_, ?_, ?_, ?_, ?_, ?_, ?_, ?_⟩
  · intro s b hdown
    exact if_pos (by obtain h | h := hdown <;> simp [h])
  · intro s b ch r hready hclock hhead
    rw [execSampleBlock_of_head hready hclock hhead]
    refine ⟨fun htag hseq => if_pos ⟨htag, hseq⟩, fun hbad => ?_, fun htag hkind hover hseq => ?_⟩
    · have hnew : ¬(s.tagOk b = true ∧ (s.chan ch).seq = some b.seq) := by
        rintro ⟨htag, hseq⟩
        obtain h | ⟨_, h⟩ := hbad
        · simp [h] at htag
        · exact h hseq
      have hfails : (s.tagOk b && b.hkind == metKind r && (s.chan ch).ahead b) = false := by
        obtain h | ⟨h, _⟩ := hbad
        · simp [h]
        · simp [h]
      rw [if_neg hnew, if_pos hfails]
    · have hnew : ¬(s.tagOk b = true ∧ (s.chan ch).seq = some b.seq) := fun h => (hseq b.seq h.2).2.2 rfl
      have hpasses : ¬(s.tagOk b && b.hkind == metKind r && (s.chan ch).ahead b) = false := by simp [htag, hkind, MetChan.ahead_of hseq]
      rw [if_neg hnew, if_neg hpasses]
      refine ⟨fun hfault => if_pos hfault, fun hfault => ?_⟩
      rw [if_neg (by simp [hfault]), if_neg (by simp [hover])]
      generalize ht : (s.blockTaken ch r b).noteFill ch (s.chan ch) ((s.chan ch).fillBefore r b) = t
      have hchan : ∀ d, t.chan d = (s.blockTaken ch r b).chan d := State.chan_of_met_eq (ht ▸ State.noteFill_met ..)
      have hself := (hchan ch).trans (s.chan_blockTaken_self ch r b)
      refine ⟨t, rfl, ?_⟩
      rw [hself]
      refine ⟨rfl, rfl, rfl, rfl, if_neg (by simp [hover]), rfl, fun k hk => ?_, fun k hk hrun => ?_, fun d hd => (hchan d).trans (s.chan_blockTaken_of_ne hd r b), fun hnext => ?_⟩
      · simp only [MetChan.taken, MetChan.jumps, hk]
        split
        · rename_i hjump
          exact ⟨.inr rfl, fun h => absurd h (by simpa using hjump)⟩
        · exact ⟨.inl rfl, fun _ => rfl⟩
      · simp only [MetChan.taken, MetChan.fillBefore, hk, fillOf, if_pos hrun]
        congr 2
        omega
      · rw [← ht, State.noteFill_of_le _ _ _ (MetChan.fillBefore_le_zero hnext r), State.blockTaken_eq]
        rfl
  · exact fun s k hk hstep hcalm => if_pos ⟨hk, hstep, hcalm⟩
  · exact fun s ch hrun hgap => if_pos ⟨hrun, hgap⟩
  · intro s ch t hrun hsince hdue
    refine if_pos ⟨hrun, ?_⟩
    rw [hsince]
    exact decide_eq_true hdue
  · intro s ch hheld hfull hcheck
    exact ⟨fun hstate hrun => if_pos ⟨hstate, hrun, hheld, hfull, hcheck⟩, fun hstate hrun => if_neg fun h => absurd h.2.1 (by omega),
      fun hstate hrun => if_pos ⟨hstate, hrun, hheld, hfull, hcheck⟩⟩
  · exact fun s ch f l hch hrec => if_pos ⟨hch, hrec⟩
  · intro s o t ho hsince hdue
    refine if_pos ?_
    rw [if_neg (by omega), hsince]
    exact decide_eq_true hdue
  · intro s t hend hdue
    change execSealExpiry s = _
    rw [execSealExpiry, hend]
    exact if_pos hdue
  · intro s t hend hopen
    change execSealExpiry s = _
    rw [execSealExpiry, hend]
    exact if_neg (by omega)

end Sys2Proof.Machine

namespace Sys2Proof.Machine

/-!
PROOF. Legal registers, tariffs and readings (chapter 12).
-/

@[simp] theorem State.table_start (s : State) (u k : Nat) : (s.start u).table k = s.table k := rfl
@[simp] theorem State.accountInUse_start (s : State) (u k : Nat) : (s.start u).accountInUse k = s.accountInUse k := rfl
@[simp] theorem State.balance_start (s : State) (u k : Nat) : (s.start u).balance k = s.balance k := rfl

/-! ### The commands (R343, R356, R357, R366, R373, R374) -/

theorem Tab.keep_eq_self {α : Type} {t : Tab α} {f : Nat → α → Bool} (h : ∀ e ∈ t, f e.1 e.2 = true) : t.keep f = t := List.filter_eq_self.mpr h

theorem State.storeNote_live (s : State) : s.storeNote.bil.live = s.bil.live := by
  simp only [State.storeNote]
  split
  · rw [State.raise_bil]
  · rfl

/-- Acknowledging entries of an empty log, with nothing waiting and both stores a quarter free, resumes registration (R366, R367). -/
theorem State.ackLog_of_empty {s : State} {n : Nat} (hwait : s.bil.live.waiting = []) (hlog : s.bil.live.log = [])
    (hentries : 16384 ≤ 4 * (16384 - (s.bil.live.logHead - max s.bil.live.acked n))) (hslots : 4096 ≤ 4 * (4096 - s.bil.live.readings.length)) :
    (s.ackLog n).bil.live.acked = max s.bil.live.acked n ∧ (s.ackLog n).bil.full = false := by
  have hread : (s.bil.live.readings.keep fun k _ => !((s.bil.live.log.keep fun j _ => decide (j ≤ n)).any fun e => readingOf e.2 == some k)) = s.bil.live.readings :=
    Tab.keep_eq_self (by simp [hlog, Tab.keep])
  generalize ht : (s.updBil fun l => { l with
    log := l.log.keep fun k _ => decide (n < k), notTrade := l.notTrade.keep fun k _ => decide (n < k), acked := max l.acked n,
    readings := l.readings.keep fun k _ => !((s.bil.live.log.keep fun j _ => decide (j ≤ n)).any fun e => readingOf e.2 == some k) }) = t
  have hlive : (State.logDrain t.bil.live.waiting t).storeNote.bil.live = { t.bil.live with waiting := [] } := by
    rw [State.storeNote_live, ← ht, State.updBil, hwait]
    rfl
  have hack : s.ackLog n = let u := (State.logDrain t.bil.live.waiting t).storeNote
      if 0 < u.logFree ∧ 0 < u.slotsFree then { u with bil := { u.bil with full := false } } else u := by
    rw [← ht]
    rfl
  have hroom : 0 < (State.logDrain t.bil.live.waiting t).storeNote.logFree ∧ 0 < (State.logDrain t.bil.live.waiting t).storeNote.slotsFree := by
    rw [State.logFree, State.slotsFree, hlive, ← ht]
    simp only [State.updBil, hread]
    omega
  rw [hack]
  simp only [if_pos hroom]
  rw [hlive, ← ht]
  exact ⟨rfl, trivial⟩

/-- Settles O40: the branch that each clause names. -/
theorem billingCommands : Obligations.BillingCommands := by
  unfold Obligations.BillingCommands
  intro s q tag c
  refine ⟨?_, ?_, ?_, ?_, ?_, ?_, ?_, ?_, ?_, ?_, ?_, ?_, rfl, ?_⟩
  · intro r hc hr hok
    refine ⟨fun hnew => ?_, fun hold => ?_⟩
    · exact startCommand_eq_of_starts hc (by simp [bilTariffSet, hr, hok, Nat.not_le.mpr hnew])
    · exact startCommand_eq_of_starts hc (by simp [bilTariffSet, hr, hold])
  · intro r hc hr hobj hbytes
    have hvalid : ¬(c.desc.object ≠ 0 ∨ (r.any fun b => decide (16 ≤ b.toNat ∧ b.toNat < 255)) = true) := by
      rintro (h | h)
      · exact h hobj
      · obtain ⟨b, hb, hrange⟩ := List.any_eq_true.mp h
        have := of_decide_eq_true hrange
        have := hbytes b hb
        omega
    refine startCommand_eq_of_starts hc ?_
    rw [bilTariffAssign, hr]
    exact if_neg hvalid
  · intro r hc hr hobj hid hkind hstate htable hflags hz1 hz2
    refine ⟨fun hfree => ?_, fun hused hnone => ?_⟩
    · exact startCommand_eq_of_starts hc
        (by simp [bilAccountSet, hr, Nat.not_lt.mpr hobj, hid, Nat.not_lt.mpr hkind, Nat.not_lt.mpr hstate, Nat.not_lt.mpr htable, Nat.not_lt.mpr hflags, hz1, hz2, hfree])
    · exact startCommand_eq_of_starts hc
        (by simp [bilAccountSet, hr, Nat.not_lt.mpr hobj, hid, Nat.not_lt.mpr hstate, Nat.not_lt.mpr htable, Nat.not_lt.mpr hflags, hz1, hz2, hused, hnone])
  · intro hc hacc hzero
    have hset : (s.bil.accounts.get? c.desc.object).isNone = false := by simpa using hacc
    refine ⟨fun hold => ?_, fun hsame => ?_, fun hnew => ?_⟩
    · exact startCommand_eq_of_starts hc (by simp [bilAccountCredit, hset, hold])
    · exact startCommand_eq_of_starts hc (by simp [bilAccountCredit, hset, hsame, hzero])
    · exact startCommand_eq_of_starts hc (by simp [bilAccountCredit, hset, hzero, Nat.not_lt.mpr hnew.le, hnew.ne'])
  · exact fun hc hobj hlow hhigh hlen hlast => startCommand_eq_of_starts hc (if_neg (by omega))
  · exact fun hc hobj => startCommand_eq_of_starts hc (if_neg (not_not.mpr hobj))
  · exact fun hc hobj hlow hhigh hlen => startCommand_eq_of_starts hc (if_neg (by omega))
  · intro hc hrec hlen
    have hset : ¬((s.met.recs.get? c.desc.object).isNone = true ∨ c.desc.dataLen < 432) := by
      rw [Option.isNone_iff_eq_none]
      rintro (h | h)
      · simp [h] at hrec
      · omega
    refine ⟨fun hsign => ?_, fun hsign => ?_⟩
    · exact ⟨_, _, startCommand_eq_of_starts hc ((if_neg hset).trans (if_neg (by simpa [State.canSign] using hsign))), rfl⟩
    · exact startCommand_eq_of_starts hc ((if_neg hset).trans (if_pos hsign))
  · exact fun hc hobj hlow hhigh hlen => startCommand_eq_of_starts hc (if_neg (by omega))
  · intro hc hobj hn hwait hlog hlow hquarter hentries hslots
    obtain ⟨hacked, hfull⟩ := State.ackLog_of_empty (s := s.start c.uid) hwait hlog hentries hslots
    exact ⟨_, startCommand_eq_of_starts hc (if_neg (by simp only [State.start_bil]; omega)), hacked, hfull⟩
  · exact fun hc hn => startCommand_eq_of_starts hc (if_pos (.inr hn))
  · exact fun hc hobj => startCommand_eq_of_starts hc (if_neg (not_not.mpr hobj))
  · rintro t hc hobj hn rfl
    exact startCommand_eq_of_starts hc (if_neg (by simp only [State.start_bil]; omega))

/-! ### The legal tick and Jasper's own events (R341, R342, R353, R358, R362, R363, R368 to R370) -/

theorem State.pulseTick_of_empty {s : State} (hpulses : s.met.pulses = []) (hlegs : s.met.legs = []) : s.pulseTick = s := by
  have hsame : ({ s with met := { s.met with legs := s.met.legs.mapV fun _ l => { l with fresh := false } } } : State) = s := by
    rw [hlegs, Tab.mapV, List.map_nil, ← hlegs]
  simp only [State.pulseTick, hsame]
  rw [hpulses]
  rfl

theorem State.tickEnergy_of_empty {s : State} (hrecs : s.met.recs = []) (hpulses : s.met.pulses = []) (hlegs : s.met.legs = []) : s.tickEnergy [] = s := by
  simp only [State.tickEnergy, List.foldl_nil, hrecs, Tab.keys, List.map_nil]
  exact State.pulseTick_of_empty hpulses hlegs

theorem State.noteFullStore_of_full {s : State} (h : s.bil.full = true) : s.noteFullStore = s := if_neg (by simp [h])

theorem State.sessionReadings_of_empty {s : State} (hctxs : s.ses.ctxs = []) (hopened : s.bil.live.opened = []) : s.sessionReadings = s := by
  simp [State.sessionReadings, hctxs, hopened]

theorem State.clockRequests_of_empty {s : State} (hsets : s.bil.clockSets = []) : s.clockRequests = s := by
  rw [State.clockRequests, hsets, List.foldl_nil, ← hsets]

/-- The stored records that take effect at a tick, the session readings and the requests of the clock (R353 step 6). -/
def State.tickRequests (x : State) : State := (x.met.apply.foldl State.applyStored { x with met := { x.met with apply := [] } }).sessionReadings.clockRequests

theorem State.tickRequests_of_empty {s : State} (happly : s.met.apply = []) (hctxs : s.ses.ctxs = []) (hopened : s.bil.live.opened = []) (hsets : s.bil.clockSets = []) :
    s.tickRequests = s := by
  have hsame : ({ s with met := { s.met with apply := [] } } : State) = s := by rw [← happly]
  rw [State.tickRequests, hsame, happly, List.foldl_nil, State.sessionReadings_of_empty hctxs hopened, State.clockRequests_of_empty hsets]

/-- The tick and the legal clock count on. -/
def State.tickCounted (t : State) : State :=
  { t with met := { t.met with ticks := t.met.ticks + 1 }, bil := { t.bil with live := { t.bil.live with legal := t.bil.live.legal + 1 } } }

/-- The boundaries of a tick; after the power-fail warning none is processed (R353, R355). -/
def State.tickFired (u : State) : State :=
  if u.sys.pfw then (if u.bil.live.apartAt = none ∧ u.boundaryDue = true then u.updBil fun b => { b with apartAt := some b.legal } else u) else u.fireAll

/-- The tick in the steps of R353. -/
theorem execLegalTick_eq {s : State} (hready : s.met.ready = true) (hclock : s.met.clock = true) (l : List J2Sample) :
    execLegalTick l s = let v := (s.tickEnergy l).tickCounted.tickFired.tickRequests
      .next (if v.sys.pfw = true ∧ v.bil.warnTick = none then
        ({ v with bil := { v.bil with warnTick := some (s.tickEnergy l).bil.live.legal } }).powerCommit 1 (s.tickEnergy l).bil.live.legal else v).noteFullStore :=
  if_neg (by simp [hready, hclock])

/-- A tick with nothing configured, nothing open and nothing due counts the tick alone (R353). -/
theorem execLegalTick_of_idle {s : State} (hready : s.met.ready = true) (hclock : s.met.clock = true) (hrecs : s.met.recs = []) (hpulses : s.met.pulses = [])
    (hlegs : s.met.legs = []) (happly : s.met.apply = []) (hctxs : s.ses.ctxs = []) (hopened : s.bil.live.opened = []) (hsets : s.bil.clockSets = [])
    (hpfw : s.sys.pfw = true) (hwarn : s.bil.warnTick ≠ none) (hapart : s.bil.live.apartAt ≠ none) (hfull : s.bil.full = true) :
    execLegalTick [] s =
      .next { s with met := { s.met with ticks := s.met.ticks + 1 }, bil := { s.bil with live := { s.bil.live with legal := s.bil.live.legal + 1 } } } := by
  have hfired : s.tickCounted.tickFired = s.tickCounted := (if_pos hpfw).trans (if_neg fun h => hapart h.1)
  have hrequests : s.tickCounted.tickRequests = s.tickCounted := State.tickRequests_of_empty happly hctxs hopened hsets
  rw [execLegalTick_eq hready hclock, State.tickEnergy_of_empty hrecs hpulses hlegs]
  simp only [hfired, hrequests]
  rw [if_neg fun h => hwarn h.2, State.noteFullStore_of_full (s := s.tickCounted) hfull]
  rfl

theorem foldl_displayOf_of_none {s : State} {l : List (Nat × Rec)} (h : ∀ e ∈ l, s.obs.enrolled.get? (outNode e.2) = none) : l.foldl State.displayOf s = s := by
  induction l with
  | nil => rfl
  | cons e l ih =>
    have he : s.displayOf e = s := by simp [State.displayOf, h e List.mem_cons_self]
    rw [List.foldl_cons, he]
    exact ih fun x hx => h x (List.mem_cons_of_mem _ hx)

/-- A deduction from an account without a limit of low credit, whose balance stays above 0, raises no event (R358). -/
theorem State.deduct_of_nonneg {s : State} {k : Nat} {n : Int} (hlow : accLow (s.account k) = 0) (hpos : 0 ≤ s.balance k - n) :
    s.deduct k n = s.updBil fun l => { l with balance := l.balance.set k (s.balance k - n) } :=
  if_neg fun h => absurd h.2 (by simp only [hlow]; omega)

/-- Settles O41: the tick in its steps, and the branch of each other event. -/
theorem legalClock : Obligations.LegalClock := by
  unfold Obligations.LegalClock
  refine ⟨?_, ?_, ?_, ?_, ?_, ?_, ?_, ?_, ?_, ?_, ?_, ?_, ?_, ?_, ?_, ?_⟩
  · intro s l hdown
    exact if_pos (by obtain h | h := hdown <;> simp [h])
  · rintro s l hready hclock hrecs hpulses hlegs happly hctxs hopened hsets rfl hpfw hwarn hapart hfull
    exact execLegalTick_of_idle hready hclock hrecs hpulses hlegs happly hctxs hopened hsets hpfw hwarn hapart hfull
  · rintro s t u v l hready hclock rfl rfl rfl
    exact execLegalTick_eq hready hclock l
  · intro s n hready hsame
    exact if_pos (.inr hsame)
  · intro s n hready hdiff
    exact if_neg (not_or.mpr ⟨by simp [hready], hdiff⟩)
  · intro s hready hnone
    exact (if_neg (by simp [hready])).trans (congrArg Host.Outcome.next (foldl_displayOf_of_none hnone))
  · intro s o r k hready hrecs henrolled hallows
    have hdisplay : exec .displayFrame s = .next (s.displayOf (o, r)) := (if_neg (by simp [hready])).trans (by rw [hrecs]; rfl)
    rw [hdisplay, State.displayOf]
    simp only [henrolled, hallows]
    exact ⟨_, _, rfl, rfl, fld_pack [(2, o)] _ _ _ rfl⟩
  · exact fun s hready hreg => if_pos ⟨hready, hreg⟩
  · exact fun s hready => if_pos hready
  · intro s hready hopened
    refine (if_neg (by simp [hready])).trans ?_
    rw [hopened]
    rfl
  · intro s n k a hready hopened hacc hkind hlow hpos
    have hdeduct : exec .creditDeduction s = .next (s.deductOpened (n, a)) := (if_neg (by simp [hready])).trans (by rw [hopened]; rfl)
    have hsolvent (u : State) (h : u.bil.accounts = s.bil.accounts) : u.exhausted k = false := by
      have hk : accKind (u.account k) ≠ 2 := by rwa [State.account, h]
      simp [State.exhausted, hk]
    rw [hdeduct]
    simp only [State.deductOpened, hacc]
    rw [State.deduct_of_nonneg hlow hpos, if_neg (by rw [hsolvent _ (by rfl)]; simp)]
    simp [State.updBil, hopened, Tab.upd, hacc]
  · exact fun s hready hcopied hwait hgrant => if_pos ⟨hready, hcopied, hwait, hgrant⟩
  · intro s w hwarn hdue hreg
    refine ⟨?_, rfl⟩
    change execFinalCommit s = _
    rw [execFinalCommit, hwarn]
    exact if_pos ⟨hdue, hreg⟩
  · intro s w hwarn hearly
    change execFinalCommit s = _
    rw [execFinalCommit, hwarn]
    exact if_neg (by omega)
  · exact fun s hready => if_neg (by simp [hready])
  · exact fun s hready => if_neg (by simp [hready])

end Sys2Proof.Machine

namespace Sys2Proof.Machine

/-!
PROOF. Energies, registers, the legal log and the displays (R323, R327, R346, R347, R349, R351, R360, R364).
-/

/-! ### Pulse outputs (R327) -/

/-- The energy a pulse output takes up is in its backlog, lost, or in its remainder (R327). -/
theorem MetPulse.feed_energy (p : MetPulse) {ch : Nat} (now e : Nat) (hch : pulseChan p.cfg = ch) (hfresh : p.fresh = false) :
    (p.feed ch [(pulseQty p.cfg, e)] now).acc < kwhNwh ∧ (p.feed ch [(pulseQty p.cfg, e)] now).backlog ≤ 65535 ∧
      kwhNwh * ((p.feed ch [(pulseQty p.cfg, e)] now).backlog + (p.feed ch [(pulseQty p.cfg, e)] now).lost) + (p.feed ch [(pulseQty p.cfg, e)] now).acc =
        kwhNwh * (p.backlog + p.lost) + p.acc + e * pulseConst p.cfg := by
  have hkwh : 0 < kwhNwh := by decide
  have hsplit := Nat.div_add_mod (p.acc + e * pulseConst p.cfg) kwhNwh
  have htake : ¬(pulseChan p.cfg ≠ ch ∨ p.fresh = true) := by simp [hch, hfresh]
  rw [MetPulse.feed, if_neg htake]
  simp only [List.find?_cons, beq_self_eq_true, Option.map_some, Option.getD_some]
  refine ⟨Nat.mod_lt _ hkwh, Nat.min_le_left _ _, ?_⟩
  have hbacklog : ∀ b : Nat, min 65535 b + (p.lost + (b - 65535)) = b + p.lost := by omega
  rw [hbacklog]
  generalize (p.acc + e * pulseConst p.cfg) / kwhNwh = d at *
  linarith [hsplit, Nat.mul_add kwhNwh (p.backlog + d) p.lost, Nat.mul_add kwhNwh p.backlog d, Nat.mul_add kwhNwh p.backlog p.lost]

/-- A pulse output with its pulse, or the rest after it, a tick shorter. -/
def MetPulse.shorter (p : MetPulse) : MetPulse :=
  if 0 < p.high then { p with fresh := false, high := p.high - 1 } else { p with fresh := false, rest := p.rest - 1 }

theorem MetPulse.tick_eq (p : MetPulse) : p.tick = if p.shorter.high = 0 ∧ p.shorter.rest = 0 ∧ 0 < p.shorter.backlog then
    ({ p.shorter with high := pulseWidth p.shorter.cfg, rest := pulseWidth p.shorter.cfg, backlog := p.shorter.backlog - 1,
                      since := if p.shorter.backlog = 1 then none else p.shorter.since }, true) else (p.shorter, false) := rfl

theorem MetPulse.shorter_spec (p : MetPulse) : p.shorter.fresh = false ∧ p.shorter.lost = p.lost ∧ p.shorter.acc = p.acc ∧ p.shorter.backlog = p.backlog ∧
    (p.shorter.high = 0 ∧ p.shorter.rest = 0 → p.high ≤ 1 ∧ p.rest ≤ 1) := by
  rw [MetPulse.shorter]
  split
  · exact ⟨rfl, rfl, rfl, rfl, fun ⟨hhigh, hrest⟩ => by dsimp only at hhigh hrest; omega⟩
  · exact ⟨rfl, rfl, rfl, rfl, fun ⟨hhigh, hrest⟩ => by dsimp only at hhigh hrest; omega⟩

/-- A tick of a pulse output starts at most one pulse, once the last one and its rest are over (R327). -/
theorem MetPulse.tick_spec (p : MetPulse) : p.tick.1.fresh = false ∧ p.tick.1.lost = p.lost ∧ p.tick.1.acc = p.acc ∧
    p.tick.1.backlog + (if p.tick.2 then 1 else 0) = p.backlog ∧ (p.tick.2 = true → p.high ≤ 1 ∧ p.rest ≤ 1) := by
  obtain ⟨hfresh, hlost, hacc, hbacklog, hover⟩ := p.shorter_spec
  rw [MetPulse.tick_eq]
  split
  · rename_i hstart
    refine ⟨hfresh, hlost, hacc, ?_, fun _ => hover ⟨hstart.1, hstart.2.1⟩⟩
    rw [← hbacklog]
    exact Nat.sub_add_cancel hstart.2.2
  · exact ⟨hfresh, hlost, hacc, hbacklog, nofun⟩

/-! ### Registers (R323, R346) -/

theorem Tab.getD_ite_set (t : Tab Nat) (k m : Nat) : (if m = 0 then t else t.set k (t.getD k 0 + m)).getD k 0 = t.getD k 0 + m := by
  split
  · omega
  · rw [Tab.getD_set_self]

theorem Tab.getD_ite_set_of_ne (t : Tab Nat) {j k : Nat} (m : Nat) (h : j ≠ k) : (if m = 0 then t else t.set k (t.getD k 0 + m)).getD j 0 = t.getD j 0 := by
  split
  · rfl
  · rw [Tab.getD_set_of_ne _ _ _ h]

/-! ### The legal log (R2, R364) -/

theorem State.logWrite_spec (s : State) (e : Nat × Nat × Nat × List Byte) : (s.logWrite e).bil.live.logHead = s.bil.live.logHead + 1 ∧
    (s.logWrite e).bil.live.log.get? (s.bil.live.logHead + 1) = some (s.logWrite e).bil.live.lastEntry ∧
    (s.logWrite e).bil.live.lastEntry.drop 48 = (Config.sha256 s.bil.live.lastEntry).take 16 ∧ fld (s.logWrite e).bil.live.lastEntry 0 4 = (s.bil.live.logHead + 1) % 2 ^ 32 ∧
    (∀ k, k ≠ s.bil.live.logHead + 1 → (s.logWrite e).bil.live.log.get? k = s.bil.live.log.get? k) ∧ (s.logWrite e).bil.live.readings = s.bil.live.readings ∧
    (s.logWrite e).bil.live.notTrade.get? (s.bil.live.logHead + 1) = some (s.sys.metOption == 0) := by
  have hlen : (pack [(4, s.bil.live.logHead + 1), (2, e.1), (2, e.2.1), (8, e.2.2.1)] ++ padTo 32 e.2.2.2).length = 48 := by simp [length_padTo]
  refine ⟨rfl, Tab.get?_set_self .., List.drop_left' hlen, ?_, fun k hk => Tab.get?_set_of_ne _ _ hk, rfl, Tab.get?_set_self ..⟩
  simp only [State.logWrite, State.updBil, List.append_assoc]
  exact fld_pack_append [] _ _ _ _ rfl

/-! ### Displays and rate switches (R347, R349) -/

theorem dispWh_spec (n : Nat) : dispWh n < 10000000000 ∧ 1000 * (10000000000 * rollCount n + dispWh n) ≤ n ∧ n < 1000 * (10000000000 * rollCount n + dispWh n + 1) := by
  rw [dispWh, rollCount]
  omega

theorem foldl_laterOcc_mem {l : List (Nat × Nat)} {a : Option (Nat × Nat)} {x : Nat × Nat} (h : l.foldl laterOcc a = some x) : a = some x ∨ x ∈ l := by
  induction l generalizing a with
  | nil => exact .inl h
  | cons b l ih =>
    obtain hlater | hmem := ih h
    · unfold laterOcc at hlater
      split at hlater
      · split at hlater
        · obtain rfl := Option.some.inj hlater
          exact .inr List.mem_cons_self
        · exact .inl hlater
      · obtain rfl := Option.some.inj hlater
        exact .inr List.mem_cons_self
    · exact .inr (List.mem_cons_of_mem _ hmem)

theorem lastSwitch_spec {r : Rec} {l a b : Nat} (h : lastSwitch r l = some (a, b)) :
    a ≤ l ∧ ∃ n < fld r 1 1, b = (switchOf r n).2.2 ∧ a % 86400000 = (switchOf r n).1 * 60000 % 86400000 := by
  obtain hnone | hmem := foldl_laterOcc_mem h
  · cases hnone
  · obtain ⟨n, hn, hocc⟩ := List.mem_flatMap.mp hmem
    obtain ⟨d, hd, heq⟩ := List.mem_map.mp hocc
    obtain ⟨rfl, rfl⟩ := Prod.mk.inj heq
    have htime := (List.mem_filter.mp hd).2
    simp only [Bool.and_eq_true, decide_eq_true_eq] at htime
    obtain ⟨_, hle⟩ := htime
    refine ⟨hle, n, List.mem_range.mp hn, rfl, ?_⟩
    rw [dayMin]
    omega

/-- With an offset of 0 or more, a demand boundary is not after its time (R351). -/
theorem State.demandBoundary_le (s : State) (ch t : Nat) (h : 0 ≤ s.offsetMs) : s.demandBoundary ch t ≤ t := by
  simp only [State.demandBoundary, State.legalOf, State.localMs]
  generalize ((t : Int) + s.offsetMs).toNat % s.demandLen ch = m
  omega

/-- Settles O42, clause by clause. -/
theorem energyAndRecords : Obligations.EnergyAndRecords := by
  unfold Obligations.EnergyAndRecords
  refine ⟨⟨fun p ch now e hch hfresh => p.feed_energy now e hch hfresh, fun p ch now l h => if_pos h, MetPulse.tick_spec, ?_⟩,
    State.logWrite_spec, ?_, dispWh_spec, fun s => ⟨Nat.sub_le _ _, Nat.sub_le _ _⟩, fun r l a b => lastSwitch_spec, State.demandBoundary_le⟩
  · intro g k e rate
    refine ⟨?_, ?_, ?_, fun j hj => ⟨Tab.getD_ite_set_of_ne _ _ hj, Tab.getD_set_of_ne _ _ _ hj⟩⟩
    · rw [ChanReg.addQty, Tab.getD_set_self]
      omega
    · simp only [ChanReg.addQty, Tab.getD_ite_set, Tab.getD_set_self]
      omega
    · simp only [ChanReg.addQty, Tab.getD_ite_set]
      omega
  · intro s a h
    simp [State.rflagsOf, h, rflag]

end Sys2Proof.Machine

namespace Sys2Proof.Machine

/-!
PROOF. The buffer battery gauge (chapter 13).
-/

/-! ### Counting and learning (R383 to R385, R389) -/

theorem GStr.count_of_discharge (x : GStr) {dq : Nat} (h : 1 ≤ dq) : x.count dq = { x with q := x.q - min dq x.q, d := x.d + (dq - min dq x.q) } :=
  if_pos (by omega)

theorem GStr.count_of_charge (x : GStr) (c : Nat) : x.count (-(c : Int)) = { x with d := x.d - min c x.d, q := min x.qL (x.q + (c - min c x.d)) } := by
  rw [GStr.count, if_neg (by omega), neg_neg, Int.toNat_natCast]

/-- The change of Q_L that an empty anchor asks for, within the learning bound (R385). -/
def GStr.learnStep (x : GStr) (pct : Nat) : Int :=
  clamp (-(strCapAh x.cfg * mAsPerAh * pct / 100 : Nat)) (strCapAh x.cfg * mAsPerAh * pct / 100 : Nat) (if 0 < x.d then x.d else -(x.q : Int))

theorem GStr.learn_fst (x : GStr) (pct : Nat) : (x.learn pct).1 =
    (clamp ((strCapAh x.cfg * mAsPerAh * 50 / 100 : Nat)) ((strCapAh x.cfg * mAsPerAh * 110 / 100 : Nat)) ((x.qL : Int) + x.learnStep pct)).toNat := rfl

theorem GStr.learnStep_bounds (x : GStr) (pct : Nat) : x.learnStep pct ≤ (strCapAh x.cfg * mAsPerAh * pct / 100 : Nat) ∧
    -((strCapAh x.cfg * mAsPerAh * pct / 100 : Nat) : Int) ≤ x.learnStep pct ∧ (0 < x.d → 0 ≤ x.learnStep pct) ∧ (x.d = 0 → x.learnStep pct ≤ 0) := by
  rw [GStr.learnStep]
  generalize strCapAh x.cfg * mAsPerAh * pct / 100 = lim
  unfold clamp
  split <;> omega

theorem GStr.emptyAnchor_qL (x : GStr) {pct : Nat} (h : x.pairOpen = true) : (x.emptyAnchor pct).qL = (x.learn pct).1 := by
  rw [GStr.emptyAnchor, if_pos h]

/-- Settles O43, by the two cases of a count and the two clamps of a learning step. -/
theorem gaugeCounting : Obligations.GaugeCounting := by
  unfold Obligations.GaugeCounting
  refine ⟨?_, ?_, fun x => ⟨rfl, rfl, rfl, rfl⟩, ?_, ?_, ?_, ?_⟩
  · intro x dq h
    rw [x.count_of_discharge h]
    dsimp only
    omega
  · intro x c h
    rw [x.count_of_charge c]
    dsimp only
    omega
  · intro x pct
    rw [GStr.emptyAnchor]
    split
    · rename_i hopen
      exact ⟨rfl, rfl, rfl, fun hclosed => absurd hopen (by simp [hclosed])⟩
    · exact ⟨rfl, rfl, rfl, fun _ => rfl⟩
  · intro x pct h
    rw [x.emptyAnchor_qL h, x.learn_fst]
    generalize strCapAh x.cfg * mAsPerAh = cap
    unfold clamp
    omega
  · intro x pct h hlow hhigh
    obtain ⟨hup, hdown, hrise, hfall⟩ := x.learnStep_bounds pct
    rw [x.emptyAnchor_qL h, x.learn_fst]
    generalize x.learnStep pct = step at *
    generalize strCapAh x.cfg * mAsPerAh * pct / 100 = lim at *
    generalize strCapAh x.cfg * mAsPerAh = cap at *
    unfold clamp
    omega
  · intro s h
    have hterms : s.gau.strings.vals.map s.strTermRaw = s.gau.strings.map fun _ => 0 := by
      rw [Tab.vals, List.map_map]
      refine List.map_congr_left fun e he => if_neg ?_
      obtain hstate | hlease | hfenced := h e he
      · simp [State.strCounts, hstate]
      · simp [State.strCounts, hlease]
      · simp [State.strCounts, hfenced]
    rw [State.gauAvail, hterms, List.map_const', List.sum_replicate, smul_zero]
    rfl

/-! ### Rows: a counterexample to R381 as stated

The last clause on STRING_FRAME asks that the frame's string has its own CAN identifier and source, but not that no other record stands under its number. Where two
do, the values go to both, and the current only to the one that takes it from its frames.
-/

/-- A frame of 16 bytes that reports 1,000 mA. -/
def ampFrame : List Byte := leInt 4 1000 ++ List.replicate 10 0 ++ leBytes 2 (crc16 (leInt 4 1000 ++ List.replicate 10 0))

/-- A module whose awake gauge has two records under number 0: one of a shunt, and one of a string with CAN identifier 7. -/
def twiceNumbered : State :=
  { State.reset with gau := { State.reset.gau with on := true, hibernating := false, strings := [(0, { cfg := pack [(1, 0), (1, 1), (2, 0), (4, 5)] }),
                                                                      (0, { cfg := pack [(1, 0), (1, 2), (2, 0), (4, 7)], frameAt := some 0 })] } }

/-- The current of string 0 after a step. -/
def currentAfter (o : Host.Outcome State Fault Refusal) : Option Int := match o with
  | .next t => (t.gstr 0).map GStr.iMa
  | _ => none

theorem currentAfter_twiceNumbered : currentAfter (exec (.stringFrame 7 ampFrame) twiceNumbered) = some 0 := by decide +kernel

/-- Refutes O44: string 0, as it is read, is the record of the shunt and keeps its current of 0 mA, where the clause gives it the 1,000 mA of the frame. -/
theorem not_gaugeRows : ¬ Obligations.GaugeRows := by
  unfold Obligations.GaugeRows
  rintro ⟨_, _, _, _, _, _, _, _, _, _, _, _, _, _, _, _, _, _, _, hframe, _⟩
  have hnext := hframe twiceNumbered _ 7 0 0 ampFrame _ (by decide) rfl (by decide) (by decide +kernel) (by decide) (by decide) (by decide) rfl
  exact absurd ((congrArg currentAfter hnext).symm.trans currentAfter_twiceNumbered) (by decide +kernel)

end Sys2Proof.Machine

namespace Sys2Proof.Machine

/-!
PROOF. The point directory (chapter 14).
-/

@[simp] theorem State.overrideOk_start (s : State) (u : Nat) (r : Rec) : (s.start u).overrideOk r = s.overrideOk r := rfl
@[simp] theorem State.sysTime_start (s : State) (u : Nat) : (s.start u).sysTime = s.sysTime := rfl
@[simp] theorem State.definedIn_start (s : State) (u a b : Nat) : (s.start u).definedIn a b = s.definedIn a b := rfl

/-! ### The commands (R410 to R416) -/

/-- Settles O45: the branch that each clause names. -/
theorem pointCommands : Obligations.PointCommands := by
  unfold Obligations.PointCommands
  intro s q tag c
  refine ⟨?_, ?_, ?_, ?_, ?_, ?_, ?_, ?_, ?_, ?_, ?_, ?_⟩
  · exact fun hc hlow hhigh hlen hlast => startCommand_eq_of_starts hc (if_neg (by omega))
  · exact fun hc hlow hlast hlen hflags => startCommand_eq_of_starts hc (if_neg (by omega))
  · intro r hc hr hok hdel
    exact startCommand_eq_of_starts hc (by simp [ptPointSet, hr, hok, hdel])
  · intro r hc hr hok hset
    refine ⟨fun hroom => ?_, fun hnew hfull => ?_⟩
    · have hfree : ¬((s.pt.overrides.get? (fld r 0 4)).isSome = false ∧ 8192 ≤ s.pt.overrides.length) := by
        rintro ⟨hnone, hfull⟩
        obtain h | h := hroom
        · exact absurd (h.symm.trans hnone) (by decide)
        · omega
      refine startCommand_eq_of_starts hc ?_
      simp only [ptPointSet, hr, State.overrideOk_start, hok, State.start_pt]
      rw [if_neg (by decide), if_neg hset]
      exact if_neg hfree
    · exact startCommand_eq_of_starts hc (by simp [ptPointSet, hr, hok, hset, hnew, hfull])
  · exact fun hc hobj => startCommand_eq_of_starts hc (if_neg (Nat.not_lt.mpr hobj))
  · exact fun hc hobj => startCommand_eq_of_starts hc (if_pos hobj)
  · intro hc hobj hn hlast
    have hvalid : ¬(15 < c.desc.object ∨ 4194304 < c.desc.u 36 4 ∨ PT_END < c.desc.u 32 4 + c.desc.u 36 4) := by omega
    refine ⟨fun hzero => ?_, fun hset hfull => ?_, fun hset hroom => ?_⟩
    · exact startCommand_eq_of_starts hc ((if_neg hvalid).trans (if_pos hzero))
    · exact startCommand_eq_of_starts hc ((if_neg hvalid).trans ((if_neg (by omega)).trans (if_pos hfull)))
    · exact startCommand_eq_of_starts hc ((if_neg hvalid).trans ((if_neg (by omega)).trans (if_neg (Nat.not_lt.mpr hroom))))
  · intro x hc hobj hwait hsub halone
    have hfree : ((s.start c.uid).mbx.inflight.any fun d => isFetchOf c.entry c.desc.object d && d.uid != c.uid) = false := by
      rw [List.any_eq_false]
      intro d hd hother
      simp only [Bool.and_eq_true, bne_iff_ne, ne_eq] at hother
      exact hother.2 (halone d hd hother.1)
    have hfetch : ptFetch c (s.start c.uid) = if x.bits ≠ [] ∨ c.desc.u 32 2 = 0 then (s.start c.uid).fetchNow c
        else (s.start c.uid).setDeadline c.uid (s.now + c.desc.u 32 2 * ms) := by
      simp only [ptFetch, State.start_pt, hsub, hfree]
      rw [if_neg (by omega)]
      rfl
    exact ⟨fun h => startCommand_eq_of_starts hc (hfetch.trans (if_pos h)),
      fun hnone hlow => startCommand_eq_of_starts hc (hfetch.trans (if_neg (by simp [hnone]; omega)))⟩
  · intro hfind hdue
    change execFetchWaitExpiry q tag s = _
    rw [execFetchWaitExpiry, hfind]
    exact if_pos hdue
  · exact fun hc => startCommand_eq_of_starts hc rfl
  · intro k hlow hhigh
    rw [State.point?, if_pos ⟨hlow, hhigh⟩]
    rfl
  · intro x hsub
    refine ⟨rfl, ?_⟩
    simp [State.fetchNow, Tab.getD, hsub]

/-! ### Marks and qualities (R400, R404, R408) -/

theorem State.subs_ptMark (s : State) (k j : Nat) : (s.ptMark k).pt.subs.get? j =
    (s.pt.subs.get? j).map fun x => if x.first ≤ k ∧ k < x.first + x.count then { x with bits := x.bits.set k () } else x := by
  rw [State.ptMark, Tab.get?_mapV]

/-- A subscription after marks: it keeps its range, and its bits are those it had and those marked within it (R408). -/
def PtSub.markedBy (x y : PtSub) (l : List Nat) : Prop :=
  y.first = x.first ∧ y.count = x.count ∧ ∀ a, (y.bits.get? a).isSome = true ↔ (x.bits.get? a).isSome = true ∨ (x.first ≤ a ∧ a < x.first + x.count ∧ a ∈ l)

theorem PtSub.markedBy_cons {x y z : PtSub} {k : Nat} {l : List Nat} (hxy : x.markedBy y [k]) (hyz : y.markedBy z l) : x.markedBy z (k :: l) := by
  obtain ⟨hf, hc, hb⟩ := hxy
  obtain ⟨hf', hc', hb'⟩ := hyz
  refine ⟨hf'.trans hf, hc'.trans hc, fun a => ?_⟩
  rw [hb' a, hb a, hf, hc, List.mem_singleton, List.mem_cons]
  tauto

theorem State.subs_ptMark_markedBy {s : State} {j : Nat} {x : PtSub} (k : Nat) (h : s.pt.subs.get? j = some x) :
    ∃ y, (s.ptMark k).pt.subs.get? j = some y ∧ x.markedBy y [k] := by
  refine ⟨_, by rw [State.subs_ptMark, h, Option.map_some], ?_⟩
  split
  · rename_i hin
    refine ⟨rfl, rfl, fun a => ?_⟩
    rw [Tab.get?_set, List.mem_singleton]
    split
    · rename_i hak
      subst hak
      simp [hin]
    · rename_i hak
      simp [hak]
  · rename_i hout
    refine ⟨rfl, rfl, fun a => ?_⟩
    rw [List.mem_singleton]
    refine ⟨.inl, ?_⟩
    rintro (h | ⟨hlow, hhigh, rfl⟩)
    · exact h
    · exact absurd ⟨hlow, hhigh⟩ hout

theorem State.subs_foldl_ptMark {s : State} {j : Nat} {x : PtSub} (l : List Nat) (h : s.pt.subs.get? j = some x) :
    ∃ y, (l.foldl State.ptMark s).pt.subs.get? j = some y ∧ x.markedBy y l := by
  induction l generalizing s x with
  | nil => exact ⟨x, h, rfl, rfl, fun a => by simp⟩
  | cons k l ih =>
    obtain ⟨y, hy, hxy⟩ := State.subs_ptMark_markedBy k h
    obtain ⟨z, hz, hyz⟩ := ih hy
    exact ⟨z, hz, PtSub.markedBy_cons hxy hyz⟩

theorem State.foldl_ptMark_eq (l : List Nat) (s : State) : l.foldl State.ptMark s = { s with pt := { s.pt with subs := (l.foldl State.ptMark s).pt.subs } } := by
  induction l generalizing s with
  | nil => rfl
  | cons k l ih => rw [List.foldl_cons, ih (s.ptMark k)]; rfl

theorem Tab.mem_of_get? {α : Type} {t : Tab α} {k : Nat} {v : α} (h : t.get? k = some v) : (k, v) ∈ t := by
  induction t with
  | nil => cases h
  | cons e t ih =>
    rw [Tab.get?] at h
    split at h
    · rename_i hk
      obtain rfl := Option.some.inj h
      rw [hk]
      exact List.mem_cons_self
    · exact List.mem_cons_of_mem _ (ih h)

theorem Tab.mem_keys_of_isSome {α : Type} {t : Tab α} {k : Nat} (h : (t.get? k).isSome = true) : k ∈ t.keys := by
  obtain ⟨v, hv⟩ := Option.isSome_iff_exists.mp h
  exact List.mem_map.mpr ⟨(k, v), Tab.mem_of_get? hv, rfl⟩

/-- Keeping entries by their keys keeps what is read at the keys that pass. -/
theorem Tab.get?_keep {α : Type} (t : Tab α) (p : Nat → Bool) (k : Nat) : (t.keep fun j _ => p j).get? k = if p k then t.get? k else none := by
  induction t with
  | nil => simp [Tab.keep]
  | cons e t ih =>
    obtain ⟨j, w⟩ := e
    have hrest : (Tab.keep ((j, w) :: t) fun j _ => p j) = if p j then (j, w) :: Tab.keep t (fun j _ => p j) else Tab.keep t fun j _ => p j := List.filter_cons
    rw [hrest]
    by_cases hk : k = j
    · subst hk
      split
      · simp [Tab.get?]
      · rename_i hp
        rw [ih, if_neg hp]
    · split
      · simp [Tab.get?, hk, ih]
      · simp [Tab.get?, hk, ih]

/-- The points whose flags differ from those of an earlier directory are marked, and nothing else of the directory changes (R408). -/
theorem State.ptMarkChanges_eq (s old : State) : s.ptMarkChanges old = { s with pt := { s.pt with subs := (s.ptMarkChanges old).pt.subs } } :=
  State.foldl_ptMark_eq _ s

theorem State.subs_ptMarkChanges (s old : State) {j : Nat} {x : PtSub} (h : s.pt.subs.get? j = some x) :
    ∃ y, (s.ptMarkChanges old).pt.subs.get? j = some y ∧ ∀ a, (y.bits.get? a).isSome = true ↔ (x.bits.get? a).isSome = true ∨
      (x.first ≤ a ∧ a < x.first + x.count ∧ (s.pt.points.get? a).map Point.quality ≠ (old.pt.points.get? a).map Point.quality) := by
  obtain ⟨y, hy, _, _, hbits⟩ := State.subs_foldl_ptMark
    ((old.pt.points.keys ++ s.pt.points.keys).filter fun a => (old.pt.points.get? a).map Point.quality != (s.pt.points.get? a).map Point.quality) h
  refine ⟨y, hy, fun a => ?_⟩
  have hlisted : (s.pt.points.get? a).map Point.quality ≠ (old.pt.points.get? a).map Point.quality → a ∈ old.pt.points.keys ++ s.pt.points.keys := by
    intro hdiff
    rw [List.mem_append]
    by_cases hold : (old.pt.points.get? a).isSome = true
    · exact .inl (Tab.mem_keys_of_isSome hold)
    · by_cases hnew : (s.pt.points.get? a).isSome = true
      · exact .inr (Tab.mem_keys_of_isSome hnew)
      · rw [Option.not_isSome_iff_eq_none] at hold hnew
        simp [hold, hnew] at hdiff
  rw [hbits a, List.mem_filter, bne_iff_ne]
  constructor
  · rintro (h | ⟨hlow, hhigh, _, hdiff⟩)
    · exact .inl h
    · exact .inr ⟨hlow, hhigh, hdiff.symm⟩
  · rintro (h | ⟨hlow, hhigh, hdiff⟩)
    · exact .inl h
    · exact .inr ⟨hlow, hhigh, hlisted hdiff, hdiff.symm⟩

theorem State.dropPoints_spec (s : State) : s.dropPoints.pt.updates = [] ∧ s.dropPoints.pt.host = s.pt.host ∧ (∀ a, 512 ≤ a → s.dropPoints.pt.points.get? a = none) ∧
    ∀ a, a < 512 → s.dropPoints.pt.points.get? a = s.pt.points.get? a := by
  have hpoints : s.dropPoints.pt.points = s.pt.points.keep fun a _ => decide (a < 512) := by
    rw [State.dropPoints, State.ptMarkChanges_eq]
  refine ⟨?_, ?_, fun a ha => ?_, fun a ha => ?_⟩
  · rw [State.dropPoints, State.ptMarkChanges_eq]
  · rw [State.dropPoints, State.ptMarkChanges_eq]
  · rw [hpoints, Tab.get?_keep, if_neg (by simpa using ha)]
  · rw [hpoints, Tab.get?_keep, if_pos (by simpa using ha)]

/-! ### Catalogues (R398) -/

theorem nodup_of_noDup {α : Type} [BEq α] [LawfulBEq α] {l : List α} (h : noDup l = true) : l.Nodup := by
  induction l with
  | nil => exact List.nodup_nil
  | cons a l ih =>
    rw [noDup, Bool.and_eq_true] at h
    obtain ⟨hnot, hrest⟩ := h
    exact List.nodup_cons.mpr ⟨by simpa using hnot, ih hrest⟩

theorem catalogueOk_spec {l : List CatRecord} (h : catalogueOk l = true) : (l.map CatRecord.index).Nodup ∧ ∀ r ∈ l, r.index ≤ 511 := by
  rw [catalogueOk, Bool.and_eq_true] at h
  obtain ⟨hdup, hall⟩ := h
  refine ⟨nodup_of_noDup hdup, fun r hr => ?_⟩
  have hrec := List.all_eq_true.mp hall r hr
  simp only [Bool.and_eq_true, decide_eq_true_eq] at hrec
  exact hrec.1.1

theorem ptNode_ptAddr (n : Nat) {i : Nat} (h : i ≤ 511) : ptNode (ptAddr n i) = n := by
  rw [ptNode, ptAddr]
  omega

theorem ptAddr_inj {n i j : Nat} (h : ptAddr n i = ptAddr n j) : i = j := by
  rw [ptAddr, ptAddr] at h
  omega

/-- The points of a catalogue's records, written into a directory. -/
def catWritten (n : Nat) (g : CatRecord → Point) (l : List CatRecord) (t : Tab Point) : Tab Point := l.foldl (fun t r => t.set (ptAddr n r.index) (g r)) t

theorem get?_catWritten_of_not_mem {n k : Nat} {g : CatRecord → Point} {l : List CatRecord} (t : Tab Point) (h : ∀ r ∈ l, k ≠ ptAddr n r.index) :
    (catWritten n g l t).get? k = t.get? k := by
  induction l generalizing t with
  | nil => rfl
  | cons r l ih =>
    have hrest := ih (t.set (ptAddr n r.index) (g r)) fun x hx => h x (List.mem_cons_of_mem _ hx)
    exact hrest.trans (Tab.get?_set_of_ne _ _ (h r List.mem_cons_self))

theorem get?_catWritten_of_mem {n : Nat} {g : CatRecord → Point} {l : List CatRecord} (t : Tab Point) (hdup : (l.map CatRecord.index).Nodup) {r : CatRecord} (hr : r ∈ l) :
    (catWritten n g l t).get? (ptAddr n r.index) = some (g r) := by
  induction l generalizing t with
  | nil => cases hr
  | cons x l ih =>
    rw [List.map_cons, List.nodup_cons] at hdup
    obtain ⟨hnot, hdup⟩ := hdup
    obtain rfl | hr := List.mem_cons.mp hr
    · have hlater : ∀ y ∈ l, ptAddr n r.index ≠ ptAddr n y.index := fun y hy heq => hnot (ptAddr_inj heq ▸ List.mem_map_of_mem hy)
      exact (get?_catWritten_of_not_mem _ hlater).trans (Tab.get?_set_self ..)
    · exact ih _ hdup hr

theorem State.notePtLoad_pt (s : State) : s.notePtLoad.pt = { s.pt with loadHigh := s.notePtLoad.pt.loadHigh } := by
  simp only [State.notePtLoad]
  split
  · rw [State.raise_pt]
  · rfl

/-- The directory with the points of a catalogue, before subscriptions are marked (R398). -/
def State.withCatalogue (s : State) (n v : Nat) (l : List CatRecord) : State :=
  let points := catWritten n (fun r => catPoint (s.pt.points.get? (ptAddr n r.index)) r (ptNodeFlags (s.node n).state) s.now) l (s.pt.points.keep fun a _ => ptNode a != n)
  { s with pt := { s.pt with points := points, versions := s.pt.versions.set n (v % 2 ^ 32) } }

/-- What an accepted catalogue leaves of the directory (R398, R408). -/
theorem State.catalogue_accepted {s : State} {n v : Nat} {l : List CatRecord} (hacc : s.ptAccepts n = true) (hok : catalogueOk l = true) :
    ∃ t : State, exec (.catalogue n v l) s = .next t ∧
      t.pt.points = catWritten n (fun r => catPoint (s.pt.points.get? (ptAddr n r.index)) r (ptNodeFlags (s.node n).state) s.now) l (s.pt.points.keep fun a _ => ptNode a != n) ∧
      t.pt.host = s.pt.host ∧ ∀ j x, s.pt.subs.get? j = some x → ∃ y, t.pt.subs.get? j = some y ∧ ∀ a, (y.bits.get? a).isSome = true ↔ (x.bits.get? a).isSome = true ∨
        (x.first ≤ a ∧ a < x.first + x.count ∧ (t.pt.points.get? a).map Point.quality ≠ (s.pt.points.get? a).map Point.quality) := by
  generalize hu : s.withCatalogue n v l = u
  generalize ht : (((u.ptMarkChanges s).sendPointConfig n).raise 0x0D 0x0001 n).notePtLoad = t
  have hpt : t.pt = { (u.ptMarkChanges s).pt with loadHigh := t.pt.loadHigh } := by
    rw [← ht, State.notePtLoad_pt, State.raise_pt]
    rfl
  have hmarks : (u.ptMarkChanges s).pt = { u.pt with subs := (u.ptMarkChanges s).pt.subs } := congrArg State.pt (u.ptMarkChanges_eq s)
  have hpoints : t.pt.points = u.pt.points := by rw [hpt, hmarks]
  refine ⟨t, (if_neg (by simp [hacc])).trans ((if_neg (by simp [hok])).trans (by rw [← ht, ← hu]; rfl)), ?_, ?_, ?_⟩
  · rw [hpoints, ← hu]
    rfl
  · rw [hpt, hmarks, ← hu]
    rfl
  · intro j x hx
    rw [hpoints, hpt]
    exact u.subs_ptMarkChanges s (by rw [← hu]; exact hx)

/-! ### Updates (R400, R403 to R406) -/

theorem and_mod_two_eq_one (q f : Nat) : (q &&& f) % 2 = 1 ↔ q % 2 = 1 ∧ f % 2 = 1 := by
  have h := Nat.testBit_and q f 0
  rwa [Nat.testBit_zero, Nat.testBit_zero, Nat.testBit_zero, ← Bool.decide_and, decide_eq_decide] at h

theorem testBit_qClear (q f k : Nat) : (qClear q f).testBit k = (q.testBit k && !f.testBit k) := by
  unfold qClear
  induction k generalizing q f with
  | zero =>
    have hmod := and_mod_two_eq_one q f
    have hsub : q &&& f ≤ q := Nat.and_le_left
    rw [Nat.testBit_zero, Nat.testBit_zero, Nat.testBit_zero, ← decide_not, ← Bool.decide_and, decide_eq_decide]
    omega
  | succ k ih =>
    have hmod := and_mod_two_eq_one q f
    have hsub : q &&& f ≤ q := Nat.and_le_left
    have hhalf : (q - (q &&& f)) / 2 = q / 2 - (q / 2 &&& f / 2) := by
      rw [← Nat.and_div_two]
      omega
    rw [Nat.testBit_succ, hhalf, ih, Nat.testBit_succ, Nat.testBit_succ]

theorem testBit_qSet (q f k : Nat) : (qSet q f).testBit k = (q.testBit k || f.testBit k) := Nat.testBit_or ..

/-- The quality of an accepted update: VALID, neither STALE nor OVERRUN, SOURCE_BAD as the record says, and DEFINED as it was (R400, R403). -/
theorem Point.accept_quality (p : Point) (value time now : Nat) (bad : Bool) : bit (p.accept value time now bad).quality 1 = true ∧
    bit (p.accept value time now bad).quality 2 = false ∧ bit (p.accept value time now bad).quality 6 = false ∧ bit (p.accept value time now bad).quality 7 = bad ∧
    bit (p.accept value time now bad).quality 0 = bit p.quality 0 := by
  have hbits : ∀ k, bit (p.accept value time now bad).quality k = (p.quality.testBit k && !Nat.testBit (if bad then Q_STALE + Q_OVERRUN else Q_STALE + Q_OVERRUN + Q_SOURCE_BAD) k ||
      Q_VALID.testBit k || (bad && Q_SOURCE_BAD.testBit k)) := by
    intro k
    cases bad
    · simp [bit, Point.accept, testBit_qClear, testBit_qSet]
    · simp [bit, Point.accept, testBit_qClear, testBit_qSet]
  simp only [hbits]
  cases bad
  · simp [Q_STALE, Q_OVERRUN, Q_SOURCE_BAD, Q_VALID, bit, Nat.testBit]
  · simp [Q_STALE, Q_OVERRUN, Q_SOURCE_BAD, Q_VALID, bit, Nat.testBit]

theorem State.ptQuality_counts (s : State) (k q : Nat) : (s.ptQuality k q).pt.applied = s.pt.applied ∧ (s.ptQuality k q).pt.discarded = s.pt.discarded := by
  simp only [State.ptQuality]
  split
  · split
    · exact ⟨rfl, rfl⟩
    · exact ⟨rfl, rfl⟩
  · exact ⟨rfl, rfl⟩

theorem State.nodeUpdate_of_none {s : State} {u : Nat × PointRecord × Nat} {n : Nat} (h : s.pt.points.get? u.1 = none) : State.nodeUpdate (n, s) u = (n, s) := by
  simp [State.nodeUpdate, h]

/-- One update takes from the budget what it applies, and counts as applied or as discarded at most once (R405). -/
theorem State.nodeUpdate_counts (a : Nat × State) (u : Nat × PointRecord × Nat) :
    (State.nodeUpdate a u).2.pt.applied + (State.nodeUpdate a u).1 ≤ a.2.pt.applied + a.1 ∧
      (State.nodeUpdate a u).2.pt.applied + (State.nodeUpdate a u).2.pt.discarded ≤ a.2.pt.applied + a.2.pt.discarded + 1 := by
  simp only [State.nodeUpdate]
  split
  · exact ⟨le_refl _, by omega⟩
  · rename_i p hp
    split
    · obtain ⟨happlied, hdiscarded⟩ := a.2.ptQuality_counts u.1 (qSet p.quality Q_OVERRUN)
      dsimp only
      omega
    · dsimp only [State.ptMark, State.ptSet]
      omega

theorem State.foldl_nodeUpdate_counts (l : List (Nat × PointRecord × Nat)) (a : Nat × State) :
    (l.foldl State.nodeUpdate a).2.pt.applied + (l.foldl State.nodeUpdate a).1 ≤ a.2.pt.applied + a.1 ∧
      (l.foldl State.nodeUpdate a).2.pt.applied + (l.foldl State.nodeUpdate a).2.pt.discarded ≤ a.2.pt.applied + a.2.pt.discarded + l.length := by
  induction l generalizing a with
  | nil => exact ⟨le_refl _, le_refl _⟩
  | cons u l ih =>
    obtain ⟨hbudget, hcount⟩ := State.nodeUpdate_counts a u
    obtain ⟨hbudget', hcount'⟩ := ih (State.nodeUpdate a u)
    rw [List.foldl_cons, List.length_cons]
    omega

theorem State.serveFetches_of_empty {s : State} (h : s.mbx.inflight = []) : s.serveFetches = s := by simp [State.serveFetches, h]

theorem State.markStale_of_empty {s : State} (h : s.pt.points = []) : s.markStale = s := by simp [State.markStale, h]

/-- Settles O46: what a catalogue writes, the counts of updates, and the branch of each other event. -/
theorem pointUpdates : Obligations.PointUpdates := by
  unfold Obligations.PointUpdates
  refine ⟨fun s n v l h => if_pos h, fun s n v l hacc hok => (if_neg (by simp [hacc])).trans (if_pos hok), ?_, State.dropPoints_spec, fun s n cyc l h => if_pos h,
    fun s n cyc l h => if_neg (by simp [h]), fun s => rfl, ?_, ?_, fun s u n h => State.nodeUpdate_of_none h, ?_, ?_, ?_, fun s => rfl⟩
  · intro s n v l hacc hok
    obtain ⟨t, ht, hpoints, hhost, hsubs⟩ := State.catalogue_accepted (v := v) hacc hok
    obtain ⟨hdup, hindex⟩ := catalogueOk_spec hok
    refine ⟨t, ht, fun k hk => ⟨fun hsome => ?_, ?_⟩, fun k hk => ?_, fun r hr hnew => ?_, hhost, hsubs⟩
    · by_contra hnot
      rw [hpoints, get?_catWritten_of_not_mem _ (fun r hr heq => hnot ⟨r, hr, heq⟩), Tab.get?_keep, if_neg (by simp [hk])] at hsome
      cases hsome
    · rintro ⟨r, hr, rfl⟩
      rw [hpoints, get?_catWritten_of_mem _ hdup hr]
      rfl
    · have hother : ∀ r ∈ l, k ≠ ptAddr n r.index := fun r hr heq => hk (heq ▸ ptNode_ptAddr n (hindex r hr))
      rw [hpoints, get?_catWritten_of_not_mem _ hother, Tab.get?_keep, if_pos (by simpa using hk)]
    · refine ⟨_, by rw [hpoints, get?_catWritten_of_mem _ hdup hr], ?_⟩
      rw [hnew]
      exact ⟨rfl, rfl, rfl, rfl, rfl, rfl, rfl, rfl⟩
  · intro s l n
    obtain ⟨hbudget, hcount⟩ := State.foldl_nodeUpdate_counts l (n, s)
    exact ⟨by dsimp only at hbudget; omega, hcount⟩
  · intro s u p n hp
    have hstep : (State.nodeUpdate (n + 1, s) u).2.pt.points = s.pt.points.set u.1 (p.accept u.2.1.value u.2.2 s.now u.2.1.bad) := by simp [State.nodeUpdate, hp, State.ptMark, State.ptSet]
    obtain ⟨h1, h2, h6, h7, h0⟩ := p.accept_quality u.2.1.value u.2.2 s.now u.2.1.bad
    rw [hstep]
    exact ⟨_, Tab.get?_set_self .., rfl, rfl, rfl, rfl, h1, h2, h6, h7, h0, rfl, rfl, rfl, fun k hk => Tab.get?_set_of_ne _ _ hk⟩
  · intro s k x j hx hlow hhigh
    obtain ⟨y, hy, _, _, hbits⟩ := State.subs_ptMark_markedBy k hx
    exact ⟨y, hy, (hbits k).mpr (.inr ⟨hlow, hhigh, List.mem_singleton_self k⟩)⟩
  · intro s hpoints hdiscarded hinflight
    refine congrArg Host.Outcome.next ?_
    rw [State.markStale_of_empty hpoints, State.ptSecond, if_neg (by omega), hdiscarded]
    exact State.serveFetches_of_empty hinflight
  · intro s hpoints hdiscarded
    refine congrArg Host.Outcome.next ?_
    rw [State.markStale_of_empty hpoints, State.ptSecond, if_pos hdiscarded]

end Sys2Proof.Machine

namespace Sys2Proof.Machine

/-!
PROOF. The Ohmyar busbar link (chapter 15).
-/

@[simp] theorem State.plcNode_start (s : State) (u n : Nat) : (s.start u).plcNode n = s.plcNode n := rfl

/-! ### Tone maps (R420, R422, R423) -/

/-- The modulation of a carrier is the highest that its SNR allows (R420). -/
theorem modFor_spec (rate : Nat) (m v : Int) :
    modFor rate m v ≤ 6 ∧ (modFor rate m v ≠ 0 → modT (modFor rate m v) + rateO rate + m ≤ v) ∧ ∀ k, modFor rate m v < k → k ≤ 6 → v < modT k + rateO rate + m := by
  rw [modFor]
  generalize hfit : (fun k => decide (modT k + rateO rate + m ≤ v)) = fits
  have hfits : ∀ k, fits k = true ↔ modT k + rateO rate + m ≤ v := fun k => by rw [← hfit, decide_eq_true_iff]
  cases hfind : [6, 5, 4, 3, 2, 1].find? fits with
  | none =>
    rw [List.find?_eq_none] at hfind
    refine ⟨by decide, by simp, fun k hlow hhigh => ?_⟩
    have hnot := hfind k (by simp at hlow ⊢; omega)
    rw [hfits] at hnot
    omega
  | some j =>
    obtain ⟨hj, as, bs, hsplit, hbefore⟩ := List.find?_eq_some_iff_append.mp hfind
    have hsorted : List.Pairwise (fun a b : Nat => b < a) [6, 5, 4, 3, 2, 1] := by decide
    have hlisted : j ∈ [6, 5, 4, 3, 2, 1] := List.mem_of_find?_eq_some hfind
    rw [hsplit, List.pairwise_append] at hsorted
    obtain ⟨_, htail, _⟩ := hsorted
    refine ⟨by simp at hlisted ⊢; omega, fun _ => (hfits j).mp hj, fun k hlow hhigh => ?_⟩
    have hk : k ∈ as ++ j :: bs := by
      rw [← hsplit]
      simp at hlow ⊢
      omega
    obtain hk | hk := List.mem_append.mp hk
    · have hnot : ¬fits k = true := by simpa using hbefore k hk
      rw [hfits] at hnot
      omega
    · obtain rfl | hk := List.mem_cons.mp hk
      · exact absurd hlow (lt_irrefl _)
      · exact absurd ((List.pairwise_cons.mp htail).1 k hk) (Nat.lt_asymm hlow)

/-- The first of the numbers below `n` with the greatest value: a fold that moves on to greater values only. -/
theorem foldl_argmax_spec (f : Nat → Nat) (n : Nat) : (List.range (n + 1)).foldl (fun b r => if f b < f r then r else b) 0 < n + 1 ∧
    (∀ r < n + 1, f r ≤ f ((List.range (n + 1)).foldl (fun b r => if f b < f r then r else b) 0)) ∧
    ∀ r < (List.range (n + 1)).foldl (fun b r => if f b < f r then r else b) 0, f r < f ((List.range (n + 1)).foldl (fun b r => if f b < f r then r else b) 0) := by
  induction n with
  | zero => simp
  | succ n ih =>
    obtain ⟨hlt, hmax, hfirst⟩ := ih
    rw [List.range_succ, List.foldl_append, List.foldl_cons, List.foldl_nil]
    generalize (List.range (n + 1)).foldl (fun b r => if f b < f r then r else b) 0 = b at *
    split
    · rename_i hmore
      refine ⟨by omega, fun r hr => ?_, fun r hr => (hmax r hr).trans_lt hmore⟩
      obtain hr | rfl := Nat.lt_succ_iff_lt_or_eq.mp hr
      · exact (hmax r hr).trans hmore.le
      · exact le_refl _
    · rename_i hnot
      refine ⟨by omega, fun r hr => ?_, hfirst⟩
      obtain hr | rfl := Nat.lt_succ_iff_lt_or_eq.mp hr
      · exact hmax r hr
      · omega

theorem State.rawCodes_of_masked {s : State} {k : Nat} (hk : k < CARRIERS) (h : s.masked k = true) (rate : Nat) (snr : List Int) : (s.rawCodes rate snr).getD k 0 = 0 := by
  simp [State.rawCodes, List.getD_eq_getElem?_getD, hk, h]

theorem State.smooth_of_zero {s : State} {k : Nat} (hk : k < CARRIERS) {codes : List Nat} (h : codes.getD k 0 = 0) : (s.smooth codes).getD k 0 = 0 := by
  have hget : (s.smooth codes)[k]? = some (if 0 < k ∧ k + 1 < CARRIERS ∧ s.masked (k - 1) = false ∧ s.masked (k + 1) = false ∧ codes.getD (k - 1) 0 + 1 < codes.getD k 0 ∧
      codes.getD (k + 1) 0 + 1 < codes.getD k 0 then max (codes.getD (k - 1) 0) (codes.getD (k + 1) 0) + 1 else codes.getD k 0) := by
    simp [State.smooth, hk]
  rw [List.getD_eq_getElem?_getD, hget, if_neg (by omega), Option.getD_some, h]

/-- Settles O47: the commands, the choice of modulation and rate, and a mask that comes into force. -/
theorem busbarMaps : Obligations.BusbarMaps := by
  unfold Obligations.BusbarMaps
  refine ⟨?_, modFor_spec, ?_, ?_, ?_⟩
  · intro s q tag c
    refine ⟨?_, ?_, ?_, ?_, ?_, ?_, ?_⟩
    · exact fun hc hlow hhigh hlen => startCommand_eq_of_starts hc (if_neg (by omega))
    · rintro m hc (⟨hdir, hm⟩ | ⟨hdir, hm⟩)
      · exact startCommand_eq_of_starts hc (by simp [plcTmapRead, hdir, hm])
      · exact startCommand_eq_of_starts hc (by simp [plcTmapRead, hdir, hm])
    · exact fun hc hdir hm => startCommand_eq_of_starts hc (by simp [plcTmapRead, hdir, hm])
    · rintro t hc hjoined rfl
      exact startCommand_eq_of_starts hc (by simp [plcTmapRefresh, hjoined])
    · exact fun hc hjoined => startCommand_eq_of_starts hc (by simp [plcTmapRefresh, hjoined])
    · intro r hc hr hobj hrange hmask
      have hvalid : ¬(c.desc.object ≠ 0 ∨ leNat r / 2 ^ 1074 ≠ 0 ∨ unmaskedOf (BitVec.ofNat 1088 (leNat r)) < 300) := by
        rw [Nat.div_eq_of_lt hrange]
        omega
      refine startCommand_eq_of_starts hc ?_
      rw [plcMaskSet, hr]
      exact if_neg hvalid
    · intro r hc hr hmask
      refine startCommand_eq_of_starts hc ?_
      rw [plcMaskSet, hr]
      exact if_pos (.inr (.inr hmask))
  · exact fun s snr => foldl_argmax_spec (fun r => mapBits r (s.rawCodes r snr)) 3
  · refine fun s g snr => ⟨by rw [State.buildMap], by rw [State.buildMap, State.smooth, List.length_map, List.length_range], fun k hk hmasked => ?_⟩
    simp only [State.buildMap]
    exact State.smooth_of_zero hk (State.rawCodes_of_masked hk hmasked (s.bestRate snr) snr)
  · intro s m hm
    simp only [State.applyMask, hm]
    refine ⟨trivial, trivial, fun e he => ?_⟩
    obtain ⟨x, _, rfl⟩ := List.mem_map.mp he
    exact ⟨rfl, rfl⟩

/-! ### Poll cycles (R426, R427) -/

theorem State.plcSecond_of_eq {s : State} (h : s.plc.second = s.now / sec) : s.plcSecond = s := if_pos h.symm

theorem State.refreshWaits_of_empty {s : State} (h : s.plc.waits = []) : s.refreshWaits = s := by
  have hsame : ({ s with plc := { s.plc with waits := [] } } : State) = s := by rw [← h]
  simp only [State.refreshWaits, h, List.filter_nil, List.map_nil, List.foldl_nil, hsame]

theorem State.unbook_of_empty {s : State} (h : s.plc.nodes = []) : s.unbook = s := if_neg (by simp [State.overbooked, h])

/-- The state after the start of a cycle in which no node is known, the next one at a time, with a discovery window or without (R426). -/
def State.openedTo (s : State) (next : Nat) (discovery : Bool) : State :=
  { s with plc := { s.plc with nextAt := next, cycles := s.plc.cycles + 1, used := 0, led := s.isActive, discovery := discovery } }

theorem State.cycleStart_of_empty {s : State} (hnodes : s.plc.nodes = []) (hwaits : s.plc.waits = []) (hmask : s.plc.maskNext = none) (hsecond : s.plc.second = s.now / sec) :
    s.cycleStart = s.openedTo (s.now + s.pms PAR_PLC_CYCLE_MS) (s.plc.cycles % 100 == 0) := by
  have hmasked : s.applyMask = s := by simp [State.applyMask, hmask]
  have hleft : (s.plc.nodes.filter fun e => decide (1 ≤ e.2.slot ∧ e.2.slot ≤ 3)).map Prod.fst = [] := by simp [hnodes]
  have hslots : (s.plc.nodes.mapV fun _ x => { x with slot := 0 }) = s.plc.nodes := by simp [hnodes, Tab.mapV]
  simp only [State.cycleStart, hleft, List.foldl_nil, State.plcSecond_of_eq hsecond, hmasked, State.refreshWaits_of_empty hwaits, State.unbook_of_empty hnodes, hslots]
  rfl

theorem State.joinedNodes_of_empty {s : State} (h : s.plc.nodes = []) : s.joinedNodes = [] := by simp [State.joinedNodes, h, Tab.keep, Tab.keys]

theorem State.polledIn_of_empty {s : State} (h : s.plc.nodes = []) (p : Nat) : s.polledIn p = [] := by simp [State.polledIn, State.joinedNodes_of_empty h]

theorem State.polledNow_of_empty {s : State} (h : s.plc.nodes = []) : s.polledNow = [] := by
  simp [State.polledNow, State.polledIn_of_empty h, h, Tab.keep, Tab.keys]

/-- What the bulk period gives: nothing without a node or without room, and the node's exchanges where there is one (R426). -/
theorem State.bulkPeriod_of_none {s : State} (h : s.bulkNodes = [] ∨ s.bulkRoom = 0) : s.bulkPeriod = s := by
  obtain h | h := h
  · simp [State.bulkPeriod, State.bulkTurn, h]
  · simp [State.bulkPeriod, h]

theorem State.bulkNodes_of_empty {s : State} (h : s.plc.nodes = []) : s.bulkNodes = [] := by simp [State.bulkNodes, h, Tab.keep, Tab.keys]

theorem State.bulkTurn_of_one {s : State} {n : Nat} (h : s.bulkNodes = [n]) : s.bulkTurn = [n] := by
  rw [State.bulkTurn, h]
  by_cases hn : s.plc.bulkLast < n
  · simp [hn]
  · simp [hn, Nat.not_lt.mp hn]

/-- Bulk exchanges given to one node in a row. -/
theorem foldl_bulk_eq (n k : Nat) (s : State) (hk : 0 < k) :
    (List.replicate k n).foldl (fun (t : State) n => ({ t with plc := { t.plc with bulkLast := n } } : State).emit (.bulk n (t.pn PAR_PLC_BULK_SYM))) s =
      { s with plc := { s.plc with bulkLast := n }, out := List.replicate k (Emit.bulk n (s.pn PAR_PLC_BULK_SYM)) ++ s.out } := by
  induction k generalizing s with
  | zero => cases hk
  | succ k ih =>
    rw [List.replicate_succ, List.foldl_cons]
    obtain rfl | hk := Nat.eq_zero_or_pos k
    · rfl
    · have hout (b : Emit) : List.replicate k b ++ b :: s.out = List.replicate (k + 1) b ++ s.out := by
        rw [List.replicate_succ', List.append_assoc]
        rfl
      rw [ih _ hk, ← hout]
      rfl

theorem State.bulkPeriod_of_one {s : State} {n : Nat} (h : s.bulkNodes = [n]) (hroom : 0 < s.bulkRoom) :
    s.bulkPeriod = { s with plc := { s.plc with bulkLast := n }, out := List.replicate s.bulkRoom (Emit.bulk n (s.pn PAR_PLC_BULK_SYM)) ++ s.out } := by
  have hgive : (List.range s.bulkRoom).map (fun k => [n].getD (k % [n].length) 0) = List.replicate s.bulkRoom n := by
    refine List.eq_replicate_iff.mpr ⟨by simp, fun b hb => ?_⟩
    obtain ⟨k, _, rfl⟩ := List.mem_map.mp hb
    rw [List.length_singleton, Nat.mod_one]
    rfl
  have hturn : s.bulkPeriod = ((List.range s.bulkRoom).map fun k => [n].getD (k % [n].length) 0).foldl
      (fun (t : State) n => ({ t with plc := { t.plc with bulkLast := n } } : State).emit (.bulk n (t.pn PAR_PLC_BULK_SYM))) s := by
    rw [State.bulkPeriod, State.bulkTurn_of_one h]
    rfl
  rw [hturn, hgive, foldl_bulk_eq n _ s hroom]

/-- The beacon and polls of a cycle under the epoch that the link has, or none yet (R426, R427). -/
theorem State.pollSend_of_epoch {s : State} (h : s.plc.epoch = 0 ∨ s.plc.epoch = s.ring.epoch) : s.pollSend =
    ((s.sendBeacon s.ring.epoch (if s.plc.discovery then 2 else 0) (s.polledIn (s.plc.cycles % 2)).length).pollAll s.polledNow).bulkPeriod :=
  if_neg fun hne => h.elim hne.1 hne.2

theorem State.pollSend_of_empty {s : State} (hnodes : s.plc.nodes = []) (h : s.plc.epoch = 0 ∨ s.plc.epoch = s.ring.epoch) :
    s.pollSend = s.sendBeacon s.ring.epoch (if s.plc.discovery then 2 else 0) 0 := by
  rw [State.pollSend_of_epoch h, State.polledIn_of_empty hnodes, State.polledNow_of_empty hnodes]
  exact State.bulkPeriod_of_none (.inl (State.bulkNodes_of_empty hnodes))

theorem execPollCycle_of_holder {s : State} (hmaster : s.plc.master = true) (hdue : s.plc.nextAt ≤ s.now) (hrole : s.isActive = true ∨ (s.plc.led = false ∧ s.pair.role = ROLE_STANDBY)) :
    exec .pollCycle s = .next s.cycleStart.pollSend := by
  have hopen : ¬(s.plc.master = false ∨ s.now < s.plc.nextAt) := by simp [hmaster, hdue]
  have hstays : ¬(s.isActive = false ∧ (s.plc.led = true ∨ s.pair.role ≠ ROLE_STANDBY)) := by
    rintro ⟨hpassive, hleaves⟩
    obtain hactive | ⟨hled, hstandby⟩ := hrole
    · simp [hactive] at hpassive
    · simp [hled, hstandby] at hleaves
  exact (if_neg hopen).trans (if_neg hstays)

theorem State.slot_of_pollAll_one (s : State) (n : Nat) :
    (s.pollAll [n]).plcNode n = { (s.plcNode n) with slot := 1, mapped := (s.plcNode n).runsMapped && (s.plcNode n).refresh != 1, polledBefore := (s.plcNode n).polledAt, polledAt := s.ring.window } ∧
      s.pollOf n (!(s.plcNode n).runsMapped || (s.plcNode n).refresh == 1) ∈ (s.pollAll [n]).out := by
  generalize hu : (s.updPlc n fun x => { x with slot := 1, mapped := x.runsMapped && x.refresh != 1, polledBefore := x.polledAt, polledAt := s.ring.window }) = u
  have hnode : u.plcNode n = { (s.plcNode n) with slot := 1, mapped := (s.plcNode n).runsMapped && (s.plcNode n).refresh != 1, polledBefore := (s.plcNode n).polledAt,
                                                  polledAt := s.ring.window } := by rw [← hu, State.plcNode_updPlc]
  have hpoll (b : Bool) : u.pollOf n b = s.pollOf n b := by
    rw [State.pollOf, hnode, ← hu]
    rfl
  have hall : s.pollAll [n] = (let t := u.emit (u.pollOf n (!(s.plcNode n).runsMapped || (s.plcNode n).refresh == 1))
      if (s.plcNode n).refresh = 1 then t.emit (.sounding n)
      else if (s.plcNode n).refresh = 2 then ((s.plcNode n).newUp.map fun m => t.emit (.toneMap n m.gen m.rate m.codes)).getD t
      else t) := by
    rw [← hu]
    rfl
  rw [hall, hpoll, ← hnode]
  dsimp only
  split
  · exact ⟨rfl, by simp [State.emit]⟩
  · split
    · cases (s.plcNode n).newUp
      · exact ⟨rfl, by simp [State.emit]⟩
      · exact ⟨rfl, by simp [State.emit]⟩
    · exact ⟨rfl, by simp [State.emit]⟩

/-! ### Exchanges and refreshes (R424, R425, R430) -/

theorem State.plcNode_updPlc_of_ne (s : State) {n m : Nat} (h : m ≠ n) (f : PlcNode → PlcNode) : (s.updPlc n f).plcNode m = s.plcNode m := by
  simp [State.updPlc, State.plcNode, Tab.getD_set, h]

theorem execPollResponse_of_slot {s : State} {a : PollAnswer} (hmaster : s.plc.master = true) (hslot : (s.plcNode a.node).slot = 1 ∨ (s.plcNode a.node).slot = 3) :
    ((s.plcSecond.pollAnswered a).holds a.node = false → exec (.pollResponse a) s = .next (s.plcSecond.pollAnswered a)) ∧
      ((s.plcSecond.pollAnswered a).holds a.node = true → exec (.pollResponse a) s =
        .next (((s.plcSecond.pollAnswered a).answerSlot a.node (s.plcSecond.pollAnswered a).ring.window).runPlc a.node (some a.words))) := by
  have hpolled : ¬(s.plc.master = false ∨ ((s.plcNode a.node).slot ≠ 1 ∧ (s.plcNode a.node).slot ≠ 3)) := by
    rintro (h | ⟨h1, h3⟩)
    · simp [hmaster] at h
    · exact hslot.elim h1 h3
  exact ⟨fun h => (if_neg hpolled).trans (if_neg (by simp [h])), fun h => (if_neg hpolled).trans (if_pos h)⟩

/-- A response to the first poll, in robust mode, of a joined node that still has its lease (R430). -/
theorem State.pollAnswered_of_joined {s : State} {a : PollAnswer} (hslot : (s.plcNode a.node).slot = 1) (hjoined : (s.plcNode a.node).joined = true)
    (hmapped : (s.plcNode a.node).mapped = false) (hlapsed : a.lapsed = false) :
    s.pollAnswered a = (s.updPlc a.node fun y => { y with bulk := a.bulk, slot := 0, exchanges := (y.exchanges + 1) % 2 ^ 32, dn := y.dn.map fun m => m.heard a.dnMargin,
                                                          up := y.up.map fun m => m.heard a.upMargin }).nodeHeard a.node := by
  simp [State.pollAnswered, hslot, hjoined, hmapped, hlapsed]

theorem beaconBytes_spec (y e i f m n : Nat) : (beaconBytes y e i f m n).length = 25 ∧
    (beaconBytes y e i f m n).take 17 = pack [(4, y), (4, e), (1, i), (1, f), (2, m), (2, n), (3, 0)] ∧
    (beaconBytes y e i f m n).drop 17 = leBytes 4 (crc32c ((beaconBytes y e i f m n).take 17)) ++ leBytes 4 (crc32 ((beaconBytes y e i f m n).take 21)) := by
  rw [beaconBytes]
  generalize hb : pack [(4, y), (4, e), (1, i), (1, f), (2, m), (2, n), (3, 0)] = b
  have hlen : b.length = 17 := by simp [← hb]
  have hcrc : (b ++ leBytes 4 (crc32c b)).length = 21 := by simp [hlen]
  have htake : (b ++ leBytes 4 (crc32c b) ++ leBytes 4 (crc32 (b ++ leBytes 4 (crc32c b)))).take 17 = b := by
    rw [List.append_assoc]
    exact List.take_left' hlen
  refine ⟨by simp [hlen], htake, ?_⟩
  rw [htake, List.take_left' hcrc, List.append_assoc, List.drop_left' hlen]

/-- The first failure of a robust exchange within the retry reserve, with the counts of this second (R430, R431). -/
theorem execExchangeFailed_of_room {s : State} {n : Nat} (hmaster : s.plc.master = true) (hsecond : s.plc.second = s.now / sec) (hslot : (s.plcNode n).slot = 1)
    (hmapped : (s.plcNode n).mapped = false) (hroom : s.plc.used < s.pn PAR_PLC_RETRY_RESERVE) :
    let t := s.updPlc n fun y => { y with slot := 2, exchanges := (y.exchanges + 1) % 2 ^ 32, failed := (y.failed + 1) % 2 ^ 32, consec := (s.plcNode n).consec }
    exec (.exchangeFailed n) s = .next { t with plc := { t.plc with used := t.plc.used + 1 } } := by
  change execExchangeFailed n s = _
  rw [execExchangeFailed]
  simp only [hmaster, hslot, hmapped, State.plcSecond_of_eq hsecond, hroom, decide_true, if_true]
  rfl

/-- The sounding of a refresh gives new maps, under a new generation unless one is open (R425). -/
theorem execTmapRefreshStep_of_sounded {s : State} {x : TmapStep} (hjoined : (s.plcNode x.node).joined = true) (hmaster : s.plc.master = true)
    (hrefresh : (s.plcNode x.node).refresh = 1) (hok : x.ok = true) :
    let gen := if (s.plcNode x.node).genOpen then (s.plcNode x.node).gen else ((s.plcNode x.node).gen + 1) % 16
    exec (.tmapRefreshStep x) s = .next (s.updPlc x.node fun y => { y with gen := gen, genOpen := true, newDn := some (s.buildMap gen x.snrDn),
                                                                            newUp := some (s.buildMap gen x.snrUp), refresh := 2 }) := by
  change execTmapRefreshStep x s = _
  rw [execTmapRefreshStep, if_neg (by simp [hjoined, hmaster]), hrefresh]
  exact if_pos hok

theorem State.beacon_openedTo (s : State) (next : Nat) (d : Bool) (e f n : Nat) : (s.openedTo next d).beacon e f n = s.beacon e f n := rfl

/-- After a raise of the epoch a cycle is one beacon that releases under the old one (R152). -/
theorem State.pollSend_of_raise {s : State} (hold : s.plc.epoch ≠ 0) (hother : s.plc.epoch ≠ s.ring.epoch) :
    s.pollSend = { s.sendBeacon s.plc.epoch 1 0 with plc := { (s.sendBeacon s.plc.epoch 1 0).plc with epoch := s.ring.epoch } } := if_pos ⟨hold, hother⟩

/-- A cycle with no node known is its beacon alone, under the module's epoch (R426, R427). -/
theorem State.pollSend_openedTo {s : State} (hnodes : s.plc.nodes = []) (hepoch : s.plc.epoch = 0 ∨ s.plc.epoch = s.ring.epoch) (next : Nat) (d : Bool) :
    let t := (s.openedTo next d).pollSend
    t.plc.nextAt = next ∧ t.plc.cycles = s.plc.cycles + 1 ∧ t.plc.epoch = s.ring.epoch ∧ t.plc.discovery = d ∧
      t.out = Emit.beacon (s.beacon s.ring.epoch (if d then 2 else 0) 0) :: s.out ∧ t = { s with plc := t.plc, out := t.out } := by
  have hsend : (s.openedTo next d).pollSend = (s.openedTo next d).sendBeacon s.ring.epoch (if d then 2 else 0) 0 := State.pollSend_of_empty (s := s.openedTo next d) hnodes hepoch
  rw [hsend, State.sendBeacon, State.beacon_openedTo]
  exact ⟨rfl, rfl, rfl, rfl, rfl, rfl⟩

theorem State.pollSend_openedTo_of_raise {s : State} (hold : s.plc.epoch ≠ 0) (hother : s.plc.epoch ≠ s.ring.epoch) (next : Nat) (d : Bool) :
    let t := (s.openedTo next d).pollSend
    t.plc.epoch = s.ring.epoch ∧ t.out = Emit.beacon (s.beacon s.plc.epoch 1 0) :: s.out ∧ t = { s with plc := t.plc, out := t.out } := by
  rw [State.pollSend_of_raise (s := s.openedTo next d) hold hother, State.sendBeacon, State.beacon_openedTo]
  exact ⟨rfl, rfl, rfl⟩

/-- Settles O48: the branch of each event, and the cycle in its parts. -/
theorem busbarEvents : Obligations.BusbarEvents := by
  unfold Obligations.BusbarEvents
  refine ⟨fun s h => if_pos h, ?_, ?_, fun s a h => if_pos h, ?_, ?_, ?_, ?_, ?_, ?_, fun s e r => rfl, ?_, ?_, fun s e f n => rfl, beaconBytes_spec,
    fun s hmaster hdue hrole => execPollCycle_of_holder hmaster hdue hrole, fun s h => State.pollSend_of_epoch h, fun s n h hroom => State.bulkPeriod_of_one h hroom,
    fun s h => State.bulkPeriod_of_none h, fun s => ⟨rfl, rfl, rfl⟩, State.slot_of_pollAll_one, fun s a hmaster hslot => execPollResponse_of_slot hmaster hslot, ?_⟩
  · intro s hmaster hdue hpassive hled
    refine ⟨_, (if_neg (by simp [hmaster, hdue])).trans (if_pos ⟨hpassive, .inl hled⟩), ?_⟩
    simp only [if_pos hled]
    exact ⟨trivial, rfl, rfl⟩
  · intro s hmaster hdue hactive hnodes hwaits hmask hsecond
    have hcycle := execPollCycle_of_holder hmaster hdue (.inl hactive)
    rw [State.cycleStart_of_empty hnodes hwaits hmask hsecond] at hcycle
    have hflag : (if s.plc.cycles % 100 = 0 then 2 else 0) = if (s.plc.cycles % 100 == 0) = true then 2 else 0 := by simp
    rw [hflag]
    exact ⟨fun hepoch => ⟨_, hcycle, State.pollSend_openedTo hnodes hepoch _ _⟩, fun hold hother => ⟨_, hcycle, State.pollSend_openedTo_of_raise hold hother _ _⟩⟩
  · rintro s t a hmaster hslot hjoined hmapped hlapsed hsecond rfl
    have hanswer := execPollResponse_of_slot (a := a) hmaster (.inl hslot)
    rw [State.plcSecond_of_eq hsecond, State.pollAnswered_of_joined hslot hjoined hmapped hlapsed] at hanswer
    exact hanswer
  · intro s n hmaster hsecond
    have hmine : ¬s.plc.master = false := by simp [hmaster]
    refine ⟨fun hslot => ?_, fun hslot hmapped hroom => ?_, fun hslot => ?_⟩
    · refine (if_neg hmine).trans ((if_pos hslot).trans ?_)
      rw [State.plcSecond_of_eq hsecond]
    · refine ⟨_, execExchangeFailed_of_room hmaster hsecond hslot hmapped hroom, ?_⟩
      generalize ht : (s.updPlc n fun y => { y with slot := 2, exchanges := (y.exchanges + 1) % 2 ^ 32, failed := (y.failed + 1) % 2 ^ 32, consec := (s.plcNode n).consec }) = t
      have hself : t.plcNode n = { (s.plcNode n) with slot := 2, exchanges := ((s.plcNode n).exchanges + 1) % 2 ^ 32, failed := ((s.plcNode n).failed + 1) % 2 ^ 32 } := by
        rw [← ht, State.plcNode_updPlc]
      have hothers : ∀ m, m ≠ n → t.plcNode m = s.plcNode m := fun m hm => by rw [← ht, s.plcNode_updPlc_of_ne hm]
      have hnode : ({ t with plc := { t.plc with used := t.plc.used + 1 } } : State).plcNode = t.plcNode := rfl
      rw [hnode, hself]
      refine ⟨rfl, rfl, rfl, ?_, hothers, ?_⟩
      · rw [← ht]
        rfl
      · rw [← ht]
        rfl
    · have hrepoll : exec (.repoll n) s = .next (({ (s.updPlc n fun y => { y with slot := 3 }) with
          plc := { (s.updPlc n fun y => { y with slot := 3 }).plc with repolls := s.plc.repolls + 1 } } : State).emit (s.pollOf n true)) := by
        refine (if_pos ⟨hmaster, hslot⟩).trans ?_
        rw [State.plcSecond_of_eq hsecond]
        rfl
      refine ⟨_, hrepoll, ?_, rfl, rfl, rfl⟩
      exact congrArg PlcNode.slot (s.plcNode_updPlc n fun y => { y with slot := 3 })
  · exact fun s n hjoined hmaster hrefresh hdue => if_pos ⟨hjoined, hmaster, hrefresh, hdue⟩
  · intro s x hjoined hmaster
    have hruns : ¬((s.plcNode x.node).joined = false ∨ s.plc.master = false) := by simp [hjoined, hmaster]
    have hstep : exec (.tmapRefreshStep x) s = execTmapRefreshStep x s := rfl
    refine ⟨fun hrefresh hok => ?_, fun hrefresh hok => ?_, fun hrefresh => ?_, fun hrefresh => ?_⟩
    · rw [hstep, execTmapRefreshStep, if_neg hruns, hrefresh]
      exact if_neg (by simp [hok])
    · refine ⟨_, execTmapRefreshStep_of_sounded hjoined hmaster hrefresh hok, ?_⟩
      rw [State.plcNode_updPlc]
      exact ⟨rfl, rfl, rfl, rfl, rfl, fun hclosed => if_neg (by simp [hclosed]), fun hopen => if_pos hopen, rfl⟩
    · rw [hstep, execTmapRefreshStep, if_neg hruns, hrefresh]
      cases x.ok
      · rfl
      · rfl
    · rw [hstep, execTmapRefreshStep, if_neg hruns, hrefresh]
      rfl
  · exact fun s l hmaster hdiscovery => if_pos ⟨hmaster, hdiscovery⟩
  · exact fun s l h => if_neg (by obtain h | h := h <;> simp [h])
  · intro s hrole hmaster hsilent
    refine ⟨_, if_pos ⟨hrole, ?_, hmaster⟩, rfl, rfl, rfl, rfl⟩
    cases hheard : s.plc.heardAt with
    | none => rfl
    | some t => exact decide_eq_true (hsilent t hheard)
  · intro s h
    refine if_neg fun ⟨hrole, _, hmaster⟩ => ?_
    obtain ⟨hpassive, hnot⟩ | hholds := h
    · exact hrole.elim (fun hactive => by simp [hpassive] at hactive) hnot
    · simp [hholds] at hmaster
  · rintro s t n hmaster hslot rfl
    exact if_pos ⟨hmaster, hslot⟩

end Sys2Proof.Machine

namespace Sys2Proof.Machine

/-!
PROOF. The CAN FD controllers (chapter 16).
-/

@[simp] theorem State.canCtl_start (s : State) (u k : Nat) : (s.start u).canCtl k = s.canCtl k := rfl
@[simp] theorem State.canRecOk_start (s : State) (u : Nat) (r : Rec) : (s.start u).canRecOk r = s.canRecOk r := rfl
@[simp] theorem State.canModeNow_start (s : State) (u k : Nat) : (s.start u).canModeNow k = s.canModeNow k := rfl

theorem State.canCtl_of_can_eq {s t : State} (h : t.can = s.can) (k : Nat) : t.canCtl k = s.canCtl k := by rw [State.canCtl, h, State.canCtl]

theorem State.canCtl_updCan_of_ne (s : State) {j k : Nat} (h : j ≠ k) (f : CanCtl → CanCtl) : (s.updCan k f).canCtl j = s.canCtl j := by
  simp [State.updCan, State.canCtl, Tab.getD_set, h]

/-! ### Waking the gauge domain (R453) -/

@[simp] theorem State.countStr_can (s : State) (k : Nat) (i : Int) (dt : Nat) : (s.countStr k i dt).can = s.can := by
  have hdraw (n : Int) (d : Nat) : (s.roundDiv n d).2.can = s.can := (congrArg State.can (s.drawsTo_roundDiv n d)).trans rfl
  unfold State.countStr
  split
  · rfl
  · dsimp only
    split
    · exact (State.raise_can ..).trans (hdraw ..)
    · exact hdraw ..

@[simp] theorem State.selfDischarge_can (s : State) : s.selfDischarge.can = s.can := by
  refine (foldl_leaves State.can (fun t e => ?_) s.gau.strings s : _)
  exact t.countStr_can ..

@[simp] theorem State.gauWake_can (s : State) : s.gauWake.can = s.can := by
  unfold State.gauWake
  split
  · exact s.selfDischarge_can
  · rfl

/-- A new timing of CAN3 waits for the gauge domain's store, for which work leave is asked once. -/
theorem State.canGauge_of_new {s : State} {r old : Rec} (hr : canTiming (s.canCtl 3).cfg = r) (hnew : r ≠ canTiming old) :
    (s.canGauge 3 old).can.gaugeWanted = some (r, s.now) ∧ ((s.canGauge 3 old).awaits .canTiming = true ∨ (s.canGauge 3 old).hasGrant .canTiming = true) := by
  subst hr
  have hstore : ¬(3 ≠ 3 ∨ canTiming (s.canCtl 3).cfg = canTiming old) := by simp [hnew]
  simp only [State.canGauge, if_neg hstore]
  split
  · rename_i hasked
    exact ⟨rfl, hasked⟩
  · refine ⟨?_, .inl (State.awaits_askHoldup ..)⟩
    rw [State.askHoldup_can, State.gauWake_can]

/-! ### Commands (R455, R456) -/

/-- A configuration in order ends what the controller still has to send and replaces its record. -/
theorem canConfig_of_ok {s : State} {c : InFlight} {r : Rec} (hr : c.record 512 = some r) (hk : c.desc.object ≤ 3) (hok : s.canRecOk r = true)
    (hdetect : (s.canCtl c.desc.object).detect = none) :
    let t := (s.canCtl c.desc.object).cmds.keys.foldl (fun (u : State) j => u.canTxEnd c.desc.object j ST_ABORTED) s
    canConfig c s = ((t.updCan c.desc.object fun x => { x with cfg := r, tx := [] }).canGauge c.desc.object (t.canCtl c.desc.object).cfg).endCmd c.uid ST_OK [] [] 512 0 := by
  have hvalid : ¬(3 < c.desc.object ∨ s.canRecOk r = false) := by simp [hok, hk]
  have hidle : ¬((s.canCtl c.desc.object).detect.isSome = true) := by simp [hdetect]
  rw [canConfig, hr]
  exact (if_neg hvalid).trans (if_neg hidle)

/-- What a CAN_RX_ACK leaves: the entries after the first that has the given SEQ. -/
theorem findIdx?_append_cons {α : Type} (p : α → Bool) (l : List α) (r : α) (k : List α) (hl : ∀ e ∈ l, p e = false) (hr : p r = true) :
    (l ++ r :: k).findIdx? p = some l.length := by
  rw [List.findIdx?_append, List.findIdx?_eq_none_iff.mpr hl, List.findIdx?_cons, hr]
  simp

theorem canRxAck_of_found {s : State} {c : InFlight} {l k : List Rec} {r : Rec} (hk : c.desc.object ≤ 3) (hhost : canRxHost (s.canCtl c.desc.object).cfg = c.entry)
    (hrx : (s.canCtl c.desc.object).rx = l ++ r :: k) (hr : fld r 6 2 = c.desc.u 32 2) (hl : ∀ e ∈ l, fld e 6 2 ≠ c.desc.u 32 2) :
    canRxAck c s = (s.updCan c.desc.object fun x => { x with rx := k }).endCmd c.uid ST_OK (pack [(1, k.length)]) [] 0 0 := by
  have hfind : (s.canCtl c.desc.object).rx.findIdx? (fun r => fld r 6 2 == c.desc.u 32 2) = some l.length := by
    rw [hrx]
    exact findIdx?_append_cons _ l r k (fun e he => by simp [hl e he]) (by simp [hr])
  have hleft : (s.canCtl c.desc.object).rx.drop (l.length + 1) = k := by
    rw [hrx, ← List.drop_drop, List.drop_left]
    rfl
  rw [canRxAck, if_neg (by omega), if_neg (by simp [hhost]), hfind]
  dsimp only
  rw [hleft]

/-- The conditions on the operands of a CAN_TX, in the order of R456. -/
theorem canTxCmd_of_frames {s : State} {c : InFlight} (hk : c.desc.object ≤ 3) (hlow : 1 ≤ c.desc.u 32 1) (hhigh : c.desc.u 32 1 ≤ 28)
    (hlen : c.desc.data.length = 80 * c.desc.u 32 1) (hframes : ∀ f ∈ chunks 80 (c.desc.u 32 1) c.desc.data, frameOk (s.canCtl c.desc.object).cfg f = true) :
    ¬(3 < c.desc.object ∨ c.desc.u 32 1 = 0 ∨ 28 < c.desc.u 32 1 ∨ c.desc.data.length ≠ 80 * c.desc.u 32 1 ∨
      ((chunks 80 (c.desc.u 32 1) c.desc.data).all fun f => frameOk (s.canCtl c.desc.object).cfg f) = false) := by
  have hall : ((chunks 80 (c.desc.u 32 1) c.desc.data).all fun f => frameOk (s.canCtl c.desc.object).cfg f) = true := List.all_eq_true.mpr hframes
  rintro (h | h | h | h | h)
  · omega
  · omega
  · omega
  · exact h hlen
  · exact absurd (hall.symm.trans h) (by decide)

/-- Settles O49: each command runs one branch of its meaning. -/
theorem canCommands : Obligations.CanCommands := by
  unfold Obligations.CanCommands
  intro s q tag c
  refine ⟨?_, ?_, ?_, ?_, ?_, ?_, ?_, ?_, ?_, ?_, ?_, ?_, ?_, ?_, ?_⟩
  · intro r hc hr hk hok hdetect hcmds
    refine startCommand_eq_of_starts hc ((canConfig_of_ok (s := s.start c.uid) hr hk hok hdetect).trans ?_)
    rw [State.canCtl_start, hcmds]
    rfl
  · intro r hc hr hk hok hdetect
    refine startCommand_eq_of_starts hc ?_
    rw [canConfig, hr]
    exact (if_neg (by simp [hok, hk])).trans (if_pos hdetect)
  · intro n l hc hk hlow hhigh hflag hcands htimings hdetect htx
    have hvalid : ¬(3 < c.desc.object ∨ c.desc.u 32 4 < 100 ∨ 600000 < c.desc.u 32 4 ∨ 1 < c.desc.u 36 1 ∨ (n :: l).isEmpty ∨
        ((n :: l).all fun k => timingOk (canCand (s.canCtl c.desc.object).cfg k)) = false) := by
      rw [List.all_eq_true.mpr htimings]
      simp
      omega
    refine startCommand_eq_of_starts hc ?_
    simp only [canDetect, State.canCtl_start, hcands]
    exact (if_neg hvalid).trans (if_neg (by simp [hdetect, htx]))
  · intro hc hk hlow hhigh hlen hframes
    have hvalid := canTxCmd_of_frames hk hlow hhigh hlen hframes
    refine ⟨fun hfull => ?_, fun hroom hnormal hloop => ?_, fun hroom hmode => ?_⟩
    · exact startCommand_eq_of_starts hc ((if_neg hvalid).trans (if_pos hfull))
    · exact startCommand_eq_of_starts hc ((if_neg hvalid).trans ((if_neg (by omega)).trans (if_pos ⟨hnormal, hloop⟩)))
    · exact startCommand_eq_of_starts hc ((if_neg hvalid).trans ((if_neg (by omega)).trans (if_neg fun h => hmode.elim h.1 h.2)))
  · exact fun hc hk hhost hlow hhigh hlen => startCommand_eq_of_starts hc ((if_neg (by omega)).trans ((if_neg fun h => h hhost).trans (if_neg (by omega))))
  · exact fun hc hk hhost => startCommand_eq_of_starts hc ((if_neg (by omega)).trans (if_pos hhost))
  · exact fun l r k hc hk hhost hrx hr hl => startCommand_eq_of_starts hc (canRxAck_of_found (s := s.start c.uid) hk hhost hrx hr hl)
  · intro hc hk hhost hnone
    refine startCommand_eq_of_starts hc ?_
    have hfind : (s.canCtl c.desc.object).rx.findIdx? (fun r => fld r 6 2 == c.desc.u 32 2) = none :=
      List.findIdx?_eq_none_iff.mpr fun e he => by simp [hnone e he]
    rw [canRxAck, if_neg (by omega), if_neg (by simp [hhost]), State.canCtl_start, hfind]
  · exact fun hc hk hoff => startCommand_eq_of_starts hc ((if_neg (by omega)).trans (if_neg (by simp [hoff])))
  · exact fun hc hk hon => startCommand_eq_of_starts hc ((if_neg (by omega)).trans (if_pos hon))
  · exact fun hc hk => startCommand_eq_of_starts hc (if_neg (by omega))
  · intro x hx hset hdue
    change execCanTxTimeout q tag s = _
    rw [execCanTxTimeout, hx]
    exact if_pos ⟨hset, hdue⟩
  · rintro r t hc hr hk hok hdetect rfl
    exact startCommand_eq_of_starts hc (canConfig_of_ok (s := s.start c.uid) hr hk hok hdetect)
  · exact fun r old hr hnew => State.canGauge_of_new hr hnew
  · intro r a hwanted
    refine ⟨?_, fun hwaits hlate => ?_⟩
    · rw [canTimingDone, hwanted]
    · rw [State.canTimingLate, hwanted]
      exact if_pos ⟨hwaits, hlate⟩

/-! ### Reception (R445, R447, R450, R451) -/

theorem State.canSees_of_frame {s : State} {k id fl dlc a : Nat} {l : List Byte} (hdetect : (s.canCtl k).detect = none)
    (hfd : bit fl 1 = false ∨ (canFd (s.canCtl k).cfg = true ∧ (bit fl 2 = false ∨ hasData (canTiming (s.canCtl k).cfg) = true))) :
    s.canSees k (.frame id fl dlc l a) = .frame id fl dlc l a := by
  simp only [State.canSees, hdetect]
  rw [if_neg (by rintro ⟨h1, h2⟩; obtain h | ⟨h, -⟩ := hfd <;> simp_all), if_neg (by rintro ⟨h1, h2, h3⟩; obtain h | ⟨-, h | h⟩ := hfd <;> simp_all)]

/-- A controller on the bus that is in normal or listen-only mode. -/
theorem execCanFrameReceived_of_on {s : State} {k : Nat} (hk : k ≤ 3) (hmode : s.canModeNow k = 1 ∨ s.canModeNow k = 2) (hon : (s.canCtl k).offBus = false) (x : CanRx) :
    exec (.canFrameReceived k x) s = match s.canSees k x with
      | .frame id flags dlc data sof => .next (s.canFrameIn k id flags dlc data sof)
      | .error n => .next (s.canErrorIn k n)
      | .exception => .next (if (s.canCtl k).detect.isSome then s.canNext k else s) := by
  have hhears : ¬(3 < k ∨ s.canModeNow k = 0 ∨ s.canModeNow k = 3 ∨ (s.canCtl k).offBus = true) := by
    simp only [hon, Bool.false_eq_true, or_false]
    omega
  exact (if_neg hhears).trans rfl

/-- What a listening controller does with a frame without error: it is stored, and nothing is acknowledged. -/
theorem execCanFrameReceived_of_listening {s : State} {k id fl dlc a : Nat} {l : List Byte} (hk : k ≤ 3) (hmode : s.canModeNow k = 2)
    (hon : (s.canCtl k).offBus = false) (hdetect : (s.canCtl k).detect = none) (hclassic : bit fl 1 = false) :
    exec (.canFrameReceived k (.frame id fl dlc l a)) s = .next (s.canStore k id fl dlc l a) := by
  rw [execCanFrameReceived_of_on hk (.inr hmode) hon, State.canSees_of_frame hdetect (.inl hclassic)]
  simp [State.canFrameIn, hmode, hdetect]

theorem dlcLen_le (fd : Bool) (dlc : Nat) : dlcLen fd dlc ≤ 64 := by
  rw [dlcLen]
  split
  · have hall : ∀ x ∈ ([0, 1, 2, 3, 4, 5, 6, 7, 8, 12, 16, 20, 24, 32, 48, 64] : List Nat), x ≤ 64 := by decide
    rw [List.getD_eq_getElem?_getD]
    cases h : ([0, 1, 2, 3, 4, 5, 6, 7, 8, 12, 16, 20, 24, 32, 48, 64] : List Nat)[dlc]? with
    | none => exact Nat.zero_le 64
    | some x => exact hall x (List.mem_of_getElem? h)
  · omega

/-- A receive entry: its header of 16 bytes and up to 64 of data (R446). -/
def canEntry (id flags dlc seq ticks filter wrap : Nat) (data : List Byte) : Rec :=
  pack [(4, id), (1, flags), (1, dlc), (2, seq), (4, ticks), (1, filter), (1, wrap), (2, 0)] ++ padTo 64 data

theorem canEntry_spec (id flags dlc seq ticks filter wrap : Nat) (data : List Byte) :
    (canEntry id flags dlc seq ticks filter wrap data).length = 80 ∧ fld (canEntry id flags dlc seq ticks filter wrap data) 0 4 = id % 2 ^ 32 ∧
      fld (canEntry id flags dlc seq ticks filter wrap data) 6 2 = seq % 65536 ∧ fld (canEntry id flags dlc seq ticks filter wrap data) 8 4 = ticks % 2 ^ 32 := by
  refine ⟨?_, fld_pack_append [] _ _ 4 id rfl, fld_pack_append [(4, id), (1, flags), (1, dlc)] _ _ 2 seq rfl,
    fld_pack_append [(4, id), (1, flags), (1, dlc), (2, seq)] _ _ 4 ticks rfl⟩
  simp [canEntry, length_padTo]

/-- A frame for a queue with room takes its end under the next sequence number (R446, R449). -/
theorem State.canStore_of_room {s : State} {k id fl dlc n a : Nat} {l : List Byte} (hmatch : canMatch (s.canCtl k).cfg id (bit fl 0) = some n)
    (hqueue : fld (canFilter (s.canCtl k).cfg n) 9 1 = 0) (hhost : canRxHost (s.canCtl k).cfg ≠ 0xFF) (hroom : (s.canCtl k).rx.length < 64) :
    s.canStore k id fl dlc l a = s.updCan k fun x => { x with
      rx := x.rx ++ [canEntry id (fl % 32) dlc (s.canCtl k).seq (s.canTicksAt a % 2 ^ 32) n (s.canWrapAt a) (l.take (if bit fl 3 then 0 else dlcLen (bit fl 1) dlc))]
      seq := (x.seq + 1) % 65536 } := by
  simp only [State.canStore, hmatch]
  rw [if_neg (by omega), if_neg (by omega), if_neg hhost, if_neg (by omega)]
  rfl

theorem State.canStore_of_full {s : State} {k id fl dlc n a : Nat} {l : List Byte} (hmatch : canMatch (s.canCtl k).cfg id (bit fl 0) = some n)
    (hqueue : fld (canFilter (s.canCtl k).cfg n) 9 1 = 0) (hhost : canRxHost (s.canCtl k).cfg ≠ 0xFF) (hfull : 64 ≤ (s.canCtl k).rx.length) :
    s.canStore k id fl dlc l a = s.canDrop k true := by
  simp only [State.canStore, hmatch]
  rw [if_neg (by omega), if_neg (by omega), if_neg hhost, if_pos hfull]

/-- A frame that finds the queue full is counted, and the queue stays (R447). -/
theorem State.canDrop_full_spec (s : State) (k : Nat) : ((s.canDrop k true).canCtl k).rx = (s.canCtl k).rx ∧ ((s.canDrop k true).canCtl k).overrun = true ∧
    ((s.canDrop k true).canCtl k).dropped = ((s.canCtl k).dropped + 1) % 65536 ∧ ∀ j, j ≠ k → (s.canDrop k true).canCtl j = s.canCtl j := by
  let t := s.updCan k fun x => { x with dropped := (x.dropped + 1) % 65536, overrun := x.overrun || true }
  have hself : t.canCtl k = { s.canCtl k with dropped := ((s.canCtl k).dropped + 1) % 65536, overrun := (s.canCtl k).overrun || true } := State.canCtl_updCan ..
  have hothers : ∀ j, j ≠ k → t.canCtl j = s.canCtl j := fun j hj => s.canCtl_updCan_of_ne hj _
  have hdrop : ∃ due : Bool, s.canDrop k true = if due = true then (t.updCan k fun x => { x with overrunAt := some s.now }).raise 0x0F 0x0003 k else t := ⟨_, rfl⟩
  obtain ⟨due, hdrop⟩ := hdrop
  rw [hdrop]
  cases due with
  | true =>
    have hcan := fun j => State.canCtl_of_can_eq (State.raise_can (t.updCan k fun x => { x with overrunAt := some s.now }) 0x0F 0x0003 k) j
    refine ⟨?_, ?_, ?_, fun j hj => (hcan j).trans ((t.canCtl_updCan_of_ne hj _).trans (hothers j hj))⟩
    all_goals rw [if_pos rfl, hcan, State.canCtl_updCan, hself]
    exact Bool.or_true _
  | false =>
    refine ⟨?_, ?_, ?_, hothers⟩
    all_goals rw [if_neg Bool.false_ne_true, hself]
    exact Bool.or_true _

/-- The filter that a frame matches is enabled and takes its identifier (R445). -/
theorem canMatch_spec {r : Rec} {id n : Nat} {e : Bool} (h : canMatch r id e = some n) : n < 32 ∧ filterOn (canFilter r n) = true ∧
    bit (fld (canFilter r n) 8 1) 0 = e ∧ id &&& fld (canFilter r n) 4 4 = fld (canFilter r n) 0 4 &&& fld (canFilter r n) 4 4 := by
  have hmem := List.mem_of_find?_eq_some h
  have hmatch := List.find?_some h
  simp only [Bool.and_eq_true, beq_iff_eq, List.mem_range] at hmem hmatch
  obtain ⟨⟨hon, hide⟩, hid⟩ := hmatch
  exact ⟨hmem, hon, hide, hid⟩

/-! ### Transmission (R448) -/

/-- The one of lower value, of what is found so far and the next, as `State.canFirst` chooses. -/
def lower {α : Type} (f : α → Nat) (b : Option α) (x : α) : Option α := match b with
  | none => some x
  | some a => if f x < f a then some x else some a

theorem foldl_lower_spec {α : Type} (f : α → Nat) (l : List α) (b : Option α) (e : α) (h : l.foldl (lower f) b = some e) :
    (e ∈ l ∨ b = some e) ∧ (∀ x ∈ l, f e ≤ f x) ∧ ∀ a, b = some a → f e ≤ f a := by
  induction l generalizing b with
  | nil => exact ⟨.inr h, fun x hx => absurd hx List.not_mem_nil, fun a ha => (congrArg f (Option.some.inj (h.symm.trans ha))).le⟩
  | cons y l ih =>
    obtain ⟨hmem, hall, hbound⟩ := ih _ h
    cases b with
    | none => exact ⟨.inl (hmem.elim (List.mem_cons_of_mem y) fun hy => Option.some.inj hy ▸ List.mem_cons_self),
        List.forall_mem_cons.mpr ⟨hbound y rfl, hall⟩, nofun⟩
    | some a =>
      rw [lower] at hmem hbound
      split at hmem
      · rename_i hless
        rw [if_pos hless] at hbound
        have hy := hbound y rfl
        refine ⟨.inl (hmem.elim (List.mem_cons_of_mem y) fun hy => Option.some.inj hy ▸ List.mem_cons_self), List.forall_mem_cons.mpr ⟨hy, hall⟩, ?_⟩
        rintro b ⟨⟩
        exact hy.trans hless.le
      · rename_i hmore
        rw [if_neg hmore] at hbound
        have ha := hbound a rfl
        refine ⟨hmem.imp (List.mem_cons_of_mem y) id, List.forall_mem_cons.mpr ⟨ha.trans (Nat.le_of_not_lt hmore), hall⟩, ?_⟩
        rintro b ⟨⟩
        exact ha

/-- The entry sent next is a pending one that the controller may send, of the lowest arbitration value among them. -/
theorem State.canFirst_spec {s : State} {k n : Nat} {e : CanTxEntry} (h : s.canFirst k = some (n, e)) : (n, e) ∈ s.canTx k ∧ (s.isActive = true ∨ e.uid = none) ∧
    ∀ f ∈ s.canTx k, s.isActive = true ∨ f.2.uid = none → arbValue e.frame ≤ arbValue f.2.frame := by
  have hfold : s.canFirst k = ((s.canTx k).filter fun e => s.isActive || e.2.uid.isNone).foldl (lower fun x : Nat × CanTxEntry => arbValue x.2.frame) none := by
    rw [State.canFirst]
    congr 1
    funext b x
    cases b <;> rfl
  obtain ⟨hmem, hmin, -⟩ := foldl_lower_spec (fun x : Nat × CanTxEntry => arbValue x.2.frame)
    ((s.canTx k).filter fun e => s.isActive || e.2.uid.isNone) none (n, e) (hfold.symm.trans h)
  have hmay : ∀ f : Nat × CanTxEntry, f ∈ (s.canTx k).filter (fun e => s.isActive || e.2.uid.isNone) ↔ f ∈ s.canTx k ∧ (s.isActive = true ∨ f.2.uid = none) := by
    simp
  obtain ⟨hin, hsends⟩ := (hmay _).mp (hmem.resolve_right nofun)
  exact ⟨hin, hsends, fun f hf hfs => hmin f ((hmay f).mpr ⟨hf, hfs⟩)⟩

/-- A controller on the bus, in normal mode or looped back, with an entry to send. -/
theorem execCanFrameSent_of_first {s : State} {k n : Nat} {e : CanTxEntry} (hk : k ≤ 3) (hmode : s.canModeNow k = 1 ∨ s.canModeNow k = 3) (hon : (s.canCtl k).offBus = false)
    (hfirst : s.canFirst k = some (n, e)) (o : CanTxEnd) : exec (.canFrameSent k o) s =
      let once := canNoRetx (s.canCtl k).cfg || bit (fld e.frame 4 1) 5
      match o with
      | .sent => .next (s.canSent k n e)
      | .lost => if once then .next (s.canDone k n e false) else .next s
      | .error b =>
        let t := (s.canErr k fun x => { x with tec := min 511 (x.tec + b) }).emit (.canError k ((s.canCtl k).errState == 1))
        if once then .next (t.canDone k n e false) else .next t := by
  have hsends : ¬(3 < k ∨ (s.canModeNow k ≠ 1 ∧ s.canModeNow k ≠ 3) ∨ (s.canCtl k).offBus = true) := by
    simp only [hon, Bool.false_eq_true, or_false]
    omega
  change execCanFrameSent k o s = _
  simp only [execCanFrameSent, if_neg hsends, hfirst] <;> cases o <;> rfl

/-! ### Candidates (R450) -/

theorem mem_usedCands_pairwise (r : Rec) : (usedCands r).Pairwise (· < ·) := List.pairwise_lt_range.filter _

/-- The next candidate is the lowest used one above, or the first again. -/
theorem nextCand_spec {r : Rec} {n k : Nat} {l : List Nat} (hused : usedCands r = k :: l) :
    nextCand r n ∈ usedCands r ∧ ((∃ m ∈ usedCands r, n < m) → n < nextCand r n ∧ ∀ m ∈ usedCands r, n < m → nextCand r n ≤ m) ∧
      ((∀ m ∈ usedCands r, m ≤ n) → nextCand r n = k) := by
  cases hfind : (usedCands r).find? fun m => decide (n < m) with
  | none =>
    have hnext : nextCand r n = k := by rw [nextCand, hfind, hused]; rfl
    have hlast : ∀ m ∈ usedCands r, ¬n < m := fun m hm => by simpa using List.find?_eq_none.mp hfind m hm
    exact ⟨by rw [hnext, hused]; exact List.mem_cons_self, fun ⟨m, hm, hlt⟩ => absurd hlt (hlast m hm), fun _ => hnext⟩
  | some j =>
    have hnext : nextCand r n = j := by rw [nextCand, hfind]; rfl
    obtain ⟨habove, as, bs, hsplit, has⟩ := List.find?_eq_some_iff_append.mp hfind
    have hsorted := mem_usedCands_pairwise r
    simp only [decide_eq_true_eq] at habove
    rw [hnext]
    refine ⟨List.mem_of_find?_eq_some hfind, fun _ => ⟨habove, fun m hm hlt => ?_⟩, fun hlast => absurd habove (Nat.not_lt.mpr (hlast j (List.mem_of_find?_eq_some hfind)))⟩
    rw [hsplit] at hm hsorted
    rcases List.mem_append.mp hm with hm | hm
    · exact absurd hlt (by simpa using has m hm)
    · obtain ⟨hbs, -⟩ := List.pairwise_cons.mp (List.pairwise_append.mp hsorted).2.1
      exact (List.mem_cons.mp hm).elim (fun h => h.ge) fun h => (hbs m h).le

/-! ### Bus-off (R451) -/

/-- Past 255 transmit errors the controller enters bus-off, which is kept for the count of entries within 60 s. -/
theorem execCanBusoff_spec {s : State} {k : Nat} (hk : k ≤ 3) (hon : (s.canCtl k).busoff = false) (htec : 256 ≤ (s.canCtl k).tec) :
    ∃ t : State, exec (.canBusoff k) s = .next t ∧ (t.canCtl k).busoff = true ∧ (t.canCtl k).recovering = false ∧ (t.canCtl k).offAt = s.now ∧
      (t.canCtl k).busoffs = ((s.canCtl k).busoffs + 1) % 65536 ∧
      (t.canCtl k).offs = s.now :: (s.canCtl k).offs.filter (fun u => decide (s.now < u + 60 * sec)) ∧ ∀ j, j ≠ k → t.canCtl j = s.canCtl j := by
  have henters : ¬(3 < k ∨ (s.canCtl k).busoff = true ∨ (s.canCtl k).tec ≤ 255) := by
    simp only [hon, Bool.false_eq_true, false_or]
    omega
  let offs := s.now :: (s.canCtl k).offs.filter fun t => decide (s.now < t + 60 * sec)
  let lock := decide (s.pn PAR_CAN_BUSOFF_MAX ≤ offs.length)
  let off : CanCtl → CanCtl := fun x =>
    { x with busoff := true, recovering := false, offAt := s.now, offs := offs, lock := x.lock || lock, busoffs := (x.busoffs + 1) % 65536 }
  have hend : ∃ t : State, exec (.canBusoff k) s = .next t ∧ t.can = (s.updCan k off).can := by
    have hraise := State.raise_can (s.updCan k off) 0x0F 0x0001 k
    cases hlock : lock with
    | true => exact ⟨_, (if_neg henters).trans (if_pos hlock), (State.report_can ..).trans hraise⟩
    | false => exact ⟨_, (if_neg henters).trans (if_neg (ne_true_of_eq_false hlock)), hraise⟩
  obtain ⟨t, hexec, hcan⟩ := hend
  have hself : t.canCtl k = off (s.canCtl k) := (State.canCtl_of_can_eq hcan k).trans (State.canCtl_updCan ..)
  refine ⟨t, hexec, ?_, ?_, ?_, ?_, ?_, fun j hj => (State.canCtl_of_can_eq hcan j).trans (s.canCtl_updCan_of_ne hj _)⟩
  all_goals rw [hself]

/-- The end of the recovery puts the controller back with its counts at 0. -/
theorem execCanRecovered_spec {s : State} {k : Nat} (hoff : (s.canCtl k).busoff = true) (hruns : (s.canCtl k).recovering = true) :
    ∃ t : State, exec (.canRecovered k) s = .next t ∧ (t.canCtl k).busoff = false ∧ (t.canCtl k).tec = 0 ∧ (t.canCtl k).recCount = 0 ∧ (t.canCtl k).recover = [] ∧
      (t.canCtl k).rx = (s.canCtl k).rx ∧ ∀ j, j ≠ k → t.canCtl j = s.canCtl j := by
  let t := s.updCan k fun x => { x with busoff := false, recovering := false, tec := 0, recCount := 0, recover := [] }
  have hself : t.canCtl k = { s.canCtl k with busoff := false, recovering := false, tec := 0, recCount := 0, recover := [] } := State.canCtl_updCan ..
  let u := (s.canCtl k).recover.foldl (fun (u : State) c => u.endCmd c ST_OK [] [] 0 0) (t.raise 0x0F 0x0002 k)
  have hcan : u.can = t.can := (foldl_leaves State.can (fun v c => v.endCmd_can ..) _ _).trans (State.raise_can ..)
  have hctl := fun j => State.canCtl_of_can_eq hcan j
  refine ⟨u, if_pos ⟨hoff, hruns⟩, ?_, ?_, ?_, ?_, ?_, fun j hj => (hctl j).trans (s.canCtl_updCan_of_ne hj _)⟩
  all_goals rw [hctl, hself]

/-- Settles O50: the branch of each event, the filters, the arbitration and the candidates. -/
theorem canEvents : Obligations.CanEvents := by
  unfold Obligations.CanEvents
  refine ⟨fun s k x h => if_pos h, ?_, fun s k id fl dlc a l hdetect hfd => State.canSees_of_frame hdetect hfd, ?_, ?_, ?_, ?_, fun r id n e h => canMatch_spec h, ?_, ?_, ?_, ?_,
    fun s k n e h => State.canFirst_spec h, fun s k hk hon htec => execCanBusoff_spec hk hon htec, ?_, ?_, ?_, fun s k hoff hruns => execCanRecovered_spec hoff hruns, ?_,
    fun r n k l h => nextCand_spec h, fun s h => if_pos h, fun s h => if_neg (Nat.not_lt.mpr h)⟩
  · intro s k x hk hmode hon
    have hrow := execCanFrameReceived_of_on hk hmode hon x
    exact ⟨fun id fl dlc l a h => by rw [hrow, h], fun n h => by rw [hrow, h], fun h => by rw [hrow, h]⟩
  · intro s k id fl dlc a l hdetect hmode
    simp only [State.canFrameIn, hdetect, if_pos hmode]
  · intro s k id fl dlc n a l hmatch hgranite
    simp only [State.canStore, hmatch]
    exact if_pos hgranite
  · intro s k id fl dlc n a l hk hmode hon hdetect hclassic hmatch hqueue hhost
    have hrow := execCanFrameReceived_of_listening (id := id) (dlc := dlc) (a := a) (l := l) hk hmode hon hdetect hclassic
    refine ⟨fun hroom => ⟨_, hrow, ?_⟩, fun hfull => ⟨_, hrow, ?_⟩⟩
    · rw [State.canStore_of_room hmatch hqueue hhost hroom, State.canCtl_updCan]
      obtain ⟨hlen, hid, hseq, hticks⟩ := canEntry_spec id (fl % 32) dlc (s.canCtl k).seq (s.canTicksAt a % 2 ^ 32) n (s.canWrapAt a) (l.take (if bit fl 3 then 0 else dlcLen (bit fl 1) dlc))
      exact ⟨⟨_, rfl, hlen, hid, hseq, hticks.trans (Nat.mod_mod ..)⟩, rfl, fun j hj => s.canCtl_updCan_of_ne hj _, rfl⟩
    · rw [State.canStore_of_full hmatch hqueue hhost hfull]
      exact s.canDrop_full_spec k
  · intro s k id fl dlc a l hk hmode hon hdetect hclassic hmatch
    rw [execCanFrameReceived_of_listening hk hmode hon hdetect hclassic, State.canStore, hmatch]
  · intro s k n hk hmode hon hdetect
    rw [execCanFrameReceived_of_on hk (.inl hmode) hon]
    simp [State.canSees, State.canErrorIn, hdetect, hmode]
  · intro s k hk hmode hon hfirst e
    have hsends : ¬(3 < k ∨ (s.canModeNow k ≠ 1 ∧ s.canModeNow k ≠ 3) ∨ (s.canCtl k).offBus = true) := by
      simp only [hon, Bool.false_eq_true, or_false]
      omega
    change execCanFrameSent k e s = _
    simp only [execCanFrameSent, if_neg hsends, hfirst]
  · intro s k n e hk hmode hon hfirst
    have hrow := execCanFrameSent_of_first hk (.inl hmode) hon hfirst
    refine ⟨(hrow .sent).trans ?_, fun hretx honce => ⟨(hrow .lost).trans ?_, fun b => (hrow (.error b)).trans ?_⟩, fun honce => (hrow .lost).trans ?_⟩
    · exact congrArg _ (if_neg (by omega))
    · exact if_neg (by simp [hretx, honce])
    · exact if_neg (by simp [hretx, honce])
    · exact if_pos (by simpa using honce)
  · intro s k n e hk hmode hon hfirst
    exact (execCanFrameSent_of_first hk (.inr hmode) hon hfirst .sent).trans (congrArg _ (if_pos hmode))
  · exact fun s k hon htec => if_pos (.inr (.inr htec))
  · exact fun s k hoff hwaits hauto hopen hdue => if_pos ⟨hoff, hwaits, hauto, hopen, hdue⟩
  · refine fun s k h => if_neg fun ⟨_, _, hauto, hopen, _⟩ => ?_
    exact h.elim (fun hlock => by simp [hlock] at hopen) fun hmanual => by simp [hmanual] at hauto
  · intro s k d hdetect
    refine ⟨fun hdwell => ⟨s.canNext k, ?_, ?_⟩, fun hdue => ?_⟩
    · change execDetectDwellExpiry k s = _
      rw [execDetectDwellExpiry, hdetect]
      exact if_pos hdwell
    · rw [State.canNext, State.canCtl_updCan, hdetect]
      exact ⟨rfl, rfl, rfl⟩
    · change execDetectTimeout k s = _
      rw [execDetectTimeout, hdetect]
      exact if_pos hdue

end Sys2Proof.Machine

namespace Sys2Proof.Machine

/-!
PROOF. Obsidian (chapter 17).
-/

@[simp] theorem State.slotRecord_start (s : State) (u n : Nat) : (s.start u).slotRecord n = s.slotRecord n := rfl
@[simp] theorem State.updSigned_start (s : State) (u : Nat) (c : InFlight) (d : List Byte) : (s.start u).updSigned c d = s.updSigned c d := rfl
@[simp] theorem State.updBlocked_start (s : State) (u : Nat) (d : List Byte) : (s.start u).updBlocked d = s.updBlocked d := rfl

/-! ### Slots (R462, R467) -/

/-- Two shares give the key back, whatever the mask. -/
theorem xor_xor_mask (key mask : Nat) : mask ^^^ (key ^^^ mask) = key := by
  rw [Nat.xor_comm key, Nat.xor_xor_cancel_left]

theorem State.get?_putSlot (s : State) (n : Nat) (k : KeySlot) (key : Nat) :
    (s.putSlot n k key).obs.slots.get? n = some { k with mask := s.draw.1, share := key ^^^ s.draw.1 } := Tab.get?_set_self ..

theorem State.get?_putSlot_of_ne (s : State) {n m : Nat} (h : m ≠ n) (k : KeySlot) (key : Nat) : (s.putSlot n k key).obs.slots.get? m = s.obs.slots.get? m :=
  Tab.get?_set_of_ne _ _ h

/-- What a slot's reader sees of a new mask: the key, and each field that R464 names. -/
def KeySlot.shown (e : Nat × KeySlot) :=
  (e.1, e.2.key, e.2.type, e.2.flags, e.2.uses, e.2.masters, e.2.worlds, e.2.lifecycles, e.2.keyId, e.2.cert)

/-- A slot under a new mask. -/
def remasked (a : Tab KeySlot × State) (e : Nat × KeySlot) : Tab KeySlot × State :=
  (a.1 ++ [(e.1, { e.2 with mask := a.2.draw.1, share := e.2.key ^^^ a.2.draw.1 })], a.2.draw.2)

theorem State.drawsTo_draw (s : State) : s.DrawsTo s.draw.2 := rfl

theorem foldl_remasked_spec (l : Tab KeySlot) (a : Tab KeySlot × State) :
    (l.foldl remasked a).1.map KeySlot.shown = a.1.map KeySlot.shown ++ l.map KeySlot.shown ∧ a.2.DrawsTo (l.foldl remasked a).2 := by
  induction l generalizing a with
  | nil => exact ⟨by simp, State.DrawsTo.refl a.2⟩
  | cons e l ih =>
    obtain ⟨hshown, hdraws⟩ := ih (remasked a e)
    have hsame : KeySlot.shown (e.1, { e.2 with mask := a.2.draw.1, share := e.2.key ^^^ a.2.draw.1 }) = KeySlot.shown e := by
      simp only [KeySlot.shown, KeySlot.key, xor_xor_mask]
    refine ⟨?_, a.2.drawsTo_draw.trans hdraws⟩
    rw [List.foldl_cons, hshown, remasked, List.map_append, List.map_singleton, hsame, List.append_assoc, List.map_cons, List.singleton_append]

/-- The lowest free number from a given one on is free. -/
theorem Tab.get?_of_freeFrom {α : Type} {t : Tab α} {k n m : Nat} (h : t.freeFrom k n = some m) : t.get? m = none := by
  induction n generalizing k with
  | zero => exact absurd h nofun
  | succ n ih =>
    rw [Tab.freeFrom] at h
    split at h
    · rename_i hfree
      exact Option.some.inj h ▸ Option.isNone_iff_eq_none.mp hfree
    · exact ih h

/-! ### The pair key (R474) -/

/-- A slot that is free once the old pair key has gone is free before, or is the old key's own. -/
theorem State.get?_of_dropPairKey {s : State} {n : Nat} (h : s.dropPairKey.obs.slots.get? n = none) : s.obs.slots.get? n = none ∨ s.obs.pairSlot = some n := by
  cases hslot : s.obs.pairSlot with
  | none =>
    simp only [State.dropPairKey, hslot] at h
    exact .inl h
  | some p =>
    simp only [State.dropPairKey, hslot] at h
    by_cases hp : n = p
    · exact .inr (by rw [hp])
    · exact .inl ((Tab.get?_del_of_ne _ hp).symm.trans h)

theorem State.pairKeyIn_spec (s : State) (o : PairOffer) : (s.pairKeyIn o).obs.pairKeyed = true ∧ ∃ n, (s.pairKeyIn o).obs.pairSlot = some n ∧
    (s.obs.slots.get? n = none ∨ s.obs.pairSlot = some n ∨ n = 1200) ∧ ((s.pairKeyIn o).obs.slots.get? n).isSome = true := by
  refine ⟨rfl, _, rfl, ?_, Option.isSome_of_eq_some (State.get?_putSlot ..)⟩
  cases hfree : s.dropPairKey.obs.slots.freeFrom 1200 80 with
  | none => exact .inr (.inr rfl)
  | some n =>
    obtain h | h := State.get?_of_dropPairKey (Tab.get?_of_freeFrom hfree)
    · exact .inl h
    · exact .inr (.inl h)

/-! ### Key updates (R471) -/

@[simp] theorem State.shareSlots_obs (s : State) : s.shareSlots.obs = s.obs := by
  unfold State.shareSlots
  split <;> rfl

/-- The store of an operation on a slot or the lid ends with the change and the counter together. -/
theorem obsStoreDone_of_found {s t : State} {u : Nat} {w : ObsWork} (hw : s.obs.work.find? (fun x => x.uid == u) = some w) (hop : (1 ≤ w.op ∧ w.op ≤ 5) ∨ w.op = 7)
    (ht : t = { s with obs := { s.obs with work := s.obs.work.filter fun x => x.uid != u } }.updApply w) :
    ∃ r : State, obsStoreDone u s = r.obsOk u ∧ r.obs = { t.obs with count := s.obs.count + 1 } := by
  have hnode : ¬w.op = 8 := by omega
  have hkeeps : ¬w.op = 0 := by omega
  have hcounts : ¬(w.op = 6 ∧ fld w.body 0 1 = 5) := by omega
  simp only [obsStoreDone, hw, if_neg hnode, if_neg hkeeps, if_neg hcounts]
  refine ⟨_, rfl, ?_⟩
  rw [State.raise_obs, ht]
  split
  · exact State.shareSlots_obs _
  · rfl

/-- A remasking that is due gives every slot a new mask and keeps what is shown of it (R467). -/
theorem execRemask_of_due {s : State} (hready : s.obs.ready = true) (hdue : s.obs.maskedAt + s.islN PAR_OBS_REMASK_MS * ms ≤ s.now) :
    ∃ t : State, exec .remask s = .next t ∧ t.obs.slots.map KeySlot.shown = s.obs.slots.map KeySlot.shown ∧
      t = { s with obs := { s.obs with slots := t.obs.slots, maskedAt := s.now }, fresh := t.fresh } := by
  have hexec : exec .remask s = .next { (s.obs.slots.foldl remasked ([], s)).2 with
      obs := { (s.obs.slots.foldl remasked ([], s)).2.obs with slots := (s.obs.slots.foldl remasked ([], s)).1, maskedAt := s.now } } := if_pos ⟨hready, hdue⟩
  obtain ⟨hshown, hdraws⟩ := foldl_remasked_spec s.obs.slots ([], s)
  generalize s.obs.slots.foldl remasked ([], s) = r at *
  refine ⟨_, hexec, hshown, ?_⟩
  rw [show r.2 = { s with fresh := r.2.fresh } from hdraws]

/-! ### Commands and events -/

/-- The checks of a key update come in the order of R471, R480. -/
theorem obsUpdate_of_form {s : State} {c : InFlight} (hobj : c.desc.object = 0) (hlen : c.desc.dataLen = c.desc.data.length) (hform : updFormOk c.desc.data = true) :
    obsUpdate c s =
      if updOp c.desc.data = 8 ∧ s.isStandby then s.fail c.uid ST_NOT_ACTIVE
      else if updAllowed (updOp c.desc.data) s.obs.lifecycle (fld (updBody c.desc.data) 0 1) = false then s.fail c.uid ST_LOCKED
      else if s.updSigned c c.desc.data = false then s.fail c.uid ST_AUTH_FAIL
      else if (c.desc.data.drop 8).take 16 ≠ padTo 16 s.sys.identity ∨ fld c.desc.data 24 4 ≠ s.obs.count + 1 then s.fail c.uid ST_DENIED
      else match s.updBlocked c.desc.data with
        | some st => s.fail c.uid st
        | none => s.obsAsk c { uid := c.uid, op := updOp c.desc.data, slot := updSlot c.desc.data, header := c.desc.data.take 64, body := updBody c.desc.data } := by
  have hvalid : ¬(c.desc.object ≠ 0 ∨ c.desc.dataLen ≠ c.desc.data.length ∨ updFormOk c.desc.data = false) := by simp [hobj, hlen, hform]
  exact (if_neg hvalid).trans rfl

theorem obsAttest_of_slot {s : State} {c : InFlight} {k : KeySlot} (hsound : s.obs.lifecycle ≠ 4) (hheld : s.obs.lifecycle ≠ 5) (hk : s.obs.slots.get? c.desc.object = some k)
    (htype : k.type ≤ 5) :
    obsAttest c s = if s.slotAllows 0 0 M_OBS = false then s.fail c.uid ST_DENIED else
      let text := s.slotRecord c.desc.object ++ leBytes 8 s.sysTime ++ k.cert
      let cert := Config.certificate text (Config.sign 0 text s.draw.1)
      s.draw.2.answer c (leBytes 4 cert.length) cert := by
  rw [obsAttest, if_neg (by simp [hsound, hheld]), hk]
  exact if_neg (by omega)

/-- A tamper record and the zeroising that follows it keep a state's other fields. -/
theorem execTamperDetected_of_unpowered {s : State} {b : BitVec 6} (hfires : s.tamperSources b &&& s.armed ≠ 0) (hready : s.obs.ready = false) :
    ∃ t : State, exec (.tamperDetected b) s = .next t ∧ t.obs.slots = [] ∧ t.obs.lifecycle = 4 ∧ t.obs.zeroised = true ∧
      t.obs.latch = some (s.obs.latch.getD 0 ||| (s.tamperSources b &&& s.armed)) ∧ t = { s with obs := t.obs } :=
  ⟨_, (if_neg hfires).trans (if_neg (by simp [hready])), rfl, rfl, rfl, rfl, rfl⟩

/-- Settles O51: the branch of each command and event, a new mask as a fold over the slots, and the free slot of the pair key. -/
theorem keyStore : Obligations.KeyStore := by
  unfold Obligations.KeyStore
  refine ⟨?_, fun s hready hdue => execRemask_of_due hready hdue, ?_, fun s => ⟨rfl, rfl, rfl, fun n u m => rfl⟩, ?_, fun s b hfires hready => execTamperDetected_of_unpowered hfires hready,
    ?_, ?_, ?_, ?_, ?_, ?_, ?_, ?_, ?_, ?_, fun s t o l k hagrees ht => ?_, fun s o => s.pairKeyIn_spec o, fun s => ⟨rfl, rfl⟩, ?_, ?_⟩
  · intro s q tag c
    refine ⟨?_, ?_, ?_, ?_, ?_, ?_, ?_, ?_, ?_⟩
    · exact fun hc => startCommand_eq_of_starts hc rfl
    · exact fun hc hlow hlen hend => startCommand_eq_of_starts hc (if_neg (by omega))
    · rintro b hc rfl
      exact ⟨fun hfits => startCommand_eq_of_starts hc (if_neg (Nat.not_lt.mpr hfits)), fun hless => startCommand_eq_of_starts hc (if_pos hless)⟩
    · exact fun hc hbad => startCommand_eq_of_starts hc (if_pos hbad)
    · intro hc hobj hlen hform
      have hupdate := obsUpdate_of_form (s := s.start c.uid) hobj hlen hform
      refine ⟨fun hop hstandby => ?_, fun hrole => ⟨fun hlocked => ?_, fun hallowed => ⟨fun hsigned => ?_, fun hsigned hcount => ?_, fun hsigned hcount hid => ?_⟩⟩⟩
      · exact startCommand_eq_of_starts hc (hupdate.trans (if_pos ⟨hop, hstandby⟩))
      all_goals
        have hmay : ¬(updOp c.desc.data = 8 ∧ (s.start c.uid).isStandby = true) := by
          rintro ⟨hop, hstandby⟩
          exact hrole.elim (fun h => h hop) fun h => by simp [h] at hstandby
        rw [if_neg hmay] at hupdate
      · exact startCommand_eq_of_starts hc (hupdate.trans (if_pos hlocked))
      all_goals rw [if_neg (by simp [hallowed])] at hupdate
      · exact startCommand_eq_of_starts hc (hupdate.trans (if_pos hsigned))
      all_goals rw [if_neg (by simp [hsigned])] at hupdate
      · exact startCommand_eq_of_starts hc (hupdate.trans (if_pos (.inr hcount)))
      · rw [if_neg (by simp [hcount, hid])] at hupdate
        refine ⟨fun st hblocked => startCommand_eq_of_starts hc (hupdate.trans ?_), fun hfree => startCommand_eq_of_starts hc (hupdate.trans ?_)⟩
        · rw [State.updBlocked_start, hblocked]
        · rw [State.updBlocked_start, hfree]
    · exact fun hc hstate => startCommand_eq_of_starts hc (if_pos hstate)
    · intro k hc hsound hheld hk htype
      have hattest := obsAttest_of_slot (s := s.start c.uid) hsound hheld hk htype
      exact ⟨fun hmay => ⟨_, _, startCommand_eq_of_starts hc (hattest.trans (if_neg (by simp [hmay]))), rfl⟩,
        fun hdenied => startCommand_eq_of_starts hc (hattest.trans (if_pos hdenied))⟩
    · exact fun hc hstate hhost => startCommand_eq_of_starts hc ((if_neg fun h => h hstate).trans (if_neg fun h => h hhost))
    · exact fun hc hstate => startCommand_eq_of_starts hc (if_pos hstate)
  · intro s n k key
    refine ⟨?_, fun m hm => s.get?_putSlot_of_ne hm k key⟩
    rw [State.get?_putSlot]
    exact congrArg some (xor_xor_mask ..)
  · exact fun s b hquiet => ⟨_, if_pos hquiet, rfl, rfl, rfl, rfl⟩
  · exact fun s b hfires hready hpower => (if_neg hfires).trans (if_pos ⟨hpower, hready⟩)
  · intro s t hservice hdue hstate
    change execServiceExpiry s = _
    rw [execServiceExpiry, hservice]
    exact if_pos ⟨hdue, hstate⟩
  · intro s mv hmv
    have hwarn : (decide (mv < s.islN PAR_OBS_BKBAT_WARN_MV) && s.sys.pg) = false := by simp [Nat.not_lt.mpr hmv]
    change execObsBkbatLow mv s = _
    simp only [execObsBkbatLow, hwarn]
    exact if_neg (by simp)
  · intro s mv hmv hpg hquiet
    have hwarn : (decide (mv < s.islN PAR_OBS_BKBAT_WARN_MV) && s.sys.pg) = true := by simp [hmv, hpg]
    change execObsBkbatLow mv s = _
    simp only [execObsBkbatLow, hwarn]
    exact if_pos ⟨trivial, by simp [hquiet]⟩
  · intro s n a hnone
    constructor
    · change execEnrolAck n a s = _
      rw [execEnrolAck, hnone]
    · change execEnrolAckTimeout n s = _
      rw [execEnrolAckTimeout, hnone]
  · rintro s t n a w id rfl hw rfl
    change execEnrolAck n a s = _
    rw [execEnrolAck, hw]
  · intro s n e he
    rw [State.enrolSlot, he]
  · intro s n k hnone hfree
    simp only [State.enrolSlot, hnone, hfree, Option.getD_some]
  · intro s n t w hw hack hdue
    change execEnrolAckTimeout n s = _
    rw [execEnrolAckTimeout, hw]
    exact if_pos (by rw [hack]; exact hdue)
  · rintro s t o l k hagrees rfl
    exact if_neg (by simp [hagrees])
  · subst ht
    exact if_pos hagrees
  · intro s t u w hw hop ht
    obtain ⟨r, hdone, hobs⟩ := obsStoreDone_of_found hw hop ht
    exact ⟨r, hdone, by rw [hobs], by rw [hobs], by rw [hobs], by rw [hobs]⟩
  · intro s w hop
    have happly : s.updApply w = s.putSlot w.slot (slotOfAttr w.body false (w.body.drop 32) (Config.spki (w.body.drop 32))) 0 := by
      rw [State.updApply, hop]
      rfl
    rw [happly, State.get?_putSlot]
    exact congrArg (fun k => some (fld w.body 2 1, fld w.body 4 2, fld w.body 6 1, fld w.body 7 1, fld w.body 8 1, w.body.drop 32, k)) (xor_xor_mask 0 s.draw.1)

end Sys2Proof.Machine

namespace Sys2Proof.Machine

/-!
PROOF. Granite (chapter 18).
-/

@[simp] theorem State.gatesOn_start (s : State) (u : Nat) (i : GrnImage) : (s.start u).gatesOn i = s.gatesOn i := rfl
@[simp] theorem State.anyPrecharge_start (s : State) (u : Nat) : (s.start u).anyPrecharge = s.anyPrecharge := rfl

/-! ### Bytes of a read (R8, R519) -/

theorem byteAt_append_left {a : List Byte} {i : Nat} (h : i < a.length) (b : List Byte) : byteAt (a ++ b) i = byteAt a i :=
  congrArg BitVec.toNat (List.getD_append a b 0 i h)

theorem byteAt_append_right {a : List Byte} {i : Nat} (h : a.length ≤ i) (b : List Byte) : byteAt (a ++ b) i = byteAt b (i - a.length) :=
  congrArg BitVec.toNat (List.getD_append_right a b 0 i h)

theorem byteAt_map_range {n i : Nat} (h : i < n) (f : Nat → Nat) : byteAt ((List.range n).map fun k => BitVec.ofNat 8 (f k)) i = f i % 256 := by
  simp [byteAt, h]

theorem fld_append_right {a : List Byte} {off : Nat} (h : a.length = off) (b : List Byte) (n : Nat) : fld (a ++ b) off n = fld b 0 n := by
  rw [fld, fld, List.drop_left' h, List.drop_zero]

/-- Each bit of a mask is its test. -/
theorem testBit_maskOf (n : Nat) (f : Nat → Bool) : maskOf n f < 2 ^ n ∧ ∀ k < n, (maskOf n f).testBit k = f k := by
  induction n with
  | zero => exact ⟨Nat.one_pos, fun k hk => absurd hk (Nat.not_lt_zero k)⟩
  | succ n ih =>
    obtain ⟨hlt, hbits⟩ := ih
    have hsucc : maskOf (n + 1) f = maskOf n f + if f n then 2 ^ n else 0 := by simp [maskOf, List.range_succ]
    rw [hsucc]
    cases hn : f n with
    | false =>
      refine ⟨hlt.trans (Nat.pow_lt_pow_succ Nat.one_lt_two), fun k hk => ?_⟩
      obtain hk | rfl := Nat.lt_succ_iff_lt_or_eq.mp hk
      · exact hbits k hk
      · exact (Nat.testBit_lt_two_pow hlt).trans hn.symm
    | true =>
      rw [if_pos rfl, Nat.add_comm]
      refine ⟨by rw [Nat.pow_succ]; omega, fun k hk => ?_⟩
      obtain hk | rfl := Nat.lt_succ_iff_lt_or_eq.mp hk
      · rw [Nat.testBit_two_pow_add_gt hk]
        exact hbits k hk
      · rw [Nat.testBit_two_pow_add_eq, Nat.testBit_lt_two_pow hlt, hn]
        rfl

theorem outletMask_eq (f : Nat → Bool) : outletMask f = (List.range 32).map fun j => BitVec.ofNat 8 (maskOf 8 fun b => f (8 * j + b)) :=
  List.map_eq_flatMap.symm

@[simp] theorem length_outletMask (f : Nat → Bool) : (outletMask f).length = 32 := by simp [outletMask_eq]

theorem bit_outletMask {o : Nat} (h : o < 256) (f : Nat → Bool) : bit (byteAt (outletMask f) (o / 8)) (o % 8) = f o := by
  obtain ⟨hlt, hbits⟩ := testBit_maskOf 8 fun b => f (8 * (o / 8) + b)
  rw [outletMask_eq, byteAt_map_range (by omega), Nat.mod_eq_of_lt (b := 256) hlt, bit, hbits _ (Nat.mod_lt _ (by omega)), Nat.div_add_mod]

/-- What GRN_READ returns (R519). -/
def State.grnBytes (s : State) : List Byte :=
  outletMask s.outletLocked ++ outletMask s.grn.present.contains ++ ((List.range 16).map fun n => BitVec.ofNat 8 (s.inputByte n)) ++
    ((List.range 8).map fun n => BitVec.ofNat 8 (outputByte (s.grnOut n))) ++ pack [(4, imgCrc s.grn.image), (2, s.connCount 2), (2, s.connCount 3)] ++
    (List.range 256).map fun o => BitVec.ofNat 8 (s.grn.locks.getD o 0)

theorem State.length_grnBytes (s : State) : s.grnBytes.length = 352 := by simp [State.grnBytes]

theorem State.byteAt_grnBytes (s : State) {o : Nat} (h : o < 256) : bit (byteAt s.grnBytes (o / 8)) (o % 8) = s.outletLocked o ∧
    bit (byteAt s.grnBytes (32 + o / 8)) (o % 8) = s.grn.present.contains o ∧ byteAt s.grnBytes (96 + o) = s.grn.locks.getD o 0 % 256 := by
  rw [State.grnBytes]
  refine ⟨?_, ?_, ?_⟩
  · rw [byteAt_append_left (by simp; omega), byteAt_append_left (by simp; omega), byteAt_append_left (by simp; omega), byteAt_append_left (by simp; omega),
      byteAt_append_left (by simp; omega)]
    exact bit_outletMask h _
  · rw [byteAt_append_left (by simp; omega), byteAt_append_left (by simp; omega), byteAt_append_left (by simp; omega), byteAt_append_left (by simp; omega),
      byteAt_append_right (by simp), length_outletMask, Nat.add_sub_cancel_left]
    exact bit_outletMask h _
  · rw [byteAt_append_right (by simp)]
    simpa using byteAt_map_range h fun o => s.grn.locks.getD o 0

theorem State.fld_grnBytes (s : State) : fld s.grnBytes 88 4 = imgCrc s.grn.image % 2 ^ 32 := by
  rw [State.grnBytes, List.append_assoc, fld_append_right (by simp)]
  exact fld_pack_append [] _ _ 4 _ rfl

/-! ### Lock-outs and the reset (R511, R514) -/

/-- A raised event changes the mailboxes and nothing else. -/
theorem State.raise_eq (s : State) (area code object : Nat) : s.raise area code object = { s with mbx := (s.raise area code object).mbx } := by
  refine State.raise_induct (P := fun t => t = { s with mbx := t.mbx }) (fun t k e ht => ?_) rfl area code object
  generalize t.mbx = m at ht
  subst ht
  rfl

theorem State.lockOutlet_grn (s : State) {o : Nat} (h : s.outletLocked o = false) (cause : Nat) :
    (s.lockOutlet cause o).grn = { s.grn with locks := s.grn.locks.set o cause } := by
  rw [State.lockOutlet, if_neg (by simp [h]), State.raise_grn]

theorem State.outletLocked_lockOutlet (s : State) (cause o : Nat) : (s.lockOutlet cause o).outletLocked o = true := by
  cases h : s.outletLocked o with
  | true => rw [State.lockOutlet, if_pos h, h]
  | false =>
    rw [State.outletLocked, s.lockOutlet_grn h, Tab.get?_set_self]
    rfl

theorem State.outletLocked_lockOutlet_of_ne (s : State) (cause : Nat) {o m : Nat} (hm : m ≠ o) : (s.lockOutlet cause o).outletLocked m = s.outletLocked m := by
  cases h : s.outletLocked o with
  | true => rw [State.lockOutlet, if_pos h]
  | false => rw [State.outletLocked, s.lockOutlet_grn h, Tab.get?_set_of_ne _ _ hm, State.outletLocked]

/-- Settles O52: each command and event runs one branch of its meaning. -/
theorem safetyCommands : Obligations.SafetyCommands := by
  unfold Obligations.SafetyCommands
  refine ⟨?_, ?_, ?_, ?_, ?_, ?_, ?_⟩
  · intro s q tag c
    refine ⟨?_, ?_, ?_, ?_, ?_, ?_, ?_⟩
    · intro i hc hlen hobj hi
      refine startCommand_eq_of_starts hc ?_
      rw [grnConfigLoad, if_neg (by simp [hlen, hobj]), hi]
      rfl
    · intro hc hbad
      refine startCommand_eq_of_starts hc ?_
      rw [grnConfigLoad, hbad]
      exact ite_self _
    · intro i hc himg hobj hcrc
      have hcommit (hend : State) (h : (if s.gatesOn s.grn.image || s.gatesOn i || s.anyPrecharge || s.grn.commit.isSome then (s.start c.uid).fail c.uid ST_BUSY
          else { (s.start c.uid) with grn := { s.grn with commit := some (c.uid, s.now + 60 * sec) } }) = hend) :
          exec (.grnConfigCommit q tag) s = .next hend := by
        refine startCommand_eq_of_starts hc ?_
        rw [grnConfigCommit, State.start_grn, himg]
        exact (if_neg (by simp [hobj, hcrc])).trans h
      refine ⟨fun hold hnew hpre hfree => hcommit _ (if_neg (by simp [hold, hnew, hpre, hfree])), fun hon => hcommit _ (if_pos ?_)⟩
      obtain h | h | h := hon <;> simp [h]
    · exact fun hc hlen hobj => ⟨s.grnBytes, startCommand_eq_of_starts hc (if_neg (by omega)), s.length_grnBytes, fun o ho => s.byteAt_grnBytes ho, s.fld_grnBytes⟩
    · intro b hc hb hobj
      refine startCommand_eq_of_starts hc ?_
      rw [grnResetArm, hb]
      exact if_neg fun h => h hobj
    · intro b hc hb hobj
      refine startCommand_eq_of_starts hc ?_
      rw [grnTrip, hb]
      exact if_neg fun h => h hobj
    · exact fun hc hobj hlow hlen hend => startCommand_eq_of_starts hc (if_neg (by omega))
  · intro s u t hcommit hdue
    change execCommitPulseTimeout s = _
    rw [execCommitPulseTimeout, hcommit]
    exact if_pos hdue
  · intro s a harm
    have hrow : exec .resetArmExpiry s = if a.expiry ≤ s.now then .next { s with grn := { s.grn with arm := none } } else .next s := by
      change execResetArmExpiry s = _
      rw [execResetArmExpiry, harm]
    exact ⟨fun hdue => hrow.trans (if_pos hdue), fun hearly => hrow.trans (if_neg (Nat.not_le.mpr hearly))⟩
  · refine fun s hi lo h => if_pos ?_
    obtain h | h | h := h
    · exact .inr (.inl h)
    · exact .inr (.inr (.inl h))
    · exact .inl h
  · intro s hi lo hruns hlow hhigh hlong
    refine if_neg ?_
    rintro (h | h | h | ⟨h, hshort⟩)
    · simp [hruns] at h
    · omega
    · omega
    · exact hlong.elim (fun hnot => by simp [hnot] at h) fun hrest => absurd hshort (Nat.not_lt.mpr hrest)
  · intro s hruns hshort
    refine ⟨_, if_neg (by simp [hruns, hshort]), State.raise_grn .., ?_⟩
    rw [State.raise_eq]
    rfl
  · refine fun s o => ⟨s.outletLocked_lockOutlet 7 o, fun m hm => s.outletLocked_lockOutlet_of_ne 7 hm, fun k hk => ?_⟩
    exact if_pos (Option.isSome_of_eq_some hk)

end Sys2Proof.Machine

namespace Sys2Proof.Machine

/-!
PROOF. The events of Granite (chapter 18).
-/

theorem State.grnOut_of_grn_eq {s t : State} (h : t.grn = s.grn) (n : Nat) : t.grnOut n = s.grnOut n := by rw [State.grnOut, h, State.grnOut]

/-! ### Safe outputs (R497, R498) -/

/-- The cause of an output's lock-out once another comes: an earlier one stays (R511). -/
theorem State.grnOut_lockOutput (s : State) (cause n : Nat) : ((s.lockOutput cause n).grnOut n).closed = false ∧
    ((s.lockOutput cause n).grnOut n).cause = if (s.grnOut n).cause = 0 then cause else (s.grnOut n).cause := by
  rw [State.lockOutput, State.grnOut_updOut, State.openOutput]
  split
  · rw [State.grnOut_updOut]
    exact ⟨rfl, rfl⟩
  · rename_i hopen
    exact ⟨Bool.eq_false_of_not_eq_true hopen, rfl⟩

theorem State.openOutput_of_open {s : State} {n : Nat} (h : (s.grnOut n).closed = false) : s.openOutput n = s := if_neg (by simp [h])

theorem State.closed_openOutput (s : State) (n : Nat) : ((s.openOutput n).grnOut n).closed = false := by
  cases h : (s.grnOut n).closed with
  | true => rw [State.openOutput, if_pos h, State.grnOut_updOut]
  | false => rw [State.openOutput_of_open h, h]

/-- A failed check opens the output and leaves it with a cause. -/
theorem State.grnOut_outputFault (s : State) {cause : Nat} (hcause : cause ≠ 0) (n : Nat) {f : GrnOut → GrnOut} (hclosed : ∀ x, (f x).closed = x.closed)
    (hkeeps : ∀ x, (f x).cause = x.cause) : ((s.outputFault cause n f).grnOut n).closed = false ∧ ((s.outputFault cause n f).grnOut n).cause ≠ 0 := by
  obtain ⟨hopen, hset⟩ := s.grnOut_lockOutput cause n
  have hout : (s.outputFault cause n f).grnOut n = f ((s.lockOutput cause n).grnOut n) := by
    rw [State.outputFault, State.grnOut_of_grn_eq (State.report_grn ..), State.grnOut_of_grn_eq (State.raise_grn ..), State.grnOut_updOut]
  rw [hout, hclosed, hkeeps, hset]
  refine ⟨hopen, ?_⟩
  split <;> assumption

/-- An output that is open with a cause stays so in a cycle. -/
theorem State.outputCycle_of_cause {s : State} {n : Nat} (hused : outUsed (s.outRec n) = true) (hcause : (s.grnOut n).cause ≠ 0) (hopen : (s.grnOut n).closed = false) :
    ((s.outputCycle n).grnOut n).closed = false ∧ ((s.outputCycle n).grnOut n).cause = (s.grnOut n).cause := by
  have hlock (cause : Nat) : ((s.lockOutput cause n).grnOut n).closed = false ∧ ((s.lockOutput cause n).grnOut n).cause = (s.grnOut n).cause := by
    obtain ⟨hclosed, hset⟩ := s.grnOut_lockOutput cause n
    exact ⟨hclosed, hset.trans (if_neg hcause)⟩
  simp only [State.outputCycle, hused, not_true_eq_false, if_false, hopen, hcause, false_and, Bool.false_eq_true]
  split
  · exact hlock 2
  · split
    · exact hlock 4
    · split
      · exact hlock 3
      · split
        · rw [State.openOutput_of_open hopen]
          exact ⟨hopen, rfl⟩
        · exact ⟨hopen, rfl⟩

/-- An input that trips opens each output that its mask names. -/
theorem State.closed_outputCycle_of_trip {s : State} {n : Nat} (hused : outUsed (s.outRec n) = true)
    (htrip : ∃ i < 16, bit (outInMask (s.outRec n)) i = true ∧ s.inTrips i = true) : ((s.outputCycle n).grnOut n).closed = false := by
  obtain ⟨i, hi, hmask, htrips⟩ := htrip
  have hmem : i ∈ (List.range 16).filter fun i => bit (outInMask (s.outRec n)) i && s.inTrips i := by simp [hi, hmask, htrips]
  have hins : (!((List.range 16).filter fun i => bit (outInMask (s.outRec n)) i && s.inTrips i).isEmpty) = true := by
    cases hl : (List.range 16).filter fun i => bit (outInMask (s.outRec n)) i && s.inTrips i with
    | nil => exact absurd (hl ▸ hmem) List.not_mem_nil
    | cons a l => rfl
  have hlock (cause : Nat) := (s.grnOut_lockOutput cause n).1
  simp only [State.outputCycle, hused, not_true_eq_false, if_false, hins, if_true]
  split
  · exact hlock 2
  · split
    · exact hlock 4
    · split
      · exact hlock 3
      · split
        · exact hlock _
        · exact s.closed_openOutput n

/-- The check of an open output, of which only the high side counts. -/
theorem State.switchCheck_of_open {s : State} {n : Nat} (hopen : (s.grnOut n).closed = false) (a b : Nat) :
    s.switchCheck n a b = if a < 5000 then s else s.outputFault 12 n fun x => { x with highFail := true } := by
  by_cases ha : a < 5000
  · simp [State.switchCheck, hopen, ha]
  · simp [State.switchCheck, hopen, ha]

theorem State.switchCheck_of_closed {s : State} {n : Nat} (hclosed : (s.grnOut n).closed = true) (a b : Nat) : (a < 5000 → 15000 < b → s.switchCheck n a b = s) ∧
    (5000 ≤ a ∨ b ≤ 15000 → ((s.switchCheck n a b).grnOut n).closed = false ∧ ((s.switchCheck n a b).grnOut n).cause ≠ 0) := by
  refine ⟨fun ha hb => if_pos (by simp [ha, hb]), fun hfails => ?_⟩
  have hfault : ¬(decide (a < 5000) && (decide (15000 < b) || !(s.grnOut n).closed)) = true := by
    simp only [hclosed, Bool.not_true, Bool.or_false, Bool.and_eq_true, decide_eq_true_eq]
    omega
  rw [State.switchCheck, if_neg hfault]
  exact s.grnOut_outputFault (by decide) n (fun x => rfl) fun x => rfl

/-- The tests of an output that is used (R498). -/
theorem execTestPulse_of_used {s : State} {n : Nat} (hruns : s.grn.halted = false) (hused : outUsed (s.outRec n) = true) (a b : Nat) : exec (.testPulse n a b) s =
    if (s.grnOut n).closed then
      if s.now < (s.grnOut n).testedAt + imgTpPeriodMs s.grn.image * ms then .next s
      else .next (((s.updOut n fun x => { x with testedAt := s.now }).emit (.testPulse n (imgTpUs s.grn.image))).switchCheck n a b)
    else .next (s.switchCheck n a b) :=
  (if_neg (by simp [hruns, hused])).trans rfl

/-- The feedback of an output that has one, once it is due (R499). -/
theorem execFeedbackTimeout_of_due {s : State} {n t : Nat} (hchanged : (s.grnOut n).changedAt = some t) (hruns : s.grn.halted = false) (hused : outUsed (s.outRec n) = true)
    (hfb : outFb (s.outRec n) ≠ 0xFF) (hdue : t + outFbMs (s.outRec n) * ms ≤ s.now) : exec (.feedbackTimeout n) s =
      let u := s.updOut n fun x => { x with changedAt := none }
      if (s.grnOut n).closed then
        if s.fbReleased n then .next (u.outputFault 14 n fun x => { x with feedback := true }) else .next u
      else if s.fbReleased n then .next u
      else .next (u.outputFault 13 n fun x => { x with weld := true }) := by
  have hawaited : ¬(s.grn.halted = true ∨ ¬outUsed (s.outRec n) = true ∨ outFb (s.outRec n) = 0xFF ∨ s.now < t + outFbMs (s.outRec n) * ms) := by
    simp only [hruns, hused, hfb, Bool.false_eq_true, not_true_eq_false, false_or]
    omega
  change execFeedbackTimeout n s = _
  simp only [execFeedbackTimeout, hchanged]
  exact if_neg hawaited

/-! ### Inputs and the clock check (R492, R513) -/

theorem GrnChan.sample_spec (c : GrnChan) (t hold : Nat) : (c.sample c.raw t hold).edges = c.edges ∧ (c.sample (!c.raw) t hold).raw = !c.raw ∧ (c.sample (!c.raw) t hold).since = t ∧
    (c.level ≠ c.raw → t < c.since + hold → (c.sample c.raw t hold).level = c.level) ∧ (c.level ≠ c.raw → c.since + hold ≤ t → (c.sample c.raw t hold).level = c.raw) := by
  have hsame : c.sample c.raw t hold = if c.level ≠ c.raw ∧ c.since + hold ≤ t then { c with level := c.raw } else c := by rw [GrnChan.sample, if_pos rfl]
  have hedge : ¬(!c.raw) = c.raw := by simp
  refine ⟨?_, ?_, ?_, fun hother hearly => ?_, fun hother hheld => ?_⟩
  · rw [hsame]
    split <;> rfl
  · rw [GrnChan.sample, if_neg hedge]
    dsimp only
    split <;> rfl
  · rw [GrnChan.sample, if_neg hedge]
    dsimp only
    split <;> rfl
  · rw [hsame, if_neg fun h => absurd h.2 (Nat.not_le.mpr hearly)]
  · rw [hsame, if_pos ⟨hother, hheld⟩]

theorem State.clockCheck_of_right {s : State} {r h : Nat} (hr : 24750 ≤ r ∧ r ≤ 25250) (hh : s.emitsCycles = false ∨ (49 ≤ h ∧ h ≤ 51)) :
    s.clockCheck r h = { s with grn := { s.grn with clockFails := 0 }, sys := { s.sys with safeCheck := true } } := by
  have hok : (decide (24750 ≤ r ∧ r ≤ 25250) && (!s.emitsCycles || decide (49 ≤ h ∧ h ≤ 51))) = true := by
    rw [decide_eq_true hr]
    obtain h | h := hh
    · simp [h]
    · simp [h]
  simp only [State.clockCheck, hok, if_true]
  exact if_neg (by decide)

theorem State.clockCheck_of_first {s : State} {r h : Nat} (hr : r < 24750 ∨ 25250 < r) (hfirst : s.grn.clockFails = 0) :
    s.clockCheck r h = { s with grn := { s.grn with clockFails := 1 }, sys := { s.sys with safeCheck := false } } := by
  have hok : (decide (24750 ≤ r ∧ r ≤ 25250) && (!s.emitsCycles || decide (49 ≤ h ∧ h ≤ 51))) = false := by
    rw [decide_eq_false (by omega), Bool.false_and]
  simp only [State.clockCheck, hok, hfirst]
  exact if_neg (by decide)

/-! ### Telegrams (R501, R503) -/

/-- The checks of a telegram that names one of Granite's connections, in their order. -/
theorem State.safetyIn_of_conn {s : State} {x : SafetySource} {b : List Byte} {r : Rec} (hruns : s.grn.halted = false) (hr : s.connFor x (fld b 0 2) = some r) :
    s.safetyIn x b =
      if ¬telegramOk (connKind r) (fld b 3 1) (fld b 2 1) ∨ b.length < 12 + fld b 2 1 then s.updConn (fld b 0 2) GrnConn.discard
      else if scrc (connIdentity r) (b.take (8 + fld b 2 1)) ≠ fld b (8 + fld b 2 1) 4 then s.crcError (fld b 0 2)
      else if fld b (6 + fld b 2 1) 2 ≠ connWdMs r then (s.updConn (fld b 0 2) GrnConn.discard).connFault (fld b 0 2)
      else if (match (s.grnConn (fld b 0 2)).seqIn with
        | none => true
        | some last => decide (1 ≤ (fld b (4 + fld b 2 1) 2 + 65536 - last) % 65536 ∧ (fld b (4 + fld b 2 1) 2 + 65536 - last) % 65536 ≤ 32)) = false then
        s.updConn (fld b 0 2) GrnConn.discard
      else ((s.connAccept (fld b 0 2) (fld b (4 + fld b 2 1) 2)).telegramIn (fld b 0 2) r (fld b 3 1) ((b.drop 4).take (fld b 2 1))).sendChanged := by
  simp only [State.safetyIn, hruns, hr, Bool.false_eq_true, if_false] <;> rfl

theorem State.safetyIn_of_none {s : State} {x : SafetySource} {b : List Byte} (h : s.connFor x (fld b 0 2) = none) : s.safetyIn x b = s := by
  simp only [State.safetyIn, h, ite_self]

theorem State.grnConn_connAccept (s : State) (n q : Nat) : ((s.connAccept n q).grnConn n).lastAt = some s.now ∧ ((s.connAccept n q).grnConn n).seqIn = some q ∧
    ((s.connAccept n q).grnConn n).state = if (s.grnConn n).state ≠ 2 ∧ 2 ≤ (s.grnConn n).run then 2 else (s.grnConn n).state := by
  rw [State.connAccept, State.grnConn_updConn]
  exact ⟨rfl, rfl, if_congr (by omega) rfl rfl⟩

/-- Settles O53: the branch of each event, the checks of a telegram in their order, and the lock-outs of an output. -/
theorem safetyEvents : Obligations.SafetyEvents := by
  unfold Obligations.SafetyEvents
  refine ⟨?_, ?_, ?_, ?_, fun c t hold => c.sample_spec t hold, ?_, fun s n hused hcause hopen => State.outputCycle_of_cause hused hcause hopen,
    fun s n hused htrip => State.closed_outputCycle_of_trip hused htrip, ?_, fun s n a b hclosed => State.switchCheck_of_closed hclosed a b, ?_, ?_, ?_, ?_, ?_, ?_, ?_, ?_, ?_,
    fun s n q => s.grnConn_connAccept n q, ?_, ?_⟩
  · exact fun s h => ⟨fun l r k => if_pos h, fun x l => congrArg _ (if_pos h), if_pos h, fun n a b => if_pos (.inl h), fun l => if_neg fun hl => hl.1 h⟩
  · rintro s t u l r h hruns rfl rfl
    exact if_neg (by simp [hruns])
  · intro s r h hr hh
    rw [State.clockCheck_of_right hr hh]
    exact ⟨rfl, rfl⟩
  · intro s r h hr hfirst
    rw [State.clockCheck_of_first hr hfirst]
    exact ⟨rfl, rfl⟩
  · intro s n t hdisc hruns hmode
    have hrow : exec (.inputDiscrepancy n) s = if s.grn.halted = false ∧ (inMode (s.inRec n) = 1 ∨ inMode (s.inRec n) = 2) ∧ t + inDiscMs (s.inRec n) * ms < s.now then
        .next (s.inputFault n) else .next s := by
      change execInputDiscrepancy n s = _
      rw [execInputDiscrepancy, hdisc]
    exact ⟨fun hdue => hrow.trans (if_pos ⟨hruns, hmode, hdue⟩), fun hearly => hrow.trans (if_neg fun h => absurd h.2.2 (Nat.not_lt.mpr hearly))⟩
  · intro s n a b hruns hused
    have hrow := execTestPulse_of_used hruns hused a b
    refine ⟨fun hopen ha => ?_, fun hopen ha => ?_, fun hclosed hearly => ?_, fun hclosed hdue => ?_⟩
    · rw [hrow, if_neg (by simp [hopen]), State.switchCheck_of_open hopen, if_pos ha]
    · rw [hrow, if_neg (by simp [hopen]), State.switchCheck_of_open hopen, if_neg (Nat.not_lt.mpr ha)]
    · rw [hrow, if_pos hclosed, if_pos hearly]
    · rw [hrow, if_pos hclosed, if_neg (Nat.not_lt.mpr hdue)]
  · intro s n t hchanged hruns hused hfb hdue hright
    rw [execFeedbackTimeout_of_due hchanged hruns hused hfb hdue]
    cases hclosed : (s.grnOut n).closed with
    | true => simp [hright.mp hclosed]
    | false =>
      have hreleased : s.fbReleased n = true := by
        cases h : s.fbReleased n with
        | true => rfl
        | false => exact absurd (hright.mpr h) (by simp [hclosed])
      simp [hreleased]
  · intro s n t hchanged hruns hused hfb hdue hopen hheld
    rw [execFeedbackTimeout_of_due hchanged hruns hused hfb hdue]
    simp [hopen, hheld]
  · intro s n
    obtain ⟨hclosed, hcause⟩ := s.grnOut_lockOutput 12 n
    refine ⟨fun h => if_pos h, hclosed, ?_⟩
    rw [hcause]
    split
    · decide
    · assumption
  · intro s n t r hlast hr hstate hruns
    have hrow : exec (.connectionWatchdogExpiry n) s = if (s.grnConn n).state = 2 ∧ t + connWdMs r * ms ≤ s.now ∧ ¬s.grn.halted then .next (s.connFault n) else .next s := by
      change execConnectionWatchdogExpiry n s = _
      rw [execConnectionWatchdogExpiry, hlast, hr]
    exact ⟨fun hdue => hrow.trans (if_pos ⟨hstate, hdue, by simp [hruns]⟩), fun hearly => hrow.trans (if_neg fun h => absurd h.2.1 (Nat.not_le.mpr hearly))⟩
  · exact fun s n hconn hstate hlast hdue hruns => if_pos ⟨hconn, hstate, hlast, hdue, by simp [hruns]⟩
  · intro s n r hr hdue
    change execStateTelegramDue n s = _
    rw [execStateTelegramDue, hr]
    exact if_pos hdue
  · exact fun s l hruns hpartner => if_pos ⟨by simp [hruns], hpartner⟩
  · rintro s x b n len r rfl rfl hruns hr
    have hrow : exec (.safetyTelegram x b) s = .next (s.safetyIn x b) := rfl
    have hin := State.safetyIn_of_conn hruns hr
    refine ⟨fun hbad => ?_, fun hform hlen => ?_⟩
    · rw [hrow, hin, if_pos (hbad.imp_left fun h => by simp [h])]
    · rw [if_neg (by simp [hform, hlen])] at hin
      refine ⟨fun hcrc => ?_, fun hcrc hwd => ?_, fun k hcrc hwd hlast => ⟨fun hseq => ?_, fun hlow hhigh => ?_⟩, fun hcrc hwd hfirst => ?_⟩
      · rw [hrow, hin, if_pos hcrc]
      · rw [hrow, hin, if_neg fun h => h hcrc, if_pos hwd]
      · rw [hrow, hin, if_neg fun h => h hcrc, if_neg fun h => h hwd, hlast]
        exact congrArg _ (if_pos (decide_eq_false (by omega)))
      · rw [hrow, hin, if_neg fun h => h hcrc, if_neg fun h => h hwd, hlast]
        exact congrArg _ (if_neg (by simp [hlow, hhigh]))
      · rw [hrow, hin, if_neg fun h => h hcrc, if_neg fun h => h hwd, hfirst]
        exact congrArg _ (if_neg (by simp))
  · intro s x b hnone
    exact congrArg _ (State.safetyIn_of_none hnone)
  · exact fun s => ⟨if_pos (.inr (.inr rfl)), fun h => if_pos (.inl h)⟩
  · exact fun s hruns => if_neg (by simp [hruns])

end Sys2Proof.Machine

namespace Sys2Proof.Machine

/-!
PROOF. The fault collector (chapter 19).
-/

@[simp] theorem State.reaction_start (s : State) (u : Nat) (r : SourceRow) : (s.start u).reaction r = s.reaction r := rfl
@[simp] theorem State.fltRecord_start (s : State) (u k : Nat) : (s.start u).fltRecord k = s.fltRecord k := rfl
@[simp] theorem State.clearRefused_start (s : State) (u k o : Nat) : (s.start u).clearRefused k o = s.clearRefused k o := rfl
@[simp] theorem State.clearTargets_start (s : State) (u k o : Nat) : (s.start u).clearTargets k o = s.clearTargets k o := rfl

/-! ### Holds (R527) -/

theorem holdOf_eq_none_iff {l : List Hold} {k o : Nat} : holdOf l k o = none ↔ ∀ h ∈ l, ¬(h.source = k ∧ h.object = o) := by
  simp [holdOf]

theorem holdOf_eq_some {l : List Hold} {k o : Nat} {h : Hold} (hh : holdOf l k o = some h) : h ∈ l ∧ h.source = k ∧ h.object = o := by
  have hfound := List.find?_some hh
  simp only [Bool.and_eq_true, beq_iff_eq] at hfound
  exact ⟨List.mem_of_find?_eq_some hh, hfound⟩

/-- A placed hold stands at least as strong as it is asked for, and every other hold as it stood. -/
theorem placeHold_spec (l : List Hold) (k o r : Nat) : (∃ h ∈ placeHold l k o r, h.source = k ∧ h.object = o ∧ r ≤ h.reaction) ∧
    (∀ h ∈ l, h.source ≠ k ∨ h.object ≠ o → h ∈ placeHold l k o r) ∧ ∀ h ∈ l, ∃ g ∈ placeHold l k o r, g.source = h.source ∧ g.object = h.object ∧ h.reaction ≤ g.reaction := by
  cases hhold : holdOf l k o with
  | none =>
    have hplace : placeHold l k o r = l ++ [⟨k, o, r⟩] := by rw [placeHold, hhold]
    rw [hplace]
    exact ⟨⟨_, List.mem_append_right _ List.mem_cons_self, rfl, rfl, le_rfl⟩, fun h hh _ => List.mem_append_left _ hh,
      fun h hh => ⟨h, List.mem_append_left _ hh, rfl, rfl, le_rfl⟩⟩
  | some g =>
    let stronger (h : Hold) : Hold := if h.source = k ∧ h.object = o then { h with reaction := max h.reaction r } else h
    have hplace : placeHold l k o r = l.map stronger := by rw [placeHold, hhold]
    obtain ⟨hmem, hsource, hobject⟩ := holdOf_eq_some hhold
    rw [hplace]
    refine ⟨⟨stronger g, List.mem_map_of_mem hmem, ?_⟩, fun h hh hother => ?_, fun h hh => ⟨stronger h, List.mem_map_of_mem hh, ?_⟩⟩
    · simp [stronger, hsource, hobject]
    · have hsame : stronger h = h := if_neg (by tauto)
      exact hsame ▸ List.mem_map_of_mem hh
    · simp only [stronger]
      split
      · exact ⟨rfl, rfl, Nat.le_max_left ..⟩
      · exact ⟨rfl, rfl, le_rfl⟩

/-! ### Reports (R522, R524) -/

theorem State.flt_noteDegraded (s : State) : s.noteDegraded.flt = { s.flt with degraded := s.isDegraded } := by
  simp only [State.noteDegraded]
  split
  · rename_i hsame
    rw [hsame]
  · rw [State.raise_flt]

theorem State.noteDegraded_eq (s : State) : s.noteDegraded = { s with flt := s.noteDegraded.flt, mbx := s.noteDegraded.mbx } := by
  simp only [State.noteDegraded]
  split
  · rfl
  · rw [State.raise_eq]

@[simp] theorem State.stopStage_flt (s : State) (o state cause st : Nat) : (s.stopStage o state cause st).flt = s.flt := by
  unfold State.stopStage
  dsimp only
  split
  · rw [State.endCmd_flt, State.updStage_flt]
    split <;> rfl
  · rw [State.updStage_flt]
    split <;> rfl

@[simp] theorem State.fenceCircuit_flt (s : State) (n : Nat) : (s.fenceCircuit n).flt = s.flt :=
  foldl_leaves State.flt (by exact fun _ _ => rfl) _ _

/-- What a reaction does to an object that is neither a loop nor a node leaves the collector. -/
theorem State.flt_applyHold {kind : Nat} (h : kind = 0 ∨ 3 ≤ kind) (t : State) (o r source : Nat) : (t.applyHold kind o r source).flt = t.flt := by
  have hnode : ¬(kind = 2 ∧ r = 1) := by omega
  rw [State.applyHold, if_neg hnode]
  unfold State.applyHold0
  by_cases hr : r = 0
  · rw [if_pos hr]
  · rw [if_neg hr]
    split
    · omega
    · omega
    · simp only [State.fenceStage]
      split
      · exact State.stopStage_flt ..
      · rfl
    · rfl
    · split
      · exact State.fenceCircuit_flt ..
      · rfl
    · split <;> rfl
    · rfl

/-- What a report leaves in the collector: the source's entry, the hold, and the trip request of a SAFE one. -/
theorem State.flt_report {s : State} {k : Nat} {r : SourceRow} (hrow : sourceRow k = some r) (hkind : r.kind = 0 ∨ 3 ≤ r.kind) (hreq : s.flt.request = false) (o : Nat) :
    ∃ ev trips d, (s.report k o).flt = { s.flt with
      src := s.flt.src.set k { s.flt.src.getD k {} with set := true, count := (s.flt.src.getD k {}).count + 1, lastObject := o, lastTime := s.sysTime, lastEvent := ev }
      last := some k
      holds := if s.reaction r = 0 ∨ r.kind = 0 then s.flt.holds else placeHold s.flt.holds k o (s.reaction r)
      tripReq := if s.reaction r = 3 then s.flt.tripReq ++ trips else s.flt.tripReq
      degraded := d } := by
  have htrip (p : Prop) [Decidable p] (t : State) (l : List Nat) :
      (if p then { t with flt := { t.flt with tripReq := t.flt.tripReq ++ l } } else t).flt = { t.flt with tripReq := if p then t.flt.tripReq ++ l else t.flt.tripReq } := by
    split <;> rfl
  have hplace (p : Prop) [Decidable p] (t : State) (l : List Hold) :
      (if p then t else { t with flt := { t.flt with holds := l } }).flt = { t.flt with holds := if p then t.flt.holds else l } := by
    split <;> rfl
  have hevent (p : Prop) [Decidable p] (t : State) : (if p then t.raise 0x12 0x0001 k else t).flt = t.flt := by
    split
    · exact t.raise_flt ..
    · rfl
  simp only [State.report, State.reportWith, hrow, hreq, Bool.false_eq_true, if_false]
  rw [State.flt_noteDegraded, htrip, State.flt_applyHold hkind, hplace, hevent]
  exact ⟨_, _, _, rfl⟩

/-- Settles O54: the branch of each command and event, what a report leaves in the collector, and that a hold is strengthened. -/
theorem faultCollector : Obligations.FaultCollector := by
  unfold Obligations.FaultCollector
  refine ⟨?_, ?_, ?_, ?_, ?_, ?_, ?_, placeHold_spec, ?_, ?_, ?_, ?_, ?_⟩
  · intro s q tag c
    refine ⟨?_, ?_, ?_, ?_, ?_, ?_, ?_, ?_, ?_⟩
    · exact fun hc hlow hlen hend => startCommand_eq_of_starts hc (if_neg (by omega))
    · intro r hc hr hv hallowed
      refine ⟨{ (s.start c.uid) with flt := { s.flt with reactions := s.flt.reactions.put (c.desc.u 32 2) (if c.desc.u 34 1 = r.dflt then none else some (c.desc.u 34 1)) } },
        startCommand_eq_of_starts hc ?_, ?_⟩
      · rw [fltReactSet, hr]
        exact if_neg (by simp [hallowed, hv])
      · refine ⟨fun hother => ?_, fun hdflt => ?_, fun k hk => ?_, rfl⟩
        · rw [if_neg hother]
          exact Tab.get?_set_self ..
        · rw [if_pos hdflt]
          rfl
        · split
          · exact Tab.get?_del_of_ne _ hk
          · exact Tab.get?_set_of_ne _ _ hk
    · intro r hc hr hbad
      refine startCommand_eq_of_starts hc ?_
      rw [fltReactSet, hr]
      exact if_pos (.inr hbad)
    · rintro r l t hc hr hrole hobj rfl rfl
      refine startCommand_eq_of_starts hc ?_
      have hmay : ¬((s.start c.uid).isStandby = true ∧ 2 ≤ c.desc.u 32 2 / 32 ∧ c.desc.u 32 2 / 32 ≤ 8) := by
        rintro ⟨hstandby, hlow, hhigh⟩
        obtain h | h := hrole
        · simp [h] at hstandby
        · omega
      rw [fltClear, if_neg hmay, hr]
      exact if_neg (by rintro ⟨hone, hrefused⟩; exact hobj.elim hone fun h => by simp [h] at hrefused)
    · intro r hc hr hactive hobj hrefused
      refine startCommand_eq_of_starts hc ?_
      rw [fltClear, if_neg (by simp [hactive]), hr]
      exact if_pos ⟨hobj, hrefused⟩
    · exact fun hc hstandby hlow hhigh => startCommand_eq_of_starts hc (if_pos ⟨hstandby, by omega, by omega⟩)
    · intro hc hrole hnone
      refine startCommand_eq_of_starts hc ?_
      have hmay : ¬((s.start c.uid).isStandby = true ∧ 2 ≤ c.desc.u 32 2 / 32 ∧ c.desc.u 32 2 / 32 ≤ 8) := by
        rintro ⟨hstandby, hlow, hhigh⟩
        obtain h | h := hrole
        · simp [h] at hstandby
        · omega
      rw [fltClear, if_neg hmay, hnone]
    · exact fun hc hlow hhigh => startCommand_eq_of_starts hc (if_neg (by omega))
    · exact fun hc hbad => startCommand_eq_of_starts hc (if_pos hbad)
  · intro s k o r hr hkind
    change execFaultReport k o s = _
    rw [execFaultReport, hr]
    exact if_neg hkind
  · intro s k o r hr hkind
    change execFaultReport k o s = _
    rw [execFaultReport, hr]
    exact if_pos hkind
  · intro s k o hreq
    simp only [State.report, State.reportWith, hreq, if_true]
    split <;> rfl
  · intro s k o hnone
    change execFaultReport k o s = _
    rw [execFaultReport, hnone]
  · intro s k o r hr hkind hreq hreact
    obtain ⟨ev, trips, d, hflt⟩ := State.flt_report hr (.inl hkind) hreq o
    rw [hflt]
    refine ⟨?_, ?_, ?_, rfl, if_pos (.inl hreact), if_neg (by omega), fun j hj => Tab.get?_set_of_ne _ _ hj⟩
    all_goals rw [Tab.getD_set_self]
  · intro s k o r hr hkind hreq hreact
    obtain ⟨ev, trips, d, hflt⟩ := State.flt_report hr (.inr hkind) hreq o
    rw [hflt]
    refine ⟨if_neg (by omega), ?_, rfl, fun hless => if_neg (by omega)⟩
    rw [Tab.getD_set_self]
  · intro s q t hfull hquiet hdue
    change execQueueStall q s = _
    rw [execQueueStall, hfull]
    exact if_pos ⟨hquiet, hdue⟩
  · intro s q hnone
    change execQueueStall q s = _
    rw [execQueueStall, hnone]
  · exact fun s a b hreq => if_neg (by simp [hreq])
  · exact fun s a b hparity hcopies => if_neg (by simp [hparity, hcopies])
  · intro s a b hreq hfails
    have hcheck : (parityFails a || copiesDiffer a b) = true ∧ s.flt.request = false := ⟨by simpa using hfails, hreq⟩
    let t : State := { s with flt := { s.flt with request := true, parity := s.flt.parity || parityFails a, mismatch := s.flt.mismatch || copiesDiffer a b } }
    let u := t.raise 0x12 0x0004 ((if parityFails a then 1 else 0) + (if copiesDiffer a b then 2 else 0))
    have hu : u.flt = t.flt := t.raise_flt ..
    have hheld : u.isDegraded = true := by rw [State.isDegraded, hu]; exact Bool.or_true _
    have hflt := u.flt_noteDegraded
    rw [hu, hheld] at hflt
    refine ⟨u.noteDegraded, if_pos hcheck, ?_⟩
    rw [hflt]
    refine ⟨rfl, rfl, rfl, rfl, rfl, ?_⟩
    rw [← hflt]
    exact u.noteDegraded_eq.trans (congrArg (fun v : State => { v with flt := u.noteDegraded.flt, mbx := u.noteDegraded.mbx }) (t.raise_eq ..))

end Sys2Proof.Machine

namespace Sys2Proof.Machine

/-!
PROOF. The redundant pair (chapter 20).
-/

/-! ### An image with memories of the images before it (R190, R548) -/

/-- An active module of a synchronised pair that keeps an image with one repetitive memory, of another site cycle's turn. -/
def keepsMemories : State :=
  { State.reset with pair := { State.reset.pair with link := true, role := ROLE_ACTIVE, sync := SYNC_SYNCHRONISED, imageCycle := none, image := some { reps := [(16, {})] } } }

/-- How many repetitive memories the image that a row leaves holds. -/
def memoriesKept : Host.Outcome State Fault Refusal → Option Nat
  | .next t => t.pair.image.map fun m => m.reps.length
  | _ => none

theorem memoriesKept_imageReceived : memoriesKept (exec (.imageReceived {}) keepsMemories) = some 1 := by decide

/-- Refutes O55: an image that arrives is not kept as it came, but merged with the memories of the images before it that are not in its turn (R190). -/
theorem not_pairRows : ¬ Obligations.PairRows := by
  unfold Obligations.PairRows
  rintro ⟨_, _, _, _, _, _, _, _, _, _, _, _, _, _, _, _, _, hkept, _⟩
  obtain ⟨t, hexec, _, _, himage, _⟩ := hkept keepsMemories {} (by decide) (by decide) (by decide) (by decide) (by decide)
  have hmemories := memoriesKept_imageReceived
  rw [hexec, memoriesKept, himage] at hmemories
  exact absurd hmemories (by decide)

/-! ### Giving up (R64, R545, R546) -/

/-- Whatever a command in flight was, none waits once control is given up. -/
theorem phase_giveUpCmd (n : Nat) (c : InFlight) : (giveUpCmd n c).phase ≠ .waiting := by
  rw [giveUpCmd]
  cases hphase : c.phase with
  | waiting => nofun
  | running =>
    dsimp only
    split
    · simp [hphase]
    · nofun
  | done =>
    dsimp only
    split
    · nofun
    · simp [hphase]

theorem giveUpCmd_of_waiting {c : InFlight} (h : c.phase = .waiting) (n : Nat) : (giveUpCmd n c).phase = .done ∧ (giveUpCmd n c).status = ST_NOT_ACTIVE := by
  rw [giveUpCmd, h]
  exact ⟨rfl, rfl⟩

theorem giveUpCmd_of_running {c : InFlight} (h : c.phase = .running) (n : Nat) : (c.desc.opcode = 0x1301 ∨ c.desc.opcode ∈ readOnlyOps → giveUpCmd n c = c) ∧
    (c.desc.opcode ≠ 0x1301 → c.desc.opcode ∉ readOnlyOps → (giveUpCmd n c).phase = .done ∧ (giveUpCmd n c).status = ST_ABORTED) := by
  rw [giveUpCmd, h]
  refine ⟨fun hkept => if_pos (by simpa using hkept), fun hone hwrites => ?_⟩
  dsimp only
  rw [if_neg (by simp [hone, hwrites])]
  exact ⟨rfl, rfl⟩

/-- A delivered event ends a command that ran, and starts none. -/
theorem State.noWaiting_raise {s : State} (h : ∀ c ∈ s.mbx.inflight, c.phase ≠ .waiting) (area code object : Nat) :
    ∀ c ∈ (s.raise area code object).mbx.inflight, c.phase ≠ .waiting := by
  refine State.raise_induct (P := fun t => ∀ c ∈ t.mbx.inflight, c.phase ≠ .waiting) (fun t k e ht c hc => ?_) h area code object
  obtain hold | ⟨d, _, hdone, _⟩ := mem_deliverTo hc
  · exact ht c hold
  · simp [hdone]

theorem State.giveUp_of_active {s : State} (h : s.pair.role = ROLE_ACTIVE) (r : Nat) : (s.giveUp r).pair.role = ROLE_RELEASING ∧
    (s.giveUp r).pair.roleAfter = (if r ≤ 4 then ROLE_OUT else ROLE_STANDBY) ∧ ∀ c ∈ (s.giveUp r).mbx.inflight, c.phase ≠ .waiting := by
  let t := if r ≤ 4 then { s with pair := { s.pair with outCause := r } } else s
  have ht : t.pair.role = ROLE_ACTIVE := by
    simp only [t]
    split <;> exact h
  have hgive : s.giveUp r = (t.beginRelease r).raise 0x13 0x0005 r := if_pos ht
  rw [hgive]
  refine ⟨by rw [State.raise_pair]; rfl, by rw [State.raise_pair]; rfl, State.noWaiting_raise (fun c hc => ?_) 0x13 0x0005 r⟩
  obtain ⟨d, _, rfl⟩ := List.mem_map.mp hc
  exact phase_giveUpCmd _ d

theorem State.giveUp_of_standby {s : State} {r : Nat} (h : s.pair.role = ROLE_STANDBY) (hr : r ≤ 4) : (s.giveUp r).pair.role = ROLE_OUT := by
  have hactive : ¬s.pair.role = ROLE_ACTIVE := by simp [h, ROLE_STANDBY, ROLE_ACTIVE]
  have hreleasing : ¬(s.pair.role = ROLE_RELEASING ∧ r ≤ 4) := by simp [h, ROLE_STANDBY, ROLE_RELEASING]
  simp only [State.giveUp, if_pos hr]
  rw [if_neg hactive, if_neg hreleasing, if_pos ⟨h, hr⟩]

/-! ### Heal (R555) -/

/-- Who keeps control, in the order of R555. -/
theorem State.keeps_spec (s : State) (p : PartnerStatus) : (s.holdsAnchor = true → s.keeps p = true) ∧ (s.holdsAnchor = false → p.anchor = true → s.keeps p = false) ∧
    (s.holdsAnchor = false → p.anchor = false → s.lvH ≠ p.heldShare → (s.keeps p = true ↔ p.heldShare < s.lvH)) ∧
    (s.holdsAnchor = false → p.anchor = false → s.lvH = p.heldShare → (s.keeps p = true ↔ s.pn PAR_PAIR_POSITION = 0)) := by
  refine ⟨fun h => if_pos h, fun h hp => ?_, fun h hp hne => ?_, fun h hp heq => ?_⟩
  · simp [State.keeps, h, hp]
  · simp [State.keeps, h, hp, hne]
  · simp [State.keeps, h, hp, heq]

/-- A heal that begins: the keeping module waits for the release of the other. -/
theorem execHeal_of_seen {s : State} {p : PartnerStatus} (hseen : s.partnerSeen = some p) (hactive : s.isActive = true) (hrole : p.role = ROLE_ACTIVE) (hpaired : s.isPaired = true)
    (hsync : p.synchronised = true) (hown : s.pair.healSeen = true) (hother : p.healSeen = true) (hfirst : s.pair.healing = false) :
    exec .heal s = if s.keeps p then .next (s.updPair fun x => { x with healing := true }) else .next ((s.beginFinal 8).updPair fun x => { x with healSeen := false }) := by
  change execHeal s = _
  rw [execHeal, hseen]
  exact if_pos ⟨hactive, hrole, hpaired, hsync, hown, hother, hfirst⟩

/-! ### Lockstep (R559) -/

/-- What INPUTS gathers begins again with each window that ends. -/
theorem State.sendInputs_spec {s : State} (hforwards : s.forwards = true) : s.sendInputs.bas.fwdFrames = [] ∧ s.sendInputs.bas.fwdMissed = [] ∧ s.sendInputs.bas.fwdSent = [] ∧
    s.sendInputs.bas.fwdSite = s.bas.site ∧ s.sendInputs.lv.fwdEvents = [] ∧ s.sendInputs.cool.fwdSamples = [] ∧ s.sendInputs.plc.fwdPolls = [] ∧ s.sendInputs.pair.fwdOpen = true ∧
    (s.pair.fwdOpen = true → s.sendInputs.out = Emit.pairInputs s.ring.window (s.lockDigest s.bas.fwdSent) :: s.out ∧ s.sendInputs.pair.lastInputs = some s.gathered) ∧
    (s.pair.fwdOpen = false → s.sendInputs.out = s.out) := by
  rw [State.sendInputs, if_pos hforwards]
  cases hopen : s.pair.fwdOpen with
  | true => exact ⟨rfl, rfl, rfl, rfl, rfl, rfl, rfl, rfl, fun _ => ⟨rfl, rfl⟩, nofun⟩
  | false => exact ⟨rfl, rfl, rfl, rfl, rfl, rfl, rfl, rfl, nofun, fun _ => rfl⟩

/-- A standby's own run of a window changes its engines alone. -/
theorem State.lockstep_eq (s : State) (x : LockInputs) : ∃ bas lv cool fresh, s.lockstep x = { s with bas := bas, lv := lv, cool := cool, fresh := fresh } := by
  rw [State.lockstep]
  exact ⟨_, _, _, _, rfl⟩

/-- Settles O56: the branch of each event, the commands that a release ends, and what a window's INPUTS take. -/
theorem controlPasses : Obligations.ControlPasses := by
  unfold Obligations.ControlPasses
  refine ⟨?_, fun s r h => if_neg (by simp [h]), fun s r h => State.giveUp_of_active h r, fun s r h hr => State.giveUp_of_standby h hr, fun c n h => giveUpCmd_of_waiting h n,
    fun c n h => giveUpCmd_of_running h n, ?_, ?_, fun s e k h => if_pos h, ?_, ?_, ?_, ?_, fun s p => s.keeps_spec p, ?_, ?_, ?_, ?_⟩
  · exact fun s r hgives hcause hout hreleasing hrow => (if_pos ⟨hgives, hcause, hout, hreleasing⟩).trans (congrArg _ (if_neg hrow))
  · intro s t hscan hdue hwaits
    change execStartWaitExpiry s = _
    rw [execStartWaitExpiry, hscan]
    exact if_pos ⟨hdue, hwaits⟩
  · intro s t hscan hearly
    change execStartWaitExpiry s = _
    rw [execStartWaitExpiry, hscan]
    exact if_neg fun h => absurd h.1 (Nat.not_le.mpr hearly)
  · rintro s t e k hlink rfl hheal hrole
    exact (if_neg (by simp [hlink])).trans ((if_neg fun h => by simp [hheal] at h).trans (if_pos hrole))
  · rintro s t e k hlink rfl hheal hactive
    exact (if_neg (by simp [hlink])).trans (if_pos ⟨hheal, hactive⟩)
  · intro s hnone
    change execHeal s = _
    rw [execHeal, hnone]
  · intro s p hseen hactive hrole hpaired hsync hown hother hfirst
    have hrow := execHeal_of_seen hseen hactive hrole hpaired hsync hown hother hfirst
    exact ⟨fun hkeeps => hrow.trans (if_pos hkeeps), fun hyields => hrow.trans (if_neg (by simp [hyields]))⟩
  · refine fun s x h => if_neg fun ⟨hrole, hlock, hown⟩ => ?_
    obtain h | h | h := h
    · exact h hrole
    · simp [h] at hlock
    · simp [h] at hown
  · intro s x hrole hlock hown
    have hruns : s.pair.role = ROLE_STANDBY ∧ s.pair.lockstep = true ∧ s.pair.ownEngines = true := ⟨hrole, hlock, hown⟩
    have hrow : exec (.lockstepInputs x) s = if x.digest = s.ownDigest x then .next (s.lockstep x)
        else .next ((((s.lockstep x).setSync SYNC_SYNCING).updPair fun y => { y with diverged := y.diverged + 1, ownEngines := false, image := none, imageAt := none }).raise
          0x13 0x0009 x.window) := if_pos hruns
    refine ⟨fun hsame => hrow.trans (if_pos hsame), fun hother => hrow.trans (if_neg hother), ?_⟩
    obtain ⟨bas, lv, cool, fresh, hrun⟩ := s.lockstep_eq x
    rw [hrun]
    exact ⟨rfl, rfl, rfl, rfl⟩
  · exact fun s hactive hlock => ⟨_, rfl, State.sendInputs_spec (by simp [State.forwards, hactive, hlock])⟩
  · intro s n w ws hactive hlock
    have hforwards : s.forwards = true := by simp [State.forwards, hactive, hlock]
    simp only [State.noteFrame, if_pos hforwards]
    exact ⟨trivial, trivial⟩

end Sys2Proof.Machine

namespace Sys2Proof.Machine

/-!
PROOF. Supply, clocks, resets, start-up and firmware (chapter 21).
-/

@[simp] theorem State.fw_start (s : State) (u n : Nat) : (s.start u).fw n = s.fw n := rfl
@[simp] theorem State.fwOther_start (s : State) (u : Nat) : (s.start u).fwOther = s.fwOther := rfl
@[simp] theorem State.copyFits_start (s : State) (u : Nat) (x : FwSlot) (k : Nat) : (s.start u).copyFits x k = s.copyFits x k := rfl

/-! ### Firmware (R586 to R588) -/

/-- A load that the active slot's trial, an offset or a length does not refuse (R586). -/
theorem sysFwLoad_of_fits {s : State} {c : InFlight} {b : List Byte} (hidle : s.sys.activate = none)
    (htrial : ∀ n, s.sys.fwActive = some n → (s.fw n).state ≠ 0x7F ∧ (s.fw n).state ≠ 0x3F) (hb : b = (if c.desc.u 32 4 = 0 then [] else (s.fw s.fwOther).bytes) ++ c.desc.data)
    (hoff : c.desc.u 32 4 + c.desc.data.length = b.length) (hopen : c.desc.u 32 4 = 0 ∨ (s.fw s.fwOther).verified = false) (hlen : b.length ≤ 192 * 1048576)
    (hlast : c.desc.u 36 1 ≤ 1) :
    sysFwLoad c s = if c.desc.u 36 1 = 0 then (s.setFw s.fwOther { bytes := b }).endCmd c.uid ST_OK [] [] c.desc.data.length 0
      else if s.bundleStatus b = ST_OK then (s.setFw s.fwOther (fwSlotOf b)).endCmd c.uid ST_OK [] [] c.desc.data.length 0
      else (s.setFw s.fwOther {}).fail c.uid (s.bundleStatus b) := by
  subst hb
  have hnotrial : (match s.sys.fwActive with
      | some a => (s.fw a).state == 0x7F || (s.fw a).state == 0x3F
      | none => false) = false := by
    cases hactive : s.sys.fwActive with
    | none => rfl
    | some n => simp [htrial n hactive]
  have hgoes : ¬((match s.sys.fwActive with
      | some a => (s.fw a).state == 0x7F || (s.fw a).state == 0x3F
      | none => false) || s.sys.activate.isSome) = true := by simp [hnotrial, hidle]
  have hfits : ¬(c.desc.u 32 4 ≠ (if c.desc.u 32 4 = 0 then [] else (s.fw s.fwOther).bytes).length ∨ (c.desc.u 32 4 ≠ 0 ∧ (s.fw s.fwOther).verified = true) ∨
      192 * 1048576 < ((if c.desc.u 32 4 = 0 then [] else (s.fw s.fwOther).bytes) ++ c.desc.data).length ∨ 1 < c.desc.u 36 1) := by
    rintro (h | ⟨h, hverified⟩ | h | h)
    · rw [List.length_append] at hoff
      omega
    · exact hopen.elim h fun hnot => by simp [hnot] at hverified
    · omega
    · omega
  exact (if_neg hgoes).trans ((if_neg hfits).trans rfl)

theorem State.bundleStatus_of_form {s : State} {b : List Byte} (hform : bundleForm b = true) : s.bundleStatus b =
    if bundleAuthentic b = false then ST_AUTH_FAIL else if fwbSec b < s.sys.fuse then ST_LOCKED else ST_OK := if_neg (by simp [hform])

/-- An activation of a bundle that is verified and named right: the island copies decide (R587). -/
theorem sysFwActivate_of_named {s : State} {c : InFlight} (hidle : s.sys.activate = none) (hverified : (s.fw s.fwOther).verified = true) (hstate : (s.fw s.fwOther).state = 0xFF)
    (hversion : (s.fw s.fwOther).version = c.desc.u 32 4) :
    sysFwActivate c s = if s.copyFits (s.fw s.fwOther) 3 = false ∧ s.sealOpen = false then s.fail c.uid ST_LOCKED
      else if s.copyFits (s.fw s.fwOther) 2 = false then s.updSys fun y => { y with activate := some (c.uid, true, s.now + 60 * sec) }
      else s.fwAsk c.uid := by
  have hfree : ¬s.sys.activate.isSome = true := by simp [hidle]
  have hnamed : ¬((s.fw s.fwOther).verified = false ∨ (s.fw s.fwOther).state ≠ 0xFF ∨ (s.fw s.fwOther).version ≠ c.desc.u 32 4) := by simp [hverified, hstate, hversion]
  exact (if_neg hfree).trans (if_neg hnamed)

/-! ### Resets (R575, R576) -/

/-- A module that gives up its lease for a reset keeps the reset that is due. -/
theorem State.resetDue_releaseForReset (s : State) : s.releaseForReset.sys.resetDue = s.sys.resetDue := by
  unfold State.releaseForReset
  split
  · rfl
  · split
    · simp only [State.dropFinal]
      split <;> rfl
    · rfl

theorem State.resetAt_of_none {s : State} (h : s.sys.resetDue = none) (kind cause at' : Nat) :
    s.resetAt kind cause at' = s.updSys fun x => { x with resetDue := some (kind, cause, at') } := by
  simp only [State.resetAt, h]
  rfl

theorem State.resetAt_of_earlier {s : State} {k t : Nat} (h : s.sys.resetDue = some (0, k, t)) (kind cause : Nat) {at' : Nat} (hle : t ≤ at') : s.resetAt kind cause at' = s := by
  simp [State.resetAt, h, hle]

/-- What a reset cuts off lies in the slots (R575). -/
theorem State.cutStore_grn (s : State) : s.cutStore.grn = s.grn := by
  have hset (t : State) (n : Nat) (x : Slot) : (t.setSlot n x).grn = t.grn := by
    unfold State.setSlot
    split <;> rfl
  unfold State.cutStore
  split
  · rfl
  · dsimp only
    split_ifs
    · exact hset ..
    · rfl
    · exact hset ..
    · exact hset ..
    · exact hset ..
    · rfl

/-- What Granite's NVM holds through a power-on start (R511). -/
theorem State.clearCold_grn (s : State) : s.clearCold.grn.locks = s.grn.locks ∧ s.clearCold.grn.image = s.grn.image := by
  have hgrn : s.clearCold.grn = { image := s.cutStore.grn.image, locks := s.cutStore.grn.locks, outputs := s.cutStore.grn.outputs.mapV fun _ o => { cause := o.cause } } := rfl
  rw [hgrn, s.cutStore_grn]
  exact ⟨rfl, rfl⟩

/-! ### Supply and phases (R569 to R571, R577) -/

theorem phaseOf_zero : phaseOf 0 = 1 := by decide

/-- A domain whose holdup is over (R571). -/
theorem execHoldupEnd_of_over {s : State} {d : Nat} (hwarned : s.sys.pfw = true) (hd : d ≤ 3) (hpowered : s.sys.powered.getLsbD d = true)
    (hover : s.sys.pfwAt + (if d = 3 then 40 * ms else 10 * ms) ≤ s.now) : exec (.holdupEnd d) s =
    .next ((if d = 0 then s.appOff else if d = 1 then s.graniteOff else if d = 2 then s.obsidianOff else s.jasperOff).updSys fun x =>
      { x with powered := x.powered &&& ~~~ (1#4 <<< d), ended := 0, phase := 1, ready := false, resetDue := none }) := by
  have hends : ¬(s.sys.pfw = false ∨ 3 < d ∨ s.sys.powered.getLsbD d = false ∨ s.now < s.sys.pfwAt + (if d = 3 then 40 * ms else 10 * ms)) := by
    rintro (h | h | h | h)
    · simp [hwarned] at h
    · omega
    · simp [hpowered] at h
    · omega
  refine (if_neg hends).trans ?_
  obtain rfl | rfl | rfl | rfl : d = 0 ∨ d = 1 ∨ d = 2 ∨ d = 3 := by omega
  · rfl
  · rfl
  · rfl
  · rfl

/-- A phase that may end, of a supplied module (R577, R578). -/
theorem execStartupPhaseDone_of_free {s : State} {p : PhaseEnd} (hpg : s.sys.pg = true) (hpfw : s.sys.pfw = false) (hopen : s.sys.ended.getLsbD p.num = false)
    (hfree : s.phaseFree p.num = true) (hboot : p.num = 6 → s.bootWaits = false) (hlease : p.num = 8 → s.leaseSettled = true) : exec (.startupPhaseDone p) s =
      .next ((if p.num = 4 then s.loader else (s.phaseEffect p).updSys fun x => { x with ended := x.ended ||| (1#10 <<< p.num) }).updSys fun x =>
        { x with phase := phaseOf x.ended }) := by
  refine if_neg ?_
  rintro (h | h | h | h | ⟨hn, h⟩ | ⟨hn, h⟩)
  · simp [hpg] at h
  · simp [hpfw] at h
  · simp [hopen] at h
  · simp [hfree] at h
  · simp [hboot hn] at h
  · simp [hlease hn] at h

/-! ### Output pins (R596, R597) -/

/-- A pin that sinks current while its field stands, on a supplied module. -/
theorem State.j1Pin_of_up {s : State} (hpowered : s.sys.powered = 0xF) (hpg : s.sys.pg = true) :
    s.j1Pin 77 = (if s.sys.ready then .low else .off) ∧ s.j1Pin 78 = (if s.isActive then .low else .off) ∧ s.j1Pin 79 = (if s.isDegraded then .low else .off) ∧
      s.j1Pin 80 = (if s.obs.lifecycle == 4 || s.grn.safeState || s.sys.recovery then .low else .off) ∧ s.j1Pin 59 = (if s.sys.pfw then .low else .high) ∧
      s.j1Pin 58 = .high ∧ s.j1Pin 56 = if s.pins.ppsOut then .high else .low := by
  have hup : s.sys.powered.getLsbD 0 = true := by rw [hpowered]; rfl
  simp only [State.j1Pin, hup, hpg, Bool.true_or, Bool.and_true, if_true, and_true]

theorem ite_low_off_iff {b : Bool} : (if b = true then PinLevel.low else .off) = .low ↔ b = true := by cases b <;> decide
theorem ite_low_high_iff {b : Bool} : (if b = true then PinLevel.low else .high) = .low ↔ b = true := by cases b <;> decide
theorem ite_high_low_iff {b : Bool} : (if b = true then PinLevel.high else .low) = .high ↔ b = true := by cases b <;> decide

/-- Settles O57: each command and event runs one branch of its meaning. -/
theorem systemRows : Obligations.SystemRows := by
  unfold Obligations.SystemRows
  refine ⟨?_, ?_, ?_, ?_, ?_, ?_, ?_, ?_, ?_, fun s d hw hd hp ho => execHoldupEnd_of_over hw hd hp ho, ?_, ?_, ?_, ?_, ?_, ?_, ?_, ?_, ?_, ?_, ?_, ?_, ?_, ?_, ?_, ?_, fun s b => ?_⟩
  · intro s q tag c
    refine ⟨?_, ?_, ?_, ?_, ?_, ?_, ?_, ?_, ?_⟩
    · intro hc hkind hforce
      have hvalid : ¬(1 < c.desc.u 32 1 ∨ 1 < c.desc.u 33 1) := by omega
      refine ⟨fun hmay => startCommand_eq_of_starts hc ((if_neg hvalid).trans (if_neg ?_)), fun hactive hpaired hplain => startCommand_eq_of_starts hc ((if_neg hvalid).trans (if_pos ⟨hactive, hpaired, hplain⟩))⟩
      rintro ⟨hactive, hpaired, hplain⟩
      obtain h | h | h := hmay
      · simp [h] at hactive
      · simp [h] at hpaired
      · omega
    · exact fun hc hbad => startCommand_eq_of_starts hc (if_pos hbad)
    · intro n hc hactive htrial
      refine startCommand_eq_of_starts hc ?_
      simp only [sysFwLoad, State.start_sys, State.fw_start, hactive]
      exact if_pos (by obtain h | h := htrial <;> simp [h])
    · intro b hc hidle htrial hb hoff hopen hlen
      have hload (hlast : c.desc.u 36 1 ≤ 1) := sysFwLoad_of_fits (s := s.start c.uid) hidle htrial hb hoff hopen hlen hlast
      refine ⟨fun hmore => ?_, fun hlast hform hauth hsec => ?_, fun hlast hform hauth hsec => ?_, fun hlast hform hauth => ?_⟩
      · exact startCommand_eq_of_starts hc ((hload (by omega)).trans (if_pos hmore))
      · have hstatus : (s.start c.uid).bundleStatus b = ST_OK :=
          (State.bundleStatus_of_form hform).trans ((if_neg (by simp [hauth])).trans (if_neg (Nat.not_lt.mpr hsec)))
        exact startCommand_eq_of_starts hc ((hload (by omega)).trans ((if_neg (by omega)).trans (if_pos hstatus)))
      · have hstatus : (s.start c.uid).bundleStatus b = ST_LOCKED := (State.bundleStatus_of_form hform).trans ((if_neg (by simp [hauth])).trans (if_pos hsec))
        rw [hstatus] at hload
        exact startCommand_eq_of_starts hc ((hload (by omega)).trans ((if_neg (by omega)).trans (if_neg (by decide))))
      · have hstatus : (s.start c.uid).bundleStatus b = ST_AUTH_FAIL := (State.bundleStatus_of_form hform).trans (if_pos hauth)
        rw [hstatus] at hload
        exact startCommand_eq_of_starts hc ((hload (by omega)).trans ((if_neg (by omega)).trans (if_neg (by decide))))
    · intro hc hidle hverified hstate hversion
      have hactivate := sysFwActivate_of_named (s := s.start c.uid) hidle hverified hstate hversion
      refine ⟨fun hjasper hsealed => startCommand_eq_of_starts hc (hactivate.trans (if_pos ⟨hjasper, hsealed⟩)), fun hmay => ?_⟩
      have hgoes : ¬((s.start c.uid).copyFits (s.fw s.fwOther) 3 = false ∧ (s.start c.uid).sealOpen = false) := by
        rintro ⟨hjasper, hsealed⟩
        exact hmay.elim (fun h => by simp [h] at hjasper) fun h => by simp [h] at hsealed
      exact ⟨fun hgranite => startCommand_eq_of_starts hc (hactivate.trans ((if_neg hgoes).trans (if_pos hgranite))),
        fun hgranite => startCommand_eq_of_starts hc (hactivate.trans ((if_neg hgoes).trans (if_neg (by simp [hgranite]))))⟩
    · intro hc hidle hbad
      refine startCommand_eq_of_starts hc ((if_neg (by simp [hidle])).trans (if_pos ?_))
      exact hbad.imp_right .inr
    · intro n hc hactive htrial
      refine startCommand_eq_of_starts hc ?_
      simp only [sysFwCommit, State.start_sys, State.fw_start, hactive]
      exact congrArg (fun t : State => t.endCmd c.uid ST_OK [] [] 0 0) (if_pos htrial)
    · intro hc hnone
      refine startCommand_eq_of_starts hc ?_
      simp only [sysFwCommit, State.start_sys, hnone]
    · intro hc
      exact ⟨_, startCommand_eq_of_starts hc rfl, by simp [byteAt, pack, leBytes], by simp [byteAt, pack, leBytes], by simp [byteAt, pack, leBytes], by simp [byteAt, pack, leBytes],
        by simp [byteAt, pack, leBytes]⟩
  · intro s u t hactivate hdue
    change execFwActivatePulseTimeout s = _
    rw [execFwActivatePulseTimeout, hactivate]
    exact if_pos hdue
  · refine fun s v h => if_neg fun ⟨hpg, _, hv⟩ => ?_
    obtain h | h := h
    · simp [h] at hpg
    · omega
  · intro s v hpg hpfw hv
    obtain ⟨hlocks, himage⟩ := s.clearCold_grn
    exact ⟨_, if_pos ⟨hpg, hpfw, hv⟩, rfl, rfl, rfl, rfl, phaseOf_zero, rfl, rfl, rfl, hlocks, himage, rfl, rfl, rfl, rfl⟩
  · refine fun s v h => if_neg fun ⟨hpg, hpfw, hv⟩ => ?_
    obtain h | h | h := h
    · simp [h] at hpg
    · simp [h] at hpfw
    · omega
  · intro s v hpg hpfw hv hop
    refine (if_pos ⟨hpg, hpfw, hv⟩).trans (congrArg _ ?_)
    simp only [State.updSys, hop]
  · rintro s u v op hpg hpfw hv hop hkind rfl
    refine (if_pos ⟨hpg, hpfw, hv⟩).trans (congrArg _ ?_)
    simp only [State.updSys, hop, if_pos hkind]
  · refine fun s d h => if_pos ?_
    obtain h | h | h | ⟨rfl, h⟩ := h
    · exact .inl h
    · exact .inr (.inl h)
    · refine .inr (.inr (.inr ?_))
      split
      · simp only [ms] at h ⊢
        omega
      · exact h
    · exact .inr (.inr (.inr h))
  · intro s hwarned hpowered hover
    refine ⟨_, execHoldupEnd_of_over hwarned (by decide) (by rw [hpowered]; rfl) hover, ?_, rfl, fun e he => ?_, rfl⟩
    · change s.sys.powered &&& ~~~(1#4 <<< 1) = 0xD
      rw [hpowered]
      rfl
    · obtain ⟨x, _, rfl⟩ := List.mem_map.mp he
      rfl
  · refine fun s n h => if_neg fun ⟨hn, hpowered⟩ => ?_
    obtain h | h := h
    · omega
    · exact hpowered h
  · intro s n hn hpowered hnone
    refine (if_pos ⟨hn, hpowered⟩).trans (congrArg _ ?_)
    exact State.resetAt_of_none (s.resetDue_releaseForReset.trans hnone) ..
  · intro s n k t hn hpowered hdue hle
    refine (if_pos ⟨hn, hpowered⟩).trans (congrArg _ ?_)
    exact State.resetAt_of_earlier (s.resetDue_releaseForReset.trans hdue) _ _ hle
  · intro s k t hdue
    have hrow : exec .coldResetEffect s = if t ≤ s.now then .next (s.coldReset k) else .next s := by
      change execColdResetEffect s = _
      simp only [execColdResetEffect, hdue]
    exact ⟨fun hnow => hrow.trans (if_pos hnow), fun hearly => hrow.trans (if_neg (Nat.not_le.mpr hearly))⟩
  · intro s k t hdue hnow hpassive hrole
    change execColdResetEffect s = _
    simp only [execColdResetEffect, State.appResetDue, hdue]
    refine congrArg _ ?_
    exact (if_pos hnow).trans (if_neg (by simp [hpassive, hrole]))
  · exact fun s hlate hruns hnone => if_pos ⟨hlate, hruns, hnone⟩
  · exact fun s hserved => if_neg fun h => absurd h.1 (Nat.not_le.mpr hserved)
  · exact fun s n h => if_pos h
  · intro s hlocked hnone
    refine (if_neg (by simp [hlocked])).trans ((if_neg (by decide)).trans ((if_pos rfl).trans ?_))
    rw [hnone]
  · rintro s u n hn hring hlocked rfl
    refine (if_neg (by simp [hlocked, hn])).trans ?_
    by_cases hmet : n = 3
    · exact (if_pos hmet).trans (congrArg _ (if_pos hmet).symm)
    · exact (if_neg hmet).trans ((if_neg hring).trans (congrArg _ (if_neg hmet).symm))
  · exact fun s e hlocked => if_pos hlocked
  · intro s e hlocked hready hstopped
    exact (if_neg (ne_true_of_eq_false hlocked)).trans (congrArg _ (if_pos (by simp [State.updSys, hready, hstopped])))
  · refine fun s p h => if_pos ?_
    obtain h | h | h | h := h
    · exact .inl h
    · exact .inr (.inl h)
    · exact .inr (.inr (.inl h))
    · exact .inr (.inr (.inr (.inl h)))
  · intro s p hpg hpfw hopen hfree
    refine ⟨fun hp hboot hlease => ?_, fun hp => ?_⟩
    · exact (execStartupPhaseDone_of_free hpg hpfw hopen hfree hboot hlease).trans (by rw [if_neg hp])
    · exact (execStartupPhaseDone_of_free hpg hpfw hopen hfree (by omega) (by omega)).trans (by rw [if_pos hp])
  · intro s hpg hpfw hlease hopen
    exact execStartupPhaseDone_of_free (p := .ready) hpg hpfw hopen hlease nofun nofun
  · intro s hpowered hpg
    obtain ⟨h77, h78, h79, h80, h59, h58, h56⟩ := State.j1Pin_of_up hpowered hpg
    rw [h77, h78, h79, h80, h59, h58, h56]
    refine ⟨ite_low_off_iff, ite_low_off_iff, ite_low_off_iff, ite_low_off_iff.trans ?_, ite_low_high_iff, rfl, ite_high_low_iff⟩
    simp [or_assoc]
  · change execPpsSecond b s = _
    rw [execPpsSecond]
    split <;> rfl

end Sys2Proof.Machine
